-- ==== Sys2Proof/Word.lean ====
section
/-!
DEFINITION. Plain arithmetic of the manual's numbers: two's complement fields, words of 8 ticks (R7), 64-bit device
time, the split of a wide value into 32-bit dwords (R14, R18) and divisions rounded as a rule says.
-/
namespace Sys2Proof

/-- Ticks of D_cut (R8). -/
def dCut : Nat := 512

/-- The modulus of device time. -/
def tickMod : Nat := 2 ^ 64

/-- The signed value of a `w`-bit field. -/
def sx (w v : Nat) : Int := if 2 * (v % 2 ^ w) < 2 ^ w then (v % 2 ^ w : Nat) else (v % 2 ^ w : Nat) - (2 ^ w : Nat)

/-- The `w`-bit field that holds a signed value (two's complement, wrapping). -/
def ux (w : Nat) (v : Int) : Nat := (v % (2 ^ w : Nat)).toNat

/-- The first word boundary at or after a tick (R7). -/
def wordUp (t : Nat) : Nat := (t + 7) / 8 * 8

/-- The first word boundary after a tick. -/
def wordNext (t : Nat) : Nat := (t / 8 + 1) * 8

/-- The low 32 bits of a value. -/
def lo32 (v : Nat) : Nat := v % 2 ^ 32

/-- Bits 63:32 of a value. -/
def hi32 (v : Nat) : Nat := v / 2 ^ 32 % 2 ^ 32

/-- Bits `[lo + w - 1 : lo]` of a value. -/
def bitsOf (v lo w : Nat) : Nat := v / 2 ^ lo % 2 ^ w

/-- A signed value clamped to a range. -/
def clampInt (lo hi v : Int) : Int := if v < lo then lo else if hi < v then hi else v

/-- The distance from `a` forward to `b` in device time. -/
def tickAfter (a b : Nat) : Nat := (b + tickMod - a % tickMod) % tickMod

/-- Signed division by 2^k, rounded to the nearest integer, halves towards plus infinity. -/
def roundShift (v : Int) (k : Nat) : Int := if k = 0 then v else (v + 2 ^ (k - 1)) / (2 ^ k : Int)

end Sys2Proof
end

