-- ==== Sys2Proof/Records.lean ====
section
/-!
DEFINITION. Records that commands carry and the state keeps: the calibration record and overrides (R370, R381), whose
content the manual lists without a layout.
-/
namespace Sys2Proof

/-- The values that one correction set holds for a channel in a range (R224, R226, R227), with the load P_rec in mW at
which it was taken (R378). -/
structure CalSet where
  cg : Nat
  cofs : Int
  skew : Int
  inl : List Int
  taps : List Int
  pRec : Nat
deriving DecidableEq, Repr

/-- One row of the factory record: channel, range, factory temperature 0 to 7 (R370). -/
structure CalRow where
  ch : Nat
  range : Nat
  temp : Nat
  set : CalSet
deriving DecidableEq, Repr

/-- Load coefficients of a channel in a range, in 10^-6 of the field's unit per mW (R370, R378). -/
structure CalCoef where
  ch : Nat
  range : Nat
  kCg : Int
  kOfs : Int
  kSkew : Int
deriving DecidableEq, Repr

/-- The factory calibration record (R370): its identifier, the DEV_UID it is bound to, whether its VENDOR signature
verifies, its digest D, and its content. `anchor` holds TB_ANCHOR_TGT by factory temperature, `loopback` the loopback
figure of a port and the PP_DLY_ZERO value loaded with it (2^-4 ps), `pins` ball-to-TIU delays by source and temperature,
`links` the transmit and receive path figures and the internal asymmetry of a link. -/
structure CalRecord where
  id : Nat
  uid : Nat
  sigOk : Bool
  digest : Nat
  rows : List CalRow
  coefs : List CalCoef
  anchor : List Int
  loopback : List (Nat × Int × Int)
  pins : List (Nat × List Int)
  links : List (Nat × Int × Int × Int)
deriving DecidableEq, Repr

/-- One row of an override: the fields it names, with its own P_rec and load coefficients (R381). -/
structure OvrRow where
  ch : Nat
  range : Nat
  cg : Option Nat
  cofs : Option Int
  skew : Option Int
  inl : Option (List Int)
  taps : Option (List Int)
  pRec : Nat
  kCg : Int
  kOfs : Int
  kSkew : Int
deriving DecidableEq, Repr

/-- A signed override record (R381). -/
structure OvrRecord where
  uid : Nat
  sigOk : Bool
  digest : Nat
  counter : Nat
  rows : List OvrRow
deriving DecidableEq, Repr

end Sys2Proof
end

