-- ==== Sys2Proof/Syntax.lean ====
section
/-!
DEFINITION. The commands of the block: one constructor per row of spec/opcode_table.json, in the table's order.
Each docstring gives the row's name and its rule. Operands that name an instance have that instance's range as type.
-/
namespace Sys2Proof

/-- A command of the TRX9640 (319 rows). Values of registers are written as natural numbers; `WellFormed.lean` says
which of them a 32-bit register can hold. -/
inductive Instr where
  /-- REGISTER_WRITE (R20). -/
  | registerWrite (pf : Fin 4) (addr : Nat) (be : Fin 16) (v : Nat)
  /-- STICKY_READ_CLEAR (R22). -/
  | stickyReadClear (pf : Fin 4) (addr : Nat)
  /-- WS_WRITE_EFFECT (R23). -/
  | wsWriteEffect
  /-- TICK_SKEW (R32). -/
  | tickSkew (t : Fin 8)
  /-- CC_FAULT (R31). -/
  | ccFault (t : Fin 8)
  /-- REF_CFG_WRITE (R50). -/
  | refCfgWrite (pf : Fin 4) (v : Nat)
  /-- REF_LOST (R50). -/
  | refLost (h : Nat)
  /-- REF_BACK (R51). -/
  | refBack
  /-- PLL_ENABLE (R53). -/
  | pllEnable (pf : Fin 4)
  /-- PLL_DISABLE (R59). -/
  | pllDisable (pf : Fin 4)
  /-- LOCK_DETECT (R55). -/
  | lockDetect (band : Nat)
  /-- PLL_UNLOCK (R55). -/
  | pllUnlock
  /-- REACQUIRE_START (R58). -/
  | reacquireStart
  /-- REACQ_TIMEOUT (R469). -/
  | reacqTimeout
  /-- REANCHOR_STOP (R69). -/
  | reanchorStop
  /-- ANCHOR_RELEASE (R61). -/
  | anchorRelease (d : Nat) (j : Nat)
  /-- REANCHOR_PARK_RELEASE (R69). -/
  | reanchorParkRelease
  /-- ANCHOR_MEAS_DONE (R62). -/
  | anchorMeasDone (mean : Int)
  /-- TB_STOP_DONE (R58). -/
  | tbStopDone
  /-- ANCHOR (R66). -/
  | tbAnchor (pf : Fin 4)
  /-- RELOCK (R66). -/
  | tbRelock (pf : Fin 4)
  /-- LOAD_ARM (R65). -/
  | loadArm (pf : Fin 4) (withDisarm : Bool)
  /-- LOAD_DISARM (R65). -/
  | loadDisarm (pf : Fin 4)
  /-- TOD_COMMIT (R78). -/
  | todCommit (pf : Fin 4)
  /-- EPOCH_CFG_WRITE (R74). -/
  | epochCfgWrite (pf : Fin 4) (n : Fin 2) (reg : Fin 4) (v : Nat)
  /-- EPOCH_PULSE (R74). -/
  | epochPulse (n : Fin 2)
  /-- EPOCH_IN_EDGE (R75). -/
  | epochInEdge
  /-- SYSREF_CFG_WRITE (R76). -/
  | sysrefCfgWrite (pf : Fin 4) (n : Fin 8) (reg : Fin 3) (v : Nat)
  /-- SYSREF_PULSE (R76). -/
  | sysrefPulse (n : Fin 8)
  /-- BAR2_WRITE (R97). -/
  | bar2Write (pf : Fin 4) (addr : Nat) (data : List (BitVec 8)) (uncorr : List Nat)
  /-- BAR2_READ (R437). -/
  | bar2Read (pf : Fin 4) (addr : Nat) (len : Nat) (uncorr : List Nat)
  /-- CARD_WRITE (R91). -/
  | cardWrite (withRead : Bool)
  /-- CARD_READ (R90). -/
  | cardRead (withWrite : Bool)
  /-- CARD_CMD_COMPLETE (R91). -/
  | cardCmdComplete
  /-- CARD_CACHE_FILL (R92). -/
  | cardCacheFill (t : Fin 8) (k : Fin 262144)
  /-- CUE_WINDOW_ENTER (R138). -/
  | cueWindowEnter (r : Fin 1024) (q : Fin 65536) (ecc : Fin 3)
  /-- LOAN_IN_FORCE (R96). -/
  | loanInForce (k : Fin 262144)
  /-- WDROP_CLR (R97). -/
  | wdropClr
  /-- STREAM_BIND (R470). -/
  | streamBind (n : Fin 1024) (v : Nat)
  /-- STREAM_RESET (R107). -/
  | streamReset (n : Fin 1024)
  /-- HOST_COMMIT_WRITE (R108). -/
  | hostCommitWrite (pf : Fin 4) (n : Fin 1024) (seq : Nat)
  /-- STREAM_COMMIT (R102). -/
  | streamCommit (n : Fin 1024)
  /-- PLAY_POINTER_ADVANCE (R101). -/
  | playPointerAdvance (n : Fin 1024)
  /-- REFRESH_STEP_DOWN (R112). -/
  | refreshStepDown (k : Fin 4)
  /-- BOOKING_THERMAL_CLEAR (R113). -/
  | bookingThermalClear (k : Fin 4)
  /-- MARCH_START (R119). -/
  | marchStart (t : Fin 8) (v : Nat)
  /-- MARCH_DONE (R122). -/
  | marchDone (t : Fin 8) (fails : Nat) (addr : Nat)
  /-- SCRATCHPAD_WRITE (R116). -/
  | scratchpadWrite (pf : Fin 4) (addr : Nat) (data : List (BitVec 8)) (ecc : Fin 3)
  /-- REEL_RECORD_WRITE (R135). -/
  | reelRecordWrite (r : Fin 1024) (j : Fin 64) (v : Nat)
  /-- ARM (R160). -/
  | reelArm (t : Fin 8) (others : Bool)
  /-- DISARM (R160). -/
  | reelDisarm (t : Fin 8) (others : Bool)
  /-- STOP_AT (R163). -/
  | reelStopAt (t : Fin 8) (others : Bool)
  /-- CLEAR (R160). -/
  | reelClear (t : Fin 8) (others : Bool)
  /-- REEL_START (R162). -/
  | reelStart (r : Fin 1024)
  /-- CUE_BOUNDARY (R139). -/
  | cueBoundary (r : Fin 1024)
  /-- NOP (R137). -/
  | cueNop (r : Fin 1024) (w : Nat)
  /-- PLAY (R142). -/
  | cuePlay (r : Fin 1024) (w : Nat)
  /-- PLAYN (R142). -/
  | cuePlayn (r : Fin 1024) (w : Nat)
  /-- LOOP (R143). -/
  | cueLoop (r : Fin 1024) (w : Nat)
  /-- NEXT (R143). -/
  | cueNext (r : Fin 1024) (w : Nat)
  /-- CALL (R144). -/
  | cueCall (r : Fin 1024) (w : Nat)
  /-- RET (R144). -/
  | cueRet (r : Fin 1024) (w : Nat)
  /-- WAIT_EV (R146). -/
  | cueWaitEv (r : Fin 1024) (w : Nat)
  /-- WAIT_TICK (R147). -/
  | cueWaitTick (r : Fin 1024) (w : Nat)
  /-- SYNC (R148). -/
  | cueSync (r : Fin 1024) (w : Nat)
  /-- CUTIF (R151). -/
  | cueCutif (r : Fin 1024) (w : Nat)
  /-- SET_F (R198). -/
  | cueSetF (r : Fin 1024) (w : Nat)
  /-- SET_P (R198). -/
  | cueSetP (r : Fin 1024) (w : Nat)
  /-- SET_G (R153). -/
  | cueSetG (r : Fin 1024) (w : Nat)
  /-- SET_RNG (R154). -/
  | cueSetRng (r : Fin 1024) (w : Nat)
  /-- SLATE (R155). -/
  | cueSlate (r : Fin 1024) (w : Nat)
  /-- MARK (R155). -/
  | cueMark (r : Fin 1024) (w : Nat)
  /-- FIRE (R155). -/
  | cueFire (r : Fin 1024) (w : Nat)
  /-- CUE_EVENT_PULSE (R155). -/
  | cueEventPulse (r : Fin 1024)
  /-- CAL_GAP (R150). -/
  | cueCalGap (r : Fin 1024) (w : Nat)
  /-- STOP (R156). -/
  | cueStop (r : Fin 1024) (w : Nat)
  /-- END (R156). -/
  | cueEnd (r : Fin 1024) (w : Nat)
  /-- WAIT_END (R146). -/
  | waitEnd (r : Fin 1024)
  /-- WAIT_TIMEOUT (R146). -/
  | waitTimeout (r : Fin 1024)
  /-- STOP_TAKE_EFFECT (R163). -/
  | stopTakeEffect (r : Fin 1024)
  /-- REEL_STOP_DONE (R124). -/
  | reelStopDone (r : Fin 1024)
  /-- REEL_FAULT (R159). -/
  | reelFault (r : Fin 1024) (recordEcc : Bool)
  /-- EVENT_STAMP (R166). -/
  | eventStamp (t : Fin 8) (c : Fin 128)
  /-- STAMP_AGREED (R167). -/
  | stampAgreed (c : Fin 128)
  /-- CUT_COMMIT (R170). -/
  | cutCommit (r : Fin 1024)
  /-- CUT_TAKE (R175). -/
  | cutTake (r : Fin 1024) (late : Bool)
  /-- HEAD_FILL (R184). -/
  | headFill (t : Fin 8) (k : Fin 262144)
  /-- LATE_LEAF (R189). -/
  | lateLeaf (r : Fin 1024) (cause : Fin 4)
  /-- LATE_RESUME (R191). -/
  | lateResume (r : Fin 1024)
  /-- RECOVERY_CUT (R193). -/
  | recoveryCut (r : Fin 1024)
  /-- STAGE (R216). -/
  | voiceStage (t : Fin 8) (both : Bool)
  /-- COMMIT (R216). -/
  | voiceCommit (t : Fin 8) (both : Bool)
  /-- VOICE_UPDATE_APPLY (R217). -/
  | voiceUpdateApply (r : Fin 1024)
  /-- SWEEP_PIECE_START (R202). -/
  | sweepPieceStart (r : Fin 1024)
  /-- CH_ENABLE (R235). -/
  | chEnable (n : Fin 32)
  /-- CH_DISABLE (R235). -/
  | chDisable (n : Fin 32)
  /-- CH_STAGE_READY (R235). -/
  | chStageReady (n : Fin 32)
  /-- CH_RAMP_DOWN_DONE (R235). -/
  | chRampDownDone (n : Fin 32)
  /-- CH_PARK_WRITE (R237). -/
  | chParkWrite (n : Fin 32) (on : Bool)
  /-- CH_RELEASE (R237). -/
  | chRelease (n : Fin 32)
  /-- UNPARK (R237). -/
  | unpark (n : Fin 32)
  /-- RNG_REQ (R231). -/
  | rngReq (n : Fin 32)
  /-- EQ_SWAP (R228). -/
  | eqSwap (n : Fin 32)
  /-- CH_EQ_COEF_WRITE (R228). -/
  | chEqCoefWrite (n : Fin 32) (b : Fin 2) (tap : Fin 64) (v : Nat)
  /-- CHANNEL_BOUNDARY (R229). -/
  | channelBoundary (n : Fin 32)
  /-- RANGE_GAP_START (R232). -/
  | rangeGapStart (n : Fin 32)
  /-- RANGE_GAP_END (R232). -/
  | rangeGapEnd (n : Fin 32)
  /-- PARK_N_FALL (R238). -/
  | parkNFall
  /-- PARK_N_RELEASE (R237). -/
  | parkNRelease (held : Bool)
  /-- OUT_SHORT (R240). -/
  | outShort (n : Fin 32) (present : Bool)
  /-- STAGE_HOT (R240). -/
  | stageHot (n : Fin 32) (present : Bool)
  /-- FEED_FAULT (R240). -/
  | feedFault (n : Fin 32) (fill : Nat)
  /-- CONVERTER_SUPPLY_LOSS (R456). -/
  | converterSupplyLoss (d : Fin 8) (pg : Bool)
  /-- PORT_ENABLE (R263). -/
  | portEnable (p : Fin 48)
  /-- PORT_DISABLE (R263). -/
  | portDisable (p : Fin 48)
  /-- PORT_STOP_DONE (R263). -/
  | portStopDone (p : Fin 48)
  /-- PORT_START_DONE (R263). -/
  | portStartDone (p : Fin 48)
  /-- PORT_UNPARK (R246). -/
  | portUnpark (p : Fin 48)
  /-- DLY_CAL (R248). -/
  | dlyCal (p : Fin 48)
  /-- DLY_CAL_DONE (R248). -/
  | dlyCalDone (p : Fin 48) (mean : Int)
  /-- CAP_START (R250). -/
  | capStart (p : Fin 48)
  /-- CAP_ABORT (R250). -/
  | capAbort (p : Fin 48)
  /-- CAPTURE_TRIGGER (R250). -/
  | captureTrigger (p : Fin 48) (samples : List Nat)
  /-- CAPTURE_END (R250). -/
  | captureEnd (p : Fin 48)
  /-- CAPTURE_OVERFLOW (R253). -/
  | captureOverflow (p : Fin 48)
  /-- RX_SLIP (R249). -/
  | rxSlip (p : Fin 48) (phase : Fin 64)
  /-- TXBUF_FAULT (R264). -/
  | txbufFault (p : Fin 48) (present : Bool)
  /-- JESD_ENABLE (R260). -/
  | jesdEnable (p : Fin 48) (rbd : Nat)
  /-- JESD_DISABLE (R260). -/
  | jesdDisable (p : Fin 48)
  /-- JESD_TX_FRAMING_START (R256). -/
  | jesdTxFramingStart (p : Fin 48)
  /-- JESD_TX_STOP_DONE (R260). -/
  | jesdTxStopDone (p : Fin 48)
  /-- JESD_RX_BLOCK_LOCK (R261). -/
  | jesdRxBlockLock (p : Fin 48)
  /-- JESD_RX_MBLK_FOUND (R261). -/
  | jesdRxMblkFound (p : Fin 48)
  /-- JESD_RX_RELEASE (R261). -/
  | jesdRxRelease (p : Fin 48) (late : Bool)
  /-- JLOSS (R261). -/
  | jloss (p : Fin 48) (lane : Fin 8)
  /-- JCRC (R261). -/
  | jcrc (p : Fin 48)
  /-- START (R282). -/
  | corStart (g : Fin 4) (multi : Bool)
  /-- CLOSE (R282). -/
  | corClose (g : Fin 4) (multi : Bool)
  /-- HOLD (R282). -/
  | corHold (g : Fin 4) (multi : Bool)
  /-- RESUME (R282). -/
  | corResume (g : Fin 4) (multi : Bool)
  /-- COR_STOP (R282). -/
  | corStop (g : Fin 4) (multi : Bool)
  /-- ABORT (R283). -/
  | corAbort (g : Fin 4) (multi : Bool)
  /-- COR_CLEAR (R282). -/
  | corClear (g : Fin 4) (multi : Bool)
  /-- REF_SWAP (R285). -/
  | corRefSwap (g : Fin 4) (multi : Bool)
  /-- COR_LEVEL_WRITE (R285). -/
  | corLevelWrite (g : Fin 4) (v : Nat)
  /-- COR_FRAME_CLOSE (R273). -/
  | corFrameClose (g : Fin 4) (sat : Nat) (flagged : Nat) (gap : Bool) (ecc : Bool) (errs : List (List Int)) (rms : List Int) (cur : Int) (tag : Int) (tag32 : Nat) (store : List (Nat × List (BitVec 8)))
  /-- COR_BLOCK_END (R276). -/
  | corBlockEnd (g : Fin 4) (sat : Nat) (flagged : Nat) (gap : Bool) (ecc : Bool) (errs : List (List Int)) (rms : List Int) (cur : Int) (tag : Int) (tag32 : Nat) (store : List (Nat × List (BitVec 8))) (upd : List (Nat × Nat × Int))
  /-- COR_UPDATE (R274). -/
  | corUpdate (g : Fin 4) (held : List Bool) (rho : List (List (Nat × Nat)))
  /-- RAMP_START (R279). -/
  | rampStart (g : Fin 4)
  /-- RAMP_END (R279). -/
  | rampEnd (g : Fin 4)
  /-- TIU_ENABLE (R293). -/
  | tiuEnable (k : Fin 24)
  /-- TIU_DISABLE (R293). -/
  | tiuDisable (k : Fin 24)
  /-- TIU_DLL_LOCK (R287). -/
  | tiuDllLock (k : Fin 24)
  /-- TIU_STOP_DONE (R293). -/
  | tiuStopDone (k : Fin 24)
  /-- TIU_ARM (R295). -/
  | tiuArm (k : Fin 24)
  /-- TIU_ABORT (R293). -/
  | tiuAbort (k : Fin 24)
  /-- TIU_T0 (R293). -/
  | tiuT0 (k : Fin 24)
  /-- TIU_EDGE (R296). -/
  | tiuEdge (k : Fin 24) (line : Fin 2) (q : Fin 128)
  /-- TIU_DONE (R297). -/
  | tiuDone (k : Fin 24)
  /-- TIU_CAL_RUN (R288). -/
  | tiuCalRun (k : Fin 24) (host : Bool)
  /-- TIU_CAL_COMPLETE (R288). -/
  | tiuCalComplete (k : Fin 24) (a : List Nat) (b : List Nat) (offset : Int)
  /-- TIU_RESERVED_WRITE (R301). -/
  | tiuReservedWrite (k : Fin 24) (arm : Bool)
  /-- CHANNEL_PULSE (R308). -/
  | channelPulse (c : Fin 128)
  /-- CHANNEL_LOCKOUT_END (R308). -/
  | channelLockoutEnd (c : Fin 128)
  /-- LOOP_WINDOW_END (R314). -/
  | loopWindowEnd (c : Fin 128)
  /-- MATRIX_WRITE (R307). -/
  | matrixWrite (pf : Fin 4) (p : Fin 512) (w : Fin 4) (v : Nat)
  /-- GROUP_ENABLE_WRITE (R311). -/
  | groupEnableWrite (v : Nat)
  /-- HOST_FIRE (R312). -/
  | hostFire (w : Fin 4) (v : Nat)
  /-- TASK_CFG_WRITE (R316). -/
  | taskCfgWrite (k : Fin 768) (v : Nat)
  /-- TASK_TRIGGER (R316). -/
  | taskTrigger (k : Fin 768)
  /-- TASK_FIRE (R317). -/
  | taskFire (v : Nat)
  /-- TASK_DEFER_DELIVER (R318). -/
  | taskDeferDeliver (k : Fin 768)
  /-- TASK_CNT_CLR (R318). -/
  | taskCntClr
  /-- ARM_GROUP (R164). -/
  | armGroup (t : Fin 8) (g : Fin 8)
  /-- STOP_GROUP (R164). -/
  | stopGroup (t : Fin 8) (g : Fin 8)
  /-- CAPTURE_TASK (R250). -/
  | captureTask (p : Fin 48)
  /-- SYSREF_BURST (R76). -/
  | sysrefBurst (n : Fin 8)
  /-- GROUP_ENABLE_TASK (R311). -/
  | groupEnableTask (g : Fin 16)
  /-- GROUP_DISABLE_TASK (R311). -/
  | groupDisableTask (g : Fin 16)
  /-- TIU_ARM_TASK (R315). -/
  | tiuArmTask (k : Fin 24)
  /-- COR_ABORT_TASK (R315). -/
  | corAbortTask (g : Fin 4)
  /-- COR_STOP_TASK (R315). -/
  | corStopTask (g : Fin 4)
  /-- ARCHIVE_LOG_TASK (R315). -/
  | archiveLogTask (k : Fin 8)
  /-- REMOTE_EVENT_SEND (R360). -/
  | remoteEventSend (l : Fin 16) (m : Fin 8)
  /-- DOORBELL (R315). -/
  | doorbell (c : Fin 8) (b : Fin 32)
  /-- CC_PRODUCER_PULSE (R304). -/
  | ccProducerPulse (t : Fin 8)
  /-- TIMER_CFG_WRITE (R319). -/
  | timerCfgWrite (k : Fin 16) (cfg : Nat)
  /-- TIMER_FIRE (R319). -/
  | timerFire (k : Fin 16)
  /-- THRESHOLD_CROSS (R320). -/
  | thresholdCross (k : Fin 32) (signal : Int)
  /-- EVIO_INPUT_EDGE (R321). -/
  | evioInputEdge (n : Fin 16) (high : Bool)
  /-- EVIO_ALIGN_PULSE (R321). -/
  | evioAlignPulse (n : Fin 16)
  /-- IRQ_PRESENT (R327). -/
  | irqPresent (t : Fin 12)
  /-- IRQ_CLAIM (R328). -/
  | irqClaim (reader : Fin 12) (t : Fin 12)
  /-- IRQ_EOI (R329). -/
  | irqEoi (t : Fin 12) (v : Nat)
  /-- IRQ_ROUTE_WRITE (R331). -/
  | irqRouteWrite (src : Fin 256) (v : Nat)
  /-- MSIX_UNMASK (R433). -/
  | msixUnmask (pf : Fin 4) (vec : Fin 2)
  /-- IC_SW_SET (R324). -/
  | icSwSet (v : Nat)
  /-- WAKE_WATCHER_ASSERT (R333). -/
  | wakeWatcherAssert (src : Fin 256)
  /-- LEDGER_CLEAR (R338). -/
  | ledgerClear (v : Nat)
  /-- LEDGER_PERSIST_RERAISE (R338). -/
  | ledgerPersistReraise (k : Fin 64)
  /-- ARCHIVE_WRITE_ENTRY (R342). -/
  | archiveWriteEntry
  /-- ARCHIVE_RD_WRITE (R340). -/
  | archiveRdWrite (v : Nat)
  /-- ARCHIVE_TEMP_PERIODIC (R345). -/
  | archiveTempPeriodic
  /-- LINK_ENABLE (R352). -/
  | linkEnable (l : Fin 16)
  /-- LINK_DISABLE (R352). -/
  | linkDisable (l : Fin 16)
  /-- LINK_STOP_DONE (R352). -/
  | linkStopDone (l : Fin 16)
  /-- LINK_TRAINED (R352). -/
  | linkTrained (l : Fin 16)
  /-- LINK_TRAIN_TIMEOUT (R352). -/
  | linkTrainTimeout (l : Fin 16)
  /-- LINK_MEASURE_DONE (R354). -/
  | linkMeasureDone (l : Fin 16) (evMeas : Nat) (strmMeas : Nat)
  /-- LINK_SYNC_LOSS (R352). -/
  | linkSyncLoss (l : Fin 16) (cause : Fin 4)
  /-- LINK_RETRAIN_LOCK (R352). -/
  | linkRetrainLock (l : Fin 16)
  /-- LINK_RETRAIN_TIMEOUT (R352). -/
  | linkRetrainTimeout (l : Fin 16)
  /-- LINK_DOWN_TIMEOUT (R352). -/
  | linkDownTimeout (l : Fin 16)
  /-- LINK_FRAME_TX (R348). -/
  | linkFrameTx (l : Fin 16)
  /-- HEADER_RX (R354). -/
  | headerRx (l : Fin 16) (w : Nat) (stamp : Nat)
  /-- TIME (R354). -/
  | msgTime (l : Fin 16) (w0 : Nat) (w1 : Nat) (w2 : Nat)
  /-- EVENT (R360). -/
  | msgEvent (l : Fin 16) (w : Nat)
  /-- STREAM (R364). -/
  | msgStream (l : Fin 16) (c : Fin 32) (w : Nat) (data : List Nat)
  /-- MGMT (R350). -/
  | msgMgmt (l : Fin 16) (kind : Fin 4) (data : List (BitVec 8))
  /-- ALIGN (R355). -/
  | linkAlign
  /-- ALIGN_PARENT_READY (R355). -/
  | alignParentReady
  /-- ALIGN_ANCHOR_ARM (R356). -/
  | alignAnchorArm
  /-- ALIGN_VERIFY (R355). -/
  | alignVerify
  /-- AUTO_ALIGN_START (R359). -/
  | autoAlignStart
  /-- RCAL_CHECK (R368). -/
  | rcalCheck (mohm : Nat)
  /-- CAL_MEAS_COMPLETE (R375). -/
  | calMeasComplete (n : Fin 32) (kind : Fin 3) (delta : Int) (p : Nat) (res : Nat)
  /-- CAL_MEAS_TIMEOUT (R374). -/
  | calMeasTimeout (n : Fin 32)
  /-- CAL_LOAD_EXTRAP (R379). -/
  | calLoadExtrap (n : Fin 32) (p : Nat)
  /-- ACCEPT (R379). -/
  | calAccept (n : Fin 32) (multi : Bool)
  /-- REMEASURE (R379). -/
  | calRemeasure (n : Fin 32) (multi : Bool)
  /-- CAL_HOLD (R379). -/
  | calHold (n : Fin 32) (multi : Bool)
  /-- CAL_RUN (R380). -/
  | calRun (multi : Bool)
  /-- CAL_ABORT (R380). -/
  | calAbort (multi : Bool)
  /-- CAL_HOST_RUN_DONE (R380). -/
  | calHostRunDone (ofs : Int) (gain : Int) (inl : List Int) (skew : Int) (p : Nat) (vres : Nat) (sres : Nat)
  /-- OVR_LOAD (R381). -/
  | ovrLoad (multi : Bool)
  /-- OVR_LOAD_DONE (R381). -/
  | ovrLoadDone (rec : OvrRecord)
  /-- LOAD (R391). -/
  | imageLoad (pf : Fin 4)
  /-- IMAGE_LOAD_DONE (R389). -/
  | imageLoadDone (data : Option (List (BitVec 8)))
  /-- REISSUE (R392). -/
  | reissue (pf : Fin 4)
  /-- TILE_ENABLE (R392). -/
  | tileEnable (pf : Fin 4) (t : Fin 8)
  /-- TILE_DISABLE (R392). -/
  | tileDisable (pf : Fin 4) (t : Fin 8)
  /-- TILE_START_DONE (R392). -/
  | tileStartDone (t : Fin 8)
  /-- TILE_STOP_DONE (R392). -/
  | tileStopDone (t : Fin 8)
  /-- TILE_LOAD_DONE (R392). -/
  | tileLoadDone (t : Fin 8) (data : Option (List (BitVec 8)))
  /-- BOOT_ATTEMPT_START (R399). -/
  | bootAttemptStart (src : Fin 4)
  /-- BOOT_STAGE_DONE (R399). -/
  | bootStageDone (us : Nat) (data : List (BitVec 8)) (fac : Option CalRecord) (ovr : Option OvrRecord)
  /-- GO (R397). -/
  | bootGo (pf : Fin 4)
  /-- HOST_TIMEOUT (R397). -/
  | hostTimeout (us : Nat)
  /-- BOOT_STAGE_FAIL (R400). -/
  | bootStageFail (cause : Fin 256) (us : Nat)
  /-- BOOT_RETRY_DELAY (R400). -/
  | bootRetryDelay
  /-- READY (R399). -/
  | bootReady (us : Nat)
  /-- RETRY (R401). -/
  | bootRetry (pf : Fin 4)
  /-- LOADER_WRITE (R402). -/
  | loaderWrite (pf : Fin 4) (flash : Bool) (data : List (BitVec 8))
  /-- LOADER_VERIFY (R402). -/
  | loaderVerify (pf : Fin 4) (flash : Bool) (same : Bool)
  /-- LOADER_READ (R402). -/
  | loaderRead (pf : Fin 4) (flash : Bool) (data : List (BitVec 8))
  /-- LOADER_DONE (R402). -/
  | loaderDone
  /-- SYS_RESET (R404). -/
  | sysReset (pf : Fin 4) (key : Fin 65536)
  /-- AON_POWER_ON (R404). -/
  | aonPowerOn
  /-- STANDBY (R406). -/
  | standby (pf : Fin 4)
  /-- PWR_RESUME (R406). -/
  | pwrResume (pf : Fin 4)
  /-- SLEEP (R406). -/
  | sleep (pf : Fin 4)
  /-- WAKE (R406). -/
  | wake (pf : Fin 4)
  /-- POWER_TRANSITION_DONE (R407). -/
  | powerTransitionDone
  /-- RUN_IDLE_CHANGE (R405). -/
  | runIdleChange
  /-- MAIN_RAIL_PG_LOSS (R456). -/
  | mainRailPgLoss (rail : Fin 11) (lost : Bool)
  /-- SUPPLY_UV (R456). -/
  | supplyUv (rail : Fin 11) (low : Bool)
  /-- ATTEST (R422). -/
  | attest (pf : Fin 4) (key : Fin 65536)
  /-- SELFTEST (R423). -/
  | selftest (pf : Fin 4) (key : Fin 65536)
  /-- PROVISION (R418). -/
  | provision (pf : Fin 4) (key : Fin 65536)
  /-- FIELD (R417). -/
  | secField (pf : Fin 4) (key : Fin 65536)
  /-- RMA_NONCE (R419). -/
  | rmaNonce (pf : Fin 4) (key : Fin 65536)
  /-- RMA_APPLY (R419). -/
  | rmaApply (pf : Fin 4) (key : Fin 65536)
  /-- RETIRE (R417). -/
  | retire (pf : Fin 4) (key : Fin 65536)
  /-- ZEROIZE (R425). -/
  | zeroize (pf : Fin 4) (key : Fin 65536)
  /-- ZEROIZE_DATA (R425). -/
  | zeroizeData (pf : Fin 4) (key : Fin 65536)
  /-- ADV_FW (R415). -/
  | advFw (pf : Fin 4) (key : Fin 65536)
  /-- ADV_IMG (R415). -/
  | advImg (pf : Fin 4) (key : Fin 65536)
  /-- ADV_OVR (R415). -/
  | advOvr (pf : Fin 4) (key : Fin 65536)
  /-- SEC_CMD_INVALID (R427). -/
  | secCmdInvalid (pf : Fin 4) (code : Fin 32) (key : Fin 65536)
  /-- SEC_ERROR_ENTER (R424). -/
  | secErrorEnter (code : Fin 8) (us : Nat)
  /-- FUSE_INIT (R417). -/
  | fuseInit (uid : Nat) (digest : Nat)
  /-- EXTEST (R429). -/
  | extest
  /-- EXTEST_PULSE (R465). -/
  | extestPulse
  /-- EXTEST_TRAIN (R465). -/
  | extestTrain
  /-- EXTEST_DESELECT (R429). -/
  | extestDeselect
  /-- IDCODE (R465). -/
  | idcode
  /-- SAMPLE_PRELOAD (R465). -/
  | samplePreload (sample : Nat) (load : Nat)
  /-- BYPASS (R465). -/
  | bypass (code : Fin 256)
  /-- HOST_LINK_RESET (R434). -/
  | hostLinkReset (link : Nat)
  /-- HOST_LINK_UP (R434). -/
  | hostLinkUp (flit : Bool) (width : Fin 64) (speed : Fin 16)
  /-- FLR (R434). -/
  | flr (pf : Fin 4)
  /-- PF_D3HOT (R434). -/
  | pfD3hot (pf : Fin 4)
  /-- BME_CLEAR (R434). -/
  | bmeClear (pf : Fin 4)
  /-- DMA_QUEUE_ENABLE (R443). -/
  | dmaQueueEnable (pf : Fin 4) (q : Fin 64)
  /-- DMA_QUEUE_DISABLE (R443). -/
  | dmaQueueDisable (pf : Fin 4) (q : Fin 64)
  /-- DMA_STOP_DONE (R443). -/
  | dmaStopDone (q : Fin 64)
  /-- DMA_TAIL_WRITE (R438). -/
  | dmaTailWrite (pf : Fin 4) (q : Fin 64) (v : Nat)
  /-- WRITE_SEG (R440). -/
  | writeSeg (q : Fin 64) (d : List Nat) (moved : Nat) (data : List (BitVec 8)) (uncorr : List Nat) (err : Bool)
  /-- READ_SEG (R440). -/
  | readSeg (q : Fin 64) (d : List Nat) (moved : Nat) (uncorr : List Nat) (err : Bool)
  /-- WRITE_SP (R440). -/
  | writeSp (q : Fin 64) (d : List Nat) (moved : Nat) (data : List (BitVec 8)) (err : Bool)
  /-- READ_SP (R440). -/
  | readSp (q : Fin 64) (d : List Nat) (moved : Nat) (err : Bool)
  /-- CARD (R440). -/
  | dmaCard (q : Fin 64) (d : List Nat) (moved : Nat) (data : List (BitVec 8)) (err : Bool)
  /-- DESC_WRITEBACK (R441). -/
  | descWriteback (q : Fin 64) (d : List Nat) (err : Bool)
  /-- SENSOR_READING (R459). -/
  | sensorReading (k : Fin 21) (tj : Int)
  /-- THERMAL_FORCED_STANDBY (R460). -/
  | thermalForcedStandby
  /-- THERMAL_TRIP_CLEAR (R460). -/
  | thermalTripClear
  /-- WEAR_SECOND (R462). -/
  | wearSecond
  /-- WEAR_COMMIT (R462). -/
  | wearCommit
  /-- CONVERTER_SUPPLY_GOOD (R235). -/
  | converterSupplyGood (d : Fin 8)
  /-- PORT_RELEASE (R246). -/
  | portRelease (p : Fin 48)
  /-- TIU_DLL_LOCK_LOSS (R334). -/
  | tiuDllLockLoss (k : Fin 24)
  /-- JESD_RX_OFF_REACHED (R261). -/
  | jesdRxOffReached (p : Fin 48)
  /-- SEC_CMD_DONE (R427). -/
  | secCmdDone
  /-- PF_D0_ENTRY (R434). -/
  | pfD0Entry (pf : Fin 4)
  /-- BME_SET (R434). -/
  | bmeSet (pf : Fin 4)
  /-- MSIX_FUNCTION_MASK (R326). -/
  | msixFunctionMask (pf : Fin 4) (enable : Bool) (fmask : Bool)
  /-- CROSSBAR_FAULT (R334). -/
  | crossbarFault (port : Nat)
  /-- FFT_SLICE_FAULT (R283). -/
  | fftSliceFault (k : Fin 16)
  /-- STACK_TRAINING_LOSS (R334). -/
  | stackTrainingLoss (stack : Fin 4) (refresh : Bool)
deriving DecidableEq, Repr

end Sys2Proof
end

