-- ==== Sys2Proof/Decode.lean ====
section
/-!
DEFINITION. The block takes commands, not words: no row of the opcode table gives bits, so no word spells a command.
-/
namespace Sys2Proof

/-- The command that a word of the table spells: none, as the table gives its rows no bits. -/
def decodeTableWord (_nbits _w : Nat) : Option Instr := none

end Sys2Proof
end

