-- ==== Sys2Proof/Config.lean ====
section
/-!
DEFINITION. What one device fixes and what the manual leaves open. An `opaque` constant has no body: nothing can be
proved about its values, so a claim about it holds for every value.
-/
namespace Sys2Proof.Config

/-- A free value: the n-th value the manual leaves open in a run (the counter `State.free` numbers them). -/
opaque freeValue : Nat → BitVec 64

/-- The device's fused unique identifier, DEV_UID, as four dwords (R417): each device has its own. -/
opaque devUid : Nat → BitVec 32

/-- The digest of the VENDOR key that production fuses (R417), as dwords. -/
opaque vendorKeyDigest : Nat → BitVec 32

/-- Coefficient `tap` (0 to 63) of phase 0 to 1,024 of a resampler set (R204), by set, phase and tap: the manual fixes the sets by their response
only. 18 bits, Q1.17. -/
opaque resamplerTap : Nat × Nat × Nat → BitVec 18

/-- Sample `n` of the noise frame with a key and 53-bit uniform (R209): the manual fixes it to within 2 units of a real
formula (R208, R210). Arguments: key, uniform, the frame and line exponents, NSCALE, KURT the line amplitudes and n. 18 bits, signed. -/
opaque noiseFrame : BitVec 64 × BitVec 64 × Nat × Nat × Nat × Nat × List Nat × Nat → BitVec 18

/-- The band-limited interpolation of the transport resampler (R258), which the manual fixes by its response only: from the
last 64 per-tick sums, newest first, and the fraction of a tick as numerator and denominator. 24 bits, signed. -/
opaque interpolated : List Int × Nat × Nat → BitVec 24

/-- D_JTX of a transmit link less 256 ticks (R259): the manual gives its range, 256 to 1,024, and that it depends on the
parameter set alone, given here as the words of PP_CFG and PP_JCFG0 of lane 0. -/
opaque jtxDelay : Nat × Nat → Nat

/-- SHAKE256 with 64 bytes of output (R386, R411): the standard's function, whose values the manual does not list. Byte 0 of
the digest is the lowest. -/
opaque shake256 : List (BitVec 8) → BitVec 512

/-- Falcon-1024 verification (R409, R412): public key, message, signature. The standard's function, as above. -/
opaque falconOk : List (BitVec 8) × List (BitVec 8) × List (BitVec 8) → Bool

/-- Falcon-1024 signing: private key, message and the number of the free value that seeds it (signing draws on the entropy
source). -/
opaque falconSign : List (BitVec 8) × List (BitVec 8) × Nat → List (BitVec 8)

/-- The identity key pair that Falcon-1024 key generation makes from conditioned entropy (R418): public and private key. -/
opaque falconKeys : Nat → List (BitVec 8) × List (BitVec 8)

end Sys2Proof.Config
end

