-- ==== Sys2Proof/Machine/RegNames.lean ====
section
/-!
DEFINITION. The names of the device's registers (spec 00 to 17, the register tables of every chapter) and of the
internal latches the text describes without giving them a register. One field of one register instance is a `Key`.
-/
namespace Sys2Proof.Machine

/-- Every register name of the manual's tables; the names that begin with `L_` are internal latches of the model,
each of which holds one thing the text makes the device remember (see Fields.lean for what and where). -/
inductive RName where
  | TB_CTRL | TB_STATUS | TB_EVT | TB_CMD | TB_TICK_LO | TB_TICK_HI | TB_LOAD_LO
  | TB_LOAD_HI | TB_REFLOSS_ACT | TB_RELOCK_AUTO | TB_FTRIM | TB_ANCHOR_RES | TB_ANCHOR_TGT | TB_DISC
  | TB_COAST_LO | TB_COAST_HI | TB_TOD_SEC_LO | TB_TOD_SEC_HI | TB_TOD_NS | TB_TOD_TICK_LO | TB_TOD_TICK_HI
  | TB_ANCHOR_AT_LO | TB_ANCHOR_AT_HI | TB_EPIN_CFG | TB_EPIN_STAMP_LO | TB_EPIN_STAMP_HI | TB_EPOCH_CFG | TB_EPOCH_PER_LO
  | TB_EPOCH_PER_HI | TB_EPOCH_OFS | TB_SYSREF_CFG | TB_SYSREF_PER | TB_SYSREF_OFS | REF_CFG | REF_STATUS
  | REF_OUT_CFG | PLL_CFG | PLL_CTRL | PLL_STATUS | MS_CFG | MS_EVT | MS_THERM_POL
  | MS_CARD_IDX | MS_CARD_CMD | MS_CMD | MS_LOAN_IDX | MS_LOAN_CNT | MS_LEAF_IDX | MS_LEAF_LOAN
  | MS_WDROP_CNT | MS_WDROP_ADDR_LO | MS_WDROP_ADDR_HI | MS_WDROP_SRC | MS_STK_STATUS | MS_ECC_CNT | MS_CARD_DATA
  | MS_STRM_CFG | MS_STRM_FILL | MS_STRM_PLAY | MS_STRM_CNT | MS_STRM_COMMIT | MS_STRM_CARD | TL_MARCH_CTRL
  | TL_MARCH_STATUS | TL_MARCH_ADDR | TL_SP_OFFLINE | TL_SP_ECC | TL_SP_EVT | REEL | TL_PIPE_LAT
  | TL_LANES | TL_REEL_IDX | TL_REEL_ARG_LO | TL_REEL_ARG_HI | TL_REEL_CMD | TL_REEL_EVT | TL_REEL_ACTIVE
  | TL_REEL_FAULTED | TL_REEL_FLT_LAST | TL_EVR_SEL | TL_EVR_STAMP_LO | TL_EVR_STAMP_HI | TL_EVR_LOCAL_LO | TL_EVR_LOCAL_HI
  | TL_EVR_STATUS | TL_CUT_EVT | TL_CUT_CNT | TL_HEAD_STATUS | TL_HEAD_MISS | TL_LATE_CNT | TL_LATE_WORDS_LO
  | TL_LATE_WORDS_HI | TL_LATE_LAST | TL_VSTG_REEL | TL_VSTG_KIND | TL_VSTG_VAL_LO | TL_VSTG_VAL_HI | TL_VSTG_LAST
  | TL_VSTG_TICK_LO | TL_VSTG_TICK_HI | TL_VSTG_PEND | TL_VSTG_CMD | TL_VSTG_EVT | CH_CTRL | CH_STATUS
  | CH_EVT | CH_PARK_SRC | CH_CMD | CH_RANGE | CH_RNG_AT_LO | CH_RNG_AT_HI | CH_CFG
  | CH_EQ_CFG | CH_IRQ_EN | CH_CAL_GAIN | CH_CAL_OFS | CH_CAL_SKEW | CH_CAL_TAG | CH_EQ_COEF
  | CH_INL | PP_CFG | PP_CTRL | PP_STATUS | PP_EVT | PP_PARK_SRC | PP_CMD
  | PP_IDLE | PP_FDLY | PP_DLY_ZERO | PP_TX_DRV | PP_RX_CFG | PP_RX_STAT | PP_IRQ_EN
  | PP_CAP_CFG | PP_CAP_AT_LO | PP_CAP_AT_HI | PP_CAP_LEN_LO | PP_CAP_LEN_HI | PP_CAP_CNT_LO | PP_CAP_CNT_HI
  | PP_CAP_START_LO | PP_CAP_START_HI | PP_JCFG0 | PP_JCFG1 | PP_JCTRL | PP_JLAT | PP_JRX_TOFS
  | PP_JSTAT | PP_JERR | COR_GRP_CFG | COR_GRP_SLICE | COR_GRP_CTRL | COR_GRP_CMD | COR_GRP_STATUS
  | COR_GRP_EVT | COR_QUAL | COR_LEVEL | COR_STEP | COR_PH_STEP | COR_LIM_LINE | COR_LIM_RMS
  | COR_ABT_LINES | COR_ABT_TIME | COR_DRV_MAX | COR_REG | COR_STORE | COR_DRV_LVL | COR_CNT
  | COR_CNT2 | COR_IRQ_EN | COR_GRP_DRV | COR_IN_CFG | COR_IN_STAT | TIU_CTRL | TIU_CFG
  | TIU_SRC | TIU_STATUS | TIU_EVT | TIU_PRESCALE | TIU_MAXN | TIU_AT_LO | TIU_AT_HI
  | TIU_LIMIT_LO | TIU_LIMIT_HI | TIU_IRQ_EN | TIU_CAL_CMD | TIU_CAL_STAT | TIU_RUN_LO | TIU_RUN_HI
  | TIU_RSTAT | TIU_OVERRUN | TIU_START | TIU_STOP | TIU_ISUM_LO | TIU_ISUM_HI | TIU_IMIN_LO
  | TIU_IMIN_HI | TIU_IMAX_LO | TIU_IMAX_HI | TIU_FREQ_RATIO_LO | TIU_FREQ_RATIO_HI | TIU_FREQ_EXP | TIU_SUM_T
  | TIU_SUM_IT | TIU_TAP | EV_GRP_EN | EV_FIRE | EV_EVT | EV_CMD | EV_TASK_FIRE
  | EV_LOOP_STAT | EV_SLEEP_SEEN | EV_GRP_MAP | EV_IRQ_SEL | EV_EVIO_PAIR | EV_EVIO_CFG | EV_TMR_CFG
  | EV_TMR_PER_LO | EV_TMR_PER_HI | EV_TMR_OFS_LO | EV_TMR_OFS_HI | EV_THR_CFG | EV_THR_LVL | EV_TASK_CFG
  | EV_TASK_STAT | EV_MATRIX | IC_ROUTE | IC_CLAIM | IC_EVT | IC_PEND | IC_TGT_STATUS
  | IC_EOI | IC_TGT_CFG | IC_SW_SET | IC_SW_STAT | IC_FAULTN_EN_LO | IC_FAULTN_EN_HI | IC_EVC_STAT
  | IC_WAKE_SEL | IC_WAKE_CAUSE | IC_LDG_ACTIVE_LO | IC_LDG_ACTIVE_HI | IC_LDG_CLR | IC_ARC_CFG | IC_ARC_WR
  | IC_ARC_RD | IC_ARC_FILL | IC_ARC_LOST | IC_ARC_EVT | IC_ARC_IRQ_EN | IC_ARC_TEMP | IC_LDG
  | TL_IRQ_EN | TL_CC_IRQ | TL_ARC_TRACE | LK_STUDIO | LK_STUDIO_CFG | LK_STUDIO_CMD | LK_STUDIO_STATUS
  | LK_STUDIO_EVT | LK_STUDIO_IRQ_EN | LK_VSTEP | LK_CFG | LK_CTRL | LK_STATUS | LK_EVT
  | LK_IRQ_EN | LK_RTT | LK_THETA_LO | LK_THETA_HI | LK_ASYM | LK_EV_MEAS | LK_CNT
  | LK_STRM_MEAS | LK_TXEV | LK_TXS_CFG | LK_RXS_CFG | LK_RXS_GAIN | LK_RXS_STAT | CAL_CTRL
  | CAL_STATUS | CAL_CMD | CAL_ARG | CAL_EVT | CAL_IRQ_EN | CAL_RCAL | CAL_REC_ID
  | CAL_OVR_CNT | CAL_OVR_ADDR_LO | CAL_OVR_ADDR_HI | CAL_CH_STATUS | CAL_XDEC | CAL_RESID | CAL_LOAD
  | CAL_PEND_TAG | CAL_TJ | SYS_IMG_SRC | SYS_IMG_ADDR_LO | SYS_IMG_ADDR_HI | SYS_IMG_LEN | SYS_IMG_CMD
  | SYS_IMG_STATUS | SYS_IMG_TILE | SYS_IMG_ID | SYS_TILE_CTRL | SYS_TILE_STATUS | SYS_PWR_CMD | SYS_PWR_STATUS
  | SYS_RESET | TL_GRANT | AON_BOOT_STATUS | AON_BOOT_FAILS | AON_BOOT_CMD | AON_BOOT_CFG | AON_BPB_REF
  | AON_BPB_PLL | AON_BOOT_PAY_ADDR_LO | AON_BOOT_PAY_ADDR_HI | AON_BOOT_PAY_LEN | AON_BSTAGE_T | AON_PWR_STATUS | AON_PWR_CMD
  | AON_PWR_CFG | AON_PWR_EVT | AON_LDR_ADDR_LO | AON_LDR_ADDR_HI | AON_LDR_OFS | AON_LDR_LEN | AON_LDR_CMD
  | AON_LDR_STATUS | SEC_STATUS | SEC_CMD | SEC_EVT | SEC_IRQ_EN | SEC_ALARM | SEC_NONCE
  | SEC_BOOT_CNT | SEC_FW_FLOOR | SEC_IMG_FLOOR | SEC_OVR_FLOOR | SEC_UID | SEC_ID_DIG | SEC_VKEY_DIG
  | SEC_OKEY_DIG | SEC_DNONCE | SEC_ID_PUB | SEC_ATT | SEC_XFER | SYS_ID | SYS_FAMILY
  | SYS_FAMILY2 | SYS_FAMILY3 | SYS_HIF_STATUS | SYS_HIF_EVT | SYS_PF_CFG | SYS_MSIX | SYS_MSIX_PBA
  | AON_EVT | AON_IRQ_EN | DMA_EVT | DMA_IRQ_EN | DMA_Q_ACTIVE_LO | DMA_Q_ACTIVE_HI | DMA_Q_CTRL
  | DMA_Q_STATUS | DMA_Q_HEAD | DMA_Q_TAIL | DMA_Q_BASE_LO | DMA_Q_BASE_HI | DMA_Q_SIZE | DMA_Q_EVT
  | DMA_Q_IRQ_EN | DMA_Q_BYTES_LO | DMA_Q_BYTES_HI | SYS_TJ | SYS_THERM | SYS_RAIL | SYS_WEAR
  | SYS_WEAR_USED | AON_BREC | MS_REFILL_BW | L_BOOT_READY | L_EVC_BUSY | L_EVC_LOOPS | L_EVC_LOOP_END
  | L_EVIO_IN | L_EVIO_OUT | L_EVIO_FALL_AT | L_TMR_NEXT | L_TMR_RUN | L_THR_ABOVE | L_THR_WORD
  | L_DOORBELL | L_CC_SLEEP | L_CC_HALTED | L_PF_FMASK | L_PF_PME_EN | L_IC_WOKEN | L_WAKE_SEEN
  | L_WAKE_START | L_ARC_FULL | L_CLAIM_DATA | L_LDG_AGAIN | L_LDG_AGAIN_UNIT | L_LDG_AGAIN_DETAIL | L_PWR_BUSY
  | L_PWR_NEXT | L_CH_SUM | L_TB_HELD | L_LDG_AGAIN_MAP | L_TB_WANT | L_TB_CLEAR_HELD | L_TB_EVER
  | L_TB_LOSS_TICK | L_TB_REL_CAUSE | L_TB_REL_TICK | L_TB_UNPARK_DUE | L_TB_MEAS_DUE | L_TB_ENTRY_DUE | L_TB_REACQ
  | L_TB_ANCHOR_TICK | L_TB_LOAD_OK | L_TB_EPIN_SEEN | L_TOD_SEC | L_TOD_NS | L_TOD_TICK | L_TOD_VALID
  | L_EPOCH_RUN | L_EPOCH_NEXT | L_EPOCH_OLD | L_EPOCH_OLD_TICK | L_EPOCH_OLD_WIDTH | L_SYSREF_RUN | L_SYSREF_NEXT
  | L_SYSREF_LEFT | L_STK_SR | L_REF_WINDOW_PS | L_STRM_RET | L_STRM_NEXT | L_WDROP_LATCHED | L_CARD_WR
  | L_CARD_RES | L_MARCH_MODE | L_STK_COLD_SINCE | L_COR_W0 | L_COR_RAMP | L_COR_ZERO | L_COR_FRAMES
  | L_COR_CTL | L_COR_DUE | L_COR_BUSY | L_COR_SWAP | L_COR_SLICE_BAD | L_STRM_LEAF | L_CAL_RUN
  | L_CAL_RUN_CH | L_PROD_WORD | L_RNG_AT | L_RNG_NEW | L_STK_BOOK_COLD | L_EQ_REQ_AT | L_EQ_SRC_AT
  | L_EQ_SRC_CUR | L_CH_D | L_CH_BAD | L_PP_BAD | L_DIE_GOOD_AT | L_DIE_UV | L_DIE_PG
  | L_PARK_N_LOW | L_TRIP | L_CAL_T_LAST | L_CAL_SEQ | L_CAL_RAISED | L_CAL_VRES | L_CAL_SRES
  | L_CAL_HELD | L_CAL_HELD_P | L_CAL_HELD_T | L_TIU_BOFS | L_TIU_CAL_AT | L_TIU_CAL_BUSY | L_DLY_TIU
  | L_JRX_STOP | L_PP_WORD | L_JTX_CODE | L_LK_GOOD | L_LK_PROLE | L_LK_PSTATE | L_LK_PUNREF
  | L_LK_SENT | L_LK_HDR | L_LK_HDR_F | L_LK_HDR_A | L_LK_TIU | L_LK_N | L_LK_SUM_T
  | L_LK_SUM_R | L_LK_T0 | L_LK_T1 | L_LK_AGAIN | L_LK_TXS_N | L_LK_RXS_LOG2 | L_LK_RXS_PH
  | L_LK_RXS_T | L_LK_RXS_POS | L_ST_FRESH | L_ST_OUT | L_LK_FAULTED | L_CAL_RUN_RANGE | L_CAL_RUN_KINDS
  | L_OVR_BUSY | L_IMG_AT | L_RI_AT | L_RI_NEXT | L_IMG_DEV | L_IMG_CNT | L_M_IMG
  | L_REISSUES | L_FW_CNT | L_M_FW | L_M_OVR | L_OVR_CNT | L_BOOT_DUE | L_BOOT_RETRY
  | L_BPB_OK | L_BPB_REF | L_BPB_PLL | L_BPB_MODE | L_PAY_ADDR | L_PAY_LEN | L_LDR_RES
  | L_PWR_OFF | L_RAIL_LOST | L_PWR_Q | L_PWR_THEN | L_FORCE_STBY | L_LC_FUSED | L_SEC_RUN
  | L_SEC_NEXT | L_ATT_TICK | L_ATT_FLAGS | L_NV_WRITES | L_SEC_RES | L_TAP_IR | L_BSR
  | L_SENS_SEEN | L_HOT155 | L_HOT160 | L_TRIP_FOR | L_COOL_FOR | L_WEAR_T | L_WEAR_C
  | L_WEAR_AGE | L_DMA_RAISED | L_DMA_ENDING
deriving DecidableEq, Repr

/-- Access codes of R20, with `RX` for a read/write field whose write is a row of its own (the row's command writes
it, REGISTER_WRITE leaves it alone), `WX` the same for a slow-domain field, `RSV` for a reserved bit of a reel
record (stored and returned by the BAR4 view only, R135) and `LT` for an internal latch. -/
inductive Acc where
  | RO | RW | RC | W1 | RS | WS | RX | WX | RSV | LT
deriving DecidableEq, Repr

/-- One field of a register: its lowest bit, its width, its access code and its reset value. -/
structure FieldSpec where
  lo : Nat
  w : Nat
  acc : Acc
  rst : Nat
deriving DecidableEq, Repr

/-- One field of one register instance: register `r`, device-wide instance `i`, sub-index (dword) `j`,
bits `[lo + w - 1 : lo]`. -/
structure Key where
  r : RName
  i : Nat
  j : Nat
  lo : Nat
  w : Nat
deriving DecidableEq, Repr

end Sys2Proof.Machine
end

