-- ==== Sys2Proof/Machine/Regs.lean ====
section
/-!
DEFINITION. The register tables of the manual as data: the fields of every register with their access codes (R20)
and reset values, the reset values that depend on the instance, and the address map of BAR0 (R26, R27).
-/
namespace Sys2Proof.Machine

/-- The fields of dword `j` of one reel record (spec 04 and 06, the record tables). -/
def reelLayout (j : Nat) : List FieldSpec :=
  match j with
  | 0 => [⟨26, 6, .RO, 0⟩, ⟨24, 2, .RW, 0⟩, ⟨21, 3, .RW, 0⟩, ⟨16, 5, .RO, 31⟩, ⟨11, 5, .RO, 31⟩, ⟨8, 3, .RW, 0⟩, ⟨7, 1, .RO, 0⟩, ⟨6, 1, .RO, 0⟩, ⟨0, 3, .RO, 0⟩, ⟨3, 3, .RSV, 0⟩]
  | 1 => [⟨16, 16, .RW, 0⟩, ⟨0, 16, .RW, 0⟩]
  | 2 => [⟨16, 16, .RO, 0⟩, ⟨0, 16, .RO, 0⟩]
  | 3 => [⟨31, 1, .RW, 0⟩, ⟨24, 7, .RW, 0⟩, ⟨8, 7, .RW, 0⟩, ⟨0, 1, .RW, 0⟩, ⟨1, 7, .RSV, 0⟩, ⟨15, 9, .RSV, 0⟩]
  | 4 => [⟨0, 32, .RW, 0⟩]
  | 5 => [⟨0, 32, .RW, 0⟩]
  | 6 => [⟨0, 32, .RW, 0⟩]
  | 7 => [⟨0, 32, .RW, 0⟩]
  | 8 => [⟨16, 12, .RW, 0⟩, ⟨0, 12, .RW, 0⟩, ⟨12, 4, .RSV, 0⟩, ⟨28, 4, .RSV, 0⟩]
  | 9 => [⟨0, 18, .RW, 0⟩, ⟨18, 14, .RSV, 0⟩]
  | 10 => [⟨0, 18, .RW, 0⟩, ⟨18, 14, .RSV, 0⟩]
  | 11 => [⟨0, 1, .RW, 0⟩, ⟨1, 31, .RSV, 0⟩]
  | 12 => [⟨0, 18, .RO, 0⟩, ⟨18, 14, .RSV, 0⟩]
  | 13 => [⟨0, 32, .RO, 0⟩]
  | 14 => [⟨0, 8, .RO, 0⟩, ⟨8, 24, .RSV, 0⟩]
  | 15 => [⟨0, 24, .RO, 0⟩, ⟨24, 8, .RSV, 0⟩]
  | 16 => [⟨31, 1, .RO, 0⟩, ⟨30, 1, .RO, 0⟩, ⟨24, 3, .RO, 0⟩, ⟨0, 16, .RO, 0⟩, ⟨16, 8, .RSV, 0⟩, ⟨27, 3, .RSV, 0⟩]
  | 17 => [⟨0, 32, .RO, 0⟩]
  | 18 => [⟨31, 1, .RO, 0⟩, ⟨30, 1, .RO, 0⟩, ⟨24, 3, .RO, 0⟩, ⟨0, 16, .RO, 0⟩, ⟨16, 8, .RSV, 0⟩, ⟨27, 3, .RSV, 0⟩]
  | 19 => [⟨0, 32, .RO, 0⟩]
  | 20 => [⟨31, 1, .RO, 0⟩, ⟨30, 1, .RO, 0⟩, ⟨24, 3, .RO, 0⟩, ⟨0, 16, .RO, 0⟩, ⟨16, 8, .RSV, 0⟩, ⟨27, 3, .RSV, 0⟩]
  | 21 => [⟨0, 32, .RO, 0⟩]
  | 22 => [⟨31, 1, .RO, 0⟩, ⟨30, 1, .RO, 0⟩, ⟨24, 3, .RO, 0⟩, ⟨0, 16, .RO, 0⟩, ⟨16, 8, .RSV, 0⟩, ⟨27, 3, .RSV, 0⟩]
  | 23 => [⟨0, 32, .RO, 0⟩]
  | 24 => [⟨16, 16, .RO, 0⟩, ⟨0, 16, .RO, 0⟩]
  | 25 => [⟨16, 16, .RO, 0⟩, ⟨0, 16, .RO, 0⟩]
  | 26 => [⟨31, 1, .RO, 0⟩, ⟨30, 1, .RO, 0⟩, ⟨28, 2, .RO, 0⟩, ⟨16, 7, .RO, 0⟩, ⟨0, 16, .RO, 0⟩, ⟨23, 5, .RSV, 0⟩]
  | 27 => [⟨0, 32, .RO, 0⟩]
  | 28 => [⟨0, 32, .RO, 0⟩]
  | 29 => [⟨0, 32, .RO, 0xffffffff⟩]
  | 30 => [⟨0, 32, .RO, 0xffffffff⟩]
  | 31 => [⟨16, 16, .RO, 0⟩, ⟨0, 16, .RO, 0⟩]
  | 32 => [⟨0, 32, .RW, 0⟩]
  | 33 => [⟨0, 32, .RW, 0⟩]
  | 34 => [⟨0, 32, .RW, 0⟩]
  | 35 => [⟨0, 32, .RW, 0⟩]
  | 36 => [⟨0, 17, .RW, 0⟩, ⟨17, 15, .RSV, 0⟩]
  | 37 => [⟨0, 32, .RW, 0⟩]
  | 38 => [⟨0, 32, .RW, 0⟩]
  | 39 => [⟨0, 18, .RW, 0⟩, ⟨18, 14, .RSV, 0⟩]
  | 40 => [⟨16, 16, .RO, 0⟩, ⟨8, 8, .RO, 0⟩, ⟨0, 8, .RW, 0⟩]
  | 41 => [⟨0, 32, .RW, 0⟩]
  | 42 => [⟨0, 16, .RW, 0⟩, ⟨16, 16, .RSV, 0⟩]
  | 43 => [⟨0, 32, .RW, 0⟩]
  | 44 => [⟨24, 5, .RW, 0⟩, ⟨16, 5, .RW, 0⟩, ⟨8, 4, .RW, 0⟩, ⟨0, 1, .RO, 0⟩, ⟨1, 7, .RSV, 0⟩, ⟨12, 4, .RSV, 0⟩, ⟨21, 3, .RSV, 0⟩, ⟨29, 3, .RSV, 0⟩]
  | 45 => [⟨0, 18, .RW, 0⟩, ⟨18, 14, .RSV, 0⟩]
  | 46 => [⟨0, 18, .RW, 0⟩, ⟨18, 14, .RSV, 0⟩]
  | 47 => [⟨0, 11, .RW, 0⟩, ⟨11, 21, .RSV, 0⟩]
  | 48 => [⟨0, 32, .RW, 0⟩]
  | 49 => [⟨0, 32, .RW, 0⟩]
  | 50 => [⟨0, 32, .RW, 0⟩]
  | 51 => [⟨0, 18, .RW, 0⟩, ⟨18, 14, .RSV, 0⟩]
  | 52 => [⟨8, 8, .RO, 0⟩, ⟨0, 8, .RW, 0⟩, ⟨16, 16, .RSV, 0⟩]
  | 53 => [⟨16, 7, .RW, 0⟩, ⟨8, 1, .RW, 0⟩, ⟨0, 4, .RW, 0⟩, ⟨4, 4, .RSV, 0⟩, ⟨9, 7, .RSV, 0⟩, ⟨23, 9, .RSV, 0⟩]
  | 54 => [⟨0, 18, .RW, 0⟩, ⟨18, 14, .RSV, 0⟩]
  | 55 => [⟨21, 11, .RO, 0⟩, ⟨0, 17, .RO, 0⟩, ⟨17, 4, .RSV, 0⟩]
  | 56 => [⟨0, 32, .RO, 0⟩]
  | 57 => [⟨0, 32, .RO, 0⟩]
  | 58 => [⟨0, 32, .RO, 0⟩]
  | 59 => [⟨0, 32, .RO, 0⟩]
  | 60 => [⟨0, 32, .RO, 0⟩]
  | 61 => [⟨0, 32, .RO, 0⟩]
  | 62 => [⟨0, 32, .RO, 0⟩]
  | 63 => [⟨16, 16, .RO, 0⟩, ⟨0, 16, .RO, 0⟩]
  | _ => []

/-- The fields of dword `j` of one ledger entry (spec 12). -/
def ledgerLayout (j : Nat) : List FieldSpec :=
  match j with
  | 0 => [⟨31, 1, .RO, 0⟩, ⟨30, 1, .RC, 0⟩, ⟨29, 1, .RO, 0⟩, ⟨16, 6, .RO, 0⟩, ⟨0, 12, .RO, 0⟩]
  | 1 => [⟨0, 16, .RO, 0⟩]
  | 2 => [⟨0, 32, .RO, 0⟩]
  | 3 => [⟨0, 32, .RO, 0⟩]
  | 4 => [⟨0, 32, .RO, 0⟩]
  | 5 => [⟨0, 32, .RO, 0⟩]
  | 6 => [⟨0, 32, .RO, 0⟩]
  | n => if 8 ≤ n ∧ n ≤ 42 then [⟨0, 32, .RO, 0⟩] else []

/-- The fields of dword `j` of one boot record (spec 15). -/
def bootRecLayout (j : Nat) : List FieldSpec :=
  match j with
  | 0 => [⟨31, 1, .RS, 0⟩, ⟨16, 8, .RS, 0⟩, ⟨8, 4, .RS, 0⟩, ⟨4, 2, .RS, 0⟩, ⟨0, 2, .RS, 0⟩]
  | 1 => [⟨0, 32, .RS, 0⟩]
  | 2 => [⟨0, 32, .RS, 0⟩]
  | 3 => [⟨0, 2, .RS, 0⟩]
  | _ => []

/-- The fields of a register, from the top bit down; `j` is the dword of a register set that has several. -/
def layout (r : RName) (j : Nat) : List FieldSpec :=
  match r with
  | .TB_CTRL => [⟨11, 5, .RW, 0⟩, ⟨10, 1, .RW, 1⟩, ⟨9, 1, .RW, 1⟩]
  | .TB_STATUS => [⟨16, 4, .RO, 0⟩, ⟨6, 1, .RO, 0⟩, ⟨5, 1, .RO, 0⟩, ⟨4, 1, .RO, 0⟩, ⟨3, 1, .RO, 0⟩, ⟨2, 1, .RO, 0⟩, ⟨1, 1, .RO, 0⟩, ⟨0, 1, .RO, 0⟩]
  | .TB_EVT => [⟨7, 1, .RC, 0⟩, ⟨6, 1, .RC, 0⟩, ⟨5, 1, .RC, 0⟩, ⟨4, 1, .RC, 0⟩, ⟨3, 1, .RC, 0⟩, ⟨2, 1, .RC, 0⟩, ⟨1, 1, .RC, 0⟩, ⟨0, 1, .RC, 0⟩]
  | .TB_CMD => [⟨4, 1, .W1, 0⟩, ⟨3, 1, .W1, 0⟩, ⟨2, 1, .W1, 0⟩, ⟨1, 1, .W1, 0⟩, ⟨0, 1, .W1, 0⟩]
  | .TB_TICK_LO => [⟨0, 32, .RO, 0⟩]
  | .TB_TICK_HI => [⟨0, 32, .RO, 0⟩]
  | .TB_LOAD_LO => [⟨0, 32, .RW, 0⟩]
  | .TB_LOAD_HI => [⟨0, 32, .RW, 0⟩]
  | .TB_REFLOSS_ACT => [⟨0, 2, .RW, 1⟩]
  | .TB_RELOCK_AUTO => [⟨0, 1, .RW, 1⟩]
  | .TB_FTRIM => [⟨16, 9, .RO, 0⟩, ⟨0, 9, .RW, 0⟩]
  | .TB_ANCHOR_RES => [⟨0, 32, .RO, 0⟩]
  | .TB_ANCHOR_TGT => [⟨0, 32, .RW, 0⟩]
  | .TB_DISC => [⟨0, 32, .RO, 0⟩]
  | .TB_COAST_LO => [⟨0, 32, .RO, 0⟩]
  | .TB_COAST_HI => [⟨0, 32, .RO, 0⟩]
  | .TB_TOD_SEC_LO => [⟨0, 32, .RW, 0⟩]
  | .TB_TOD_SEC_HI => [⟨0, 16, .RW, 0⟩]
  | .TB_TOD_NS => [⟨0, 30, .RW, 0⟩]
  | .TB_TOD_TICK_LO => [⟨0, 32, .RW, 0⟩]
  | .TB_TOD_TICK_HI => [⟨0, 32, .RW, 0⟩]
  | .TB_ANCHOR_AT_LO => [⟨0, 32, .RW, 0⟩]
  | .TB_ANCHOR_AT_HI => [⟨0, 32, .RW, 0⟩]
  | .TB_EPIN_CFG => [⟨0, 2, .RW, 0⟩]
  | .TB_EPIN_STAMP_LO => [⟨0, 32, .RO, 0⟩]
  | .TB_EPIN_STAMP_HI => [⟨0, 32, .RO, 0⟩]
  | .TB_EPOCH_CFG => [⟨31, 1, .RX, 0⟩, ⟨29, 2, .RX, 0⟩, ⟨23, 6, .RX, 0⟩, ⟨8, 8, .RX, 0⟩]
  | .TB_EPOCH_PER_LO => [⟨0, 32, .RX, 0⟩]
  | .TB_EPOCH_PER_HI => [⟨0, 32, .RX, 0⟩]
  | .TB_EPOCH_OFS => [⟨0, 32, .RX, 0⟩]
  | .TB_SYSREF_CFG => [⟨31, 1, .RX, 0⟩, ⟨30, 1, .RX, 0⟩, ⟨16, 8, .RX, 1⟩, ⟨8, 8, .RX, 0⟩]
  | .TB_SYSREF_PER => [⟨0, 32, .RX, 0⟩]
  | .TB_SYSREF_OFS => [⟨0, 32, .RX, 0⟩]
  | .REF_CFG => [⟨26, 5, .WX, 4⟩, ⟨8, 18, .WX, 0x186a0⟩, ⟨2, 1, .WX, 1⟩, ⟨0, 2, .WX, 0⟩]
  | .REF_STATUS => [⟨26, 1, .RS, 0⟩, ⟨25, 1, .RS, 0⟩, ⟨24, 1, .RS, 0⟩, ⟨0, 18, .RS, 0⟩]
  | .REF_OUT_CFG => [⟨3, 1, .RW, 0⟩, ⟨2, 1, .RW, 0⟩, ⟨1, 1, .RW, 0⟩, ⟨0, 1, .RW, 0⟩]
  | .PLL_CFG => [⟨31, 1, .RW, 0⟩, ⟨29, 2, .RW, 0⟩, ⟨24, 4, .RW, 9⟩, ⟨12, 12, .RW, 256⟩]
  | .PLL_CTRL => [⟨0, 1, .RX, 0⟩]
  | .PLL_STATUS => [⟨8, 8, .RO, 0⟩, ⟨4, 4, .RO, 0⟩, ⟨2, 1, .RO, 0⟩, ⟨1, 1, .RO, 0⟩, ⟨0, 1, .RO, 0⟩]
  | .MS_CFG => [⟨30, 2, .RO, 0⟩, ⟨0, 18, .RO, 0x1000⟩]
  | .MS_EVT => [⟨8, 1, .RC, 0⟩, ⟨7, 1, .RC, 0⟩, ⟨6, 1, .RC, 0⟩, ⟨5, 1, .RC, 0⟩, ⟨4, 1, .RC, 0⟩, ⟨3, 1, .RC, 0⟩, ⟨2, 1, .RC, 0⟩, ⟨1, 1, .RC, 0⟩, ⟨0, 1, .RC, 0⟩]
  | .MS_THERM_POL => [⟨0, 2, .RW, 0⟩]
  | .MS_CARD_IDX => [⟨0, 18, .RW, 0⟩]
  | .MS_CARD_CMD => [⟨31, 1, .RO, 0⟩, ⟨28, 3, .RO, 0⟩, ⟨1, 1, .W1, 0⟩, ⟨0, 1, .W1, 0⟩]
  | .MS_CMD => [⟨0, 1, .W1, 0⟩]
  | .MS_LOAN_IDX => [⟨0, 18, .RW, 0⟩]
  | .MS_LOAN_CNT => [⟨0, 11, .RO, 0⟩]
  | .MS_LEAF_IDX => [⟨0, 20, .RW, 0⟩]
  | .MS_LEAF_LOAN => [⟨4, 1, .RO, 0⟩, ⟨0, 4, .RO, 0⟩]
  | .MS_WDROP_CNT => [⟨0, 32, .RO, 0⟩]
  | .MS_WDROP_ADDR_LO => [⟨0, 32, .RO, 0⟩]
  | .MS_WDROP_ADDR_HI => [⟨0, 4, .RO, 0⟩]
  | .MS_WDROP_SRC => [⟨16, 4, .RO, 0⟩, ⟨8, 6, .RO, 0⟩, ⟨0, 2, .RO, 0⟩]
  | .MS_STK_STATUS => [⟨24, 2, .RS, 0⟩, ⟨16, 1, .RS, 0⟩, ⟨0, 16, .RS, 0⟩]
  | .MS_ECC_CNT => [⟨16, 16, .RO, 0⟩, ⟨0, 16, .RO, 0⟩]
  | .MS_CARD_DATA => [⟨0, 32, .RW, 0⟩]
  | .MS_STRM_CFG => [⟨31, 1, .W1, 0⟩, ⟨29, 2, .RW, 0⟩, ⟨16, 6, .RW, 0⟩]
  | .MS_STRM_FILL => [⟨0, 32, .RO, 0⟩]
  | .MS_STRM_PLAY => [⟨0, 32, .RO, 0⟩]
  | .MS_STRM_CNT => [⟨16, 16, .RO, 0⟩, ⟨0, 16, .RO, 0⟩]
  | .MS_STRM_COMMIT => [⟨0, 32, .RX, 0⟩]
  | .MS_STRM_CARD => [⟨31, 1, .RX, 0⟩, ⟨0, 18, .RX, 0⟩]
  | .TL_MARCH_CTRL => [⟨31, 1, .W1, 0⟩, ⟨30, 1, .RX, 0⟩, ⟨0, 5, .RX, 0⟩]
  | .TL_MARCH_STATUS => [⟨31, 1, .RO, 0⟩, ⟨28, 3, .RO, 0⟩, ⟨16, 5, .RO, 0⟩, ⟨0, 16, .RO, 0⟩]
  | .TL_MARCH_ADDR => [⟨0, 13, .RO, 0⟩]
  | .TL_SP_OFFLINE => [⟨0, 32, .RO, 0⟩]
  | .TL_SP_ECC => [⟨16, 16, .RO, 0⟩, ⟨0, 16, .RO, 0⟩]
  | .TL_SP_EVT => [⟨2, 1, .RC, 0⟩, ⟨1, 1, .RC, 0⟩, ⟨0, 1, .RC, 0⟩]
  | .REEL => reelLayout j
  | .TL_PIPE_LAT => [⟨0, 7, .RO, 0⟩]
  | .TL_LANES => [⟨0, 28, .RO, 0⟩]
  | .TL_REEL_IDX => [⟨0, 7, .RW, 0⟩]
  | .TL_REEL_ARG_LO => [⟨0, 32, .RW, 0⟩]
  | .TL_REEL_ARG_HI => [⟨0, 32, .RW, 0⟩]
  | .TL_REEL_CMD => [⟨31, 1, .RO, 0⟩, ⟨27, 4, .RO, 0⟩, ⟨3, 1, .W1, 0⟩, ⟨2, 1, .W1, 0⟩, ⟨1, 1, .W1, 0⟩, ⟨0, 1, .W1, 0⟩]
  | .TL_REEL_EVT => [⟨7, 1, .RC, 0⟩, ⟨6, 1, .RC, 0⟩, ⟨5, 1, .RC, 0⟩, ⟨4, 1, .RC, 0⟩, ⟨3, 1, .RC, 0⟩, ⟨2, 1, .RC, 0⟩, ⟨1, 1, .RC, 0⟩, ⟨0, 1, .RC, 0⟩]
  | .TL_REEL_ACTIVE => [⟨0, 32, .RO, 0⟩]
  | .TL_REEL_FAULTED => [⟨0, 32, .RO, 0⟩]
  | .TL_REEL_FLT_LAST => [⟨8, 6, .RO, 0⟩, ⟨0, 7, .RO, 0⟩]
  | .TL_EVR_SEL => [⟨0, 7, .RW, 0⟩]
  | .TL_EVR_STAMP_LO => [⟨0, 32, .RO, 0⟩]
  | .TL_EVR_STAMP_HI => [⟨0, 32, .RO, 0⟩]
  | .TL_EVR_LOCAL_LO => [⟨0, 32, .RO, 0xffffffff⟩]
  | .TL_EVR_LOCAL_HI => [⟨0, 32, .RO, 0xffffffff⟩]
  | .TL_EVR_STATUS => [⟨31, 1, .RO, 0⟩, ⟨8, 16, .RO, 0⟩, ⟨2, 1, .RO, 0⟩, ⟨1, 1, .RO, 0⟩, ⟨0, 1, .RO, 0⟩]
  | .TL_CUT_EVT => [⟨6, 1, .RC, 0⟩, ⟨5, 1, .RC, 0⟩, ⟨4, 1, .RC, 0⟩, ⟨3, 1, .RC, 0⟩, ⟨2, 1, .RC, 0⟩, ⟨1, 1, .RC, 0⟩, ⟨0, 1, .RC, 0⟩]
  | .TL_CUT_CNT => [⟨0, 32, .RO, 0⟩]
  | .TL_HEAD_STATUS => [⟨16, 6, .RO, 0⟩, ⟨0, 6, .RO, 0⟩]
  | .TL_HEAD_MISS => [⟨16, 16, .RO, 0⟩, ⟨0, 16, .RO, 0⟩]
  | .TL_LATE_CNT => [⟨0, 32, .RO, 0⟩]
  | .TL_LATE_WORDS_LO => [⟨0, 32, .RO, 0⟩]
  | .TL_LATE_WORDS_HI => [⟨0, 32, .RO, 0⟩]
  | .TL_LATE_LAST => [⟨16, 3, .RO, 0⟩, ⟨8, 2, .RO, 0⟩, ⟨0, 7, .RO, 0⟩]
  | .TL_VSTG_REEL => [⟨0, 7, .RW, 0⟩]
  | .TL_VSTG_KIND => [⟨0, 3, .RW, 0⟩]
  | .TL_VSTG_VAL_LO => [⟨0, 32, .RW, 0⟩]
  | .TL_VSTG_VAL_HI => [⟨0, 32, .RW, 0⟩]
  | .TL_VSTG_LAST => [⟨8, 7, .RO, 0⟩, ⟨0, 7, .RO, 0⟩]
  | .TL_VSTG_TICK_LO => [⟨0, 32, .RO, 0⟩]
  | .TL_VSTG_TICK_HI => [⟨0, 32, .RO, 0⟩]
  | .TL_VSTG_PEND => [⟨0, 32, .RO, 0⟩]
  | .TL_VSTG_CMD => [⟨31, 1, .RO, 0⟩, ⟨28, 3, .RO, 0⟩, ⟨1, 1, .W1, 0⟩, ⟨0, 1, .W1, 0⟩]
  | .TL_VSTG_EVT => [⟨2, 1, .RC, 0⟩, ⟨1, 1, .RC, 0⟩, ⟨0, 1, .RC, 0⟩]
  | .CH_CTRL => [⟨1, 1, .RX, 0⟩, ⟨0, 1, .RX, 1⟩]
  | .CH_STATUS => [⟨18, 1, .RO, 0⟩, ⟨17, 1, .RO, 0⟩, ⟨16, 1, .RO, 0⟩, ⟨3, 1, .RO, 0⟩, ⟨0, 3, .RO, 0⟩]
  | .CH_EVT => [⟨12, 1, .RC, 0⟩, ⟨11, 1, .RC, 0⟩, ⟨10, 1, .RC, 0⟩, ⟨9, 1, .RC, 0⟩, ⟨8, 1, .RC, 0⟩, ⟨7, 1, .RC, 0⟩, ⟨6, 1, .RC, 0⟩, ⟨4, 1, .RC, 0⟩, ⟨3, 1, .RC, 0⟩, ⟨2, 1, .RC, 0⟩, ⟨1, 1, .RC, 0⟩, ⟨0, 1, .RC, 0⟩]
  | .CH_PARK_SRC => [⟨0, 11, .RO, 1⟩]
  | .CH_CMD => [⟨2, 1, .W1, 0⟩, ⟨1, 1, .W1, 0⟩, ⟨0, 1, .W1, 0⟩]
  | .CH_RANGE => [⟨16, 2, .RO, 0⟩, ⟨8, 2, .RO, 0⟩, ⟨0, 2, .RW, 0⟩]
  | .CH_RNG_AT_LO => [⟨0, 32, .RW, 0⟩]
  | .CH_RNG_AT_HI => [⟨0, 32, .RW, 0⟩]
  | .CH_CFG => [⟨31, 1, .RW, 0⟩, ⟨0, 10, .RW, 0⟩]
  | .CH_EQ_CFG => [⟨5, 1, .RO, 0⟩, ⟨4, 1, .RO, 0⟩, ⟨0, 2, .RW, 1⟩]
  | .CH_IRQ_EN => [⟨0, 13, .RW, 0⟩]
  | .CH_CAL_GAIN => [⟨0, 20, .RO, 0x40000⟩]
  | .CH_CAL_OFS => [⟨0, 16, .RO, 0⟩]
  | .CH_CAL_SKEW => [⟨16, 10, .RO, 0⟩, ⟨0, 10, .RO, 0⟩]
  | .CH_CAL_TAG => [⟨0, 32, .RO, 0⟩]
  | .CH_EQ_COEF => [⟨0, 20, .RX, 0⟩]
  | .CH_INL => [⟨0, 16, .RO, 0⟩]
  | .PP_CFG => [⟨30, 2, .RO, 0⟩, ⟨29, 1, .RO, 0⟩, ⟨24, 3, .RO, 0⟩, ⟨16, 3, .RO, 0⟩, ⟨8, 5, .RO, 0⟩, ⟨4, 3, .RO, 0⟩, ⟨0, 3, .RO, 0⟩]
  | .PP_CTRL => [⟨1, 1, .RW, 0⟩, ⟨0, 1, .RX, 1⟩]
  | .PP_STATUS => [⟨18, 1, .RO, 0⟩, ⟨17, 1, .RO, 0⟩, ⟨16, 1, .RO, 0⟩, ⟨0, 3, .RO, 0⟩]
  | .PP_EVT => [⟨15, 1, .RC, 0⟩, ⟨14, 1, .RC, 0⟩, ⟨13, 1, .RC, 0⟩, ⟨12, 1, .RC, 0⟩, ⟨11, 1, .RC, 0⟩, ⟨10, 1, .RC, 0⟩, ⟨9, 1, .RC, 0⟩, ⟨8, 1, .RC, 0⟩, ⟨7, 1, .RC, 0⟩, ⟨6, 1, .RC, 0⟩, ⟨5, 1, .RC, 0⟩, ⟨4, 1, .RC, 0⟩, ⟨3, 1, .RC, 0⟩, ⟨2, 1, .RC, 0⟩, ⟨1, 1, .RC, 0⟩, ⟨0, 1, .RC, 0⟩]
  | .PP_PARK_SRC => [⟨0, 10, .RO, 1⟩]
  | .PP_CMD => [⟨3, 1, .W1, 0⟩, ⟨2, 1, .W1, 0⟩, ⟨1, 1, .W1, 0⟩, ⟨0, 1, .W1, 0⟩]
  | .PP_IDLE => [⟨0, 16, .RW, 0⟩]
  | .PP_FDLY => [⟨16, 10, .RO, 0⟩, ⟨0, 10, .RW, 0⟩]
  | .PP_DLY_ZERO => [⟨0, 16, .RO, 0⟩]
  | .PP_TX_DRV => [⟨16, 4, .RW, 0⟩, ⟨8, 5, .RW, 0⟩, ⟨0, 4, .RW, 8⟩]
  | .PP_RX_CFG => [⟨8, 1, .RW, 1⟩, ⟨0, 4, .RW, 6⟩]
  | .PP_RX_STAT => [⟨16, 6, .RO, 0⟩, ⟨0, 16, .RO, 0⟩]
  | .PP_IRQ_EN => [⟨0, 16, .RW, 0⟩]
  | .PP_CAP_CFG => [⟨31, 1, .RW, 0⟩, ⟨30, 1, .RW, 0⟩, ⟨0, 18, .RW, 0⟩]
  | .PP_CAP_AT_LO => [⟨0, 32, .RW, 0⟩]
  | .PP_CAP_AT_HI => [⟨0, 32, .RW, 0⟩]
  | .PP_CAP_LEN_LO => [⟨0, 32, .RW, 0⟩]
  | .PP_CAP_LEN_HI => [⟨0, 8, .RW, 0⟩]
  | .PP_CAP_CNT_LO => [⟨0, 32, .RO, 0⟩]
  | .PP_CAP_CNT_HI => [⟨0, 8, .RO, 0⟩]
  | .PP_CAP_START_LO => [⟨0, 32, .RO, 0⟩]
  | .PP_CAP_START_HI => [⟨0, 32, .RO, 0⟩]
  | .PP_JCFG0 => [⟨28, 4, .RO, 0⟩, ⟨23, 5, .RO, 0⟩, ⟨18, 5, .RO, 0⟩, ⟨13, 5, .RO, 0⟩, ⟨8, 5, .RO, 0⟩, ⟨5, 3, .RO, 0⟩, ⟨0, 5, .RO, 0⟩]
  | .PP_JCFG1 => [⟨24, 8, .RO, 0⟩, ⟨0, 3, .RW, 0⟩]
  | .PP_JCTRL => [⟨31, 1, .RX, 0⟩, ⟨0, 16, .RW, 0⟩]
  | .PP_JLAT => [⟨0, 11, .RO, 0⟩]
  | .PP_JRX_TOFS => [⟨0, 32, .RW, 0⟩]
  | .PP_JSTAT => [⟨16, 8, .RO, 0⟩, ⟨0, 3, .RO, 0⟩]
  | .PP_JERR => [⟨16, 16, .RO, 0⟩, ⟨0, 16, .RO, 0⟩]
  | .COR_GRP_CFG => [⟨31, 1, .RO, 0⟩, ⟨26, 5, .RO, 0⟩, ⟨21, 5, .RO, 0⟩, ⟨17, 4, .RO, 0⟩, ⟨12, 4, .RO, 0⟩, ⟨8, 4, .RO, 0⟩, ⟨3, 1, .RO, 0⟩, ⟨0, 3, .RO, 0⟩]
  | .COR_GRP_SLICE => [⟨0, 16, .RO, 0⟩]
  | .COR_GRP_CTRL => [⟨24, 4, .RW, 4⟩, ⟨16, 8, .RW, 1⟩, ⟨8, 8, .RW, 16⟩, ⟨0, 8, .RW, 128⟩]
  | .COR_GRP_CMD => [⟨7, 1, .W1, 0⟩, ⟨6, 1, .W1, 0⟩, ⟨5, 1, .W1, 0⟩, ⟨4, 1, .W1, 0⟩, ⟨3, 1, .W1, 0⟩, ⟨2, 1, .W1, 0⟩, ⟨1, 1, .W1, 0⟩, ⟨0, 1, .W1, 0⟩]
  | .COR_GRP_STATUS => [⟨28, 4, .RO, 0⟩, ⟨24, 4, .RO, 0⟩, ⟨10, 1, .RO, 0⟩, ⟨9, 1, .RO, 0⟩, ⟨8, 1, .RO, 0⟩, ⟨7, 1, .RO, 0⟩, ⟨6, 1, .RO, 0⟩, ⟨5, 1, .RO, 0⟩]
  | .COR_GRP_EVT => [⟨10, 1, .RC, 0⟩, ⟨9, 1, .RC, 0⟩, ⟨8, 1, .RC, 0⟩, ⟨7, 1, .RC, 0⟩, ⟨6, 1, .RC, 0⟩, ⟨5, 1, .RC, 0⟩, ⟨4, 1, .RC, 0⟩, ⟨3, 1, .RC, 0⟩, ⟨2, 1, .RC, 0⟩, ⟨1, 1, .RC, 0⟩, ⟨0, 1, .RC, 0⟩]
  | .COR_QUAL => [⟨0, 16, .RO, 0⟩]
  | .COR_LEVEL => [⟨0, 16, .RX, 0xf400⟩]
  | .COR_STEP => [⟨16, 16, .RW, 768⟩, ⟨0, 16, .RW, 256⟩]
  | .COR_PH_STEP => [⟨0, 16, .RW, 0x1e00⟩]
  | .COR_LIM_LINE => [⟨16, 16, .RW, 1536⟩, ⟨0, 16, .RW, 768⟩]
  | .COR_LIM_RMS => [⟨16, 16, .RW, 768⟩, ⟨0, 16, .RW, 384⟩]
  | .COR_ABT_LINES => [⟨0, 14, .RW, 8⟩]
  | .COR_ABT_TIME => [⟨0, 14, .RW, 1000⟩]
  | .COR_DRV_MAX => [⟨0, 16, .RW, 0x7fff⟩]
  | .COR_REG => [⟨0, 32, .RW, 0x3a83126f⟩]
  | .COR_STORE => [⟨0, 20, .RW, 0⟩]
  | .COR_DRV_LVL => [⟨16, 16, .RO, 0⟩, ⟨0, 16, .RO, 0⟩]
  | .COR_CNT => [⟨16, 16, .RO, 0⟩, ⟨0, 16, .RO, 0⟩]
  | .COR_CNT2 => [⟨16, 16, .RO, 0⟩, ⟨0, 14, .RO, 0⟩]
  | .COR_IRQ_EN => [⟨0, 11, .RW, 0⟩]
  | .COR_GRP_DRV => [⟨31, 1, .RO, 0⟩, ⟨0, 10, .RO, 0⟩]
  | .COR_IN_CFG => [⟨30, 2, .RO, 0⟩, ⟨16, 9, .RO, 0⟩, ⟨4, 2, .RO, 0⟩, ⟨0, 4, .RO, 0⟩]
  | .COR_IN_STAT => [⟨2, 1, .RO, 0⟩, ⟨1, 1, .RC, 0⟩, ⟨0, 1, .RC, 0⟩]
  | .TIU_CTRL => [⟨2, 1, .W1, 0⟩, ⟨1, 1, .W1, 0⟩, ⟨0, 1, .RX, 1⟩]
  | .TIU_CFG => [⟨31, 1, .RW, 0⟩, ⟨30, 1, .RW, 0⟩, ⟨29, 1, .RW, 0⟩, ⟨0, 16, .RW, 0⟩]
  | .TIU_SRC => [⟨16, 9, .RW, 0⟩, ⟨0, 9, .RW, 0⟩]
  | .TIU_STATUS => [⟨24, 4, .RO, 0⟩, ⟨20, 3, .RO, 0⟩, ⟨18, 1, .RO, 0⟩, ⟨17, 1, .RO, 0⟩, ⟨16, 1, .RO, 0⟩, ⟨0, 3, .RO, 0⟩]
  | .TIU_EVT => [⟨8, 1, .RC, 0⟩, ⟨7, 1, .RC, 0⟩, ⟨6, 1, .RC, 0⟩, ⟨5, 1, .RC, 0⟩, ⟨4, 1, .RC, 0⟩, ⟨3, 1, .RC, 0⟩, ⟨2, 1, .RC, 0⟩, ⟨1, 1, .RC, 0⟩, ⟨0, 1, .RC, 0⟩]
  | .TIU_PRESCALE => [⟨0, 16, .RW, 0⟩]
  | .TIU_MAXN => [⟨0, 21, .RW, 0⟩]
  | .TIU_AT_LO => [⟨0, 32, .RW, 0⟩]
  | .TIU_AT_HI => [⟨0, 32, .RW, 0⟩]
  | .TIU_LIMIT_LO => [⟨0, 32, .RW, 0⟩]
  | .TIU_LIMIT_HI => [⟨0, 8, .RW, 0⟩]
  | .TIU_IRQ_EN => [⟨0, 9, .RW, 0⟩]
  | .TIU_CAL_CMD => [⟨0, 1, .W1, 0⟩]
  | .TIU_CAL_STAT => [⟨16, 16, .RO, 0⟩, ⟨0, 16, .RO, 0⟩]
  | .TIU_RUN_LO => [⟨0, 32, .RO, 0⟩]
  | .TIU_RUN_HI => [⟨0, 16, .RO, 0⟩]
  | .TIU_RSTAT => [⟨28, 4, .RO, 0⟩, ⟨7, 21, .RO, 0⟩, ⟨6, 1, .RO, 0⟩, ⟨5, 1, .RO, 0⟩, ⟨4, 1, .RO, 0⟩, ⟨3, 1, .RO, 0⟩, ⟨2, 1, .RO, 0⟩, ⟨1, 1, .RO, 0⟩, ⟨0, 1, .RO, 0⟩]
  | .TIU_OVERRUN => [⟨0, 16, .RO, 0⟩]
  | .TIU_START => [⟨0, 32, .RO, 0⟩]
  | .TIU_STOP => [⟨0, 32, .RO, 0⟩]
  | .TIU_ISUM_LO => [⟨0, 32, .RO, 0⟩]
  | .TIU_ISUM_HI => [⟨0, 32, .RO, 0⟩]
  | .TIU_IMIN_LO => [⟨0, 32, .RO, 0⟩]
  | .TIU_IMIN_HI => [⟨0, 32, .RO, 0⟩]
  | .TIU_IMAX_LO => [⟨0, 32, .RO, 0⟩]
  | .TIU_IMAX_HI => [⟨0, 32, .RO, 0⟩]
  | .TIU_FREQ_RATIO_LO => [⟨0, 32, .RO, 0⟩]
  | .TIU_FREQ_RATIO_HI => [⟨0, 32, .RO, 0⟩]
  | .TIU_FREQ_EXP => [⟨0, 6, .RO, 0⟩]
  | .TIU_SUM_T => [⟨0, 32, .RO, 0⟩]
  | .TIU_SUM_IT => [⟨0, 32, .RO, 0⟩]
  | .TIU_TAP => [⟨16, 16, .RO, 512⟩, ⟨0, 16, .RO, 512⟩]
  | .EV_GRP_EN => [⟨0, 16, .RX, 0xffff⟩]
  | .EV_FIRE => [⟨0, 32, .W1, 0⟩]
  | .EV_EVT => [⟨5, 1, .RC, 0⟩, ⟨4, 1, .RC, 0⟩, ⟨3, 1, .RC, 0⟩, ⟨2, 1, .RC, 0⟩, ⟨1, 1, .RC, 0⟩, ⟨0, 1, .RC, 0⟩]
  | .EV_CMD => [⟨0, 1, .W1, 0⟩]
  | .EV_TASK_FIRE => [⟨0, 10, .RX, 0⟩]
  | .EV_LOOP_STAT => [⟨0, 32, .RC, 0⟩]
  | .EV_SLEEP_SEEN => [⟨0, 32, .RC, 0⟩]
  | .EV_GRP_MAP => [⟨0, 32, .RO, 0⟩]
  | .EV_IRQ_SEL => [⟨7, 1, .RW, 0⟩, ⟨0, 7, .RW, 0⟩]
  | .EV_EVIO_PAIR => [⟨0, 8, .RW, 0⟩]
  | .EV_EVIO_CFG => [⟨31, 1, .RW, 0⟩, ⟨30, 1, .RW, 0⟩, ⟨29, 1, .RW, 0⟩, ⟨18, 7, .RW, 0⟩, ⟨9, 9, .RW, 0⟩, ⟨0, 8, .RW, 0⟩]
  | .EV_TMR_CFG => [⟨31, 1, .RX, 0⟩, ⟨30, 1, .RX, 0⟩]
  | .EV_TMR_PER_LO => [⟨0, 32, .RW, 0⟩]
  | .EV_TMR_PER_HI => [⟨0, 32, .RW, 0⟩]
  | .EV_TMR_OFS_LO => [⟨0, 32, .RW, 0⟩]
  | .EV_TMR_OFS_HI => [⟨0, 32, .RW, 0⟩]
  | .EV_THR_CFG => [⟨31, 1, .RW, 0⟩, ⟨30, 1, .RW, 0⟩, ⟨28, 2, .RW, 0⟩, ⟨16, 6, .RW, 0⟩]
  | .EV_THR_LVL => [⟨16, 16, .RW, 0⟩, ⟨0, 16, .RW, 0⟩]
  | .EV_TASK_CFG => [⟨31, 1, .RX, 0⟩, ⟨30, 1, .RX, 0⟩, ⟨0, 7, .RX, 0⟩]
  | .EV_TASK_STAT => [⟨31, 1, .RC, 0⟩, ⟨30, 1, .RC, 0⟩, ⟨24, 3, .RO, 0⟩, ⟨12, 12, .RO, 0⟩, ⟨0, 12, .RO, 0⟩]
  | .EV_MATRIX => [⟨0, 32, .RX, 0⟩]
  | .IC_ROUTE => [⟨31, 1, .RX, 0⟩, ⟨9, 1, .RX, 0⟩, ⟨8, 1, .RX, 0⟩, ⟨4, 4, .RX, 0⟩, ⟨0, 4, .RX, 0⟩]
  | .IC_CLAIM => [⟨31, 1, .RO, 0⟩, ⟨0, 10, .RO, 1023⟩]
  | .IC_EVT => [⟨4, 1, .RC, 0⟩, ⟨3, 1, .RC, 0⟩, ⟨2, 1, .RC, 0⟩, ⟨1, 1, .RC, 0⟩, ⟨0, 1, .RC, 0⟩]
  | .IC_PEND => [⟨0, 32, .RO, 0⟩]
  | .IC_TGT_STATUS => [⟨31, 1, .RO, 0⟩, ⟨30, 1, .RO, 0⟩, ⟨16, 10, .RO, 1023⟩, ⟨0, 10, .RO, 1023⟩]
  | .IC_EOI => [⟨0, 10, .RX, 1023⟩]
  | .IC_TGT_CFG => [⟨0, 1, .RW, 1⟩]
  | .IC_SW_SET => [⟨0, 8, .W1, 0⟩]
  | .IC_SW_STAT => [⟨0, 8, .RC, 0⟩]
  | .IC_FAULTN_EN_LO => [⟨0, 32, .RW, 0x1fff⟩]
  | .IC_FAULTN_EN_HI => [⟨0, 32, .RW, 0⟩]
  | .IC_EVC_STAT => [⟨0, 32, .RC, 0⟩]
  | .IC_WAKE_SEL => [⟨31, 1, .WS, 0⟩, ⟨0, 8, .WS, 0⟩]
  | .IC_WAKE_CAUSE => [⟨31, 1, .RS, 0⟩, ⟨0, 8, .RS, 0⟩]
  | .IC_LDG_ACTIVE_LO => [⟨0, 32, .RO, 0⟩]
  | .IC_LDG_ACTIVE_HI => [⟨0, 32, .RO, 0⟩]
  | .IC_LDG_CLR => [⟨0, 6, .RX, 0⟩]
  | .IC_ARC_CFG => [⟨31, 1, .RW, 0⟩, ⟨0, 28, .RW, 0xffffff⟩]
  | .IC_ARC_WR => [⟨0, 28, .RO, 0⟩]
  | .IC_ARC_RD => [⟨0, 28, .RX, 0⟩]
  | .IC_ARC_FILL => [⟨0, 28, .RO, 0⟩]
  | .IC_ARC_LOST => [⟨0, 32, .RO, 0⟩]
  | .IC_ARC_EVT => [⟨3, 1, .RC, 0⟩, ⟨2, 1, .RC, 0⟩, ⟨1, 1, .RC, 0⟩, ⟨0, 1, .RC, 0⟩]
  | .IC_ARC_IRQ_EN => [⟨0, 4, .RW, 0⟩]
  | .IC_ARC_TEMP => [⟨31, 1, .RW, 1⟩, ⟨0, 4, .RW, 6⟩]
  | .IC_LDG => ledgerLayout j
  | .TL_IRQ_EN => [⟨20, 3, .RW, 0⟩, ⟨16, 3, .RW, 0⟩, ⟨8, 7, .RW, 0⟩, ⟨0, 8, .RW, 0⟩]
  | .TL_CC_IRQ => [⟨0, 1, .RW, 0⟩]
  | .TL_ARC_TRACE => [⟨0, 32, .RW, 0⟩]
  | .LK_STUDIO => [⟨31, 1, .RO, 0⟩, ⟨28, 3, .RO, 0⟩, ⟨16, 6, .RO, 0⟩, ⟨8, 8, .RO, 0⟩]
  | .LK_STUDIO_CFG => [⟨16, 8, .RW, 10⟩, ⟨1, 1, .RW, 0⟩, ⟨0, 1, .RW, 1⟩]
  | .LK_STUDIO_CMD => [⟨0, 1, .W1, 0⟩]
  | .LK_STUDIO_STATUS => [⟨28, 3, .RO, 0⟩, ⟨0, 3, .RO, 0⟩]
  | .LK_STUDIO_EVT => [⟨3, 1, .RC, 0⟩, ⟨2, 1, .RC, 0⟩, ⟨1, 1, .RC, 0⟩, ⟨0, 1, .RC, 0⟩]
  | .LK_STUDIO_IRQ_EN => [⟨0, 4, .RW, 0⟩]
  | .LK_VSTEP => [⟨0, 5, .RO, 0⟩]
  | .LK_CFG => [⟨30, 2, .RO, 0⟩]
  | .LK_CTRL => [⟨0, 1, .RX, 1⟩]
  | .LK_STATUS => [⟨28, 4, .RO, 0⟩, ⟨20, 8, .RO, 0⟩, ⟨19, 1, .RO, 0⟩, ⟨18, 1, .RO, 0⟩, ⟨17, 1, .RO, 0⟩, ⟨0, 6, .RO, 0⟩]
  | .LK_EVT => [⟨9, 1, .RC, 0⟩, ⟨8, 1, .RC, 0⟩, ⟨7, 1, .RC, 0⟩, ⟨6, 1, .RC, 0⟩, ⟨5, 1, .RC, 0⟩, ⟨4, 1, .RC, 0⟩, ⟨3, 1, .RC, 0⟩, ⟨2, 1, .RC, 0⟩, ⟨1, 1, .RC, 0⟩, ⟨0, 1, .RC, 0⟩]
  | .LK_IRQ_EN => [⟨0, 10, .RW, 0⟩]
  | .LK_RTT => [⟨0, 32, .RO, 0⟩]
  | .LK_THETA_LO => [⟨0, 32, .RO, 0⟩]
  | .LK_THETA_HI => [⟨0, 32, .RO, 0⟩]
  | .LK_ASYM => [⟨0, 32, .RW, 0⟩]
  | .LK_EV_MEAS => [⟨0, 10, .RO, 0⟩]
  | .LK_CNT => [⟨16, 16, .RO, 0⟩, ⟨0, 16, .RO, 0⟩]
  | .LK_STRM_MEAS => [⟨0, 10, .RO, 0⟩]
  | .LK_TXEV => [⟨0, 1, .RW, 0⟩]
  | .LK_TXS_CFG => [⟨31, 1, .RW, 0⟩, ⟨0, 5, .RO, 0⟩]
  | .LK_RXS_CFG => [⟨30, 2, .RO, 0⟩, ⟨16, 12, .RO, 0⟩, ⟨0, 10, .RO, 0⟩]
  | .LK_RXS_GAIN => [⟨0, 18, .RW, 0x10000⟩]
  | .LK_RXS_STAT => [⟨16, 16, .RO, 0⟩, ⟨0, 16, .RO, 0⟩]
  | .CAL_CTRL => [⟨31, 1, .RO, 1⟩, ⟨30, 1, .RO, 0⟩, ⟨29, 1, .RO, 1⟩, ⟨0, 16, .RO, 60⟩]
  | .CAL_STATUS => [⟨31, 1, .RO, 0⟩, ⟨28, 3, .RO, 0⟩, ⟨2, 1, .RO, 0⟩, ⟨1, 1, .RO, 0⟩, ⟨0, 1, .RO, 0⟩]
  | .CAL_CMD => [⟨2, 1, .W1, 0⟩, ⟨1, 1, .W1, 0⟩, ⟨0, 1, .W1, 0⟩]
  | .CAL_ARG => [⟨24, 4, .RW, 0⟩, ⟨16, 2, .RW, 0⟩, ⟨0, 5, .RW, 0⟩]
  | .CAL_EVT => [⟨7, 1, .RC, 0⟩, ⟨6, 1, .RC, 0⟩, ⟨5, 1, .RC, 0⟩, ⟨4, 1, .RC, 0⟩, ⟨3, 1, .RC, 0⟩, ⟨2, 1, .RC, 0⟩, ⟨1, 1, .RC, 0⟩, ⟨0, 1, .RC, 0⟩]
  | .CAL_IRQ_EN => [⟨0, 8, .RW, 0⟩]
  | .CAL_RCAL => [⟨0, 32, .RS, 0⟩]
  | .CAL_REC_ID => [⟨0, 32, .RO, 0⟩]
  | .CAL_OVR_CNT => [⟨0, 32, .RO, 0⟩]
  | .CAL_OVR_ADDR_LO => [⟨0, 32, .RW, 0⟩]
  | .CAL_OVR_ADDR_HI => [⟨0, 4, .RW, 0⟩]
  | .CAL_CH_STATUS => [⟨31, 1, .RO, 0⟩, ⟨30, 1, .RO, 0⟩, ⟨29, 1, .RO, 0⟩, ⟨28, 1, .RO, 0⟩, ⟨0, 16, .RO, 0⟩]
  | .CAL_XDEC => [⟨2, 1, .W1, 0⟩, ⟨1, 1, .W1, 0⟩, ⟨0, 1, .W1, 0⟩]
  | .CAL_RESID => [⟨16, 16, .RO, 0⟩, ⟨0, 16, .RO, 0⟩]
  | .CAL_LOAD => [⟨16, 16, .RS, 0⟩, ⟨0, 16, .RS, 0⟩]
  | .CAL_PEND_TAG => [⟨0, 32, .RO, 0⟩]
  | .CAL_TJ => [⟨0, 16, .RS, 0⟩]
  | .SYS_IMG_SRC => [⟨0, 1, .RW, 0⟩]
  | .SYS_IMG_ADDR_LO => [⟨0, 32, .RW, 0⟩]
  | .SYS_IMG_ADDR_HI => [⟨0, 32, .RW, 0⟩]
  | .SYS_IMG_LEN => [⟨0, 26, .RW, 0⟩]
  | .SYS_IMG_CMD => [⟨1, 1, .W1, 0⟩, ⟨0, 1, .W1, 0⟩]
  | .SYS_IMG_STATUS => [⟨31, 1, .RO, 0⟩, ⟨30, 1, .RO, 0⟩, ⟨24, 4, .RO, 0⟩]
  | .SYS_IMG_TILE => [⟨0, 3, .RW, 0⟩]
  | .SYS_IMG_ID => [⟨0, 32, .RO, 0⟩]
  | .SYS_TILE_CTRL => [⟨0, 1, .RX, 1⟩]
  | .SYS_TILE_STATUS => [⟨28, 4, .RO, 0⟩, ⟨5, 1, .RO, 0⟩, ⟨4, 1, .RO, 0⟩, ⟨0, 3, .RO, 0⟩]
  | .SYS_PWR_CMD => [⟨2, 1, .W1, 0⟩, ⟨1, 1, .W1, 0⟩, ⟨0, 1, .W1, 0⟩]
  | .SYS_PWR_STATUS => [⟨28, 3, .RO, 0⟩]
  | .SYS_RESET => [⟨0, 16, .W1, 0⟩]
  | .TL_GRANT => [⟨16, 12, .RO, 0⟩, ⟨0, 12, .RO, 0⟩]
  | .AON_BOOT_STATUS => [⟨31, 1, .RS, 0⟩, ⟨28, 3, .RS, 0⟩, ⟨27, 1, .RS, 0⟩, ⟨20, 2, .RS, 0⟩, ⟨16, 4, .RS, 0⟩]
  | .AON_BOOT_FAILS => [⟨0, 2, .RS, 0⟩]
  | .AON_BOOT_CMD => [⟨1, 1, .WX, 0⟩, ⟨0, 1, .WX, 0⟩]
  | .AON_BOOT_CFG => [⟨0, 8, .WS, 100⟩]
  | .AON_BPB_REF => [⟨0, 32, .WS, 0⟩]
  | .AON_BPB_PLL => [⟨0, 32, .WS, 0⟩]
  | .AON_BOOT_PAY_ADDR_LO => [⟨0, 32, .WS, 0⟩]
  | .AON_BOOT_PAY_ADDR_HI => [⟨0, 32, .WS, 0⟩]
  | .AON_BOOT_PAY_LEN => [⟨0, 26, .WS, 0⟩]
  | .AON_BSTAGE_T => [⟨0, 32, .RS, 0⟩]
  | .AON_PWR_STATUS => [⟨31, 1, .RS, 0⟩, ⟨0, 3, .RS, 4⟩]
  | .AON_PWR_CMD => [⟨0, 1, .WX, 0⟩]
  | .AON_PWR_CFG => [⟨0, 1, .WS, 1⟩]
  | .AON_PWR_EVT => [⟨1, 1, .RC, 0⟩, ⟨0, 1, .RC, 0⟩]
  | .AON_LDR_ADDR_LO => [⟨0, 32, .WS, 0⟩]
  | .AON_LDR_ADDR_HI => [⟨0, 32, .WS, 0⟩]
  | .AON_LDR_OFS => [⟨0, 32, .WS, 0⟩]
  | .AON_LDR_LEN => [⟨0, 26, .WS, 0⟩]
  | .AON_LDR_CMD => [⟨0, 2, .WX, 0⟩]
  | .AON_LDR_STATUS => [⟨31, 1, .RS, 0⟩, ⟨28, 3, .RS, 0⟩]
  | .SEC_STATUS => [⟨31, 1, .RO, 0⟩, ⟨27, 4, .RO, 0⟩, ⟨6, 1, .RO, 0⟩, ⟨5, 1, .RO, 0⟩, ⟨4, 1, .RO, 0⟩, ⟨3, 1, .RO, 0⟩, ⟨0, 3, .RO, 0⟩]
  | .SEC_CMD => [⟨16, 16, .RX, 0⟩, ⟨0, 5, .RX, 0⟩]
  | .SEC_EVT => [⟨5, 1, .RC, 0⟩, ⟨4, 1, .RC, 0⟩, ⟨3, 1, .RC, 0⟩, ⟨2, 1, .RC, 0⟩, ⟨1, 1, .RC, 0⟩, ⟨0, 1, .RC, 0⟩]
  | .SEC_IRQ_EN => [⟨0, 6, .RW, 0⟩]
  | .SEC_ALARM => [⟨0, 3, .RO, 0⟩]
  | .SEC_NONCE => [⟨0, 32, .RW, 0⟩]
  | .SEC_BOOT_CNT => [⟨0, 32, .RO, 0⟩]
  | .SEC_FW_FLOOR => [⟨0, 32, .RO, 0⟩]
  | .SEC_IMG_FLOOR => [⟨0, 32, .RO, 0⟩]
  | .SEC_OVR_FLOOR => [⟨0, 32, .RO, 0⟩]
  | .SEC_UID => [⟨0, 32, .RO, 0⟩]
  | .SEC_ID_DIG => [⟨0, 32, .RO, 0⟩]
  | .SEC_VKEY_DIG => [⟨0, 32, .RO, 0⟩]
  | .SEC_OKEY_DIG => [⟨0, 32, .RO, 0⟩]
  | .SEC_DNONCE => [⟨0, 32, .RO, 0⟩]
  | .SEC_ID_PUB => [⟨0, 32, .RO, 0⟩]
  | .SEC_ATT => [⟨0, 32, .RO, 0⟩]
  | .SEC_XFER => [⟨0, 32, .RW, 0⟩]
  | .SYS_ID => [⟨16, 16, .RO, 0x9640⟩, ⟨8, 8, .RO, 66⟩, ⟨0, 8, .RO, 0⟩]
  | .SYS_FAMILY => [⟨28, 4, .RO, 8⟩, ⟨24, 4, .RO, 4⟩, ⟨16, 8, .RO, 32⟩, ⟨8, 8, .RO, 48⟩, ⟨0, 8, .RO, 16⟩]
  | .SYS_FAMILY2 => [⟨24, 8, .RO, 8⟩, ⟨16, 8, .RO, 24⟩, ⟨0, 16, .RO, 1024⟩]
  | .SYS_FAMILY3 => [⟨24, 8, .RO, 16⟩, ⟨16, 8, .RO, 16⟩, ⟨8, 8, .RO, 4⟩, ⟨0, 8, .RO, 64⟩]
  | .SYS_HIF_STATUS => [⟨11, 1, .RO, 0⟩, ⟨10, 1, .RO, 0⟩, ⟨4, 6, .RO, 0⟩, ⟨0, 4, .RO, 0⟩]
  | .SYS_HIF_EVT => [⟨4, 1, .RC, 0⟩, ⟨3, 1, .RC, 0⟩, ⟨2, 1, .RC, 0⟩, ⟨1, 1, .RC, 0⟩, ⟨0, 1, .RC, 0⟩]
  | .SYS_PF_CFG => [⟨10, 1, .RO, 0⟩, ⟨9, 1, .RO, 0⟩, ⟨8, 1, .RO, 0⟩, ⟨0, 1, .RW, 0⟩]
  | .SYS_MSIX => [⟨0, 32, .RW, 0⟩]
  | .SYS_MSIX_PBA => [⟨0, 2, .RO, 0⟩]
  | .AON_EVT => [⟨5, 1, .RC, 0⟩, ⟨4, 1, .RC, 0⟩, ⟨3, 1, .RC, 0⟩, ⟨2, 1, .RC, 0⟩, ⟨1, 1, .RC, 0⟩, ⟨0, 1, .RC, 0⟩]
  | .AON_IRQ_EN => [⟨0, 6, .WS, 0⟩]
  | .DMA_EVT => [⟨1, 1, .RC, 0⟩, ⟨0, 1, .RC, 0⟩]
  | .DMA_IRQ_EN => [⟨0, 2, .RW, 0⟩]
  | .DMA_Q_ACTIVE_LO => [⟨0, 32, .RO, 0⟩]
  | .DMA_Q_ACTIVE_HI => [⟨0, 32, .RO, 0⟩]
  | .DMA_Q_CTRL => [⟨0, 1, .RX, 0⟩]
  | .DMA_Q_STATUS => [⟨18, 1, .RO, 0⟩, ⟨16, 2, .RO, 0⟩, ⟨0, 2, .RO, 0⟩]
  | .DMA_Q_HEAD => [⟨0, 16, .RW, 0⟩]
  | .DMA_Q_TAIL => [⟨0, 16, .RX, 0⟩]
  | .DMA_Q_BASE_LO => [⟨0, 32, .RW, 0⟩]
  | .DMA_Q_BASE_HI => [⟨0, 32, .RW, 0⟩]
  | .DMA_Q_SIZE => [⟨0, 5, .RW, 4⟩]
  | .DMA_Q_EVT => [⟨6, 1, .RC, 0⟩, ⟨5, 1, .RC, 0⟩, ⟨4, 1, .RC, 0⟩, ⟨3, 1, .RC, 0⟩, ⟨2, 1, .RC, 0⟩, ⟨1, 1, .RC, 0⟩, ⟨0, 1, .RC, 0⟩]
  | .DMA_Q_IRQ_EN => [⟨0, 7, .RW, 0⟩]
  | .DMA_Q_BYTES_LO => [⟨0, 32, .RO, 0⟩]
  | .DMA_Q_BYTES_HI => [⟨0, 32, .RO, 0⟩]
  | .SYS_TJ => [⟨31, 1, .RS, 0⟩, ⟨0, 16, .RS, 0⟩]
  | .SYS_THERM => [⟨31, 1, .RS, 0⟩, ⟨30, 1, .RS, 0⟩, ⟨24, 5, .RS, 0⟩, ⟨0, 16, .RS, 0⟩]
  | .SYS_RAIL => [⟨16, 11, .RS, 0⟩, ⟨0, 11, .RS, 0⟩]
  | .SYS_WEAR => [⟨0, 32, .RS, 0⟩]
  | .SYS_WEAR_USED => [⟨0, 32, .RS, 0⟩]
  | .AON_BREC => bootRecLayout j
  | .MS_REFILL_BW => [⟨0, 16, .RO, 0⟩]
  | .L_BOOT_READY => [⟨0, 1, .LT, 0⟩]
  | .L_EVC_BUSY => [⟨0, 1, .LT, 0⟩]
  | .L_EVC_LOOPS => [⟨0, 11, .LT, 0⟩]
  | .L_EVC_LOOP_END => [⟨0, 64, .LT, 0⟩]
  | .L_EVIO_IN => [⟨0, 1, .LT, 0⟩]
  | .L_EVIO_OUT => [⟨0, 1, .LT, 0⟩]
  | .L_EVIO_FALL_AT => [⟨0, 64, .LT, 0⟩]
  | .L_TMR_NEXT => [⟨0, 64, .LT, 0⟩]
  | .L_TMR_RUN => [⟨0, 1, .LT, 0⟩]
  | .L_THR_ABOVE => [⟨0, 1, .LT, 0⟩]
  | .L_THR_WORD => [⟨0, 64, .LT, 0⟩]
  | .L_DOORBELL => [⟨0, 32, .LT, 0⟩]
  | .L_CC_SLEEP => [⟨0, 1, .LT, 0⟩]
  | .L_CC_HALTED => [⟨0, 1, .LT, 0⟩]
  | .L_PF_FMASK => [⟨0, 1, .LT, 0⟩]
  | .L_PF_PME_EN => [⟨0, 1, .LT, 0⟩]
  | .L_IC_WOKEN => [⟨0, 1, .LT, 0⟩]
  | .L_WAKE_SEEN => [⟨0, 1, .LT, 0⟩]
  | .L_WAKE_START => [⟨0, 1, .LT, 0⟩]
  | .L_ARC_FULL => [⟨0, 1, .LT, 0⟩]
  | .L_CLAIM_DATA => [⟨0, 32, .LT, 1023⟩]
  | .L_LDG_AGAIN => [⟨0, 1, .LT, 0⟩]
  | .L_LDG_AGAIN_UNIT => [⟨0, 12, .LT, 0⟩]
  | .L_LDG_AGAIN_DETAIL => [⟨0, 32, .LT, 0⟩]
  | .L_PWR_BUSY => [⟨0, 1, .LT, 0⟩]
  | .L_PWR_NEXT => [⟨0, 3, .LT, 0⟩]
  | .L_CH_SUM => [⟨0, 40, .LT, 0⟩]
  | .L_TB_HELD => [⟨0, 1, .LT, 0⟩]
  | .L_LDG_AGAIN_MAP => [⟨0, 32, .LT, 0⟩]
  | .L_TB_WANT => [⟨0, 1, .LT, 0⟩]
  | .L_TB_CLEAR_HELD => [⟨0, 1, .LT, 0⟩]
  | .L_TB_EVER => [⟨0, 1, .LT, 0⟩]
  | .L_TB_LOSS_TICK => [⟨0, 64, .LT, 0⟩]
  | .L_TB_REL_CAUSE => [⟨0, 2, .LT, 0⟩]
  | .L_TB_REL_TICK => [⟨0, 64, .LT, 0⟩]
  | .L_TB_UNPARK_DUE => [⟨0, 1, .LT, 0⟩]
  | .L_TB_MEAS_DUE => [⟨0, 1, .LT, 0⟩]
  | .L_TB_ENTRY_DUE => [⟨0, 1, .LT, 0⟩]
  | .L_TB_REACQ => [⟨0, 32, .LT, 0⟩]
  | .L_TB_ANCHOR_TICK => [⟨0, 64, .LT, 0⟩]
  | .L_TB_LOAD_OK => [⟨0, 1, .LT, 0⟩]
  | .L_TB_EPIN_SEEN => [⟨0, 1, .LT, 0⟩]
  | .L_TOD_SEC => [⟨0, 48, .LT, 0⟩]
  | .L_TOD_NS => [⟨0, 30, .LT, 0⟩]
  | .L_TOD_TICK => [⟨0, 64, .LT, 0⟩]
  | .L_TOD_VALID => [⟨0, 1, .LT, 0⟩]
  | .L_EPOCH_RUN => [⟨0, 1, .LT, 0⟩]
  | .L_EPOCH_NEXT => [⟨0, 64, .LT, 0⟩]
  | .L_EPOCH_OLD => [⟨0, 1, .LT, 0⟩]
  | .L_EPOCH_OLD_TICK => [⟨0, 64, .LT, 0⟩]
  | .L_EPOCH_OLD_WIDTH => [⟨0, 64, .LT, 0⟩]
  | .L_SYSREF_RUN => [⟨0, 1, .LT, 0⟩]
  | .L_SYSREF_NEXT => [⟨0, 64, .LT, 0⟩]
  | .L_SYSREF_LEFT => [⟨0, 8, .LT, 0⟩]
  | .L_STK_SR => [⟨0, 1, .LT, 0⟩]
  | .L_REF_WINDOW_PS => [⟨0, 40, .LT, 0x88b8⟩]
  | .L_STRM_RET => [⟨0, 1, .LT, 0⟩]
  | .L_STRM_NEXT => [⟨0, 64, .LT, 0⟩]
  | .L_WDROP_LATCHED => [⟨0, 1, .LT, 0⟩]
  | .L_CARD_WR => [⟨0, 1, .LT, 0⟩]
  | .L_CARD_RES => [⟨0, 3, .LT, 0⟩]
  | .L_MARCH_MODE => [⟨0, 1, .LT, 0⟩]
  | .L_STK_COLD_SINCE => [⟨0, 64, .LT, 0⟩]
  | .L_COR_W0 => [⟨0, 64, .LT, 0⟩]
  | .L_COR_RAMP => [⟨0, 2, .LT, 0⟩]
  | .L_COR_ZERO => [⟨0, 1, .LT, 0⟩]
  | .L_COR_FRAMES => [⟨0, 16, .LT, 0⟩]
  | .L_COR_CTL => [⟨0, 16, .LT, 0⟩]
  | .L_COR_DUE => [⟨0, 16, .LT, 0⟩]
  | .L_COR_BUSY => [⟨0, 1, .LT, 0⟩]
  | .L_COR_SWAP => [⟨0, 1, .LT, 0⟩]
  | .L_COR_SLICE_BAD => [⟨0, 1, .LT, 0⟩]
  | .L_STRM_LEAF => [⟨0, 32, .LT, 0⟩]
  | .L_CAL_RUN => [⟨0, 1, .LT, 0⟩]
  | .L_CAL_RUN_CH => [⟨0, 5, .LT, 0⟩]
  | .L_PROD_WORD => [⟨0, 64, .LT, 0⟩]
  | .L_RNG_AT => [⟨0, 64, .LT, 0⟩]
  | .L_RNG_NEW => [⟨0, 2, .LT, 0⟩]
  | .L_STK_BOOK_COLD => [⟨0, 64, .LT, 0⟩]
  | .L_EQ_REQ_AT => [⟨0, 64, .LT, 0⟩]
  | .L_EQ_SRC_AT => [⟨0, 64, .LT, 0⟩]
  | .L_EQ_SRC_CUR => [⟨0, 2, .LT, 1⟩]
  | .L_CH_D => [⟨0, 16, .LT, 0⟩]
  | .L_CH_BAD => [⟨0, 3, .LT, 0⟩]
  | .L_PP_BAD => [⟨0, 1, .LT, 0⟩]
  | .L_DIE_GOOD_AT => [⟨0, 64, .LT, 0⟩]
  | .L_DIE_UV => [⟨0, 1, .LT, 0⟩]
  | .L_DIE_PG => [⟨0, 1, .LT, 0⟩]
  | .L_PARK_N_LOW => [⟨0, 1, .LT, 0⟩]
  | .L_TRIP => [⟨0, 1, .LT, 0⟩]
  | .L_CAL_T_LAST => [⟨0, 16, .LT, 0x8000⟩]
  | .L_CAL_SEQ => [⟨0, 26, .LT, 0⟩]
  | .L_CAL_RAISED => [⟨0, 33, .LT, 0⟩]
  | .L_CAL_VRES => [⟨0, 16, .LT, 0⟩]
  | .L_CAL_SRES => [⟨0, 16, .LT, 0⟩]
  | .L_CAL_HELD => [⟨0, 1, .LT, 0⟩]
  | .L_CAL_HELD_P => [⟨0, 16, .LT, 0⟩]
  | .L_CAL_HELD_T => [⟨0, 16, .LT, 0⟩]
  | .L_TIU_BOFS => [⟨0, 17, .LT, 0⟩]
  | .L_TIU_CAL_AT => [⟨0, 64, .LT, 0⟩]
  | .L_TIU_CAL_BUSY => [⟨0, 1, .LT, 0⟩]
  | .L_DLY_TIU => [⟨0, 5, .LT, 0⟩]
  | .L_JRX_STOP => [⟨0, 1, .LT, 0⟩]
  | .L_PP_WORD => [⟨0, 16, .LT, 0⟩]
  | .L_JTX_CODE => [⟨0, 16, .LT, 0⟩]
  | .L_LK_GOOD => [⟨0, 3, .LT, 0⟩]
  | .L_LK_PROLE => [⟨0, 2, .LT, 0⟩]
  | .L_LK_PSTATE => [⟨0, 4, .LT, 0⟩]
  | .L_LK_PUNREF => [⟨0, 1, .LT, 0⟩]
  | .L_LK_SENT => [⟨0, 64, .LT, 0⟩]
  | .L_LK_HDR => [⟨0, 1, .LT, 0⟩]
  | .L_LK_HDR_F => [⟨0, 40, .LT, 0⟩]
  | .L_LK_HDR_A => [⟨0, 96, .LT, 0⟩]
  | .L_LK_TIU => [⟨0, 5, .LT, 0⟩]
  | .L_LK_N => [⟨0, 11, .LT, 0⟩]
  | .L_LK_SUM_T => [⟨0, 128, .LT, 0⟩]
  | .L_LK_SUM_R => [⟨0, 128, .LT, 0⟩]
  | .L_LK_T0 => [⟨0, 128, .LT, 0⟩]
  | .L_LK_T1 => [⟨0, 128, .LT, 0⟩]
  | .L_LK_AGAIN => [⟨0, 1, .LT, 0⟩]
  | .L_LK_TXS_N => [⟨0, 64, .LT, 0⟩]
  | .L_LK_RXS_LOG2 => [⟨0, 6, .LT, 0⟩]
  | .L_LK_RXS_PH => [⟨0, 64, .LT, 0⟩]
  | .L_LK_RXS_T => [⟨0, 64, .LT, 0⟩]
  | .L_LK_RXS_POS => [⟨0, 15, .LT, 0⟩]
  | .L_ST_FRESH => [⟨0, 1, .LT, 0⟩]
  | .L_ST_OUT => [⟨0, 1, .LT, 0⟩]
  | .L_LK_FAULTED => [⟨0, 1, .LT, 0⟩]
  | .L_CAL_RUN_RANGE => [⟨0, 2, .LT, 0⟩]
  | .L_CAL_RUN_KINDS => [⟨0, 4, .LT, 0⟩]
  | .L_OVR_BUSY => [⟨0, 1, .LT, 0⟩]
  | .L_IMG_AT => [⟨0, 91, .LT, 0⟩]
  | .L_RI_AT => [⟨0, 91, .LT, 0⟩]
  | .L_RI_NEXT => [⟨0, 91, .LT, 0⟩]
  | .L_IMG_DEV => [⟨0, 512, .LT, 0⟩]
  | .L_IMG_CNT => [⟨0, 32, .LT, 0⟩]
  | .L_M_IMG => [⟨0, 512, .LT, 0⟩]
  | .L_REISSUES => [⟨0, 32, .LT, 0⟩]
  | .L_FW_CNT => [⟨0, 32, .LT, 0⟩]
  | .L_M_FW => [⟨0, 512, .LT, 0⟩]
  | .L_M_OVR => [⟨0, 512, .LT, 0⟩]
  | .L_OVR_CNT => [⟨0, 32, .LT, 0⟩]
  | .L_BOOT_DUE => [⟨0, 1, .LT, 1⟩]
  | .L_BOOT_RETRY => [⟨0, 1, .LT, 0⟩]
  | .L_BPB_OK => [⟨0, 1, .LT, 0⟩]
  | .L_BPB_REF => [⟨0, 32, .LT, 0⟩]
  | .L_BPB_PLL => [⟨0, 32, .LT, 0⟩]
  | .L_BPB_MODE => [⟨0, 2, .LT, 0⟩]
  | .L_PAY_ADDR => [⟨0, 64, .LT, 0⟩]
  | .L_PAY_LEN => [⟨0, 32, .LT, 0⟩]
  | .L_LDR_RES => [⟨0, 3, .LT, 0⟩]
  | .L_PWR_OFF => [⟨0, 1, .LT, 0⟩]
  | .L_RAIL_LOST => [⟨0, 11, .LT, 0⟩]
  | .L_PWR_Q => [⟨0, 3, .LT, 0⟩]
  | .L_PWR_THEN => [⟨0, 1, .LT, 0⟩]
  | .L_FORCE_STBY => [⟨0, 1, .LT, 0⟩]
  | .L_LC_FUSED => [⟨0, 3, .LT, 0⟩]
  | .L_SEC_RUN => [⟨0, 5, .LT, 0⟩]
  | .L_SEC_NEXT => [⟨0, 5, .LT, 0⟩]
  | .L_ATT_TICK => [⟨0, 64, .LT, 0⟩]
  | .L_ATT_FLAGS => [⟨0, 3, .LT, 0⟩]
  | .L_NV_WRITES => [⟨0, 25, .LT, 0⟩]
  | .L_SEC_RES => [⟨0, 4, .LT, 0⟩]
  | .L_TAP_IR => [⟨0, 8, .LT, 1⟩]
  | .L_BSR => [⟨0, 356, .LT, 0⟩]
  | .L_SENS_SEEN => [⟨0, 1, .LT, 0⟩]
  | .L_HOT155 => [⟨0, 2, .LT, 0⟩]
  | .L_HOT160 => [⟨0, 2, .LT, 0⟩]
  | .L_TRIP_FOR => [⟨0, 14, .LT, 0⟩]
  | .L_COOL_FOR => [⟨0, 10, .LT, 0⟩]
  | .L_WEAR_T => [⟨0, 48, .LT, 0⟩]
  | .L_WEAR_C => [⟨0, 48, .LT, 0⟩]
  | .L_WEAR_AGE => [⟨0, 12, .LT, 0⟩]
  | .L_DMA_RAISED => [⟨0, 1, .LT, 0⟩]
  | .L_DMA_ENDING => [⟨0, 1, .LT, 0⟩]

/-- The reset value of one field: the table's value, or the value by instance where the table gives a rule. -/
def regReset (k : Key) : Nat :=
  match k.r, k.lo with
  | .IC_ROUTE, 31 => if k.i ≤ 15 then 1 else 0
  | .IC_ROUTE, 8 => if k.i ≤ 15 then 1 else 0
  | .IC_ROUTE, 4 => if k.i ≤ 15 then 4 else 0
  | .CH_EQ_COEF, 0 => if k.j % 64 = 31 then 0x40000 else 0
  | .DMA_Q_STATUS, 16 => k.i / 16
  | .EV_GRP_MAP, 0 => k.i * 0x11111111
  | .IC_LDG, 16 => if k.j = 0 then k.i else 0
  | .SYS_PF_CFG, 0 => if k.i = 0 then 1 else 0
  | .SEC_UID, 0 => (Config.devUid k.i).toNat
  | .SEC_VKEY_DIG, 0 => (Config.vendorKeyDigest k.i).toNat
  | .SYS_MSIX, 0 => if k.j % 4 = 3 then 1 else 0
  | r, lo => ((layout r k.j).find? (fun f => f.lo == lo)).elim 0 (fun f => f.rst)

/-- One row of the BAR0 address map: a register's first address, then stride and count of the outer instances, of the
inner instances (a channel or port within its tile) and of the dwords of one instance. -/
structure RegRow where
  r : RName
  base : Nat
  oStride : Nat
  oCount : Nat
  nStride : Nat
  nCount : Nat
  jStride : Nat
  jCount : Nat
deriving DecidableEq, Repr

/-- Part 0 of the address map. -/
def regRows0 : List RegRow :=
  [ ⟨.TB_CTRL, 0x20000, 0x1000000, 1, 0x1000000, 1, 0x1000000, 1⟩
  , ⟨.TB_STATUS, 0x20004, 0x1000000, 1, 0x1000000, 1, 0x1000000, 1⟩
  , ⟨.TB_EVT, 0x20008, 0x1000000, 1, 0x1000000, 1, 0x1000000, 1⟩
  , ⟨.TB_CMD, 0x2000c, 0x1000000, 1, 0x1000000, 1, 0x1000000, 1⟩
  , ⟨.TB_TICK_LO, 0x20010, 0x1000000, 1, 0x1000000, 1, 0x1000000, 1⟩
  , ⟨.TB_TICK_HI, 0x20014, 0x1000000, 1, 0x1000000, 1, 0x1000000, 1⟩
  , ⟨.TB_LOAD_LO, 0x20018, 0x1000000, 1, 0x1000000, 1, 0x1000000, 1⟩
  , ⟨.TB_LOAD_HI, 0x2001c, 0x1000000, 1, 0x1000000, 1, 0x1000000, 1⟩
  , ⟨.TB_REFLOSS_ACT, 0x20020, 0x1000000, 1, 0x1000000, 1, 0x1000000, 1⟩
  , ⟨.TB_RELOCK_AUTO, 0x20024, 0x1000000, 1, 0x1000000, 1, 0x1000000, 1⟩
  , ⟨.TB_FTRIM, 0x20028, 0x1000000, 1, 0x1000000, 1, 0x1000000, 1⟩
  , ⟨.TB_ANCHOR_RES, 0x2002c, 0x1000000, 1, 0x1000000, 1, 0x1000000, 1⟩
  , ⟨.TB_ANCHOR_TGT, 0x20030, 0x1000000, 1, 0x1000000, 1, 0x1000000, 1⟩
  , ⟨.TB_DISC, 0x20034, 0x1000000, 1, 0x1000000, 1, 0x1000000, 1⟩
  , ⟨.TB_COAST_LO, 0x20038, 0x1000000, 1, 0x1000000, 1, 0x1000000, 1⟩
  , ⟨.TB_COAST_HI, 0x2003c, 0x1000000, 1, 0x1000000, 1, 0x1000000, 1⟩
  , ⟨.TB_TOD_SEC_LO, 0x20040, 0x1000000, 1, 0x1000000, 1, 0x1000000, 1⟩
  , ⟨.TB_TOD_SEC_HI, 0x20044, 0x1000000, 1, 0x1000000, 1, 0x1000000, 1⟩
  , ⟨.TB_TOD_NS, 0x20048, 0x1000000, 1, 0x1000000, 1, 0x1000000, 1⟩
  , ⟨.TB_TOD_TICK_LO, 0x2004c, 0x1000000, 1, 0x1000000, 1, 0x1000000, 1⟩
  , ⟨.TB_TOD_TICK_HI, 0x20050, 0x1000000, 1, 0x1000000, 1, 0x1000000, 1⟩
  , ⟨.TB_ANCHOR_AT_LO, 0x20058, 0x1000000, 1, 0x1000000, 1, 0x1000000, 1⟩
  , ⟨.TB_ANCHOR_AT_HI, 0x2005c, 0x1000000, 1, 0x1000000, 1, 0x1000000, 1⟩
  , ⟨.TB_EPIN_CFG, 0x20060, 0x1000000, 1, 0x1000000, 1, 0x1000000, 1⟩
  , ⟨.TB_EPIN_STAMP_LO, 0x20064, 0x1000000, 1, 0x1000000, 1, 0x1000000, 1⟩
  , ⟨.TB_EPIN_STAMP_HI, 0x20068, 0x1000000, 1, 0x1000000, 1, 0x1000000, 1⟩
  , ⟨.TB_EPOCH_CFG, 0x20100, 16, 2, 0x1000000, 1, 0x1000000, 1⟩
  , ⟨.TB_EPOCH_PER_LO, 0x20104, 16, 2, 0x1000000, 1, 0x1000000, 1⟩
  , ⟨.TB_EPOCH_PER_HI, 0x20108, 16, 2, 0x1000000, 1, 0x1000000, 1⟩
  , ⟨.TB_EPOCH_OFS, 0x2010c, 16, 2, 0x1000000, 1, 0x1000000, 1⟩
  , ⟨.TB_SYSREF_CFG, 0x20200, 16, 8, 0x1000000, 1, 0x1000000, 1⟩
  , ⟨.TB_SYSREF_PER, 0x20204, 16, 8, 0x1000000, 1, 0x1000000, 1⟩
  , ⟨.TB_SYSREF_OFS, 0x20208, 16, 8, 0x1000000, 1, 0x1000000, 1⟩
  , ⟨.REF_CFG, 0x20400, 0x1000000, 1, 0x1000000, 1, 0x1000000, 1⟩
  , ⟨.REF_STATUS, 0x20404, 0x1000000, 1, 0x1000000, 1, 0x1000000, 1⟩
  , ⟨.REF_OUT_CFG, 0x20408, 0x1000000, 1, 0x1000000, 1, 0x1000000, 1⟩
  , ⟨.PLL_CFG, 0x20800, 0x1000000, 1, 0x1000000, 1, 0x1000000, 1⟩
  , ⟨.PLL_CTRL, 0x20804, 0x1000000, 1, 0x1000000, 1, 0x1000000, 1⟩
  , ⟨.PLL_STATUS, 0x20808, 0x1000000, 1, 0x1000000, 1, 0x1000000, 1⟩
  , ⟨.MS_CFG, 0xa0000, 0x1000000, 1, 0x1000000, 1, 0x1000000, 1⟩
  , ⟨.MS_EVT, 0xa0008, 0x1000000, 1, 0x1000000, 1, 0x1000000, 1⟩
  , ⟨.MS_THERM_POL, 0xa000c, 0x1000000, 1, 0x1000000, 1, 0x1000000, 1⟩
  , ⟨.MS_CARD_IDX, 0xa0010, 0x1000000, 1, 0x1000000, 1, 0x1000000, 1⟩
  , ⟨.MS_CARD_CMD, 0xa0014, 0x1000000, 1, 0x1000000, 1, 0x1000000, 1⟩
  , ⟨.MS_CMD, 0xa0018, 0x1000000, 1, 0x1000000, 1, 0x1000000, 1⟩
  , ⟨.MS_LOAN_IDX, 0xa0020, 0x1000000, 1, 0x1000000, 1, 0x1000000, 1⟩
  , ⟨.MS_LOAN_CNT, 0xa0024, 0x1000000, 1, 0x1000000, 1, 0x1000000, 1⟩
  , ⟨.MS_LEAF_IDX, 0xa0028, 0x1000000, 1, 0x1000000, 1, 0x1000000, 1⟩
  , ⟨.MS_LEAF_LOAN, 0xa002c, 0x1000000, 1, 0x1000000, 1, 0x1000000, 1⟩
  , ⟨.MS_WDROP_CNT, 0xa0030, 0x1000000, 1, 0x1000000, 1, 0x1000000, 1⟩ ]

/-- Part 1 of the address map. -/
def regRows1 : List RegRow :=
  [ ⟨.MS_WDROP_ADDR_LO, 0xa0034, 0x1000000, 1, 0x1000000, 1, 0x1000000, 1⟩
  , ⟨.MS_WDROP_ADDR_HI, 0xa0038, 0x1000000, 1, 0x1000000, 1, 0x1000000, 1⟩
  , ⟨.MS_WDROP_SRC, 0xa003c, 0x1000000, 1, 0x1000000, 1, 0x1000000, 1⟩
  , ⟨.MS_STK_STATUS, 0xa0040, 4, 4, 0x1000000, 1, 0x1000000, 1⟩
  , ⟨.MS_ECC_CNT, 0xa0050, 4, 4, 0x1000000, 1, 0x1000000, 1⟩
  , ⟨.MS_CARD_DATA, 0xa0080, 4, 16, 0x1000000, 1, 0x1000000, 1⟩
  , ⟨.MS_STRM_CFG, 0xa4000, 16, 1024, 0x1000000, 1, 0x1000000, 1⟩
  , ⟨.MS_STRM_FILL, 0xa4004, 16, 1024, 0x1000000, 1, 0x1000000, 1⟩
  , ⟨.MS_STRM_PLAY, 0xa4008, 16, 1024, 0x1000000, 1, 0x1000000, 1⟩
  , ⟨.MS_STRM_CNT, 0xa400c, 16, 1024, 0x1000000, 1, 0x1000000, 1⟩
  , ⟨.MS_STRM_COMMIT, 0xa8000, 4, 1024, 0x1000000, 1, 0x1000000, 1⟩
  , ⟨.MS_STRM_CARD, 0xac000, 4, 1024, 0x1000000, 1, 0x1000000, 1⟩
  , ⟨.TL_MARCH_CTRL, 0x100400, 0x100000, 8, 0x1000000, 1, 0x1000000, 1⟩
  , ⟨.TL_MARCH_STATUS, 0x100404, 0x100000, 8, 0x1000000, 1, 0x1000000, 1⟩
  , ⟨.TL_MARCH_ADDR, 0x100408, 0x100000, 8, 0x1000000, 1, 0x1000000, 1⟩
  , ⟨.TL_SP_OFFLINE, 0x10040c, 0x100000, 8, 0x1000000, 1, 0x1000000, 1⟩
  , ⟨.TL_SP_ECC, 0x100410, 0x100000, 8, 0x1000000, 1, 0x1000000, 1⟩
  , ⟨.TL_SP_EVT, 0x100414, 0x100000, 8, 0x1000000, 1, 0x1000000, 1⟩
  , ⟨.REEL, 0x140000, 0x100000, 8, 256, 128, 4, 64⟩
  , ⟨.TL_PIPE_LAT, 0x100004, 0x100000, 8, 0x1000000, 1, 0x1000000, 1⟩
  , ⟨.TL_LANES, 0x100008, 0x100000, 8, 0x1000000, 1, 0x1000000, 1⟩
  , ⟨.TL_REEL_IDX, 0x100100, 0x100000, 8, 0x1000000, 1, 0x1000000, 1⟩
  , ⟨.TL_REEL_ARG_LO, 0x100104, 0x100000, 8, 0x1000000, 1, 0x1000000, 1⟩
  , ⟨.TL_REEL_ARG_HI, 0x100108, 0x100000, 8, 0x1000000, 1, 0x1000000, 1⟩
  , ⟨.TL_REEL_CMD, 0x10010c, 0x100000, 8, 0x1000000, 1, 0x1000000, 1⟩
  , ⟨.TL_REEL_EVT, 0x100110, 0x100000, 8, 0x1000000, 1, 0x1000000, 1⟩
  , ⟨.TL_REEL_ACTIVE, 0x100120, 0x100000, 8, 0x1000000, 1, 4, 4⟩
  , ⟨.TL_REEL_FAULTED, 0x100130, 0x100000, 8, 0x1000000, 1, 4, 4⟩
  , ⟨.TL_REEL_FLT_LAST, 0x100140, 0x100000, 8, 0x1000000, 1, 0x1000000, 1⟩
  , ⟨.TL_EVR_SEL, 0x100200, 0x100000, 8, 0x1000000, 1, 0x1000000, 1⟩
  , ⟨.TL_EVR_STAMP_LO, 0x100204, 0x100000, 8, 0x1000000, 1, 0x1000000, 1⟩
  , ⟨.TL_EVR_STAMP_HI, 0x100208, 0x100000, 8, 0x1000000, 1, 0x1000000, 1⟩
  , ⟨.TL_EVR_LOCAL_LO, 0x10020c, 0x100000, 8, 0x1000000, 1, 0x1000000, 1⟩
  , ⟨.TL_EVR_LOCAL_HI, 0x100210, 0x100000, 8, 0x1000000, 1, 0x1000000, 1⟩
  , ⟨.TL_EVR_STATUS, 0x100214, 0x100000, 8, 0x1000000, 1, 0x1000000, 1⟩
  , ⟨.TL_CUT_EVT, 0x100218, 0x100000, 8, 0x1000000, 1, 0x1000000, 1⟩
  , ⟨.TL_CUT_CNT, 0x10021c, 0x100000, 8, 0x1000000, 1, 0x1000000, 1⟩
  , ⟨.TL_HEAD_STATUS, 0x100220, 0x100000, 8, 0x1000000, 1, 0x1000000, 1⟩
  , ⟨.TL_HEAD_MISS, 0x100224, 0x100000, 8, 0x1000000, 1, 0x1000000, 1⟩
  , ⟨.TL_LATE_CNT, 0x100228, 0x100000, 8, 0x1000000, 1, 0x1000000, 1⟩
  , ⟨.TL_LATE_WORDS_LO, 0x10022c, 0x100000, 8, 0x1000000, 1, 0x1000000, 1⟩
  , ⟨.TL_LATE_WORDS_HI, 0x100230, 0x100000, 8, 0x1000000, 1, 0x1000000, 1⟩
  , ⟨.TL_LATE_LAST, 0x100234, 0x100000, 8, 0x1000000, 1, 0x1000000, 1⟩
  , ⟨.TL_VSTG_REEL, 0x100300, 0x100000, 8, 0x1000000, 1, 0x1000000, 1⟩
  , ⟨.TL_VSTG_KIND, 0x100304, 0x100000, 8, 0x1000000, 1, 0x1000000, 1⟩
  , ⟨.TL_VSTG_VAL_LO, 0x100308, 0x100000, 8, 0x1000000, 1, 0x1000000, 1⟩
  , ⟨.TL_VSTG_VAL_HI, 0x10030c, 0x100000, 8, 0x1000000, 1, 0x1000000, 1⟩
  , ⟨.TL_VSTG_LAST, 0x100318, 0x100000, 8, 0x1000000, 1, 0x1000000, 1⟩
  , ⟨.TL_VSTG_TICK_LO, 0x10031c, 0x100000, 8, 0x1000000, 1, 0x1000000, 1⟩
  , ⟨.TL_VSTG_TICK_HI, 0x100320, 0x100000, 8, 0x1000000, 1, 0x1000000, 1⟩ ]

/-- Part 2 of the address map. -/
def regRows2 : List RegRow :=
  [ ⟨.TL_VSTG_PEND, 0x100330, 0x100000, 8, 0x1000000, 1, 4, 4⟩
  , ⟨.TL_VSTG_CMD, 0x100310, 0x100000, 8, 0x1000000, 1, 0x1000000, 1⟩
  , ⟨.TL_VSTG_EVT, 0x100314, 0x100000, 8, 0x1000000, 1, 0x1000000, 1⟩
  , ⟨.CH_CTRL, 0x110000, 0x100000, 8, 0x1000, 4, 0x1000000, 1⟩
  , ⟨.CH_STATUS, 0x110004, 0x100000, 8, 0x1000, 4, 0x1000000, 1⟩
  , ⟨.CH_EVT, 0x110008, 0x100000, 8, 0x1000, 4, 0x1000000, 1⟩
  , ⟨.CH_PARK_SRC, 0x11000c, 0x100000, 8, 0x1000, 4, 0x1000000, 1⟩
  , ⟨.CH_CMD, 0x110010, 0x100000, 8, 0x1000, 4, 0x1000000, 1⟩
  , ⟨.CH_RANGE, 0x110014, 0x100000, 8, 0x1000, 4, 0x1000000, 1⟩
  , ⟨.CH_RNG_AT_LO, 0x110018, 0x100000, 8, 0x1000, 4, 0x1000000, 1⟩
  , ⟨.CH_RNG_AT_HI, 0x11001c, 0x100000, 8, 0x1000, 4, 0x1000000, 1⟩
  , ⟨.CH_CFG, 0x110020, 0x100000, 8, 0x1000, 4, 0x1000000, 1⟩
  , ⟨.CH_EQ_CFG, 0x110024, 0x100000, 8, 0x1000, 4, 0x1000000, 1⟩
  , ⟨.CH_IRQ_EN, 0x110028, 0x100000, 8, 0x1000, 4, 0x1000000, 1⟩
  , ⟨.CH_CAL_GAIN, 0x110030, 0x100000, 8, 0x1000, 4, 0x1000000, 1⟩
  , ⟨.CH_CAL_OFS, 0x110034, 0x100000, 8, 0x1000, 4, 0x1000000, 1⟩
  , ⟨.CH_CAL_SKEW, 0x110038, 0x100000, 8, 0x1000, 4, 0x1000000, 1⟩
  , ⟨.CH_CAL_TAG, 0x11003c, 0x100000, 8, 0x1000, 4, 0x1000000, 1⟩
  , ⟨.CH_EQ_COEF, 0x110400, 0x100000, 8, 0x1000, 4, 4, 128⟩
  , ⟨.CH_INL, 0x110600, 0x100000, 8, 0x1000, 4, 4, 65⟩
  , ⟨.PP_CFG, 0x120000, 0x100000, 8, 2048, 6, 0x1000000, 1⟩
  , ⟨.PP_CTRL, 0x120004, 0x100000, 8, 2048, 6, 0x1000000, 1⟩
  , ⟨.PP_STATUS, 0x120008, 0x100000, 8, 2048, 6, 0x1000000, 1⟩
  , ⟨.PP_EVT, 0x12000c, 0x100000, 8, 2048, 6, 0x1000000, 1⟩
  , ⟨.PP_PARK_SRC, 0x120010, 0x100000, 8, 2048, 6, 0x1000000, 1⟩
  , ⟨.PP_CMD, 0x120014, 0x100000, 8, 2048, 6, 0x1000000, 1⟩
  , ⟨.PP_IDLE, 0x120018, 0x100000, 8, 2048, 6, 0x1000000, 1⟩
  , ⟨.PP_FDLY, 0x12001c, 0x100000, 8, 2048, 6, 0x1000000, 1⟩
  , ⟨.PP_DLY_ZERO, 0x120020, 0x100000, 8, 2048, 6, 0x1000000, 1⟩
  , ⟨.PP_TX_DRV, 0x120024, 0x100000, 8, 2048, 6, 0x1000000, 1⟩
  , ⟨.PP_RX_CFG, 0x120028, 0x100000, 8, 2048, 6, 0x1000000, 1⟩
  , ⟨.PP_RX_STAT, 0x12002c, 0x100000, 8, 2048, 6, 0x1000000, 1⟩
  , ⟨.PP_IRQ_EN, 0x120030, 0x100000, 8, 2048, 6, 0x1000000, 1⟩
  , ⟨.PP_CAP_CFG, 0x120040, 0x100000, 8, 2048, 6, 0x1000000, 1⟩
  , ⟨.PP_CAP_AT_LO, 0x120044, 0x100000, 8, 2048, 6, 0x1000000, 1⟩
  , ⟨.PP_CAP_AT_HI, 0x120048, 0x100000, 8, 2048, 6, 0x1000000, 1⟩
  , ⟨.PP_CAP_LEN_LO, 0x12004c, 0x100000, 8, 2048, 6, 0x1000000, 1⟩
  , ⟨.PP_CAP_LEN_HI, 0x120050, 0x100000, 8, 2048, 6, 0x1000000, 1⟩
  , ⟨.PP_CAP_CNT_LO, 0x120054, 0x100000, 8, 2048, 6, 0x1000000, 1⟩
  , ⟨.PP_CAP_CNT_HI, 0x120058, 0x100000, 8, 2048, 6, 0x1000000, 1⟩
  , ⟨.PP_CAP_START_LO, 0x12005c, 0x100000, 8, 2048, 6, 0x1000000, 1⟩
  , ⟨.PP_CAP_START_HI, 0x120060, 0x100000, 8, 2048, 6, 0x1000000, 1⟩
  , ⟨.PP_JCFG0, 0x120400, 0x100000, 8, 2048, 6, 0x1000000, 1⟩
  , ⟨.PP_JCFG1, 0x120404, 0x100000, 8, 2048, 6, 0x1000000, 1⟩
  , ⟨.PP_JCTRL, 0x120408, 0x100000, 8, 2048, 6, 0x1000000, 1⟩
  , ⟨.PP_JLAT, 0x12040c, 0x100000, 8, 2048, 6, 0x1000000, 1⟩
  , ⟨.PP_JRX_TOFS, 0x120410, 0x100000, 8, 2048, 6, 0x1000000, 1⟩
  , ⟨.PP_JSTAT, 0x120414, 0x100000, 8, 2048, 6, 0x1000000, 1⟩
  , ⟨.PP_JERR, 0x120418, 0x100000, 8, 2048, 6, 0x1000000, 1⟩
  , ⟨.COR_GRP_CFG, 0xd0000, 0x1000, 4, 0x1000000, 1, 0x1000000, 1⟩ ]

/-- Part 3 of the address map. -/
def regRows3 : List RegRow :=
  [ ⟨.COR_GRP_SLICE, 0xd0004, 0x1000, 4, 0x1000000, 1, 0x1000000, 1⟩
  , ⟨.COR_GRP_CTRL, 0xd0008, 0x1000, 4, 0x1000000, 1, 0x1000000, 1⟩
  , ⟨.COR_GRP_CMD, 0xd000c, 0x1000, 4, 0x1000000, 1, 0x1000000, 1⟩
  , ⟨.COR_GRP_STATUS, 0xd0010, 0x1000, 4, 0x1000000, 1, 0x1000000, 1⟩
  , ⟨.COR_GRP_EVT, 0xd0014, 0x1000, 4, 0x1000000, 1, 0x1000000, 1⟩
  , ⟨.COR_QUAL, 0xd0018, 0x1000, 4, 0x1000000, 1, 0x1000000, 1⟩
  , ⟨.COR_LEVEL, 0xd001c, 0x1000, 4, 0x1000000, 1, 0x1000000, 1⟩
  , ⟨.COR_STEP, 0xd0020, 0x1000, 4, 0x1000000, 1, 0x1000000, 1⟩
  , ⟨.COR_PH_STEP, 0xd0024, 0x1000, 4, 0x1000000, 1, 0x1000000, 1⟩
  , ⟨.COR_LIM_LINE, 0xd0028, 0x1000, 4, 0x1000000, 1, 0x1000000, 1⟩
  , ⟨.COR_LIM_RMS, 0xd002c, 0x1000, 4, 0x1000000, 1, 0x1000000, 1⟩
  , ⟨.COR_ABT_LINES, 0xd0030, 0x1000, 4, 0x1000000, 1, 0x1000000, 1⟩
  , ⟨.COR_ABT_TIME, 0xd0034, 0x1000, 4, 0x1000000, 1, 0x1000000, 1⟩
  , ⟨.COR_DRV_MAX, 0xd0038, 0x1000, 4, 0x1000000, 1, 0x1000000, 1⟩
  , ⟨.COR_REG, 0xd003c, 0x1000, 4, 0x1000000, 1, 0x1000000, 1⟩
  , ⟨.COR_STORE, 0xd0040, 0x1000, 4, 0x1000000, 1, 0x1000000, 1⟩
  , ⟨.COR_DRV_LVL, 0xd0044, 0x1000, 4, 0x1000000, 1, 0x1000000, 1⟩
  , ⟨.COR_CNT, 0xd0048, 0x1000, 4, 0x1000000, 1, 0x1000000, 1⟩
  , ⟨.COR_CNT2, 0xd004c, 0x1000, 4, 0x1000000, 1, 0x1000000, 1⟩
  , ⟨.COR_IRQ_EN, 0xd0050, 0x1000, 4, 0x1000000, 1, 0x1000000, 1⟩
  , ⟨.COR_GRP_DRV, 0xd0060, 0x1000, 4, 0x1000000, 1, 4, 16⟩
  , ⟨.COR_IN_CFG, 0xd8000, 4, 64, 0x1000000, 1, 0x1000000, 1⟩
  , ⟨.COR_IN_STAT, 0xd8100, 4, 64, 0x1000000, 1, 0x1000000, 1⟩
  , ⟨.TIU_CTRL, 0x60000, 2048, 24, 0x1000000, 1, 0x1000000, 1⟩
  , ⟨.TIU_CFG, 0x60004, 2048, 24, 0x1000000, 1, 0x1000000, 1⟩
  , ⟨.TIU_SRC, 0x60008, 2048, 24, 0x1000000, 1, 0x1000000, 1⟩
  , ⟨.TIU_STATUS, 0x6000c, 2048, 24, 0x1000000, 1, 0x1000000, 1⟩
  , ⟨.TIU_EVT, 0x60010, 2048, 24, 0x1000000, 1, 0x1000000, 1⟩
  , ⟨.TIU_PRESCALE, 0x60014, 2048, 24, 0x1000000, 1, 0x1000000, 1⟩
  , ⟨.TIU_MAXN, 0x60018, 2048, 24, 0x1000000, 1, 0x1000000, 1⟩
  , ⟨.TIU_AT_LO, 0x6001c, 2048, 24, 0x1000000, 1, 0x1000000, 1⟩
  , ⟨.TIU_AT_HI, 0x60020, 2048, 24, 0x1000000, 1, 0x1000000, 1⟩
  , ⟨.TIU_LIMIT_LO, 0x60024, 2048, 24, 0x1000000, 1, 0x1000000, 1⟩
  , ⟨.TIU_LIMIT_HI, 0x60028, 2048, 24, 0x1000000, 1, 0x1000000, 1⟩
  , ⟨.TIU_IRQ_EN, 0x6002c, 2048, 24, 0x1000000, 1, 0x1000000, 1⟩
  , ⟨.TIU_CAL_CMD, 0x60030, 2048, 24, 0x1000000, 1, 0x1000000, 1⟩
  , ⟨.TIU_CAL_STAT, 0x60034, 2048, 24, 0x1000000, 1, 0x1000000, 1⟩
  , ⟨.TIU_RUN_LO, 0x60038, 2048, 24, 0x1000000, 1, 0x1000000, 1⟩
  , ⟨.TIU_RUN_HI, 0x6003c, 2048, 24, 0x1000000, 1, 0x1000000, 1⟩
  , ⟨.TIU_RSTAT, 0x60080, 2048, 24, 0x1000000, 1, 0x1000000, 1⟩
  , ⟨.TIU_OVERRUN, 0x60084, 2048, 24, 0x1000000, 1, 0x1000000, 1⟩
  , ⟨.TIU_START, 0x60088, 2048, 24, 0x1000000, 1, 4, 3⟩
  , ⟨.TIU_STOP, 0x60094, 2048, 24, 0x1000000, 1, 4, 3⟩
  , ⟨.TIU_ISUM_LO, 0x600a0, 2048, 24, 0x1000000, 1, 0x1000000, 1⟩
  , ⟨.TIU_ISUM_HI, 0x600a4, 2048, 24, 0x1000000, 1, 0x1000000, 1⟩
  , ⟨.TIU_IMIN_LO, 0x600a8, 2048, 24, 0x1000000, 1, 0x1000000, 1⟩
  , ⟨.TIU_IMIN_HI, 0x600ac, 2048, 24, 0x1000000, 1, 0x1000000, 1⟩
  , ⟨.TIU_IMAX_LO, 0x600b0, 2048, 24, 0x1000000, 1, 0x1000000, 1⟩
  , ⟨.TIU_IMAX_HI, 0x600b4, 2048, 24, 0x1000000, 1, 0x1000000, 1⟩
  , ⟨.TIU_FREQ_RATIO_LO, 0x600b8, 2048, 24, 0x1000000, 1, 0x1000000, 1⟩ ]

/-- Part 4 of the address map. -/
def regRows4 : List RegRow :=
  [ ⟨.TIU_FREQ_RATIO_HI, 0x600bc, 2048, 24, 0x1000000, 1, 0x1000000, 1⟩
  , ⟨.TIU_FREQ_EXP, 0x600c0, 2048, 24, 0x1000000, 1, 0x1000000, 1⟩
  , ⟨.TIU_SUM_T, 0x600c4, 2048, 24, 0x1000000, 1, 4, 3⟩
  , ⟨.TIU_SUM_IT, 0x600d0, 2048, 24, 0x1000000, 1, 4, 4⟩
  , ⟨.TIU_TAP, 0x60400, 2048, 24, 0x1000000, 1, 4, 128⟩
  , ⟨.EV_GRP_EN, 0x50000, 0x1000000, 1, 0x1000000, 1, 0x1000000, 1⟩
  , ⟨.EV_FIRE, 0x50004, 4, 4, 0x1000000, 1, 0x1000000, 1⟩
  , ⟨.EV_EVT, 0x50014, 0x1000000, 1, 0x1000000, 1, 0x1000000, 1⟩
  , ⟨.EV_CMD, 0x50018, 0x1000000, 1, 0x1000000, 1, 0x1000000, 1⟩
  , ⟨.EV_TASK_FIRE, 0x5001c, 0x1000000, 1, 0x1000000, 1, 0x1000000, 1⟩
  , ⟨.EV_LOOP_STAT, 0x50020, 4, 4, 0x1000000, 1, 0x1000000, 1⟩
  , ⟨.EV_SLEEP_SEEN, 0x50030, 4, 4, 0x1000000, 1, 0x1000000, 1⟩
  , ⟨.EV_GRP_MAP, 0x50040, 4, 16, 0x1000000, 1, 0x1000000, 1⟩
  , ⟨.EV_IRQ_SEL, 0x50080, 4, 32, 0x1000000, 1, 0x1000000, 1⟩
  , ⟨.EV_EVIO_PAIR, 0x50140, 0x1000000, 1, 0x1000000, 1, 0x1000000, 1⟩
  , ⟨.EV_EVIO_CFG, 0x50100, 4, 16, 0x1000000, 1, 0x1000000, 1⟩
  , ⟨.EV_TMR_CFG, 0x50200, 32, 16, 0x1000000, 1, 0x1000000, 1⟩
  , ⟨.EV_TMR_PER_LO, 0x50204, 32, 16, 0x1000000, 1, 0x1000000, 1⟩
  , ⟨.EV_TMR_PER_HI, 0x50208, 32, 16, 0x1000000, 1, 0x1000000, 1⟩
  , ⟨.EV_TMR_OFS_LO, 0x5020c, 32, 16, 0x1000000, 1, 0x1000000, 1⟩
  , ⟨.EV_TMR_OFS_HI, 0x50210, 32, 16, 0x1000000, 1, 0x1000000, 1⟩
  , ⟨.EV_THR_CFG, 0x50400, 8, 32, 0x1000000, 1, 0x1000000, 1⟩
  , ⟨.EV_THR_LVL, 0x50404, 8, 32, 0x1000000, 1, 0x1000000, 1⟩
  , ⟨.EV_TASK_CFG, 0x51000, 4, 768, 0x1000000, 1, 0x1000000, 1⟩
  , ⟨.EV_TASK_STAT, 0x52000, 4, 768, 0x1000000, 1, 0x1000000, 1⟩
  , ⟨.EV_MATRIX, 0x80000, 16, 512, 0x1000000, 1, 4, 4⟩
  , ⟨.IC_ROUTE, 0x40000, 4, 256, 0x1000000, 1, 0x1000000, 1⟩
  , ⟨.IC_CLAIM, 0x40480, 4, 12, 0x1000000, 1, 0x1000000, 1⟩
  , ⟨.IC_EVT, 0x40548, 0x1000000, 1, 0x1000000, 1, 0x1000000, 1⟩
  , ⟨.IC_PEND, 0x40400, 4, 8, 0x1000000, 1, 0x1000000, 1⟩
  , ⟨.IC_TGT_STATUS, 0x40440, 4, 12, 0x1000000, 1, 0x1000000, 1⟩
  , ⟨.IC_EOI, 0x404c0, 4, 12, 0x1000000, 1, 0x1000000, 1⟩
  , ⟨.IC_TGT_CFG, 0x40500, 4, 4, 0x1000000, 1, 0x1000000, 1⟩
  , ⟨.IC_SW_SET, 0x40540, 0x1000000, 1, 0x1000000, 1, 0x1000000, 1⟩
  , ⟨.IC_SW_STAT, 0x40544, 0x1000000, 1, 0x1000000, 1, 0x1000000, 1⟩
  , ⟨.IC_FAULTN_EN_LO, 0x40550, 0x1000000, 1, 0x1000000, 1, 0x1000000, 1⟩
  , ⟨.IC_FAULTN_EN_HI, 0x40554, 0x1000000, 1, 0x1000000, 1, 0x1000000, 1⟩
  , ⟨.IC_EVC_STAT, 0x40560, 4, 1, 0x1000000, 1, 0x1000000, 1⟩
  , ⟨.IC_WAKE_SEL, 0x40600, 4, 32, 0x1000000, 1, 0x1000000, 1⟩
  , ⟨.IC_WAKE_CAUSE, 0x40680, 0x1000000, 1, 0x1000000, 1, 0x1000000, 1⟩
  , ⟨.IC_LDG_ACTIVE_LO, 0x40700, 0x1000000, 1, 0x1000000, 1, 0x1000000, 1⟩
  , ⟨.IC_LDG_ACTIVE_HI, 0x40704, 0x1000000, 1, 0x1000000, 1, 0x1000000, 1⟩
  , ⟨.IC_LDG_CLR, 0x40708, 0x1000000, 1, 0x1000000, 1, 0x1000000, 1⟩
  , ⟨.IC_ARC_CFG, 0x40800, 0x1000000, 1, 0x1000000, 1, 0x1000000, 1⟩
  , ⟨.IC_ARC_WR, 0x40804, 0x1000000, 1, 0x1000000, 1, 0x1000000, 1⟩
  , ⟨.IC_ARC_RD, 0x40808, 0x1000000, 1, 0x1000000, 1, 0x1000000, 1⟩
  , ⟨.IC_ARC_FILL, 0x4080c, 0x1000000, 1, 0x1000000, 1, 0x1000000, 1⟩
  , ⟨.IC_ARC_LOST, 0x40810, 0x1000000, 1, 0x1000000, 1, 0x1000000, 1⟩
  , ⟨.IC_ARC_EVT, 0x40814, 0x1000000, 1, 0x1000000, 1, 0x1000000, 1⟩
  , ⟨.IC_ARC_IRQ_EN, 0x40818, 0x1000000, 1, 0x1000000, 1, 0x1000000, 1⟩ ]

/-- Part 5 of the address map. -/
def regRows5 : List RegRow :=
  [ ⟨.IC_ARC_TEMP, 0x4081c, 0x1000000, 1, 0x1000000, 1, 0x1000000, 1⟩
  , ⟨.IC_LDG, 0x41000, 256, 64, 0x1000000, 1, 4, 64⟩
  , ⟨.TL_IRQ_EN, 0x100500, 0x100000, 8, 0x1000000, 1, 0x1000000, 1⟩
  , ⟨.TL_CC_IRQ, 0x100504, 0x100000, 8, 0x1000000, 1, 0x1000000, 1⟩
  , ⟨.TL_ARC_TRACE, 0x100510, 0x100000, 8, 0x1000000, 1, 4, 4⟩
  , ⟨.LK_STUDIO, 0xc0000, 0x1000000, 1, 0x1000000, 1, 0x1000000, 1⟩
  , ⟨.LK_STUDIO_CFG, 0xc0004, 0x1000000, 1, 0x1000000, 1, 0x1000000, 1⟩
  , ⟨.LK_STUDIO_CMD, 0xc0008, 0x1000000, 1, 0x1000000, 1, 0x1000000, 1⟩
  , ⟨.LK_STUDIO_STATUS, 0xc000c, 0x1000000, 1, 0x1000000, 1, 0x1000000, 1⟩
  , ⟨.LK_STUDIO_EVT, 0xc0010, 0x1000000, 1, 0x1000000, 1, 0x1000000, 1⟩
  , ⟨.LK_STUDIO_IRQ_EN, 0xc0014, 0x1000000, 1, 0x1000000, 1, 0x1000000, 1⟩
  , ⟨.LK_VSTEP, 0xc0018, 0x1000000, 1, 0x1000000, 1, 0x1000000, 1⟩
  , ⟨.LK_CFG, 0xc1000, 1024, 16, 0x1000000, 1, 0x1000000, 1⟩
  , ⟨.LK_CTRL, 0xc1004, 1024, 16, 0x1000000, 1, 0x1000000, 1⟩
  , ⟨.LK_STATUS, 0xc1008, 1024, 16, 0x1000000, 1, 0x1000000, 1⟩
  , ⟨.LK_EVT, 0xc100c, 1024, 16, 0x1000000, 1, 0x1000000, 1⟩
  , ⟨.LK_IRQ_EN, 0xc1010, 1024, 16, 0x1000000, 1, 0x1000000, 1⟩
  , ⟨.LK_RTT, 0xc1014, 1024, 16, 0x1000000, 1, 0x1000000, 1⟩
  , ⟨.LK_THETA_LO, 0xc1018, 1024, 16, 0x1000000, 1, 0x1000000, 1⟩
  , ⟨.LK_THETA_HI, 0xc101c, 1024, 16, 0x1000000, 1, 0x1000000, 1⟩
  , ⟨.LK_ASYM, 0xc1020, 1024, 16, 0x1000000, 1, 0x1000000, 1⟩
  , ⟨.LK_EV_MEAS, 0xc1024, 1024, 16, 0x1000000, 1, 0x1000000, 1⟩
  , ⟨.LK_CNT, 0xc1028, 1024, 16, 0x1000000, 1, 0x1000000, 1⟩
  , ⟨.LK_STRM_MEAS, 0xc102c, 1024, 16, 0x1000000, 1, 0x1000000, 1⟩
  , ⟨.LK_TXEV, 0xc1040, 1024, 16, 0x1000000, 1, 4, 8⟩
  , ⟨.LK_TXS_CFG, 0xc1060, 1024, 16, 0x1000000, 1, 4, 4⟩
  , ⟨.LK_RXS_CFG, 0xc1080, 1024, 16, 0x1000000, 1, 4, 4⟩
  , ⟨.LK_RXS_GAIN, 0xc10a0, 1024, 16, 0x1000000, 1, 4, 4⟩
  , ⟨.LK_RXS_STAT, 0xc10c0, 1024, 16, 0x1000000, 1, 4, 4⟩
  , ⟨.CAL_CTRL, 0x70000, 0x1000000, 1, 0x1000000, 1, 0x1000000, 1⟩
  , ⟨.CAL_STATUS, 0x70004, 0x1000000, 1, 0x1000000, 1, 0x1000000, 1⟩
  , ⟨.CAL_CMD, 0x70008, 0x1000000, 1, 0x1000000, 1, 0x1000000, 1⟩
  , ⟨.CAL_ARG, 0x7000c, 0x1000000, 1, 0x1000000, 1, 0x1000000, 1⟩
  , ⟨.CAL_EVT, 0x70010, 0x1000000, 1, 0x1000000, 1, 0x1000000, 1⟩
  , ⟨.CAL_IRQ_EN, 0x70014, 0x1000000, 1, 0x1000000, 1, 0x1000000, 1⟩
  , ⟨.CAL_RCAL, 0x70020, 0x1000000, 1, 0x1000000, 1, 0x1000000, 1⟩
  , ⟨.CAL_REC_ID, 0x70024, 0x1000000, 1, 0x1000000, 1, 0x1000000, 1⟩
  , ⟨.CAL_OVR_CNT, 0x70028, 0x1000000, 1, 0x1000000, 1, 0x1000000, 1⟩
  , ⟨.CAL_OVR_ADDR_LO, 0x70030, 0x1000000, 1, 0x1000000, 1, 0x1000000, 1⟩
  , ⟨.CAL_OVR_ADDR_HI, 0x70034, 0x1000000, 1, 0x1000000, 1, 0x1000000, 1⟩
  , ⟨.CAL_CH_STATUS, 0x71000, 64, 32, 0x1000000, 1, 0x1000000, 1⟩
  , ⟨.CAL_XDEC, 0x71004, 64, 32, 0x1000000, 1, 0x1000000, 1⟩
  , ⟨.CAL_RESID, 0x71008, 64, 32, 0x1000000, 1, 0x1000000, 1⟩
  , ⟨.CAL_LOAD, 0x7100c, 64, 32, 0x1000000, 1, 0x1000000, 1⟩
  , ⟨.CAL_PEND_TAG, 0x71010, 64, 32, 0x1000000, 1, 0x1000000, 1⟩
  , ⟨.CAL_TJ, 0x71014, 64, 32, 0x1000000, 1, 0x1000000, 1⟩
  , ⟨.SYS_IMG_SRC, 0x400, 0x1000000, 1, 0x1000000, 1, 0x1000000, 1⟩
  , ⟨.SYS_IMG_ADDR_LO, 0x404, 0x1000000, 1, 0x1000000, 1, 0x1000000, 1⟩
  , ⟨.SYS_IMG_ADDR_HI, 0x408, 0x1000000, 1, 0x1000000, 1, 0x1000000, 1⟩
  , ⟨.SYS_IMG_LEN, 0x40c, 0x1000000, 1, 0x1000000, 1, 0x1000000, 1⟩ ]

/-- Part 6 of the address map. -/
def regRows6 : List RegRow :=
  [ ⟨.SYS_IMG_CMD, 0x410, 0x1000000, 1, 0x1000000, 1, 0x1000000, 1⟩
  , ⟨.SYS_IMG_STATUS, 0x414, 0x1000000, 1, 0x1000000, 1, 0x1000000, 1⟩
  , ⟨.SYS_IMG_TILE, 0x418, 0x1000000, 1, 0x1000000, 1, 0x1000000, 1⟩
  , ⟨.SYS_IMG_ID, 0x41c, 0x1000000, 1, 0x1000000, 1, 0x1000000, 1⟩
  , ⟨.SYS_TILE_CTRL, 0x420, 4, 8, 0x1000000, 1, 0x1000000, 1⟩
  , ⟨.SYS_TILE_STATUS, 0x440, 4, 8, 0x1000000, 1, 0x1000000, 1⟩
  , ⟨.SYS_PWR_CMD, 0x460, 0x1000000, 1, 0x1000000, 1, 0x1000000, 1⟩
  , ⟨.SYS_PWR_STATUS, 0x464, 0x1000000, 1, 0x1000000, 1, 0x1000000, 1⟩
  , ⟨.SYS_RESET, 0x468, 0x1000000, 1, 0x1000000, 1, 0x1000000, 1⟩
  , ⟨.TL_GRANT, 0x108000, 0x100000, 8, 16, 128, 4, 4⟩
  , ⟨.AON_BOOT_STATUS, 0x10100, 0x1000000, 1, 0x1000000, 1, 0x1000000, 1⟩
  , ⟨.AON_BOOT_FAILS, 0x10104, 0x1000000, 1, 0x1000000, 1, 0x1000000, 1⟩
  , ⟨.AON_BOOT_CMD, 0x10108, 0x1000000, 1, 0x1000000, 1, 0x1000000, 1⟩
  , ⟨.AON_BOOT_CFG, 0x1010c, 0x1000000, 1, 0x1000000, 1, 0x1000000, 1⟩
  , ⟨.AON_BPB_REF, 0x10110, 0x1000000, 1, 0x1000000, 1, 0x1000000, 1⟩
  , ⟨.AON_BPB_PLL, 0x10114, 0x1000000, 1, 0x1000000, 1, 0x1000000, 1⟩
  , ⟨.AON_BOOT_PAY_ADDR_LO, 0x10118, 0x1000000, 1, 0x1000000, 1, 0x1000000, 1⟩
  , ⟨.AON_BOOT_PAY_ADDR_HI, 0x1011c, 0x1000000, 1, 0x1000000, 1, 0x1000000, 1⟩
  , ⟨.AON_BOOT_PAY_LEN, 0x10120, 0x1000000, 1, 0x1000000, 1, 0x1000000, 1⟩
  , ⟨.AON_BSTAGE_T, 0x10140, 4, 12, 0x1000000, 1, 0x1000000, 1⟩
  , ⟨.AON_PWR_STATUS, 0x10200, 0x1000000, 1, 0x1000000, 1, 0x1000000, 1⟩
  , ⟨.AON_PWR_CMD, 0x10204, 0x1000000, 1, 0x1000000, 1, 0x1000000, 1⟩
  , ⟨.AON_PWR_CFG, 0x10208, 0x1000000, 1, 0x1000000, 1, 0x1000000, 1⟩
  , ⟨.AON_PWR_EVT, 0x1020c, 0x1000000, 1, 0x1000000, 1, 0x1000000, 1⟩
  , ⟨.AON_LDR_ADDR_LO, 0x10220, 0x1000000, 1, 0x1000000, 1, 0x1000000, 1⟩
  , ⟨.AON_LDR_ADDR_HI, 0x10224, 0x1000000, 1, 0x1000000, 1, 0x1000000, 1⟩
  , ⟨.AON_LDR_OFS, 0x10228, 0x1000000, 1, 0x1000000, 1, 0x1000000, 1⟩
  , ⟨.AON_LDR_LEN, 0x1022c, 0x1000000, 1, 0x1000000, 1, 0x1000000, 1⟩
  , ⟨.AON_LDR_CMD, 0x10230, 0x1000000, 1, 0x1000000, 1, 0x1000000, 1⟩
  , ⟨.AON_LDR_STATUS, 0x10234, 0x1000000, 1, 0x1000000, 1, 0x1000000, 1⟩
  , ⟨.SEC_STATUS, 0x30000, 0x1000000, 1, 0x1000000, 1, 0x1000000, 1⟩
  , ⟨.SEC_CMD, 0x30004, 0x1000000, 1, 0x1000000, 1, 0x1000000, 1⟩
  , ⟨.SEC_EVT, 0x30008, 0x1000000, 1, 0x1000000, 1, 0x1000000, 1⟩
  , ⟨.SEC_IRQ_EN, 0x3000c, 0x1000000, 1, 0x1000000, 1, 0x1000000, 1⟩
  , ⟨.SEC_ALARM, 0x30010, 0x1000000, 1, 0x1000000, 1, 0x1000000, 1⟩
  , ⟨.SEC_NONCE, 0x30020, 4, 8, 0x1000000, 1, 0x1000000, 1⟩
  , ⟨.SEC_BOOT_CNT, 0x30040, 0x1000000, 1, 0x1000000, 1, 0x1000000, 1⟩
  , ⟨.SEC_FW_FLOOR, 0x30044, 0x1000000, 1, 0x1000000, 1, 0x1000000, 1⟩
  , ⟨.SEC_IMG_FLOOR, 0x30048, 0x1000000, 1, 0x1000000, 1, 0x1000000, 1⟩
  , ⟨.SEC_OVR_FLOOR, 0x3004c, 0x1000000, 1, 0x1000000, 1, 0x1000000, 1⟩
  , ⟨.SEC_UID, 0x30060, 4, 4, 0x1000000, 1, 0x1000000, 1⟩
  , ⟨.SEC_ID_DIG, 0x30080, 4, 16, 0x1000000, 1, 0x1000000, 1⟩
  , ⟨.SEC_VKEY_DIG, 0x300c0, 4, 16, 0x1000000, 1, 0x1000000, 1⟩
  , ⟨.SEC_OKEY_DIG, 0x30100, 4, 16, 0x1000000, 1, 0x1000000, 1⟩
  , ⟨.SEC_DNONCE, 0x30140, 4, 8, 0x1000000, 1, 0x1000000, 1⟩
  , ⟨.SEC_ID_PUB, 0x30800, 0x1000000, 1, 0x1000000, 1, 4, 452⟩
  , ⟨.SEC_ATT, 0x31000, 0x1000000, 1, 0x1000000, 1, 4, 1024⟩
  , ⟨.SEC_XFER, 0x32000, 0x1000000, 1, 0x1000000, 1, 4, 1024⟩
  , ⟨.SYS_ID, 0x0, 0x1000000, 1, 0x1000000, 1, 0x1000000, 1⟩
  , ⟨.SYS_FAMILY, 0x4, 0x1000000, 1, 0x1000000, 1, 0x1000000, 1⟩ ]

/-- Part 7 of the address map. -/
def regRows7 : List RegRow :=
  [ ⟨.SYS_FAMILY2, 0x8, 0x1000000, 1, 0x1000000, 1, 0x1000000, 1⟩
  , ⟨.SYS_FAMILY3, 0xc, 0x1000000, 1, 0x1000000, 1, 0x1000000, 1⟩
  , ⟨.SYS_HIF_STATUS, 0x10, 0x1000000, 1, 0x1000000, 1, 0x1000000, 1⟩
  , ⟨.SYS_HIF_EVT, 0x14, 0x1000000, 1, 0x1000000, 1, 0x1000000, 1⟩
  , ⟨.SYS_PF_CFG, 0x20, 4, 4, 0x1000000, 1, 0x1000000, 1⟩
  , ⟨.SYS_MSIX, 0x8000, 0, 4, 0x1000000, 1, 4, 8⟩
  , ⟨.SYS_MSIX_PBA, 0x8800, 0, 4, 0x1000000, 1, 0x1000000, 1⟩
  , ⟨.AON_EVT, 0x10000, 0x1000000, 1, 0x1000000, 1, 0x1000000, 1⟩
  , ⟨.AON_IRQ_EN, 0x10004, 0x1000000, 1, 0x1000000, 1, 0x1000000, 1⟩
  , ⟨.DMA_EVT, 0xb0000, 0x1000000, 1, 0x1000000, 1, 0x1000000, 1⟩
  , ⟨.DMA_IRQ_EN, 0xb0004, 0x1000000, 1, 0x1000000, 1, 0x1000000, 1⟩
  , ⟨.DMA_Q_ACTIVE_LO, 0xb0010, 0x1000000, 1, 0x1000000, 1, 0x1000000, 1⟩
  , ⟨.DMA_Q_ACTIVE_HI, 0xb0014, 0x1000000, 1, 0x1000000, 1, 0x1000000, 1⟩
  , ⟨.DMA_Q_CTRL, 0xb1000, 64, 64, 0x1000000, 1, 0x1000000, 1⟩
  , ⟨.DMA_Q_STATUS, 0xb1004, 64, 64, 0x1000000, 1, 0x1000000, 1⟩
  , ⟨.DMA_Q_HEAD, 0xb1008, 64, 64, 0x1000000, 1, 0x1000000, 1⟩
  , ⟨.DMA_Q_TAIL, 0xb100c, 64, 64, 0x1000000, 1, 0x1000000, 1⟩
  , ⟨.DMA_Q_BASE_LO, 0xb1010, 64, 64, 0x1000000, 1, 0x1000000, 1⟩
  , ⟨.DMA_Q_BASE_HI, 0xb1014, 64, 64, 0x1000000, 1, 0x1000000, 1⟩
  , ⟨.DMA_Q_SIZE, 0xb1018, 64, 64, 0x1000000, 1, 0x1000000, 1⟩
  , ⟨.DMA_Q_EVT, 0xb101c, 64, 64, 0x1000000, 1, 0x1000000, 1⟩
  , ⟨.DMA_Q_IRQ_EN, 0xb1020, 64, 64, 0x1000000, 1, 0x1000000, 1⟩
  , ⟨.DMA_Q_BYTES_LO, 0xb1024, 64, 64, 0x1000000, 1, 0x1000000, 1⟩
  , ⟨.DMA_Q_BYTES_HI, 0xb1028, 64, 64, 0x1000000, 1, 0x1000000, 1⟩
  , ⟨.SYS_TJ, 0x500, 4, 21, 0x1000000, 1, 0x1000000, 1⟩
  , ⟨.SYS_THERM, 0x560, 0x1000000, 1, 0x1000000, 1, 0x1000000, 1⟩
  , ⟨.SYS_RAIL, 0x564, 0x1000000, 1, 0x1000000, 1, 0x1000000, 1⟩
  , ⟨.SYS_WEAR, 0x600, 32, 3, 0x1000000, 1, 4, 7⟩
  , ⟨.SYS_WEAR_USED, 0x660, 4, 3, 0x1000000, 1, 0x1000000, 1⟩
  , ⟨.AON_BREC, 0x10180, 16, 8, 0x1000000, 1, 4, 4⟩
  , ⟨.MS_REFILL_BW, 0xa00c0, 0x1000000, 1, 0x1000000, 1, 0x1000000, 1⟩ ]

/-- The BAR0 address map (R26, R27 and the captions of the register tables). -/
def regRows : List RegRow :=
  regRows0 ++ regRows1 ++ regRows2 ++ regRows3 ++ regRows4 ++ regRows5 ++ regRows6 ++ regRows7

/-- The BAR0 address of instance `i`, dword `j` of the register of a row. -/
def RegRow.addr (w : RegRow) (i j : Nat) : Nat :=
  w.base + (i / w.nCount) * w.oStride + (i % w.nCount) * w.nStride + j * w.jStride

/-- The instance and dword of a row that lie at BAR0 address `a`, if any. -/
def RegRow.at? (w : RegRow) (a : Nat) : Option (Nat × Nat) :=
  if a < w.base then none else
    let d := a - w.base
    let o := d / w.oStride
    let d1 := d % w.oStride
    let n := d1 / w.nStride
    let d2 := d1 % w.nStride
    let j := d2 / w.jStride
    if o < w.oCount ∧ n < w.nCount ∧ j < w.jCount ∧ d2 % w.jStride = 0 then some (o * w.nCount + n, j) else none

/-- The register, instance and dword at a BAR0 address; none at an unimplemented address (R21). The MSI-X table and
the PBA stand in the map once: each PF sees its own (R431), so their instance is the reading PF. -/
def regAt (pf a : Nat) : Option (RName × Nat × Nat) :=
  (regRows.findSome? (fun w => (w.at? a).map (fun p => (w.r, p.1, p.2)))).map (fun q =>
    match q.1 with
    | .SYS_MSIX => (.SYS_MSIX, pf, q.2.2)
    | .SYS_MSIX_PBA => (.SYS_MSIX_PBA, pf, 0)
    | _ => q)

/-- The keys of one register dword, from the top bit down. -/
def keysOf (r : RName) (i j : Nat) : List Key :=
  (layout r j).map (fun f => ⟨r, i, j, f.lo, f.w⟩)

end Sys2Proof.Machine
end

