-- ==== Sys2Proof/Machine/Fields.lean ====
section
/-!
DEFINITION. A name for every field of every register (`Fld.<register>_<field>`, the register's name alone where it
has one unnamed field), and for every internal latch (`Lat.<name>`, with what it holds). `i` is the device-wide
instance, `j` the sub-index of the table.
-/
namespace Sys2Proof.Machine

abbrev Fld.TB_CTRL_ANCHOR_TIU : Key := ⟨.TB_CTRL, 0, 0, 11, 5⟩
abbrev Fld.TB_CTRL_ANCHOR_MEAS : Key := ⟨.TB_CTRL, 0, 0, 10, 1⟩
abbrev Fld.TB_CTRL_AUTO_TRIM : Key := ⟨.TB_CTRL, 0, 0, 9, 1⟩
abbrev Fld.TB_STATUS_STATE : Key := ⟨.TB_STATUS, 0, 0, 16, 4⟩
abbrev Fld.TB_STATUS_ANCHOR_ARMED : Key := ⟨.TB_STATUS, 0, 0, 6, 1⟩
abbrev Fld.TB_STATUS_EPIN_UNREF : Key := ⟨.TB_STATUS, 0, 0, 5, 1⟩
abbrev Fld.TB_STATUS_DISC_EST : Key := ⟨.TB_STATUS, 0, 0, 4, 1⟩
abbrev Fld.TB_STATUS_LOAD_ARMED : Key := ⟨.TB_STATUS, 0, 0, 3, 1⟩
abbrev Fld.TB_STATUS_UNREF : Key := ⟨.TB_STATUS, 0, 0, 2, 1⟩
abbrev Fld.TB_STATUS_REF_PRESENT : Key := ⟨.TB_STATUS, 0, 0, 1, 1⟩
abbrev Fld.TB_STATUS_LOCKED : Key := ⟨.TB_STATUS, 0, 0, 0, 1⟩
abbrev Fld.TB_EVT_RESTART_QUEUED : Key := ⟨.TB_EVT, 0, 0, 7, 1⟩
abbrev Fld.TB_EVT_EN_REFUSED : Key := ⟨.TB_EVT, 0, 0, 6, 1⟩
abbrev Fld.TB_EVT_LOAD_REFUSED : Key := ⟨.TB_EVT, 0, 0, 5, 1⟩
abbrev Fld.TB_EVT_CFG_ERR : Key := ⟨.TB_EVT, 0, 0, 4, 1⟩
abbrev Fld.TB_EVT_ANCHOR_DONE : Key := ⟨.TB_EVT, 0, 0, 3, 1⟩
abbrev Fld.TB_EVT_UNLOCK : Key := ⟨.TB_EVT, 0, 0, 2, 1⟩
abbrev Fld.TB_EVT_REF_BACK : Key := ⟨.TB_EVT, 0, 0, 1, 1⟩
abbrev Fld.TB_EVT_REF_LOST : Key := ⟨.TB_EVT, 0, 0, 0, 1⟩
abbrev Fld.TB_CMD_LOAD_DISARM : Key := ⟨.TB_CMD, 0, 0, 4, 1⟩
abbrev Fld.TB_CMD_TOD_COMMIT : Key := ⟨.TB_CMD, 0, 0, 3, 1⟩
abbrev Fld.TB_CMD_LOAD_ARM : Key := ⟨.TB_CMD, 0, 0, 2, 1⟩
abbrev Fld.TB_CMD_RELOCK : Key := ⟨.TB_CMD, 0, 0, 1, 1⟩
abbrev Fld.TB_CMD_ANCHOR : Key := ⟨.TB_CMD, 0, 0, 0, 1⟩
abbrev Fld.TB_TICK_LO : Key := ⟨.TB_TICK_LO, 0, 0, 0, 32⟩
abbrev Fld.TB_TICK_HI : Key := ⟨.TB_TICK_HI, 0, 0, 0, 32⟩
abbrev Fld.TB_LOAD_LO : Key := ⟨.TB_LOAD_LO, 0, 0, 0, 32⟩
abbrev Fld.TB_LOAD_HI : Key := ⟨.TB_LOAD_HI, 0, 0, 0, 32⟩
abbrev Fld.TB_REFLOSS_ACT_ACT : Key := ⟨.TB_REFLOSS_ACT, 0, 0, 0, 2⟩
abbrev Fld.TB_RELOCK_AUTO_EN : Key := ⟨.TB_RELOCK_AUTO, 0, 0, 0, 1⟩
abbrev Fld.TB_FTRIM_CUR : Key := ⟨.TB_FTRIM, 0, 0, 16, 9⟩
abbrev Fld.TB_FTRIM_TRIM : Key := ⟨.TB_FTRIM, 0, 0, 0, 9⟩
abbrev Fld.TB_ANCHOR_RES : Key := ⟨.TB_ANCHOR_RES, 0, 0, 0, 32⟩
abbrev Fld.TB_ANCHOR_TGT : Key := ⟨.TB_ANCHOR_TGT, 0, 0, 0, 32⟩
abbrev Fld.TB_DISC : Key := ⟨.TB_DISC, 0, 0, 0, 32⟩
abbrev Fld.TB_COAST_LO : Key := ⟨.TB_COAST_LO, 0, 0, 0, 32⟩
abbrev Fld.TB_COAST_HI : Key := ⟨.TB_COAST_HI, 0, 0, 0, 32⟩
abbrev Fld.TB_TOD_SEC_LO : Key := ⟨.TB_TOD_SEC_LO, 0, 0, 0, 32⟩
abbrev Fld.TB_TOD_SEC_HI : Key := ⟨.TB_TOD_SEC_HI, 0, 0, 0, 16⟩
abbrev Fld.TB_TOD_NS : Key := ⟨.TB_TOD_NS, 0, 0, 0, 30⟩
abbrev Fld.TB_TOD_TICK_LO : Key := ⟨.TB_TOD_TICK_LO, 0, 0, 0, 32⟩
abbrev Fld.TB_TOD_TICK_HI : Key := ⟨.TB_TOD_TICK_HI, 0, 0, 0, 32⟩
abbrev Fld.TB_ANCHOR_AT_LO : Key := ⟨.TB_ANCHOR_AT_LO, 0, 0, 0, 32⟩
abbrev Fld.TB_ANCHOR_AT_HI : Key := ⟨.TB_ANCHOR_AT_HI, 0, 0, 0, 32⟩
abbrev Fld.TB_EPIN_CFG_MODE : Key := ⟨.TB_EPIN_CFG, 0, 0, 0, 2⟩
abbrev Fld.TB_EPIN_STAMP_LO : Key := ⟨.TB_EPIN_STAMP_LO, 0, 0, 0, 32⟩
abbrev Fld.TB_EPIN_STAMP_HI : Key := ⟨.TB_EPIN_STAMP_HI, 0, 0, 0, 32⟩
abbrev Fld.TB_EPOCH_CFG_EN (i : Nat) : Key := ⟨.TB_EPOCH_CFG, i, 0, 31, 1⟩
abbrev Fld.TB_EPOCH_CFG_MODE (i : Nat) : Key := ⟨.TB_EPOCH_CFG, i, 0, 29, 2⟩
abbrev Fld.TB_EPOCH_CFG_K (i : Nat) : Key := ⟨.TB_EPOCH_CFG, i, 0, 23, 6⟩
abbrev Fld.TB_EPOCH_CFG_WIDTH (i : Nat) : Key := ⟨.TB_EPOCH_CFG, i, 0, 8, 8⟩
abbrev Fld.TB_EPOCH_PER_LO (i : Nat) : Key := ⟨.TB_EPOCH_PER_LO, i, 0, 0, 32⟩
abbrev Fld.TB_EPOCH_PER_HI (i : Nat) : Key := ⟨.TB_EPOCH_PER_HI, i, 0, 0, 32⟩
abbrev Fld.TB_EPOCH_OFS (i : Nat) : Key := ⟨.TB_EPOCH_OFS, i, 0, 0, 32⟩
abbrev Fld.TB_SYSREF_CFG_EN (i : Nat) : Key := ⟨.TB_SYSREF_CFG, i, 0, 31, 1⟩
abbrev Fld.TB_SYSREF_CFG_MODE (i : Nat) : Key := ⟨.TB_SYSREF_CFG, i, 0, 30, 1⟩
abbrev Fld.TB_SYSREF_CFG_COUNT (i : Nat) : Key := ⟨.TB_SYSREF_CFG, i, 0, 16, 8⟩
abbrev Fld.TB_SYSREF_CFG_WIDTH (i : Nat) : Key := ⟨.TB_SYSREF_CFG, i, 0, 8, 8⟩
abbrev Fld.TB_SYSREF_PER (i : Nat) : Key := ⟨.TB_SYSREF_PER, i, 0, 0, 32⟩
abbrev Fld.TB_SYSREF_OFS (i : Nat) : Key := ⟨.TB_SYSREF_OFS, i, 0, 0, 32⟩
abbrev Fld.REF_CFG_K_SLK : Key := ⟨.REF_CFG, 0, 0, 26, 5⟩
abbrev Fld.REF_CFG_NOM_KHZ : Key := ⟨.REF_CFG, 0, 0, 8, 18⟩
abbrev Fld.REF_CFG_TERM : Key := ⟨.REF_CFG, 0, 0, 2, 1⟩
abbrev Fld.REF_CFG_FMT : Key := ⟨.REF_CFG, 0, 0, 0, 2⟩
abbrev Fld.REF_STATUS_SLK_SRC : Key := ⟨.REF_STATUS, 0, 0, 26, 1⟩
abbrev Fld.REF_STATUS_PRESENT : Key := ⟨.REF_STATUS, 0, 0, 25, 1⟩
abbrev Fld.REF_STATUS_FREQ_OK : Key := ⟨.REF_STATUS, 0, 0, 24, 1⟩
abbrev Fld.REF_STATUS_FREQ_KHZ : Key := ⟨.REF_STATUS, 0, 0, 0, 18⟩
abbrev Fld.REF_OUT_CFG_FMT1 : Key := ⟨.REF_OUT_CFG, 0, 0, 3, 1⟩
abbrev Fld.REF_OUT_CFG_FMT0 : Key := ⟨.REF_OUT_CFG, 0, 0, 2, 1⟩
abbrev Fld.REF_OUT_CFG_EN1 : Key := ⟨.REF_OUT_CFG, 0, 0, 1, 1⟩
abbrev Fld.REF_OUT_CFG_EN0 : Key := ⟨.REF_OUT_CFG, 0, 0, 0, 1⟩
abbrev Fld.PLL_CFG_EXT_LF : Key := ⟨.PLL_CFG, 0, 0, 31, 1⟩
abbrev Fld.PLL_CFG_REFMUL : Key := ⟨.PLL_CFG, 0, 0, 29, 2⟩
abbrev Fld.PLL_CFG_BW : Key := ⟨.PLL_CFG, 0, 0, 24, 4⟩
abbrev Fld.PLL_CFG_N : Key := ⟨.PLL_CFG, 0, 0, 12, 12⟩
abbrev Fld.PLL_CTRL_EN : Key := ⟨.PLL_CTRL, 0, 0, 0, 1⟩
abbrev Fld.PLL_STATUS_VCO_BAND : Key := ⟨.PLL_STATUS, 0, 0, 8, 8⟩
abbrev Fld.PLL_STATUS_ERR : Key := ⟨.PLL_STATUS, 0, 0, 4, 4⟩
abbrev Fld.PLL_STATUS_BAND_CAL_DONE : Key := ⟨.PLL_STATUS, 0, 0, 2, 1⟩
abbrev Fld.PLL_STATUS_LD : Key := ⟨.PLL_STATUS, 0, 0, 1, 1⟩
abbrev Fld.PLL_STATUS_RESTART_PENDING : Key := ⟨.PLL_STATUS, 0, 0, 0, 1⟩
abbrev Fld.MS_CFG_TEMP_CLASS : Key := ⟨.MS_CFG, 0, 0, 30, 2⟩
abbrev Fld.MS_CFG_ARCH_LEAVES : Key := ⟨.MS_CFG, 0, 0, 0, 18⟩
abbrev Fld.MS_EVT_BIND_REFUSED : Key := ⟨.MS_EVT, 0, 0, 8, 1⟩
abbrev Fld.MS_EVT_SR_ACCESS : Key := ⟨.MS_EVT, 0, 0, 7, 1⟩
abbrev Fld.MS_EVT_THERMAL : Key := ⟨.MS_EVT, 0, 0, 6, 1⟩
abbrev Fld.MS_EVT_LOAN_OVF : Key := ⟨.MS_EVT, 0, 0, 5, 1⟩
abbrev Fld.MS_EVT_STALE_COMMIT : Key := ⟨.MS_EVT, 0, 0, 4, 1⟩
abbrev Fld.MS_EVT_WDROP : Key := ⟨.MS_EVT, 0, 0, 3, 1⟩
abbrev Fld.MS_EVT_CARD_ERR : Key := ⟨.MS_EVT, 0, 0, 2, 1⟩
abbrev Fld.MS_EVT_CARD_BUSY : Key := ⟨.MS_EVT, 0, 0, 1, 1⟩
abbrev Fld.MS_EVT_CARD_DONE : Key := ⟨.MS_EVT, 0, 0, 0, 1⟩
abbrev Fld.MS_THERM_POL_POL : Key := ⟨.MS_THERM_POL, 0, 0, 0, 2⟩
abbrev Fld.MS_CARD_IDX_IDX : Key := ⟨.MS_CARD_IDX, 0, 0, 0, 18⟩
abbrev Fld.MS_CARD_CMD_BUSY : Key := ⟨.MS_CARD_CMD, 0, 0, 31, 1⟩
abbrev Fld.MS_CARD_CMD_RESULT : Key := ⟨.MS_CARD_CMD, 0, 0, 28, 3⟩
abbrev Fld.MS_CARD_CMD_WRITE : Key := ⟨.MS_CARD_CMD, 0, 0, 1, 1⟩
abbrev Fld.MS_CARD_CMD_READ : Key := ⟨.MS_CARD_CMD, 0, 0, 0, 1⟩
abbrev Fld.MS_CMD_WDROP_CLR : Key := ⟨.MS_CMD, 0, 0, 0, 1⟩
abbrev Fld.MS_LOAN_IDX : Key := ⟨.MS_LOAN_IDX, 0, 0, 0, 18⟩
abbrev Fld.MS_LOAN_CNT : Key := ⟨.MS_LOAN_CNT, 0, 0, 0, 11⟩
abbrev Fld.MS_LEAF_IDX : Key := ⟨.MS_LEAF_IDX, 0, 0, 0, 20⟩
abbrev Fld.MS_LEAF_LOAN_RING : Key := ⟨.MS_LEAF_LOAN, 0, 0, 4, 1⟩
abbrev Fld.MS_LEAF_LOAN_COUNT : Key := ⟨.MS_LEAF_LOAN, 0, 0, 0, 4⟩
abbrev Fld.MS_WDROP_CNT : Key := ⟨.MS_WDROP_CNT, 0, 0, 0, 32⟩
abbrev Fld.MS_WDROP_ADDR_LO : Key := ⟨.MS_WDROP_ADDR_LO, 0, 0, 0, 32⟩
abbrev Fld.MS_WDROP_ADDR_HI : Key := ⟨.MS_WDROP_ADDR_HI, 0, 0, 0, 4⟩
abbrev Fld.MS_WDROP_SRC_CAUSE : Key := ⟨.MS_WDROP_SRC, 0, 0, 16, 4⟩
abbrev Fld.MS_WDROP_SRC_SRC_ID : Key := ⟨.MS_WDROP_SRC, 0, 0, 8, 6⟩
abbrev Fld.MS_WDROP_SRC_SRC_KIND : Key := ⟨.MS_WDROP_SRC, 0, 0, 0, 2⟩
abbrev Fld.MS_STK_STATUS_REFRESH (i : Nat) : Key := ⟨.MS_STK_STATUS, i, 0, 24, 2⟩
abbrev Fld.MS_STK_STATUS_OVER_CLASS (i : Nat) : Key := ⟨.MS_STK_STATUS, i, 0, 16, 1⟩
abbrev Fld.MS_STK_STATUS_TJ (i : Nat) : Key := ⟨.MS_STK_STATUS, i, 0, 0, 16⟩
abbrev Fld.MS_ECC_CNT_UNCORR (i : Nat) : Key := ⟨.MS_ECC_CNT, i, 0, 16, 16⟩
abbrev Fld.MS_ECC_CNT_CORR (i : Nat) : Key := ⟨.MS_ECC_CNT, i, 0, 0, 16⟩
abbrev Fld.MS_CARD_DATA (i : Nat) : Key := ⟨.MS_CARD_DATA, i, 0, 0, 32⟩
abbrev Fld.MS_STRM_CFG_RESET (i : Nat) : Key := ⟨.MS_STRM_CFG, i, 0, 31, 1⟩
abbrev Fld.MS_STRM_CFG_SRC_KIND (i : Nat) : Key := ⟨.MS_STRM_CFG, i, 0, 29, 2⟩
abbrev Fld.MS_STRM_CFG_SRC (i : Nat) : Key := ⟨.MS_STRM_CFG, i, 0, 16, 6⟩
abbrev Fld.MS_STRM_FILL (i : Nat) : Key := ⟨.MS_STRM_FILL, i, 0, 0, 32⟩
abbrev Fld.MS_STRM_PLAY (i : Nat) : Key := ⟨.MS_STRM_PLAY, i, 0, 0, 32⟩
abbrev Fld.MS_STRM_CNT_STALE (i : Nat) : Key := ⟨.MS_STRM_CNT, i, 0, 16, 16⟩
abbrev Fld.MS_STRM_CNT_SKIP (i : Nat) : Key := ⟨.MS_STRM_CNT, i, 0, 0, 16⟩
abbrev Fld.MS_STRM_COMMIT_SEQ (i : Nat) : Key := ⟨.MS_STRM_COMMIT, i, 0, 0, 32⟩
abbrev Fld.MS_STRM_CARD_BOUND (i : Nat) : Key := ⟨.MS_STRM_CARD, i, 0, 31, 1⟩
abbrev Fld.MS_STRM_CARD_CARD (i : Nat) : Key := ⟨.MS_STRM_CARD, i, 0, 0, 18⟩
abbrev Fld.TL_MARCH_CTRL_START (i : Nat) : Key := ⟨.TL_MARCH_CTRL, i, 0, 31, 1⟩
abbrev Fld.TL_MARCH_CTRL_MODE (i : Nat) : Key := ⟨.TL_MARCH_CTRL, i, 0, 30, 1⟩
abbrev Fld.TL_MARCH_CTRL_BANK (i : Nat) : Key := ⟨.TL_MARCH_CTRL, i, 0, 0, 5⟩
abbrev Fld.TL_MARCH_STATUS_BUSY (i : Nat) : Key := ⟨.TL_MARCH_STATUS, i, 0, 31, 1⟩
abbrev Fld.TL_MARCH_STATUS_RESULT (i : Nat) : Key := ⟨.TL_MARCH_STATUS, i, 0, 28, 3⟩
abbrev Fld.TL_MARCH_STATUS_BANK (i : Nat) : Key := ⟨.TL_MARCH_STATUS, i, 0, 16, 5⟩
abbrev Fld.TL_MARCH_STATUS_FAIL_CNT (i : Nat) : Key := ⟨.TL_MARCH_STATUS, i, 0, 0, 16⟩
abbrev Fld.TL_MARCH_ADDR (i : Nat) : Key := ⟨.TL_MARCH_ADDR, i, 0, 0, 13⟩
abbrev Fld.TL_SP_OFFLINE (i : Nat) : Key := ⟨.TL_SP_OFFLINE, i, 0, 0, 32⟩
abbrev Fld.TL_SP_ECC_UNCORR (i : Nat) : Key := ⟨.TL_SP_ECC, i, 0, 16, 16⟩
abbrev Fld.TL_SP_ECC_CORR (i : Nat) : Key := ⟨.TL_SP_ECC, i, 0, 0, 16⟩
abbrev Fld.TL_SP_EVT_OFFLINE_ACCESS (i : Nat) : Key := ⟨.TL_SP_EVT, i, 0, 2, 1⟩
abbrev Fld.TL_SP_EVT_ECC_UNCORR (i : Nat) : Key := ⟨.TL_SP_EVT, i, 0, 1, 1⟩
abbrev Fld.TL_SP_EVT_MARCH_DONE (i : Nat) : Key := ⟨.TL_SP_EVT, i, 0, 0, 1⟩
abbrev Fld.REEL_FAULT (i : Nat) : Key := ⟨.REEL, i, 0, 26, 6⟩
abbrev Fld.REEL_LATE_POL (i : Nat) : Key := ⟨.REEL, i, 0, 24, 2⟩
abbrev Fld.REEL_ARM_GRP (i : Nat) : Key := ⟨.REEL, i, 0, 21, 3⟩
abbrev Fld.REEL_BOOKED (i : Nat) : Key := ⟨.REEL, i, 0, 16, 5⟩
abbrev Fld.REEL_RATE (i : Nat) : Key := ⟨.REEL, i, 0, 11, 5⟩
abbrev Fld.REEL_VOICE (i : Nat) : Key := ⟨.REEL, i, 0, 8, 3⟩
abbrev Fld.REEL_RESTART_PENDING (i : Nat) : Key := ⟨.REEL, i, 0, 7, 1⟩
abbrev Fld.REEL_PRIMED (i : Nat) : Key := ⟨.REEL, i, 0, 6, 1⟩
abbrev Fld.REEL_STATE (i : Nat) : Key := ⟨.REEL, i, 0, 0, 3⟩
abbrev Fld.REEL_RECOVER (i : Nat) : Key := ⟨.REEL, i, 1, 16, 16⟩
abbrev Fld.REEL_ENTRY (i : Nat) : Key := ⟨.REEL, i, 1, 0, 16⟩
abbrev Fld.REEL_STOP_CODE (i : Nat) : Key := ⟨.REEL, i, 2, 16, 16⟩
abbrev Fld.REEL_SP (i : Nat) : Key := ⟨.REEL, i, 2, 0, 16⟩
abbrev Fld.REEL_STOP_EN (i : Nat) : Key := ⟨.REEL, i, 3, 31, 1⟩
abbrev Fld.REEL_STOP_EVC (i : Nat) : Key := ⟨.REEL, i, 3, 24, 7⟩
abbrev Fld.REEL_START_EVC (i : Nat) : Key := ⟨.REEL, i, 3, 8, 7⟩
abbrev Fld.REEL_START_KIND (i : Nat) : Key := ⟨.REEL, i, 3, 0, 1⟩
abbrev Fld.REEL_START_TICK_LO (i : Nat) : Key := ⟨.REEL, i, 4, 0, 32⟩
abbrev Fld.REEL_START_TICK_HI (i : Nat) : Key := ⟨.REEL, i, 5, 0, 32⟩
abbrev Fld.REEL_START_PER_LO (i : Nat) : Key := ⟨.REEL, i, 6, 0, 32⟩
abbrev Fld.REEL_START_PER_HI (i : Nat) : Key := ⟨.REEL, i, 7, 0, 32⟩
abbrev Fld.REEL_DEST1 (i : Nat) : Key := ⟨.REEL, i, 8, 16, 12⟩
abbrev Fld.REEL_DEST0 (i : Nat) : Key := ⟨.REEL, i, 8, 0, 12⟩
abbrev Fld.REEL_GAIN0 (i : Nat) : Key := ⟨.REEL, i, 9, 0, 18⟩
abbrev Fld.REEL_GAIN1 (i : Nat) : Key := ⟨.REEL, i, 10, 0, 18⟩
abbrev Fld.REEL_RS_EN (i : Nat) : Key := ⟨.REEL, i, 11, 0, 1⟩
abbrev Fld.REEL_CARD (i : Nat) : Key := ⟨.REEL, i, 12, 0, 18⟩
abbrev Fld.REEL_POS_LO (i : Nat) : Key := ⟨.REEL, i, 13, 0, 32⟩
abbrev Fld.REEL_POS_HI (i : Nat) : Key := ⟨.REEL, i, 14, 0, 8⟩
abbrev Fld.REEL_PASS (i : Nat) : Key := ⟨.REEL, i, 15, 0, 24⟩
abbrev Fld.REEL_L_VALID (i k : Nat) : Key := ⟨.REEL, i, 16 + 2 * k, 31, 1⟩
abbrev Fld.REEL_L_INF (i k : Nat) : Key := ⟨.REEL, i, 16 + 2 * k, 30, 1⟩
abbrev Fld.REEL_L_DEPTH (i k : Nat) : Key := ⟨.REEL, i, 16 + 2 * k, 24, 3⟩
abbrev Fld.REEL_L_BODY (i k : Nat) : Key := ⟨.REEL, i, 16 + 2 * k, 0, 16⟩
abbrev Fld.REEL_L_REMAIN (i k : Nat) : Key := ⟨.REEL, i, 17 + 2 * k, 0, 32⟩
abbrev Fld.REEL_RET1 (i : Nat) : Key := ⟨.REEL, i, 24, 16, 16⟩
abbrev Fld.REEL_RET0 (i : Nat) : Key := ⟨.REEL, i, 24, 0, 16⟩
abbrev Fld.REEL_RET3 (i : Nat) : Key := ⟨.REEL, i, 25, 16, 16⟩
abbrev Fld.REEL_RET2 (i : Nat) : Key := ⟨.REEL, i, 25, 0, 16⟩
abbrev Fld.REEL_CUT_ARMED (i : Nat) : Key := ⟨.REEL, i, 26, 31, 1⟩
abbrev Fld.REEL_CUT_KEEP (i : Nat) : Key := ⟨.REEL, i, 26, 30, 1⟩
abbrev Fld.REEL_CUT_MODE (i : Nat) : Key := ⟨.REEL, i, 26, 28, 2⟩
abbrev Fld.REEL_CUT_EVC (i : Nat) : Key := ⟨.REEL, i, 26, 16, 7⟩
abbrev Fld.REEL_CUT_TARGET (i : Nat) : Key := ⟨.REEL, i, 26, 0, 16⟩
abbrev Fld.REEL_WAIT_END_LO (i : Nat) : Key := ⟨.REEL, i, 27, 0, 32⟩
abbrev Fld.REEL_WAIT_END_HI (i : Nat) : Key := ⟨.REEL, i, 28, 0, 32⟩
abbrev Fld.REEL_STOP_TICK_LO (i : Nat) : Key := ⟨.REEL, i, 29, 0, 32⟩
abbrev Fld.REEL_STOP_TICK_HI (i : Nat) : Key := ⟨.REEL, i, 30, 0, 32⟩
abbrev Fld.REEL_MISSED (i : Nat) : Key := ⟨.REEL, i, 31, 16, 16⟩
abbrev Fld.REEL_LATE_EV (i : Nat) : Key := ⟨.REEL, i, 31, 0, 16⟩
abbrev Fld.REEL_FTW_LO (i : Nat) : Key := ⟨.REEL, i, 32, 0, 32⟩
abbrev Fld.REEL_FTW_HI (i : Nat) : Key := ⟨.REEL, i, 33, 0, 32⟩
abbrev Fld.REEL_P_LO (i : Nat) : Key := ⟨.REEL, i, 34, 0, 32⟩
abbrev Fld.REEL_P_HI (i : Nat) : Key := ⟨.REEL, i, 35, 0, 32⟩
abbrev Fld.REEL_AMP (i : Nat) : Key := ⟨.REEL, i, 36, 0, 17⟩
abbrev Fld.REEL_CRW_LO (i : Nat) : Key := ⟨.REEL, i, 37, 0, 32⟩
abbrev Fld.REEL_CRW_HI (i : Nat) : Key := ⟨.REEL, i, 38, 0, 32⟩
abbrev Fld.REEL_SWP_BASE (i : Nat) : Key := ⟨.REEL, i, 39, 0, 18⟩
abbrev Fld.REEL_SAT_CNT (i : Nat) : Key := ⟨.REEL, i, 40, 16, 16⟩
abbrev Fld.REEL_SWP_IDX (i : Nat) : Key := ⟨.REEL, i, 40, 8, 8⟩
abbrev Fld.REEL_SWP_CNT (i : Nat) : Key := ⟨.REEL, i, 40, 0, 8⟩
abbrev Fld.REEL_RSTEP_LO (i : Nat) : Key := ⟨.REEL, i, 41, 0, 32⟩
abbrev Fld.REEL_RSTEP_HI (i : Nat) : Key := ⟨.REEL, i, 42, 0, 16⟩
abbrev Fld.REEL_RPH0 (i : Nat) : Key := ⟨.REEL, i, 43, 0, 32⟩
abbrev Fld.REEL_GEN_CLASS (i : Nat) : Key := ⟨.REEL, i, 44, 24, 5⟩
abbrev Fld.REEL_NLOG2 (i : Nat) : Key := ⟨.REEL, i, 44, 16, 5⟩
abbrev Fld.REEL_LLOG2 (i : Nat) : Key := ⟨.REEL, i, 44, 8, 4⟩
abbrev Fld.REEL_ACTIVE (i : Nat) : Key := ⟨.REEL, i, 44, 0, 1⟩
abbrev Fld.REEL_PSD_BASE0 (i : Nat) : Key := ⟨.REEL, i, 45, 0, 18⟩
abbrev Fld.REEL_PSD_BASE1 (i : Nat) : Key := ⟨.REEL, i, 46, 0, 18⟩
abbrev Fld.REEL_KURT (i : Nat) : Key := ⟨.REEL, i, 47, 0, 11⟩
abbrev Fld.REEL_NSCALE (i : Nat) : Key := ⟨.REEL, i, 48, 0, 32⟩
abbrev Fld.REEL_SEED_LO (i : Nat) : Key := ⟨.REEL, i, 49, 0, 32⟩
abbrev Fld.REEL_SEED_HI (i : Nat) : Key := ⟨.REEL, i, 50, 0, 32⟩
abbrev Fld.REEL_RTAB_BASE (i : Nat) : Key := ⟨.REEL, i, 51, 0, 18⟩
abbrev Fld.REEL_RIDX (i : Nat) : Key := ⟨.REEL, i, 52, 8, 8⟩
abbrev Fld.REEL_RCNT (i : Nat) : Key := ⟨.REEL, i, 52, 0, 8⟩
abbrev Fld.REEL_PW_CNT (i : Nat) : Key := ⟨.REEL, i, 53, 16, 7⟩
abbrev Fld.REEL_PH_ANCHOR (i : Nat) : Key := ⟨.REEL, i, 53, 8, 1⟩
abbrev Fld.REEL_PMODE (i : Nat) : Key := ⟨.REEL, i, 53, 0, 4⟩
abbrev Fld.REEL_PW_BASE (i : Nat) : Key := ⟨.REEL, i, 54, 0, 18⟩
abbrev Fld.REEL_KURT_CUR (i : Nat) : Key := ⟨.REEL, i, 55, 21, 11⟩
abbrev Fld.REEL_AMP_CUR (i : Nat) : Key := ⟨.REEL, i, 55, 0, 17⟩
abbrev Fld.REEL_NSCALE_CUR (i : Nat) : Key := ⟨.REEL, i, 56, 0, 32⟩
abbrev Fld.REEL_FTW_CUR_LO (i : Nat) : Key := ⟨.REEL, i, 57, 0, 32⟩
abbrev Fld.REEL_FTW_CUR_HI (i : Nat) : Key := ⟨.REEL, i, 58, 0, 32⟩
abbrev Fld.REEL_P_CUR_LO (i : Nat) : Key := ⟨.REEL, i, 59, 0, 32⟩
abbrev Fld.REEL_P_CUR_HI (i : Nat) : Key := ⟨.REEL, i, 60, 0, 32⟩
abbrev Fld.REEL_CRW_CUR_LO (i : Nat) : Key := ⟨.REEL, i, 61, 0, 32⟩
abbrev Fld.REEL_CRW_CUR_HI (i : Nat) : Key := ⟨.REEL, i, 62, 0, 32⟩
abbrev Fld.REEL_FTW_X (i : Nat) : Key := ⟨.REEL, i, 63, 16, 16⟩
abbrev Fld.REEL_P_X (i : Nat) : Key := ⟨.REEL, i, 63, 0, 16⟩
abbrev Fld.TL_PIPE_LAT_WORDS (i : Nat) : Key := ⟨.TL_PIPE_LAT, i, 0, 0, 7⟩
abbrev Fld.TL_LANES_BOOKED (i : Nat) : Key := ⟨.TL_LANES, i, 0, 0, 28⟩
abbrev Fld.TL_REEL_IDX_REEL (i : Nat) : Key := ⟨.TL_REEL_IDX, i, 0, 0, 7⟩
abbrev Fld.TL_REEL_ARG_LO (i : Nat) : Key := ⟨.TL_REEL_ARG_LO, i, 0, 0, 32⟩
abbrev Fld.TL_REEL_ARG_HI (i : Nat) : Key := ⟨.TL_REEL_ARG_HI, i, 0, 0, 32⟩
abbrev Fld.TL_REEL_CMD_BUSY (i : Nat) : Key := ⟨.TL_REEL_CMD, i, 0, 31, 1⟩
abbrev Fld.TL_REEL_CMD_RESULT (i : Nat) : Key := ⟨.TL_REEL_CMD, i, 0, 27, 4⟩
abbrev Fld.TL_REEL_CMD_CLEAR (i : Nat) : Key := ⟨.TL_REEL_CMD, i, 0, 3, 1⟩
abbrev Fld.TL_REEL_CMD_STOP_AT (i : Nat) : Key := ⟨.TL_REEL_CMD, i, 0, 2, 1⟩
abbrev Fld.TL_REEL_CMD_DISARM (i : Nat) : Key := ⟨.TL_REEL_CMD, i, 0, 1, 1⟩
abbrev Fld.TL_REEL_CMD_ARM (i : Nat) : Key := ⟨.TL_REEL_CMD, i, 0, 0, 1⟩
abbrev Fld.TL_REEL_EVT_CMD_REFUSED (i : Nat) : Key := ⟨.TL_REEL_EVT, i, 0, 7, 1⟩
abbrev Fld.TL_REEL_EVT_RESTART_QUEUED (i : Nat) : Key := ⟨.TL_REEL_EVT, i, 0, 6, 1⟩
abbrev Fld.TL_REEL_EVT_FAULT (i : Nat) : Key := ⟨.TL_REEL_EVT, i, 0, 5, 1⟩
abbrev Fld.TL_REEL_EVT_RNG_CONFLICT (i : Nat) : Key := ⟨.TL_REEL_EVT, i, 0, 4, 1⟩
abbrev Fld.TL_REEL_EVT_START_MISSED (i : Nat) : Key := ⟨.TL_REEL_EVT, i, 0, 3, 1⟩
abbrev Fld.TL_REEL_EVT_WAIT_PAST (i : Nat) : Key := ⟨.TL_REEL_EVT, i, 0, 2, 1⟩
abbrev Fld.TL_REEL_EVT_REC_BUSY (i : Nat) : Key := ⟨.TL_REEL_EVT, i, 0, 1, 1⟩
abbrev Fld.TL_REEL_EVT_CMD_DONE (i : Nat) : Key := ⟨.TL_REEL_EVT, i, 0, 0, 1⟩
abbrev Fld.TL_REEL_ACTIVE (i j : Nat) : Key := ⟨.TL_REEL_ACTIVE, i, j, 0, 32⟩
abbrev Fld.TL_REEL_FAULTED (i j : Nat) : Key := ⟨.TL_REEL_FAULTED, i, j, 0, 32⟩
abbrev Fld.TL_REEL_FLT_LAST_CODE (i : Nat) : Key := ⟨.TL_REEL_FLT_LAST, i, 0, 8, 6⟩
abbrev Fld.TL_REEL_FLT_LAST_REEL (i : Nat) : Key := ⟨.TL_REEL_FLT_LAST, i, 0, 0, 7⟩
abbrev Fld.TL_EVR_SEL_EVC (i : Nat) : Key := ⟨.TL_EVR_SEL, i, 0, 0, 7⟩
abbrev Fld.TL_EVR_STAMP_LO (i : Nat) : Key := ⟨.TL_EVR_STAMP_LO, i, 0, 0, 32⟩
abbrev Fld.TL_EVR_STAMP_HI (i : Nat) : Key := ⟨.TL_EVR_STAMP_HI, i, 0, 0, 32⟩
abbrev Fld.TL_EVR_LOCAL_LO (i : Nat) : Key := ⟨.TL_EVR_LOCAL_LO, i, 0, 0, 32⟩
abbrev Fld.TL_EVR_LOCAL_HI (i : Nat) : Key := ⟨.TL_EVR_LOCAL_HI, i, 0, 0, 32⟩
abbrev Fld.TL_EVR_STATUS_VALID (i : Nat) : Key := ⟨.TL_EVR_STATUS, i, 0, 31, 1⟩
abbrev Fld.TL_EVR_STATUS_LATE_CNT (i : Nat) : Key := ⟨.TL_EVR_STATUS, i, 0, 8, 16⟩
abbrev Fld.TL_EVR_STATUS_ORIGIN (i : Nat) : Key := ⟨.TL_EVR_STATUS, i, 0, 2, 1⟩
abbrev Fld.TL_EVR_STATUS_LATE (i : Nat) : Key := ⟨.TL_EVR_STATUS, i, 0, 1, 1⟩
abbrev Fld.TL_EVR_STATUS_UNREF (i : Nat) : Key := ⟨.TL_EVR_STATUS, i, 0, 0, 1⟩
abbrev Fld.TL_CUT_EVT_RECOVER (i : Nat) : Key := ⟨.TL_CUT_EVT, i, 0, 6, 1⟩
abbrev Fld.TL_CUT_EVT_LATE_LEAF (i : Nat) : Key := ⟨.TL_CUT_EVT, i, 0, 5, 1⟩
abbrev Fld.TL_CUT_EVT_EV_LATE (i : Nat) : Key := ⟨.TL_CUT_EVT, i, 0, 4, 1⟩
abbrev Fld.TL_CUT_EVT_HEAD_LATE (i : Nat) : Key := ⟨.TL_CUT_EVT, i, 0, 3, 1⟩
abbrev Fld.TL_CUT_EVT_HEAD_MISS (i : Nat) : Key := ⟨.TL_CUT_EVT, i, 0, 2, 1⟩
abbrev Fld.TL_CUT_EVT_COMMIT_DISCARDED (i : Nat) : Key := ⟨.TL_CUT_EVT, i, 0, 1, 1⟩
abbrev Fld.TL_CUT_EVT_CUT_TAKEN (i : Nat) : Key := ⟨.TL_CUT_EVT, i, 0, 0, 1⟩
abbrev Fld.TL_CUT_CNT (i : Nat) : Key := ⟨.TL_CUT_CNT, i, 0, 0, 32⟩
abbrev Fld.TL_HEAD_STATUS_MAX_USED (i : Nat) : Key := ⟨.TL_HEAD_STATUS, i, 0, 16, 6⟩
abbrev Fld.TL_HEAD_STATUS_USED (i : Nat) : Key := ⟨.TL_HEAD_STATUS, i, 0, 0, 6⟩
abbrev Fld.TL_HEAD_MISS_LATE (i : Nat) : Key := ⟨.TL_HEAD_MISS, i, 0, 16, 16⟩
abbrev Fld.TL_HEAD_MISS_MISS (i : Nat) : Key := ⟨.TL_HEAD_MISS, i, 0, 0, 16⟩
abbrev Fld.TL_LATE_CNT (i : Nat) : Key := ⟨.TL_LATE_CNT, i, 0, 0, 32⟩
abbrev Fld.TL_LATE_WORDS_LO (i : Nat) : Key := ⟨.TL_LATE_WORDS_LO, i, 0, 0, 32⟩
abbrev Fld.TL_LATE_WORDS_HI (i : Nat) : Key := ⟨.TL_LATE_WORDS_HI, i, 0, 0, 32⟩
abbrev Fld.TL_LATE_LAST_CAUSE (i : Nat) : Key := ⟨.TL_LATE_LAST, i, 0, 16, 3⟩
abbrev Fld.TL_LATE_LAST_POL (i : Nat) : Key := ⟨.TL_LATE_LAST, i, 0, 8, 2⟩
abbrev Fld.TL_LATE_LAST_REEL (i : Nat) : Key := ⟨.TL_LATE_LAST, i, 0, 0, 7⟩
abbrev Fld.TL_VSTG_REEL (i : Nat) : Key := ⟨.TL_VSTG_REEL, i, 0, 0, 7⟩
abbrev Fld.TL_VSTG_KIND (i : Nat) : Key := ⟨.TL_VSTG_KIND, i, 0, 0, 3⟩
abbrev Fld.TL_VSTG_VAL_LO (i : Nat) : Key := ⟨.TL_VSTG_VAL_LO, i, 0, 0, 32⟩
abbrev Fld.TL_VSTG_VAL_HI (i : Nat) : Key := ⟨.TL_VSTG_VAL_HI, i, 0, 0, 32⟩
abbrev Fld.TL_VSTG_LAST_KINDS (i : Nat) : Key := ⟨.TL_VSTG_LAST, i, 0, 8, 7⟩
abbrev Fld.TL_VSTG_LAST_REEL (i : Nat) : Key := ⟨.TL_VSTG_LAST, i, 0, 0, 7⟩
abbrev Fld.TL_VSTG_TICK_LO (i : Nat) : Key := ⟨.TL_VSTG_TICK_LO, i, 0, 0, 32⟩
abbrev Fld.TL_VSTG_TICK_HI (i : Nat) : Key := ⟨.TL_VSTG_TICK_HI, i, 0, 0, 32⟩
abbrev Fld.TL_VSTG_PEND (i j : Nat) : Key := ⟨.TL_VSTG_PEND, i, j, 0, 32⟩
abbrev Fld.TL_VSTG_CMD_BUSY (i : Nat) : Key := ⟨.TL_VSTG_CMD, i, 0, 31, 1⟩
abbrev Fld.TL_VSTG_CMD_RESULT (i : Nat) : Key := ⟨.TL_VSTG_CMD, i, 0, 28, 3⟩
abbrev Fld.TL_VSTG_CMD_COMMIT (i : Nat) : Key := ⟨.TL_VSTG_CMD, i, 0, 1, 1⟩
abbrev Fld.TL_VSTG_CMD_STAGE (i : Nat) : Key := ⟨.TL_VSTG_CMD, i, 0, 0, 1⟩
abbrev Fld.TL_VSTG_EVT_DISCARDED (i : Nat) : Key := ⟨.TL_VSTG_EVT, i, 0, 2, 1⟩
abbrev Fld.TL_VSTG_EVT_MERGED (i : Nat) : Key := ⟨.TL_VSTG_EVT, i, 0, 1, 1⟩
abbrev Fld.TL_VSTG_EVT_APPLIED (i : Nat) : Key := ⟨.TL_VSTG_EVT, i, 0, 0, 1⟩
abbrev Fld.CH_CTRL_PARK (i : Nat) : Key := ⟨.CH_CTRL, i, 0, 1, 1⟩
abbrev Fld.CH_CTRL_EN (i : Nat) : Key := ⟨.CH_CTRL, i, 0, 0, 1⟩
abbrev Fld.CH_STATUS_RESTART_PENDING (i : Nat) : Key := ⟨.CH_STATUS, i, 0, 18, 1⟩
abbrev Fld.CH_STATUS_RNG_PEND (i : Nat) : Key := ⟨.CH_STATUS, i, 0, 17, 1⟩
abbrev Fld.CH_STATUS_RNG_GAP (i : Nat) : Key := ⟨.CH_STATUS, i, 0, 16, 1⟩
abbrev Fld.CH_STATUS_HARD (i : Nat) : Key := ⟨.CH_STATUS, i, 0, 3, 1⟩
abbrev Fld.CH_STATUS_STATE (i : Nat) : Key := ⟨.CH_STATUS, i, 0, 0, 3⟩
abbrev Fld.CH_EVT_EQ_WR_ACTIVE (i : Nat) : Key := ⟨.CH_EVT, i, 0, 12, 1⟩
abbrev Fld.CH_EVT_EQ_SWAPPED (i : Nat) : Key := ⟨.CH_EVT, i, 0, 11, 1⟩
abbrev Fld.CH_EVT_PARK_CHG (i : Nat) : Key := ⟨.CH_EVT, i, 0, 10, 1⟩
abbrev Fld.CH_EVT_FEED_FAULT (i : Nat) : Key := ⟨.CH_EVT, i, 0, 9, 1⟩
abbrev Fld.CH_EVT_STAGE_HOT (i : Nat) : Key := ⟨.CH_EVT, i, 0, 8, 1⟩
abbrev Fld.CH_EVT_OUT_SHORT (i : Nat) : Key := ⟨.CH_EVT, i, 0, 7, 1⟩
abbrev Fld.CH_EVT_RESTART_QUEUED (i : Nat) : Key := ⟨.CH_EVT, i, 0, 6, 1⟩
abbrev Fld.CH_EVT_RNG_REFUSED (i : Nat) : Key := ⟨.CH_EVT, i, 0, 4, 1⟩
abbrev Fld.CH_EVT_RNG_DONE (i : Nat) : Key := ⟨.CH_EVT, i, 0, 3, 1⟩
abbrev Fld.CH_EVT_CLIP (i : Nat) : Key := ⟨.CH_EVT, i, 0, 2, 1⟩
abbrev Fld.CH_EVT_EQ_SAT (i : Nat) : Key := ⟨.CH_EVT, i, 0, 1, 1⟩
abbrev Fld.CH_EVT_SAT (i : Nat) : Key := ⟨.CH_EVT, i, 0, 0, 1⟩
abbrev Fld.CH_PARK_SRC_REASON (i : Nat) : Key := ⟨.CH_PARK_SRC, i, 0, 0, 11⟩
abbrev Fld.CH_CMD_EQ_SWAP (i : Nat) : Key := ⟨.CH_CMD, i, 0, 2, 1⟩
abbrev Fld.CH_CMD_UNPARK (i : Nat) : Key := ⟨.CH_CMD, i, 0, 1, 1⟩
abbrev Fld.CH_CMD_RNG_REQ (i : Nat) : Key := ⟨.CH_CMD, i, 0, 0, 1⟩
abbrev Fld.CH_RANGE_CUR (i : Nat) : Key := ⟨.CH_RANGE, i, 0, 16, 2⟩
abbrev Fld.CH_RANGE_PEND_VAL (i : Nat) : Key := ⟨.CH_RANGE, i, 0, 8, 2⟩
abbrev Fld.CH_RANGE_REQ (i : Nat) : Key := ⟨.CH_RANGE, i, 0, 0, 2⟩
abbrev Fld.CH_RNG_AT_LO (i : Nat) : Key := ⟨.CH_RNG_AT_LO, i, 0, 0, 32⟩
abbrev Fld.CH_RNG_AT_HI (i : Nat) : Key := ⟨.CH_RNG_AT_HI, i, 0, 0, 32⟩
abbrev Fld.CH_CFG_BREEL_EN (i : Nat) : Key := ⟨.CH_CFG, i, 0, 31, 1⟩
abbrev Fld.CH_CFG_BREEL (i : Nat) : Key := ⟨.CH_CFG, i, 0, 0, 10⟩
abbrev Fld.CH_EQ_CFG_SWAP_PEND (i : Nat) : Key := ⟨.CH_EQ_CFG, i, 0, 5, 1⟩
abbrev Fld.CH_EQ_CFG_ACTIVE (i : Nat) : Key := ⟨.CH_EQ_CFG, i, 0, 4, 1⟩
abbrev Fld.CH_EQ_CFG_SRC (i : Nat) : Key := ⟨.CH_EQ_CFG, i, 0, 0, 2⟩
abbrev Fld.CH_IRQ_EN (i : Nat) : Key := ⟨.CH_IRQ_EN, i, 0, 0, 13⟩
abbrev Fld.CH_CAL_GAIN (i : Nat) : Key := ⟨.CH_CAL_GAIN, i, 0, 0, 20⟩
abbrev Fld.CH_CAL_OFS (i : Nat) : Key := ⟨.CH_CAL_OFS, i, 0, 0, 16⟩
abbrev Fld.CH_CAL_SKEW_CUR (i : Nat) : Key := ⟨.CH_CAL_SKEW, i, 0, 16, 10⟩
abbrev Fld.CH_CAL_SKEW_TGT (i : Nat) : Key := ⟨.CH_CAL_SKEW, i, 0, 0, 10⟩
abbrev Fld.CH_CAL_TAG (i : Nat) : Key := ⟨.CH_CAL_TAG, i, 0, 0, 32⟩
abbrev Fld.CH_EQ_COEF_H (i j : Nat) : Key := ⟨.CH_EQ_COEF, i, j, 0, 20⟩
abbrev Fld.CH_INL_BP (i j : Nat) : Key := ⟨.CH_INL, i, j, 0, 16⟩
abbrev Fld.PP_CFG_PERS (i : Nat) : Key := ⟨.PP_CFG, i, 0, 30, 2⟩
abbrev Fld.PP_CFG_USED (i : Nat) : Key := ⟨.PP_CFG, i, 0, 29, 1⟩
abbrev Fld.PP_CFG_K (i : Nat) : Key := ⟨.PP_CFG, i, 0, 24, 3⟩
abbrev Fld.PP_CFG_WIDTH (i : Nat) : Key := ⟨.PP_CFG, i, 0, 16, 3⟩
abbrev Fld.PP_CFG_CLASS (i : Nat) : Key := ⟨.PP_CFG, i, 0, 8, 5⟩
abbrev Fld.PP_CFG_JLINK (i : Nat) : Key := ⟨.PP_CFG, i, 0, 4, 3⟩
abbrev Fld.PP_CFG_JLANE (i : Nat) : Key := ⟨.PP_CFG, i, 0, 0, 3⟩
abbrev Fld.PP_CTRL_PARK (i : Nat) : Key := ⟨.PP_CTRL, i, 0, 1, 1⟩
abbrev Fld.PP_CTRL_EN (i : Nat) : Key := ⟨.PP_CTRL, i, 0, 0, 1⟩
abbrev Fld.PP_STATUS_RESTART_PENDING (i : Nat) : Key := ⟨.PP_STATUS, i, 0, 18, 1⟩
abbrev Fld.PP_STATUS_DLY_SLEW (i : Nat) : Key := ⟨.PP_STATUS, i, 0, 17, 1⟩
abbrev Fld.PP_STATUS_CAP_BUSY (i : Nat) : Key := ⟨.PP_STATUS, i, 0, 16, 1⟩
abbrev Fld.PP_STATUS_STATE (i : Nat) : Key := ⟨.PP_STATUS, i, 0, 0, 3⟩
abbrev Fld.PP_EVT_PARK_CHG (i : Nat) : Key := ⟨.PP_EVT, i, 0, 15, 1⟩
abbrev Fld.PP_EVT_JCRC (i : Nat) : Key := ⟨.PP_EVT, i, 0, 14, 1⟩
abbrev Fld.PP_EVT_JCFG_ERR (i : Nat) : Key := ⟨.PP_EVT, i, 0, 13, 1⟩
abbrev Fld.PP_EVT_JLATE (i : Nat) : Key := ⟨.PP_EVT, i, 0, 12, 1⟩
abbrev Fld.PP_EVT_JLOSS (i : Nat) : Key := ⟨.PP_EVT, i, 0, 11, 1⟩
abbrev Fld.PP_EVT_JLOCK (i : Nat) : Key := ⟨.PP_EVT, i, 0, 10, 1⟩
abbrev Fld.PP_EVT_RX_SLIP (i : Nat) : Key := ⟨.PP_EVT, i, 0, 9, 1⟩
abbrev Fld.PP_EVT_CAP_DROP (i : Nat) : Key := ⟨.PP_EVT, i, 0, 8, 1⟩
abbrev Fld.PP_EVT_CAP_REFUSED (i : Nat) : Key := ⟨.PP_EVT, i, 0, 7, 1⟩
abbrev Fld.PP_EVT_CAP_OVF (i : Nat) : Key := ⟨.PP_EVT, i, 0, 6, 1⟩
abbrev Fld.PP_EVT_CAP_DONE (i : Nat) : Key := ⟨.PP_EVT, i, 0, 5, 1⟩
abbrev Fld.PP_EVT_DLY_REFUSED (i : Nat) : Key := ⟨.PP_EVT, i, 0, 4, 1⟩
abbrev Fld.PP_EVT_DLY_DONE (i : Nat) : Key := ⟨.PP_EVT, i, 0, 3, 1⟩
abbrev Fld.PP_EVT_RESTART_QUEUED (i : Nat) : Key := ⟨.PP_EVT, i, 0, 2, 1⟩
abbrev Fld.PP_EVT_TXBUF_FAULT (i : Nat) : Key := ⟨.PP_EVT, i, 0, 1, 1⟩
abbrev Fld.PP_EVT_SAT (i : Nat) : Key := ⟨.PP_EVT, i, 0, 0, 1⟩
abbrev Fld.PP_PARK_SRC_REASON (i : Nat) : Key := ⟨.PP_PARK_SRC, i, 0, 0, 10⟩
abbrev Fld.PP_CMD_CAP_ABORT (i : Nat) : Key := ⟨.PP_CMD, i, 0, 3, 1⟩
abbrev Fld.PP_CMD_CAP_START (i : Nat) : Key := ⟨.PP_CMD, i, 0, 2, 1⟩
abbrev Fld.PP_CMD_DLY_CAL (i : Nat) : Key := ⟨.PP_CMD, i, 0, 1, 1⟩
abbrev Fld.PP_CMD_UNPARK (i : Nat) : Key := ⟨.PP_CMD, i, 0, 0, 1⟩
abbrev Fld.PP_IDLE_WORD (i : Nat) : Key := ⟨.PP_IDLE, i, 0, 0, 16⟩
abbrev Fld.PP_FDLY_CUR (i : Nat) : Key := ⟨.PP_FDLY, i, 0, 16, 10⟩
abbrev Fld.PP_FDLY_TGT (i : Nat) : Key := ⟨.PP_FDLY, i, 0, 0, 10⟩
abbrev Fld.PP_DLY_ZERO (i : Nat) : Key := ⟨.PP_DLY_ZERO, i, 0, 0, 16⟩
abbrev Fld.PP_TX_DRV_PRE (i : Nat) : Key := ⟨.PP_TX_DRV, i, 0, 16, 4⟩
abbrev Fld.PP_TX_DRV_POST (i : Nat) : Key := ⟨.PP_TX_DRV, i, 0, 8, 5⟩
abbrev Fld.PP_TX_DRV_SWING (i : Nat) : Key := ⟨.PP_TX_DRV, i, 0, 0, 4⟩
abbrev Fld.PP_RX_CFG_DFE_EN (i : Nat) : Key := ⟨.PP_RX_CFG, i, 0, 8, 1⟩
abbrev Fld.PP_RX_CFG_CTLE (i : Nat) : Key := ⟨.PP_RX_CFG, i, 0, 0, 4⟩
abbrev Fld.PP_RX_STAT_PHASE (i : Nat) : Key := ⟨.PP_RX_STAT, i, 0, 16, 6⟩
abbrev Fld.PP_RX_STAT_SLIP (i : Nat) : Key := ⟨.PP_RX_STAT, i, 0, 0, 16⟩
abbrev Fld.PP_IRQ_EN (i : Nat) : Key := ⟨.PP_IRQ_EN, i, 0, 0, 16⟩
abbrev Fld.PP_CAP_CFG_MODE (i : Nat) : Key := ⟨.PP_CAP_CFG, i, 0, 31, 1⟩
abbrev Fld.PP_CAP_CFG_TRIG (i : Nat) : Key := ⟨.PP_CAP_CFG, i, 0, 30, 1⟩
abbrev Fld.PP_CAP_CFG_CARD (i : Nat) : Key := ⟨.PP_CAP_CFG, i, 0, 0, 18⟩
abbrev Fld.PP_CAP_AT_LO (i : Nat) : Key := ⟨.PP_CAP_AT_LO, i, 0, 0, 32⟩
abbrev Fld.PP_CAP_AT_HI (i : Nat) : Key := ⟨.PP_CAP_AT_HI, i, 0, 0, 32⟩
abbrev Fld.PP_CAP_LEN_LO (i : Nat) : Key := ⟨.PP_CAP_LEN_LO, i, 0, 0, 32⟩
abbrev Fld.PP_CAP_LEN_HI (i : Nat) : Key := ⟨.PP_CAP_LEN_HI, i, 0, 0, 8⟩
abbrev Fld.PP_CAP_CNT_LO (i : Nat) : Key := ⟨.PP_CAP_CNT_LO, i, 0, 0, 32⟩
abbrev Fld.PP_CAP_CNT_HI (i : Nat) : Key := ⟨.PP_CAP_CNT_HI, i, 0, 0, 8⟩
abbrev Fld.PP_CAP_START_LO (i : Nat) : Key := ⟨.PP_CAP_START_LO, i, 0, 0, 32⟩
abbrev Fld.PP_CAP_START_HI (i : Nat) : Key := ⟨.PP_CAP_START_HI, i, 0, 0, 32⟩
abbrev Fld.PP_JCFG0_L (i : Nat) : Key := ⟨.PP_JCFG0, i, 0, 28, 4⟩
abbrev Fld.PP_JCFG0_M (i : Nat) : Key := ⟨.PP_JCFG0, i, 0, 23, 5⟩
abbrev Fld.PP_JCFG0_F (i : Nat) : Key := ⟨.PP_JCFG0, i, 0, 18, 5⟩
abbrev Fld.PP_JCFG0_N (i : Nat) : Key := ⟨.PP_JCFG0, i, 0, 13, 5⟩
abbrev Fld.PP_JCFG0_NP (i : Nat) : Key := ⟨.PP_JCFG0, i, 0, 8, 5⟩
abbrev Fld.PP_JCFG0_S (i : Nat) : Key := ⟨.PP_JCFG0, i, 0, 5, 3⟩
abbrev Fld.PP_JCFG0_E (i : Nat) : Key := ⟨.PP_JCFG0, i, 0, 0, 5⟩
abbrev Fld.PP_JCFG1_K (i : Nat) : Key := ⟨.PP_JCFG1, i, 0, 24, 8⟩
abbrev Fld.PP_JCFG1_SYSREF_SEL (i : Nat) : Key := ⟨.PP_JCFG1, i, 0, 0, 3⟩
abbrev Fld.PP_JCTRL_EN (i : Nat) : Key := ⟨.PP_JCTRL, i, 0, 31, 1⟩
abbrev Fld.PP_JCTRL_RBD (i : Nat) : Key := ⟨.PP_JCTRL, i, 0, 0, 16⟩
abbrev Fld.PP_JLAT (i : Nat) : Key := ⟨.PP_JLAT, i, 0, 0, 11⟩
abbrev Fld.PP_JRX_TOFS (i : Nat) : Key := ⟨.PP_JRX_TOFS, i, 0, 0, 32⟩
abbrev Fld.PP_JSTAT_LANE_LOCK (i : Nat) : Key := ⟨.PP_JSTAT, i, 0, 16, 8⟩
abbrev Fld.PP_JSTAT_STATE (i : Nat) : Key := ⟨.PP_JSTAT, i, 0, 0, 3⟩
abbrev Fld.PP_JERR_CRC (i : Nat) : Key := ⟨.PP_JERR, i, 0, 16, 16⟩
abbrev Fld.PP_JERR_SH_ERR (i : Nat) : Key := ⟨.PP_JERR, i, 0, 0, 16⟩
abbrev Fld.COR_GRP_CFG_MODE (i : Nat) : Key := ⟨.COR_GRP_CFG, i, 0, 31, 1⟩
abbrev Fld.COR_GRP_CFG_CLASS_A (i : Nat) : Key := ⟨.COR_GRP_CFG, i, 0, 26, 5⟩
abbrev Fld.COR_GRP_CFG_NLOG2_A (i : Nat) : Key := ⟨.COR_GRP_CFG, i, 0, 21, 5⟩
abbrev Fld.COR_GRP_CFG_LLOG2_A (i : Nat) : Key := ⟨.COR_GRP_CFG, i, 0, 17, 4⟩
abbrev Fld.COR_GRP_CFG_RM1 (i : Nat) : Key := ⟨.COR_GRP_CFG, i, 0, 12, 4⟩
abbrev Fld.COR_GRP_CFG_DM1 (i : Nat) : Key := ⟨.COR_GRP_CFG, i, 0, 8, 4⟩
abbrev Fld.COR_GRP_CFG_VALID (i : Nat) : Key := ⟨.COR_GRP_CFG, i, 0, 3, 1⟩
abbrev Fld.COR_GRP_CFG_CC (i : Nat) : Key := ⟨.COR_GRP_CFG, i, 0, 0, 3⟩
abbrev Fld.COR_GRP_SLICE_SLICES (i : Nat) : Key := ⟨.COR_GRP_SLICE, i, 0, 0, 16⟩
abbrev Fld.COR_GRP_CTRL_AVG_SH (i : Nat) : Key := ⟨.COR_GRP_CTRL, i, 0, 24, 4⟩
abbrev Fld.COR_GRP_CTRL_UPD_FRAMES (i : Nat) : Key := ⟨.COR_GRP_CTRL, i, 0, 16, 8⟩
abbrev Fld.COR_GRP_CTRL_BLK (i : Nat) : Key := ⟨.COR_GRP_CTRL, i, 0, 8, 8⟩
abbrev Fld.COR_GRP_CTRL_COH_MIN (i : Nat) : Key := ⟨.COR_GRP_CTRL, i, 0, 0, 8⟩
abbrev Fld.COR_GRP_CMD_REF_SWAP (i : Nat) : Key := ⟨.COR_GRP_CMD, i, 0, 7, 1⟩
abbrev Fld.COR_GRP_CMD_CLEAR (i : Nat) : Key := ⟨.COR_GRP_CMD, i, 0, 6, 1⟩
abbrev Fld.COR_GRP_CMD_ABORT (i : Nat) : Key := ⟨.COR_GRP_CMD, i, 0, 5, 1⟩
abbrev Fld.COR_GRP_CMD_STOP (i : Nat) : Key := ⟨.COR_GRP_CMD, i, 0, 4, 1⟩
abbrev Fld.COR_GRP_CMD_RESUME (i : Nat) : Key := ⟨.COR_GRP_CMD, i, 0, 3, 1⟩
abbrev Fld.COR_GRP_CMD_HOLD (i : Nat) : Key := ⟨.COR_GRP_CMD, i, 0, 2, 1⟩
abbrev Fld.COR_GRP_CMD_CLOSE (i : Nat) : Key := ⟨.COR_GRP_CMD, i, 0, 1, 1⟩
abbrev Fld.COR_GRP_CMD_START (i : Nat) : Key := ⟨.COR_GRP_CMD, i, 0, 0, 1⟩
abbrev Fld.COR_GRP_STATUS_STATE (i : Nat) : Key := ⟨.COR_GRP_STATUS, i, 0, 28, 4⟩
abbrev Fld.COR_GRP_STATUS_ABORT_CAUSE (i : Nat) : Key := ⟨.COR_GRP_STATUS, i, 0, 24, 4⟩
abbrev Fld.COR_GRP_STATUS_H_VALID (i : Nat) : Key := ⟨.COR_GRP_STATUS, i, 0, 10, 1⟩
abbrev Fld.COR_GRP_STATUS_SETTLED (i : Nat) : Key := ⟨.COR_GRP_STATUS, i, 0, 9, 1⟩
abbrev Fld.COR_GRP_STATUS_EXTRAP (i : Nat) : Key := ⟨.COR_GRP_STATUS, i, 0, 8, 1⟩
abbrev Fld.COR_GRP_STATUS_RESTART_PENDING (i : Nat) : Key := ⟨.COR_GRP_STATUS, i, 0, 7, 1⟩
abbrev Fld.COR_GRP_STATUS_REF_ACTIVE (i : Nat) : Key := ⟨.COR_GRP_STATUS, i, 0, 6, 1⟩
abbrev Fld.COR_GRP_STATUS_ALARM (i : Nat) : Key := ⟨.COR_GRP_STATUS, i, 0, 5, 1⟩
abbrev Fld.COR_GRP_EVT_REF_SWAPPED (i : Nat) : Key := ⟨.COR_GRP_EVT, i, 0, 10, 1⟩
abbrev Fld.COR_GRP_EVT_REFUSED (i : Nat) : Key := ⟨.COR_GRP_EVT, i, 0, 9, 1⟩
abbrev Fld.COR_GRP_EVT_RESTART_QUEUED (i : Nat) : Key := ⟨.COR_GRP_EVT, i, 0, 8, 1⟩
abbrev Fld.COR_GRP_EVT_DRIVE_LIMIT (i : Nat) : Key := ⟨.COR_GRP_EVT, i, 0, 7, 1⟩
abbrev Fld.COR_GRP_EVT_DISCARD (i : Nat) : Key := ⟨.COR_GRP_EVT, i, 0, 6, 1⟩
abbrev Fld.COR_GRP_EVT_SKIP (i : Nat) : Key := ⟨.COR_GRP_EVT, i, 0, 5, 1⟩
abbrev Fld.COR_GRP_EVT_EXTRAP_CHG (i : Nat) : Key := ⟨.COR_GRP_EVT, i, 0, 4, 1⟩
abbrev Fld.COR_GRP_EVT_ABORT (i : Nat) : Key := ⟨.COR_GRP_EVT, i, 0, 3, 1⟩
abbrev Fld.COR_GRP_EVT_ALARM (i : Nat) : Key := ⟨.COR_GRP_EVT, i, 0, 2, 1⟩
abbrev Fld.COR_GRP_EVT_UPDATE (i : Nat) : Key := ⟨.COR_GRP_EVT, i, 0, 1, 1⟩
abbrev Fld.COR_GRP_EVT_STATE_CHG (i : Nat) : Key := ⟨.COR_GRP_EVT, i, 0, 0, 1⟩
abbrev Fld.COR_QUAL (i : Nat) : Key := ⟨.COR_QUAL, i, 0, 0, 16⟩
abbrev Fld.COR_LEVEL (i : Nat) : Key := ⟨.COR_LEVEL, i, 0, 0, 16⟩
abbrev Fld.COR_STEP_DN (i : Nat) : Key := ⟨.COR_STEP, i, 0, 16, 16⟩
abbrev Fld.COR_STEP_UP (i : Nat) : Key := ⟨.COR_STEP, i, 0, 0, 16⟩
abbrev Fld.COR_PH_STEP (i : Nat) : Key := ⟨.COR_PH_STEP, i, 0, 0, 16⟩
abbrev Fld.COR_LIM_LINE_ABT (i : Nat) : Key := ⟨.COR_LIM_LINE, i, 0, 16, 16⟩
abbrev Fld.COR_LIM_LINE_ALM (i : Nat) : Key := ⟨.COR_LIM_LINE, i, 0, 0, 16⟩
abbrev Fld.COR_LIM_RMS_ABT (i : Nat) : Key := ⟨.COR_LIM_RMS, i, 0, 16, 16⟩
abbrev Fld.COR_LIM_RMS_ALM (i : Nat) : Key := ⟨.COR_LIM_RMS, i, 0, 0, 16⟩
abbrev Fld.COR_ABT_LINES (i : Nat) : Key := ⟨.COR_ABT_LINES, i, 0, 0, 14⟩
abbrev Fld.COR_ABT_TIME (i : Nat) : Key := ⟨.COR_ABT_TIME, i, 0, 0, 14⟩
abbrev Fld.COR_DRV_MAX (i : Nat) : Key := ⟨.COR_DRV_MAX, i, 0, 0, 16⟩
abbrev Fld.COR_REG (i : Nat) : Key := ⟨.COR_REG, i, 0, 0, 32⟩
abbrev Fld.COR_STORE_LEAF (i : Nat) : Key := ⟨.COR_STORE, i, 0, 0, 20⟩
abbrev Fld.COR_DRV_LVL_TAG (i : Nat) : Key := ⟨.COR_DRV_LVL, i, 0, 16, 16⟩
abbrev Fld.COR_DRV_LVL_CUR (i : Nat) : Key := ⟨.COR_DRV_LVL, i, 0, 0, 16⟩
abbrev Fld.COR_CNT_UPD (i : Nat) : Key := ⟨.COR_CNT, i, 0, 16, 16⟩
abbrev Fld.COR_CNT_DISCARD (i : Nat) : Key := ⟨.COR_CNT, i, 0, 0, 16⟩
abbrev Fld.COR_CNT2_SKIP (i : Nat) : Key := ⟨.COR_CNT2, i, 0, 16, 16⟩
abbrev Fld.COR_CNT2_HELD (i : Nat) : Key := ⟨.COR_CNT2, i, 0, 0, 14⟩
abbrev Fld.COR_IRQ_EN (i : Nat) : Key := ⟨.COR_IRQ_EN, i, 0, 0, 11⟩
abbrev Fld.COR_GRP_DRV_VALID (i j : Nat) : Key := ⟨.COR_GRP_DRV, i, j, 31, 1⟩
abbrev Fld.COR_GRP_DRV_REEL (i j : Nat) : Key := ⟨.COR_GRP_DRV, i, j, 0, 10⟩
abbrev Fld.COR_IN_CFG_SRC_KIND (i : Nat) : Key := ⟨.COR_IN_CFG, i, 0, 30, 2⟩
abbrev Fld.COR_IN_CFG_SRC (i : Nat) : Key := ⟨.COR_IN_CFG, i, 0, 16, 9⟩
abbrev Fld.COR_IN_CFG_GROUP (i : Nat) : Key := ⟨.COR_IN_CFG, i, 0, 4, 2⟩
abbrev Fld.COR_IN_CFG_RESP (i : Nat) : Key := ⟨.COR_IN_CFG, i, 0, 0, 4⟩
abbrev Fld.COR_IN_STAT_LOSS (i : Nat) : Key := ⟨.COR_IN_STAT, i, 0, 2, 1⟩
abbrev Fld.COR_IN_STAT_SAT (i : Nat) : Key := ⟨.COR_IN_STAT, i, 0, 1, 1⟩
abbrev Fld.COR_IN_STAT_FLAG (i : Nat) : Key := ⟨.COR_IN_STAT, i, 0, 0, 1⟩
abbrev Fld.TIU_CTRL_ABORT (i : Nat) : Key := ⟨.TIU_CTRL, i, 0, 2, 1⟩
abbrev Fld.TIU_CTRL_ARM (i : Nat) : Key := ⟨.TIU_CTRL, i, 0, 1, 1⟩
abbrev Fld.TIU_CTRL_EN (i : Nat) : Key := ⟨.TIU_CTRL, i, 0, 0, 1⟩
abbrev Fld.TIU_CFG_MODE (i : Nat) : Key := ⟨.TIU_CFG, i, 0, 31, 1⟩
abbrev Fld.TIU_CFG_START_FALL (i : Nat) : Key := ⟨.TIU_CFG, i, 0, 30, 1⟩
abbrev Fld.TIU_CFG_STOP_FALL (i : Nat) : Key := ⟨.TIU_CFG, i, 0, 29, 1⟩
abbrev Fld.TIU_CFG_NM1 (i : Nat) : Key := ⟨.TIU_CFG, i, 0, 0, 16⟩
abbrev Fld.TIU_SRC_STOP_SEL (i : Nat) : Key := ⟨.TIU_SRC, i, 0, 16, 9⟩
abbrev Fld.TIU_SRC_START_SEL (i : Nat) : Key := ⟨.TIU_SRC, i, 0, 0, 9⟩
abbrev Fld.TIU_STATUS_REFUSE (i : Nat) : Key := ⟨.TIU_STATUS, i, 0, 24, 4⟩
abbrev Fld.TIU_STATUS_RSV (i : Nat) : Key := ⟨.TIU_STATUS, i, 0, 20, 3⟩
abbrev Fld.TIU_STATUS_RESTART_PENDING (i : Nat) : Key := ⟨.TIU_STATUS, i, 0, 18, 1⟩
abbrev Fld.TIU_STATUS_CAL_VALID (i : Nat) : Key := ⟨.TIU_STATUS, i, 0, 17, 1⟩
abbrev Fld.TIU_STATUS_DLL_LOCK (i : Nat) : Key := ⟨.TIU_STATUS, i, 0, 16, 1⟩
abbrev Fld.TIU_STATUS_STATE (i : Nat) : Key := ⟨.TIU_STATUS, i, 0, 0, 3⟩
abbrev Fld.TIU_EVT_CAL_DONE (i : Nat) : Key := ⟨.TIU_EVT, i, 0, 8, 1⟩
abbrev Fld.TIU_EVT_RESTART_QUEUED (i : Nat) : Key := ⟨.TIU_EVT, i, 0, 7, 1⟩
abbrev Fld.TIU_EVT_RSV_REFUSED (i : Nat) : Key := ⟨.TIU_EVT, i, 0, 6, 1⟩
abbrev Fld.TIU_EVT_ARM_REFUSED (i : Nat) : Key := ⟨.TIU_EVT, i, 0, 5, 1⟩
abbrev Fld.TIU_EVT_PREEMPTED (i : Nat) : Key := ⟨.TIU_EVT, i, 0, 4, 1⟩
abbrev Fld.TIU_EVT_BROKEN (i : Nat) : Key := ⟨.TIU_EVT, i, 0, 3, 1⟩
abbrev Fld.TIU_EVT_NOFIT (i : Nat) : Key := ⟨.TIU_EVT, i, 0, 2, 1⟩
abbrev Fld.TIU_EVT_TIMEOUT (i : Nat) : Key := ⟨.TIU_EVT, i, 0, 1, 1⟩
abbrev Fld.TIU_EVT_DONE (i : Nat) : Key := ⟨.TIU_EVT, i, 0, 0, 1⟩
abbrev Fld.TIU_PRESCALE_KM1 (i : Nat) : Key := ⟨.TIU_PRESCALE, i, 0, 0, 16⟩
abbrev Fld.TIU_MAXN (i : Nat) : Key := ⟨.TIU_MAXN, i, 0, 0, 21⟩
abbrev Fld.TIU_AT_LO (i : Nat) : Key := ⟨.TIU_AT_LO, i, 0, 0, 32⟩
abbrev Fld.TIU_AT_HI (i : Nat) : Key := ⟨.TIU_AT_HI, i, 0, 0, 32⟩
abbrev Fld.TIU_LIMIT_LO (i : Nat) : Key := ⟨.TIU_LIMIT_LO, i, 0, 0, 32⟩
abbrev Fld.TIU_LIMIT_HI (i : Nat) : Key := ⟨.TIU_LIMIT_HI, i, 0, 0, 8⟩
abbrev Fld.TIU_IRQ_EN (i : Nat) : Key := ⟨.TIU_IRQ_EN, i, 0, 0, 9⟩
abbrev Fld.TIU_CAL_CMD_RUN (i : Nat) : Key := ⟨.TIU_CAL_CMD, i, 0, 0, 1⟩
abbrev Fld.TIU_CAL_STAT_AGE (i : Nat) : Key := ⟨.TIU_CAL_STAT, i, 0, 16, 16⟩
abbrev Fld.TIU_CAL_STAT_TJ (i : Nat) : Key := ⟨.TIU_CAL_STAT, i, 0, 0, 16⟩
abbrev Fld.TIU_RUN_LO (i : Nat) : Key := ⟨.TIU_RUN_LO, i, 0, 0, 32⟩
abbrev Fld.TIU_RUN_HI (i : Nat) : Key := ⟨.TIU_RUN_HI, i, 0, 0, 16⟩
abbrev Fld.TIU_RSTAT_SEQ (i : Nat) : Key := ⟨.TIU_RSTAT, i, 0, 28, 4⟩
abbrev Fld.TIU_RSTAT_N (i : Nat) : Key := ⟨.TIU_RSTAT, i, 0, 7, 21⟩
abbrev Fld.TIU_RSTAT_RATE (i : Nat) : Key := ⟨.TIU_RSTAT, i, 0, 6, 1⟩
abbrev Fld.TIU_RSTAT_PREEMPTED (i : Nat) : Key := ⟨.TIU_RSTAT, i, 0, 5, 1⟩
abbrev Fld.TIU_RSTAT_BROKEN (i : Nat) : Key := ⟨.TIU_RSTAT, i, 0, 4, 1⟩
abbrev Fld.TIU_RSTAT_TIMEOUT (i : Nat) : Key := ⟨.TIU_RSTAT, i, 0, 3, 1⟩
abbrev Fld.TIU_RSTAT_STALE (i : Nat) : Key := ⟨.TIU_RSTAT, i, 0, 2, 1⟩
abbrev Fld.TIU_RSTAT_EST (i : Nat) : Key := ⟨.TIU_RSTAT, i, 0, 1, 1⟩
abbrev Fld.TIU_RSTAT_UNREF (i : Nat) : Key := ⟨.TIU_RSTAT, i, 0, 0, 1⟩
abbrev Fld.TIU_OVERRUN (i : Nat) : Key := ⟨.TIU_OVERRUN, i, 0, 0, 16⟩
abbrev Fld.TIU_START (i j : Nat) : Key := ⟨.TIU_START, i, j, 0, 32⟩
abbrev Fld.TIU_STOP (i j : Nat) : Key := ⟨.TIU_STOP, i, j, 0, 32⟩
abbrev Fld.TIU_ISUM_LO (i : Nat) : Key := ⟨.TIU_ISUM_LO, i, 0, 0, 32⟩
abbrev Fld.TIU_ISUM_HI (i : Nat) : Key := ⟨.TIU_ISUM_HI, i, 0, 0, 32⟩
abbrev Fld.TIU_IMIN_LO (i : Nat) : Key := ⟨.TIU_IMIN_LO, i, 0, 0, 32⟩
abbrev Fld.TIU_IMIN_HI (i : Nat) : Key := ⟨.TIU_IMIN_HI, i, 0, 0, 32⟩
abbrev Fld.TIU_IMAX_LO (i : Nat) : Key := ⟨.TIU_IMAX_LO, i, 0, 0, 32⟩
abbrev Fld.TIU_IMAX_HI (i : Nat) : Key := ⟨.TIU_IMAX_HI, i, 0, 0, 32⟩
abbrev Fld.TIU_FREQ_RATIO_LO (i : Nat) : Key := ⟨.TIU_FREQ_RATIO_LO, i, 0, 0, 32⟩
abbrev Fld.TIU_FREQ_RATIO_HI (i : Nat) : Key := ⟨.TIU_FREQ_RATIO_HI, i, 0, 0, 32⟩
abbrev Fld.TIU_FREQ_EXP (i : Nat) : Key := ⟨.TIU_FREQ_EXP, i, 0, 0, 6⟩
abbrev Fld.TIU_SUM_T (i j : Nat) : Key := ⟨.TIU_SUM_T, i, j, 0, 32⟩
abbrev Fld.TIU_SUM_IT (i j : Nat) : Key := ⟨.TIU_SUM_IT, i, j, 0, 32⟩
abbrev Fld.TIU_TAP_W_ODD (i j : Nat) : Key := ⟨.TIU_TAP, i, j, 16, 16⟩
abbrev Fld.TIU_TAP_W_EVEN (i j : Nat) : Key := ⟨.TIU_TAP, i, j, 0, 16⟩
abbrev Fld.EV_GRP_EN_EN : Key := ⟨.EV_GRP_EN, 0, 0, 0, 16⟩
abbrev Fld.EV_FIRE_FIRE (i : Nat) : Key := ⟨.EV_FIRE, i, 0, 0, 32⟩
abbrev Fld.EV_EVT_TASK_GATED : Key := ⟨.EV_EVT, 0, 0, 5, 1⟩
abbrev Fld.EV_EVT_TMR_LATE : Key := ⟨.EV_EVT, 0, 0, 4, 1⟩
abbrev Fld.EV_EVT_TASK_OVF : Key := ⟨.EV_EVT, 0, 0, 3, 1⟩
abbrev Fld.EV_EVT_TASK_COINC : Key := ⟨.EV_EVT, 0, 0, 2, 1⟩
abbrev Fld.EV_EVT_FIRE_GATED : Key := ⟨.EV_EVT, 0, 0, 1, 1⟩
abbrev Fld.EV_EVT_LOOP : Key := ⟨.EV_EVT, 0, 0, 0, 1⟩
abbrev Fld.EV_CMD_TASK_CNT_CLR : Key := ⟨.EV_CMD, 0, 0, 0, 1⟩
abbrev Fld.EV_TASK_FIRE_TASK : Key := ⟨.EV_TASK_FIRE, 0, 0, 0, 10⟩
abbrev Fld.EV_LOOP_STAT (i : Nat) : Key := ⟨.EV_LOOP_STAT, i, 0, 0, 32⟩
abbrev Fld.EV_SLEEP_SEEN (i : Nat) : Key := ⟨.EV_SLEEP_SEEN, i, 0, 0, 32⟩
abbrev Fld.EV_GRP_MAP (i : Nat) : Key := ⟨.EV_GRP_MAP, i, 0, 0, 32⟩
abbrev Fld.EV_IRQ_SEL_EN (i : Nat) : Key := ⟨.EV_IRQ_SEL, i, 0, 7, 1⟩
abbrev Fld.EV_IRQ_SEL_EVC (i : Nat) : Key := ⟨.EV_IRQ_SEL, i, 0, 0, 7⟩
abbrev Fld.EV_EVIO_PAIR_LVDS : Key := ⟨.EV_EVIO_PAIR, 0, 0, 0, 8⟩
abbrev Fld.EV_EVIO_CFG_DIR (i : Nat) : Key := ⟨.EV_EVIO_CFG, i, 0, 31, 1⟩
abbrev Fld.EV_EVIO_CFG_MODE (i : Nat) : Key := ⟨.EV_EVIO_CFG, i, 0, 30, 1⟩
abbrev Fld.EV_EVIO_CFG_FALL (i : Nat) : Key := ⟨.EV_EVIO_CFG, i, 0, 29, 1⟩
abbrev Fld.EV_EVIO_CFG_EVC (i : Nat) : Key := ⟨.EV_EVIO_CFG, i, 0, 18, 7⟩
abbrev Fld.EV_EVIO_CFG_ADJ (i : Nat) : Key := ⟨.EV_EVIO_CFG, i, 0, 9, 9⟩
abbrev Fld.EV_EVIO_CFG_WIDTH (i : Nat) : Key := ⟨.EV_EVIO_CFG, i, 0, 0, 8⟩
abbrev Fld.EV_TMR_CFG_EN (i : Nat) : Key := ⟨.EV_TMR_CFG, i, 0, 31, 1⟩
abbrev Fld.EV_TMR_CFG_MODE (i : Nat) : Key := ⟨.EV_TMR_CFG, i, 0, 30, 1⟩
abbrev Fld.EV_TMR_PER_LO (i : Nat) : Key := ⟨.EV_TMR_PER_LO, i, 0, 0, 32⟩
abbrev Fld.EV_TMR_PER_HI (i : Nat) : Key := ⟨.EV_TMR_PER_HI, i, 0, 0, 32⟩
abbrev Fld.EV_TMR_OFS_LO (i : Nat) : Key := ⟨.EV_TMR_OFS_LO, i, 0, 0, 32⟩
abbrev Fld.EV_TMR_OFS_HI (i : Nat) : Key := ⟨.EV_TMR_OFS_HI, i, 0, 0, 32⟩
abbrev Fld.EV_THR_CFG_EN (i : Nat) : Key := ⟨.EV_THR_CFG, i, 0, 31, 1⟩
abbrev Fld.EV_THR_CFG_SRC_KIND (i : Nat) : Key := ⟨.EV_THR_CFG, i, 0, 30, 1⟩
abbrev Fld.EV_THR_CFG_DIR (i : Nat) : Key := ⟨.EV_THR_CFG, i, 0, 28, 2⟩
abbrev Fld.EV_THR_CFG_SRC (i : Nat) : Key := ⟨.EV_THR_CFG, i, 0, 16, 6⟩
abbrev Fld.EV_THR_LVL_HYST (i : Nat) : Key := ⟨.EV_THR_LVL, i, 0, 16, 16⟩
abbrev Fld.EV_THR_LVL_LEVEL (i : Nat) : Key := ⟨.EV_THR_LVL, i, 0, 0, 16⟩
abbrev Fld.EV_TASK_CFG_EN (i : Nat) : Key := ⟨.EV_TASK_CFG, i, 0, 31, 1⟩
abbrev Fld.EV_TASK_CFG_POL (i : Nat) : Key := ⟨.EV_TASK_CFG, i, 0, 30, 1⟩
abbrev Fld.EV_TASK_CFG_EVC (i : Nat) : Key := ⟨.EV_TASK_CFG, i, 0, 0, 7⟩
abbrev Fld.EV_TASK_STAT_COINC (i : Nat) : Key := ⟨.EV_TASK_STAT, i, 0, 31, 1⟩
abbrev Fld.EV_TASK_STAT_OVF (i : Nat) : Key := ⟨.EV_TASK_STAT, i, 0, 30, 1⟩
abbrev Fld.EV_TASK_STAT_DEPTH (i : Nat) : Key := ⟨.EV_TASK_STAT, i, 0, 24, 3⟩
abbrev Fld.EV_TASK_STAT_OVF_CNT (i : Nat) : Key := ⟨.EV_TASK_STAT, i, 0, 12, 12⟩
abbrev Fld.EV_TASK_STAT_COINC_CNT (i : Nat) : Key := ⟨.EV_TASK_STAT, i, 0, 0, 12⟩
abbrev Fld.EV_MATRIX_EN (i j : Nat) : Key := ⟨.EV_MATRIX, i, j, 0, 32⟩
abbrev Fld.IC_ROUTE_EN (i : Nat) : Key := ⟨.IC_ROUTE, i, 0, 31, 1⟩
abbrev Fld.IC_ROUTE_WAKE (i : Nat) : Key := ⟨.IC_ROUTE, i, 0, 9, 1⟩
abbrev Fld.IC_ROUTE_SEC_EN (i : Nat) : Key := ⟨.IC_ROUTE, i, 0, 8, 1⟩
abbrev Fld.IC_ROUTE_SEC (i : Nat) : Key := ⟨.IC_ROUTE, i, 0, 4, 4⟩
abbrev Fld.IC_ROUTE_PRI (i : Nat) : Key := ⟨.IC_ROUTE, i, 0, 0, 4⟩
abbrev Fld.IC_CLAIM_SECONDARY (i : Nat) : Key := ⟨.IC_CLAIM, i, 0, 31, 1⟩
abbrev Fld.IC_CLAIM_SRC (i : Nat) : Key := ⟨.IC_CLAIM, i, 0, 0, 10⟩
abbrev Fld.IC_EVT_WAKE_BLOCKED : Key := ⟨.IC_EVT, 0, 0, 4, 1⟩
abbrev Fld.IC_EVT_TO_SECONDARY : Key := ⟨.IC_EVT, 0, 0, 3, 1⟩
abbrev Fld.IC_EVT_WAKE_SENT : Key := ⟨.IC_EVT, 0, 0, 2, 1⟩
abbrev Fld.IC_EVT_BAD_ROUTE : Key := ⟨.IC_EVT, 0, 0, 1, 1⟩
abbrev Fld.IC_EVT_EOI_MISMATCH : Key := ⟨.IC_EVT, 0, 0, 0, 1⟩
abbrev Fld.IC_PEND (i : Nat) : Key := ⟨.IC_PEND, i, 0, 0, 32⟩
abbrev Fld.IC_TGT_STATUS_AWAKE (i : Nat) : Key := ⟨.IC_TGT_STATUS, i, 0, 31, 1⟩
abbrev Fld.IC_TGT_STATUS_INSVC (i : Nat) : Key := ⟨.IC_TGT_STATUS, i, 0, 30, 1⟩
abbrev Fld.IC_TGT_STATUS_INSVC_SRC (i : Nat) : Key := ⟨.IC_TGT_STATUS, i, 0, 16, 10⟩
abbrev Fld.IC_TGT_STATUS_PRESENTED (i : Nat) : Key := ⟨.IC_TGT_STATUS, i, 0, 0, 10⟩
abbrev Fld.IC_EOI_SRC (i : Nat) : Key := ⟨.IC_EOI, i, 0, 0, 10⟩
abbrev Fld.IC_TGT_CFG_CRIT_VEC (i : Nat) : Key := ⟨.IC_TGT_CFG, i, 0, 0, 1⟩
abbrev Fld.IC_SW_SET : Key := ⟨.IC_SW_SET, 0, 0, 0, 8⟩
abbrev Fld.IC_SW_STAT : Key := ⟨.IC_SW_STAT, 0, 0, 0, 8⟩
abbrev Fld.IC_FAULTN_EN_LO : Key := ⟨.IC_FAULTN_EN_LO, 0, 0, 0, 32⟩
abbrev Fld.IC_FAULTN_EN_HI : Key := ⟨.IC_FAULTN_EN_HI, 0, 0, 0, 32⟩
abbrev Fld.IC_EVC_STAT : Key := ⟨.IC_EVC_STAT, 0, 0, 0, 32⟩
abbrev Fld.IC_WAKE_SEL_EN (i : Nat) : Key := ⟨.IC_WAKE_SEL, i, 0, 31, 1⟩
abbrev Fld.IC_WAKE_SEL_SRC (i : Nat) : Key := ⟨.IC_WAKE_SEL, i, 0, 0, 8⟩
abbrev Fld.IC_WAKE_CAUSE_VALID : Key := ⟨.IC_WAKE_CAUSE, 0, 0, 31, 1⟩
abbrev Fld.IC_WAKE_CAUSE_SRC : Key := ⟨.IC_WAKE_CAUSE, 0, 0, 0, 8⟩
abbrev Fld.IC_LDG_ACTIVE_LO : Key := ⟨.IC_LDG_ACTIVE_LO, 0, 0, 0, 32⟩
abbrev Fld.IC_LDG_ACTIVE_HI : Key := ⟨.IC_LDG_ACTIVE_HI, 0, 0, 0, 32⟩
abbrev Fld.IC_LDG_CLR_CAUSE : Key := ⟨.IC_LDG_CLR, 0, 0, 0, 6⟩
abbrev Fld.IC_ARC_CFG_POL : Key := ⟨.IC_ARC_CFG, 0, 0, 31, 1⟩
abbrev Fld.IC_ARC_CFG_THRESH : Key := ⟨.IC_ARC_CFG, 0, 0, 0, 28⟩
abbrev Fld.IC_ARC_WR : Key := ⟨.IC_ARC_WR, 0, 0, 0, 28⟩
abbrev Fld.IC_ARC_RD : Key := ⟨.IC_ARC_RD, 0, 0, 0, 28⟩
abbrev Fld.IC_ARC_FILL : Key := ⟨.IC_ARC_FILL, 0, 0, 0, 28⟩
abbrev Fld.IC_ARC_LOST : Key := ⟨.IC_ARC_LOST, 0, 0, 0, 32⟩
abbrev Fld.IC_ARC_EVT_RD_BAD : Key := ⟨.IC_ARC_EVT, 0, 0, 3, 1⟩
abbrev Fld.IC_ARC_EVT_BUF_OVF : Key := ⟨.IC_ARC_EVT, 0, 0, 2, 1⟩
abbrev Fld.IC_ARC_EVT_WRAP : Key := ⟨.IC_ARC_EVT, 0, 0, 1, 1⟩
abbrev Fld.IC_ARC_EVT_THRESH : Key := ⟨.IC_ARC_EVT, 0, 0, 0, 1⟩
abbrev Fld.IC_ARC_IRQ_EN : Key := ⟨.IC_ARC_IRQ_EN, 0, 0, 0, 4⟩
abbrev Fld.IC_ARC_TEMP_EN : Key := ⟨.IC_ARC_TEMP, 0, 0, 31, 1⟩
abbrev Fld.IC_ARC_TEMP_EXP : Key := ⟨.IC_ARC_TEMP, 0, 0, 0, 4⟩
abbrev Fld.LDG_ACTIVE (i : Nat) : Key := ⟨.IC_LDG, i, 0, 31, 1⟩
abbrev Fld.LDG_NOTIFY (i : Nat) : Key := ⟨.IC_LDG, i, 0, 30, 1⟩
abbrev Fld.LDG_PERSIST (i : Nat) : Key := ⟨.IC_LDG, i, 0, 29, 1⟩
abbrev Fld.LDG_CAUSE (i : Nat) : Key := ⟨.IC_LDG, i, 0, 16, 6⟩
abbrev Fld.LDG_RAISED_AT (i : Nat) : Key := ⟨.IC_LDG, i, 0, 0, 12⟩
abbrev Fld.LDG_COUNT (i : Nat) : Key := ⟨.IC_LDG, i, 1, 0, 16⟩
abbrev Fld.LDG_FIRST_LO (i : Nat) : Key := ⟨.IC_LDG, i, 2, 0, 32⟩
abbrev Fld.LDG_FIRST_HI (i : Nat) : Key := ⟨.IC_LDG, i, 3, 0, 32⟩
abbrev Fld.LDG_LAST_LO (i : Nat) : Key := ⟨.IC_LDG, i, 4, 0, 32⟩
abbrev Fld.LDG_LAST_HI (i : Nat) : Key := ⟨.IC_LDG, i, 5, 0, 32⟩
abbrev Fld.LDG_DETAIL (i : Nat) : Key := ⟨.IC_LDG, i, 6, 0, 32⟩
abbrev Fld.LDG_MAP (i j : Nat) : Key := ⟨.IC_LDG, i, 8 + j, 0, 32⟩
abbrev Fld.TL_IRQ_EN_SP (i : Nat) : Key := ⟨.TL_IRQ_EN, i, 0, 20, 3⟩
abbrev Fld.TL_IRQ_EN_VSTG (i : Nat) : Key := ⟨.TL_IRQ_EN, i, 0, 16, 3⟩
abbrev Fld.TL_IRQ_EN_CUT (i : Nat) : Key := ⟨.TL_IRQ_EN, i, 0, 8, 7⟩
abbrev Fld.TL_IRQ_EN_REEL (i : Nat) : Key := ⟨.TL_IRQ_EN, i, 0, 0, 8⟩
abbrev Fld.TL_CC_IRQ_REQ (i : Nat) : Key := ⟨.TL_CC_IRQ, i, 0, 0, 1⟩
abbrev Fld.TL_ARC_TRACE (i j : Nat) : Key := ⟨.TL_ARC_TRACE, i, j, 0, 32⟩
abbrev Fld.LK_STUDIO_LEAD : Key := ⟨.LK_STUDIO, 0, 0, 31, 1⟩
abbrev Fld.LK_STUDIO_DEPTH : Key := ⟨.LK_STUDIO, 0, 0, 28, 3⟩
abbrev Fld.LK_STUDIO_DEV : Key := ⟨.LK_STUDIO, 0, 0, 16, 6⟩
abbrev Fld.LK_STUDIO_EV_LAT : Key := ⟨.LK_STUDIO, 0, 0, 8, 8⟩
abbrev Fld.LK_STUDIO_CFG_TOL : Key := ⟨.LK_STUDIO_CFG, 0, 0, 16, 8⟩
abbrev Fld.LK_STUDIO_CFG_AUTO_ALIGN : Key := ⟨.LK_STUDIO_CFG, 0, 0, 1, 1⟩
abbrev Fld.LK_STUDIO_CFG_FOLLOW : Key := ⟨.LK_STUDIO_CFG, 0, 0, 0, 1⟩
abbrev Fld.LK_STUDIO_CMD_ALIGN : Key := ⟨.LK_STUDIO_CMD, 0, 0, 0, 1⟩
abbrev Fld.LK_STUDIO_STATUS_RESULT : Key := ⟨.LK_STUDIO_STATUS, 0, 0, 28, 3⟩
abbrev Fld.LK_STUDIO_STATUS_STATE : Key := ⟨.LK_STUDIO_STATUS, 0, 0, 0, 3⟩
abbrev Fld.LK_STUDIO_EVT_FOLLOW_ADJ : Key := ⟨.LK_STUDIO_EVT, 0, 0, 3, 1⟩
abbrev Fld.LK_STUDIO_EVT_MISALIGN : Key := ⟨.LK_STUDIO_EVT, 0, 0, 2, 1⟩
abbrev Fld.LK_STUDIO_EVT_ALIGN_FAIL : Key := ⟨.LK_STUDIO_EVT, 0, 0, 1, 1⟩
abbrev Fld.LK_STUDIO_EVT_ALIGN_DONE : Key := ⟨.LK_STUDIO_EVT, 0, 0, 0, 1⟩
abbrev Fld.LK_STUDIO_IRQ_EN : Key := ⟨.LK_STUDIO_IRQ_EN, 0, 0, 0, 4⟩
abbrev Fld.LK_VSTEP : Key := ⟨.LK_VSTEP, 0, 0, 0, 5⟩
abbrev Fld.LK_CFG_ROLE (i : Nat) : Key := ⟨.LK_CFG, i, 0, 30, 2⟩
abbrev Fld.LK_CTRL_EN (i : Nat) : Key := ⟨.LK_CTRL, i, 0, 0, 1⟩
abbrev Fld.LK_STATUS_STATE (i : Nat) : Key := ⟨.LK_STATUS, i, 0, 28, 4⟩
abbrev Fld.LK_STATUS_CAUSE (i : Nat) : Key := ⟨.LK_STATUS, i, 0, 20, 8⟩
abbrev Fld.LK_STATUS_PARTNER_ALIGNED (i : Nat) : Key := ⟨.LK_STATUS, i, 0, 19, 1⟩
abbrev Fld.LK_STATUS_RESTART_PENDING (i : Nat) : Key := ⟨.LK_STATUS, i, 0, 18, 1⟩
abbrev Fld.LK_STATUS_TIU_WAIT (i : Nat) : Key := ⟨.LK_STATUS, i, 0, 17, 1⟩
abbrev Fld.LK_STATUS_PARTNER_DEV (i : Nat) : Key := ⟨.LK_STATUS, i, 0, 0, 6⟩
abbrev Fld.LK_EVT_CRC (i : Nat) : Key := ⟨.LK_EVT, i, 0, 9, 1⟩
abbrev Fld.LK_EVT_DELAY_CHG (i : Nat) : Key := ⟨.LK_EVT, i, 0, 8, 1⟩
abbrev Fld.LK_EVT_STRM_DROP (i : Nat) : Key := ⟨.LK_EVT, i, 0, 7, 1⟩
abbrev Fld.LK_EVT_STRM_LATE (i : Nat) : Key := ⟨.LK_EVT, i, 0, 6, 1⟩
abbrev Fld.LK_EVT_EV_MARGIN (i : Nat) : Key := ⟨.LK_EVT, i, 0, 5, 1⟩
abbrev Fld.LK_EVT_EV_DROP (i : Nat) : Key := ⟨.LK_EVT, i, 0, 4, 1⟩
abbrev Fld.LK_EVT_RESTART_QUEUED (i : Nat) : Key := ⟨.LK_EVT, i, 0, 3, 1⟩
abbrev Fld.LK_EVT_RETRAIN (i : Nat) : Key := ⟨.LK_EVT, i, 0, 2, 1⟩
abbrev Fld.LK_EVT_DOWN (i : Nat) : Key := ⟨.LK_EVT, i, 0, 1, 1⟩
abbrev Fld.LK_EVT_UP (i : Nat) : Key := ⟨.LK_EVT, i, 0, 0, 1⟩
abbrev Fld.LK_IRQ_EN (i : Nat) : Key := ⟨.LK_IRQ_EN, i, 0, 0, 10⟩
abbrev Fld.LK_RTT (i : Nat) : Key := ⟨.LK_RTT, i, 0, 0, 32⟩
abbrev Fld.LK_THETA_LO (i : Nat) : Key := ⟨.LK_THETA_LO, i, 0, 0, 32⟩
abbrev Fld.LK_THETA_HI (i : Nat) : Key := ⟨.LK_THETA_HI, i, 0, 0, 32⟩
abbrev Fld.LK_ASYM (i : Nat) : Key := ⟨.LK_ASYM, i, 0, 0, 32⟩
abbrev Fld.LK_EV_MEAS (i : Nat) : Key := ⟨.LK_EV_MEAS, i, 0, 0, 10⟩
abbrev Fld.LK_CNT_EV_DROP (i : Nat) : Key := ⟨.LK_CNT, i, 0, 16, 16⟩
abbrev Fld.LK_CNT_CRC_ERR (i : Nat) : Key := ⟨.LK_CNT, i, 0, 0, 16⟩
abbrev Fld.LK_STRM_MEAS (i : Nat) : Key := ⟨.LK_STRM_MEAS, i, 0, 0, 10⟩
abbrev Fld.LK_TXEV_ECHO (i j : Nat) : Key := ⟨.LK_TXEV, i, j, 0, 1⟩
abbrev Fld.LK_TXS_CFG_EN (i j : Nat) : Key := ⟨.LK_TXS_CFG, i, j, 31, 1⟩
abbrev Fld.LK_TXS_CFG_CLASS (i j : Nat) : Key := ⟨.LK_TXS_CFG, i, j, 0, 5⟩
abbrev Fld.LK_RXS_CFG_MODE (i j : Nat) : Key := ⟨.LK_RXS_CFG, i, j, 30, 2⟩
abbrev Fld.LK_RXS_CFG_DEST (i j : Nat) : Key := ⟨.LK_RXS_CFG, i, j, 16, 12⟩
abbrev Fld.LK_RXS_CFG_STRM_LAT (i j : Nat) : Key := ⟨.LK_RXS_CFG, i, j, 0, 10⟩
abbrev Fld.LK_RXS_GAIN (i j : Nat) : Key := ⟨.LK_RXS_GAIN, i, j, 0, 18⟩
abbrev Fld.LK_RXS_STAT_LATE (i j : Nat) : Key := ⟨.LK_RXS_STAT, i, j, 16, 16⟩
abbrev Fld.LK_RXS_STAT_MISSING (i j : Nat) : Key := ⟨.LK_RXS_STAT, i, j, 0, 16⟩
abbrev Fld.CAL_CTRL_BG_EN : Key := ⟨.CAL_CTRL, 0, 0, 31, 1⟩
abbrev Fld.CAL_CTRL_IDLE_DRIVE : Key := ⟨.CAL_CTRL, 0, 0, 30, 1⟩
abbrev Fld.CAL_CTRL_ZERO_WORDS : Key := ⟨.CAL_CTRL, 0, 0, 29, 1⟩
abbrev Fld.CAL_CTRL_TMO : Key := ⟨.CAL_CTRL, 0, 0, 0, 16⟩
abbrev Fld.CAL_STATUS_BUSY : Key := ⟨.CAL_STATUS, 0, 0, 31, 1⟩
abbrev Fld.CAL_STATUS_RESULT : Key := ⟨.CAL_STATUS, 0, 0, 28, 3⟩
abbrev Fld.CAL_STATUS_CORE_STOP : Key := ⟨.CAL_STATUS, 0, 0, 2, 1⟩
abbrev Fld.CAL_STATUS_REC_OK : Key := ⟨.CAL_STATUS, 0, 0, 1, 1⟩
abbrev Fld.CAL_STATUS_RCAL_OK : Key := ⟨.CAL_STATUS, 0, 0, 0, 1⟩
abbrev Fld.CAL_CMD_OVR_LOAD : Key := ⟨.CAL_CMD, 0, 0, 2, 1⟩
abbrev Fld.CAL_CMD_ABORT : Key := ⟨.CAL_CMD, 0, 0, 1, 1⟩
abbrev Fld.CAL_CMD_RUN : Key := ⟨.CAL_CMD, 0, 0, 0, 1⟩
abbrev Fld.CAL_ARG_KINDS : Key := ⟨.CAL_ARG, 0, 0, 24, 4⟩
abbrev Fld.CAL_ARG_RANGE : Key := ⟨.CAL_ARG, 0, 0, 16, 2⟩
abbrev Fld.CAL_ARG_CH : Key := ⟨.CAL_ARG, 0, 0, 0, 5⟩
abbrev Fld.CAL_EVT_REC_MISSING : Key := ⟨.CAL_EVT, 0, 0, 7, 1⟩
abbrev Fld.CAL_EVT_CMD_REFUSED : Key := ⟨.CAL_EVT, 0, 0, 6, 1⟩
abbrev Fld.CAL_EVT_OVR_DONE : Key := ⟨.CAL_EVT, 0, 0, 5, 1⟩
abbrev Fld.CAL_EVT_ABANDONED : Key := ⟨.CAL_EVT, 0, 0, 4, 1⟩
abbrev Fld.CAL_EVT_MEAS_FAIL : Key := ⟨.CAL_EVT, 0, 0, 3, 1⟩
abbrev Fld.CAL_EVT_MEAS_DONE : Key := ⟨.CAL_EVT, 0, 0, 2, 1⟩
abbrev Fld.CAL_EVT_XPEND : Key := ⟨.CAL_EVT, 0, 0, 1, 1⟩
abbrev Fld.CAL_EVT_SET_APPLIED : Key := ⟨.CAL_EVT, 0, 0, 0, 1⟩
abbrev Fld.CAL_IRQ_EN : Key := ⟨.CAL_IRQ_EN, 0, 0, 0, 8⟩
abbrev Fld.CAL_RCAL : Key := ⟨.CAL_RCAL, 0, 0, 0, 32⟩
abbrev Fld.CAL_REC_ID : Key := ⟨.CAL_REC_ID, 0, 0, 0, 32⟩
abbrev Fld.CAL_OVR_CNT : Key := ⟨.CAL_OVR_CNT, 0, 0, 0, 32⟩
abbrev Fld.CAL_OVR_ADDR_LO : Key := ⟨.CAL_OVR_ADDR_LO, 0, 0, 0, 32⟩
abbrev Fld.CAL_OVR_ADDR_HI : Key := ⟨.CAL_OVR_ADDR_HI, 0, 0, 0, 4⟩
abbrev Fld.CAL_CH_STATUS_PEND (i : Nat) : Key := ⟨.CAL_CH_STATUS, i, 0, 31, 1⟩
abbrev Fld.CAL_CH_STATUS_XPEND (i : Nat) : Key := ⟨.CAL_CH_STATUS, i, 0, 30, 1⟩
abbrev Fld.CAL_CH_STATUS_MEAS (i : Nat) : Key := ⟨.CAL_CH_STATUS, i, 0, 29, 1⟩
abbrev Fld.CAL_CH_STATUS_HOST (i : Nat) : Key := ⟨.CAL_CH_STATUS, i, 0, 28, 1⟩
abbrev Fld.CAL_CH_STATUS_TMO_CNT (i : Nat) : Key := ⟨.CAL_CH_STATUS, i, 0, 0, 16⟩
abbrev Fld.CAL_XDEC_HOLD (i : Nat) : Key := ⟨.CAL_XDEC, i, 0, 2, 1⟩
abbrev Fld.CAL_XDEC_REMEASURE (i : Nat) : Key := ⟨.CAL_XDEC, i, 0, 1, 1⟩
abbrev Fld.CAL_XDEC_ACCEPT (i : Nat) : Key := ⟨.CAL_XDEC, i, 0, 0, 1⟩
abbrev Fld.CAL_RESID_S_RES (i : Nat) : Key := ⟨.CAL_RESID, i, 0, 16, 16⟩
abbrev Fld.CAL_RESID_V_RES (i : Nat) : Key := ⟨.CAL_RESID, i, 0, 0, 16⟩
abbrev Fld.CAL_LOAD_P_REC (i : Nat) : Key := ⟨.CAL_LOAD, i, 0, 16, 16⟩
abbrev Fld.CAL_LOAD_P (i : Nat) : Key := ⟨.CAL_LOAD, i, 0, 0, 16⟩
abbrev Fld.CAL_PEND_TAG (i : Nat) : Key := ⟨.CAL_PEND_TAG, i, 0, 0, 32⟩
abbrev Fld.CAL_TJ (i : Nat) : Key := ⟨.CAL_TJ, i, 0, 0, 16⟩
abbrev Fld.SYS_IMG_SRC_SRC : Key := ⟨.SYS_IMG_SRC, 0, 0, 0, 1⟩
abbrev Fld.SYS_IMG_ADDR_LO : Key := ⟨.SYS_IMG_ADDR_LO, 0, 0, 0, 32⟩
abbrev Fld.SYS_IMG_ADDR_HI : Key := ⟨.SYS_IMG_ADDR_HI, 0, 0, 0, 32⟩
abbrev Fld.SYS_IMG_LEN : Key := ⟨.SYS_IMG_LEN, 0, 0, 0, 26⟩
abbrev Fld.SYS_IMG_CMD_REISSUE : Key := ⟨.SYS_IMG_CMD, 0, 0, 1, 1⟩
abbrev Fld.SYS_IMG_CMD_LOAD : Key := ⟨.SYS_IMG_CMD, 0, 0, 0, 1⟩
abbrev Fld.SYS_IMG_STATUS_BUSY : Key := ⟨.SYS_IMG_STATUS, 0, 0, 31, 1⟩
abbrev Fld.SYS_IMG_STATUS_LOADED : Key := ⟨.SYS_IMG_STATUS, 0, 0, 30, 1⟩
abbrev Fld.SYS_IMG_STATUS_RESULT : Key := ⟨.SYS_IMG_STATUS, 0, 0, 24, 4⟩
abbrev Fld.SYS_IMG_TILE : Key := ⟨.SYS_IMG_TILE, 0, 0, 0, 3⟩
abbrev Fld.SYS_IMG_ID : Key := ⟨.SYS_IMG_ID, 0, 0, 0, 32⟩
abbrev Fld.SYS_TILE_CTRL_EN (i : Nat) : Key := ⟨.SYS_TILE_CTRL, i, 0, 0, 1⟩
abbrev Fld.SYS_TILE_STATUS_RESULT (i : Nat) : Key := ⟨.SYS_TILE_STATUS, i, 0, 28, 4⟩
abbrev Fld.SYS_TILE_STATUS_REISSUE_PENDING (i : Nat) : Key := ⟨.SYS_TILE_STATUS, i, 0, 5, 1⟩
abbrev Fld.SYS_TILE_STATUS_RESTART_PENDING (i : Nat) : Key := ⟨.SYS_TILE_STATUS, i, 0, 4, 1⟩
abbrev Fld.SYS_TILE_STATUS_STATE (i : Nat) : Key := ⟨.SYS_TILE_STATUS, i, 0, 0, 3⟩
abbrev Fld.SYS_PWR_CMD_SLEEP : Key := ⟨.SYS_PWR_CMD, 0, 0, 2, 1⟩
abbrev Fld.SYS_PWR_CMD_RESUME : Key := ⟨.SYS_PWR_CMD, 0, 0, 1, 1⟩
abbrev Fld.SYS_PWR_CMD_STANDBY : Key := ⟨.SYS_PWR_CMD, 0, 0, 0, 1⟩
abbrev Fld.SYS_PWR_STATUS_RESULT : Key := ⟨.SYS_PWR_STATUS, 0, 0, 28, 3⟩
abbrev Fld.SYS_RESET_KEY : Key := ⟨.SYS_RESET, 0, 0, 0, 16⟩
abbrev Fld.TL_GRANT_ODD (i j : Nat) : Key := ⟨.TL_GRANT, i, j, 16, 12⟩
abbrev Fld.TL_GRANT_EVEN (i j : Nat) : Key := ⟨.TL_GRANT, i, j, 0, 12⟩
abbrev Fld.AON_BOOT_STATUS_WAIT_HOST : Key := ⟨.AON_BOOT_STATUS, 0, 0, 31, 1⟩
abbrev Fld.AON_BOOT_STATUS_WAIT_FOR : Key := ⟨.AON_BOOT_STATUS, 0, 0, 28, 3⟩
abbrev Fld.AON_BOOT_STATUS_READING_ROOM : Key := ⟨.AON_BOOT_STATUS, 0, 0, 27, 1⟩
abbrev Fld.AON_BOOT_STATUS_SRC : Key := ⟨.AON_BOOT_STATUS, 0, 0, 20, 2⟩
abbrev Fld.AON_BOOT_STATUS_STAGE : Key := ⟨.AON_BOOT_STATUS, 0, 0, 16, 4⟩
abbrev Fld.AON_BOOT_FAILS : Key := ⟨.AON_BOOT_FAILS, 0, 0, 0, 2⟩
abbrev Fld.AON_BOOT_CMD_RETRY : Key := ⟨.AON_BOOT_CMD, 0, 0, 1, 1⟩
abbrev Fld.AON_BOOT_CMD_GO : Key := ⟨.AON_BOOT_CMD, 0, 0, 0, 1⟩
abbrev Fld.AON_BOOT_CFG_HOST_TMO : Key := ⟨.AON_BOOT_CFG, 0, 0, 0, 8⟩
abbrev Fld.AON_BPB_REF : Key := ⟨.AON_BPB_REF, 0, 0, 0, 32⟩
abbrev Fld.AON_BPB_PLL : Key := ⟨.AON_BPB_PLL, 0, 0, 0, 32⟩
abbrev Fld.AON_BOOT_PAY_ADDR_LO : Key := ⟨.AON_BOOT_PAY_ADDR_LO, 0, 0, 0, 32⟩
abbrev Fld.AON_BOOT_PAY_ADDR_HI : Key := ⟨.AON_BOOT_PAY_ADDR_HI, 0, 0, 0, 32⟩
abbrev Fld.AON_BOOT_PAY_LEN : Key := ⟨.AON_BOOT_PAY_LEN, 0, 0, 0, 26⟩
abbrev Fld.AON_BSTAGE_T (i : Nat) : Key := ⟨.AON_BSTAGE_T, i, 0, 0, 32⟩
abbrev Fld.AON_PWR_STATUS_QUEUED : Key := ⟨.AON_PWR_STATUS, 0, 0, 31, 1⟩
abbrev Fld.AON_PWR_STATUS_STATE : Key := ⟨.AON_PWR_STATUS, 0, 0, 0, 3⟩
abbrev Fld.AON_PWR_CMD_WAKE : Key := ⟨.AON_PWR_CMD, 0, 0, 0, 1⟩
abbrev Fld.AON_PWR_CFG_WAKE_RESUME : Key := ⟨.AON_PWR_CFG, 0, 0, 0, 1⟩
abbrev Fld.AON_PWR_EVT_WOKE : Key := ⟨.AON_PWR_EVT, 0, 0, 1, 1⟩
abbrev Fld.AON_PWR_EVT_SLEEP_ACCESS : Key := ⟨.AON_PWR_EVT, 0, 0, 0, 1⟩
abbrev Fld.AON_LDR_ADDR_LO : Key := ⟨.AON_LDR_ADDR_LO, 0, 0, 0, 32⟩
abbrev Fld.AON_LDR_ADDR_HI : Key := ⟨.AON_LDR_ADDR_HI, 0, 0, 0, 32⟩
abbrev Fld.AON_LDR_OFS : Key := ⟨.AON_LDR_OFS, 0, 0, 0, 32⟩
abbrev Fld.AON_LDR_LEN : Key := ⟨.AON_LDR_LEN, 0, 0, 0, 26⟩
abbrev Fld.AON_LDR_CMD : Key := ⟨.AON_LDR_CMD, 0, 0, 0, 2⟩
abbrev Fld.AON_LDR_STATUS_BUSY : Key := ⟨.AON_LDR_STATUS, 0, 0, 31, 1⟩
abbrev Fld.AON_LDR_STATUS_RESULT : Key := ⟨.AON_LDR_STATUS, 0, 0, 28, 3⟩
abbrev Fld.SEC_STATUS_BUSY : Key := ⟨.SEC_STATUS, 0, 0, 31, 1⟩
abbrev Fld.SEC_STATUS_RESULT : Key := ⟨.SEC_STATUS, 0, 0, 27, 4⟩
abbrev Fld.SEC_STATUS_WORN : Key := ⟨.SEC_STATUS, 0, 0, 6, 1⟩
abbrev Fld.SEC_STATUS_DEBUG_OPEN : Key := ⟨.SEC_STATUS, 0, 0, 5, 1⟩
abbrev Fld.SEC_STATUS_ZEROIZED : Key := ⟨.SEC_STATUS, 0, 0, 4, 1⟩
abbrev Fld.SEC_STATUS_ERROR : Key := ⟨.SEC_STATUS, 0, 0, 3, 1⟩
abbrev Fld.SEC_STATUS_LC : Key := ⟨.SEC_STATUS, 0, 0, 0, 3⟩
abbrev Fld.SEC_CMD_KEY : Key := ⟨.SEC_CMD, 0, 0, 16, 16⟩
abbrev Fld.SEC_CMD_CMD : Key := ⟨.SEC_CMD, 0, 0, 0, 5⟩
abbrev Fld.SEC_EVT_LC_CHANGED : Key := ⟨.SEC_EVT, 0, 0, 5, 1⟩
abbrev Fld.SEC_EVT_ZEROIZED : Key := ⟨.SEC_EVT, 0, 0, 4, 1⟩
abbrev Fld.SEC_EVT_HEALTH : Key := ⟨.SEC_EVT, 0, 0, 3, 1⟩
abbrev Fld.SEC_EVT_ERROR : Key := ⟨.SEC_EVT, 0, 0, 2, 1⟩
abbrev Fld.SEC_EVT_REFUSED : Key := ⟨.SEC_EVT, 0, 0, 1, 1⟩
abbrev Fld.SEC_EVT_DONE : Key := ⟨.SEC_EVT, 0, 0, 0, 1⟩
abbrev Fld.SEC_IRQ_EN : Key := ⟨.SEC_IRQ_EN, 0, 0, 0, 6⟩
abbrev Fld.SEC_ALARM_CODE : Key := ⟨.SEC_ALARM, 0, 0, 0, 3⟩
abbrev Fld.SEC_NONCE (i : Nat) : Key := ⟨.SEC_NONCE, i, 0, 0, 32⟩
abbrev Fld.SEC_BOOT_CNT : Key := ⟨.SEC_BOOT_CNT, 0, 0, 0, 32⟩
abbrev Fld.SEC_FW_FLOOR : Key := ⟨.SEC_FW_FLOOR, 0, 0, 0, 32⟩
abbrev Fld.SEC_IMG_FLOOR : Key := ⟨.SEC_IMG_FLOOR, 0, 0, 0, 32⟩
abbrev Fld.SEC_OVR_FLOOR : Key := ⟨.SEC_OVR_FLOOR, 0, 0, 0, 32⟩
abbrev Fld.SEC_UID (i : Nat) : Key := ⟨.SEC_UID, i, 0, 0, 32⟩
abbrev Fld.SEC_ID_DIG (i : Nat) : Key := ⟨.SEC_ID_DIG, i, 0, 0, 32⟩
abbrev Fld.SEC_VKEY_DIG (i : Nat) : Key := ⟨.SEC_VKEY_DIG, i, 0, 0, 32⟩
abbrev Fld.SEC_OKEY_DIG (i : Nat) : Key := ⟨.SEC_OKEY_DIG, i, 0, 0, 32⟩
abbrev Fld.SEC_DNONCE (i : Nat) : Key := ⟨.SEC_DNONCE, i, 0, 0, 32⟩
abbrev Fld.SEC_ID_PUB (j : Nat) : Key := ⟨.SEC_ID_PUB, 0, j, 0, 32⟩
abbrev Fld.SEC_ATT (j : Nat) : Key := ⟨.SEC_ATT, 0, j, 0, 32⟩
abbrev Fld.SEC_XFER (j : Nat) : Key := ⟨.SEC_XFER, 0, j, 0, 32⟩
abbrev Fld.SYS_ID_PART : Key := ⟨.SYS_ID, 0, 0, 16, 16⟩
abbrev Fld.SYS_ID_STEP : Key := ⟨.SYS_ID, 0, 0, 8, 8⟩
abbrev Fld.SYS_ID_STEP_NUM : Key := ⟨.SYS_ID, 0, 0, 0, 8⟩
abbrev Fld.SYS_FAMILY_TILES : Key := ⟨.SYS_FAMILY, 0, 0, 28, 4⟩
abbrev Fld.SYS_FAMILY_STACKS : Key := ⟨.SYS_FAMILY, 0, 0, 24, 4⟩
abbrev Fld.SYS_FAMILY_CHANNELS : Key := ⟨.SYS_FAMILY, 0, 0, 16, 8⟩
abbrev Fld.SYS_FAMILY_PORTS : Key := ⟨.SYS_FAMILY, 0, 0, 8, 8⟩
abbrev Fld.SYS_FAMILY_LINKS : Key := ⟨.SYS_FAMILY, 0, 0, 0, 8⟩
abbrev Fld.SYS_FAMILY2_CORES : Key := ⟨.SYS_FAMILY2, 0, 0, 24, 8⟩
abbrev Fld.SYS_FAMILY2_TIUS : Key := ⟨.SYS_FAMILY2, 0, 0, 16, 8⟩
abbrev Fld.SYS_FAMILY2_REELS : Key := ⟨.SYS_FAMILY2, 0, 0, 0, 16⟩
abbrev Fld.SYS_FAMILY3_SLICES : Key := ⟨.SYS_FAMILY3, 0, 0, 24, 8⟩
abbrev Fld.SYS_FAMILY3_STACK_GIB : Key := ⟨.SYS_FAMILY3, 0, 0, 16, 8⟩
abbrev Fld.SYS_FAMILY3_PFS : Key := ⟨.SYS_FAMILY3, 0, 0, 8, 8⟩
abbrev Fld.SYS_FAMILY3_QUEUES : Key := ⟨.SYS_FAMILY3, 0, 0, 0, 8⟩
abbrev Fld.SYS_HIF_STATUS_UP : Key := ⟨.SYS_HIF_STATUS, 0, 0, 11, 1⟩
abbrev Fld.SYS_HIF_STATUS_FLIT : Key := ⟨.SYS_HIF_STATUS, 0, 0, 10, 1⟩
abbrev Fld.SYS_HIF_STATUS_WIDTH : Key := ⟨.SYS_HIF_STATUS, 0, 0, 4, 6⟩
abbrev Fld.SYS_HIF_STATUS_SPEED : Key := ⟨.SYS_HIF_STATUS, 0, 0, 0, 4⟩
abbrev Fld.SYS_HIF_EVT_UR : Key := ⟨.SYS_HIF_EVT, 0, 0, 4, 1⟩
abbrev Fld.SYS_HIF_EVT_FLR : Key := ⟨.SYS_HIF_EVT, 0, 0, 3, 1⟩
abbrev Fld.SYS_HIF_EVT_LINK_RESET : Key := ⟨.SYS_HIF_EVT, 0, 0, 2, 1⟩
abbrev Fld.SYS_HIF_EVT_NARROW_WR : Key := ⟨.SYS_HIF_EVT, 0, 0, 1, 1⟩
abbrev Fld.SYS_HIF_EVT_PRIV_DENIED : Key := ⟨.SYS_HIF_EVT, 0, 0, 0, 1⟩
abbrev Fld.SYS_PF_CFG_MSIX_EN (i : Nat) : Key := ⟨.SYS_PF_CFG, i, 0, 10, 1⟩
abbrev Fld.SYS_PF_CFG_D3HOT (i : Nat) : Key := ⟨.SYS_PF_CFG, i, 0, 9, 1⟩
abbrev Fld.SYS_PF_CFG_BME (i : Nat) : Key := ⟨.SYS_PF_CFG, i, 0, 8, 1⟩
abbrev Fld.SYS_PF_CFG_PRIV (i : Nat) : Key := ⟨.SYS_PF_CFG, i, 0, 0, 1⟩
abbrev Fld.SYS_MSIX (i j : Nat) : Key := ⟨.SYS_MSIX, i, j, 0, 32⟩
abbrev Fld.SYS_MSIX_PBA (i : Nat) : Key := ⟨.SYS_MSIX_PBA, i, 0, 0, 2⟩
abbrev Fld.AON_EVT_READING_ROOM : Key := ⟨.AON_EVT, 0, 0, 5, 1⟩
abbrev Fld.AON_EVT_LDR_DONE : Key := ⟨.AON_EVT, 0, 0, 4, 1⟩
abbrev Fld.AON_EVT_WOKE : Key := ⟨.AON_EVT, 0, 0, 3, 1⟩
abbrev Fld.AON_EVT_PWR_DONE : Key := ⟨.AON_EVT, 0, 0, 2, 1⟩
abbrev Fld.AON_EVT_WAIT_HOST : Key := ⟨.AON_EVT, 0, 0, 1, 1⟩
abbrev Fld.AON_EVT_READY : Key := ⟨.AON_EVT, 0, 0, 0, 1⟩
abbrev Fld.AON_IRQ_EN : Key := ⟨.AON_IRQ_EN, 0, 0, 0, 6⟩
abbrev Fld.DMA_EVT_BME_OFF : Key := ⟨.DMA_EVT, 0, 0, 1, 1⟩
abbrev Fld.DMA_EVT_Q_FAULT : Key := ⟨.DMA_EVT, 0, 0, 0, 1⟩
abbrev Fld.DMA_IRQ_EN : Key := ⟨.DMA_IRQ_EN, 0, 0, 0, 2⟩
abbrev Fld.DMA_Q_ACTIVE_LO : Key := ⟨.DMA_Q_ACTIVE_LO, 0, 0, 0, 32⟩
abbrev Fld.DMA_Q_ACTIVE_HI : Key := ⟨.DMA_Q_ACTIVE_HI, 0, 0, 0, 32⟩
abbrev Fld.DMA_Q_CTRL_EN (i : Nat) : Key := ⟨.DMA_Q_CTRL, i, 0, 0, 1⟩
abbrev Fld.DMA_Q_STATUS_RESTART_PENDING (i : Nat) : Key := ⟨.DMA_Q_STATUS, i, 0, 18, 1⟩
abbrev Fld.DMA_Q_STATUS_OWNER (i : Nat) : Key := ⟨.DMA_Q_STATUS, i, 0, 16, 2⟩
abbrev Fld.DMA_Q_STATUS_STATE (i : Nat) : Key := ⟨.DMA_Q_STATUS, i, 0, 0, 2⟩
abbrev Fld.DMA_Q_HEAD (i : Nat) : Key := ⟨.DMA_Q_HEAD, i, 0, 0, 16⟩
abbrev Fld.DMA_Q_TAIL (i : Nat) : Key := ⟨.DMA_Q_TAIL, i, 0, 0, 16⟩
abbrev Fld.DMA_Q_BASE_LO (i : Nat) : Key := ⟨.DMA_Q_BASE_LO, i, 0, 0, 32⟩
abbrev Fld.DMA_Q_BASE_HI (i : Nat) : Key := ⟨.DMA_Q_BASE_HI, i, 0, 0, 32⟩
abbrev Fld.DMA_Q_SIZE_LOG2 (i : Nat) : Key := ⟨.DMA_Q_SIZE, i, 0, 0, 5⟩
abbrev Fld.DMA_Q_EVT_RESTART_QUEUED (i : Nat) : Key := ⟨.DMA_Q_EVT, i, 0, 6, 1⟩
abbrev Fld.DMA_Q_EVT_CFG_ERR (i : Nat) : Key := ⟨.DMA_Q_EVT, i, 0, 5, 1⟩
abbrev Fld.DMA_Q_EVT_TAIL_BAD (i : Nat) : Key := ⟨.DMA_Q_EVT, i, 0, 4, 1⟩
abbrev Fld.DMA_Q_EVT_FAULT (i : Nat) : Key := ⟨.DMA_Q_EVT, i, 0, 3, 1⟩
abbrev Fld.DMA_Q_EVT_DROPPED (i : Nat) : Key := ⟨.DMA_Q_EVT, i, 0, 2, 1⟩
abbrev Fld.DMA_Q_EVT_IDLE (i : Nat) : Key := ⟨.DMA_Q_EVT, i, 0, 1, 1⟩
abbrev Fld.DMA_Q_EVT_DESC_DONE (i : Nat) : Key := ⟨.DMA_Q_EVT, i, 0, 0, 1⟩
abbrev Fld.DMA_Q_IRQ_EN (i : Nat) : Key := ⟨.DMA_Q_IRQ_EN, i, 0, 0, 7⟩
abbrev Fld.DMA_Q_BYTES_LO (i : Nat) : Key := ⟨.DMA_Q_BYTES_LO, i, 0, 0, 32⟩
abbrev Fld.DMA_Q_BYTES_HI (i : Nat) : Key := ⟨.DMA_Q_BYTES_HI, i, 0, 0, 32⟩
abbrev Fld.SYS_TJ_FAULT (i : Nat) : Key := ⟨.SYS_TJ, i, 0, 31, 1⟩
abbrev Fld.SYS_TJ_TJ (i : Nat) : Key := ⟨.SYS_TJ, i, 0, 0, 16⟩
abbrev Fld.SYS_THERM_TRIP : Key := ⟨.SYS_THERM, 0, 0, 31, 1⟩
abbrev Fld.SYS_THERM_FORCED : Key := ⟨.SYS_THERM, 0, 0, 30, 1⟩
abbrev Fld.SYS_THERM_SENSOR : Key := ⟨.SYS_THERM, 0, 0, 24, 5⟩
abbrev Fld.SYS_THERM_TJ_MAX : Key := ⟨.SYS_THERM, 0, 0, 0, 16⟩
abbrev Fld.SYS_RAIL_PG : Key := ⟨.SYS_RAIL, 0, 0, 0, 11⟩
abbrev Fld.SYS_RAIL_WARN : Key := ⟨.SYS_RAIL, 0, 0, 16, 11⟩
abbrev Fld.SYS_WEAR (i j : Nat) : Key := ⟨.SYS_WEAR, i, j, 0, 32⟩
abbrev Fld.SYS_WEAR_USED (i : Nat) : Key := ⟨.SYS_WEAR_USED, i, 0, 0, 32⟩
abbrev Fld.AON_BREC_VALID (i : Nat) : Key := ⟨.AON_BREC, i, 0, 31, 1⟩
abbrev Fld.AON_BREC_CAUSE (i : Nat) : Key := ⟨.AON_BREC, i, 0, 16, 8⟩
abbrev Fld.AON_BREC_STAGE (i : Nat) : Key := ⟨.AON_BREC, i, 0, 8, 4⟩
abbrev Fld.AON_BREC_SRC (i : Nat) : Key := ⟨.AON_BREC, i, 0, 4, 2⟩
abbrev Fld.AON_BREC_OUTCOME (i : Nat) : Key := ⟨.AON_BREC, i, 0, 0, 2⟩
abbrev Fld.AON_BREC_COUNT (i : Nat) : Key := ⟨.AON_BREC, i, 1, 0, 32⟩
abbrev Fld.AON_BREC_MICROS (i : Nat) : Key := ⟨.AON_BREC, i, 2, 0, 32⟩
abbrev Fld.AON_BREC_FAILS (i : Nat) : Key := ⟨.AON_BREC, i, 3, 0, 2⟩
abbrev Fld.MS_REFILL_BW : Key := ⟨.MS_REFILL_BW, 0, 0, 0, 16⟩

/-- Boot has reached READY since the last reset (R339, R399). -/
abbrev Lat.BOOT_READY : Key := ⟨.L_BOOT_READY, 0, 0, 0, 1⟩
/-- Event channel i is in its pulse or its lockout (R308). -/
abbrev Lat.EVC_BUSY (i : Nat) : Key := ⟨.L_EVC_BUSY, i, 0, 0, 1⟩
/-- Loop count of event channel i (R314). -/
abbrev Lat.EVC_LOOPS (i : Nat) : Key := ⟨.L_EVC_LOOPS, i, 0, 0, 11⟩
/-- Tick at which the loop-count window of channel i ends (R314). -/
abbrev Lat.EVC_LOOP_END (i : Nat) : Key := ⟨.L_EVC_LOOP_END, i, 0, 0, 64⟩
/-- Level of EVIO pin i as an input (R321). -/
abbrev Lat.EVIO_IN (i : Nat) : Key := ⟨.L_EVIO_IN, i, 0, 0, 1⟩
/-- EVIO pin i is driven high (R321). -/
abbrev Lat.EVIO_OUT (i : Nat) : Key := ⟨.L_EVIO_OUT, i, 0, 0, 1⟩
/-- Tick at which an ALIGN pulse on EVIO pin i ends (R321). -/
abbrev Lat.EVIO_FALL_AT (i : Nat) : Key := ⟨.L_EVIO_FALL_AT, i, 0, 0, 64⟩
/-- The next tick of timer i (R319). -/
abbrev Lat.TMR_NEXT (i : Nat) : Key := ⟨.L_TMR_NEXT, i, 0, 0, 64⟩
/-- Timer i is running: its configuration passed the checks (R319). -/
abbrev Lat.TMR_RUN (i : Nat) : Key := ⟨.L_TMR_RUN, i, 0, 0, 1⟩
/-- Threshold comparator i is ABOVE (R320). -/
abbrev Lat.THR_ABOVE (i : Nat) : Key := ⟨.L_THR_ABOVE, i, 0, 0, 1⟩
/-- One more than the word number of the last pulse of threshold i (R320, at most one pulse per word). -/
abbrev Lat.THR_WORD (i : Nat) : Key := ⟨.L_THR_WORD, i, 0, 0, 64⟩
/-- Doorbell bits signalled to control core i (R315). -/
abbrev Lat.DOORBELL (i : Nat) : Key := ⟨.L_DOORBELL, i, 0, 0, 32⟩
/-- Control core i is in sleep (R326). -/
abbrev Lat.CC_SLEEP (i : Nat) : Key := ⟨.L_CC_SLEEP, i, 0, 0, 1⟩
/-- Control core i has halted or faulted (R31). -/
abbrev Lat.CC_HALTED (i : Nat) : Key := ⟨.L_CC_HALTED, i, 0, 0, 1⟩
/-- MSI-X Function Mask of PF i (R326). -/
abbrev Lat.PF_FMASK (i : Nat) : Key := ⟨.L_PF_FMASK, i, 0, 0, 1⟩
/-- PME_En of PF i (R332). -/
abbrev Lat.PF_PME_EN (i : Nat) : Key := ⟨.L_PF_PME_EN, i, 0, 0, 1⟩
/-- The IC has woken the primary target of source i in this pending episode (R332). -/
abbrev Lat.IC_WOKEN (i : Nat) : Key := ⟨.L_IC_WOKEN, i, 0, 0, 1⟩
/-- The wake watcher has seen source i in this sleep (R333). -/
abbrev Lat.WAKE_SEEN (i : Nat) : Key := ⟨.L_WAKE_SEEN, i, 0, 0, 1⟩
/-- The wake watcher has started a wake sequence (R333). -/
abbrev Lat.WAKE_START : Key := ⟨.L_WAKE_START, 0, 0, 0, 1⟩
/-- A full episode of the archive under STOP_AND_FLAG has dropped an entry (R341). -/
abbrev Lat.ARC_FULL : Key := ⟨.L_ARC_FULL, 0, 0, 0, 1⟩
/-- The value the last read of IC_CLAIM by target i returned (R328). -/
abbrev Lat.CLAIM_DATA (i : Nat) : Key := ⟨.L_CLAIM_DATA, i, 0, 0, 32⟩
/-- Entry i was cleared while its cause persisted: it raises again at the next word boundary (R338). -/
abbrev Lat.LDG_AGAIN (i : Nat) : Key := ⟨.L_LDG_AGAIN, i, 0, 0, 1⟩
/-- The unit that raises cause i again (R338). -/
abbrev Lat.LDG_AGAIN_UNIT (i : Nat) : Key := ⟨.L_LDG_AGAIN_UNIT, i, 0, 0, 12⟩
/-- The detail with which cause i raises again (R338). -/
abbrev Lat.LDG_AGAIN_DETAIL (i : Nat) : Key := ⟨.L_LDG_AGAIN_DETAIL, i, 0, 0, 32⟩
/-- A power transition is in progress (R407). -/
abbrev Lat.PWR_BUSY : Key := ⟨.L_PWR_BUSY, 0, 0, 0, 1⟩
/-- The power state the transition in progress leads to (R406). -/
abbrev Lat.PWR_NEXT : Key := ⟨.L_PWR_NEXT, 0, 0, 0, 3⟩
/-- The sum x of channel i at its last scheduled tick, signed, in units of 2^-8 code (R222). -/
abbrev Lat.CH_SUM (i : Nat) : Key := ⟨.L_CH_SUM, i, 0, 0, 40⟩
/-- The count is held in a REANCHOR stop (R69). -/
abbrev Lat.TB_HELD : Key := ⟨.L_TB_HELD, 0, 0, 0, 1⟩
/-- Dword j of the units with which cause i raises again (R338). -/
abbrev Lat.LDG_AGAIN_MAP (i j : Nat) : Key := ⟨.L_LDG_AGAIN_MAP, i, j, 0, 32⟩
/-- An acquisition is wanted: EN = 1 and the checks passed, REFIN awaited (R53, R58). -/
abbrev Lat.TB_WANT : Key := ⟨.L_TB_WANT, 0, 0, 0, 1⟩
/-- A clear of PLL_CTRL.EN is held until the release (R58). -/
abbrev Lat.TB_CLEAR_HELD : Key := ⟨.L_TB_CLEAR_HELD, 0, 0, 0, 1⟩
/-- The PLL has locked at least once since the AON domain powered up (R52). -/
abbrev Lat.TB_EVER : Key := ⟨.L_TB_EVER, 0, 0, 0, 1⟩
/-- Tick of the loss decision of the coast (R67, R72). -/
abbrev Lat.TB_LOSS_TICK : Key := ⟨.L_TB_LOSS_TICK, 0, 0, 0, 64⟩
/-- Cause of the REANCHOR in progress: 0 REF_LOST, 1 PLL_UNLOCK, 2 COMMANDED (R72). -/
abbrev Lat.TB_REL_CAUSE : Key := ⟨.L_TB_REL_CAUSE, 0, 0, 0, 2⟩
/-- Tick of the last release (R61, R69). -/
abbrev Lat.TB_REL_TICK : Key := ⟨.L_TB_REL_TICK, 0, 0, 0, 64⟩
/-- The park release of R69 is due 8 words after the release. -/
abbrev Lat.TB_UNPARK_DUE : Key := ⟨.L_TB_UNPARK_DUE, 0, 0, 0, 1⟩
/-- The residual measurement after the release is due (R62). -/
abbrev Lat.TB_MEAS_DUE : Key := ⟨.L_TB_MEAS_DUE, 0, 0, 0, 1⟩
/-- The RELOCK archive entries wait for the residual (R72). -/
abbrev Lat.TB_ENTRY_DUE : Key := ⟨.L_TB_ENTRY_DUE, 0, 0, 0, 1⟩
/-- Reacquisition attempts in this coast (R469). -/
abbrev Lat.TB_REACQ : Key := ⟨.L_TB_REACQ, 0, 0, 0, 32⟩
/-- Tick of the armed anchor or relock (R66). -/
abbrev Lat.TB_ANCHOR_TICK : Key := ⟨.L_TB_ANCHOR_TICK, 0, 0, 0, 64⟩
/-- The armed load takes place at the coming release (R65). -/
abbrev Lat.TB_LOAD_OK : Key := ⟨.L_TB_LOAD_OK, 0, 0, 0, 1⟩
/-- EPOCH_IN has been sampled high since the anchor state was entered (R61). -/
abbrev Lat.TB_EPIN_SEEN : Key := ⟨.L_TB_EPIN_SEEN, 0, 0, 0, 1⟩
/-- Latched time of day: seconds (R78). -/
abbrev Lat.TOD_SEC : Key := ⟨.L_TOD_SEC, 0, 0, 0, 48⟩
/-- Latched time of day: nanoseconds (R78). -/
abbrev Lat.TOD_NS : Key := ⟨.L_TOD_NS, 0, 0, 0, 30⟩
/-- Latched time of day: the associated tick (R78). -/
abbrev Lat.TOD_TICK : Key := ⟨.L_TOD_TICK, 0, 0, 0, 64⟩
/-- A time-of-day association has been latched (R78). -/
abbrev Lat.TOD_VALID : Key := ⟨.L_TOD_VALID, 0, 0, 0, 1⟩
/-- EPOCH_OUT i is enabled with a valid configuration (R74). -/
abbrev Lat.EPOCH_RUN (i : Nat) : Key := ⟨.L_EPOCH_RUN, i, 0, 0, 1⟩
/-- Next pulse tick of EPOCH_OUT i (R74). -/
abbrev Lat.EPOCH_NEXT (i : Nat) : Key := ⟨.L_EPOCH_NEXT, i, 0, 0, 64⟩
/-- A pulse of the configuration before the last write is still due on EPOCH_OUT i (R74). -/
abbrev Lat.EPOCH_OLD (i : Nat) : Key := ⟨.L_EPOCH_OLD, i, 0, 0, 1⟩
/-- The tick of that pulse. -/
abbrev Lat.EPOCH_OLD_TICK (i : Nat) : Key := ⟨.L_EPOCH_OLD_TICK, i, 0, 0, 64⟩
/-- The width of that pulse. -/
abbrev Lat.EPOCH_OLD_WIDTH (i : Nat) : Key := ⟨.L_EPOCH_OLD_WIDTH, i, 0, 0, 64⟩
/-- SYSREF output i is enabled with a valid period (R76). -/
abbrev Lat.SYSREF_RUN (i : Nat) : Key := ⟨.L_SYSREF_RUN, i, 0, 0, 1⟩
/-- Next pulse tick of SYSREF output i (R76). -/
abbrev Lat.SYSREF_NEXT (i : Nat) : Key := ⟨.L_SYSREF_NEXT, i, 0, 0, 64⟩
/-- Pulses left in the burst of SYSREF output i (R76). -/
abbrev Lat.SYSREF_LEFT (i : Nat) : Key := ⟨.L_SYSREF_LEFT, i, 0, 0, 8⟩
/-- The stacks are in self-refresh (R84). -/
abbrev Lat.STK_SR : Key := ⟨.L_STK_SR, 0, 0, 0, 1⟩
/-- Timeout of the presence detector, 3.5 nominal periods, in ps (R50). -/
abbrev Lat.REF_WINDOW_PS : Key := ⟨.L_REF_WINDOW_PS, 0, 0, 0, 40⟩
/-- Stream slot i retains the leaf before PP (R101). -/
abbrev Lat.STRM_RET (i : Nat) : Key := ⟨.L_STRM_RET, i, 0, 0, 1⟩
/-- Tick at which PP of slot i next advances (R101). -/
abbrev Lat.STRM_NEXT (i : Nat) : Key := ⟨.L_STRM_NEXT, i, 0, 0, 64⟩
/-- The first dropped beat since MS_CMD.WDROP_CLR is latched (R97). -/
abbrev Lat.WDROP_LATCHED : Key := ⟨.L_WDROP_LATCHED, 0, 0, 0, 1⟩
/-- The card command in progress is a write (R90). -/
abbrev Lat.CARD_WR : Key := ⟨.L_CARD_WR, 0, 0, 0, 1⟩
/-- The result the card command in progress will report (R91). -/
abbrev Lat.CARD_RES : Key := ⟨.L_CARD_RES, 0, 0, 0, 3⟩
/-- The march test running in tile i is a preserving one (R119). -/
abbrev Lat.MARCH_MODE (i : Nat) : Key := ⟨.L_MARCH_MODE, i, 0, 0, 1⟩
/-- Readings of stack i in a row at least 3 degrees below its refresh bound (R112). -/
abbrev Lat.STK_COLD_SINCE (i : Nat) : Key := ⟨.L_STK_COLD_SINCE, i, 0, 0, 64⟩
/-- First word boundary of the ramp of group i (R279). -/
abbrev Lat.COR_W0 (i : Nat) : Key := ⟨.L_COR_W0, i, 0, 0, 64⟩
/-- Ramp of group i: 0 none, 1 decided, 2 running (R279). -/
abbrev Lat.COR_RAMP (i : Nat) : Key := ⟨.L_COR_RAMP, i, 0, 0, 2⟩
/-- m of group i is 0: a HARD_PARK abort is on its way to the drives (R282). -/
abbrev Lat.COR_ZERO (i : Nat) : Key := ⟨.L_COR_ZERO, i, 0, 0, 1⟩
/-- Accepted frames or blocks of group i since START, saturating (R272). -/
abbrev Lat.COR_FRAMES (i : Nat) : Key := ⟨.L_COR_FRAMES, i, 0, 0, 16⟩
/-- Accepted frames or blocks of group i in CONTROL since SETTLED was last cleared, saturating (R278). -/
abbrev Lat.COR_CTL (i : Nat) : Key := ⟨.L_COR_CTL, i, 0, 0, 16⟩
/-- Accepted frames of group i since its last update (R274). -/
abbrev Lat.COR_DUE (i : Nat) : Key := ⟨.L_COR_DUE, i, 0, 0, 16⟩
/-- An update of group i has been committed and has not latched (R275). -/
abbrev Lat.COR_BUSY (i : Nat) : Key := ⟨.L_COR_BUSY, i, 0, 0, 1⟩
/-- A reference bank swap of group i waits for its next update (R285). -/
abbrev Lat.COR_SWAP (i : Nat) : Key := ⟨.L_COR_SWAP, i, 0, 0, 1⟩
/-- A slice of group i has faulted (R283). -/
abbrev Lat.COR_SLICE_BAD (i : Nat) : Key := ⟨.L_COR_SLICE_BAD, i, 0, 0, 1⟩
/-- Leaves of slot i whose play has been completed in the pass in progress (R101, R105). -/
abbrev Lat.STRM_LEAF (i : Nat) : Key := ⟨.L_STRM_LEAF, i, 0, 0, 32⟩
/-- A host calibration run is in progress (R380). -/
abbrev Lat.CAL_RUN : Key := ⟨.L_CAL_RUN, 0, 0, 0, 1⟩
/-- The channel of that run. -/
abbrev Lat.CAL_RUN_CH : Key := ⟨.L_CAL_RUN_CH, 0, 0, 0, 5⟩
/-- One more than the word number of the last pulse of tile producer i (R188, at most one pulse per word). -/
abbrev Lat.PROD_WORD (i : Nat) : Key := ⟨.L_PROD_WORD, i, 0, 0, 64⟩
/-- T_r of the range gap in progress on channel i (R232). -/
abbrev Lat.RNG_AT (i : Nat) : Key := ⟨.L_RNG_AT, i, 0, 0, 64⟩
/-- The range that this gap leads to. -/
abbrev Lat.RNG_NEW (i : Nat) : Key := ⟨.L_RNG_NEW, i, 0, 0, 2⟩
/-- Readings of stack i in a row at least 3 degrees below the bound of the image class (R113). -/
abbrev Lat.STK_BOOK_COLD (i : Nat) : Key := ⟨.L_STK_BOOK_COLD, i, 0, 0, 64⟩
/-- Tick at which the equaliser swap of channel i was requested (R228). -/
abbrev Lat.EQ_REQ_AT (i : Nat) : Key := ⟨.L_EQ_REQ_AT, i, 0, 0, 64⟩
/-- Tick at which CH_EQ_CFG.SRC of channel i was last written (R228). -/
abbrev Lat.EQ_SRC_AT (i : Nat) : Key := ⟨.L_EQ_SRC_AT, i, 0, 0, 64⟩
/-- The equaliser source in force on channel i (R227, R228). -/
abbrev Lat.EQ_SRC_CUR (i : Nat) : Key := ⟨.L_EQ_SRC_CUR, i, 0, 0, 2⟩
/-- The last DAC code of channel i, signed (R224). -/
abbrev Lat.CH_D (i : Nat) : Key := ⟨.L_CH_D, i, 0, 0, 16⟩
/-- Fault conditions present on channel i: bit 0 overcurrent, 1 stage overtemperature, 2 feed queue (R237, R240). -/
abbrev Lat.CH_BAD (i : Nat) : Key := ⟨.L_CH_BAD, i, 0, 0, 3⟩
/-- The fault condition that set the FAULT park reason of port i is present (R246). -/
abbrev Lat.PP_BAD (i : Nat) : Key := ⟨.L_PP_BAD, i, 0, 0, 1⟩
/-- Tick from which the rails of converter die i have been good (R237). -/
abbrev Lat.DIE_GOOD_AT (i : Nat) : Key := ⟨.L_DIE_GOOD_AT, i, 0, 0, 64⟩
/-- A rail of converter die i is below its warning level (R456). -/
abbrev Lat.DIE_UV (i : Nat) : Key := ⟨.L_DIE_UV, i, 0, 0, 1⟩
/-- VDD_OUT and VDD_DAC of converter die i are at power-good (R235). -/
abbrev Lat.DIE_PG (i : Nat) : Key := ⟨.L_DIE_PG, i, 0, 0, 1⟩
/-- The PARK_N ball is low (R238). -/
abbrev Lat.PARK_N_LOW : Key := ⟨.L_PARK_N_LOW, 0, 0, 0, 1⟩
/-- The thermal trip condition holds (R460). -/
abbrev Lat.TRIP : Key := ⟨.L_TRIP, 0, 0, 0, 1⟩
/-- Sensor reading at the last computation of the target sets of channel i, signed; -32,768 before the first (R371). -/
abbrev Lat.CAL_T_LAST (i : Nat) : Key := ⟨.L_CAL_T_LAST, i, 0, 0, 16⟩
/-- Sets applied on channel i since boot (R377). -/
abbrev Lat.CAL_SEQ (i : Nat) : Key := ⟨.L_CAL_SEQ, i, 0, 0, 26⟩
/-- Channels (bit 32: device) for which CAL_FAULT code i has been raised since the entry was cleared (R384). -/
abbrev Lat.CAL_RAISED (i : Nat) : Key := ⟨.L_CAL_RAISED, i, 0, 0, 33⟩
/-- V_RES of the last verification of channel i (R382). -/
abbrev Lat.CAL_VRES (i : Nat) : Key := ⟨.L_CAL_VRES, i, 0, 0, 16⟩
/-- S_RES of the last skew measurement of channel i (R382). -/
abbrev Lat.CAL_SRES (i : Nat) : Key := ⟨.L_CAL_SRES, i, 0, 0, 16⟩
/-- HOLD was decided on channel i: extrapolated sets are withheld (R379). -/
abbrev Lat.CAL_HELD (i : Nat) : Key := ⟨.L_CAL_HELD, i, 0, 0, 1⟩
/-- Load at that decision. -/
abbrev Lat.CAL_HELD_P (i : Nat) : Key := ⟨.L_CAL_HELD_P, i, 0, 0, 16⟩
/-- Sensor reading at that decision, signed. -/
abbrev Lat.CAL_HELD_T (i : Nat) : Key := ⟨.L_CAL_HELD_T, i, 0, 0, 16⟩
/-- Offset of line B of TIU i against line A, signed, in 2^-16 tick (R288). -/
abbrev Lat.TIU_BOFS (i : Nat) : Key := ⟨.L_TIU_BOFS, i, 0, 0, 17⟩
/-- Tick at which the last code-density run of TIU i completed (R288, R289). -/
abbrev Lat.TIU_CAL_AT (i : Nat) : Key := ⟨.L_TIU_CAL_AT, i, 0, 0, 64⟩
/-- A code-density run of TIU i is in progress (R288). -/
abbrev Lat.TIU_CAL_BUSY (i : Nat) : Key := ⟨.L_TIU_CAL_BUSY, i, 0, 0, 1⟩
/-- One more than the TIU that the delay calibration of port i holds; 0 none (R248). -/
abbrev Lat.DLY_TIU (i : Nat) : Key := ⟨.L_DLY_TIU, i, 0, 0, 5⟩
/-- The RX link of lane-0 port i is on its way to OFF (R261). -/
abbrev Lat.JRX_STOP (i : Nat) : Key := ⟨.L_JRX_STOP, i, 0, 0, 1⟩
/-- The last sample sent by pattern TX port i (R244, R246). -/
abbrev Lat.PP_WORD (i : Nat) : Key := ⟨.L_PP_WORD, i, 0, 0, 16⟩
/-- The last code of converter i mod 16 of TX link i div 16, signed (R258). -/
abbrev Lat.JTX_CODE (i : Nat) : Key := ⟨.L_JTX_CODE, i, 0, 0, 16⟩
/-- Consecutive headers with good CRC received on link i, saturating at 4 (R352). -/
abbrev Lat.LK_GOOD (i : Nat) : Key := ⟨.L_LK_GOOD, i, 0, 0, 3⟩
/-- Role of the partner of link i as its headers say (R349). -/
abbrev Lat.LK_PROLE (i : Nat) : Key := ⟨.L_LK_PROLE, i, 0, 0, 2⟩
/-- Link state of the partner of link i as its headers say (R349). -/
abbrev Lat.LK_PSTATE (i : Nat) : Key := ⟨.L_LK_PSTATE, i, 0, 0, 4⟩
/-- UNREF of the partner of link i as its headers say (R349). -/
abbrev Lat.LK_PUNREF (i : Nat) : Key := ⟨.L_LK_PUNREF, i, 0, 0, 1⟩
/-- One more than the number of the last frame sent on link i (R348). -/
abbrev Lat.LK_SENT (i : Nat) : Key := ⟨.L_LK_SENT, i, 0, 0, 64⟩
/-- The arrival stamp of a partner header is held on link i (R354). -/
abbrev Lat.LK_HDR (i : Nat) : Key := ⟨.L_LK_HDR, i, 0, 0, 1⟩
/-- Frame number of that header. -/
abbrev Lat.LK_HDR_F (i : Nat) : Key := ⟨.L_LK_HDR_F, i, 0, 0, 40⟩
/-- Arrival stamp of that header in 2^-16 tick. -/
abbrev Lat.LK_HDR_A (i : Nat) : Key := ⟨.L_LK_HDR_A, i, 0, 0, 96⟩
/-- One more than the TIU that link i holds; 0 none (R300, R352). -/
abbrev Lat.LK_TIU (i : Nat) : Key := ⟨.L_LK_TIU, i, 0, 0, 5⟩
/-- TIME exchanges in the average of link i (R354). -/
abbrev Lat.LK_N (i : Nat) : Key := ⟨.L_LK_N, i, 0, 0, 11⟩
/-- Sum over those of (a_here - d_part) - (a_part - d_here), signed, in 2^-16 tick. -/
abbrev Lat.LK_SUM_T (i : Nat) : Key := ⟨.L_LK_SUM_T, i, 0, 0, 128⟩
/-- Sum over those of the round trip, signed, in 2^-16 tick. -/
abbrev Lat.LK_SUM_R (i : Nat) : Key := ⟨.L_LK_SUM_R, i, 0, 0, 128⟩
/-- The first of those values (R347). -/
abbrev Lat.LK_T0 (i : Nat) : Key := ⟨.L_LK_T0, i, 0, 0, 128⟩
/-- The last of those values (R347). -/
abbrev Lat.LK_T1 (i : Nat) : Key := ⟨.L_LK_T1, i, 0, 0, 128⟩
/-- Link i measures again after RETRAIN: the round trip is compared with the last (R352). -/
abbrev Lat.LK_AGAIN (i : Nat) : Key := ⟨.L_LK_AGAIN, i, 0, 0, 1⟩
/-- Samples of transmit stream j of link i since its EN was set (R363). -/
abbrev Lat.LK_TXS_N (i j : Nat) : Key := ⟨.L_LK_TXS_N, i, j, 0, 64⟩
/-- One more than the class of receive stream j of link i, once a message has come (R364). -/
abbrev Lat.LK_RXS_LOG2 (i j : Nat) : Key := ⟨.L_LK_RXS_LOG2, i, j, 0, 6⟩
/-- Grid offset of the contributions of that stream (R364). -/
abbrev Lat.LK_RXS_PH (i j : Nat) : Key := ⟨.L_LK_RXS_PH, i, j, 0, 64⟩
/-- Grid tick after the last sample of that stream (R364). -/
abbrev Lat.LK_RXS_T (i j : Nat) : Key := ⟨.L_LK_RXS_T, i, j, 0, 64⟩
/-- Ring position of the next sample of that stream (R364). -/
abbrev Lat.LK_RXS_POS (i j : Nat) : Key := ⟨.L_LK_RXS_POS, i, j, 0, 15⟩
/-- A fresh average of θ has come in MEASURING, or after the release in ANCHORING (R355). -/
abbrev Lat.ST_FRESH : Key := ⟨.L_ST_FRESH, 0, 0, 0, 1⟩
/-- The anchor of an alignment has been released (R355). -/
abbrev Lat.ST_OUT : Key := ⟨.L_ST_OUT, 0, 0, 0, 1⟩
/-- LINK_FAULT of link i stands until it is UP again (R353). -/
abbrev Lat.LK_FAULTED (i : Nat) : Key := ⟨.L_LK_FAULTED, i, 0, 0, 1⟩
/-- Range of the host calibration in progress (R380). -/
abbrev Lat.CAL_RUN_RANGE : Key := ⟨.L_CAL_RUN_RANGE, 0, 0, 0, 2⟩
/-- Kinds of the host calibration in progress (R380). -/
abbrev Lat.CAL_RUN_KINDS : Key := ⟨.L_CAL_RUN_KINDS, 0, 0, 0, 4⟩
/-- An override is being verified (R381). -/
abbrev Lat.OVR_BUSY : Key := ⟨.L_OVR_BUSY, 0, 0, 0, 1⟩
/-- Source, address and length of the full load in progress: SRC, address, LEN from bit 0 (R391). -/
abbrev Lat.IMG_AT : Key := ⟨.L_IMG_AT, 0, 0, 0, 91⟩
/-- Source, address and length of the reissue that tile i waits for or loads, in the same form (R392, R393). -/
abbrev Lat.RI_AT (i : Nat) : Key := ⟨.L_RI_AT, i, 0, 0, 91⟩
/-- The same of a reissue queued while tile i loads (R393). -/
abbrev Lat.RI_NEXT (i : Nat) : Key := ⟨.L_RI_NEXT, i, 0, 0, 91⟩
/-- Digest of the device part of the full image in force (R386). -/
abbrev Lat.IMG_DEV : Key := ⟨.L_IMG_DEV, 0, 0, 0, 512⟩
/-- COUNTER of the full image in force; 0 for none (R420). -/
abbrev Lat.IMG_CNT : Key := ⟨.L_IMG_CNT, 0, 0, 0, 32⟩
/-- M_IMG (R421). -/
abbrev Lat.M_IMG : Key := ⟨.L_M_IMG, 0, 0, 0, 512⟩
/-- Reissues applied since the full load (R420, R421). -/
abbrev Lat.REISSUES : Key := ⟨.L_REISSUES, 0, 0, 0, 32⟩
/-- COUNTER of the firmware in force; 0 for none (R420). -/
abbrev Lat.FW_CNT : Key := ⟨.L_FW_CNT, 0, 0, 0, 32⟩
/-- Digest of the firmware in force; 0 for none (R420). -/
abbrev Lat.M_FW : Key := ⟨.L_M_FW, 0, 0, 0, 512⟩
/-- Digest of the last accepted override; 0 when none (R420). -/
abbrev Lat.M_OVR : Key := ⟨.L_M_OVR, 0, 0, 0, 512⟩
/-- COUNTER of the override in force; 0 for none (R420). -/
abbrev Lat.OVR_CNT : Key := ⟨.L_OVR_CNT, 0, 0, 0, 32⟩
/-- A boot attempt is to start at stage 1 (R399 to R401, R404). -/
abbrev Lat.BOOT_DUE : Key := ⟨.L_BOOT_DUE, 0, 0, 0, 1⟩
/-- A failed attempt is followed by another after 10 ms (R400). -/
abbrev Lat.BOOT_RETRY : Key := ⟨.L_BOOT_RETRY, 0, 0, 0, 1⟩
/-- A valid boot parameter block has been read in this attempt (R396). -/
abbrev Lat.BPB_OK : Key := ⟨.L_BPB_OK, 0, 0, 0, 1⟩
/-- REF_CFG value of the block (R396). -/
abbrev Lat.BPB_REF : Key := ⟨.L_BPB_REF, 0, 0, 0, 32⟩
/-- PLL_CFG value of the block (R396). -/
abbrev Lat.BPB_PLL : Key := ⟨.L_BPB_PLL, 0, 0, 0, 32⟩
/-- xSPI MODE of the block (R396). -/
abbrev Lat.BPB_MODE : Key := ⟨.L_BPB_MODE, 0, 0, 0, 2⟩
/-- Offset or bus address of payload i: 1 firmware, 2 image, 3 calibration, 4 override (R396, R397). -/
abbrev Lat.PAY_ADDR (i : Nat) : Key := ⟨.L_PAY_ADDR, i, 0, 0, 64⟩
/-- Length of that payload; 0 means none (R396, R397). -/
abbrev Lat.PAY_LEN (i : Nat) : Key := ⟨.L_PAY_LEN, i, 0, 0, 32⟩
/-- The result that the loader command in progress will report (R402). -/
abbrev Lat.LDR_RES : Key := ⟨.L_LDR_RES, 0, 0, 0, 3⟩
/-- The device is OFF behind a lost main rail (R406, R456). -/
abbrev Lat.PWR_OFF : Key := ⟨.L_PWR_OFF, 0, 0, 0, 1⟩
/-- Main rails that have lost power-good (R456). -/
abbrev Lat.RAIL_LOST : Key := ⟨.L_RAIL_LOST, 0, 0, 0, 11⟩
/-- The queued power command: 0 none, 1 STANDBY, 2 RESUME, 3 SLEEP, 4 WAKE (R407). -/
abbrev Lat.PWR_Q : Key := ⟨.L_PWR_Q, 0, 0, 0, 3⟩
/-- SLEEP goes on when this STANDBY transition ends (R406). -/
abbrev Lat.PWR_THEN : Key := ⟨.L_PWR_THEN, 0, 0, 0, 1⟩
/-- A forced standby waits for every reel to be IDLE (R460). -/
abbrev Lat.FORCE_STBY : Key := ⟨.L_FORCE_STBY, 0, 0, 0, 1⟩
/-- The life-cycle state that the fuses give at the next boot (R416, R417). -/
abbrev Lat.LC_FUSED : Key := ⟨.L_LC_FUSED, 0, 0, 0, 3⟩
/-- The code of the SEC command in progress; 0 none (R427). -/
abbrev Lat.SEC_RUN : Key := ⟨.L_SEC_RUN, 0, 0, 0, 5⟩
/-- A zeroization that waits for the command in progress (R428). -/
abbrev Lat.SEC_NEXT : Key := ⟨.L_SEC_NEXT, 0, 0, 0, 5⟩
/-- TB_TICK when ATTEST was accepted (R420). -/
abbrev Lat.ATT_TICK : Key := ⟨.L_ATT_TICK, 0, 0, 0, 64⟩
/-- Byte 25 of the report as it stood when ATTEST was accepted (R420). -/
abbrev Lat.ATT_FLAGS : Key := ⟨.L_ATT_FLAGS, 0, 0, 0, 3⟩
/-- Writes of the cell of counter i: 0 BOOT, 1 FW, 2 IMG, 3 OVR (R415). -/
abbrev Lat.NV_WRITES (i : Nat) : Key := ⟨.L_NV_WRITES, i, 0, 0, 25⟩
/-- The result that the command in progress will report, where it is known when it starts. -/
abbrev Lat.SEC_RES : Key := ⟨.L_SEC_RES, 0, 0, 0, 4⟩
/-- The JTAG instruction register (R465). -/
abbrev Lat.TAP_IR : Key := ⟨.L_TAP_IR, 0, 0, 0, 8⟩
/-- The boundary register as last preloaded (R465, R466). -/
abbrev Lat.BSR : Key := ⟨.L_BSR, 0, 0, 0, 356⟩
/-- Sensor i has read since reset (R459). -/
abbrev Lat.SENS_SEEN (i : Nat) : Key := ⟨.L_SENS_SEEN, i, 0, 0, 1⟩
/-- Readings of sensor i in a row at 155 degrees or more, up to 2 (R460). -/
abbrev Lat.HOT155 (i : Nat) : Key := ⟨.L_HOT155, i, 0, 0, 2⟩
/-- Readings of sensor i in a row at 160 degrees or more, up to 2 (R460). -/
abbrev Lat.HOT160 (i : Nat) : Key := ⟨.L_HOT160, i, 0, 0, 2⟩
/-- Readings of sensor 20 since the trip condition began, up to 10,000: 100 ms (R460). -/
abbrev Lat.TRIP_FOR : Key := ⟨.L_TRIP_FOR, 0, 0, 0, 14⟩
/-- Readings of sensor 20 in a row with every valid sensor at 150 degrees or less, up to 1,000: 10 ms (R460). -/
abbrev Lat.COOL_FOR : Key := ⟨.L_COOL_FOR, 0, 0, 0, 10⟩
/-- Seconds of die class i in bin j (R462). -/
abbrev Lat.WEAR_T (i j : Nat) : Key := ⟨.L_WEAR_T, i, j, 0, 48⟩
/-- Those seconds as last committed to non-volatile cells (R462). -/
abbrev Lat.WEAR_C (i j : Nat) : Key := ⟨.L_WEAR_C, i, j, 0, 48⟩
/-- Seconds since the last hourly commit (R462). -/
abbrev Lat.WEAR_AGE : Key := ⟨.L_WEAR_AGE, 0, 0, 0, 12⟩
/-- DMA_FAULT has been raised for queue i since its entry was cleared (R442). -/
abbrev Lat.DMA_RAISED (i : Nat) : Key := ⟨.L_DMA_RAISED, i, 0, 0, 1⟩
/-- Queue i is in STOPPING and its descriptor in progress has not ended (R443). -/
abbrev Lat.DMA_ENDING (i : Nat) : Key := ⟨.L_DMA_ENDING, i, 0, 0, 1⟩

end Sys2Proof.Machine
end

