-- ==== Sys2Proof/Machine/State.lean ====
section
/-!
DEFINITION. The state of the TRX9640 as plain data, its value after reset, and the reasons a step can stop.
Every register field and every scalar latch is one entry of `fields` (Fields.lean names them); queues, loans, sequencer
contexts and memories have fields of their own.
-/
namespace Sys2Proof.Machine

/-- A rising producer edge on its way into one event channel (R308): producers 0 to 511, 512 for a host fire. -/
structure ChanEdge where
  ch : Nat
  prod : Nat
  origin : Option Nat
deriving DecidableEq, Repr

/-- A channel pulse whose agreed stamp is not yet known (R166, R167): the smallest origin tick so far, the earliest
tile stamp so far, whether one of the stamps carries UNREF, and the tiles that have stamped it with their stamps. -/
structure Pulse where
  ch : Nat
  formed : Nat
  origin : Option Nat
  stamp : Option Nat
  unref : Bool
  tiles : List (Nat × Nat)
deriving DecidableEq, Repr

/-- A task trigger (R316 to R318). `phase` is 0 when the synchroniser has captured the edge, 1 when it is delivered
and its block has not accepted it, 2 when it waits in the DEFER queue, 3 when its block has accepted it and waits
for its stamp. `direct` marks a trigger of EV_TASK_FIRE. -/
structure Trigger where
  task : Nat
  ch : Nat
  formed : Nat
  s : Option Nat
  unref : Bool
  direct : Bool
  phase : Nat
deriving DecidableEq, Repr

/-- What leaves the device. -/
inductive Output where
  /-- An MSI-X message of a PF's vector (R327). -/
  | msix (pf vec : Nat)
  /-- A PCI Express power management event of a PF (R332). -/
  | pme (pf : Nat)
  /-- The dword or bytes a host read returned. -/
  | hostRead (pf addr : Nat) (data : List Nat)
  /-- Bytes the device wrote to host memory by DMA or by the loader. -/
  | hostWrite (addr : Nat) (data : List Nat)
  /-- A PCI Express completion other than success: Unsupported Request or Completer Abort. -/
  | hostError (pf addr : Nat)
  /-- A message on a link: its kind and its words (R349). -/
  | link (l kind : Nat) (data : List Nat)
  /-- A pulse on an output pin: which pin, the tick of its rising edge and its width in ticks. -/
  | pin (pin tick width : Nat)
  /-- A request to a control core: its number and a code (doorbells, sequences of firmware). -/
  | core (c code : Nat)
  /-- The data a JTAG register shifts out. -/
  | tdo (data : Nat)
  /-- Bytes the loader writes to the boot flash from an offset up, which lies outside the device (R402). -/
  | flashWrite (ofs : Nat) (data : List (BitVec 8))
deriving DecidableEq, Repr

/-- A write posted to the slow domain and not yet in effect (R23, R24). -/
structure Posted where
  r : RName
  i : Nat
  j : Nat
  data : Nat
  w1 : Nat
deriving DecidableEq, Repr

/-- A loan of one reel on one card (R93, R94): the tick of the word in which it was taken, and whether it is in force (R96). -/
structure Loan where
  reel : Nat
  card : Nat
  taken : Nat
  inForce : Bool
deriving DecidableEq, Repr

/-- An event that a tile keeps for 64 words after its stamp (R167 to R169): channel, agreed stamp S, effective tick E,
UNREF. -/
structure Ev where
  ch : Nat
  s : Nat
  e : Nat
  unref : Bool
deriving DecidableEq, Repr

/-- A cue in a lookahead window as the engine read it (R141): index, its four dwords as one 128-bit value, the fault its
checks found (R138, R157; 0 none) and data noted with it: for a producing cue of a RAMP reel the coefficients of the
ramp entry read with it (R213), for a CUTIF that has executed the stack depths there (R175). -/
structure WinCue where
  q : Nat
  w : Nat
  fault : Nat
  data : List Nat
deriving DecidableEq, Repr

/-- A committed cut (R170): the armed cut's fields, E, S and UNREF of the event, the stack depths at its CUTIF, and what
fixes its cut tick: `kind` 1 the tick `x` itself, 2 the end of the next producing cue, 3 the end of an iteration of the
loop entry at depth `loop`, 4 the end of the first pass of the next producing cue, 5 the tick `x` at which that iteration
ends, 0 not yet known; 9 marks a taken cut whose target is late. -/
structure Commit where
  target : Nat
  mode : Nat
  keep : Bool
  s : Nat
  e : Nat
  unref : Bool
  loops : Nat
  calls : Nat
  kind : Nat
  x : Nat
  loop : Nat
deriving DecidableEq, Repr

/-- What one reel's engine holds beside its record. -/
structure Engine where
  reel : Nat
  /-- Lookahead window: the current cue first (R93). -/
  window : List WinCue := []
  /-- Target chains of the window, by target cue (R93). -/
  targets : List (Nat × List WinCue) := []
  /-- Zero-time cues whose effects wait for their anchor tick (R139). -/
  deferred : List WinCue := []
  /-- A producing cue is in progress. -/
  run : Bool := false
  /-- Its anchor tick has come and the actions there are done. -/
  started : Bool := false
  /-- The anchor tick of the current producing cue, or of the deferred cues. -/
  anchor : Nat := 0
  /-- First tick of the pass in progress and the length of a pass in ticks. -/
  passStart : Nat := 0
  passLen : Nat := 0
  /-- B of the current producing cue (R139). -/
  endB : Nat := 0
  /-- The last sample contributed, as v of R132; it stands until the next anchor (R128, R175). -/
  hold : Int := 0
  /-- B of the current wait, and its OUT (R146 to R149). -/
  waitB : Nat := 0
  waitOut : Nat := 0
  /-- Tick at which the reel entered ARMED, and STOPPING. -/
  armedAt : Nat := 0
  stopAt : Nat := 0
  /-- Anchor tick of the armed cut's CUTIF, the stack depths there, and the tick of the last cut taken (R170, R175). -/
  cutFrom : Nat := 0
  cutLoops : Nat := 0
  cutCalls : Nat := 0
  lastCut : Nat := 0
  /-- The committed cut, if any. -/
  commit : Option Commit := none
  /-- A CUTIF has executed since the commit (R171). -/
  recut : Bool := false
  /-- A late episode: t_m and cause (R189, R192). -/
  late : Option (Nat × Nat) := none
  /-- Recovery cut due at this tick (R193), and the tick until which lateness acts as ZERO. -/
  recAt : Option Nat := none
  guard : Nat := 0
  /-- A fault on its way: code and tick (R158). -/
  fault : Option (Nat × Nat) := none
  /-- Cut archive entry waiting for the anchor tick: SP before, commit, HEAD (R177). -/
  cutEntry : Option (Nat × Commit × Bool) := none
  /-- Call depth; the record holds the return cues alone (R144). -/
  callDepth : Nat := 0
  /-- The resampler step in force (R197). -/
  rstep : Nat := 0
  /-- Start tick of the chirp piece in progress (R200). -/
  piece : Option Nat := none
  /-- End of the sweep-table piece in progress, and the next entry once it has been read (R202). -/
  sweepEnd : Option Nat := none
  sweepEntry : Option Nat := none
  /-- Noise frames up to this one keep an older NSCALE, KURT and ACTIVE (R217). -/
  oldNoise : Option (Nat × Nat × Nat × Nat) := none
  /-- SP of the cue before the chain in progress, for the CUE entry (R344). -/
  chainFrom : Nat := 0
  /-- Ramp coefficients of the current cue (R212, R213). -/
  ramp : List Nat := []
  /-- Staged voice updates and the pending set, each kind with its value; the tick at which the pending set was
  committed (R216, R217). -/
  staged : List (Nat × Nat) := []
  pendingSet : List (Nat × Nat) := []
  pendingAt : Nat := 0
  /-- Pulses that FIRE cues have scheduled: cue-event producer and tick (R155). -/
  fires : List (Nat × Nat) := []
deriving DecidableEq, Repr

/-- A range request of a channel (R231 to R233): range, word-aligned tick (none for the next channel boundary), the
reel whose SET_RNG made it (none for the host), and the tick at which it was accepted. -/
structure RangeReq where
  ch : Nat
  range : Nat
  at_ : Option Nat
  reel : Option Nat
  asked : Nat
deriving DecidableEq, Repr

/-- The correction set in force for a channel in a range, with its tag (R376, R377). -/
structure CalInst where
  ch : Nat
  range : Nat
  tag : Nat
  set : CalSet
deriving DecidableEq, Repr

/-- A pending correction set (R376, R379): its origin, whether it is EXTRAPOLATED, whether it waits for the host's
decision, and the tick at which it became pending. -/
structure CalPend where
  ch : Nat
  range : Nat
  origin : Nat
  set : CalSet
  extrap : Bool
  waits : Bool
  asked : Nat
deriving DecidableEq, Repr

/-- A finished measurement of a channel in a range (R374, R375, R380): kind 0 offset, 1 gain, 2 INL, 3 skew; its result; the
load averaged over its words; whether an override is newer. -/
structure CalDelta where
  ch : Nat
  range : Nat
  kind : Nat
  vals : List Int
  pRec : Nat
  old : Bool
deriving DecidableEq, Repr

/-- The delay line of a channel's equaliser (R223): the sums of the last 64 ticks, newest first, each with the flag that y is
forced to 0 at its tick; and the sets that older outputs still use, each with the tick before which it does (R228). -/
structure Line where
  ch : Nat
  xs : List (Int × Bool)
  olds : List (Nat × CalSet)
deriving DecidableEq, Repr

/-- A measurement of a TIU in ARMED or RUN (R293 to R299). Stamps and intervals are in units of 2^-16 tick. -/
structure Meas where
  tiu : Nat
  t0 : Nat
  est : Bool
  stale : Bool
  unref : Bool := false
  /-- Start stamp of the interval in progress. -/
  opened : Option Nat := none
  /-- First start stamp (first stamp in frequency mode), last start stamp, last stop stamp (last stamp). -/
  first : Option Nat := none
  lastStart : Option Nat := none
  lastStop : Option Nat := none
  /-- Last stamp of line A and of line B (R292). -/
  lastA : Option Nat := none
  lastB : Option Nat := none
  /-- Complete intervals, or stamps; input edges since T0. -/
  n : Nat := 0
  edges : Nat := 0
  overrun : Nat := 0
  isum : Int := 0
  imin : Int := 0
  imax : Int := 0
  sumT : Nat := 0
  sumIT : Nat := 0
  /-- The gate ended with RATE (R298). -/
  rate : Bool := false
deriving DecidableEq, Repr

/-- A tap table that a code-density run completed while a measurement ran (R289): TIU, the 256 widths of lines A and B, the
offset of line B. -/
structure TapTable where
  tiu : Nat
  widths : List Nat
  offset : Int
deriving DecidableEq, Repr

/-- A capture of a pattern RX port (R250 to R253), armed or running. -/
structure Cap where
  port : Nat
  /-- The trigger tick, once known; whether the capture task gives it. -/
  trig : Option Nat
  byTask : Bool
  /-- Tick of the first sample, once triggered, and the samples that the pin delivers from there. -/
  start : Option Nat := none
  samples : List Nat := []
  len : Nat
  mode : Bool
  card : Nat
  /-- Samples taken, and written. -/
  taken : Nat := 0
  written : Nat := 0
  /-- Tick at which CAP_ABORT ends it. -/
  stopAt : Option Nat := none
  unref : Bool := false
  /-- Bits of the archive entry being filled: value, number, tick of the first sample (R252). -/
  acc : Nat := 0
  accBits : Nat := 0
  accTick : Nat := 0
  /-- Number of the last write beat that was dropped (R97). -/
  lostBeat : Option Nat := none
deriving DecidableEq, Repr

/-- A sample of a received SUM stream (R364): link, stream, first tick and number of ticks of its contribution, and d. -/
structure RxSample where
  link : Nat
  j : Nat
  start : Nat
  len : Nat
  d : Int
deriving DecidableEq, Repr

/-- A sample of a transmit stream that waits for a frame (R363): link, stream, grid tick, d, the COMMIT and SAT flags. -/
structure TxSample where
  link : Nat
  j : Nat
  at_ : Nat
  d : Int
  commit : Bool
  sat : Bool
deriving DecidableEq, Repr

/-- A DMA descriptor that has ended and waits for its writeback (R441): queue, status code, COUNT, its IRQ bit. -/
structure DmaDone where
  q : Nat
  status : Nat
  count : Nat
  irq : Bool
deriving DecidableEq, Repr

/-- Why a step stops. No command of this block stops it: every error the manual describes is state (a flag, a
refusal code, a ledger cause), so the one constructor is raised by no meaning; it keeps the type inhabited. Safe. -/
inductive Fault where
  | unreachable
deriving DecidableEq, Repr

/-- Why a command has no meaning. -/
inductive Refusal where
  /-- Raised by an arm of `exec` whose command has no meaning yet. Safe: nothing follows from it. -/
  | notModelled (mnemonic : String)
deriving DecidableEq, Repr

/-- The device. -/
structure State where
  /-- Device time, the 64-bit tick count (TB_TICK, R63). -/
  tick : Nat
  /-- Register fields and latches that something has written; every other one is at its reset value. -/
  fields : List (Key × Nat)
  /-- Segment memory, byte addresses 0 to 2^36 - 1 (R79); unlisted bytes are 0. -/
  mem : List Host.Cell
  /-- Scratchpads, BAR4 offsets 0 to 2^25 - 1 (R115), but for the reel records; unlisted bytes are 0. -/
  sp : List Host.Cell
  /-- Loans, one per reel and card. -/
  loans : List Loan
  /-- Sequencer contexts; a reel without an entry has the empty one. -/
  engines : List Engine
  /-- Events the tiles keep (R169). -/
  events : List Ev
  /-- Head slots: tile, card, filled (R183, R184). -/
  heads : List (Nat × Nat × Bool)
  /-- Range requests. -/
  ranges : List RangeReq
  /-- Captures of pattern RX ports. -/
  caps : List Cap
  /-- TIU measurements in progress, and tap tables that wait for the next ARM. -/
  measures : List Meas
  tables : List TapTable
  /-- Equaliser delay lines of the channels. -/
  lines : List Line
  /-- The factory calibration record in force, if one has been verified (R370). -/
  factory : Option CalRecord
  /-- Rows of accepted overrides, newest first (R381). -/
  ovrRows : List OvrRow
  /-- Finished measurements, newest first. -/
  deltas : List CalDelta
  /-- Correction sets in force, by channel and range. -/
  calSets : List CalInst
  /-- Pending correction sets. -/
  calPends : List CalPend
  /-- Received SUM samples, EVENT messages that wait on a link (link, m, S, UNREF), and transmit-stream samples that wait. -/
  rxs : List RxSample
  txq : List (Nat × Nat × Nat × Bool)
  txs : List TxSample
  /-- Boot transfer received over L0 and not yet read by a boot stage (R398). -/
  bootRx : List (BitVec 8)
  /-- Keys of the boundary (R410), as byte strings, empty when erased or absent: OWNER public, identity private, VENDOR public. -/
  ownerKey : List (BitVec 8)
  idKey : List (BitVec 8)
  vendorKey : List (BitVec 8)
  /-- DMA descriptors that have ended and wait for their writeback, oldest first (R441). -/
  dmaDone : List DmaDone
  /-- Bursts of 32 bytes that read as uncorrectable, by number; their bytes read 0 (R83). -/
  badBursts : List Nat
  /-- Host commits on their way to a slot: slot, PF, sequence number (R108, R109). -/
  offers : List (Nat × Nat × Nat)
  /-- Cached cards: tile and card (R92). -/
  cards : List (Nat × Nat)
  /-- Cards marked bad by an unusable list entry (R89). -/
  badCards : List Nat
  /-- Producer edges on their way into event channels. -/
  edges : List ChanEdge
  /-- Channel pulses without an agreed stamp. -/
  pulses : List Pulse
  /-- Task triggers. -/
  triggers : List Trigger
  /-- ALIGN pulses that are due: EVIO pin and tick (R321). -/
  alignDue : List (Nat × Nat)
  /-- Archive entries the writer has accepted and not yet written, oldest first, 8 dwords each (R342). -/
  arcBuf : List (List Nat)
  /-- Posted slow-domain writes, oldest first. -/
  posted : List Posted
  /-- What has left the device, newest first. -/
  out : List Output
  /-- Commands that wait, first in first out. -/
  pending : List Instr
  /-- The model's own: how many free values have been used. -/
  free : Nat
deriving DecidableEq, Repr

/-- The device right after AON power-on: every register at its reset value, memories all 0, nothing queued. -/
def State.reset : State where
  tick := 0
  fields := []
  mem := []
  sp := []
  loans := []
  engines := []
  badBursts := []
  offers := []
  events := []
  heads := []
  ranges := []
  caps := []
  measures := []
  tables := []
  lines := []
  factory := none
  ovrRows := []
  deltas := []
  calSets := []
  calPends := []
  rxs := []
  txq := []
  txs := []
  bootRx := []
  ownerKey := []
  idKey := []
  vendorKey := []
  dmaDone := []
  cards := []
  badCards := []
  edges := []
  pulses := []
  triggers := []
  alignDue := []
  arcBuf := []
  posted := []
  out := []
  pending := []
  free := 0

/-- What a meaning answers. -/
abbrev Res := Host.Outcome State Fault Refusal

end Sys2Proof.Machine
end

