-- ==== Sys2Proof/Machine/Ops.lean ====
section
/-!
DEFINITION. The named operations over the state: fields, memories, free values, the fault ledger, the archive,
event producers and interrupts' status. Every meaning is written over these.
-/
namespace Sys2Proof.Machine

/-! ### Register fields -/

/-- The stored value of a key, if something has written it. -/
def findField (k : Key) : List (Key × Nat) → Option Nat
  | [] => none
  | (k', v) :: l => if k' = k then some v else findField k l

/-- The value of a field: what was last written, else its reset value (R20), within its width. -/
def State.get (s : State) (k : Key) : Nat := ((findField k s.fields).getD (regReset k)) % 2 ^ k.w

/-- Write a field; bits beyond its width are dropped. -/
def State.set (s : State) (k : Key) (v : Nat) : State :=
  { s with fields := (k, v % 2 ^ k.w) :: s.fields.filter (fun p => p.1 ≠ k) }

/-- The field is 1 (its lowest bit is set). -/
def State.is (s : State) (k : Key) : Bool := s.get k == 1

/-- Set a one-bit field. -/
def State.flag (s : State) (k : Key) : State := s.set k 1

/-- Clear a field. -/
def State.clr (s : State) (k : Key) : State := s.set k 0

/-- Write a list of fields, in order. -/
def State.sets (s : State) : List (Key × Nat) → State
  | [] => s
  | (k, v) :: l => (s.set k v).sets l

/-- A saturating count in a field. -/
def State.bump (s : State) (k : Key) (n : Nat := 1) : State := s.set k (min (s.get k + n) (2 ^ k.w - 1))

/-- A count that wraps at the field's width. -/
def State.bumpWrap (s : State) (k : Key) (n : Nat := 1) : State := s.set k (s.get k + n)

/-- The signed value of a field. -/
def State.geti (s : State) (k : Key) : Int := sx k.w (s.get k)

/-- Write a signed value into a field. -/
def State.seti (s : State) (k : Key) (v : Int) : State := s.set k (ux k.w v)

/-- The value of a pair of low and high fields. -/
def State.get2 (s : State) (lo hi : Key) : Nat := s.get lo + s.get hi * 2 ^ lo.w

/-- Write a pair of low and high fields. -/
def State.set2 (s : State) (lo hi : Key) (v : Nat) : State := (s.set lo (v % 2 ^ lo.w)).set hi (v / 2 ^ lo.w)

/-- Write a value over dwords `j = first, first + 1, …` of a register whose dword keys are given. -/
def State.setDwords (s : State) (key : Nat → Key) : Nat → Nat → Nat → State
  | _, 0, _ => s
  | j, n + 1, v => (s.set (key j) (v % 2 ^ 32)).setDwords key (j + 1) n (v / 2 ^ 32)

/-- The value held in `n` dwords of a register. -/
def State.getDwords (s : State) (key : Nat → Key) : Nat → Nat → Nat
  | _, 0 => 0
  | j, n + 1 => s.get (key j) + s.getDwords key (j + 1) n * 2 ^ 32

/-- Set bit `b` of a bitmap spread over 32-bit dwords. -/
def State.setBit (s : State) (key : Nat → Key) (b : Nat) : State :=
  s.set (key (b / 32)) (s.get (key (b / 32)) ||| 1 <<< (b % 32))

/-- Clear bit `b` of a bitmap spread over 32-bit dwords. -/
def State.clrBit (s : State) (key : Nat → Key) (b : Nat) : State :=
  if (s.get (key (b / 32))).testBit (b % 32) then s.set (key (b / 32)) (s.get (key (b / 32)) - 1 <<< (b % 32)) else s

/-- Bit `b` of a bitmap spread over 32-bit dwords. -/
def State.bit (s : State) (key : Nat → Key) (b : Nat) : Bool := (s.get (key (b / 32))).testBit (b % 32)

/-- Apply a change when a condition holds. -/
def State.when (s : State) (c : Bool) (f : State → State) : State := if c then f s else s

/-- Apply a change for every member of a list, in order. -/
def State.each {α : Type} (s : State) (l : List α) (f : α → State → State) : State := l.foldl (fun a x => f x a) s

/-- The whole 32-bit word of a register, from its fields. -/
def State.word (s : State) (r : RName) (i j : Nat) : Nat :=
  (layout r j).foldl (fun a f => a + s.get ⟨r, i, j, f.lo, f.w⟩ * 2 ^ f.lo) 0

/-- Forget the written value of every key that satisfies `p`: those fields return to their reset values. -/
def State.resetKeys (s : State) (p : Key → Bool) : State :=
  { s with fields := s.fields.filter (fun q => !p q.1) }

/-- What leaves the device. -/
def State.emit (s : State) (o : Output) : State := { s with out := o :: s.out }

/-- A free value below `n`, and the counter it uses up. -/
def State.fresh (s : State) (n : Nat) : Nat × State :=
  ((Config.freeValue s.free).toNat % n, { s with free := s.free + 1 })

/-! ### Memories -/

/-- The byte at an address; an unlisted address reads 0. -/
def Memory.read : List Host.Cell → Nat → BitVec 8
  | [], _ => 0
  | (a, b) :: l, x => if a = x then b else Memory.read l x

/-- Write one byte, keeping addresses rising and listing no zero byte. -/
def Memory.write : List Host.Cell → Nat → BitVec 8 → List Host.Cell
  | [], x, v => if v = 0 then [] else [(x, v)]
  | (a, b) :: l, x, v =>
    if x < a then (if v = 0 then (a, b) :: l else (x, v) :: (a, b) :: l)
    else if x = a then (if v = 0 then l else (x, v) :: l)
    else (a, b) :: Memory.write l x v

/-- Write bytes at rising addresses. -/
def Memory.writes (m : List Host.Cell) (x : Nat) : List (BitVec 8) → List Host.Cell
  | [] => m
  | v :: l => Memory.writes (Memory.write m x v) (x + 1) l

/-- Read `n` bytes from an address up. -/
def Memory.reads (m : List Host.Cell) (x : Nat) : Nat → List (BitVec 8)
  | 0 => []
  | n + 1 => Memory.read m x :: Memory.reads m (x + 1) n

/-- Every address of the list lies above `lo` and no byte listed is 0. -/
def Memory.wfAbove (lo : Nat) : List Host.Cell → Bool
  | [] => true
  | (a, b) :: l => decide (lo ≤ a) && decide (b ≠ 0) && Memory.wfAbove (a + 1) l

/-- The canonical form: addresses strictly rising, no byte equal to what an unlisted address reads as. -/
def Memory.wf (m : List Host.Cell) : Bool := Memory.wfAbove 0 m

/-- The little-endian value of bytes (R18). -/
def leValue : List (BitVec 8) → Nat
  | [] => 0
  | b :: l => b.toNat + 256 * leValue l

/-- The `n` little-endian bytes of a value. -/
def leBytes : Nat → Nat → List (BitVec 8)
  | 0, _ => []
  | n + 1, v => BitVec.ofNat 8 v :: leBytes n (v / 256)

/-- A little-endian value of `n` bytes in segment memory. -/
def State.segLe (s : State) (a n : Nat) : Nat := leValue (Memory.reads s.mem a n)

/-- A little-endian value of `n` bytes in the scratchpads. -/
def State.spLe (s : State) (a n : Nat) : Nat := leValue (Memory.reads s.sp a n)

/-- Store bytes in segment memory. -/
def State.segStore (s : State) (a : Nat) (l : List (BitVec 8)) : State := { s with mem := Memory.writes s.mem a l }

/-- Store bytes in the scratchpads. -/
def State.spStore (s : State) (a : Nat) (l : List (BitVec 8)) : State := { s with sp := Memory.writes s.sp a l }

/-! ### Device time -/

/-- The tick, modulo 2^64. -/
def State.now (s : State) : Nat := s.tick

/-- The stamps and results taken now carry UNREF (R67). -/
def State.unref (s : State) : Bool := s.is Fld.TB_STATUS_UNREF

/-! ### Unit codes of the archive and affected-unit bitmaps of the ledger -/

/-- UNIT code of a block (R343). -/
def unitBlock (i : Nat) : Nat := i
/-- UNIT code of a reel. -/
def unitReel (r : Nat) : Nat := 0x400 + r
/-- UNIT code of a channel. -/
def unitChannel (n : Nat) : Nat := 0x800 + n
/-- UNIT code of a pattern port. -/
def unitPort (p : Nat) : Nat := 0x800 + 64 + p
/-- UNIT code of a link. -/
def unitLink (l : Nat) : Nat := 0x800 + 128 + l
/-- UNIT code of a TIU. -/
def unitTiu (k : Nat) : Nat := 0x800 + 160 + k
/-- UNIT code of a corrector group. -/
def unitGroup (g : Nat) : Nat := 0x800 + 192 + g
/-- UNIT code of a task. -/
def unitTask (k : Nat) : Nat := 0xC00 + k
/-- UNIT code of tile `t`. -/
def unitTile (t : Nat) : Nat := 16 + t
/-- UNIT code of the stack controller `s`. -/
def unitStack (k : Nat) : Nat := 8 + k
/-- UNIT code of converter die `d`. -/
def unitDie (d : Nat) : Nat := 24 + d

/-- MAP bits of a reel: dword of the bitmap and mask (R337). -/
def markReel (r : Nat) : List (Nat × Nat) := [(r / 32, 1 <<< (r % 32))]
/-- MAP bits of a channel. -/
def markChannel (n : Nat) : List (Nat × Nat) := [(32, 1 <<< n)]
/-- MAP bits of a port. -/
def markPort (p : Nat) : List (Nat × Nat) := [(33 + p / 32, 1 <<< (p % 32))]
/-- MAP bits of a link. -/
def markLink (l : Nat) : List (Nat × Nat) := [(34, 1 <<< (16 + l))]
/-- MAP bits of a tile: all its reels, channels, ports and links (R337, R4). -/
def markTile (t : Nat) : List (Nat × Nat) :=
  [(4 * t, 0xFFFFFFFF), (4 * t + 1, 0xFFFFFFFF), (4 * t + 2, 0xFFFFFFFF), (4 * t + 3, 0xFFFFFFFF), (32, 0xF <<< (4 * t))]
    ++ (List.range 6).flatMap (fun k => markPort (6 * t + k)) ++ markLink (2 * t) ++ markLink (2 * t + 1)
/-- MAP bits of a converter die: its four channels. -/
def markDie (d : Nat) : List (Nat × Nat) := [(32, 0xF <<< (4 * d))]

/-! ### Archive (R340 to R344) -/

/-- One archive entry: type, CONT, UNREF, EST, FX, UNIT, tick, fraction and four payload dwords. -/
def archiveEntry (type : Nat) (cont unref est fx : Bool) (unit tick frac : Nat) (p : List Nat) : List Nat :=
  [type + cont.toNat * 2 ^ 8 + unref.toNat * 2 ^ 9 + est.toNat * 2 ^ 10 + fx.toNat * 2 ^ 11 + unit % 2 ^ 12 * 2 ^ 16,
   frac, lo32 tick, hi32 tick, lo32 (p.getD 0 0), lo32 (p.getD 1 0), lo32 (p.getD 2 0), lo32 (p.getD 3 0)]

/-- The archive writer accepts an entry, or drops it when the buffer of 1,024 is full (R342). -/
def State.accept (s : State) (e : List Nat) : State :=
  if s.arcBuf.length < 1024 then { s with arcBuf := s.arcBuf ++ [e] }
  else (s.bump Fld.IC_ARC_LOST).flag Fld.IC_ARC_EVT_BUF_OVF

/-- Archive an entry of one record at a tick, with the UNREF flag of the time base (R343). -/
def State.archive (s : State) (type unit tick : Nat) (p : List Nat) (fx : Bool := false) : State :=
  s.accept (archiveEntry type false s.unref false fx unit tick 0 p)

/-! ### Fault ledger (R334 to R337) -/

/-- OR unit bits into the affected-unit bitmap of a cause. -/
def State.mark (s : State) (k : Nat) (m : List (Nat × Nat)) : State :=
  s.each m (fun p a => a.set (Fld.LDG_MAP k p.1) (a.get (Fld.LDG_MAP k p.1) ||| p.2))

/-- Raise cause `k` at a unit, with a detail and the units named (R335). -/
def State.raise (s : State) (k unit detail : Nat) (m : List (Nat × Nat)) : State :=
  if s.is (Fld.LDG_ACTIVE k) then
    ((s.bump (Fld.LDG_COUNT k)).set2 (Fld.LDG_LAST_LO k) (Fld.LDG_LAST_HI k) s.now
      |>.when (k == 8 || k == 21 || k == 22) (fun a => a.set (Fld.LDG_DETAIL k) (a.get (Fld.LDG_DETAIL k) ||| detail))).mark k m
  else
    (s.sets [(Fld.LDG_ACTIVE k, 1), (Fld.LDG_NOTIFY k, 1), (Fld.LDG_COUNT k, 1), (Fld.LDG_DETAIL k, detail), (Fld.LDG_RAISED_AT k, unit)]
      |>.set2 (Fld.LDG_FIRST_LO k) (Fld.LDG_FIRST_HI k) s.now
      |>.set2 (Fld.LDG_LAST_LO k) (Fld.LDG_LAST_HI k) s.now
      |>.mark k m).archive 5 unit s.now [k, detail, 1]

/-- Raise a cause once: nothing happens while its entry is ACTIVE ("raised once", R334), except that the units
are marked. -/
def State.raiseOnce (s : State) (k unit detail : Nat) (m : List (Nat × Nat)) : State :=
  if s.is (Fld.LDG_ACTIVE k) then s.mark k m else s.raise k unit detail m

/-- Report a fault of a dependent unit: folded into the resource's entry `res` while that is ACTIVE, else raised under
its own cause (R336). -/
def State.report (s : State) (res k unit detail : Nat) (m : List (Nat × Nat)) : State :=
  if s.is (Fld.LDG_ACTIVE res) then s.mark res m else s.raise k unit detail m

/-- The condition of a persisting cause appears or goes (the PERSIST bit, R334). -/
def State.persist (s : State) (k : Nat) (b : Bool) : State := s.set (Fld.LDG_PERSIST k) b.toNat

/-- FAULT_N is low: boot has not reached READY, reading-room mode, or an ACTIVE entry is enabled (R339). -/
def State.faultLow (s : State) : Bool :=
  !s.is Lat.BOOT_READY || s.is Fld.AON_BOOT_STATUS_READING_ROOM ||
    (List.range 64).any (fun k => s.is (Fld.LDG_ACTIVE k) &&
      (s.get2 Fld.IC_FAULTN_EN_LO Fld.IC_FAULTN_EN_HI).testBit k)

/-! ### Event producers (R304 to R309) -/

/-- Producers that never pulse (R304, R305). -/
def producerReserved (p : Nat) : Bool := (p < 256 && p % 32 == 31) || p == 403 || (464 ≤ p && p < 512) || 512 < p

/-- The channels onto which the matrix array enables a producer (R306). -/
def State.channelsOf (s : State) (p : Nat) : List Nat :=
  (List.range 128).filter (fun c => (s.get (Fld.EV_MATRIX_EN p (c / 32))).testBit (c % 32))

/-- The power state of the device is DEEP_SLEEP (R406). -/
def State.asleep (s : State) : Bool := s.get Fld.AON_PWR_STATUS_STATE == 3

/-! ### Host accesses (R401, R405, R432) -/

/-- PF `pf` may write the SYS, AON, TB and SEC blocks and the matrix array (R432). -/
def State.privileged (s : State) (pf : Nat) : Bool := pf == 0 || s.is (Fld.SYS_PF_CFG_PRIV pf)

/-- A host write outside the AON block: dropped with SLEEP_ACCESS in DEEP_SLEEP, without effect in reading-room mode (R401,
R405). -/
def State.onHost (s : State) (f : State → State) : State :=
  if s.asleep then s.flag Fld.AON_PWR_EVT_SLEEP_ACCESS
  else if s.get Fld.AON_PWR_STATUS_STATE = 5 then s
  else f s

/-- A privileged write to the AON block: what it does, or the dropped write of an unprivileged PF (R432). -/
def State.asPrivAon (s : State) (pf : Nat) (f : State → State) : State :=
  if s.privileged pf then f s else s.flag Fld.SYS_HIF_EVT_PRIV_DENIED

/-- A privileged write to the SYS, TB or SEC block or the matrix array. -/
def State.asPriv (s : State) (pf : Nat) (f : State → State) : State := s.onHost (fun a => a.asPrivAon pf f)

/-- Post a write of a slow-domain register; a write posted to the same register before it is merged into that one: the later
value stands, at the earlier one's place (R23, R24). -/
def State.post (s : State) (r : RName) (i j v : Nat) : State :=
  let v := v % 2 ^ 32
  if s.posted.any (fun p => p.r == r && p.i == i && p.j == j) then
    { s with posted := s.posted.map (fun (p : Posted) => if p.r == r && p.i == i && p.j == j then { p with data := v } else p) }
  else { s with posted := s.posted ++ [(⟨r, i, j, v, 0⟩ : Posted)] }

/-! ### Pulses and groups -/

/-- A producer pulses: its edge travels into every channel it is enabled onto. In DEEP_SLEEP only EVIO inputs can
pulse (R313). -/
def State.pulse (s : State) (p : Nat) (origin : Option Nat) : State :=
  if producerReserved p || (s.asleep && !(256 ≤ p && p < 272)) then s
  else { s with edges := s.edges ++ (s.channelsOf p).map (fun c => ⟨c, p, origin⟩) }

/-- The group of an event channel (R310, EV_GRP_MAP). -/
def State.groupOf (s : State) (c : Nat) : Nat := bitsOf (s.get (Fld.EV_GRP_MAP (c / 8))) (4 * (c % 8)) 4

/-- The group of an event channel is enabled (R311). -/
def State.groupOn (s : State) (c : Nat) : Bool := (s.get Fld.EV_GRP_EN_EN).testBit (s.groupOf c)

/-- Disable an event group; its channels' loop counts stay at 0 while it is disabled (R311, R314). -/
def State.groupOff (s : State) (g : Nat) : State :=
  let s1 := if (s.get Fld.EV_GRP_EN_EN).testBit g then s.set Fld.EV_GRP_EN_EN (s.get Fld.EV_GRP_EN_EN - 1 <<< g) else s
  s1.each ((List.range 128).filter (fun c => s1.groupOf c == g)) (fun c a => a.clr (Lat.EVC_LOOPS c))

/-- Enable an event group. -/
def State.groupEnable (s : State) (g : Nat) : State := s.set Fld.EV_GRP_EN_EN (s.get Fld.EV_GRP_EN_EN ||| 1 <<< g)

end Sys2Proof.Machine
end

