-- ==== Sys2Proof/Machine/Events.lean ====
section
/-!
DEFINITION. The event matrix: channel pulses, groups, host fires, the loop detector, task inputs, timers,
thresholds and EVIO pins (R304 to R323).
-/
namespace Sys2Proof.Machine

/-- Task IDs that are allocated (R315). -/
def taskExists (k : Nat) : Bool := k < 240 || (256 ≤ k && k < 640)

/-- Tasks whose EVC is channel `c` and that are enabled. -/
def State.tasksOn (s : State) (c : Nat) : List Nat :=
  ((s.fields.filter (fun p => p.1.r == .EV_TASK_CFG && p.1.lo == 31 && p.2 == 1)).map (fun p => p.1.i)).filter
    (fun k => taskExists k && s.get (Fld.EV_TASK_CFG_EVC k) == c)

/-- An EVIO pin exists on its own: the odd pin of an LVDS pair does not (R321). -/
def State.evioUsable (s : State) (n : Nat) : Bool := !(n % 2 == 1 && (s.get Fld.EV_EVIO_PAIR_LVDS).testBit (n / 2))

/-- The loop detector counts a pulse of channel `c` (R314): the window is 8,000 words. At 1,024 the channel's group is
disabled, the channel is reported and EV_LOOP raised. -/
def State.countLoop (s : State) (c : Nat) : State :=
  let n := s.get (Lat.EVC_LOOPS c)
  let s1 := if n = 0 then (s.set (Lat.EVC_LOOPS c) 1).set (Lat.EVC_LOOP_END c) (s.now + 64000)
            else s.set (Lat.EVC_LOOPS c) (n + 1)
  if n + 1 = 1024 then
    (((s1.setBit Fld.EV_LOOP_STAT c).flag Fld.EV_EVT_LOOP).raise 26 (unitBlock 3) c []).groupOff (s.groupOf c)
  else s1

/-- What a formed pulse of channel `c` reaches at once (R308, R313, R316, R321, R323): in DEEP_SLEEP only the DIRECT pins
and EV_SLEEP_SEEN; otherwise the receivers, the enabled tasks, and the interrupt status as well. -/
def State.spread (s : State) (c : Nat) (origin : Option Nat) : State :=
  let s1 := s.each ((List.range 16).filter (fun n => s.evioUsable n && s.is (Fld.EV_EVIO_CFG_DIR n) &&
      !s.is (Fld.EV_EVIO_CFG_MODE n) && s.get (Fld.EV_EVIO_CFG_EVC n) == c)) (fun n a => a.flag (Lat.EVIO_OUT n))
  if s.asleep then s1.setBit Fld.EV_SLEEP_SEEN c
  else
    let s2 := s1.each ((List.range 32).filter (fun i => s.is (Fld.EV_IRQ_SEL_EN i) && s.get (Fld.EV_IRQ_SEL_EVC i) == c))
      (fun i a => a.set (Fld.IC_EVC_STAT) (a.get (Fld.IC_EVC_STAT) ||| 1 <<< i))
    { s2 with
      pulses := s2.pulses ++ [⟨c, s.now, origin, none, s.unref, []⟩]
      triggers := s2.triggers ++ (s.tasksOn c).map (fun k => ⟨k, c, s.now, none, s.unref, false, 0⟩) }

/-- The smaller of two optional ticks. -/
def minTick : Option Nat → Option Nat → Option Nat
  | some a, some b => some (min a b)
  | some a, none => some a
  | none, b => b

/-- Replace the first element that satisfies `p`. -/
def replaceFirst {α : Type} (p : α → Bool) (f : α → α) : List α → List α
  | [] => []
  | a :: l => if p a then f a :: l else a :: replaceFirst p f l

/-- Remove the first element that satisfies `p`. -/
def removeFirst {α : Type} (p : α → Bool) : List α → List α
  | [] => []
  | a :: l => if p a then l else a :: removeFirst p l

/-- CHANNEL_PULSE: the oldest edge on its way into channel `c` arrives. On an idle channel of an enabled group it forms
the channel's pulse and counts in the loop detector; during the pulse or lockout it coalesces, its origin tick
counting for the agreed stamp (R308, R309); in a disabled group it is ignored (R311). -/
def execChannelPulse (c : Fin 128) (s : State) : Res :=
  .next <|
    match s.edges.find? (fun e => e.ch == (c : Nat)) with
    | none => s
    | some e =>
      let s1 := { s with edges := removeFirst (fun e => e.ch == (c : Nat)) s.edges }
      if s.is (Lat.EVC_BUSY c) then
        { s1 with pulses := (replaceFirst (fun p => p.ch == (c : Nat)) (fun p => { p with origin := minTick p.origin e.origin }) s1.pulses.reverse).reverse }
      else if s.groupOn c then (((s1.flag (Lat.EVC_BUSY c)).spread c e.origin).countLoop c) else s1

/-- CHANNEL_LOCKOUT_END: the lockout expires, the channel is idle and its DIRECT pins fall (R308, R321). -/
def execChannelLockoutEnd (c : Fin 128) (s : State) : Res :=
  .next ((s.clr (Lat.EVC_BUSY c)).each ((List.range 16).filter (fun n => s.is (Fld.EV_EVIO_CFG_DIR n) &&
    !s.is (Fld.EV_EVIO_CFG_MODE n) && s.get (Fld.EV_EVIO_CFG_EVC n) == (c : Nat))) (fun n a => a.clr (Lat.EVIO_OUT n)))

/-- LOOP_WINDOW_END: the loop-count window of channel `c` ends and its count returns to 0 (R314). -/
def execLoopWindowEnd (c : Fin 128) (s : State) : Res :=
  .next (s.when (s.get (Lat.EVC_LOOP_END c) ≤ s.now || s.asleep) (fun a => a.clr (Lat.EVC_LOOPS c)))

/-- MATRIX_WRITE: a write of one word of the matrix array takes effect (R306, R307); it needs privilege (R432). -/
def execMatrixWrite (pf : Fin 4) (p : Fin 512) (w : Fin 4) (v : Nat) (s : State) : Res :=
  .next (s.asPriv pf (fun a => a.set (Fld.EV_MATRIX_EN p w) v))

/-- GROUP_ENABLE_WRITE: a host write of EV_GRP_EN (R311). -/
def execGroupEnableWrite (v : Nat) (s : State) : Res :=
  .next (s.onHost fun s => ((s.set Fld.EV_GRP_EN_EN v).each ((List.range 16).filter (fun g => !v.testBit g)) (fun g a => a.groupOff g)))

/-- HOST_FIRE: a write of EV_FIRE[w] (R312). Each channel fired has its loop count cleared; the fire enters the channel's
OR, or is gated in a disabled group. -/
def execHostFire (w : Fin 4) (v : Nat) (s : State) : Res :=
  .next (s.onHost fun s => (s.each ((List.range 32).filter (fun j => v.testBit j)) (fun j a =>
    let c := 32 * (w : Nat) + j
    let a1 := a.clr (Lat.EVC_LOOPS c)
    if a.groupOn c then { a1 with edges := a1.edges ++ [⟨c, 512, none⟩] } else a1.flag Fld.EV_EVT_FIRE_GATED)))

/-! ### Tasks -/

/-- A task has a trigger its block has not accepted (R318). -/
def State.taskBusy (s : State) (k : Nat) : Bool := s.triggers.any (fun g => g.task == k && g.phase == 1)

/-- How many triggers of a task wait in its DEFER queue. -/
def State.taskDepth (s : State) (k : Nat) : Nat := (s.triggers.filter (fun g => g.task == k && g.phase == 2)).length

/-- Deliver a trigger to its task: to its block when the task is not busy, else merged or deferred as POL says (R318). -/
def State.deliver (s : State) (g : Trigger) : State :=
  let k := g.task
  if !s.taskBusy k then { s with triggers := s.triggers ++ [{ g with phase := 1 }] }
  else if !s.is (Fld.EV_TASK_CFG_POL k) then
    let s1 := { s with triggers := replaceFirst (fun h => h.task == k && h.phase == 1) (fun h => { h with s := minTick h.s g.s, ch := if h.direct then g.ch else h.ch, formed := if h.direct then g.formed else h.formed }) s.triggers }
    ((s1.bump (Fld.EV_TASK_STAT_COINC_CNT k)).flag (Fld.EV_TASK_STAT_COINC k)).flag Fld.EV_EVT_TASK_COINC
  else if s.taskDepth k < 4 then
    ({ s with triggers := s.triggers ++ [{ g with phase := 2 }] }).set (Fld.EV_TASK_STAT_DEPTH k) (s.taskDepth k + 1)
  else ((s.bump (Fld.EV_TASK_STAT_OVF_CNT k)).flag (Fld.EV_TASK_STAT_OVF k)).flag Fld.EV_EVT_TASK_OVF

/-- TASK_CFG_WRITE: a write of EV_TASK_CFG[k]; EN = 0 discards what its DEFER queue holds (R316, R318). -/
def execTaskCfgWrite (k : Fin 768) (v : Nat) (s : State) : Res :=
  .next <| s.onHost fun s =>
    if taskExists k then
      let s1 := s.sets [(Fld.EV_TASK_CFG_EN k, bitsOf v 31 1), (Fld.EV_TASK_CFG_POL k, bitsOf v 30 1), (Fld.EV_TASK_CFG_EVC k, bitsOf v 0 7)]
      if v.testBit 31 then s1
      else ({ s1 with triggers := s1.triggers.filter (fun g => !(g.task == (k : Nat) && g.phase == 2)) }).clr (Fld.EV_TASK_STAT_DEPTH k)
    else s

/-- TASK_TRIGGER: task `k`'s synchroniser delivers the oldest edge it has captured (R316). -/
def execTaskTrigger (k : Fin 768) (s : State) : Res :=
  .next <|
    match s.triggers.find? (fun g => g.task == (k : Nat) && g.phase == 0) with
    | none => s
    | some g => ({ s with triggers := removeFirst (fun g => g.task == (k : Nat) && g.phase == 0) s.triggers }).deliver g

/-- TASK_FIRE: a write of EV_TASK_FIRE triggers the task it names, with S the first word boundary at or after the
cycle after the write; a reserved or disabled task gives TASK_GATED (R317). -/
def execTaskFire (v : Nat) (s : State) : Res :=
  let k := v % 2 ^ 10
  let s1 := s.set Fld.EV_TASK_FIRE_TASK k
  .next <| s.onHost fun s =>
    if k < 768 && taskExists k && s.is (Fld.EV_TASK_CFG_EN k) then
      s1.deliver ⟨k, 0, s.now, some (wordUp (s.now + 8)), s.unref, true, 1⟩
    else s1.flag Fld.EV_EVT_TASK_GATED

/-- TASK_DEFER_DELIVER: the oldest deferred trigger is delivered once the task is not busy (R318). -/
def execTaskDeferDeliver (k : Fin 768) (s : State) : Res :=
  .next <|
    if s.taskBusy k || s.taskDepth k == 0 then s
    else ({ s with triggers := replaceFirst (fun g => g.task == (k : Nat) && g.phase == 2) (fun g => { g with phase := 1 }) s.triggers }).set
      (Fld.EV_TASK_STAT_DEPTH k) (s.taskDepth k - 1)

/-- TASK_CNT_CLR: every COINC_CNT and OVF_CNT becomes 0 (R318). -/
def execTaskCntClr (s : State) : Res :=
  .next (s.onHost fun s => (s.resetKeys (fun q => q.r == .EV_TASK_STAT && (q.lo == 0 || q.lo == 12))))

/-- The block of task `k` accepts its trigger: the trigger it acts on now, and the state without it. A task that acts at
a tick waits for its stamp and is not busy meanwhile (R316, R318). -/
def State.acceptTask (s : State) (k : Nat) (needsS : Bool) : Option Trigger × State :=
  match s.triggers.find? (fun g => g.task == k && (g.phase == 1 || g.phase == 3) && (!needsS || g.s.isSome)) with
  | some g => (some g, { s with triggers := removeFirst (fun h => h == g) s.triggers })
  | none => (none, { s with triggers := replaceFirst (fun g => g.task == k && g.phase == 1) (fun g => { g with phase := 3 }) s.triggers })

/-- Run a task's action when its block has a trigger to act on. -/
def State.onTask (s : State) (k : Nat) (needsS : Bool) (f : Trigger → State → State) : State :=
  match s.acceptTask k needsS with
  | (some g, a) => f g a
  | (none, a) => a

/-- GROUP_ENABLE_TASK: task 168 + g enables event group `g` (R311, R315). -/
def execGroupEnableTask (g : Fin 16) (s : State) : Res := .next (s.onTask (168 + g) false (fun _ a => a.groupEnable g))

/-- GROUP_DISABLE_TASK: task 184 + g disables event group `g` (R311, R315). -/
def execGroupDisableTask (g : Fin 16) (s : State) : Res := .next (s.onTask (184 + g) false (fun _ a => a.groupOff g))

/-- ARCHIVE_LOG_TASK: task 232 + k writes one EVENT entry stamped S: its channel, or channel 0 with FX = 1 for a direct
fire (R315, R344). -/
def execArchiveLogTask (k : Fin 8) (s : State) : Res :=
  .next (s.onTask (232 + k) true (fun g a =>
    a.accept (archiveEntry 8 false g.unref false g.direct (unitTask (232 + k)) (g.s.getD 0) 0 [if g.direct then 0 else g.ch])))

/-- DOORBELL: task 384 + 32c + b signals bit `b` to control core `c` (R315). -/
def execDoorbell (c : Fin 8) (b : Fin 32) (s : State) : Res :=
  .next (s.onTask (384 + 32 * c + b) false (fun _ a =>
    (a.set (Lat.DOORBELL c) (a.get (Lat.DOORBELL c) ||| 1 <<< (b : Nat))).emit (.core c b)))

/-- CC_PRODUCER_PULSE: control core firmware pulses producer 32t + 30 (R304); a halted core runs none (R31). -/
def execCcProducerPulse (t : Fin 8) (s : State) : Res :=
  .next (if s.is (Lat.CC_HALTED t) then s else s.pulse (32 * t + 30) none)

/-! ### Timers, thresholds and pins -/

/-- The first tick at or after `w` on the grid of period `p` and offset `o`. -/
def gridFrom (w p o : Nat) : Nat := if p = 0 then w else w + (((o : Int) - (w : Int)) % (p : Int)).toNat

/-- The period of EPOCH_OUTn in force, or none when its configuration breaks the rules (R74). -/
def State.epochPeriod (s : State) (n : Nat) : Option Nat :=
  let p := if s.get (Fld.TB_EPOCH_CFG_MODE n) = 0 then 2 ^ s.get (Fld.TB_EPOCH_CFG_K n) else s.get2 (Fld.TB_EPOCH_PER_LO n) (Fld.TB_EPOCH_PER_HI n)
  let ok := match s.get (Fld.TB_EPOCH_CFG_MODE n) with
    | 0 => decide (3 ≤ s.get (Fld.TB_EPOCH_CFG_K n) ∧ s.get (Fld.TB_EPOCH_CFG_K n) ≤ 48)
    | 1 => decide (16 ≤ p)
    | _ => false
  if ok && s.get (Fld.TB_EPOCH_OFS n) < p then some p else none

/-- Arm timer `k` as its configuration says, from word boundary `w` (R319). -/
def State.timerArm (s : State) (k w : Nat) : State :=
  let per := s.get2 (Fld.EV_TMR_PER_LO k) (Fld.EV_TMR_PER_HI k)
  let ofs := s.get2 (Fld.EV_TMR_OFS_LO k) (Fld.EV_TMR_OFS_HI k)
  if !s.is (Fld.EV_TMR_CFG_EN k) then s.clr (Lat.TMR_RUN k)
  else if s.is (Fld.EV_TMR_CFG_MODE k) then
    if ofs < w then ((s.clr (Fld.EV_TMR_CFG_EN k)).clr (Lat.TMR_RUN k)).flag Fld.EV_EVT_TMR_LATE
    else (s.set (Lat.TMR_NEXT k) ofs).flag (Lat.TMR_RUN k)
  else if per % 8 = 0 ∧ 64 ≤ per then (s.set (Lat.TMR_NEXT k) (gridFrom w per ofs)).flag (Lat.TMR_RUN k)
  else (s.clr (Lat.TMR_RUN k)).flag Fld.EV_EVT_TMR_LATE

/-- TIMER_CFG_WRITE: a write of EV_TMR_CFG[k] (R319). -/
def execTimerCfgWrite (k : Fin 16) (cfg : Nat) (s : State) : Res :=
  .next (s.onHost fun s => ((s.sets [(Fld.EV_TMR_CFG_EN k, bitsOf cfg 31 1), (Fld.EV_TMR_CFG_MODE k, bitsOf cfg 30 1)]).timerArm k (wordNext s.now)))

/-- TIMER_FIRE: timer `k` reaches its tick and pulses producer 404 + k with that origin; a one-shot timer clears EN,
a periodic one goes to its next grid tick (R319). -/
def execTimerFire (k : Fin 16) (s : State) : Res :=
  let t := s.get (Lat.TMR_NEXT k)
  .next <|
    if s.is (Lat.TMR_RUN k) && t ≤ s.now && !s.asleep then
      let s1 := s.pulse (404 + k) (some t)
      if s.is (Fld.EV_TMR_CFG_MODE k) then (s1.clr (Fld.EV_TMR_CFG_EN k)).clr (Lat.TMR_RUN k)
      else s1.set (Lat.TMR_NEXT k) (t + s.get2 (Fld.EV_TMR_PER_LO k) (Fld.EV_TMR_PER_HI k))
    else s

/-- THRESHOLD_CROSS: threshold `k` compares its signal, in units of 2^-8 code: the sum of its analog channel, or the
sample of its corrector input that the command carries (R320). -/
def execThresholdCross (k : Fin 32) (signal : Int) (s : State) : Res :=
  let x := if s.is (Fld.EV_THR_CFG_SRC_KIND k) then signal else s.geti (Lat.CH_SUM (s.get (Fld.EV_THR_CFG_SRC k)))
  let level := s.geti (Fld.EV_THR_LVL_LEVEL k)
  let hyst : Int := s.get (Fld.EV_THR_LVL_HYST k)
  let was := s.is (Lat.THR_ABOVE k)
  let above : Bool := if was then !decide (x < (level - hyst) * 256) else decide (level * 256 ≤ x)
  let dir := s.get (Fld.EV_THR_CFG_DIR k)
  let wanted := (above && dir != 1) || (!above && dir != 0)
  .next <|
    if s.is (Fld.EV_THR_CFG_EN k) && above != was then
      let s1 := s.set (Lat.THR_ABOVE k) above.toNat
      if wanted && s.get (Lat.THR_WORD k) != s.now / 8 + 1 then (s1.set (Lat.THR_WORD k) (s.now / 8 + 1)).pulse (420 + k) (some s.now)
      else s1
    else s

/-- EVIO_INPUT_EDGE: the level of EVIO pin `n` changes; the edge its configuration selects pulses producer 256 + n
(R321). -/
def execEvioInputEdge (n : Fin 16) (high : Bool) (s : State) : Res :=
  let s1 := s.set (Lat.EVIO_IN n) high.toNat
  .next (s1.when (s.is (Lat.EVIO_IN n) != high && s.evioUsable n && !s.is (Fld.EV_EVIO_CFG_DIR n) && high != s.is (Fld.EV_EVIO_CFG_FALL n))
    (fun a => a.pulse (256 + n) none))

/-- The count stands still in a REANCHOR stop (R69, R70). -/
def State.countHeld (s : State) : Bool := s.is Lat.TB_HELD

/-- EVIO_ALIGN_PULSE: a due ALIGN pulse of pin `n` drives it high for WIDTH ticks (at least 8); in DEEP_SLEEP and during a
REANCHOR stop the pin is held low (R321). -/
def execEvioAlignPulse (n : Fin 16) (s : State) : Res :=
  .next <|
    match s.alignDue.find? (fun p => p.1 == (n : Nat) && p.2 ≤ s.now) with
    | none => s
    | some p =>
      let s1 := { s with alignDue := removeFirst (fun q => q == p) s.alignDue }
      if s.asleep || s.countHeld || !s.is (Fld.EV_EVIO_CFG_DIR n) || !s.is (Fld.EV_EVIO_CFG_MODE n) then s1
      else
        let w := max 8 (s.get (Fld.EV_EVIO_CFG_WIDTH n))
        ((s1.flag (Lat.EVIO_OUT n)).set (Lat.EVIO_FALL_AT n) (p.2 + w)).emit (.pin n p.2 w)

end Sys2Proof.Machine
end

