-- ==== Sys2Proof/Machine/Parks.lean ====
section
/-!
DEFINITION. Park reasons of channels and ports (R237 to R239, R246), and the state codes the other blocks share.
-/
namespace Sys2Proof.Machine

/-- Park reason bits of R237. -/
def pkBoot : Nat := 0
def pkSoft : Nat := 1
def pkRefloss : Nat := 2
def pkThermBook : Nat := 3
def pkParkN : Nat := 4
def pkTrip : Nat := 5
def pkFault : Nat := 6
def pkSupply : Nat := 7
def pkExtest : Nat := 8
def pkReading : Nat := 9
def pkReanchor : Nat := 10

/-- The hard reasons as a mask (R237). -/
def hardMask : Nat := 0x7F1

/-- A value with bit `b` set or cleared. -/
def putBit (v b : Nat) (on : Bool) : Nat := if on then v ||| 1 <<< b else if v.testBit b then v - 1 <<< b else v

/-- CH_STATUS.HARD follows the state of channel `n` (R234, R235, R238): hard park is engaged in POWERING and PARKING, and in
PARKED while a hard reason is set. -/
def State.hardStatus (s : State) (n : Nat) : State :=
  let st := s.get (Fld.CH_STATUS_STATE n)
  s.set (Fld.CH_STATUS_HARD n) (if st = 1 ∨ st = 4 ∨ (st = 2 ∧ s.get (Fld.CH_PARK_SRC_REASON n) &&& hardMask ≠ 0) then 1 else 0)

/-- Channel `n` enters a state of R234. -/
def State.chEnter (s : State) (n st : Nat) : State := (s.set (Fld.CH_STATUS_STATE n) st).hardStatus n

/-- Set or clear a park reason of channel `n`. A hard reason parks an ACTIVE channel at once, a soft one at the next word
boundary (R235, R237, R238). -/
def State.chPark (s : State) (n b : Nat) (on : Bool) : State :=
  let old := s.get (Fld.CH_PARK_SRC_REASON n)
  if old.testBit b = on then s
  else
    let v := putBit old b on
    let s1 := (s.sets [(Fld.CH_PARK_SRC_REASON n, v), (Fld.CH_EVT_PARK_CHG n, 1)])
    (s1.when (on && (hardMask.testBit b) && s.get (Fld.CH_STATUS_STATE n) == 3) (fun a => a.set (Fld.CH_STATUS_STATE n) 2)).hardStatus n

/-- Port `p` transmits: its personality is pattern TX (0) or JESD204C TX (2) (R242). -/
def State.portTx (s : State) (p : Nat) : Bool := s.get (Fld.PP_CFG_PERS p) == 0 || s.get (Fld.PP_CFG_PERS p) == 2

/-- Set or clear a park reason of port `p`; a port has no REANCHOR reason, and a receiving port keeps only EXTEST and
READING_ROOM (R246). -/
def State.ppPark (s : State) (p b : Nat) (on : Bool) : State :=
  let old := s.get (Fld.PP_PARK_SRC_REASON p)
  if old.testBit b = on || b = pkReanchor || !(s.portTx p || b == pkExtest || b == pkReading || (b == pkBoot && !on)) then s
  else s.sets [(Fld.PP_PARK_SRC_REASON p, putBit old b on), (Fld.PP_EVT_PARK_CHG p, 1)]

/-- The park reasons that hold port `p`: all of them on a transmitting port, EXTEST and READING_ROOM on a receiving one
(R246). -/
def State.ppReasons (s : State) (p : Nat) : Nat :=
  if s.portTx p then s.get (Fld.PP_PARK_SRC_REASON p) else s.get (Fld.PP_PARK_SRC_REASON p) &&& (1 <<< pkExtest ||| 1 <<< pkReading)

/-- A write or command that would need an item outside the loaded structure is ignored and recorded once (R34, R334). -/
def State.outOfScope (s : State) (unit detail : Nat) : State := s.raiseOnce 16 unit detail []

/-- The same reason on every channel and port. -/
def State.parkAll (s : State) (b : Nat) (on : Bool) : State :=
  (s.each (List.range 32) (fun n a => a.chPark n b on)).each (List.range 48) (fun p a => a.ppPark p b on)

/-- The tile that owns channel `n`, and port `p` (R4). -/
def tileOfChannel (n : Nat) : Nat := n / 4
def tileOfPort (p : Nat) : Nat := p / 6
def tileOfReel (r : Nat) : Nat := r / 128

/-- Tile `t` is in RUN (state 2 of R392). -/
def State.tileRun (s : State) (t : Nat) : Bool := s.get (Fld.SYS_TILE_STATUS_STATE t) == 2

/-- The time base is in LOCKED (R58). -/
def State.locked (s : State) : Bool := s.get Fld.TB_STATUS_STATE == 3

/-- The condition of R235 and R237 for the BOOT reason of the units of tile `t` to clear. -/
def State.bootOver (s : State) (t : Nat) : Bool := s.is Lat.BOOT_READY && s.locked && s.tileRun t

/-- BOOT clears where boot has reached READY, the time base is LOCKED and the owning tile is in RUN (R235, R237). -/
def State.bootClear (s : State) : State :=
  if s.is Lat.BOOT_READY && s.locked then
    (s.each ((List.range 32).filter (fun n => s.tileRun (tileOfChannel n))) (fun n a => a.chPark n pkBoot false)).each
      ((List.range 48).filter (fun p => s.tileRun (tileOfPort p))) (fun p a => a.ppPark p pkBoot false)
  else s

/-- The power state, or the one a transition in progress leads to, keeps channels, ports, links and TIUs powered (R405,
R406). -/
def State.unitsPowered (s : State) : Bool :=
  if s.is Lat.PWR_BUSY then decide (s.get Lat.PWR_NEXT ≤ 1) else !(s.get Fld.AON_PWR_STATUS_STATE == 2 || s.get Fld.AON_PWR_STATUS_STATE == 3)

/-- The reels that are not IDLE, by a scan of what has been written. -/
def State.activeReels (s : State) : List Nat :=
  (s.fields.filter (fun p => p.1.r == .REEL && p.1.j == 0 && p.1.lo == 0 && p.2 != 0)).map (fun p => p.1.i)

/-- Every reel is IDLE. -/
def State.allIdle (s : State) : Bool := s.activeReels.isEmpty

/-- Every reel of tile `t` is IDLE. -/
def State.tileIdle (s : State) (t : Nat) : Bool := s.activeReels.all (fun r => tileOfReel r != t)

/-- Reel `r` may take a stop request: it is ARMED, PLAYING, WAITING or HOLDING (R124, R163). -/
def State.stoppable (s : State) (r : Nat) : Bool :=
  let st := s.get (Fld.REEL_STATE r)
  1 ≤ st && st ≤ 4

/-- A stop request of reel `r` at tick `t`; of several, the earliest tick stands (R163). -/
def State.requestStop (s : State) (r t : Nat) : State :=
  if s.stoppable r && t < s.get2 (Fld.REEL_STOP_TICK_LO r) (Fld.REEL_STOP_TICK_HI r) then
    s.set2 (Fld.REEL_STOP_TICK_LO r) (Fld.REEL_STOP_TICK_HI r) t
  else s

/-- A stop request for every reel that satisfies `p`, at the next word boundary. -/
def State.stopReels (s : State) (p : Nat → Bool) : State :=
  s.each (s.activeReels.filter p) (fun r a => a.requestStop r (wordNext s.now))

end Sys2Proof.Machine
end

