-- ==== Sys2Proof/Machine/Mem.lean ====
section
/-!
DEFINITION. Segment memory: cards and their checks, loans and the leaves they cover, the check of every write beat,
stream slots and their commits (R79 to R110, R470).
-/
namespace Sys2Proof.Machine

/-! ### Cards -/

/-- A segment descriptor (R85). -/
structure CardRec where
  valid : Bool
  streamed : Bool
  cutReady : Bool
  slate : Bool
  marker : Bool
  list : Bool
  rate : Nat
  format : Nat
  len : Nat
  base : Nat
  ofs : Nat
  listLen : Nat
  markBase : Nat
  stream : Nat
  crc : Nat
  reserved : Bool
deriving DecidableEq, Repr

/-- One step of the reflected CRC-32 of IEEE 802.3. -/
def crcStep (c : Nat) : Nat := if c % 2 = 1 then Nat.xor (c / 2) 0xEDB88320 else c / 2

/-- CRC-32 over bytes, from a running value (R85). -/
def crcRun : Nat → List (BitVec 8) → Nat
  | c, [] => c
  | c, b :: l => crcRun (crcStep (crcStep (crcStep (crcStep (crcStep (crcStep (crcStep (crcStep (Nat.xor c b.toNat))))))))) l

/-- CRC-32 of bytes: initial value and final XOR all ones (R85). -/
def crc32 (l : List (BitVec 8)) : Nat := Nat.xor (crcRun 0xFFFFFFFF l) 0xFFFFFFFF

/-- The card in 16 dwords (R85). -/
def cardOf (d : List Nat) : CardRec :=
  let w := fun i => d.getD i 0
  { valid := (w 0).testBit 31, streamed := (w 0).testBit 30, cutReady := (w 0).testBit 29, slate := (w 0).testBit 28,
    marker := (w 0).testBit 27, list := (w 0).testBit 26, rate := bitsOf (w 0) 19 5, format := bitsOf (w 0) 0 4,
    len := w 1 + bitsOf (w 2) 0 8 * 2 ^ 32, base := bitsOf (w 3) 0 20, ofs := bitsOf (w 3) 20 10, listLen := bitsOf (w 4) 0 15,
    markBase := bitsOf (w 5) 0 30, stream := bitsOf (w 6) 0 10, crc := w 15,
    reserved := bitsOf (w 0) 24 2 != 0 || bitsOf (w 0) 4 15 != 0 || bitsOf (w 2) 8 24 != 0 || bitsOf (w 3) 30 2 != 0 || bitsOf (w 4) 15 17 != 0
      || bitsOf (w 5) 30 2 != 0 || bitsOf (w 6) 10 22 != 0 || w 7 != 0 || w 12 != 0 || w 13 != 0 || w 14 != 0 }

/-- The dwords of card `k` in the catalogue. -/
def State.cardDwords (s : State) (k : Nat) : List Nat := (List.range 16).map (fun i => s.segLe (64 * k + 4 * i) 4)

/-- Card `k` of the catalogue. -/
def State.card (s : State) (k : Nat) : CardRec := cardOf (s.cardDwords k)

/-- Bits per sample of a format; 0 for a reserved code (R86). -/
def formatBits (f : Nat) : Nat :=
  match f with
  | 0 => 16 | 1 => 12 | 2 => 8 | 8 => 1 | 9 => 2 | 10 => 4 | 11 => 8 | 12 => 16 | _ => 0

/-- Samples per leaf of a format (R86). -/
def formatSpl (f : Nat) : Nat := if f = 1 then 43648 else if formatBits f = 0 then 0 else 524288 / formatBits f

/-- The format is one of the sample formats, not a pattern format. -/
def formatSamples (f : Nat) : Bool := f ≤ 2

/-- s0, the data index of sample 0 (R87). -/
def CardRec.s0 (c : CardRec) : Nat := if formatBits c.format = 0 then 0 else c.ofs * 512 / formatBits c.format

/-- The number of data leaves of a card. -/
def CardRec.leaves (c : CardRec) : Nat :=
  if c.list then c.listLen else if formatSpl c.format = 0 then 0 else (c.s0 + c.len + formatSpl c.format - 1) / formatSpl c.format

/-- The first leaf of the general region (R81). -/
def State.generalFirst (s : State) : Nat := 256 + s.get Fld.MS_CFG_ARCH_LEAVES

/-- A leaf lies in the general region. -/
def State.general (s : State) (l : Nat) : Bool := s.generalFirst ≤ l && l < 1048576

/-- Bytes of the marker track (R88): one 2-bit entry for every 8 samples. -/
def CardRec.markBytes (c : CardRec) : Nat := ((c.len + 7) / 8 + 3) / 4

/-- Checks 1 to 8 of R89: the card describes a segment that cannot be. -/
def State.cardBad (s : State) (c : CardRec) : Bool :=
  formatBits c.format == 0 || 23 < c.rate || c.reserved || c.len < 64
    || (c.list && formatSpl c.format * c.listLen < c.s0 + c.len)
    || (!c.list && 1048576 < c.base + c.leaves) || !s.general c.base
    || (c.list && (c.listLen == 0 || 16384 < c.listLen))
    || (c.marker && !(s.general (c.markBase * 64 / 65536) && s.general ((c.markBase * 64 + c.markBytes - 1) / 65536)))
    || (c.streamed && (!c.list || c.marker || c.ofs != 0 || c.listLen < 2))
    || (c.ofs != 0 && c.format == 1)

/-- At fill, a card with VALID = 0, a wrong CRC or a bad mark is invalid too (R89, R92). -/
def State.cardInvalid (s : State) (k : Nat) : Bool :=
  let c := s.card k
  !c.valid || s.cardBad c || c.crc != crc32 (Memory.reads s.mem (64 * k) 60) || s.badCards.contains k

/-- Data leaf `n` of a card: by arithmetic, or from the leaf list (R87); none when a list entry is unusable. -/
def State.dataLeaf (s : State) (c : CardRec) (n : Nat) : Option Nat :=
  if c.list then
    let e := s.segLe (c.base * 65536 + 4 * n) 4
    if e < 2 ^ 20 && s.general e then some e else none
  else some (c.base + n)

/-! ### Loans -/

/-- The loan count of a card (R94). -/
def State.loanCount (s : State) (k : Nat) : Nat := (s.loans.filter (fun l => l.card == k)).length

/-- Reel `r` holds a loan on card `k`. -/
def State.onLoan (s : State) (r k : Nat) : Bool := s.loans.any (fun l => l.reel == r && l.card == k)

/-- The leaves a loan on a card covers (R95): a streamed card's list leaf alone; else its data leaves, its list leaf and the
leaves of its marker track; a card that describes no segment covers nothing. -/
def State.coveredLeaves (s : State) (c : CardRec) : List Nat :=
  if !c.valid || s.cardBad c then []
  else if c.streamed then [c.base]
  else
    let data := (List.range c.leaves).filterMap (fun n => s.dataLeaf c n)
    let lst := if c.list then [c.base] else []
    let mk := if c.marker then
        (List.range ((c.markBase * 64 + c.markBytes - 1) / 65536 - c.markBase * 64 / 65536 + 1)).map (fun n => c.markBase * 64 / 65536 + n)
      else []
    (data ++ lst ++ mk).dedup

/-- The word in which the stack controller marks a covered leaf of a first loan taken at tick `t`: 64 leaves of one stack per
word, in ascending order, from the next word (R96). -/
def markWord (cov : List Nat) (t leaf : Nat) : Nat :=
  t / 8 + 1 + (cov.filter (fun l => l % 4 == leaf % 4 && l < leaf)).length / 64

/-- The tick at which a first loan taken at tick `t` is in force (R96). -/
def forceTick (cov : List Nat) (t : Nat) : Nat :=
  let m := ([0, 1, 2, 3].map (fun k => (cov.filter (fun l => l % 4 == k)).length)).foldl max 0
  8 * (t / 8 + 1 + (m + 63) / 64)

/-- The first loan of a card: the one that marked its leaves. -/
def State.firstTaken (s : State) (k : Nat) : Option Nat :=
  (s.loans.filter (fun l => l.card == k)).foldl (fun a l => match a with | none => some l.taken | some t => some (min t l.taken)) none

/-- The cards on loan, once each. -/
def State.loanedCards (s : State) : List Nat := (s.loans.map (fun l => l.card)).dedup

/-- A leaf's loan count: the distinct cards on loan that cover it and have marked it (R96). -/
def State.leafCount (s : State) (leaf : Nat) : Nat :=
  (s.loanedCards.filter (fun k =>
    let cov := s.coveredLeaves (s.card k)
    cov.contains leaf && (match s.firstTaken k with | none => false | some t => markWord cov t leaf ≤ s.now / 8))).length

/-! ### Stream slots -/

/-- The card bound to stream slot `n`, when it is a valid streamed card that names the slot (R470). -/
def State.boundCard (s : State) (n : Nat) : Option (Nat × CardRec) :=
  let k := s.get (Fld.MS_STRM_CARD_CARD n)
  let c := s.card k
  if s.is (Fld.MS_STRM_CARD_BOUND n) && c.valid && !s.cardBad c && c.streamed && c.stream == n then some (k, c) else none

/-- R_ret, the oldest sequence number that may not be written (R101). -/
def State.retained (s : State) (n : Nat) : Nat :=
  if s.is (Lat.STRM_RET n) then (s.get (Fld.MS_STRM_PLAY n) + 2 ^ 32 - 1) % 2 ^ 32 else s.get (Fld.MS_STRM_PLAY n)

/-- The distance from `a` forward to `b` in sequence numbers (R100). -/
def seqDiff (a b : Nat) : Nat := (b + 2 ^ 32 - a % 2 ^ 32) % 2 ^ 32

/-- A ring leaf holds a committed sequence number of some bound slot (R103). -/
def State.ringCommitted (s : State) (leaf : Nat) : Bool :=
  ((s.fields.filter (fun p => p.1.r == .MS_STRM_CARD && p.1.lo == 31 && p.2 == 1)).map (fun p => p.1.i)).any (fun n =>
    match s.boundCard n with
    | none => false
    | some (_, c) =>
      let r := s.retained n
      (List.range (seqDiff r (s.get (Fld.MS_STRM_FILL n)))).any (fun q => s.dataLeaf c ((r + q) % 2 ^ 32 % c.listLen) == some leaf))

/-- Reset stream slot `n` (R107). -/
def State.slotReset (s : State) (n : Nat) : State :=
  s.sets [(Fld.MS_STRM_FILL n, 0), (Fld.MS_STRM_PLAY n, 0), (Fld.MS_STRM_CNT_STALE n, 0), (Fld.MS_STRM_CNT_SKIP n, 0), (Lat.STRM_RET n, 0)]

/-- Slot `n` takes or refuses a commit of sequence number `seq` from source `kind`, `id` (R102, R108, R470). The answer says
whether it was accepted. -/
def State.commitSlot (s : State) (n kind id seq : Nat) : Bool × State :=
  let fp := s.get (Fld.MS_STRM_FILL n)
  let ok := match s.boundCard n with
    | none => false
    | some (_, c) => seq % 2 ^ 32 == fp && decide (seqDiff (s.retained n) fp < c.listLen)
        && s.get (Fld.MS_STRM_CFG_SRC_KIND n) == kind && s.get (Fld.MS_STRM_CFG_SRC n) == id
  if ok then (true, s.set (Fld.MS_STRM_FILL n) (fp + 1))
  else (false, (s.bump (Fld.MS_STRM_CNT_STALE n)).flag Fld.MS_EVT_STALE_COMMIT)

/-! ### Corrector store -/

/-- Leaves that a section of `x` bytes occupies (R269). -/
def storeLeaves (x : Nat) : Nat := (x + 65535) / 65536

/-- The leaf runs of a running group's store that writes may not touch: every section but the inactive reference bank
(R269, R270). -/
def State.storeRuns (s : State) (g : Nat) : List (Nat × Nat) :=
  let la := 2 ^ s.get (Fld.COR_GRP_CFG_LLOG2_A g)
  let r := s.get (Fld.COR_GRP_CFG_RM1 g) + 1
  let d := s.get (Fld.COR_GRP_CFG_DM1 g) + 1
  let e := if s.is (Fld.COR_GRP_CFG_MODE g) then 8 else 4
  let l0 := s.get (Fld.COR_STORE_LEAF g)
  let ref := storeLeaves (r * la * e)
  let rest := storeLeaves (la * d * d * 8) + storeLeaves (la * r * d * 8) + storeLeaves (la * r * 4) + storeLeaves (la * r * d * 8)
  [(l0, 1), (if s.is (Fld.COR_GRP_STATUS_REF_ACTIVE g) then l0 + 1 + ref else l0 + 1, ref), (l0 + 1 + 2 * ref, rest)]

/-- A leaf belongs to the protected store of a corrector group that is not OFF (R270). -/
def State.storeProtected (s : State) (leaf : Nat) : Bool :=
  [0, 1, 2, 3].any (fun g => s.get (Fld.COR_GRP_STATUS_STATE g) != 0 && (s.storeRuns g).any (fun p => p.1 ≤ leaf && leaf < p.1 + p.2))

/-! ### Write beats -/

/-- Why a write beat to a leaf is dropped: 0 loan, 1 catalogue, 2 archive, 3 self-refresh (R82, R84, R97). -/
def State.dropCause (s : State) (leaf : Nat) : Option Nat :=
  if s.is Lat.STK_SR then some 3
  else if leaf < 256 then some 1
  else if leaf < s.generalFirst then some 2
  else if s.leafCount leaf != 0 || s.ringCommitted leaf || s.storeProtected leaf then some 0
  else none

/-- The first dropped beat of a transaction: address and cause. -/
abbrev FirstDrop := Option (Nat × Nat)

/-- A dropped beat is counted, latched when it is the first since the last clear, and raised once (R97). -/
def State.dropBeat (s : State) (kind id addr cause : Nat) : State :=
  let s1 := (s.bump Fld.MS_WDROP_CNT).flag Fld.MS_EVT_WDROP
  let s2 := if s.is Lat.WDROP_LATCHED then s1
    else (s1.set2 Fld.MS_WDROP_ADDR_LO Fld.MS_WDROP_ADDR_HI addr).sets
      [(Fld.MS_WDROP_SRC_CAUSE, cause), (Fld.MS_WDROP_SRC_SRC_ID, id), (Fld.MS_WDROP_SRC_SRC_KIND, kind), (Lat.WDROP_LATCHED, 1)]
  s2.raiseOnce 18 (unitStack (addr / 65536 % 4)) kind []

/-- An uncorrectable burst is read: it is counted at its stack, and STACK_FAULT raised there with the reels that read its
leaf (R83). -/
def State.burstFault (s : State) (b : Nat) : State :=
  let leaf := b / 2048
  let k := leaf % 4
  let reels := (s.loans.filter (fun l => (s.coveredLeaves (s.card l.card)).contains leaf)).map (fun l => l.reel)
  (s.bump (Fld.MS_ECC_CNT_UNCORR k)).raise 3 (unitStack k) k (reels.flatMap markReel)

/-- Store bytes of one beat. A burst that is uncorrectable takes new check bits: bytes not written read 0 afterwards, and a
write of part of it counts its merge read (R83). -/
def State.storeBeat (s : State) (addr : Nat) (data : List (BitVec 8)) : State :=
  let touched := s.badBursts.filter (fun b => 32 * b < addr + data.length && addr < 32 * b + 32)
  let part := touched.filter (fun b => 32 * b < addr || addr + data.length < 32 * b + 32)
  let s1 := s.each part (fun b a => a.burstFault b)
  ({ s1 with badBursts := s1.badBursts.filter (fun b => !touched.contains b) }).segStore addr data

/-- Bursts that turn out to be uncorrectable: their bytes read 0 from now on (R83). -/
def State.spoil (s : State) (l : List Nat) : State :=
  s.each l (fun b a => ({ a with badBursts := b :: a.badBursts.filter (fun x => x != b) }).segStore (32 * b) (leBytes 32 0))

/-- Read bytes of segment memory through a host port: each uncorrectable burst is counted (R83, R99); in self-refresh the
bytes are 0 (R84). -/
def State.segRead (s : State) (addr n : Nat) : List (BitVec 8) × State :=
  if s.is Lat.STK_SR then (leBytes n 0, s.flag Fld.MS_EVT_SR_ACCESS)
  else (Memory.reads s.mem addr n, s.each (s.badBursts.filter (fun b => 32 * b < addr + n && addr < 32 * b + 32)) (fun b a => a.burstFault b))

/-- Write bytes beat by beat (64-byte beats, each checked on its own): the state, the bytes and beats dropped and the first
drop. `fuel` bounds the number of beats. -/
def State.writeBeats (s : State) (kind id : Nat) : Nat → Nat → List (BitVec 8) → Nat × Nat × FirstDrop → State × (Nat × Nat × FirstDrop)
  | 0, _, _, acc => (s, acc)
  | fuel + 1, addr, data, acc =>
    if data.isEmpty then (s, acc)
    else
      let n := 64 - addr % 64
      let now := data.take n
      match s.dropCause (addr / 65536) with
      | none => (s.storeBeat addr now).writeBeats kind id fuel (addr + n) (data.drop n) acc
      | some c => (s.dropBeat kind id addr c).writeBeats kind id fuel (addr + n) (data.drop n)
          (acc.1 + now.length, acc.2.1 + 1, match acc.2.2 with | none => some (addr, c) | some f => some f)

/-- One write transaction to segment memory (R97): its beats, and one DROP entry when any of them was lost. The number says
how many bytes were dropped. -/
def State.writeSeg (s : State) (kind id addr : Nat) (data : List (BitVec 8)) : Nat × State :=
  let (s1, (bytes, beats, first)) := s.writeBeats kind id (data.length / 64 + 2) addr data (0, 0, none)
  match first with
  | none => (0, s1)
  | some (a, c) => (bytes, s1.archive 19 (unitStack (a / 65536 % 4)) s.now [lo32 a, hi32 a, kind + id * 2 ^ 8 + c * 2 ^ 16, beats])

/-! ### The card port (R90, R91) -/

/-- RESULT of a card write: 1 ON_LOAN, 2 INVALID, 0 OK. -/
def State.cardCheck (s : State) (k : Nat) (d : List Nat) : Nat :=
  if s.loanCount k ≠ 0 then 1 else if (cardOf d).valid && s.cardBad (cardOf d) then 2 else 0

/-- Store a card with the CRC the port computes: cached copies fall, a bad mark falls, and the slots that name the card reset
(R91, R89, R470). -/
def State.cardStore (s : State) (k : Nat) (d : List Nat) : State :=
  let bytes := (d.take 15).flatMap (leBytes 4)
  let s1 := (s.segStore (64 * k) bytes).segStore (64 * k + 60) (leBytes 4 (crc32 bytes))
  let s2 := { s1 with cards := s1.cards.filter (fun p => p.2 != k), badCards := s1.badCards.filter (fun b => b != k) }
  s2.each (((s.fields.filter (fun p => p.1.r == .MS_STRM_CARD && p.1.lo == 0 && p.2 == k)).map (fun p => p.1.i))) (fun n a => a.slotReset n)

end Sys2Proof.Machine
end

