-- ==== Sys2Proof/Machine/Voices.lean ====
section
/-!
DEFINITION. The arithmetic of the voices (R196 to R215): phase, sine table, chirp pieces and their fold, the resampler,
noise keys, ramps and pattern sequences; the decoding of stored samples (R86, R132).
-/
namespace Sys2Proof.Machine

/-- The engine context of reel `r`. -/
def State.eng (s : State) (r : Nat) : Engine := (s.engines.find? (fun e => e.reel == r)).getD { reel := r }

/-- Change the engine context of reel `r`. -/
def State.onEng (s : State) (r : Nat) (f : Engine → Engine) : State :=
  { s with engines := { f (s.eng r) with reel := r } :: s.engines.filter (fun e => e.reel != r) }

/-- 2^80, the modulus of the extended phase (R196). -/
def phaseMod : Nat := 2 ^ 80

/-- A signed value of `w` bits from an integer, saturated to 18 bits (R215). -/
def sat18 (v : Int) : Int := clampInt (-131072) 131071 v

/-! ### The sine table (R199) -/

/-- floor(π/2 × 2^128). -/
def halfPi128 : Nat := 0x1921FB54442D18469898CC51701B839A2

/-- Terms of the sine series of an angle in units of 2^-128, alternately added and subtracted. -/
def sinTerms : Nat → Nat → Nat → Nat → Int → Int
  | 0, _, _, _, acc => acc
  | fuel + 1, a, term, n, acc =>
    sinTerms fuel a (term * a / 2 ^ 128 * a / 2 ^ 128 / ((2 * n + 2) * (2 * n + 3))) (n + 1)
      (if n % 2 = 0 then acc + term else acc - term)

/-- sin of `x` quarter-turns × 2^-18, x from 0 to 2^18, in units of 2^-128. -/
def sinQuarter (x : Nat) : Int := sinTerms 26 (halfPi128 * x / 2 ^ 18) (halfPi128 * x / 2 ^ 18) 0 0

/-- round(131,071 × sin) for x from 0 to 2^18. -/
def sineAbs (x : Nat) : Int := (131071 * sinQuarter x * 2 + 2 ^ 128) / 2 ^ 129

/-- S(θ), the sine table of 2^20 values (R199). -/
def sine (th : Nat) : Int :=
  let q := th % 2 ^ 20 / 2 ^ 18
  let x := th % 2 ^ 18
  match q with
  | 0 => sineAbs x
  | 1 => sineAbs (2 ^ 18 - x)
  | 2 => - sineAbs x
  | _ => - sineAbs (2 ^ 18 - x)

/-- An AMP above 0x1_0000 acts as 0x1_0000 (R199). -/
def ampOf (a : Nat) : Nat := min a 0x10000

/-- The value of a TONE or CHIRP voice at an extended phase (R199). -/
def toneValue (ph80 amp : Nat) : Int := (sine (ph80 / 2 ^ 60) * ampOf amp + 2 ^ 15) / 2 ^ 16

/-! ### Phase (R196 to R201) -/

/-- P80 of reel `r`. -/
def State.p80 (s : State) (r : Nat) : Nat := s.get2 (Fld.REEL_P_CUR_LO r) (Fld.REEL_P_CUR_HI r) * 2 ^ 16 + s.get (Fld.REEL_P_X r)

/-- FTW80 of reel `r`. -/
def State.ftw80 (s : State) (r : Nat) : Nat := s.get2 (Fld.REEL_FTW_CUR_LO r) (Fld.REEL_FTW_CUR_HI r) * 2 ^ 16 + s.get (Fld.REEL_FTW_X r)

/-- CRW_CUR of reel `r`, signed. -/
def State.crw (s : State) (r : Nat) : Int := sx 64 (s.get2 (Fld.REEL_CRW_CUR_LO r) (Fld.REEL_CRW_CUR_HI r))

/-- Store P80. -/
def State.setP80 (s : State) (r : Nat) (v : Int) : State :=
  let n := (v % (phaseMod : Int)).toNat
  (s.set2 (Fld.REEL_P_CUR_LO r) (Fld.REEL_P_CUR_HI r) (n / 2 ^ 16)).set (Fld.REEL_P_X r) (n % 2 ^ 16)

/-- Store FTW80. -/
def State.setFtw80 (s : State) (r : Nat) (v : Int) : State :=
  let n := (v % (phaseMod : Int)).toNat
  (s.set2 (Fld.REEL_FTW_CUR_LO r) (Fld.REEL_FTW_CUR_HI r) (n / 2 ^ 16)).set (Fld.REEL_FTW_X r) (n % 2 ^ 16)

/-- φ80 at tick `t`, with the chirp piece that started at `piece` if one is in progress (R196, R200). -/
def State.phase80 (s : State) (r : Nat) (piece : Option Nat) (t : Nat) : Nat :=
  let base : Int := s.p80 r + s.ftw80 r * t
  let v := match piece with
    | none => base
    | some t0 => base + s.crw r * (((t - t0) * (t - t0 + 1) / 2 : Nat) : Int)
  (v % (phaseMod : Int)).toNat

/-- The fold of a chirp piece from `t0` at its end tick (R201). -/
def State.fold (s : State) (r t0 te : Nat) : State :=
  let d : Int := ((te - t0 : Nat) : Int)
  let c := s.crw r
  (s.setP80 r (s.p80 r + c * (d * (d + 1) / 2) - c * d * te)).setFtw80 r (s.ftw80 r + c * d)

/-- SET_F of the frequency word at anchor tick `a` (R198): COHERENT, or CONTINUOUS when `cont`. -/
def State.setFreq (s : State) (r val : Nat) (cont : Bool) (a : Nat) : State :=
  (s.when cont (fun b => b.setP80 r (b.p80 r + ((b.ftw80 r : Int) - val * 2 ^ 16) * a))).setFtw80 r (val * 2 ^ 16)

/-! ### Pattern sequences (R214) -/

/-- Product of two polynomials over GF(2), reduced by x^m + x^j + 1: one bit of the second factor at a time. -/
def gfMul (m j a : Nat) : Nat → Nat → Nat
  | 0, _ => 0
  | fuel + 1, b =>
    let rest := gfMul m j a fuel (b / 2)
    let d := 2 * rest
    let red := if d.testBit m then Nat.xor (Nat.xor d (2 ^ m)) (Nat.xor (2 ^ j) 1) else d
    if b % 2 = 1 then Nat.xor red a else red

/-- x^n reduced, by repeated squaring over the bits of `n`. -/
def gfPow (m j : Nat) : Nat → Nat → Nat
  | 0, _ => 1
  | fuel + 1, n =>
    let h := gfPow m j fuel (n / 2)
    let q := gfMul m j h 32 h
    if n % 2 = 1 then gfMul m j q 32 2 else q

/-- Number of set bits, modulo 2. -/
def parity : Nat → Nat → Bool
  | 0, _ => false
  | fuel + 1, v => (v % 2 == 1) != parity fuel (v / 2)

/-- The register length and tap of a PRBS mode (R214). -/
def prbsMode (pm : Nat) : Nat × Nat :=
  match pm with
  | 0 => (7, 6) | 1 => (9, 5) | 2 => (15, 14) | 3 => (23, 18) | _ => (31, 28)

/-- Sequence bit `n` of a PRBS mode: o(n + m) = o(n) XOR o(n + m - k), all ones first (R214). -/
def prbsBit (pm n : Nat) : Bool :=
  let m := (prbsMode pm).1
  let k := (prbsMode pm).2
  parity 32 (gfPow m (m - k) 32 (n % (2 ^ m - 1)))

/-- Sample `i` of `b` bits of a PRBS mode. -/
def prbsSample (pm b i : Nat) : Nat := (List.range b).foldl (fun a q => a + if prbsBit pm (i * b + q) then 2 ^ q else 0) 0

/-! ### Tables in the scratchpad -/

/-- Byte address of scratchpad word `w` of tile `t`. -/
def spWord (t w : Nat) : Nat := t * 0x400000 + 16 * w

/-- The content of sample index `i` of a PATTERN reel at port width `b` (R214). -/
def State.patternValue (s : State) (r b i : Nat) : Nat :=
  let pm := s.get (Fld.REEL_PMODE r)
  if pm ≤ 4 then prbsSample pm b i
  else if pm = 5 then
    let n := max 1 (s.get (Fld.REEL_PW_CNT r))
    s.spLe (spWord (tileOfReel r) (s.get (Fld.REEL_PW_BASE r)) + 2 * (i % n)) 2 % 2 ^ b
  else i % 2 ^ b

/-- The ramp value at sample `u` with the four coefficients read (R212). -/
def rampValue (c : List Nat) (u : Nat) : Int :=
  let k := fun i => sx 64 (c.getD i 0)
  (k 0 + k 1 * u + k 2 * u ^ 2 + k 3 * u ^ 3) / 2 ^ 32

/-! ### Noise (R207 to R211) -/

/-- The mixing function of R209. -/
def noiseMix (z : BitVec 64) : BitVec 64 :=
  let a := (z ^^^ (z >>> 30)) * 0xBF58476D1CE4E5B9#64
  let b := (a ^^^ (a >>> 27)) * 0x94D049BB133111EB#64
  b ^^^ (b >>> 31)

/-- key_j of a seed and frame (R209). -/
def noiseKey (seed j : Nat) : BitVec 64 := noiseMix (BitVec.ofNat 64 seed + 0x9E3779B97F4A7C15#64 * BitVec.ofNat 64 (j + 1))

/-- θ of bin `k` of a frame key, in units of 2^-20 turn (R209). -/
def noiseTheta (key : BitVec 64) (k : Nat) : Nat := (noiseMix (key + 0x9E3779B97F4A7C15#64 * BitVec.ofNat 64 (k + 1)) >>> 44).toNat

/-- The 53-bit uniform u_j (R209). -/
def noiseUniform (key : BitVec 64) : BitVec 64 := noiseMix key >>> 11

/-- NSCALE, KURT and ACTIVE with which frame `j` of reel `r` is computed: a set latched at the start of a frame governs the
frames after it (R217). -/
def State.noiseSet (s : State) (r j : Nat) : Nat × Nat × Nat :=
  match (s.eng r).oldNoise with
  | some (last, n, k, a) =>
    if j ≤ last then (n, k, a) else (s.get (Fld.REEL_NSCALE_CUR r), s.get (Fld.REEL_KURT_CUR r), s.get (Fld.REEL_ACTIVE r))
  | none => (s.get (Fld.REEL_NSCALE_CUR r), s.get (Fld.REEL_KURT_CUR r), s.get (Fld.REEL_ACTIVE r))

/-- The line amplitudes in table `a` of reel `r` (R208). -/
def State.noiseLines (s : State) (r a : Nat) : List Nat :=
  let base := s.get (if a = 1 then Fld.REEL_PSD_BASE1 r else Fld.REEL_PSD_BASE0 r)
  (List.range (2 ^ s.get (Fld.REEL_LLOG2 r))).map (fun l => s.spLe (spWord (tileOfReel r) base + 2 * l) 2)

/-- Sample `n` of noise frame `j`; frames before frame 0 do not exist and give 0. -/
def State.noiseFrame (s : State) (r j n : Nat) : Int :=
  let key := noiseKey (s.get2 (Fld.REEL_SEED_LO r) (Fld.REEL_SEED_HI r)) j
  let (nscale, kurt, act) := s.noiseSet r j
  (Config.noiseFrame (key, noiseUniform key, s.get (Fld.REEL_NLOG2 r), s.get (Fld.REEL_LLOG2 r), nscale, kurt, s.noiseLines r act, n)).toInt

/-- x(s): the overlap-added frames at generator index `i` (R207). -/
def State.noiseAt (s : State) (r i : Nat) : Int :=
  let h := 2 ^ (s.get (Fld.REEL_NLOG2 r) - 1)
  let j := i / h
  sat18 (s.noiseFrame r j (i - j * h) + (if j = 0 then 0 else s.noiseFrame r (j - 1) (i - (j - 1) * h)))

/-! ### Resampler (R203 to R206) -/

/-- The coefficient set that RSTEP chooses (R204). -/
def resamplerSet (rstep : Nat) : Nat := if rstep ≤ 2 ^ 32 then 0 else if rstep ≤ 2 ^ 33 then 1 else 2

/-- One filter output at a position, over source samples `x` (R204), before saturation. -/
def resample (set pos : Nat) (x : Int → Int) : Int :=
  let n : Int := (pos / 2 ^ 32 : Nat)
  let ph := bitsOf pos 22 10
  let g : Int := (bitsOf pos 0 22 : Nat)
  let tap := fun i =>
    let h := (Config.resamplerTap (set, ph, i)).toInt
    h + (((Config.resamplerTap (set, ph + 1, i)).toInt - h) * g) / 2 ^ 22
  ((List.range 64).foldl (fun a i => a + tap i * x (n - 31 + i)) 0 + 2 ^ 16) / 2 ^ 17

/-- The number of output samples of a resampled pass (R205). -/
def resampledLen (len rph0 rstep : Nat) : Nat := if rstep = 0 then 0 else (len * 2 ^ 32 - rph0 + rstep - 1) / rstep

/-! ### Stored samples (R86, R87, R132) -/

/-- Sample `i` of the leaf `l`, as its raw bits. -/
def State.leafSample (s : State) (format l i : Nat) : Nat :=
  let a := 65536 * l
  match format with
  | 0 | 12 => s.segLe (a + 2 * i) 2
  | 1 => bitsOf (s.segLe (a + 96 * (i / 64) + 12 * (i % 64) / 8) 3) (12 * (i % 64) % 8) 12
  | 2 | 11 => s.segLe (a + i) 1
  | 8 => bitsOf (s.segLe (a + i / 8) 1) (i % 8) 1
  | 9 => bitsOf (s.segLe (a + i / 4) 1) (2 * (i % 4)) 2
  | _ => bitsOf (s.segLe (a + i / 2) 1) (4 * (i % 2)) 4

/-- The value v of a stored sample: S formats signed in units of 2^-2 code, B formats their bits (R132, R133). -/
def sampleValue (format raw : Nat) : Int :=
  match format with
  | 0 => sx 16 raw * 4
  | 1 => sx 12 raw * 64
  | 2 => sx 8 raw * 1024
  | _ => raw

end Sys2Proof.Machine
end

