-- ==== Sys2Proof/Machine/CorBase.lean ====
section
/-!
DEFINITION. The parts of the corrector that other blocks reach: drives, abnormal ends, the ramp (R279, R282, R283); raises
that count once per unit (R334).
-/
namespace Sys2Proof.Machine

/-- Every unit named is already marked in an ACTIVE entry. -/
def State.marked (s : State) (k : Nat) (m : List (Nat × Nat)) : Bool :=
  s.is (Fld.LDG_ACTIVE k) && m.all (fun p => s.get (Fld.LDG_MAP k p.1) &&& p.2 == p.2)

/-- A cause raised once per channel, port or group: a unit already marked raises again only after a clear (R334). -/
def State.raisePerUnit (s : State) (k unit detail : Nat) (m : List (Nat × Nat)) : State :=
  if s.marked k m then s else s.raise k unit detail m

/-- A cause raised once per tile, with a bitmap of tiles as its detail (R334, R335). -/
def State.raisePerTile (s : State) (k t : Nat) (m : List (Nat × Nat)) : State :=
  if s.is (Fld.LDG_ACTIVE k) && (s.get (Fld.LDG_DETAIL k)).testBit t then s.mark k m else s.raise k (unitTile t) (1 <<< t) m

/-- The drive reels of group `g` (R268). -/
def State.drives (s : State) (g : Nat) : List Nat :=
  ((List.range 16).filter (fun d => s.is (Fld.COR_GRP_DRV_VALID g d))).map (fun d => s.get (Fld.COR_GRP_DRV_REEL g d))

/-- The group of which reel `r` is a drive. -/
def State.groupOfDrive (s : State) (r : Nat) : Option Nat := [0, 1, 2, 3].find? (fun g => (s.drives g).contains r)

/-- MAP bits of a group: its drive reels (R337). -/
def State.markGroup (s : State) (g : Nat) : List (Nat × Nat) := (s.drives g).flatMap markReel

/-- Group `g` changes state; entering ABORTING or ABORTED pulses its producer (R282, R305). -/
def State.corState (s : State) (g st : Nat) : State :=
  ((s.set (Fld.COR_GRP_STATUS_STATE g) st).flag (Fld.COR_GRP_EVT_STATE_CHG g)).when (st == 5 || st == 6) (fun a => a.pulse (456 + g) none)

/-- The group is in ESTIMATE, CONTROL or HOLD. -/
def State.corRunning (s : State) (g : Nat) : Bool := 1 ≤ s.get (Fld.COR_GRP_STATUS_STATE g) && s.get (Fld.COR_GRP_STATUS_STATE g) ≤ 3

/-- Decide a ramp: it starts at the first word boundary at least 8 words after the decision (R279). -/
def State.corRamp (s : State) (g : Nat) : State :=
  s.sets [(Lat.COR_W0 g, wordUp (s.now + 64)), (Lat.COR_RAMP g, 1)]

/-- K, the length of the ramp in words (R279). -/
def State.corRampWords (s : State) (g : Nat) : Nat := max 50 (min 10000 (s.get (Fld.COR_ABT_TIME g))) * 800000

/-- The ramp multiplier m of group `g` at a tick, in 2^-16 (R279, R282). -/
def State.corM (s : State) (g t : Nat) : Nat :=
  if s.is (Lat.COR_ZERO g) then 0
  else if s.get (Lat.COR_RAMP g) == 0 || t < s.get (Lat.COR_W0 g) then 65536
  else
    let k := (t - s.get (Lat.COR_W0 g)) / 8
    65536 * (s.corRampWords g - k) / s.corRampWords g

/-- A cause of R283 ends the run of group `g`: HARD_PARK (9) at once, every other one through the ramp. `res` is the
ledger entry of the resource at which the fault is raised, `unit` where the cause is raised. -/
def State.corAbortAt (s : State) (g cause : Nat) (res : Option Nat) (unit : Nat) : State :=
  let st := s.get (Fld.COR_GRP_STATUS_STATE g)
  let report := fun (a : State) =>
    let d := g + cause * 2 ^ 8
    match res with
    | some k => a.report k 25 unit d (a.markGroup g)
    | none => a.raisePerUnit 25 unit d (a.markGroup g)
  if cause = 9 then
    if 1 ≤ st ∧ st ≤ 5 then
      let s1 := ((s.corState g 6).sets [(Fld.COR_GRP_STATUS_ABORT_CAUSE g, 9), (Fld.COR_GRP_EVT_ABORT g, 1), (Lat.COR_ZERO g, 1), (Lat.COR_RAMP g, 0),
        (Fld.COR_GRP_STATUS_RESTART_PENDING g, 0)])
      report (s1.each (s1.drives g) (fun r a => a.requestStop r (wordNext a.now)))
    else s
  else if s.corRunning g then
    report (((s.corState g 5).sets [(Fld.COR_GRP_STATUS_ABORT_CAUSE g, cause), (Fld.COR_GRP_EVT_ABORT g, 1)]).corRamp g)
  else s

/-- A cause of R283 raised at the group itself. -/
def State.corAbort (s : State) (g cause : Nat) (res : Option Nat) : State := s.corAbortAt g cause res (unitGroup g)

/-- Corrector inputs that a predicate on SRC_KIND and SRC selects (R266). -/
def State.corInputs (s : State) (kind : Nat) (p : Nat → Bool) : List Nat :=
  (List.range 64).filter (fun i => s.get (Fld.COR_IN_CFG_SRC_KIND i) == kind && p (s.get (Fld.COR_IN_CFG_SRC i)))

/-- Input `i` is a response of group `g` (R268). -/
def State.corResponse (s : State) (g i : Nat) : Bool :=
  s.is (Fld.COR_GRP_CFG_VALID g) && s.get (Fld.COR_IN_CFG_SRC_KIND i) != 0 && s.get (Fld.COR_IN_CFG_GROUP i) == g
    && decide (s.get (Fld.COR_IN_CFG_RESP i) ≤ s.get (Fld.COR_GRP_CFG_RM1 g))

/-- The source of some inputs is lost: LOSS sets, and the groups that have one as a response abort with INPUT_LOSS, raised at
the resource whose ledger entry is `res` (R267, R283). -/
def State.inputLoss (s : State) (l : List Nat) (res : Nat) : State :=
  let s1 := s.each l (fun i a => a.flag (Fld.COR_IN_STAT_LOSS i))
  s1.each ((List.range 4).filter (fun g => l.any (fun i => s.corResponse g i))) (fun g a => a.corAbort g 6 (some res))

/-- The source of some inputs delivers again. -/
def State.inputBack (s : State) (l : List Nat) : State := s.each l (fun i a => a.clr (Fld.COR_IN_STAT_LOSS i))

/-- Destination codes of reel `r` (R130). -/
def State.dests (s : State) (r : Nat) : List Nat := [s.get (Fld.REEL_DEST0 r), s.get (Fld.REEL_DEST1 r)]

/-- KIND and INDEX of a destination code. -/
def destKind (d : Nat) : Nat := d / 512 % 8
def destIdx (d : Nat) : Nat := d % 512

/-- Groups with a drive that has channel `n` among its destinations. -/
def State.groupsOnChannel (s : State) (n : Nat) : List Nat :=
  [0, 1, 2, 3].filter (fun g => (s.drives g).any (fun r => (s.dests r).any (fun d => destKind d == 1 && destIdx d == n)))

/-- A PARK_N or TRIP reason, or EXTEST, on a drive destination takes its groups to ABORTED (R282, R283, R451). -/
def State.hardParkAbort (s : State) (n : Nat) : State := s.each (s.groupsOnChannel n) (fun g a => a.corAbort g 9 none)

/-- A PARK_N or TRIP reason stands on a destination of a drive of group `g` (R282). -/
def State.corHardParked (s : State) (g : Nat) : Bool :=
  (s.drives g).any (fun r => (s.dests r).any (fun d =>
    (destKind d == 1 && s.get (Fld.CH_PARK_SRC_REASON (destIdx d)) &&& (1 <<< pkParkN ||| 1 <<< pkTrip) != 0)))

/-- A group that would run on a drive destination with PARK_N or TRIP goes to ABORTED (R282). -/
def State.corHardCheck (s : State) (g : Nat) : State := if s.corHardParked g then s.corAbort g 9 none else s

end Sys2Proof.Machine
end

