-- ==== Sys2Proof/Machine/CalBase.lean ====
section
/-!
DEFINITION. Correction sets: interpolation over temperature and load (R371, R378), the pending set and its decision
(R376, R379), and the set in force of a channel's range (R230).
-/
namespace Sys2Proof.Machine

/-! ### Target sets -/

/-- The factory temperatures in °C (R370). -/
def factoryTemps : List Int := [-40, -10, 20, 50, 80, 105, 130, 150]

/-- The two factory temperatures that bracket a reading in 1/16 °C: the index of the lower and of the upper (R371). -/
def bracket (t : Int) : Nat × Nat :=
  if t < -640 then (0, 0)
  else if 2400 ≤ t then (7, 7)
  else
    let i := ((List.range 7).filter (fun i => decide (factoryTemps.getD i 0 * 16 ≤ t))).length - 1
    (i, i + 1)

/-- A value interpolated linearly between two factory temperatures, plus a load term `load` in 10^-6 of the field's unit,
rounded once half up (R371). -/
def interpolate (i j : Nat) (vi vj t load : Int) : Int :=
  let ti := factoryTemps.getD i 0 * 16
  let den := if i = j then 1 else factoryTemps.getD j 0 * 16 - ti
  let num := if i = j then vi else vi * den + (vj - vi) * (t - ti)
  let big := num * 1000000 + load * den
  (2 * big + den * 1000000) / (2 * den * 1000000)

/-- The set with which a channel leaves reset: the reset values of its registers and the identity taps (R223, R370). -/
def resetSet : CalSet := ⟨0x40000, 0, 0, List.replicate 65 0, List.replicate 31 0 ++ [0x40000] ++ List.replicate 32 0, 0⟩

/-- The sensor of a channel: that of its converter die, or of its tile when that sensor has failed (R371, R459). -/
def State.channelSensor (s : State) (n : Nat) : Nat := if s.is (Fld.SYS_TJ_FAULT (8 + n / 4)) then n / 4 else 8 + n / 4

/-- The reading a channel's calibration uses, in 1/16 °C. -/
def State.channelT (s : State) (n : Nat) : Int := s.geti (Fld.SYS_TJ_TJ (s.channelSensor n))

/-- The row of the factory record for a channel, range and temperature. -/
def State.factoryRow (s : State) (n range temp : Nat) : CalSet :=
  match s.factory with
  | some f => ((f.rows.find? (fun r => r.ch == n && r.range == range && r.temp == temp)).map (fun r => r.set)).getD resetSet
  | none => resetSet

/-- The override that names a field of a channel in a range (R381). -/
def State.ovrField {α : Type} (s : State) (n range : Nat) (f : OvrRow → Option α) : Option α :=
  s.ovrRows.findSome? (fun r => if r.ch == n && r.range == range then f r else none)

/-- The results in use for a channel, range and kind: those of the newest measurement (R375). -/
def State.delta (s : State) (n range kind : Nat) : Option CalDelta :=
  s.deltas.find? (fun d => d.ch == n && d.range == range && d.kind == kind)

/-- P_rec of the set of a channel in a range: that of the most recent measurement that contributes (R378). -/
def State.setPRec (s : State) (n range : Nat) (t : Int) : Nat :=
  match s.deltas.find? (fun d => d.ch == n && d.range == range && !d.old) with
  | some d => d.pRec
  | none =>
    match s.ovrRows.find? (fun r => r.ch == n && r.range == range) with
    | some r => r.pRec
    | none => (interpolate (bracket t).1 (bracket t).2 (s.factoryRow n range (bracket t).1).pRec (s.factoryRow n range (bracket t).2).pRec t 0).toNat

/-- The load coefficients of a channel in a range: an override's, else the record's. -/
def State.loadCoefs (s : State) (n range : Nat) : Int × Int × Int :=
  match s.ovrRows.find? (fun r => r.ch == n && r.range == range) with
  | some r => (r.kCg, r.kOfs, r.kSkew)
  | none =>
    match s.factory with
    | some f => ((f.coefs.find? (fun c => c.ch == n && c.range == range)).map (fun c => (c.kCg, c.kOfs, c.kSkew))).getD (0, 0, 0)
    | none => (0, 0, 0)

/-- The target set of a channel in a range at the present reading and load (R371, R375, R378, R381). -/
def State.targetSet (s : State) (n range : Nat) : CalSet :=
  let t := s.channelT n
  let (i, j) := bracket t
  let a := s.factoryRow n range i
  let b := s.factoryRow n range j
  let pRec := s.setPRec n range t
  let dp : Int := (s.get (Fld.CAL_LOAD_P n) : Int) - pRec
  let (kCg, kOfs, kSkew) := s.loadCoefs n range
  let d := fun (kind : Nat) => ((s.delta n range kind).map (fun x => x.vals.headD 0)).getD 0
  let val := fun (o : Option Int) (vi vj k : Int) =>
    match o with
    | some v => interpolate 0 0 v v t (k * dp)
    | none => interpolate i j vi vj t (k * dp)
  let each := fun (o : Option (List Int)) (li lj : List Int) =>
    match o with
    | some l => l
    | none => li.zipWith (fun x y => interpolate i j x y t 0) lj
  { cg := (clampInt 0 0xFFFFF (val ((s.ovrField n range (fun r => r.cg)).map (fun v => (v : Int))) a.cg b.cg kCg + d 1)).toNat
    cofs := clampInt (-32768) 32767 (val (s.ovrField n range (fun r => r.cofs)) a.cofs b.cofs kOfs + d 0)
    skew := clampInt (-512) 511 (val (s.ovrField n range (fun r => r.skew)) a.skew b.skew kSkew + d 3)
    inl := match s.delta n range 2 with
      | some x => x.vals
      | none => (each (s.ovrField n range (fun r => r.inl)) a.inl b.inl).map (clampInt (-32768) 32767)
    taps := (each (s.ovrField n range (fun r => r.taps)) a.taps b.taps).map (clampInt (-524288) 524287)
    pRec := pRec }

/-! ### Sets in force -/

/-- The set in force for a channel in a range, with its tag. -/
def State.setOf (s : State) (n range : Nat) : CalInst :=
  (s.calSets.find? (fun c => c.ch == n && c.range == range)).getD ⟨n, range, 0, resetSet⟩

/-- Load the registers of channel `n` with a set (R224, R226). -/
def State.loadSet (s : State) (n : Nat) (c : CalInst) : State :=
  (((((s.set (Fld.CH_CAL_GAIN n) c.set.cg).seti (Fld.CH_CAL_OFS n) c.set.cofs).seti (Fld.CH_CAL_SKEW_TGT n) c.set.skew).set (Fld.CH_CAL_TAG n) c.tag).set
    (Fld.CAL_LOAD_P_REC n) c.set.pRec).each (List.range 65) (fun i a => a.seti (Fld.CH_INL_BP n i) (c.set.inl.getD i 0))

/-- The taps that channel `n` uses (R227). -/
def State.tapsOf (s : State) (n : Nat) : List Int :=
  match s.get (Lat.EQ_SRC_CUR n) with
  | 1 => (s.setOf n (s.get (Fld.CH_RANGE_CUR n))).set.taps
  | 2 => (List.range 64).map (fun i => s.geti (Fld.CH_EQ_COEF_H n (64 * s.get (Fld.CH_EQ_CFG_ACTIVE n) + i)))
  | _ => resetSet.taps

/-- The values with which the outputs of channel `n` are computed now. -/
def State.pathSet (s : State) (n : Nat) : CalSet where
  cg := s.get (Fld.CH_CAL_GAIN n)
  cofs := s.geti (Fld.CH_CAL_OFS n)
  skew := 0
  inl := (List.range 65).map (fun i => s.geti (Fld.CH_INL_BP n i))
  taps := s.tapsOf n
  pRec := 0

/-- Change what the outputs of channel `n` are computed with: outputs scheduled before now keep the values as they were
(R228). -/
def State.switchSet (s : State) (n : Nat) (f : State → State) : State :=
  let old := s.pathSet n
  let a := f s
  if a.pathSet n = old then a
  else { a with
    lines := (a.lines.filter (fun l => l.ch == n)).map (fun (l : Line) => { l with olds := l.olds ++ [(s.now, old)] })
      ++ a.lines.filter (fun l => l.ch != n) }

/-- P and P_rec in units of 0.25 W for an archive entry (R384). -/
def quarterWatts (mw : Nat) : Nat := min 0xFFFF (mw / 250)

/-- An archive CAL entry of channel `n` (R384). -/
def State.calEntry (s : State) (n kind decision tag pRec : Nat) (fx : Bool) : State :=
  s.archive 11 (unitChannel n) s.now [kind + decision * 2 ^ 8, tag,
    s.get (Fld.CAL_RESID_V_RES n) + s.get (Fld.CAL_RESID_S_RES n) * 2 ^ 16,
    quarterWatts (s.get (Fld.CAL_LOAD_P n)) + quarterWatts pRec * 2 ^ 16] fx

/-- CAL_CH_STATUS and CAL_PEND_TAG of channel `n` follow its pending sets. -/
def State.pendStatus (s : State) (n : Nat) : State :=
  let mine := s.calPends.filter (fun p => p.ch == n)
  let tag := match mine.head? with
    | some p => p.origin * 2 ^ 28 + p.range * 2 ^ 26 + (s.get (Lat.CAL_SEQ n) + 1) % 2 ^ 26
    | none => 0
  s.sets [(Fld.CAL_CH_STATUS_PEND n, if mine.isEmpty then 0 else 1), (Fld.CAL_CH_STATUS_XPEND n, if mine.any (fun p => p.waits) then 1 else 0),
    (Fld.CAL_PEND_TAG n, tag)]

/-- Apply the pending set of channel `n` for `range` (R376, R377, R382). -/
def State.applySet (s : State) (n range : Nat) : State :=
  match s.calPends.find? (fun p => p.ch == n && p.range == range && !p.waits) with
  | none => s
  | some p =>
    let seq := (s.get (Lat.CAL_SEQ n) + 1) % 2 ^ 26
    let inst : CalInst := ⟨n, range, p.origin * 2 ^ 28 + range * 2 ^ 26 + seq, p.set⟩
    let s1 := { s with
      calSets := inst :: s.calSets.filter (fun c => !(c.ch == n && c.range == range))
      calPends := s.calPends.filter (fun q => !(q.ch == n && q.range == range)) }
    let s2 := (s1.set (Lat.CAL_SEQ n) seq).loadSet n inst
    let s3 := s2.sets [(Fld.CAL_RESID_V_RES n, s.get (Lat.CAL_VRES n)), (Fld.CAL_RESID_S_RES n, s.get (Lat.CAL_SRES n)), (Fld.CAL_EVT_SET_APPLIED, 1)]
    (s3.calEntry n 0 0 inst.tag p.set.pRec p.extrap).pendStatus n

/-- Range `range` comes into force on channel `n`: its waiting set applies, else its set in force returns (R232, R376). -/
def State.enterRange (s : State) (n range : Nat) : State :=
  s.switchSet n (fun a =>
    let a1 := a.set (Fld.CH_RANGE_CUR n) range
    (a1.loadSet n (a1.setOf n range)).applySet n range)

/-! ### Forming pending sets -/

/-- |P - P_rec| > 0.25 P_rec (R379). -/
def beyond (p pRec : Nat) : Bool := decide (pRec < 4 * ((p : Int) - pRec).natAbs)

/-- A set becomes pending on channel `n` (R376, R379, R383): a newer one for the same range replaces an older one; a set that
is not EXTRAPOLATED replaces a waiting one; an EXTRAPOLATED one waits for the host unless HOLD withholds it. -/
def State.pendSet (s : State) (n range origin : Nat) (c : CalSet) (force : Bool) : State :=
  let extrap := force || beyond (s.get (Fld.CAL_LOAD_P n)) c.pRec
  let moved := beyond (s.get (Fld.CAL_LOAD_P n)) (s.get (Lat.CAL_HELD_P n)) ||
    decide (32 ≤ (s.channelT n - s.geti (Lat.CAL_HELD_T n)).natAbs)
  if extrap && s.is (Lat.CAL_HELD n) && !moved then s
  else
    let keep := s.calPends.filter (fun p => !(p.ch == n && (p.range == range || (p.waits && !extrap))))
    let s1 := ({ s with calPends := keep ++ [(⟨n, range, origin, c, extrap, extrap, s.now⟩ : CalPend)] }).when extrap
      (fun a => (a.flag Fld.CAL_EVT_XPEND).clr (Lat.CAL_HELD n))
    s1.pendStatus n

/-- Compute the target set of channel `n` in `range`; one that differs from the set in force becomes pending (R371). -/
def State.retarget (s : State) (n range origin : Nat) : State :=
  let c := s.targetSet n range
  let f := (s.setOf n range).set
  if c.cg = f.cg ∧ c.cofs = f.cofs ∧ c.skew = f.skew ∧ c.inl = f.inl ∧ c.taps = f.taps then s else s.pendSet n range origin c false

/-- The sensor of channel `n` reads: the target sets of its ranges are computed again when it has moved by 0.5 °C or more
(R371). -/
def State.calTemperature (s : State) (n : Nat) : State :=
  let t := s.channelT n
  let s1 := s.seti (Fld.CAL_TJ n) t
  if s.factory.isNone && s.ovrRows.isEmpty then s1
  else if s.get (Lat.CAL_T_LAST n) = 0x8000 ∨ 8 ≤ (t - s.geti (Lat.CAL_T_LAST n)).natAbs then
    (s1.seti (Lat.CAL_T_LAST n) t).each (List.range 4) (fun r a => a.retarget n r 0)
  else s1

/-- CAL_FAULT with a code, for channel `n` or the device (255): once per channel and code until its entry is cleared
(R384). -/
def State.calFault (s : State) (n code : Nat) : State :=
  let bit := if n = 255 then 32 else n
  let s1 := if s.is (Fld.LDG_ACTIVE 29) then s else s.resetKeys (fun q => q.r == .L_CAL_RAISED)
  if (s1.get (Lat.CAL_RAISED code)).testBit bit then s1
  else (s1.set (Lat.CAL_RAISED code) (s1.get (Lat.CAL_RAISED code) ||| 1 <<< bit)).raise 29 (if n = 255 then unitBlock 32 else unitChannel n) (n + code * 2 ^ 8)
    (if n = 255 then [] else markChannel n)

end Sys2Proof.Machine
end

