-- ==== Sys2Proof/Machine/Engine.lean ====
section
/-!
DEFINITION. The reel engine: contexts, stacks, cues and their checks, the lookahead window and its loans and heads
(R93 to R96, R123 to R145, R179 to R184).
-/
namespace Sys2Proof.Machine

/-! ### Contexts -/

/-- The state of reel `r` (R123). -/
def State.reelState (s : State) (r : Nat) : Nat := s.get (Fld.REEL_STATE r)

/-- The class of reel `r`. -/
def State.rate (s : State) (r : Nat) : Nat := s.get (Fld.REEL_RATE r)

/-- The first tick at or after `t` on the grid of class `c` (R126). -/
def gridUp (t c : Nat) : Nat := (t + 2 ^ c - 1) / 2 ^ c * 2 ^ c

/-- The destination codes that the image grants reel `r` (R387). -/
def State.grants (s : State) (r : Nat) : List Nat :=
  (List.range 4).flatMap (fun j => [s.get (Fld.TL_GRANT_EVEN r j), s.get (Fld.TL_GRANT_ODD r j)])

/-- A destination code is inside the structure: code 0, or a granted code (R130, R34). -/
def State.inScope (s : State) (r d : Nat) : Bool := d == 0 || (destKind d != 0 && (s.grants r).contains d)

/-- Reel `r` may contribute to channel `n`: one of its granted routes is that channel (R131). -/
def State.mayFeed (s : State) (r n : Nat) : Bool := (s.grants r).contains (512 + n)

/-- A contributing reel leaves IDLE: a host calibration run on its channel ends with ABANDONED (R380). -/
def State.calAbandon (s : State) (r : Nat) : State :=
  let n := s.get (Lat.CAL_RUN_CH)
  if s.is Lat.CAL_RUN && s.mayFeed r n then
    (s.sets [(Lat.CAL_RUN, 0), (Fld.CAL_STATUS_BUSY, 0), (Fld.CAL_CH_STATUS_HOST n, 0), (Fld.CAL_EVT_ABANDONED, 1)])
  else s

/-- Reel `r` enters a state (R124): the reel maps follow, a drive that leaves ARMED, PLAYING, WAITING and HOLDING
outside the stop of a ramp is lost to its group (R283), and leaving IDLE ends a host calibration (R380). -/
def State.enterState (s : State) (r st : Nat) : State :=
  let old := s.reelState r
  let t := tileOfReel r
  let l := r % 128
  let s1 := s.set (Fld.REEL_STATE r) st
  let s2 := if st = 0 then s1.clrBit (Fld.TL_REEL_ACTIVE t) l else s1.setBit (Fld.TL_REEL_ACTIVE t) l
  let s3 := if st = 6 then s2.setBit (Fld.TL_REEL_FAULTED t) l else s2.clrBit (Fld.TL_REEL_FAULTED t) l
  let s4 := if old = 0 ∧ st ≠ 0 then s3.calAbandon r else s3
  if 1 ≤ old ∧ old ≤ 4 ∧ ¬(1 ≤ st ∧ st ≤ 4) then
    match s4.groupOfDrive r with
    | some g => s4.corAbort g 5 none
    | none => s4
  else s4

/-! ### Cues (R137, R138) -/

/-- Dword `i` of a cue. -/
def cueDw (w i : Nat) : Nat := w / 2 ^ (32 * i) % 2 ^ 32

/-- Opcode, a flag field and the RATE field of a cue. -/
def cueOp (w : Nat) : Nat := w % 256
def cueBits (w lo n : Nat) : Nat := bitsOf (cueDw w 0) lo n
def cueRate (w : Nat) : Nat := cueBits w 16 5
/-- LEN of a synthesised cue or CAL_GAP, N of PLAYN, CARD. -/
def cueLen (w : Nat) : Nat := cueDw w 2 + bitsOf (cueDw w 3) 0 8 * 2 ^ 32
def cueN (w : Nat) : Nat := bitsOf (cueDw w 3) 8 24
def cueCard (w : Nat) : Nat := bitsOf (cueDw w 1) 0 18
/-- The 64-bit value in dwords 2 and 3. -/
def cueVal (w : Nat) : Nat := cueDw w 2 + cueDw w 3 * 2 ^ 32

/-- Kind of an opcode: 1 producing, 2 wait, 3 zero-time, 4 terminal, 0 no opcode of R137. -/
def cueKind (op : Nat) : Nat :=
  match op with
  | 0x01 | 0x02 | 0x30 => 1
  | 0x10 | 0x11 | 0x12 => 2
  | 0x00 | 0x08 | 0x09 | 0x0A | 0x0B | 0x18 | 0x20 | 0x21 | 0x22 | 0x23 | 0x28 | 0x29 | 0x2A => 3
  | 0x3E | 0x3F => 4
  | _ => 0

/-- The bits of each dword that a cue may use beside its opcode (R137). -/
def cueMask (w : Nat) : List Nat :=
  let all := 0xFFFFFFFF
  match cueOp w with
  | 0x01 => [0x1F0000, 0x3FFFF, all, 0xFF]
  | 0x02 => [0x1F0000, 0x3FFFF, all, all]
  | 0x08 => [0, all, 0, 0]
  | 0x0A => [0, 0xFFFF, 0, 0]
  | 0x10 => [0x300, 0xFFFF007F, all, 0]
  | 0x11 => [0x700, 0, all, all]
  | 0x12 => if cueBits w 10 2 = 0 then [0xF00, 0x3F, all, all] else [0xF00, 0, 0, 0]
  | 0x18 => [0x300, 0x7F03FFFF, 0, 0]
  | 0x20 => [0x700, 0, all, all]
  | 0x21 => [0x100, 0, all, all]
  | 0x22 => [0xF00, 0x3FFFF, 0x3FFFF, 0x0FFF0FFF]
  | 0x23 => [0x100, 3, 0, 0]
  | 0x28 => [0, 7, all, 0]
  | 0x29 => [0, 0, all, 0]
  | 0x2A => [0, 0xFFFF0007, 0, 0]
  | 0x30 => [0x1F0000, 0, all, 0xFF]
  | 0x3E => [0, 0xFFFF, 0, 0]
  | _ => [0, 0, 0, 0]

/-- A reserved field is not 0, or a field holds an illegal value (R137). -/
def cueReserved (w : Nat) : Bool :=
  let m := cueMask w
  (List.range 4).any (fun i => (cueDw w i) &&& ((m.getD i 0) ||| if i = 0 then 0xFF else 0) != cueDw w i)
    || (cueKind (cueOp w) == 1 && 24 ≤ cueRate w && cueRate w != 31)
    || (cueKind (cueOp w) == 2 && cueBits w 8 2 == 3)
    || (cueOp w == 0x12 && cueBits w 10 2 == 3)
    || (cueOp w == 0x20 && (cueBits w 9 2 == 3 || (cueBits w 9 2 == 2 && cueDw w 3 / 2 ^ 16 != 0)))

/-- VOICE of reel `r`. -/
def State.voice (s : State) (r : Nat) : Nat := s.get (Fld.REEL_VOICE r)

/-- A voice and a destination code do not go together: only REPLAY and PATTERN reach pattern ports, and PATTERN reaches
nothing else (R219). -/
def voiceDestBad (v d : Nat) : Bool := d != 0 && ((destKind d == 2 && v != 0 && v != 5) || (v == 5 && destKind d != 2))

/-- The fault that the checks of R138 find on a cue of reel `r` as it enters the window; 0 for none. What depends on the
class and destinations at the cue's anchor tick is checked there. -/
def State.cueFault (s : State) (r w : Nat) : Nat :=
  let v := s.voice r
  let op := cueOp w
  let play := op == 1 || op == 2
  if cueKind op = 0 then 1
  else if cueReserved w then 2
  else if play && (if v = 0 then cueLen w != 0 else cueCard w != 0) then 4
  else if (op == 2 && cueN w == 0) || (((play && v != 0) || op == 0x30) && cueLen w < 64) then 3
  else if op == 0x12 && (match cueBits w 10 2 with
      | 0 => !(3 ≤ bitsOf (cueDw w 1) 0 6 && bitsOf (cueDw w 1) 0 6 ≤ 48) || 2 ^ bitsOf (cueDw w 1) 0 6 ≤ cueVal w
      | n => !(s.is (Fld.TB_EPOCH_CFG_EN (n - 1)) && (s.epochPeriod (n - 1)).isSome)) then 3
  else if op == 0x20 && ((cueBits w 9 2 ≤ 1 && (v == 0 || v == 4)) || (cueBits w 9 2 == 1 && v != 2)
      || (cueBits w 9 2 == 2 && !s.is (Fld.REEL_RS_EN r))) then 4
  else if cueKind op = 1 && cueRate w != 31 && cueRate w < s.get (Fld.REEL_BOOKED r) then 12
  else if op == 0x22 && ((cueBits w 10 1 == 1 && !s.inScope r (bitsOf (cueDw w 3) 0 12)) || (cueBits w 11 1 == 1 && !s.inScope r (bitsOf (cueDw w 3) 16 12))) then 12
  else if op == 0x22 && ((cueBits w 10 1 == 1 && voiceDestBad v (bitsOf (cueDw w 3) 0 12)) || (cueBits w 11 1 == 1 && voiceDestBad v (bitsOf (cueDw w 3) 16 12))) then 13
  else 0

/-! ### Stacks (R143, R144) -/

/-- A loop entry. -/
structure LoopEnt where
  inf : Bool
  depth : Nat
  body : Nat
  remain : Nat
deriving DecidableEq, Repr

/-- Loop and call stacks, top first. -/
structure Stacks where
  loops : List LoopEnt
  calls : List Nat
deriving DecidableEq, Repr

/-- Return cue `k` of the record. -/
def retKey (r k : Nat) : Key :=
  match k with
  | 0 => Fld.REEL_RET0 r
  | 1 => Fld.REEL_RET1 r
  | 2 => Fld.REEL_RET2 r
  | _ => Fld.REEL_RET3 r

/-- The stacks of reel `r`. -/
def State.stacks (s : State) (r : Nat) : Stacks where
  loops := (((List.range 4).filter (fun k => s.is (Fld.REEL_L_VALID r k))).map (fun k =>
    ⟨s.is (Fld.REEL_L_INF r k), s.get (Fld.REEL_L_DEPTH r k), s.get (Fld.REEL_L_BODY r k), s.get (Fld.REEL_L_REMAIN r k)⟩)).reverse
  calls := ((List.range (s.eng r).callDepth).map (fun k => s.get (retKey r k))).reverse

/-- Write the stacks of reel `r`. -/
def State.setStacks (s : State) (r : Nat) (k : Stacks) : State :=
  let s1 := s.each (List.range 4) (fun i a =>
    match k.loops.reverse[i]? with
    | some e => a.sets [(Fld.REEL_L_VALID r i, 1), (Fld.REEL_L_INF r i, e.inf.toNat), (Fld.REEL_L_DEPTH r i, e.depth), (Fld.REEL_L_BODY r i, e.body), (Fld.REEL_L_REMAIN r i, e.remain)]
    | none => a.sets [(Fld.REEL_L_VALID r i, 0), (Fld.REEL_L_INF r i, 0), (Fld.REEL_L_DEPTH r i, 0), (Fld.REEL_L_BODY r i, 0), (Fld.REEL_L_REMAIN r i, 0)])
  let s2 := s1.each (List.range 4) (fun i a => a.set (retKey r i) ((k.calls.reverse[i]?).getD 0))
  s2.onEng r (fun e => { e with callDepth := k.calls.length })

/-- Where execution goes after a cue. -/
inductive Adv where
  /-- To cue `q` (65,536 when it passes the last cue), with these stacks. -/
  | to (q : Nat) (k : Stacks)
  /-- The script ends. -/
  | ends
  /-- The cue faults with this code. -/
  | err (code : Nat)
deriving DecidableEq, Repr

/-- The cue after cue `q`, and the stacks as the cue leaves them (R142 to R145). -/
def advance (q w : Nat) (k : Stacks) : Adv :=
  match cueOp w with
  | 0x08 =>
    if 4 ≤ k.loops.length then .err 5
    else .to (q + 1) { k with loops := ⟨cueDw w 1 == 0, k.calls.length, q + 1, cueDw w 1 - 1⟩ :: k.loops }
  | 0x09 =>
    match k.loops with
    | [] => .err 6
    | e :: rest =>
      if e.depth ≠ k.calls.length then .err 9
      else if e.inf then .to e.body k
      else if 0 < e.remain then .to e.body { k with loops := { e with remain := e.remain - 1 } :: rest }
      else .to (q + 1) { k with loops := rest }
  | 0x0A => if 4 ≤ k.calls.length then .err 7 else .to (bitsOf (cueDw w 1) 0 16) { k with calls := (q + 1) :: k.calls }
  | 0x0B =>
    match k.calls with
    | [] => .err 8
    | c :: rest => if k.loops.any (fun e => e.depth == k.calls.length) then .err 9 else .to c { k with calls := rest }
  | 0x3E | 0x3F => .ends
  | _ => .to (q + 1) k

/-- Pop both stacks to given depths (R175). -/
def Stacks.popTo (k : Stacks) (loops calls : Nat) : Stacks where
  loops := k.loops.drop (k.loops.length - loops)
  calls := k.calls.drop (k.calls.length - calls)

/-! ### The window (R93, R141) -/

/-- Byte address of cue `q` of tile `t`'s script banks (R137). -/
def cueAddr (t q : Nat) : Nat := t * 0x400000 + 0x40000 + 16 * q

/-- The ramp entry `i` of reel `r`'s table, as four 64-bit values (R212). -/
def State.rampEntry (s : State) (r i : Nat) : List Nat :=
  (List.range 4).map (fun k => s.spLe (spWord (tileOfReel r) (s.get (Fld.REEL_RTAB_BASE r)) + 32 * i + 8 * k) 8)

/-- Read cue `q` for reel `r` as it enters the window, with the ramp entry it will use (R141, R213); past cue 65,535 there is
no cue but the fault SCRIPT_END (R145). -/
def State.readCue (s : State) (r q ridx : Nat) : WinCue :=
  if 65536 ≤ q then ⟨q, 0, 11, []⟩
  else
    let w := s.spLe (cueAddr (tileOfReel r) q) 16
    let play := cueOp w == 1 || cueOp w == 2
    let cached := s.voice r == 0 && play && s.cards.contains (tileOfReel r, cueCard w)
    let f := s.cueFault r w
    ⟨q, w, if f = 0 && cached && s.cardInvalid (cueCard w) then 15 else f,
      if s.voice r = 4 && play then s.rampEntry r (ridx % max 1 (s.get (Fld.REEL_RCNT r))) else []⟩

/-- Walk the cues that reel `r` will execute from cue `q` with given stacks: cues already in the window keep what was
read. A chain walk stops after the first cue that is not zero-time; every walk stops at a terminal or faulty cue. -/
def State.walk (s : State) (r : Nat) (chain : Bool) : Nat → List WinCue → Nat → Stacks → Nat → List (WinCue × Stacks)
  | 0, _, _, _, _ => []
  | fuel + 1, old, q, k, ridx =>
    let (c, rest) := match old with
      | [] => (s.readCue r q ridx, [])
      | h :: l => if h.q = q then (h, l) else (s.readCue r q ridx, [])
    if c.fault ≠ 0 ∨ (chain ∧ cueKind (cueOp c.w) ≠ 3) then [(c, k)]
    else
      let ridx' := if cueOp c.w = 1 ∨ cueOp c.w = 2 then ridx + 1 else ridx
      match advance q c.w k with
      | .to q' k' => (c, k) :: s.walk r chain fuel rest q' k' ridx'
      | _ => [(c, k)]

/-- The cards that cues refer to (R93): those of PLAY and PLAYN of a REPLAY reel. -/
def cardsOf (voice : Nat) (l : List WinCue) : List Nat :=
  if voice = 0 then ((l.filter (fun c => (cueOp c.w == 1 || cueOp c.w == 2) && c.fault != 2 && c.fault != 11)).map (fun c => cueCard c.w)).dedup else []

/-- Every card in reel `r`'s window. -/
def State.windowCards (s : State) (r : Nat) : List Nat :=
  let e := s.eng r
  (cardsOf (s.voice r) (e.window ++ e.targets.flatMap (fun p => p.2))).dedup

/-- The targets that the window of reel `r` holds chains for, with the stacks a cut or time-out would leave (R93). -/
def State.targetsWanted (s : State) (r : Nat) (win : List (WinCue × Stacks)) : List (Nat × Stacks) :=
  let e := s.eng r
  let armed := if s.is (Fld.REEL_CUT_ARMED r) then [(s.get (Fld.REEL_CUT_TARGET r), (s.stacks r).popTo e.cutLoops e.cutCalls)] else []
  let committed := match e.commit with
    | some c => [(c.target, (s.stacks r).popTo c.loops c.calls)]
    | none => []
  let cutifs := (win.filter (fun p => cueOp p.1.w == 0x18 && cueBits p.1.w 8 1 == 0 && p.1.fault == 0)).map (fun p => (bitsOf (cueDw p.1.w 1) 0 16, p.2))
  let tmo := (win.filter (fun p => cueOp p.1.w == 0x10 && cueDw p.1.w 2 != 0 && p.1.fault == 0)).map (fun p => (bitsOf (cueDw p.1.w 1) 16 16, p.2))
  let recover := if s.get (Fld.REEL_LATE_POL r) = 3 then [(s.get (Fld.REEL_RECOVER r), (⟨[], []⟩ : Stacks))] else []
  armed ++ committed ++ cutifs ++ recover ++ tmo

/-! ### Loans and heads of a window -/

/-- A fault on its way to reel `r` (R158); of two, the earlier stands. -/
def State.pendFault (s : State) (r code t : Nat) : State :=
  s.onEng r (fun e => match e.fault with
    | some (_, t') => if t' ≤ t then e else { e with fault := some (code, t) }
    | none => { e with fault := some (code, t) })

/-- Reel `r` takes a loan on card `k` (R93, R96, R106, R470). -/
def State.takeLoan (s : State) (r k : Nat) : State :=
  let c := s.card k
  if s.onLoan r k then s
  else if c.valid && !s.cardBad c && c.streamed && (s.boundCard c.stream).map (·.1) != some k then s.pendFault r 19 (wordNext s.now)
  else if c.valid && !s.cardBad c && c.streamed && s.loanCount k != 0 then s.pendFault r 17 (wordNext s.now)
  else if s.loanCount k = 0 then
    let s1 := { s with loans := s.loans ++ [⟨r, k, s.now, false⟩] }
    let ovf := (s.coveredLeaves c).any (fun l => 15 ≤ (s.loanedCards.filter (fun k' => (s.coveredLeaves (s.card k')).contains l)).length)
    if ovf then (s.flag Fld.MS_EVT_LOAN_OVF).pendFault r 16 (wordNext s.now) else s1
  else { s with loans := s.loans ++ [⟨r, k, s.now, s.loans.all (fun l => l.card != k || l.inForce)⟩] }

/-- Reel `r` returns its loan on card `k`; the retained leaf of a REPEAT reel returns with it (R94, R101). -/
def State.returnLoan (s : State) (r k : Nat) : State :=
  let s1 := { s with loans := s.loans.filter (fun l => !(l.reel == r && l.card == k)) }
  match (s.card k).streamed, s.boundCard (s.card k).stream with
  | true, some (k', c) => if k' = k then s1.clr (Lat.STRM_RET c.stream) else s1
  | _, _ => s1

/-- Return every loan of reel `r` (R94). -/
def State.returnLoans (s : State) (r : Nat) : State :=
  s.each ((s.loans.filter (fun l => l.reel == r)).map (fun l => l.card)) (fun k a => a.returnLoan r k)

/-- The cards of reel `r`'s window that are headed: the first producing cue of the armed cut's target chain and of RECOVER
(R182). -/
def State.headedCards (s : State) (r : Nat) : List Nat :=
  let e := s.eng r
  let keys := (if s.is (Fld.REEL_CUT_ARMED r) then [s.get (Fld.REEL_CUT_TARGET r)] else []) ++ (match e.commit with | some c => [c.target] | none => [])
    ++ (if s.get (Fld.REEL_LATE_POL r) = 3 then [s.get (Fld.REEL_RECOVER r)] else [])
  if s.voice r ≠ 0 ∨ ¬(1 ≤ s.reelState r ∧ s.reelState r ≤ 4) then []
  else (keys.filterMap (fun q => do
    let l ← (e.targets.find? (fun p => p.1 == q)).map (·.2)
    let c ← l.getLast?
    if cueOp c.w == 1 || cueOp c.w == 2 then
      let d := s.card (cueCard c.w)
      if d.valid && d.cutReady && !d.streamed then some (cueCard c.w) else none
    else none)).dedup

/-- The head slots of tile `t` follow its windows (R183). `was` holds the cards that reel `r` had headed before; a card newly
headed that finds no free slot counts a head miss. -/
def State.headsUpdate (s : State) (r : Nat) (was : List Nat) : State :=
  let t := tileOfReel r
  let want := ((s.engines.filter (fun e => tileOfReel e.reel == t)).flatMap (fun e => s.headedCards e.reel)).dedup
  let s1 := { s with heads := s.heads.filter (fun h => h.1 != t || want.contains h.2.1) }
  let s2 := s1.each ((s.headedCards r).filter (fun k => !(s1.heads.any (fun h => h.1 == t && h.2.1 == k)))) (fun k a =>
    if (a.heads.filter (fun h => h.1 == t)).length < 60 then { a with heads := a.heads ++ [(t, k, false)] }
    else if was.contains k then a
    else (a.bump (Fld.TL_HEAD_MISS_MISS t)).flag (Fld.TL_CUT_EVT_HEAD_MISS t))
  let n := (s2.heads.filter (fun h => h.1 == t)).length
  (s2.set (Fld.TL_HEAD_STATUS_USED t) n).set (Fld.TL_HEAD_STATUS_MAX_USED t) (max n (s2.get (Fld.TL_HEAD_STATUS_MAX_USED t)))

/-- PRIMED: every loan of the window is in force and every head slot it uses is filled (R161). -/
def State.primedUpdate (s : State) (r : Nat) : State :=
  let ok := s.loans.all (fun l => l.reel != r || l.inForce)
    && (s.headedCards r).all (fun k => s.heads.all (fun h => h.1 != tileOfReel r || h.2.1 != k || h.2.2))
  s.set (Fld.REEL_PRIMED r) (ok && 1 ≤ s.reelState r && s.reelState r ≤ 4).toNat

/-- Build the window of reel `r` whose current cue is `cur`, with the cues that follow from cue `q`: cues that were in the
window keep what was read unless `again`. Cards that enter are taken on loan, cards that leave are returned (R93 to
R96, R141), and an out-of-scope cue is recorded (R34). -/
def State.buildWindow (s : State) (r : Nat) (cur : List WinCue) (q : Nat) (again : Bool) : State :=
  let e := s.eng r
  let was := s.headedCards r
  let ridx := s.get (Fld.REEL_RIDX r) + (cur.filter (fun c => cueOp c.w == 1 || cueOp c.w == 2)).length
  let win := s.walk r false 16 (if again then [] else e.window.drop cur.length) q (s.stacks r) ridx
  let wanted := s.targetsWanted r win
  let targets := wanted.map (fun p =>
    match (if again then none else e.targets.find? (fun x => x.1 == p.1)) with
    | some x => x
    | none => (p.1, (s.walk r true 17 [] p.1 p.2 (s.get (Fld.REEL_RIDX r) + 1)).map (·.1)))
  let s1 := s.onEng r (fun e => { e with window := cur ++ win.map (·.1), targets := targets })
  let s2 := s1.when ((s1.eng r).window.any (fun c => c.fault == 12) && !e.window.any (fun c => c.fault == 12))
    (fun a => a.raiseOnce 16 (unitReel r) r (markReel r))
  let cards := s2.windowCards r
  let s3 := s2.each cards (fun k a => a.takeLoan r k)
  let s4 := s3.each ((s3.loans.filter (fun l => l.reel == r && !cards.contains l.card)).map (fun l => l.card)) (fun k a => a.returnLoan r k)
  (s4.headsUpdate r was).primedUpdate r

/-- Empty the window of reel `r`, with its loans and heads (R94, R183). -/
def State.dropWindow (s : State) (r : Nat) : State :=
  ((s.returnLoans r).onEng r (fun e => { e with window := [], targets := [] })).headsUpdate r []
    |>.clr (Fld.REEL_PRIMED r)

end Sys2Proof.Machine
end

