-- ==== Sys2Proof/Machine/Signature.lean ====
section
/-!
DEFINITION. Signed objects (R409 to R414, R426): reading bytes, the signature block, the keys and what verifies with them.
-/
namespace Sys2Proof.Machine

/-- The little-endian dword at byte `o` of an object (R18). -/
def dwordAt (l : List (BitVec 8)) (o : Nat) : Nat := leValue ((l.drop o).take 4)

/-- `n` bytes of an object from byte `o`. -/
def slice (l : List (BitVec 8)) (o n : Nat) : List (BitVec 8) := (l.drop o).take n

/-- The bytes of an ASCII tag (R411). -/
def tagBytes (t : String) : List (BitVec 8) := t.toList.map (fun c => BitVec.ofNat 8 c.toNat)

/-- D, the digest of covered bytes (R411). -/
def digestOf (l : List (BitVec 8)) : Nat := (Config.shake256 l).toNat

/-- The message that is signed: the object's tag, then D (R411). -/
def signedMessage (tag : String) (covered : List (BitVec 8)) : List (BitVec 8) := tagBytes tag ++ leBytes 64 (digestOf covered)

/-- A signature block of 1,288 bytes keeps its layout and verifies under a key that is present (R411). -/
def sigBlockOk (key : List (BitVec 8)) (tag : String) (covered block : List (BitVec 8)) : Bool :=
  let n := leValue (block.take 2)
  !key.isEmpty && block.length == 1288 && decide (1 ≤ n) && decide (n ≤ 1280) && (slice block 2 6).all (· == 0) && (block.drop (8 + n)).all (· == 0) &&
    Config.falconOk (key, signedMessage tag covered, slice block 8 n)

/-- A signature block over covered bytes (R411). -/
def sigBlock (key : List (BitVec 8)) (tag : String) (covered : List (BitVec 8)) (seed : Nat) : List (BitVec 8) :=
  let sig := (Config.falconSign (key, signedMessage tag covered, seed)).take 1280
  leBytes 2 sig.length ++ leBytes 6 0 ++ sig ++ List.replicate (1280 - sig.length) 0

/-- The life-cycle state (R416). -/
def State.lc (s : State) : Nat := s.get Fld.SEC_STATUS_LC

/-- The SIGNER code that the life-cycle state calls for on an image (R414), if images are taken at all. -/
def State.imageSigner (s : State) : Option Nat :=
  match s.lc with
  | 1 => some 1
  | 2 => some 0
  | 3 => some 0
  | 4 => some 1
  | _ => none

/-- The public key of an image's signer: OWNER for 0, VENDOR for 1. -/
def State.signerKey (s : State) (n : Nat) : List (BitVec 8) := if n = 0 then s.ownerKey else s.vendorKey

/-- The signature, signer and layout of an image or tile part hold (R385, R412, R414, R424). -/
def State.imageSigned (s : State) (img : List (BitVec 8)) : Bool :=
  let len := dwordAt img 8
  let signer := dwordAt img 32 % 2
  !s.is Fld.SEC_STATUS_ERROR && decide (1544 ≤ len) && decide (len ≤ img.length) && s.imageSigner == some signer &&
    sigBlockOk (s.signerKey signer) "TRXIMG01" (img.take (len - 1288)) (slice img (len - 1288) 1288)

/-- The DEV_UID that the fuses hold (R417). -/
def State.uid (s : State) : Nat := s.getDwords Fld.SEC_UID 0 4

end Sys2Proof.Machine
end

