-- ==== Sys2Proof/Machine/Calibration.lean ====
section
/-!
DEFINITION. The calibration service's commands: the RCAL check, background and host measurements, decisions on extrapolated
sets, overrides (R368 to R384). What a measurement finds comes with its command.
-/
namespace Sys2Proof.Machine

/-- RCAL_CHECK: RCAL is read, in mΩ; beyond 1 % of 2.000 kΩ it is bad (R368). -/
def execRcalCheck (mohm : Nat) (s : State) : Res :=
  let ok : Bool := decide (1980000 ≤ mohm ∧ mohm ≤ 2020000)
  .next (((s.set Fld.CAL_RCAL mohm).set Fld.CAL_STATUS_RCAL_OK ok.toNat).when (!ok) (fun a => a.calFault 255 1))

/-- The result of a measurement is plausible (R383): ΔCOFS within 2 mV, ΔCG within 0.5 %, ΔSKEW within 3 ps. -/
def plausible (range kind : Nat) (v : Int) : Bool :=
  match kind with
  | 0 => decide (v.natAbs * (1600 / 2 ^ range) ≤ 2 * 256 * 65536)
  | 1 => decide (v.natAbs * 200 ≤ 0x40000)
  | _ => decide (v.natAbs ≤ 300)

/-- A result joins those in use, in place of the older one of its kind (R375). -/
def State.putDelta (s : State) (d : CalDelta) : State :=
  { s with deltas := d :: s.deltas.filter (fun x => !(x.ch == d.ch && x.range == d.range && x.kind == d.kind)) }

/-- A result is taken, or discarded as implausible with CAL_FAULT and a failure entry (R375, R383, R384). -/
def State.takeResult (s : State) (n range kind : Nat) (vals : List Int) (p : Nat) : State :=
  if kind = 2 || plausible range kind (vals.headD 0) then
    ((s.putDelta ⟨n, range, kind, vals, p, false⟩).flag Fld.CAL_EVT_MEAS_DONE).calEntry n 1 0 (s.get (Fld.CH_CAL_TAG n)) p false
  else ((s.flag Fld.CAL_EVT_MEAS_FAIL).calFault n 3).calEntry n 4 0 (s.get (Fld.CH_CAL_TAG n)) p false

/-- Measurement kinds of CAL_MEAS_COMPLETE: offset 0, gain 1, skew 3 (R374, CAL_ARG). -/
def measKind (k : Nat) : Nat := if k = 2 then 3 else k

/-- CAL_MEAS_COMPLETE: a background measurement of channel `n` completes with its Δ, the load in mW averaged over its words and
the residual it verified (V_RES in 0.1 µV for gain, S_RES in fs for skew) (R372 to R375, R382, R383). -/
def execCalMeasComplete (n : Fin 32) (kind : Fin 3) (delta : Int) (p res : Nat) (s : State) : Res :=
  let range := s.get (Fld.CH_RANGE_CUR n)
  let ok := s.is Fld.CAL_CTRL_BG_EN && s.get (Fld.CH_STATUS_STATE n) == 3 && !s.is (Fld.CAL_CH_STATUS_HOST n) && !s.is (Lat.CC_HALTED (n / 4))
    && (s.is Fld.CAL_STATUS_RCAL_OK || kind == 2)
  .next <|
    if !ok then s
    else
      let s1 := (s.clr (Fld.CAL_CH_STATUS_MEAS n)).set (Fld.CAL_LOAD_P n) p
      let s2 := match kind with
        | 0 => s1
        | 1 => s1.set (Lat.CAL_VRES n) res
        | 2 => s1.set (Lat.CAL_SRES n) res
      (s2.takeResult n range (measKind kind) [delta] p).retarget n range 1

/-- CAL_MEAS_TIMEOUT: a measurement of channel `n` is abandoned after TMO seconds and starts again (R374). -/
def execCalMeasTimeout (n : Fin 32) (s : State) : Res :=
  .next (if s.is Fld.CAL_CTRL_BG_EN && s.get (Fld.CH_STATUS_STATE n) == 3 then (s.bump (Fld.CAL_CH_STATUS_TMO_CNT n)).flag (Fld.CAL_CH_STATUS_MEAS n) else s)

/-- CAL_LOAD_EXTRAP: the load of channel `n`, `p` mW, has stayed beyond the bound of the set in force for 1 s: an EXTRAPOLATED set
is formed (R378, R379). -/
def execCalLoadExtrap (n : Fin 32) (p : Nat) (s : State) : Res :=
  let s1 := s.set (Fld.CAL_LOAD_P n) p
  let range := s.get (Fld.CH_RANGE_CUR n)
  .next (if beyond p (s1.setOf n range).set.pRec then s1.pendSet n range 0 (s1.targetSet n range) true else s1)

/-- A decision of CAL_XDEC[n]: refused with more than one bit or while XPEND = 0 (R379). -/
def State.decide_ (s : State) (n : Nat) (multi : Bool) (d : Nat) (f : State → State) : State :=
  if multi || !s.is (Fld.CAL_CH_STATUS_XPEND n) then s.flag Fld.CAL_EVT_CMD_REFUSED
  else
    let p := (s.calPends.find? (fun p => p.ch == n && p.waits)).map (fun p => p.set.pRec)
    ((f s).calEntry n 2 d (s.get (Fld.CAL_PEND_TAG n)) (p.getD 0) true).pendStatus n

/-- The waiting sets of a channel are discarded. -/
def State.dropWaiting (s : State) (n : Nat) : State := { s with calPends := s.calPends.filter (fun p => !(p.ch == n && p.waits)) }

/-- ACCEPT: the extrapolated set applies at the next channel boundary (R379). -/
def execCalAccept (n : Fin 32) (multi : Bool) (s : State) : Res :=
  .next (s.onHost fun s => (s.decide_ n multi 1 (fun a => { a with calPends := a.calPends.map (fun (p : CalPend) => if p.ch == (n : Nat) && p.waits then { p with waits := false, asked := s.now } else p) })))

/-- REMEASURE: the set is discarded and measurements start at the present load (R379). -/
def execCalRemeasure (n : Fin 32) (multi : Bool) (s : State) : Res :=
  .next (s.onHost fun s => (s.decide_ n multi 2 (fun a => (a.dropWaiting n).flag (Fld.CAL_CH_STATUS_MEAS n))))

/-- CAL_HOLD: the set is discarded, and no further extrapolated set is formed until load or temperature has moved (R379). -/
def execCalHold (n : Fin 32) (multi : Bool) (s : State) : Res :=
  .next (s.onHost fun s => (s.decide_ n multi 3 (fun a => ((a.dropWaiting n).sets [(Lat.CAL_HELD n, 1), (Lat.CAL_HELD_P n, s.get (Fld.CAL_LOAD_P n))]).seti (Lat.CAL_HELD_T n) (s.channelT n))))

/-- A refused CAL_CMD (R380, R381). -/
def State.calRefuse (s : State) (res : Nat) : State := (s.set Fld.CAL_STATUS_RESULT res).flag Fld.CAL_EVT_CMD_REFUSED

/-- CAL_RUN: CAL_CMD.RUN starts a host calibration of the channel in CAL_ARG (R368, R380). -/
def execCalRun (multi : Bool) (s : State) : Res :=
  let n := s.get Fld.CAL_ARG_CH
  .next <| s.onHost fun s =>
    if multi then s.calRefuse 5
    else if s.is Fld.CAL_STATUS_BUSY || s.get (Fld.CH_STATUS_STATE n) != 3 || s.activeReels.any (fun r => s.mayFeed r n) then s.calRefuse 1
    else if !s.is Fld.CAL_STATUS_RCAL_OK then s.calRefuse 2
    else s.sets [(Fld.CAL_STATUS_BUSY, 1), (Fld.CAL_STATUS_RESULT, 0), (Lat.CAL_RUN, 1), (Lat.CAL_RUN_CH, n), (Lat.CAL_RUN_RANGE, s.get Fld.CAL_ARG_RANGE),
      (Lat.CAL_RUN_KINDS, s.get Fld.CAL_ARG_KINDS), (Fld.CAL_CH_STATUS_HOST n, 1)]

/-- The host run ends. -/
def State.calRunEnd (s : State) : State :=
  s.sets [(Lat.CAL_RUN, 0), (Fld.CAL_STATUS_BUSY, 0), (Fld.CAL_CH_STATUS_HOST (s.get Lat.CAL_RUN_CH), 0)]

/-- CAL_ABORT: CAL_CMD.ABORT ends a host run; nothing applies (R380). -/
def execCalAbort (multi : Bool) (s : State) : Res :=
  .next (s.onHost fun s => (if multi then s.calRefuse 5 else if s.is Lat.CAL_RUN then s.calRunEnd else s))

/-- CAL_HOST_RUN_DONE: a host run completes: the kinds it measured, the load averaged over its words and its residuals
(R380, R382). -/
def execCalHostRunDone (ofs gain : Int) (inl : List Int) (skew : Int) (p vres sres : Nat) (s : State) : Res :=
  let n := s.get Lat.CAL_RUN_CH
  let range := s.get Lat.CAL_RUN_RANGE
  let kinds := s.get Lat.CAL_RUN_KINDS
  .next <|
    if !s.is Lat.CAL_RUN then s
    else
      let s1 := ((s.calRunEnd.set (Fld.CAL_LOAD_P n) p).set (Lat.CAL_VRES n) vres).when (kinds.testBit 3) (fun a => a.set (Lat.CAL_SRES n) sres)
      let s2 := (s1.when (kinds.testBit 0) (fun a => a.takeResult n range 0 [ofs] p)).when (kinds.testBit 1) (fun a => a.takeResult n range 1 [gain] p)
      let s3 := (s2.when (kinds.testBit 2) (fun a => a.takeResult n range 2 ((List.range 65).map (fun i => clampInt (-32768) 32767 (inl.getD i 0))) p)).when (kinds.testBit 3)
        (fun a => a.takeResult n range 3 [skew] p)
      s3.pendSet n range 2 (s3.targetSet n range) false

/-- The life-cycle states in which an override is taken: PROVISIONED and FIELD (R381, R414). -/
def State.overridesTaken (s : State) : Bool := s.get Fld.SEC_STATUS_LC == 2 || s.get Fld.SEC_STATUS_LC == 3

/-- OVR_LOAD: CAL_CMD.OVR_LOAD starts the load of the record at CAL_OVR_ADDR (R381). -/
def execOvrLoad (multi : Bool) (s : State) : Res :=
  .next <| s.onHost fun s =>
    if multi then s.calRefuse 5
    else if s.is Fld.CAL_STATUS_BUSY || !s.overridesTaken then s.calRefuse 1
    else s.sets [(Fld.CAL_STATUS_BUSY, 1), (Fld.CAL_STATUS_RESULT, 0), (Lat.OVR_BUSY, 1)]

/-- An override takes effect: its rows stand before older ones, its counter becomes CAL_OVR_CNT, results taken before it no longer
give P_rec (R378, R381). -/
def State.acceptOverride (s : State) (rec : OvrRecord) : State :=
  let names := fun (n range : Nat) => rec.rows.any (fun r => r.ch == n && r.range == range)
  { s.sets [(Fld.CAL_OVR_CNT, rec.counter), (Lat.OVR_CNT, rec.counter), (Lat.M_OVR, rec.digest)] with
    ovrRows := rec.rows ++ s.ovrRows
    deltas := s.deltas.map (fun (d : CalDelta) => if names d.ch d.range then { d with old := true } else d) }

/-- The verification of an override ends (R381, R424): refused with SIG or ROLLBACK, or accepted, with pending sets of origin 3 for
the channels it names. -/
def State.overrideLoaded (s : State) (rec : OvrRecord) : State :=
  if !rec.sigOk || rec.uid != s.uid || s.is Fld.SEC_STATUS_ERROR || s.ownerKey.isEmpty then s.calRefuse 3
  else if rec.counter < s.get Fld.CAL_OVR_CNT then s.calRefuse 4
  else
    let s1 := ((s.acceptOverride rec).set Fld.CAL_STATUS_RESULT 0).flag Fld.CAL_EVT_OVR_DONE
    s1.each ((rec.rows.map (fun r => (r.ch, r.range))).dedup) (fun q a =>
      let c := a.targetSet q.1 q.2
      (a.pendSet q.1 q.2 3 c false).calEntry q.1 3 0 (a.get (Fld.CAL_PEND_TAG q.1)) c.pRec (beyond (a.get (Fld.CAL_LOAD_P q.1)) c.pRec))

/-- OVR_LOAD_DONE: the verification of the record ends (R381). -/
def execOvrLoadDone (rec : OvrRecord) (s : State) : Res :=
  .next (if s.is Lat.OVR_BUSY then (s.sets [(Lat.OVR_BUSY, 0), (Fld.CAL_STATUS_BUSY, 0)]).overrideLoaded rec else s)

/-! ### The factory record at boot (R370) -/

/-- A verified factory record takes effect: TB_ANCHOR_TGT at the reading of sensor 20, the ports' delay zeros, and target sets for
every channel (R370, R371). -/
def State.takeFactory (s : State) (f : CalRecord) : State :=
  let t := s.geti (Fld.SYS_TJ_TJ 20)
  let b := bracket t
  let s1 := { s with factory := some f }
  let s2 := (s1.seti Fld.TB_ANCHOR_TGT (interpolate b.1 b.2 (f.anchor.getD b.1 0) (f.anchor.getD b.2 0) t 0)).each f.loopback (fun q a => a.seti (Fld.PP_DLY_ZERO q.1) q.2.2)
  (s2.sets [(Fld.CAL_STATUS_REC_OK, 1), (Fld.CAL_REC_ID, f.id)]).each (List.range 32) (fun n a => (a.set (Lat.CAL_T_LAST n) 0x8000).calTemperature n)

/-- The factory record of the boot source: it takes effect, or is missing or fails verification (R370, R412). -/
def State.loadFactory (s : State) (f : Option CalRecord) : State :=
  match f with
  | some f => if f.sigOk && f.uid == s.uid && !s.vendorKey.isEmpty then s.takeFactory f else (s.flag Fld.CAL_EVT_REC_MISSING).calFault 255 2
  | none => (s.flag Fld.CAL_EVT_REC_MISSING).calFault 255 2

end Sys2Proof.Machine
end

