-- ==== Sys2Proof/Machine/Irq.lean ====
section
/-!
DEFINITION. The interrupt controller: sources, presentation, claim and end of service (R324 to R333).
-/
namespace Sys2Proof.Machine

/-- The enabled status bits of an event register. -/
def State.enabled (s : State) (r : RName) (i : Nat) (mask : Nat) : Bool := (s.word r i 0 &&& mask) != 0

/-- The request of source `n` before IC_ROUTE.EN (R324, IC_PEND). -/
def State.request (s : State) (n : Nat) : Bool :=
  if n ≤ 12 then s.is (Fld.LDG_NOTIFY n)
  else if n = 16 then s.word .TB_EVT 0 0 != 0
  else if n = 17 then s.word .MS_EVT 0 0 != 0
  else if n = 18 then s.word .EV_EVT 0 0 != 0
  else if 19 ≤ n ∧ n ≤ 22 then s.enabled .COR_GRP_EVT (n - 19) (s.get (Fld.COR_IRQ_EN (n - 19)))
  else if n = 23 then s.enabled .SEC_EVT 0 (s.get Fld.SEC_IRQ_EN)
  else if n = 24 then s.enabled .IC_ARC_EVT 0 (s.get Fld.IC_ARC_IRQ_EN)
  else if n = 25 then (List.range 48).any (fun k => s.is (Fld.LDG_NOTIFY (16 + k)))
  else if n = 26 then s.word .IC_EVT 0 0 != 0
  else if n = 27 then s.enabled .AON_EVT 0 (s.get Fld.AON_IRQ_EN)
  else if n = 28 then s.enabled .DMA_EVT 0 (s.get Fld.DMA_IRQ_EN)
  else if n = 29 then s.enabled .CAL_EVT 0 (s.get Fld.CAL_IRQ_EN)
  else if n = 30 then s.enabled .LK_STUDIO_EVT 0 (s.get Fld.LK_STUDIO_IRQ_EN)
  else if 48 ≤ n ∧ n ≤ 79 then
    let t := (n - 48) / 4
    match (n - 48) % 4 with
    | 0 => s.enabled .TL_REEL_EVT t (s.get (Fld.TL_IRQ_EN_REEL t))
    | 1 => s.enabled .TL_CUT_EVT t (s.get (Fld.TL_IRQ_EN_CUT t))
    | 2 => s.enabled .TL_VSTG_EVT t (s.get (Fld.TL_IRQ_EN_VSTG t)) || s.enabled .TL_SP_EVT t (s.get (Fld.TL_IRQ_EN_SP t))
    | _ => s.is (Fld.TL_CC_IRQ_REQ t)
  else if 80 ≤ n ∧ n ≤ 111 then s.enabled .CH_EVT (n - 80) (s.get (Fld.CH_IRQ_EN (n - 80)))
  else if 112 ≤ n ∧ n ≤ 159 then s.enabled .PP_EVT (n - 112) (s.get (Fld.PP_IRQ_EN (n - 112)))
  else if 160 ≤ n ∧ n ≤ 175 then s.enabled .LK_EVT (n - 160) (s.get (Fld.LK_IRQ_EN (n - 160)))
  else if 176 ≤ n ∧ n ≤ 199 then s.enabled .TIU_EVT (n - 176) (s.get (Fld.TIU_IRQ_EN (n - 176)))
  else if 200 ≤ n ∧ n ≤ 231 then (s.get (Fld.IC_EVC_STAT)).testBit (n - 200)
  else if 232 ≤ n ∧ n ≤ 247 then
    (List.range 4).any (fun j => s.enabled .DMA_Q_EVT (4 * (n - 232) + j) (s.get (Fld.DMA_Q_IRQ_EN (4 * (n - 232) + j))))
  else if 248 ≤ n ∧ n ≤ 255 then (s.get Fld.IC_SW_STAT).testBit (n - 248)
  else false

/-- Source `n` requests: its status is high and its route is enabled (R325). -/
def State.requesting (s : State) (n : Nat) : Bool := s.is (Fld.IC_ROUTE_EN n) && s.request n

/-- Target `t` is awake (R326); targets 12 to 15 are always asleep (R325). -/
def State.awake (s : State) (t : Nat) : Bool :=
  if t < 4 then !s.is (Fld.SYS_PF_CFG_D3HOT t) && s.is (Fld.SYS_PF_CFG_MSIX_EN t) && !s.is (Lat.PF_FMASK t)
  else t < 12 && !s.is (Lat.CC_SLEEP (t - 4))

/-- The effective target of a source, with whether it is the secondary one (R326). -/
def State.target (s : State) (n : Nat) : Option (Nat × Bool) :=
  if s.awake (s.get (Fld.IC_ROUTE_PRI n)) then some (s.get (Fld.IC_ROUTE_PRI n), false)
  else if s.is (Fld.IC_ROUTE_SEC_EN n) && s.awake (s.get (Fld.IC_ROUTE_SEC n)) then some (s.get (Fld.IC_ROUTE_SEC n), true)
  else none

/-- The lowest-numbered requesting source whose effective target is `t`, with whether `t` is its secondary (R327). -/
def State.candidate (s : State) (t : Nat) : Option (Nat × Bool) :=
  (List.range 256).findSome? (fun n =>
    if s.requesting n then
      match s.target n with
      | some (t', b) => if t' = t then some (n, b) else none
      | none => none
    else none)

/-- The vector of an MSI-X message for a source (R327). -/
def State.vectorOf (s : State) (t n : Nat) : Nat := if n ≤ 15 && s.is (Fld.IC_TGT_CFG_CRIT_VEC t) then 1 else 0

/-- The mask bit of an MSI-X table entry: bit 0 of its fourth dword (R433). -/
def vectorMask (pf vec : Nat) : Key := Fld.SYS_MSIX pf (4 * vec + 3)

/-- Send the MSI-X message of a vector, or set its PBA bit while the entry is masked (R433). -/
def State.message (s : State) (pf vec : Nat) : State :=
  if (s.get (vectorMask pf vec)).testBit 0 then s.set (Fld.SYS_MSIX_PBA pf) (s.get (Fld.SYS_MSIX_PBA pf) ||| 1 <<< vec)
  else s.emit (.msix pf vec)

/-- Withdraw the presentation of target `t`; a message held for it is dropped (R330, R331, R433). -/
def State.withdraw (s : State) (t : Nat) : State :=
  (s.set (Fld.IC_TGT_STATUS_PRESENTED t) 0x3FF).when (t < 4) (fun a => a.clr (Fld.SYS_MSIX_PBA t))

/-- Note the primary targets that sleep under a requesting source with WAKE = 1, and wake each once per pending
episode: a PF by PME when PME_En is set, a CC directly (R332). -/
def State.wakeSource (s : State) (n : Nat) : State :=
  if !s.requesting n then s.clr (Lat.IC_WOKEN n)
  else if s.is (Fld.IC_ROUTE_WAKE n) && !s.awake (s.get (Fld.IC_ROUTE_PRI n)) && !s.is (Lat.IC_WOKEN n) then
    let p := s.get (Fld.IC_ROUTE_PRI n)
    let s1 := s.flag (Lat.IC_WOKEN n)
    if p < 4 then
      if s.is (Lat.PF_PME_EN p) then (s1.flag Fld.IC_EVT_WAKE_SENT).emit (.pme p) else s1.flag Fld.IC_EVT_WAKE_BLOCKED
    else if p < 12 then (s1.flag Fld.IC_EVT_WAKE_SENT).clr (Lat.CC_SLEEP (p - 4))
    else s1
  else s

/-- IRQ_PRESENT: target `t` is presented with its candidate, or with nothing (R327); a PF gets one message when it
passes from nothing to a source. A source delivered to its secondary target sets TO_SECONDARY, and sources that
wait for a sleeping primary wake it (R332). -/
def execIrqPresent (t : Fin 12) (s : State) : Res :=
  let s0 := s.each (List.range 256) (fun n a => a.wakeSource n)
  .next <|
    if s0.is (Fld.IC_TGT_STATUS_INSVC t) then s0
    else
      match s0.candidate t with
      | none => if s0.get (Fld.IC_TGT_STATUS_PRESENTED t) = 0x3FF then s0 else s0.withdraw t
      | some (n, sec) =>
        let old := s0.get (Fld.IC_TGT_STATUS_PRESENTED t)
        if old = n then s0
        else
          ((s0.set (Fld.IC_TGT_STATUS_PRESENTED t) n).when sec (fun a => a.flag Fld.IC_EVT_TO_SECONDARY)).when
            (old == 0x3FF && (t : Nat) < 4) (fun a => a.message t (a.vectorOf t n))

/-- IRQ_CLAIM: a read of IC_CLAIM[t] by target `reader` (R328, R330). The claim is decided on the presentation as it
stands; the value read is left in the reader's claim latch. -/
def execIrqClaim (reader t : Fin 12) (s : State) : Res :=
  let n := s.get (Fld.IC_TGT_STATUS_PRESENTED t)
  .next <|
    if reader ≠ t ∨ s.is (Fld.IC_TGT_STATUS_INSVC t) ∨ n = 0x3FF ∨ !s.requesting n then
      s.set (Lat.CLAIM_DATA reader) 0x3FF
    else
      let sec := s.get (Fld.IC_ROUTE_PRI n) ≠ (t : Nat)
      (s.sets [(Fld.IC_TGT_STATUS_INSVC t, 1), (Fld.IC_TGT_STATUS_INSVC_SRC t, n), (Fld.IC_TGT_STATUS_PRESENTED t, 0x3FF),
        (Lat.CLAIM_DATA reader, n + (if sec then 2 ^ 31 else 0))])

/-- IRQ_EOI: a write of IC_EOI[t] ends the service of the claimed source, or sets EOI_MISMATCH (R329). -/
def execIrqEoi (t : Fin 12) (v : Nat) (s : State) : Res :=
  let s1 := s.set (Fld.IC_EOI_SRC t) v
  .next <| s.onHost fun s =>
    if s.is (Fld.IC_TGT_STATUS_INSVC t) && s.get (Fld.IC_TGT_STATUS_INSVC_SRC t) == v % 2 ^ 10 then
      s1.sets [(Fld.IC_TGT_STATUS_INSVC t, 0), (Fld.IC_TGT_STATUS_INSVC_SRC t, 0x3FF)]
    else s1.flag Fld.IC_EVT_EOI_MISMATCH

/-- A PRI, or an enabled SEC, of 12 to 15 is a bad route (R325). -/
def State.badRoute (s : State) (n : Nat) : Bool :=
  12 ≤ s.get (Fld.IC_ROUTE_PRI n) || (s.is (Fld.IC_ROUTE_SEC_EN n) && 12 ≤ s.get (Fld.IC_ROUTE_SEC n))

/-- Withdraw every presentation whose source no longer requests at that target (R330, R331). -/
def State.reroute (s : State) : State :=
  s.each (List.range 12) (fun t a =>
    let n := a.get (Fld.IC_TGT_STATUS_PRESENTED t)
    if n = 0x3FF then a
    else if a.requesting n && (a.target n).map (·.1) == some t then a else a.withdraw t)

/-- IRQ_ROUTE_WRITE: a write of IC_ROUTE[src] (R325, R331). -/
def execIrqRouteWrite (src : Fin 256) (v : Nat) (s : State) : Res :=
  let s1 := s.sets [(Fld.IC_ROUTE_EN src, bitsOf v 31 1), (Fld.IC_ROUTE_WAKE src, bitsOf v 9 1),
    (Fld.IC_ROUTE_SEC_EN src, bitsOf v 8 1), (Fld.IC_ROUTE_SEC src, bitsOf v 4 4), (Fld.IC_ROUTE_PRI src, bitsOf v 0 4)]
  .next (s.onHost fun _ => ((s1.when (s1.badRoute src) (fun a => a.flag Fld.IC_EVT_BAD_ROUTE)).reroute))

/-- The entry of a vector is unmasked: the message it holds is sent, if the source is still presented (R433). -/
def State.unmask (s : State) (pf vec : Nat) : State :=
  let s1 := s.set (vectorMask pf vec) (s.get (vectorMask pf vec) / 2 * 2)
  let held := (s.get (Fld.SYS_MSIX_PBA pf)).testBit vec
  let s2 := if held then s1.set (Fld.SYS_MSIX_PBA pf) (s.get (Fld.SYS_MSIX_PBA pf) - 1 <<< vec) else s1
  s2.when (held && s.get (Fld.IC_TGT_STATUS_PRESENTED pf) != 0x3FF) (fun a => a.emit (.msix pf vec))

/-- MSIX_UNMASK: unmasking a vector sends the message it holds (R433). -/
def execMsixUnmask (pf : Fin 4) (vec : Fin 2) (s : State) : Res := .next (s.unmask pf vec)

/-- MSIX_FUNCTION_MASK: a PF's MSI-X enable or Function Mask changes; the PF is awake or asleep under R326 and its
presentations move under R331. -/
def execMsixFunctionMask (pf : Fin 4) (enable fmask : Bool) (s : State) : Res :=
  .next ((s.sets [(Fld.SYS_PF_CFG_MSIX_EN pf, enable.toNat), (Lat.PF_FMASK pf, fmask.toNat)]).reroute)

/-- IC_SW_SET: bits written 1 set the software status (R324). -/
def execIcSwSet (v : Nat) (s : State) : Res :=
  .next (s.onHost fun s => (s.set Fld.IC_SW_STAT (s.get Fld.IC_SW_STAT ||| v % 2 ^ 8)))

/-- The sources the wake watcher can see (R333). -/
def watchable (n : Nat) : Bool := n == 0 || n == 2 || n == 5 || (200 ≤ n && n ≤ 231) || 248 ≤ n

/-- A watch entry names source `n`. -/
def State.watched (s : State) (n : Nat) : Bool :=
  (List.range 32).any (fun i => s.is (Fld.IC_WAKE_SEL_EN i) && s.get (Fld.IC_WAKE_SEL_SRC i) == n)

/-- WAKE_WATCHER_ASSERT: in DEEP_SLEEP a watched source asserts; the first one latches IC_WAKE_CAUSE and starts the
wake sequence, later ones are merged (R333, R406). -/
def execWakeWatcherAssert (src : Fin 256) (s : State) : Res :=
  .next <|
    if s.asleep && watchable src && s.watched src then
      let s1 := s.flag (Lat.WAKE_SEEN src)
      if s.is Lat.WAKE_START then s1
      else s1.sets [(Lat.WAKE_START, 1), (Fld.IC_WAKE_CAUSE_VALID, 1), (Fld.IC_WAKE_CAUSE_SRC, src),
        (Lat.PWR_BUSY, 1), (Lat.PWR_NEXT, 2), (Fld.AON_PWR_EVT_WOKE, 1), (Fld.AON_EVT_WOKE, 1)]
    else s

/-- At wake, the status input of each source the watcher saw is set, so that each is delivered (R333). -/
def State.deliverWake (s : State) : State :=
  let s1 := s.each [0, 2, 5] (fun n a => a.when (a.is (Lat.WAKE_SEEN n)) (fun b => b.flag (Fld.LDG_NOTIFY n)))
  let s2 := s1.each (List.range 32) (fun i a => a.when (a.is (Lat.WAKE_SEEN (200 + i)))
    (fun b => b.set (Fld.IC_EVC_STAT) (b.get (Fld.IC_EVC_STAT) ||| 1 <<< i)))
  let s3 := s2.each (List.range 8) (fun i a => a.when (a.is (Lat.WAKE_SEEN (248 + i)))
    (fun b => b.set Fld.IC_SW_STAT (b.get Fld.IC_SW_STAT ||| 1 <<< i)))
  (s3.each (List.range 256) (fun n a => a.when (a.is (Lat.WAKE_SEEN n)) (fun b => b.clr (Lat.WAKE_SEEN n)))).clr Lat.WAKE_START

end Sys2Proof.Machine
end

