-- ==== Sys2Proof/Machine/Reset.lean ====
section
/-!
DEFINITION. What the resets of R404 and the loss of the main rails (R456) leave: the AON domain, the non-volatile cells, and
nothing else. The wear ledger's commit (R462).
-/
namespace Sys2Proof.Machine

/-- Non-volatile: fuses, key store, monotonic cells and the committed wear counts (R410, R415, R416, R462), with what is read
straight from them. -/
def nonVolatile (k : Key) : Bool :=
  [RName.SEC_BOOT_CNT, .SEC_FW_FLOOR, .SEC_IMG_FLOOR, .SEC_OVR_FLOOR, .SEC_UID, .SEC_VKEY_DIG, .SEC_ID_DIG, .SEC_OKEY_DIG, .SEC_ID_PUB, .L_LC_FUSED,
    .L_NV_WRITES, .L_WEAR_C].contains k.r ||
    (k.r == .SEC_STATUS && (k.lo == Fld.SEC_STATUS_LC.lo || k.lo == Fld.SEC_STATUS_ZEROIZED.lo || k.lo == Fld.SEC_STATUS_WORN.lo))

/-- Held in the AON domain: its registers, the matrix array, the wake watcher, the rail and temperature monitors with the
running wear counts, and the record of lost rails and of the attempt that is due (R306, R333, R404, R455). -/
def inAon (k : Key) : Bool :=
  [RName.AON_EVT, .AON_IRQ_EN, .AON_BOOT_STATUS, .AON_BOOT_FAILS, .AON_BOOT_CMD, .AON_BOOT_CFG, .AON_BPB_REF, .AON_BPB_PLL, .AON_BOOT_PAY_ADDR_LO,
    .AON_BOOT_PAY_ADDR_HI, .AON_BOOT_PAY_LEN, .AON_BSTAGE_T, .AON_PWR_STATUS, .AON_PWR_CMD, .AON_PWR_CFG, .AON_PWR_EVT, .AON_LDR_ADDR_LO, .AON_LDR_ADDR_HI,
    .AON_LDR_OFS, .AON_LDR_LEN, .AON_LDR_CMD, .AON_LDR_STATUS, .AON_BREC, .EV_MATRIX, .IC_WAKE_SEL, .IC_WAKE_CAUSE, .SYS_RAIL, .SYS_WEAR, .SYS_WEAR_USED,
    .L_WEAR_T, .L_WEAR_AGE, .L_BOOT_DUE, .L_BOOT_RETRY, .L_LDR_RES, .L_PWR_OFF, .L_RAIL_LOST, .L_TAP_IR, .L_BSR, .L_PARK_N_LOW, .L_EVIO_IN, .L_DIE_PG,
    .L_DIE_UV, .L_DIE_GOOD_AT].contains k.r

/-- The state in which only the keys that satisfy `keep` hold what they held; the key store, what has left the device and the
waiting commands stand. -/
def State.keepOnly (s : State) (keep : Key → Bool) : State :=
  { State.reset with
    fields := s.fields.filter (fun p => keep p.1)
    ownerKey := s.ownerKey
    idKey := s.idKey
    out := s.out
    pending := s.pending
    free := s.free }

/-- Everything outside the AON domain is reset, and a boot attempt is due (R400, R404). The power state reads BOOT. -/
def State.resetMain (s : State) : State :=
  (s.keepOnly (fun k => nonVolatile k || inAon k)).sets [(Fld.AON_PWR_STATUS_STATE, 4), (Fld.AON_PWR_STATUS_QUEUED, 0), (Fld.AON_BOOT_STATUS_READING_ROOM, 0),
    (Fld.AON_BOOT_STATUS_WAIT_HOST, 0), (Fld.AON_BOOT_STATUS_STAGE, 0), (Lat.BOOT_DUE, 1), (Lat.BOOT_RETRY, 0)]

/-- SYS_RESET: a write of the key 0xB007 resets everything outside AON and boots; any other key is ignored (R404). -/
def execSysReset (pf : Fin 4) (key : Fin 65536) (s : State) : Res :=
  .next (if pf = 0 ∨ s.is (Fld.SYS_PF_CFG_PRIV pf) then (if (key : Nat) = 0xB007 then s.resetMain else s) else s.flag Fld.SYS_HIF_EVT_PRIV_DENIED)

/-- The hours of a class and bin as SYS_WEAR shows them, and SYS_WEAR_USED: round(10^6 × Σ h_b × w_b / 219,150), weights in
quarters (R462). -/
def wearWeight (b : Nat) : Nat := [2, 1, 4, 10, 24, 48, 160].getD b 0

/-- SYS_WEAR and SYS_WEAR_USED of die class `d` follow its seconds (R462). -/
def State.wearShow (s : State) (d : Nat) : State :=
  let s1 := s.each (List.range 7) (fun b a => a.set (Fld.SYS_WEAR d b) (min (a.get (Lat.WEAR_T d b) / 3600) 0xFFFFFFFF))
  let sum := ((List.range 7).map (fun b => s.get (Lat.WEAR_T d b) * wearWeight b)).foldl (· + ·) 0
  let den := 219150 * 3600 * 4
  s1.set (Fld.SYS_WEAR_USED d) (min ((2 * sum * 1000000 + den) / (2 * den)) 0xFFFFFFFF)

/-- The wear counts are committed to non-volatile cells (R462). -/
def State.wearCommit (s : State) : State :=
  (s.each (List.range 3) (fun d a => a.each (List.range 7) (fun b a => a.set (Lat.WEAR_C d b) (s.get (Lat.WEAR_T d b))))).clr Lat.WEAR_AGE

/-- AON_POWER_ON: everything is reset but the non-volatile cells, whose wear counts come back as last committed; the fail count
is 0 and the device boots (R400, R404, R462). -/
def execAonPowerOn (s : State) : Res :=
  let s1 := s.keepOnly nonVolatile
  .next (s1.each (List.range 3) (fun d a => (a.each (List.range 7) (fun b a => a.set (Lat.WEAR_T d b) (s1.get (Lat.WEAR_C d b)))).wearShow d))

end Sys2Proof.Machine
end

