-- ==== Sys2Proof/Machine/Reels.lean ====
section
/-!
DEFINITION. What a reel contributes, what its cues do at their anchor tick, chains, waits, faults and stops (R123 to R159,
R163, R171 to R177, R186 to R194, R216 to R218).
-/
namespace Sys2Proof.Machine

/-! ### Contributions (R123, R128, R149, R150, R190) -/

/-- The grid tick of class `c` at or before `t`. -/
def gridDown (t c : Nat) : Nat := t / 2 ^ c * 2 ^ c

/-- The current cue of reel `r`. -/
def State.curCue (s : State) (r : Nat) : WinCue := ((s.eng r).window.head?).getD ⟨0, 0, 0, []⟩

/-- Sample `j` of the segment of card `k` as reel `r` plays it: an ordinary card by its data leaves, a streamed one by the ring
leaf of the sequence number that the play pointer gives (R87, R100, R105). A sample in an unusable leaf is 0 (R89). -/
def State.segmentSample (s : State) (c : CardRec) (j : Nat) : Int :=
  let idx := j + c.s0
  let spl := formatSpl c.format
  let n := idx / spl
  let leaf := if c.streamed then
      s.dataLeaf c ((s.get (Fld.MS_STRM_PLAY c.stream) + 2 ^ 32 - s.get (Lat.STRM_LEAF c.stream) + n) % 2 ^ 32 % c.listLen)
    else s.dataLeaf c n
  match leaf with
  | none => 0
  | some l => sampleValue c.format (s.leafSample c.format l (idx % spl))

/-- The width b of the pattern port that reel `r` feeds (R214, R243). -/
def State.portWidth (s : State) (r : Nat) : Nat :=
  match (s.dests r).find? (fun d => destKind d == 2) with
  | some d => 2 ^ s.get (Fld.PP_CFG_WIDTH (destIdx d))
  | none => 1

/-- The voice of reel `r` at grid tick `t` of its class, `t` at or after the pass start (R196 to R215). -/
def State.voiceAt (s : State) (r t : Nat) : Int :=
  let e := s.eng r
  let c := s.rate r
  let k := (t - e.passStart) / 2 ^ c
  match s.voice r with
  | 0 =>
    let card := s.card (s.get (Fld.REEL_CARD r))
    if s.is (Fld.REEL_RS_EN r) then
      sat18 (resample (resamplerSet e.rstep) (s.get (Fld.REEL_RPH0 r) + k * e.rstep)
        (fun i => if i < 0 then 0 else if card.len ≤ i.toNat then 0 else s.segmentSample card i.toNat))
    else s.segmentSample card k
  | 1 => toneValue (s.phase80 r none t) (s.get (Fld.REEL_AMP_CUR r))
  | 2 => toneValue (s.phase80 r e.piece t) (s.get (Fld.REEL_AMP_CUR r))
  | 3 =>
    if s.is (Fld.REEL_RS_EN r) then
      sat18 (resample (resamplerSet e.rstep) (t * 2 ^ 32 / 2 ^ s.get (Fld.REEL_GEN_CLASS r)) (fun i => if i < 0 then 0 else s.noiseAt r i.toNat))
    else s.noiseAt r (t / 2 ^ c)
  | 4 => sat18 (rampValue e.ramp k)
  | _ => s.patternValue r (s.portWidth r) (if s.is (Fld.REEL_PH_ANCHOR r) then k else t / 2 ^ c)

/-- The value that policy REPEAT contributes at tick `t` of a late episode that began at `tm`: the last complete leaf of the
cue, cycling from its first sample at `tm`; 0 where no leaf has been played completely (R190). -/
def State.repeatAt (s : State) (r tm t : Nat) : Int :=
  let e := s.eng r
  let c := s.card (s.get (Fld.REEL_CARD r))
  let spl := formatSpl c.format
  let i := (t - tm) / 2 ^ s.rate r
  let ko := (tm - e.passStart) / 2 ^ s.rate r
  let k := if s.is (Fld.REEL_RS_EN r) then (s.get (Fld.REEL_RPH0 r) + ko * e.rstep) / 2 ^ 32 else ko
  if c.streamed then
    if s.is (Lat.STRM_RET c.stream) then
      match s.dataLeaf c ((s.get (Fld.MS_STRM_PLAY c.stream) + 2 ^ 32 - 1) % 2 ^ 32 % c.listLen) with
      | some l => sampleValue c.format (s.leafSample c.format l (i % spl))
      | none => 0
    else 0
  else
    let n := (k + c.s0) / spl
    if n = 0 then 0
    else
      let first := if n = 1 then c.s0 else 0
      match s.dataLeaf c (n - 1) with
      | some l => sampleValue c.format (s.leafSample c.format l (first + i % (spl - first)))
      | none => 0

/-- What reel `r` contributes at tick `t`, as v of R132, before the corrector's ramp. -/
def State.reelValue (s : State) (r t : Nat) : Int :=
  let e := s.eng r
  let g := gridDown t (s.rate r)
  match s.reelState r with
  | 2 =>
    if e.recAt.isSome then 0
    else if !e.run || t < e.anchor then e.hold
    else if cueOp (s.curCue r).w = 0x30 then 0
    else s.voiceAt r g
  | 3 => if e.waitOut = 0 then 0 else if e.waitOut = 1 || s.voice r == 0 then e.hold else s.voiceAt r g
  | 4 =>
    if t < e.anchor then e.hold
    else match s.get (Fld.REEL_LATE_POL r), e.late with
    | 0, _ => e.hold
    | 2, some (tm, _) => s.repeatAt r tm g
    | _, _ => 0
  | _ => 0

/-- The value v after the ramp multiplier of the group that drives with reel `r` (R279). -/
def State.rampedValue (s : State) (r t : Nat) : Int :=
  match s.groupOfDrive r with
  | some g => s.reelValue r t * s.corM g t / 65536
  | none => s.reelValue r t

/-- The gains that reel `r` gives destination `d`, one for each of DEST0 and DEST1 that names it (R130). -/
def State.gainsOn (s : State) (r d : Nat) : List Int :=
  (if s.get (Fld.REEL_DEST0 r) = d then [s.geti (Fld.REEL_GAIN0 r)] else []) ++ (if s.get (Fld.REEL_DEST1 r) = d then [s.geti (Fld.REEL_GAIN1 r)] else [])

/-- What received SUM streams contribute to destination `d` at tick `t`: v = 4d × GAIN (R364). -/
def State.linkSum (s : State) (d t : Nat) : Int :=
  ((s.rxs.filter (fun x => s.get (Fld.LK_RXS_CFG_DEST x.link x.j) == d && x.start ≤ t && t < x.start + x.len)).map
    (fun x => (4 * x.d * s.geti (Fld.LK_RXS_GAIN x.link x.j) + 2 ^ 9) / 2 ^ 10)).foldl (· + ·) 0

/-- The exact sum of the contributions to destination `d` at tick `t`, in units of 2^-8 code (R132). -/
def State.exactSum (s : State) (d t : Nat) : Int :=
  s.linkSum d t + (s.engines.map (fun e => ((s.gainsOn e.reel d).map (fun g => (s.rampedValue e.reel t * g + 2 ^ 9) / 2 ^ 10)).foldl (· + ·) 0)).foldl (· + ·) 0

/-- The sum for destination `d`, saturated once to 24 bits (R132). -/
def State.destSum (s : State) (d t : Nat) : Int := clampInt (-2 ^ 23) (2 ^ 23 - 1) (s.exactSum d t)

/-- The word of pattern port `p` at tick `t`: the OR of the contributions, a negative gain inverting (R133). -/
def State.portSum (s : State) (p t : Nat) : Nat :=
  let b := 2 ^ s.get (Fld.PP_CFG_WIDTH p)
  s.engines.foldl (fun a e =>
    (s.gainsOn e.reel (1024 + p)).foldl (fun a g =>
      if g = 0 ∨ ¬(2 ≤ s.reelState e.reel ∧ s.reelState e.reel ≤ 4) then a
      else
        let v := (s.reelValue e.reel t % (2 ^ b : Nat)).toNat
        a ||| (if g < 0 then 2 ^ b - 1 - v else v)) a) 0

/-! ### Small effects -/

/-- A tile producer pulses with an origin tick; pulses of one word form one pulse (R188). -/
def State.tilePulse (s : State) (p origin : Nat) : State :=
  if s.get (Lat.PROD_WORD p) = origin / 8 + 1 then s else (s.set (Lat.PROD_WORD p) (origin / 8 + 1)).pulse p (some origin)

/-- The SAT bit of an analog sum sets; the first setting after a clear is archived (R132). -/
def State.satMark (s : State) (n t : Nat) : State :=
  if s.is (Fld.CH_EVT_SAT n) then s else (s.flag (Fld.CH_EVT_SAT n)).archive 20 (unitChannel n) t [512 + n]

/-- A request's tick comes before `t`, or is the next channel boundary. -/
def RangeReq.before (q : RangeReq) (t : Nat) : Bool := (q.at_.map (fun x => decide (x < t))).getD true

/-- A range request reaches channel `n` (R154, R231, R233). -/
def State.rangeRequest (s : State) (q : RangeReq) : State :=
  let n := q.ch
  let st := s.get (Fld.CH_STATUS_STATE n)
  let mine := s.ranges.filter (fun p => p.ch == n)
  let others := s.ranges.filter (fun p => p.ch != n)
  let gapEnd := s.get (Lat.RNG_AT n) + 256
  let put := fun (l : List RangeReq) => ({ s with ranges := others ++ l ++ [q] }).sets [(Fld.CH_STATUS_RNG_PEND n, 1), (Fld.CH_RANGE_PEND_VAL n, q.range)]
  let lost := fun (a : State) (r : Option Nat) => match r with
    | some r => a.flag (Fld.TL_REEL_EVT_RNG_CONFLICT (tileOfReel r))
    | none => a
  if st = 0 ∨ st = 1 ∨ st = 4 then s.enterRange n q.range
  else if s.is (Fld.CH_STATUS_RNG_GAP n) && q.before gapEnd then
    ({ s with ranges := others ++ (mine.filter (fun (p : RangeReq) => !(p.before (gapEnd + 1)) || p.at_.isNone)) ++ [{ q with at_ := some gapEnd }] }).sets
      [(Fld.CH_STATUS_RNG_PEND n, 1), (Fld.CH_RANGE_PEND_VAL n, q.range)]
  else
    match mine.find? (fun p => p.at_ == q.at_) with
    | some p =>
      let loses := match p.reel, q.reel with
        | none, some _ => true
        | some a, some b => decide (a < b)
        | _, none => false
      if loses then lost s q.reel else lost (put (mine.filter (fun x => x.at_ != q.at_))) p.reel
    | none =>
      if q.range = s.get (Fld.CH_RANGE_CUR n) then
        if mine.isEmpty then s.flag (Fld.CH_EVT_RNG_DONE n) else put []
      else put mine

/-- Read entry `i` of the sweep table: its four dwords (R202). -/
def State.sweepRow (s : State) (r i : Nat) : Nat := s.spLe (spWord (tileOfReel r) (s.get (Fld.REEL_SWP_BASE r) + i)) 16

/-- Fold the chirp piece in progress at tick `t` (R201). -/
def State.foldPiece (s : State) (r t : Nat) : State :=
  match (s.eng r).piece with
  | none => s
  | some t0 => (s.fold r t0 t).onEng r (fun e => { e with piece := none, sweepEnd := none, sweepEntry := none })

/-- Staged and pending sets of reel `r` are discarded (R218). -/
def State.discardSets (s : State) (r : Nat) : State :=
  let e := s.eng r
  let t := tileOfReel r
  if e.staged.isEmpty && e.pendingSet.isEmpty then s
  else ((s.onEng r (fun e => { e with staged := [], pendingSet := [] })).clrBit (Fld.TL_VSTG_PEND t) (r % 128)).flag (Fld.TL_VSTG_EVT_DISCARDED t)

/-- Armed and committed cuts of reel `r` are discarded (R171). -/
def State.discardCuts (s : State) (r : Nat) : State :=
  let s1 := s.when (s.eng r).commit.isSome (fun a => a.flag (Fld.TL_CUT_EVT_COMMIT_DISCARDED (tileOfReel r)))
  (s1.onEng r (fun e => { e with commit := none, recut := false })).clr (Fld.REEL_CUT_ARMED r)

/-- A late episode of reel `r` ends at tick `t` (R192). -/
def State.endEpisode (s : State) (r t : Nat) : State :=
  match (s.eng r).late with
  | none => s
  | some (tm, cause) =>
    let k := tileOfReel r
    let words := (t - tm + 7) / 8
    let pol := s.get (Fld.REEL_LATE_POL r)
    let s1 := s.archive 3 (unitReel r) t [lo32 tm, hi32 tm, words, s.get (Fld.REEL_CARD r) + pol * 2 ^ 20 + cause * 2 ^ 24]
    let s2 := (s1.bump (Fld.TL_LATE_CNT k)).set2 (Fld.TL_LATE_WORDS_LO k) (Fld.TL_LATE_WORDS_HI k) (s.get2 (Fld.TL_LATE_WORDS_LO k) (Fld.TL_LATE_WORDS_HI k) + words)
    (s2.sets [(Fld.TL_LATE_LAST_CAUSE k, cause), (Fld.TL_LATE_LAST_POL k, pol), (Fld.TL_LATE_LAST_REEL k, r % 128), (Fld.TL_CUT_EVT_LATE_LEAF k, 1)]).onEng r
      (fun e => { e with late := none })

/-- Write the archive entry of a cut that has been taken, and forget it (R177). -/
def State.flushCut (s : State) (r : Nat) : State :=
  match (s.eng r).cutEntry with
  | none => s
  | some (sp, c, head) =>
    (s.archive 2 (unitReel r) c.x [sp + c.target * 2 ^ 16, c.mode + head.toNat * 2 ^ 8 + (c.kind == 9).toNat * 2 ^ 9 + c.unref.toNat * 2 ^ 10,
      lo32 c.s, hi32 c.s]).onEng r (fun e => { e with cutEntry := none })

/-- What every way out of a run does to the context: no cue, no deferred effect, no scheduled pulse, no cut and no staged
update is left (R155, R171, R218). -/
def State.quitRun (s : State) (r t : Nat) : State :=
  ((((((s.flushCut r).endEpisode r t).foldPiece r t).discardCuts r).discardSets r).onEng r (fun e => { e with
    run := false, started := false, deferred := [], fires := [], recAt := none, fault := none, hold := 0 })).set2
      (Fld.REEL_STOP_TICK_LO r) (Fld.REEL_STOP_TICK_HI r) (2 ^ 64 - 1)

/-- Reel `r` enters FAULTED at tick `t` with a code (R158, R159, R165). -/
def State.enterFault (s : State) (r code t : Nat) : State :=
  let k := tileOfReel r
  if s.reelState r = 0 ∨ s.reelState r = 6 then s
  else
    let s1 := ((s.quitRun r t).enterState r 6).dropWindow r
    let s2 := (s1.sets [(Fld.REEL_FAULT r, code), (Fld.TL_REEL_EVT_FAULT k, 1), (Fld.TL_REEL_FLT_LAST_CODE k, code), (Fld.TL_REEL_FLT_LAST_REEL k, r % 128)]).archive
      4 (unitReel r) t [code, s.get (Fld.REEL_SP r)]
    let s3 := s2.when (s.is (Fld.REEL_RESTART_PENDING r)) (fun a => (a.clr (Fld.REEL_RESTART_PENDING r)).flag (Fld.TL_REEL_EVT_CMD_REFUSED k))
    let s4 := s3.pulse (32 * k + 23) none
    if code = 15 then s4.mark 17 (markReel r)
    else if code = 18 then s4.mark 20 (markReel r)
    else s4.raisePerTile 21 k (markReel r)

/-- Reel `r` enters STOPPING for a stop at tick `t` (R124, R163). -/
def State.enterStopping (s : State) (r t : Nat) : State :=
  ((s.quitRun r t).enterState r 5).onEng r (fun e => { e with stopAt := s.now })

/-! ### Zero-time cues at their anchor tick (R151 to R155, R198) -/

/-- The effect of one zero-time cue of reel `r` at anchor tick `a`; a faulty cue faults the reel (R139, R158). -/
def State.cueEffect (s : State) (r a : Nat) (c : WinCue) : State :=
  let w := c.w
  let t := tileOfReel r
  let d1 := cueDw w 1
  if c.fault ≠ 0 then (s.set (Fld.REEL_SP r) c.q).enterFault r c.fault a
  else match cueOp w with
  | 0x18 =>
    let s1 := s.onEng r (fun e => { e with recut := e.commit.isSome || e.recut })
    if cueBits w 8 1 = 1 then s1.clr (Fld.REEL_CUT_ARMED r)
    else (s1.sets [(Fld.REEL_CUT_ARMED r, 1), (Fld.REEL_CUT_KEEP r, cueBits w 9 1), (Fld.REEL_CUT_MODE r, bitsOf d1 16 2), (Fld.REEL_CUT_EVC r, bitsOf d1 24 7),
        (Fld.REEL_CUT_TARGET r, bitsOf d1 0 16)]).onEng r (fun e => { e with cutFrom := a, cutLoops := c.data.getD 0 0, cutCalls := c.data.getD 1 0 })
  | 0x20 =>
    match cueBits w 9 2 with
    | 0 => s.setFreq r (cueVal w) (cueBits w 8 1 == 1) a
    | 1 => s.set2 (Fld.REEL_CRW_CUR_LO r) (Fld.REEL_CRW_CUR_HI r) (cueVal w)
    | _ => s.onEng r (fun e => { e with rstep := cueVal w })
  | 0x21 =>
    if s.voice r = 1 ∨ s.voice r = 2 then
      let p := if cueBits w 8 1 = 1 then s.get2 (Fld.REEL_P_CUR_LO r) (Fld.REEL_P_CUR_HI r) + cueVal w else cueVal w
      (s.set2 (Fld.REEL_P_CUR_LO r) (Fld.REEL_P_CUR_HI r) p).clr (Fld.REEL_P_X r)
    else s
  | 0x22 =>
    let s1 := s.when (cueBits w 8 1 == 1) (fun b => b.set (Fld.REEL_GAIN0 r) d1)
    let s2 := s1.when (cueBits w 9 1 == 1) (fun b => b.set (Fld.REEL_GAIN1 r) (cueDw w 2))
    let s3 := s2.when (cueBits w 10 1 == 1) (fun b => b.set (Fld.REEL_DEST0 r) (bitsOf (cueDw w 3) 0 12))
    s3.when (cueBits w 11 1 == 1) (fun b => b.set (Fld.REEL_DEST1 r) (bitsOf (cueDw w 3) 16 12))
  | 0x23 =>
    let d := s.get (if cueBits w 8 1 = 1 then Fld.REEL_DEST1 r else Fld.REEL_DEST0 r)
    if destKind d = 1 then s.rangeRequest ⟨destIdx d, bitsOf d1 0 2, some (wordUp a), some r, s.now⟩
    else (s.set (Fld.REEL_SP r) c.q).enterFault r 3 a
  | 0x28 => (s.tilePulse (32 * t + 8 + bitsOf d1 0 3) a).archive 6 (unitReel r) a [cueDw w 2, bitsOf d1 0 3]
  | 0x29 => s.archive 7 (unitReel r) a [cueDw w 2]
  | 0x2A => s.onEng r (fun e => { e with fires := e.fires ++ [(32 * t + bitsOf d1 0 3, a + bitsOf d1 16 16)] })
  | _ => s

/-- The deferred effects of reel `r` at anchor tick `a`, in cue order; what follows a fault is lost. -/
def State.runDeferred (s : State) (r a : Nat) : State :=
  let l := (s.eng r).deferred
  (s.onEng r (fun e => { e with deferred := [] })).each l (fun c b => if b.reelState r = 6 then b else b.cueEffect r a c)

/-! ### Voice updates (R216, R217, R275) -/

/-- One kind of a pending set takes effect at tick `t` (R217). A frequency kind in a chirp piece folds it and starts a new
piece with the same CRW_CUR. -/
def State.applyKind (s : State) (r t : Nat) (kv : Nat × Nat) : State :=
  match kv.1 with
  | 0 | 1 =>
    let e := s.eng r
    let s1 := match e.piece with
      | some t0 => (s.fold r t0 t).onEng r (fun e => { e with piece := some t })
      | none => s
    s1.setFreq r kv.2 (kv.1 == 1) t
  | 2 => (s.set2 (Fld.REEL_P_CUR_LO r) (Fld.REEL_P_CUR_HI r) kv.2).clr (Fld.REEL_P_X r)
  | 3 => s.set (Fld.REEL_AMP_CUR r) kv.2
  | 4 => s.set (Fld.REEL_NSCALE_CUR r) kv.2
  | 5 => s.set (Fld.REEL_KURT_CUR r) kv.2
  | _ => s.set (Fld.REEL_ACTIVE r) (1 - s.get (Fld.REEL_ACTIVE r))

/-- The generation class of a NOISE reel (R207). -/
def State.genClass (s : State) (r : Nat) : Nat := if s.is (Fld.REEL_RS_EN r) then s.get (Fld.REEL_GEN_CLASS r) else s.rate r

/-- The tick is a boundary at which the pending set of reel `r` applies: a cycle boundary, or the 2^24-th grid sample without
one, or the start of a noise frame; at least 8 words after the COMMIT (R217). -/
def State.voiceBoundary (s : State) (r t : Nat) : Bool :=
  let e := s.eng r
  let c := s.rate r
  let v := s.voice r
  decide (e.pendingAt + 64 ≤ t) &&
    (if v = 1 ∨ v = 2 then
      let now := s.phase80 r e.piece t / 2 ^ 78
      let was := s.phase80 r e.piece (t - 2 ^ c) / 2 ^ 78
      t % 2 ^ c == 0 && ((was == 3 && now == 0) || (was == 0 && now == 3) || decide (e.pendingAt + 64 + 2 ^ 24 * 2 ^ c ≤ t))
    else v == 3 && t % 2 ^ (s.get (Fld.REEL_NLOG2 r) - 1 + s.genClass r) == 0)

/-- Every drive of a group has applied its part of an update: it has latched, with one correction entry (R275). -/
def State.updateLatched (s : State) (r t : Nat) : State :=
  match s.groupOfDrive r with
  | none => s
  | some g =>
    if s.is (Lat.COR_BUSY g) && (s.drives g).all (fun d => (s.eng d).pendingSet.isEmpty) then
      ((((s.clr (Lat.COR_BUSY g)).flag (Fld.COR_GRP_EVT_UPDATE g)).bump (Fld.COR_CNT_UPD g)).archive 10 (unitGroup g) t
        [s.get (Fld.COR_QUAL g), s.get (Fld.COR_CNT2_HELD g)] (s.is (Fld.COR_GRP_STATUS_EXTRAP g)))
    else s

/-- The pending set of reel `r` applies at tick `t` (R217). -/
def State.applyPending (s : State) (r t : Nat) : State :=
  let e := s.eng r
  if e.pendingSet.isEmpty then s
  else
    let k := tileOfReel r
    let old := (s.get (Fld.REEL_NSCALE_CUR r), s.get (Fld.REEL_KURT_CUR r), s.get (Fld.REEL_ACTIVE r))
    let kinds := e.pendingSet.foldl (fun a kv => a ||| 1 <<< kv.1) 0
    let s1 := s.each (((List.range 8).flatMap (fun n => e.pendingSet.filter (fun kv => kv.1 == n)))) (fun kv a => a.applyKind r t kv)
    let s2 := s1.onEng r (fun e => { e with pendingSet := [], oldNoise := if s.voice r = 3 then some (t / 2 ^ (s.get (Fld.REEL_NLOG2 r) - 1 + s.genClass r), old) else e.oldNoise })
    let s3 := (s2.clrBit (Fld.TL_VSTG_PEND k) (r % 128)).sets [(Fld.TL_VSTG_LAST_KINDS k, kinds), (Fld.TL_VSTG_LAST_REEL k, r % 128), (Fld.TL_VSTG_EVT_APPLIED k, 1)]
    ((s3.set2 (Fld.TL_VSTG_TICK_LO k) (Fld.TL_VSTG_TICK_HI k) t).archive 9 (unitReel r) t [kinds]).updateLatched r t

/-! ### Anchor ticks and passes -/

/-- Start the chirp piece of a sweep-table entry at tick `t`: its word and the end of its length, or a fault (R202). -/
def State.startSweep (s : State) (r i row t : Nat) : State :=
  let dur := bitsOf row 64 40
  if dur = 0 ∨ dur % 2 ^ s.rate r ≠ 0 ∨ bitsOf row 104 24 ≠ 0 then s.enterFault r 3 t
  else ((s.set2 (Fld.REEL_CRW_CUR_LO r) (Fld.REEL_CRW_CUR_HI r) (row % 2 ^ 64)).set (Fld.REEL_SWP_IDX r) i).onEng r
    (fun e => { e with piece := some t, sweepEnd := some (t + dur), sweepEntry := none })

/-- The card slate of a pass that starts at tick `t`, pass `n` counted from 0 (R186). -/
def State.cardSlate (s : State) (r n t : Nat) : State :=
  let k := s.get (Fld.REEL_CARD r)
  if s.voice r = 0 ∧ cueOp (s.curCue r).w ≠ 0x30 ∧ (s.card k).slate then
    (s.tilePulse (32 * tileOfReel r + 16) t).archive 6 (unitReel r) t [k, n, (s.eng r).late.isSome.toNat] true
  else s

/-- The tick at which reel `r` has played `i` leaves of a pass of a streamed card, or the end of time when the pass ends
no later (R101, R105). -/
def State.leafTick (s : State) (r : Nat) (c : CardRec) (i : Nat) : Nat :=
  let e := s.eng r
  let n := formatSpl c.format * i
  let k := if s.is (Fld.REEL_RS_EN r) then resampledLen n (s.get (Fld.REEL_RPH0 r)) e.rstep else n
  if k * 2 ^ s.rate r < e.passLen then e.passStart + k * 2 ^ s.rate r else 2 ^ 64 - 1

/-- A pass of a streamed card begins: it starts at sample 0 of leaf PP (R105). -/
def State.streamPass (s : State) (r : Nat) : State :=
  let c := s.card (s.get (Fld.REEL_CARD r))
  if s.voice r = 0 ∧ c.valid ∧ c.streamed ∧ cueOp (s.curCue r).w ≠ 0x30 then
    s.sets [(Lat.STRM_LEAF c.stream, 0), (Lat.STRM_NEXT c.stream, s.leafTick r c 1)]
  else s

/-- The start of the producing cue of reel `r` at its anchor tick `a`: chirp piece, stream pass and card slate (R105, R186,
R200, R202). -/
def State.startActions (s : State) (r a : Nat) : State :=
  let s1 := s.onEng r (fun e => { e with started := true })
  let s2 :=
    if s.voice r == 2 && cueOp (s.curCue r).w != 0x30 then
      if s.get (Fld.REEL_SWP_CNT r) == 0 then s1.onEng r (fun e => { e with piece := some a }) else s1.startSweep r 0 (s1.sweepRow r 0) a
    else s1
  if s2.reelState r == 6 then s2 else (s2.streamPass r).cardSlate r 0 a

/-- What happens at the anchor tick `a` of reel `r`: a pending set that applies there, the chain's effects, the cut entry,
the CUE entry, and the start of the producing cue with its chirp piece, stream pass and card slate (R139, R177, R186,
R200, R202, R218, R345). -/
def State.anchorActions (s : State) (r a : Nat) : State :=
  let s1 := if s.voiceBoundary r a then s.applyPending r a else s
  let s2 := s1.runDeferred r a
  if s2.reelState r = 6 then s2
  else
    let e := s2.eng r
    let s3 := s2.flushCut r
    let s4 := s3.when (s.bit (Fld.TL_ARC_TRACE (tileOfReel r)) (r % 128)) (fun b => b.archive 1 (unitReel r) a [e.chainFrom + s.get (Fld.REEL_SP r) * 2 ^ 16, s.reelState r])
    if e.run && !e.started then s4.startActions r a else s4

/-- 2^n. -/
def pow2 (n : Nat) : Nat := 2 ^ n

/-- A resampler step outside the limits of a cue at class `c` with a card of class `cc` (R205). -/
def stepBad (rstep c cc : Nat) : Bool := rstep < pow2 16 || min (pow2 34) (pow2 (32 + c) / pow2 cc) < rstep

/-- The faults that a producing cue of reel `r` shows at its anchor tick, with the class `c` and what is in force there:
format and width against the destinations, class of the card, resampler step (R138, R205, R211). -/
def State.playFault (s : State) (r w c : Nat) : Nat :=
  let e := s.eng r
  let card := s.card (cueCard w)
  let rs := s.is (Fld.REEL_RS_EN r)
  if cueOp w = 0x30 then 0
  else if s.voice r = 0 then
    if s.cardInvalid (cueCard w) then 15
    else if (s.dests r).any (fun d => d != 0 && (if destKind d = 2 then formatSamples card.format || formatBits card.format != 2 ^ s.get (Fld.PP_CFG_WIDTH (destIdx d))
        else !formatSamples card.format)) then 13
    else if !rs && card.rate != c then 14
    else if rs && stepBad e.rstep c card.rate then 3
    else 0
  else if s.voice r = 3 ∧ rs then
    let cg := s.get (Fld.REEL_GEN_CLASS r)
    if !(c ≤ cg && cg ≤ c + 16) || e.rstep * pow2 cg != pow2 (32 + c) then 3 else 0
  else 0

/-- Samples of one pass of a producing cue of reel `r` (R142, R150, R205). -/
def State.passSamples (s : State) (r w : Nat) : Nat :=
  if cueOp w = 0x30 ∨ s.voice r ≠ 0 then cueLen w
  else
    let n := (s.card (cueCard w)).len
    if s.is (Fld.REEL_RS_EN r) then resampledLen n (s.get (Fld.REEL_RPH0 r)) (s.eng r).rstep else n

/-- A committed cut that waits for the next segment end, or the next pass end, learns its tick. -/
def Commit.learn (k : Commit) (seg pass : Nat) : Commit :=
  if k.kind = 2 then { k with kind := 1, x := seg } else if k.kind = 4 then { k with kind := 1, x := pass } else k

/-- Reel `r` starts producing cue `c` of a chain at boundary `b` (R126, R139, R142): what depends on the chain's effects is
taken as they will stand at the anchor tick. A cut waiting for the next segment or pass end learns its tick. -/
def State.startCue (s : State) (r b : Nat) (c : WinCue) : State :=
  let w := c.w
  let cls := if cueRate w = 31 then s.rate r else cueRate w
  let a := gridUp b cls
  let sA := (s.set (Fld.REEL_RATE r) cls).runDeferred r a
  let f := sA.playFault r w cls
  if sA.reelState r = 6 ∧ a ≤ s.now then sA
  else if f ≠ 0 then
    let s1 := s.onEng r (fun e => { e with deferred := e.deferred ++ [{ c with fault := f }], run := false, anchor := a })
    if a ≤ s.now then s1.runDeferred r a else s1
  else
    let n := if cueOp w = 2 then cueN w else 1
    let len := sA.passSamples r w * 2 ^ cls
    let s1 := (s.sets [(Fld.REEL_SP r, c.q), (Fld.REEL_RATE r, cls), (Fld.REEL_POS_LO r, 0), (Fld.REEL_POS_HI r, 0), (Fld.REEL_PASS r, n)]).when
      (s.voice r == 0 && cueOp w != 0x30) (fun x => x.set (Fld.REEL_CARD r) (cueCard w))
    let s2 := (s1.enterState r 2).onEng r (fun e => { e with
      run := true, started := false, anchor := a, passStart := a, passLen := len, endB := a + n * len,
      ramp := c.data, commit := e.commit.map (fun k => k.learn (a + n * len) (a + len)) })
    let s3 := match advance c.q w (s2.stacks r) with
      | .to q _ => s2.buildWindow r [c] q false
      | _ => s2
    if a ≤ s.now then s3.anchorActions r a else s3

/-! ### Waits (R146 to R149) -/

/-- The first event on channel `ch` whose E lies in `lo` to `hi`, by E (R146, R162, R170). -/
def State.firstEvent (s : State) (ch lo hi : Nat) : Option Ev :=
  (s.events.filter (fun v => v.ch == ch && lo ≤ v.e && v.e ≤ hi)).foldl (fun a v => match a with | none => some v | some u => if v.e < u.e then some v else some u) none

/-- The end tick of a WAIT_TICK or SYNC that starts at `b`; none when its epoch is not usable at `b` (R147, R148). -/
def State.waitTick (s : State) (w b : Nat) : Option Nat :=
  if cueOp w = 0x11 then some (let t := if cueBits w 10 1 = 1 then b + cueVal w else cueVal w; if t ≤ b then b else t)
  else match cueBits w 10 2 with
    | 0 => some (gridFrom b (2 ^ bitsOf (cueDw w 1) 0 6) (cueVal w))
    | n =>
      match s.is (Fld.TB_EPOCH_CFG_EN (n - 1)), s.epochPeriod (n - 1) with
      | true, some p => some (gridFrom b p (s.get (Fld.TB_EPOCH_OFS (n - 1))))
      | _, _ => none

/-- Reel `r` starts wait `c` at boundary `b`. -/
def State.startWait (s : State) (r b : Nat) (c : WinCue) : State :=
  let w := c.w
  let go := fun (a : State) (t : Nat) =>
    let a1 := (a.set (Fld.REEL_SP r) c.q).set2 (Fld.REEL_WAIT_END_LO r) (Fld.REEL_WAIT_END_HI r) t
    let a2 := (a1.enterState r 3).onEng r (fun e => { e with run := false, started := false, waitB := b, waitOut := cueBits w 8 2 })
    match advance c.q w (a2.stacks r) with
    | .to q _ => a2.buildWindow r [c] q false
    | _ => a2
  if cueOp w = 0x10 then go s (if cueDw w 2 = 0 then 0 else b + cueDw w 2)
  else match s.waitTick w b with
    | none => (s.set (Fld.REEL_SP r) c.q).enterFault r 3 b
    | some t => go (s.when (cueOp w == 0x11 && decide ((if cueBits w 10 1 = 1 then b + cueVal w else cueVal w) ≤ b)) (fun a => a.flag (Fld.TL_REEL_EVT_WAIT_PAST (tileOfReel r)))) t

/-! ### Script ends (R156, R197) -/

/-- The current set of reel `r` is loaded from the base fields (R197). -/
def State.loadCurrent (s : State) (r : Nat) : State :=
  (s.sets [(Fld.REEL_FTW_CUR_LO r, s.get (Fld.REEL_FTW_LO r)), (Fld.REEL_FTW_CUR_HI r, s.get (Fld.REEL_FTW_HI r)), (Fld.REEL_P_CUR_LO r, s.get (Fld.REEL_P_LO r)),
    (Fld.REEL_P_CUR_HI r, s.get (Fld.REEL_P_HI r)), (Fld.REEL_CRW_CUR_LO r, s.get (Fld.REEL_CRW_LO r)), (Fld.REEL_CRW_CUR_HI r, s.get (Fld.REEL_CRW_HI r)),
    (Fld.REEL_FTW_X r, 0), (Fld.REEL_P_X r, 0), (Fld.REEL_AMP_CUR r, s.get (Fld.REEL_AMP r)), (Fld.REEL_NSCALE_CUR r, s.get (Fld.REEL_NSCALE r)),
    (Fld.REEL_KURT_CUR r, max 0x300 (s.get (Fld.REEL_KURT r)))]).onEng r (fun e => { e with rstep := s.get2 (Fld.REEL_RSTEP_LO r) (Fld.REEL_RSTEP_HI r), piece := none, sweepEnd := none, sweepEntry := none, oldNoise := none })

/-- Reel `r` enters ARMED at tick `t` at ENTRY, with empty stacks, class BOOKED and the window built anew (R124, R128, R197,
R213). -/
def State.enterArmed (s : State) (r t : Nat) : State :=
  let s1 := (s.sets [(Fld.REEL_SP r, s.get (Fld.REEL_ENTRY r)), (Fld.REEL_RATE r, s.get (Fld.REEL_BOOKED r)), (Fld.REEL_RIDX r, 0)]).loadCurrent r
  let s2 := ((s1.setStacks r ⟨[], []⟩).enterState r 1).onEng r (fun e => { e with run := false, started := false, deferred := [], hold := 0, armedAt := t, lastCut := 0, cutFrom := 0, window := [], targets := [] })
  s2.buildWindow r [] (s.get (Fld.REEL_ENTRY r)) true

/-- A terminal cue of reel `r` acts at boundary `b` (R156). -/
def State.terminal (s : State) (r b : Nat) (c : WinCue) : State :=
  let s1 := s.set (Fld.REEL_SP r) c.q
  if cueOp c.w = 0x3E then (s1.set (Fld.REEL_STOP_CODE r) (bitsOf (cueDw c.w 1) 0 16)).enterStopping r b
  else
    let per := s.get2 (Fld.REEL_START_PER_LO r) (Fld.REEL_START_PER_HI r)
    if s.is (Fld.REEL_START_KIND r) then (((s1.endEpisode r b).discardCuts r).discardSets r).enterArmed r b
    else if per = 0 then (s1.set (Fld.REEL_STOP_CODE r) 0).enterStopping r b
    else if per % 2 ^ s.rate r ≠ 0 then s1.enterFault r 3 b
    else
      let start := s.get2 (Fld.REEL_START_TICK_LO r) (Fld.REEL_START_TICK_HI r)
      let m := (b + 512 - (start + per) + per - 1) / per
      let s2 := (s1.set2 (Fld.REEL_START_TICK_LO r) (Fld.REEL_START_TICK_HI r) (start + per * (1 + m))).bump (Fld.REEL_MISSED r) m
      ((((s2.when (m != 0) (fun a => a.flag (Fld.TL_REEL_EVT_START_MISSED (tileOfReel r)))).endEpisode r b).discardCuts r).discardSets r).enterArmed r b

/-! ### Chains (R139, R140, R144, R145) -/

/-- A zero-time cue is a change at the anchor tick. -/
def cueDeferred (w : Nat) : Bool := [0x18, 0x20, 0x21, 0x22, 0x23, 0x28, 0x29, 0x2A].contains (cueOp w)

/-- Defer a cue of reel `r` to the anchor tick, noting the stack depths at it. -/
def State.deferCue (s : State) (r : Nat) (c : WinCue) : State :=
  let k := s.stacks r
  s.onEng r (fun e => { e with deferred := e.deferred ++ [{ c with data := [k.loops.length, k.calls.length] }] })

/-- The chain of reel `r` cannot go on at cue `c`, which faults at the anchor tick of the class in force (R158). -/
def State.chainFault (s : State) (r b code : Nat) (c : WinCue) : State :=
  let a := gridUp b (s.rate r)
  let s1 := (s.deferCue r { c with fault := code }).onEng r (fun e => { e with run := false, anchor := a })
  let s2 := if s.reelState r = 3 ∨ s.reelState r = 1 then s1.enterState r 2 else s1
  if a ≤ s.now then s2.runDeferred r a else s2

/-- Execute the chain of reel `r` at boundary `b` from cue `q`; `words` are the cues as the window read them, `n` counts the
zero-time cues executed. -/
def State.chain (s : State) (r b : Nat) : Nat → Nat → Nat → List WinCue → State
  | 0, _, _, _ => s
  | fuel + 1, n, q, words =>
    let (c, rest) := match words with
      | [] => (s.readCue r q (s.get (Fld.REEL_RIDX r)), [])
      | h :: l => if h.q = q then (h, l) else (s.readCue r q (s.get (Fld.REEL_RIDX r)), [])
    let s0 := s.onEng r (fun e => { e with window := c :: rest })
    match cueKind (cueOp c.w) with
    | 3 =>
      if c.fault = 11 then s0.chainFault r b 11 c
      else if 16 ≤ n then s0.chainFault r b 10 c
      else
        match advance q c.w (s.stacks r) with
        | .err code => s0.chainFault r b code c
        | .ends => s0
        | .to q' k' => ((if c.fault ≠ 0 ∨ cueDeferred c.w then s0.deferCue r c else s0).setStacks r k').chain r b fuel (n + 1) q' rest
    | 1 => if c.fault ≠ 0 then s0.chainFault r b c.fault c else s0.startCue r b c
    | 2 => if c.fault ≠ 0 then (s0.set (Fld.REEL_SP r) q).enterFault r c.fault b else s0.startWait r b c
    | 4 =>
      let s1 := (s0.runDeferred r b).flushCut r
      if s1.reelState r = 6 then s1
      else if c.fault ≠ 0 then (s1.set (Fld.REEL_SP r) q).enterFault r c.fault b
      else s1.terminal r b c
    | _ => s0.chainFault r b c.fault c

/-- Execute a chain of reel `r` at boundary `b` from cue `q`. -/
def State.runChain (s : State) (r b q : Nat) (words : List WinCue) : State :=
  (s.onEng r (fun e => { e with chainFrom := s.get (Fld.REEL_SP r) })).chain r b 18 0 q words

/-- The sample that reel `r` contributed last before tick `t` stands until its next anchor tick (R128, R149, R175). -/
def State.keepLast (s : State) (r t : Nat) : State :=
  let v := if t = 0 then 0 else s.reelValue r (t - 1)
  s.onEng r (fun e => { e with hold := v })

/-- The current producing cue of reel `r` is left at tick `t`, at its B or by a cut: its chirp piece folds, its late episode
ends, and a RAMP reel goes to its next entry (R192, R201, R213). -/
def State.leaveCue (s : State) (r t : Nat) : State :=
  let e := s.eng r
  let op := cueOp (s.curCue r).w
  let s1 := ((s.keepLast r t).endEpisode r t).foldPiece r t
  let s2 := s1.when (e.run && s.voice r == 4 && (op == 1 || op == 2)) (fun a =>
    a.set (Fld.REEL_RIDX r) ((s.get (Fld.REEL_RIDX r) + 1) % max 1 (s.get (Fld.REEL_RCNT r))))
  s2.onEng r (fun e => { e with run := false, started := false })

/-- The play pointer of slot `n` advances past a completed leaf (R101, R104). -/
def State.playAdvance (s : State) (n : Nat) : State :=
  let pp := s.get (Fld.MS_STRM_PLAY n)
  let fp := s.get (Fld.MS_STRM_FILL n)
  let holder := match s.boundCard n with
    | some (k, _) => (s.loans.find? (fun l => l.card == k)).map (fun l => l.reel)
    | none => none
  let keeps := match holder with
    | some r => s.get (Fld.REEL_LATE_POL r) == 2
    | none => false
  let s1 := s.bumpWrap (Fld.MS_STRM_PLAY n)
  if fp = pp then ((s1.set (Fld.MS_STRM_FILL n) (pp + 1)).bump (Fld.MS_STRM_CNT_SKIP n)).clr (Lat.STRM_RET n)
  else s1.set (Lat.STRM_RET n) keeps.toNat

/-- A pass of a streamed card ends: PP advances past the leaf that LEN ends in (R105). -/
def State.streamPassEnd (s : State) (r : Nat) : State :=
  let c := s.card (s.get (Fld.REEL_CARD r))
  if s.voice r = 0 ∧ c.valid ∧ c.streamed ∧ (s.eng r).run ∧ cueOp (s.curCue r).w ≠ 0x30 then (s.playAdvance c.stream).set (Lat.STRM_NEXT c.stream) (2 ^ 64 - 1) else s

end Sys2Proof.Machine
end

