-- ==== Sys2Proof/Machine/Channels.lean ====
section
/-!
DEFINITION. Analog output channels: states, parking, faults, ranges, equaliser banks, channel boundaries and the
datapath from the reel sum to the DAC code (R222 to R240).
-/
namespace Sys2Proof.Machine

/-! ### Datapath (R223 to R225) -/

/-- Multiply and add taps and samples. -/
def macTaps : List Int → List Int → Int
  | h :: hs, x :: xs => h * x + macTaps hs xs
  | _, _ => 0

/-- The equaliser: y before saturation, from the taps and the 64 sums of ticks t + 31 down to t - 32 (R223). -/
def eqExact (taps xs : List Int) : Int := (macTaps taps xs + 2 ^ 17) / 2 ^ 18

/-- Saturation to 24 bits. -/
def sat24 (v : Int) : Int := clampInt (-2 ^ 23) (2 ^ 23 - 1) v

/-- The DAC code of the calibration stage before its last saturation (R224). -/
def calExact (c : CalSet) (y : Int) : Int :=
  let z1 := sat24 ((y * c.cg + 2 ^ 17) / 2 ^ 18 + c.cofs)
  let u : Nat := (z1 + 2 ^ 23).toNat
  let seg := u / 2 ^ 18
  let r : Int := ((u % 2 ^ 18 : Nat) : Int)
  let a := c.inl.getD seg 0
  let corr := a + (c.inl.getD (seg + 1) 0 - a) * r / 2 ^ 18
  (z1 + corr + 2 ^ 7) / 2 ^ 8

/-- Saturation to a 16-bit code. -/
def sat16 (v : Int) : Int := clampInt (-32768) 32767 v

/-- The digital zero d0 of a set (R225). -/
def digitalZero (c : CalSet) : Int := sat16 (calExact c 0)

/-- y is forced to 0 for the sample of channel `n` scheduled now: the channel does not play, or a range gap runs (R225, R232,
R238). -/
def State.muted (s : State) (n : Nat) : Bool := s.get (Fld.CH_STATUS_STATE n) != 3 || s.is (Fld.CH_STATUS_RNG_GAP n)

/-- The delay line of channel `n`. -/
def State.lineOf (s : State) (n : Nat) : Line := (s.lines.find? (fun l => l.ch == n)).getD ⟨n, List.replicate 64 (0, true), []⟩

/-- The sum of channel `n` at tick `t` enters its delay line, and the output scheduled 31 ticks before is computed with the
values in force for its tick (R222 to R224, R228). -/
def State.channelTick (s : State) (n t : Nat) : State :=
  let exact := s.exactSum (512 + n) t
  let x := sat24 exact
  let s1 := (s.seti (Lat.CH_SUM n) x).when (exact != x) (fun a => a.satMark n t)
  let l := s.lineOf n
  let xs := (x, s.muted n) :: l.xs.take 63
  let olds := l.olds.filter (fun o => t < o.1 + 31)
  let c := match olds.find? (fun o => t < o.1 + 31) with
    | some o => o.2
    | none => s.pathSet n
  let mute := (xs.getD 31 (0, true)).2
  let e := eqExact c.taps (xs.map (fun p => p.1))
  let y := if mute then 0 else sat24 e
  let d := calExact c y
  let s2 := { s1 with lines := ⟨n, xs, olds⟩ :: s1.lines.filter (fun m => m.ch != n) }
  ((s2.seti (Lat.CH_D n) (sat16 d)).when (!mute && e != sat24 e) (fun a => a.flag (Fld.CH_EVT_EQ_SAT n))).when (d != sat16 d)
    (fun a => a.flag (Fld.CH_EVT_CLIP n))

/-! ### States (R234 to R236) -/

/-- The rails of channel `n` are good and the device's power state lets it be powered (R235, R405). -/
def State.channelPower (s : State) (n : Nat) : Bool :=
  s.is (Lat.DIE_PG (n / 4)) && s.unitsPowered

/-- Channel `n` leaves OFF when it may (R235). -/
def State.chStart (s : State) (n : Nat) : State :=
  if s.get (Fld.CH_STATUS_STATE n) = 0 ∧ s.is (Fld.CH_CTRL_EN n) ∧ s.channelPower n then s.chEnter n 1 else s

/-- CH_ENABLE: CH_CTRL.EN = 1. OFF powers up when the rails are good; PARKING queues a restart; elsewhere nothing happens
(R235, R236). -/
def execChEnable (n : Fin 32) (s : State) : Res :=
  let s1 := s.flag (Fld.CH_CTRL_EN n)
  .next (s.onHost fun s => (if s.get (Fld.CH_STATUS_STATE n) = 4 then s1.sets [(Fld.CH_STATUS_RESTART_PENDING n, 1), (Fld.CH_EVT_RESTART_QUEUED n, 1)] else s1.chStart n))

/-- Channel `n` hard-parks and ramps down, unless it is OFF or already PARKING. -/
def State.chStop (s : State) (n : Nat) : State :=
  if s.get (Fld.CH_STATUS_STATE n) = 0 ∨ s.get (Fld.CH_STATUS_STATE n) = 4 then s else s.chEnter n 4

/-- CH_DISABLE: CH_CTRL.EN = 0. A powered channel hard-parks and ramps down; in PARKING a queued restart is cancelled (R235,
R236). -/
def execChDisable (n : Fin 32) (s : State) : Res :=
  .next (s.onHost fun s => (((s.clr (Fld.CH_CTRL_EN n)).clr (Fld.CH_STATUS_RESTART_PENDING n)).chStop n))

/-- CH_STAGE_READY: a POWERING stage becomes ready (R235). -/
def execChStageReady (n : Fin 32) (s : State) : Res :=
  .next (if s.get (Fld.CH_STATUS_STATE n) = 1 then s.chEnter n 2 else s)

/-- CH_RAMP_DOWN_DONE: the ramp-down completes: OFF, or POWERING if a restart is pending and the power state allows it (R235,
R236, R449). -/
def execChRampDownDone (n : Fin 32) (s : State) : Res :=
  .next <|
    if s.get (Fld.CH_STATUS_STATE n) = 4 then
      let s1 := (s.chEnter n 0).clr (Fld.CH_STATUS_RESTART_PENDING n)
      if s.is (Fld.CH_STATUS_RESTART_PENDING n) && s.channelPower n then s1.chEnter n 1 else s1
    else s

/-! ### Parking (R237 to R239) -/

/-- CH_PARK_WRITE: CH_CTRL.PARK, the SOFT reason (R237). -/
def execChParkWrite (n : Fin 32) (on : Bool) (s : State) : Res :=
  .next (s.onHost fun s => ((s.set (Fld.CH_CTRL_PARK n) on.toNat).chPark n pkSoft on))

/-- CH_RELEASE: at a word boundary BOOT clears when its condition is over, and a PARKED channel without a reason plays
(R235, R237). -/
def execChRelease (n : Fin 32) (s : State) : Res :=
  .next <|
    if s.now % 8 ≠ 0 then s
    else
      let s1 := s.when (s.bootOver (tileOfChannel n)) (fun a => a.chPark n pkBoot false)
      if s1.get (Fld.CH_STATUS_STATE n) = 2 ∧ s1.get (Fld.CH_PARK_SRC_REASON n) = 0 then s1.chEnter n 3 else s1

/-- A soft reason takes effect at a word boundary (R235, R238). -/
def State.softPark (s : State) (n : Nat) : State :=
  if s.get (Fld.CH_STATUS_STATE n) = 3 ∧ s.get (Fld.CH_PARK_SRC_REASON n) ≠ 0 then s.chEnter n 2 else s

/-- The rails of converter die `d` have been good for 1 ms (R237): 6,400,000 ticks at nominal F_tick. -/
def State.dieGood (s : State) (d : Nat) : Bool :=
  s.is (Lat.DIE_PG d) && !s.is (Lat.DIE_UV d) && decide (s.get (Lat.DIE_GOOD_AT d) + 6400000 ≤ s.now)

/-- UNPARK: CH_CMD.UNPARK clears the latched reasons TRIP, FAULT and SUPPLY whose conditions have cleared (R237). -/
def execUnpark (n : Fin 32) (s : State) : Res :=
  let s1 := s.when (!s.is Lat.TRIP) (fun a => a.chPark n pkTrip false)
  let s2 := s1.when (s.get (Lat.CH_BAD n) == 0) (fun a => a.chPark n pkFault false)
  .next (s.onHost fun s => (s2.when (s.dieGood (n / 4)) (fun a => a.chPark n pkSupply false)))

/-- PARK_N_FALL: PARK_N low clamps every output and parks every transmitting port, is raised and reported, and takes groups
with a parked drive destination to ABORTED (R237, R238, R246, R282). -/
def execParkNFall (s : State) : Res :=
  .next <|
    if s.is Lat.PARK_N_LOW then s
    else ((((s.flag Lat.PARK_N_LOW).persist 5 true).raise 5 (unitBlock 33) 0 []).pulse 463 none).parkAll pkParkN true
      |>.each (List.range 32) (fun n a => a.hardParkAbort n)

/-- PARK_N_RELEASE: PARK_N is high. `held` says that it has been so for 256 consecutive words: the reason clears; otherwise it
only stops persisting in the ledger (R237, R334). -/
def execParkNRelease (held : Bool) (s : State) : Res :=
  let s1 := (s.clr Lat.PARK_N_LOW).persist 5 false
  .next (if held then s1.parkAll pkParkN false else s1)

/-! ### Faults (R240, R456) -/

/-- A fault condition of channel `n` appears or goes. A new one parks the channel and is raised once per channel; under an
ACTIVE entry of the channel's converter die, or of the reference for a clock fault, it is folded into that entry (R240,
R336, R456). -/
def State.channelFault (s : State) (n bit : Nat) (ev : Key) (present : Bool) : State :=
  let s1 := s.set (Lat.CH_BAD n) (putBit (s.get (Lat.CH_BAD n)) bit present)
  let s2 := s1.persist 23 ((List.range 32).any (fun m => s1.get (Lat.CH_BAD m) != 0))
  if present then
    let s3 := (s2.flag ev).chPark n pkFault true
    if s3.marked 6 (markChannel n) then s3
    else if bit = 2 ∧ s3.is (Fld.LDG_ACTIVE 0) then s3.mark 0 (markChannel n)
    else if bit = 2 ∧ s3.is (Fld.LDG_ACTIVE 1) then s3.mark 1 (markChannel n)
    else s3.raisePerUnit 23 (unitChannel n) n (markChannel n)
  else s2

/-- OUT_SHORT: an output overcurrent of channel `n` appears or has gone (R240). -/
def execOutShort (n : Fin 32) (present : Bool) (s : State) : Res := .next (s.channelFault n 0 (Fld.CH_EVT_OUT_SHORT n) present)

/-- STAGE_HOT: an output stage overtemperature of channel `n` appears or has gone (R240). -/
def execStageHot (n : Fin 32) (present : Bool) (s : State) : Res := .next (s.channelFault n 1 (Fld.CH_EVT_STAGE_HOT n) present)

/-- FEED_FAULT: the fill of the feed queue of channel `n` is `fill` words: outside 24 to 40 it is a fault (R240). -/
def execFeedFault (n : Fin 32) (fill : Nat) (s : State) : Res :=
  .next (s.channelFault n 2 (Fld.CH_EVT_FEED_FAULT n) (!(24 ≤ fill && fill ≤ 40)))

/-- SUPPLY_UV persists while a converter-die or main rail is below its warning (R334). -/
def State.uvPersist (s : State) : State :=
  s.persist 6 ((List.range 8).any (fun d => s.is (Lat.DIE_UV d)) || s.get Fld.SYS_RAIL_WARN != 0)

/-- CONVERTER_SUPPLY_LOSS: a rail of converter die `d` falls below its warning (SUPPLY on its four channels, raised at the
die), or with `pg` below power-good, which takes the channels OFF behind the supply clamp (R235, R456). -/
def execConverterSupplyLoss (d : Fin 8) (pg : Bool) (s : State) : Res :=
  let chans := (List.range 4).map (fun j => 4 * (d : Nat) + j)
  let s1 := if s.is (Lat.DIE_UV d) then s else ((s.flag (Lat.DIE_UV d)).uvPersist).raise 6 (unitDie d) d (markDie d)
  let s2 := s1.each chans (fun n a => a.chPark n pkSupply true)
  .next (if pg then (s2.clr (Lat.DIE_PG d)).each chans (fun n a => (a.clr (Fld.CH_STATUS_RESTART_PENDING n)).chEnter n 0) else s2)

/-- CONVERTER_SUPPLY_GOOD: the rails of converter die `d` are good: the 1 ms of R237 runs from now, and at the return of
power-good BOOT sets and its enabled channels power up (R235, R237). -/
def execConverterSupplyGood (d : Fin 8) (s : State) : Res :=
  let chans := (List.range 4).map (fun j => 4 * (d : Nat) + j)
  let s1 := ((s.clr (Lat.DIE_UV d)).set (Lat.DIE_GOOD_AT d) s.now).uvPersist
  .next (if s.is (Lat.DIE_PG d) then s1 else (s1.flag (Lat.DIE_PG d)).each chans (fun n a => (a.chPark n pkBoot true).chStart n))

/-! ### Ranges (R230 to R233) -/

/-- RNG_REQ: CH_CMD.RNG_REQ requests CH_RANGE.REQ for CH_RNG_AT, or for the next channel boundary when that is 0 (R231). -/
def execRngReq (n : Fin 32) (s : State) : Res :=
  let at_ := s.get2 (Fld.CH_RNG_AT_LO n) (Fld.CH_RNG_AT_HI n)
  .next <| s.onHost fun s =>
    if at_ = 0 then s.rangeRequest ⟨n, s.get (Fld.CH_RANGE_REQ n), none, none, s.now⟩
    else if at_ % 8 ≠ 0 ∨ at_ < s.now + 512 then s.flag (Fld.CH_EVT_RNG_REFUSED n)
    else s.rangeRequest ⟨n, s.get (Fld.CH_RANGE_REQ n), some at_, none, s.now⟩

/-- Every contributing reel of channel `n` is quiet in the word at `t` (R150). -/
def State.quiet (s : State) (n t : Nat) : Bool :=
  s.engines.all (fun e =>
    if (s.dests e.reel).contains (512 + n) then
      match s.reelState e.reel with
      | 0 | 1 | 5 | 6 => true
      | 2 => e.run && e.started && decide (e.anchor ≤ t && t + 8 ≤ e.endB) && cueOp (s.curCue e.reel).w == 0x30
      | _ => false
    else true)

/-- The word boundary now is the first at or after the anchor tick of a producing cue of the boundary reel, which has the
channel as a destination (R229, R453). -/
def State.breelMark (s : State) (n : Nat) : Bool :=
  let r := s.get (Fld.CH_CFG_BREEL n)
  s.is (Fld.CH_CFG_BREEL_EN n) && (s.dests r).contains (512 + n) && (s.eng r).run && wordUp (s.eng r).anchor == s.now

/-- A request of channel `n` accepted at tick `asked` meets a channel boundary now (R229): at a word boundary at least 8 words
later, outside a range gap (R451). -/
def State.boundary (s : State) (n asked : Nat) : Bool :=
  s.now % 8 == 0 && decide (asked + 64 ≤ s.now) && !s.is (Fld.CH_STATUS_RNG_GAP n) &&
    (s.get (Fld.CH_STATUS_STATE n) != 3 || s.quiet n s.now || s.breelMark n)

/-- EQ_SWAP: CH_CMD.EQ_SWAP (R228). -/
def execEqSwap (n : Fin 32) (s : State) : Res :=
  .next (s.onHost fun s => (if s.is (Fld.CH_EQ_CFG_SWAP_PEND n) then s else s.sets [(Fld.CH_EQ_CFG_SWAP_PEND n, 1), (Lat.EQ_REQ_AT n, s.now)]))

/-- CH_EQ_COEF_WRITE: a host write of tap `i` of bank `b`; a write to the active bank is dropped (R228). -/
def execChEqCoefWrite (n : Fin 32) (b : Fin 2) (i : Fin 64) (v : Nat) (s : State) : Res :=
  .next (s.onHost fun s => (if (b : Nat) = s.get (Fld.CH_EQ_CFG_ACTIVE n) then s.flag (Fld.CH_EVT_EQ_WR_ACTIVE n) else s.set (Fld.CH_EQ_COEF_H n (64 * b + i)) v))

/-- The changes of the equaliser due at a boundary: a new SRC first, then the swap (R228, R451). -/
def State.eqBoundary (s : State) (n : Nat) : State :=
  let s1 := if s.get (Fld.CH_EQ_CFG_SRC n) ≠ s.get (Lat.EQ_SRC_CUR n) ∧ s.boundary n (s.get (Lat.EQ_SRC_AT n)) then
      (s.set (Lat.EQ_SRC_CUR n) (s.get (Fld.CH_EQ_CFG_SRC n))).flag (Fld.CH_EVT_EQ_SWAPPED n) else s
  if s.is (Fld.CH_EQ_CFG_SWAP_PEND n) && s.boundary n (s.get (Lat.EQ_REQ_AT n)) then
    s1.sets [(Fld.CH_EQ_CFG_ACTIVE n, 1 - s.get (Fld.CH_EQ_CFG_ACTIVE n)), (Fld.CH_EQ_CFG_SWAP_PEND n, 0), (Fld.CH_EVT_EQ_SWAPPED n, 1)]
  else s1

/-- The pending correction set of the range in force that meets the boundary applies (R229, R376). -/
def State.calBoundary (s : State) (n : Nat) : State :=
  let r := s.get (Fld.CH_RANGE_CUR n)
  if s.calPends.any (fun p => p.ch == n && p.range == r && !p.waits && s.boundary n p.asked) then s.applySet n r else s

/-- The range gap of a request starts at `t` (R232). -/
def State.gapStart (s : State) (n t range : Nat) : State :=
  s.sets [(Fld.CH_STATUS_RNG_GAP n, 1), (Lat.RNG_AT n, t), (Lat.RNG_NEW n, range)]

/-- CH_STATUS.RNG_PEND and CH_RANGE.PEND_VAL follow the requests of channel `n`. -/
def State.rangeStatus (s : State) (n : Nat) : State :=
  match s.ranges.find? (fun q => q.ch == n) with
  | some q => s.sets [(Fld.CH_STATUS_RNG_PEND n, 1), (Fld.CH_RANGE_PEND_VAL n, q.range)]
  | none => s.clr (Fld.CH_STATUS_RNG_PEND n)

/-- CHANNEL_BOUNDARY: at a channel boundary the correction set, equaliser source and bank swap that were asked for at least
8 words before apply, and a range request for the next boundary starts its gap (R228, R229, R231). -/
def execChannelBoundary (n : Fin 32) (s : State) : Res :=
  let s1 := s.switchSet n (fun a => (a.calBoundary n).eqBoundary n)
  .next <|
    match s1.ranges.find? (fun q => q.ch == (n : Nat) && q.at_.isNone && s1.boundary n q.asked) with
    | some q => (({ s1 with ranges := removeFirst (fun p => p == q) s1.ranges }).gapStart n s.now q.range).rangeStatus n
    | none => s1

/-- RANGE_GAP_START: a request of channel `n` for a named tick starts its gap at that tick, or at the end of the gap before
it; a request whose channel has meanwhile lost its power takes effect at once (R232, R233). -/
def execRangeGapStart (n : Fin 32) (s : State) : Res :=
  let st := s.get (Fld.CH_STATUS_STATE n)
  .next <|
    if s.is (Fld.CH_STATUS_RNG_GAP n) then s
    else match s.ranges.find? (fun q => q.ch == (n : Nat) && (q.at_.map (fun t => decide (t ≤ s.now))).getD false) with
      | none => s
      | some q =>
        let s1 := { s with ranges := removeFirst (fun p => p == q) s.ranges }
        if st = 2 ∨ st = 3 then (s1.gapStart n (q.at_.getD s.now) q.range).rangeStatus n else (s1.enterRange n q.range).rangeStatus n

/-- RANGE_GAP_END: at T_r + 256 the new range's values take effect; an equaliser change due then follows them (R232, R451). -/
def execRangeGapEnd (n : Fin 32) (s : State) : Res :=
  .next <|
    if s.is (Fld.CH_STATUS_RNG_GAP n) && decide (s.get (Lat.RNG_AT n) + 256 ≤ s.now) then
      let s1 := ((s.clr (Fld.CH_STATUS_RNG_GAP n)).enterRange n (s.get (Lat.RNG_NEW n))).flag (Fld.CH_EVT_RNG_DONE n)
      (s1.switchSet n (fun a => a.eqBoundary n)).rangeStatus n
    else s

/-- CH_CAL_SKEW.CUR moves one step towards its target, which saturates at ±500 (R226). -/
def State.skewStep (s : State) (n : Nat) : State :=
  let cur := s.geti (Fld.CH_CAL_SKEW_CUR n)
  let tgt := clampInt (-500) 500 (s.geti (Fld.CH_CAL_SKEW_TGT n))
  s.seti (Fld.CH_CAL_SKEW_CUR n) (if cur < tgt then cur + 1 else if tgt < cur then cur - 1 else cur)

end Sys2Proof.Machine
end

