-- ==== Sys2Proof/Machine/Tiu.lean ====
section
/-!
DEFINITION. Time-interval units: states, arming, stamps, interval and frequency measurements, the tap table (R286 to
R302).
-/
namespace Sys2Proof.Machine

/-! ### Stamps (R286, R291) -/

/-- Width of tap `q` of line `line` of TIU `k`. -/
def State.tapWidth (s : State) (k line q : Nat) : Nat :=
  if q % 2 = 1 then s.get (Fld.TIU_TAP_W_ODD k (64 * line + q / 2)) else s.get (Fld.TIU_TAP_W_EVEN k (64 * line + q / 2))

/-- The calibrated fraction of tap code `q`: C[q] + floor(W[q] / 2), in 2^-16 tick (R286). -/
def State.tapFraction (s : State) (k line q : Nat) : Nat :=
  ((List.range q).map (fun j => s.tapWidth k line j)).foldl (· + ·) 0 + s.tapWidth k line q / 2

/-- The path delay of a source from the record, in 2^-16 tick, at the present temperature of the logic-die centre; only EVIO
and REFIN have one (R291, R371). -/
def State.pathDelay (s : State) (src : Nat) : Int :=
  match s.factory with
  | some f =>
    match f.pins.find? (fun p => p.1 == src && (src < 16 || src == 288)) with
    | some p =>
      let t := s.geti (Fld.SYS_TJ_TJ 20)
      interpolate (bracket t).1 (bracket t).2 (p.2.getD (bracket t).1 0) (p.2.getD (bracket t).2 0) t 0
    | none => 0
  | none => 0

/-- The calibrated stamp of an edge in the tick now at tap code `q`: line B is corrected by its offset, a source with a path
delay refers to the ball (R286, R288, R291). -/
def State.stampOf (s : State) (k line q src : Nat) : Nat :=
  ((s.now * 65536 + s.tapFraction k line q : Nat) - (if line = 1 then s.geti (Lat.TIU_BOFS k) else 0) - s.pathDelay src).toNat

/-- Write a stamp into three dwords in TS96 form (R15, R286). -/
def State.setStamp (s : State) (key : Nat → Key) (v : Nat) : State :=
  s.sets [(key 0, v % 65536 * 65536), (key 1, v / 65536 % 2 ^ 32), (key 2, v / 65536 / 2 ^ 32)]

/-! ### States -/

/-- The measurement of TIU `k`, if one is in progress. -/
def State.meas (s : State) (k : Nat) : Option Meas := s.measures.find? (fun m => m.tiu == k)

/-- Discard the measurement of TIU `k`. -/
def State.dropMeas (s : State) (k : Nat) : State := { s with measures := s.measures.filter (fun m => m.tiu != k) }

/-- Put a measurement in place. -/
def State.putMeas (s : State) (m : Meas) : State := { s with measures := m :: s.measures.filter (fun x => x.tiu != m.tiu) }

/-- A device service holds TIU `k` (R300). -/
def State.reserved (s : State) (k : Nat) : Bool := s.get (Fld.TIU_STATUS_RSV k) != 0

/-- TIU `k` is free for a service (R300). -/
def State.tiuFree (s : State) (k : Nat) : Bool :=
  let st := s.get (Fld.TIU_STATUS_STATE k)
  !s.reserved k && (st == 0 || st == 2 || st == 5)

/-- A free TIU of tile `t`. -/
def State.freeTiu (s : State) (t : Nat) : Option Nat := ([3 * t, 3 * t + 1, 3 * t + 2]).find? (fun k => s.tiuFree k)

/-- A write to a reserved TIU's control is ignored with RSV_REFUSED (R301). -/
def State.unreserved (s : State) (k : Nat) (f : State → State) : State :=
  if s.reserved k then s.flag (Fld.TIU_EVT_RSV_REFUSED k) else f s

/-- TIU `k` leaves OFF when it may: EN = 1, the time base has released at least once, and the power state keeps it powered
(R293, R405). -/
def State.tiuStart (s : State) (k : Nat) : State :=
  if s.get (Fld.TIU_STATUS_STATE k) = 0 ∧ s.is (Fld.TIU_CTRL_EN k) ∧ s.is Lat.TB_EVER ∧ s.unitsPowered then
    s.set (Fld.TIU_STATUS_STATE k) 1 else s

/-- TIU `k` powers its loop down; a measurement in progress is discarded (R293, R302). -/
def State.tiuStop (s : State) (k : Nat) : State :=
  let st := s.get (Fld.TIU_STATUS_STATE k)
  if 1 ≤ st ∧ st ≤ 5 then ((s.dropMeas k).set (Fld.TIU_STATUS_STATE k) 6) else s

/-- TIU_ENABLE: TIU_CTRL.EN = 1 (R293, R294). -/
def execTiuEnable (k : Fin 24) (s : State) : Res :=
  .next (s.onHost fun s => (s.unreserved k (fun a =>
    let a1 := a.flag (Fld.TIU_CTRL_EN k)
    if a.get (Fld.TIU_STATUS_STATE k) = 6 then a1.sets [(Fld.TIU_STATUS_RESTART_PENDING k, 1), (Fld.TIU_EVT_RESTART_QUEUED k, 1)]
    else a1.tiuStart k)))

/-- TIU_DISABLE: TIU_CTRL.EN = 0; in STOPPING it cancels a queued restart (R293, R294). -/
def execTiuDisable (k : Fin 24) (s : State) : Res :=
  .next (s.onHost fun s => (s.unreserved k (fun a => ((a.clr (Fld.TIU_CTRL_EN k)).clr (Fld.TIU_STATUS_RESTART_PENDING k)).tiuStop k)))

/-- The uniform table of a loop that has locked and not been calibrated (R289). -/
def State.uniformTable (s : State) (k : Nat) : State :=
  { s.resetKeys (fun q => q.r == .TIU_TAP && q.i == k) with tables := s.tables.filter (fun (t : TapTable) => t.tiu != k) }

/-- TIU_DLL_LOCK: the delay-locked loop locks; in LOCKING the TIU enters IDLE (R287, R289, R293). -/
def execTiuDllLock (k : Fin 24) (s : State) : Res :=
  let s1 := ((s.flag (Fld.TIU_STATUS_DLL_LOCK k)).uniformTable k).sets [(Fld.TIU_STATUS_CAL_VALID k, 0), (Lat.TIU_BOFS k, 0)]
  .next <|
    if s.get (Fld.TIU_STATUS_STATE k) = 1 then s1.set (Fld.TIU_STATUS_STATE k) 2
    else if s.get (Fld.TIU_STATUS_STATE k) = 0 ∨ s.get (Fld.TIU_STATUS_STATE k) = 6 ∨ s.is (Fld.TIU_STATUS_DLL_LOCK k) then s
    else s1

/-- TIU_STOP_DONE: the loop has powered down: OFF, or LOCKING when a restart is pending and may start (R293, R449). -/
def execTiuStopDone (k : Fin 24) (s : State) : Res :=
  .next <|
    if s.get (Fld.TIU_STATUS_STATE k) = 6 then
      let s1 := s.sets [(Fld.TIU_STATUS_STATE k, 0), (Fld.TIU_STATUS_DLL_LOCK k, 0), (Fld.TIU_STATUS_RESTART_PENDING k, 0), (Lat.TIU_CAL_BUSY k, 0)]
      if s.is (Fld.TIU_STATUS_RESTART_PENDING k) then s1.tiuStart k else s1
    else s

/-! ### Arming (R290, R295) -/

/-- TIU `k` may select source code `c` (R290). -/
def tiuReach (k c : Nat) : Bool :=
  let t := k / 3
  if c < 144 then true
  else if c < 160 then (c - 144) / 2 == t
  else if c < 192 then (c - 160) / 4 == t
  else if c < 240 then (c - 192) / 6 == t
  else if c < 288 then (c - 240) / 6 == t
  else c == 288

/-- T0 + LIMIT, or none when LIMIT is 0 (R295). -/
def State.tiuLimit (s : State) (k t0 : Nat) : Option Nat :=
  let l := s.get2 (Fld.TIU_LIMIT_LO k) (Fld.TIU_LIMIT_HI k)
  if l = 0 then none else some (t0 + l)

/-- Why an ARM of TIU `k` at `at_` (0: at once) is refused; 0 when it is accepted (R295). -/
def State.armRefusal (s : State) (k at_ : Nat) : Nat :=
  let st := s.get (Fld.TIU_STATUS_STATE k)
  if s.reserved k then 4
  else if !(st == 2 || st == 5) || !s.is (Fld.TIU_STATUS_DLL_LOCK k) then 1
  else if !tiuReach k (s.get (Fld.TIU_SRC_START_SEL k)) || !tiuReach k (s.get (Fld.TIU_SRC_STOP_SEL k)) then 2
  else if at_ ≠ 0 ∧ at_ < s.now + 512 then 3
  else 0

/-- A table that waits comes into force (R289). -/
def State.installTable (s : State) (k : Nat) : State :=
  match s.tables.find? (fun t => t.tiu == k) with
  | none => s
  | some t =>
    ((({ s with tables := s.tables.filter (fun x => x.tiu != k) }).each (List.range 128) (fun j a =>
      (a.set (Fld.TIU_TAP_W_EVEN k j) (t.widths.getD (2 * j) 0)).set (Fld.TIU_TAP_W_ODD k j) (t.widths.getD (2 * j + 1) 0))).seti (Lat.TIU_BOFS k) t.offset).flag
        (Fld.TIU_STATUS_CAL_VALID k)

/-- The table of TIU `k` is stale: more than 10 s old (at nominal F_tick), or its tile's sensor has moved more than 5 °C since
(R289). -/
def State.tableStale (s : State) (k : Nat) : Bool :=
  s.is (Fld.TIU_STATUS_CAL_VALID k) && (decide (64000000000 < tickAfter (s.get (Lat.TIU_CAL_AT k)) s.now) ||
    decide (80 < (s.geti (Fld.SYS_TJ_TJ (k / 3)) - s.geti (Fld.TIU_CAL_STAT_TJ k)).natAbs))

/-- Arm TIU `k` (R289, R293, R295). A refusal of a task sets the event alone (R315). -/
def State.tiuArm (s : State) (k at_ : Nat) (task : Bool) : State :=
  let r := s.armRefusal k at_
  if r ≠ 0 then
    let s1 := s.flag (Fld.TIU_EVT_ARM_REFUSED k)
    if task then s1 else s1.set (Fld.TIU_STATUS_REFUSE k) r
  else
    let s1 := s.installTable k
    let m : Meas := { tiu := k, t0 := if at_ = 0 then wordNext s.now else at_, est := !s1.is (Fld.TIU_STATUS_CAL_VALID k), stale := s1.tableStale k }
    (s1.putMeas m).sets [(Fld.TIU_STATUS_STATE k, 3), (Fld.TIU_RUN_LO k, 0), (Fld.TIU_RUN_HI k, 0)]

/-- TIU_ARM: TIU_CTRL.ARM (R295). On a reserved TIU the write is also refused as such (R301). -/
def execTiuArm (k : Fin 24) (s : State) : Res :=
  let s1 := s.when (s.reserved k) (fun a => a.flag (Fld.TIU_EVT_RSV_REFUSED k))
  .next (s.onHost fun s => (s1.tiuArm k (s.get2 (Fld.TIU_AT_LO k) (Fld.TIU_AT_HI k)) false))

/-- TIU_ARM_TASK: task 200 + k arms TIU `k` with TIU_AT taken as 0 (R315). -/
def execTiuArmTask (k : Fin 24) (s : State) : Res := .next (s.onTask (200 + k) false (fun _ a => a.tiuArm k 0 true))

/-- TIU_ABORT: TIU_CTRL.ABORT (R293). -/
def execTiuAbort (k : Fin 24) (s : State) : Res :=
  let st := s.get (Fld.TIU_STATUS_STATE k)
  .next (s.onHost fun s => (s.unreserved k (fun a => if 3 ≤ st ∧ st ≤ 5 then (a.dropMeas k).set (Fld.TIU_STATUS_STATE k) 2 else a)))

/-- TIU_T0: the count-start tick is reached (R293). -/
def execTiuT0 (k : Fin 24) (s : State) : Res :=
  .next <|
    match s.meas k with
    | some m => if s.get (Fld.TIU_STATUS_STATE k) = 3 ∧ m.t0 ≤ s.now then s.set (Fld.TIU_STATUS_STATE k) 4 else s
    | none => s

/-! ### Edges (R292, R296, R298) -/

/-- 16 ticks in 2^-16 tick. -/
def sixteen : Nat := 16 * 65536

/-- A stamp is at least 16 ticks after another. -/
def apart (last : Option Nat) (v : Nat) : Bool := match last with | some l => decide (l + sixteen ≤ v) | none => true

/-- A start stamp in interval mode: it opens an interval, or is counted in OVERRUN while one is open (R296). -/
def Meas.start (m : Meas) (v : Nat) : Meas :=
  if m.opened.isSome then { m with overrun := m.overrun + 1 }
  else if apart m.lastStop v && apart m.lastStart v then { m with opened := some v, lastStart := some v, first := some (m.first.getD v) }
  else m

/-- A stop stamp in interval mode closes the open interval when it is not before its start (R296, R297). -/
def Meas.stop (m : Meas) (v : Nat) : Meas :=
  match m.opened with
  | some a =>
    if a ≤ v then
      let d : Int := (v : Int) - a
      { m with opened := none, lastStop := some v, n := m.n + 1, isum := m.isum + d, imin := if m.n = 0 then d else min m.imin d,
               imax := if m.n = 0 then d else max m.imax d }
    else m
  | none => m

/-- A counting edge in frequency mode: edge e is stamped when e mod k = 0; a k-th edge within 16 ticks of the stamp before ends
the gate with RATE (R298, R299). -/
def Meas.count (m : Meas) (k v : Nat) : Meas :=
  let m1 := { m with edges := m.edges + 1 }
  if m.edges % k ≠ 0 then m1
  else if !apart m.lastStop v then { m1 with rate := true, overrun := m.overrun + 1 }
  else
    let t := v - m.first.getD v
    { m1 with first := some (m.first.getD v), lastStop := some v, n := m.n + 1, sumT := m.sumT + t, sumIT := m.sumIT + m.n * t }

/-- Intervals or stamps a measurement of TIU `k` waits for (R296, R298). -/
def State.tiuWanted (s : State) (k : Nat) : Nat :=
  if s.is (Fld.TIU_CFG_MODE k) then (if s.get (Fld.TIU_MAXN k) = 0 then 1048576 else s.get (Fld.TIU_MAXN k))
  else s.get (Fld.TIU_CFG_NM1 k) + 1

/-- TIU `k` stamps edges now: its loop is locked and no REANCHOR stop is under way, until 8 words after its release (R287). -/
def State.stamps (s : State) (k : Nat) : Bool := s.is (Fld.TIU_STATUS_DLL_LOCK k) && !s.is Lat.TB_HELD && !s.is Lat.TB_UNPARK_DUE

/-- TIU_EDGE: an edge of the start input (`line` 0) or the stop input (1) of TIU `k` in the tick now, at tap code `q`. With
one input selected for both, its edges come on line A and start and stop intervals in turn (R286, R292, R295, R296, R298). -/
def execTiuEdge (k : Fin 24) (line : Fin 2) (q : Fin 128) (s : State) : Res :=
  .next <|
    match s.meas k with
    | none => s
    | some m =>
      let src := if line = 0 then s.get (Fld.TIU_SRC_START_SEL k) else s.get (Fld.TIU_SRC_STOP_SEL k)
      let v := s.stampOf k line q src
      let last := if line = 0 then m.lastA else m.lastB
      let freq := s.is (Fld.TIU_CFG_MODE k)
      let late := match s.tiuLimit k m.t0 with | some e => decide (e * 65536 ≤ v) | none => false
      let ends := m.rate || decide (s.tiuWanted k ≤ m.n)
      if s.get (Fld.TIU_STATUS_STATE k) ≠ 4 || !s.stamps k || ends || late || decide (v < m.t0 * 65536) then s
      else if freq then
        if line = 1 then s
        else
          let m1 := { m.count (s.get (Fld.TIU_PRESCALE_KM1 k) + 1) v with unref := m.unref || s.unref }
          (s.putMeas m1).set2 (Fld.TIU_RUN_LO k) (Fld.TIU_RUN_HI k) m1.edges
      else if !apart last v then s
      else
        let m0 := if line = 0 then { m with lastA := some v, unref := m.unref || s.unref } else { m with lastB := some v, unref := m.unref || s.unref }
        let same := s.get (Fld.TIU_SRC_START_SEL k) == s.get (Fld.TIU_SRC_STOP_SEL k)
        s.putMeas (if same then (if line = 1 then m0 else if m.opened.isSome then m0.stop v else m0.start v)
          else if line = 0 then m0.start v else m0.stop v)

/-! ### Results (R297, R299) -/

/-- The smallest e with num < 256 × 2^e × den. -/
def freqExp (num den : Nat) : Nat → Nat → Nat
  | 0, e => e
  | fuel + 1, e => if num < 256 * 2 ^ e * den then e else freqExp num den fuel (e + 1)

/-- FREQ_RATIO and FREQ_EXP of `n` stamps with the given sums and prescale k (R299). -/
def freqFit (n sumT sumIT k : Nat) : Nat × Nat :=
  if n < 3 then (0, 0)
  else
    let si := n * (n - 1) / 2
    let sii := (n - 1) * n * (2 * n - 1) / 6
    let num := n * sumIT - si * sumT
    let den := (n * sii - si * si) * k * 65536
    let e := freqExp num den 64 0
    ((2 * num * 2 ^ 56 + den * 2 ^ e) / (2 * den * 2 ^ e), e)

/-- Latch the results of a measurement of TIU `k` and enter DONE (R293, R297, R299). -/
def State.latchTiu (s : State) (k : Nat) (m : Meas) (timeout broken : Bool) : State :=
  let freq := s.is (Fld.TIU_CFG_MODE k)
  let fit := if freq then freqFit m.n m.sumT m.sumIT (s.get (Fld.TIU_PRESCALE_KM1 k) + 1) else (0, 0)
  let nofit := freq && decide (m.n < 3)
  let s1 := (s.dropMeas k).sets [(Fld.TIU_STATUS_STATE k, 5), (Fld.TIU_RSTAT_SEQ k, s.get (Fld.TIU_RSTAT_SEQ k) + 1), (Fld.TIU_RSTAT_N k, m.n),
    (Fld.TIU_RSTAT_RATE k, m.rate.toNat), (Fld.TIU_RSTAT_PREEMPTED k, 0), (Fld.TIU_RSTAT_BROKEN k, broken.toNat), (Fld.TIU_RSTAT_TIMEOUT k, timeout.toNat),
    (Fld.TIU_RSTAT_STALE k, m.stale.toNat), (Fld.TIU_RSTAT_EST k, m.est.toNat), (Fld.TIU_RSTAT_UNREF k, m.unref.toNat),
    (Fld.TIU_OVERRUN k, min m.overrun 65535), (Fld.TIU_FREQ_EXP k, fit.2), (Fld.TIU_EVT_DONE k, 1)]
  let s2 := (s1.setStamp (Fld.TIU_START k) (m.first.getD 0)).setStamp (Fld.TIU_STOP k) (m.lastStop.getD 0)
  let s3 := ((s2.set2 (Fld.TIU_ISUM_LO k) (Fld.TIU_ISUM_HI k) (ux 64 m.isum)).set2 (Fld.TIU_IMIN_LO k) (Fld.TIU_IMIN_HI k) (ux 64 m.imin)).set2
    (Fld.TIU_IMAX_LO k) (Fld.TIU_IMAX_HI k) (ux 64 m.imax)
  let s4 := ((s3.set2 (Fld.TIU_FREQ_RATIO_LO k) (Fld.TIU_FREQ_RATIO_HI k) fit.1).setDwords (Fld.TIU_SUM_T k) 0 3 m.sumT).setDwords (Fld.TIU_SUM_IT k) 0 4 m.sumIT
  (((s4.when timeout (fun a => a.flag (Fld.TIU_EVT_TIMEOUT k))).when broken (fun a => a.flag (Fld.TIU_EVT_BROKEN k))).when nofit
    (fun a => a.flag (Fld.TIU_EVT_NOFIT k))).pulse (32 * (k / 3) + 20 + k % 3) (some s.now)

/-- TIU_DONE: the measurement of TIU `k` completes, its gate closes or it times out, and its results are latched (R297,
R298). -/
def execTiuDone (k : Fin 24) (s : State) : Res :=
  .next <|
    match s.meas k with
    | none => s
    | some m =>
      let freq := s.is (Fld.TIU_CFG_MODE k)
      let full := m.rate || decide (s.tiuWanted k ≤ m.n)
      let limit := (match s.tiuLimit k m.t0 with | some e => decide (e ≤ s.now) | none => false) || (!freq && decide (m.t0 + 2 ^ 47 ≤ s.now))
      if s.get (Fld.TIU_STATUS_STATE k) = 4 ∧ (full ∨ limit) then s.latchTiu k m (!full && !freq) false else s

/-- A REANCHOR stop breaks every measurement in RUN; the results cover what was complete (R293, R302). -/
def State.breakTius (s : State) : State :=
  s.each s.measures (fun m a => if s.get (Fld.TIU_STATUS_STATE m.tiu) = 4 then a.latchTiu m.tiu m false true else a)

/-- A measurement ARMED for a tick that a load has passed is DONE with BROKEN and nothing measured (R468). -/
def State.passedTius (s : State) : State :=
  s.each s.measures (fun m a => if s.get (Fld.TIU_STATUS_STATE m.tiu) = 3 ∧ m.t0 < s.now then a.latchTiu m.tiu m false true else a)

/-- The time base takes the TIU that ANCHOR_MEAS claims, and gives back any other it holds; a host measurement there ends at
once with PREEMPTED (R300, R301). -/
def State.tbClaim (s : State) : State :=
  let k0 := s.get Fld.TB_CTRL_ANCHOR_TIU
  s.each (List.range 24) (fun k a =>
    if s.is Fld.TB_CTRL_ANCHOR_MEAS ∧ k = k0 then
      let st := a.get (Fld.TIU_STATUS_STATE k)
      let a1 := if !a.reserved k ∧ (st = 3 ∨ st = 4) then (a.dropMeas k).sets [(Fld.TIU_STATUS_STATE k, 2), (Fld.TIU_RSTAT_PREEMPTED k, 1), (Fld.TIU_EVT_PREEMPTED k, 1)] else a
      a1.set (Fld.TIU_STATUS_RSV k) 1
    else if a.get (Fld.TIU_STATUS_RSV k) = 1 then a.clr (Fld.TIU_STATUS_RSV k) else a)

/-- TIU_RESERVED_WRITE: a host write to TIU_CTRL, CFG, SRC, PRESCALE, MAXN, AT or LIMIT of a reserved TIU is ignored; an ARM
also reports RESERVED (R301). -/
def execTiuReservedWrite (k : Fin 24) (arm : Bool) (s : State) : Res :=
  .next <| s.onHost fun s =>
    if s.reserved k then
      (s.flag (Fld.TIU_EVT_RSV_REFUSED k)).when arm (fun a => a.sets [(Fld.TIU_EVT_ARM_REFUSED k, 1), (Fld.TIU_STATUS_REFUSE k, 4)])
    else s

/-! ### Tap table (R288, R289) -/

/-- TIU_CAL_RUN: a code-density run starts on a line that does not listen: 1 s after the last one, after a 2 °C move of the
tile's sensor, or by TIU_CAL_CMD.RUN (`host`) (R288). -/
def execTiuCalRun (k : Fin 24) (host : Bool) (s : State) : Res :=
  let due := host || !s.is (Fld.TIU_STATUS_CAL_VALID k) || decide (6400000000 ≤ tickAfter (s.get (Lat.TIU_CAL_AT k)) s.now)
    || decide (32 ≤ (s.geti (Fld.SYS_TJ_TJ (k / 3)) - s.geti (Fld.TIU_CAL_STAT_TJ k)).natAbs)
  .next (if s.is (Fld.TIU_STATUS_DLL_LOCK k) && due then s.flag (Lat.TIU_CAL_BUSY k) else s)

/-- The widths of one line from its 128 tap counts: the remainder goes to the widest tap (R288). -/
def tapWidths (h : List Nat) : List Nat :=
  let w := (List.range 128).map (fun j => 65536 * h.getD j 0 / 2 ^ 20)
  let rest := 65536 - w.foldl (· + ·) 0
  let widest := w.idxOf (w.foldl max 0)
  (List.range 128).map (fun j => w.getD j 0 + if j = widest then rest else 0)

/-- TIU_CAL_COMPLETE: a code-density run completes with the tap counts of lines A and B (each totals 2^20) and the offset of
line B. Its table comes into force at once, or at the next ARM when a measurement is in progress (R288, R289). -/
def execTiuCalComplete (k : Fin 24) (a b : List Nat) (offset : Int) (s : State) : Res :=
  .next <|
    if s.is (Lat.TIU_CAL_BUSY k) && a.foldl (· + ·) 0 == 2 ^ 20 && b.foldl (· + ·) 0 == 2 ^ 20 then
      let t : TapTable := ⟨k, tapWidths a ++ tapWidths b, offset⟩
      let s1 := { s with tables := t :: s.tables.filter (fun x => x.tiu != (k : Nat)) }
      let s2 := s1.sets [(Lat.TIU_CAL_BUSY k, 0), (Fld.TIU_EVT_CAL_DONE k, 1), (Lat.TIU_CAL_AT k, s.now), (Fld.TIU_CAL_STAT_TJ k, s.get (Fld.SYS_TJ_TJ (k / 3))),
        (Fld.TIU_CAL_STAT_AGE k, 0)]
      if (s.meas k).isSome then s2 else s2.installTable k
    else s

/-- TIU_CAL_STAT.AGE follows the age of the table, in 10 ms (R289): 64,000,000 ticks at nominal F_tick. -/
def State.tiuAge (s : State) (k : Nat) : State :=
  if s.is (Fld.TIU_STATUS_CAL_VALID k) then s.set (Fld.TIU_CAL_STAT_AGE k) (min 65535 (tickAfter (s.get (Lat.TIU_CAL_AT k)) s.now / 64000000)) else s

end Sys2Proof.Machine
end

