-- ==== Sys2Proof/Machine/Ports.lean ====
section
/-!
DEFINITION. Pattern ports and JESD204C links: port states, parking, fine delay, captures, link states and the transport
to converters (R242 to R264).
-/
namespace Sys2Proof.Machine

/-- BAR0 offset of dword `o` of port `p` (R27). -/
def portOffset (p o : Nat) : Nat := 0x120000 + p / 6 * 0x100000 + p % 6 * 0x800 + o

/-- The personality of port `p` (R242): 0 pattern TX, 1 pattern RX, 2 JESD204C TX, 3 JESD204C RX. -/
def State.pers (s : State) (p : Nat) : Nat := s.get (Fld.PP_CFG_PERS p)

/-- Do something that needs a personality, or record it as out of scope (R34, R242). -/
def State.onPers (s : State) (p off : Nat) (ok : Bool) (f : State → State) : State :=
  if s.is (Fld.PP_CFG_USED p) && ok then f s else s.outOfScope (unitTile (tileOfPort p)) (portOffset p off)

/-! ### Port states (R263) -/

/-- Port `p` starts when it may: used, enabled, OFF, and in a power state that keeps ports powered (R242, R263, R405). -/
def State.portStart (s : State) (p : Nat) : State :=
  if s.get (Fld.PP_STATUS_STATE p) = 0 ∧ s.is (Fld.PP_CTRL_EN p) ∧ s.is (Fld.PP_CFG_USED p) ∧ s.unitsPowered then
    s.set (Fld.PP_STATUS_STATE p) 1 else s

/-- PORT_ENABLE: PP_CTRL.EN = 1 (R263). -/
def execPortEnable (p : Fin 48) (s : State) : Res :=
  let s1 := s.flag (Fld.PP_CTRL_EN p)
  .next (s.onHost fun s => (if s.get (Fld.PP_STATUS_STATE p) = 4 then s1.sets [(Fld.PP_STATUS_RESTART_PENDING p, 1), (Fld.PP_EVT_RESTART_QUEUED p, 1)] else s1.portStart p))

/-- Port `p` stops: its lane powers down. -/
def State.portStop (s : State) (p : Nat) : State :=
  let st := s.get (Fld.PP_STATUS_STATE p)
  if 1 ≤ st ∧ st ≤ 3 then s.set (Fld.PP_STATUS_STATE p) 4 else s

/-- PORT_DISABLE: PP_CTRL.EN = 0; in STOPPING it cancels a queued restart (R263). -/
def execPortDisable (p : Fin 48) (s : State) : Res :=
  .next (s.onHost fun s => (((s.clr (Fld.PP_CTRL_EN p)).clr (Fld.PP_STATUS_RESTART_PENDING p)).portStop p))

/-- PORT_STOP_DONE: the stop completes: OFF, or STARTING when a restart is pending and may start (R263, R449). -/
def execPortStopDone (p : Fin 48) (s : State) : Res :=
  .next <|
    if s.get (Fld.PP_STATUS_STATE p) = 4 then
      let s1 := s.sets [(Fld.PP_STATUS_STATE p, 0), (Fld.PP_STATUS_RESTART_PENDING p, 0)]
      if s.is (Fld.PP_STATUS_RESTART_PENDING p) then s1.portStart p else s1
    else s

/-! ### JESD204C links: members and timing (R254 to R256) -/

/-- The lane ports of the link of which `p` is lane 0. -/
def State.lanes (s : State) (p : Nat) : List Nat :=
  (List.range 48).filter (fun q => s.is (Fld.PP_CFG_USED q) && s.pers q == s.pers p && s.get (Fld.PP_CFG_JLINK q) == s.get (Fld.PP_CFG_JLINK p))

/-- Port `p` is lane 0 of a JESD204C link. -/
def State.lane0 (s : State) (p : Nat) : Bool := s.is (Fld.PP_CFG_USED p) && decide (2 ≤ s.pers p) && s.get (Fld.PP_CFG_JLANE p) == 0

/-- P_L, the extended multiblock in ticks (R255). -/
def State.extMultiblock (s : State) (p : Nat) : Nat := s.get (Fld.PP_JCFG0_E p) * (if s.get (Fld.PP_CFG_K p) = 1 then 1056 else 2112)

/-- The SYSREF output of the link is enabled with a period and offset that R256 allows. -/
def State.jesdSysref (s : State) (p : Nat) : Bool :=
  let n := s.get (Fld.PP_JCFG1_SYSREF_SEL p)
  let pl := s.extMultiblock p
  s.is (Fld.TB_SYSREF_CFG_EN n) && pl != 0 && s.get (Fld.TB_SYSREF_PER n) != 0 && s.get (Fld.TB_SYSREF_PER n) % pl == 0 && s.get (Fld.TB_SYSREF_OFS n) % 8 == 0

/-- Tick `t` lies `d` ticks after an LEMC boundary of the link (R256). -/
def State.lemc (s : State) (p t d : Nat) : Bool :=
  (((t : Int) - d - s.get (Fld.TB_SYSREF_OFS (s.get (Fld.PP_JCFG1_SYSREF_SEL p)))) % (s.extMultiblock p : Int)) == 0

/-- A TX link waits for its LEMC; a condition of R256 that fails is reported (R256, R260). -/
def State.jesdWait (s : State) (p : Nat) : State :=
  let s1 := s.set (Fld.PP_JSTAT_STATE p) 1
  if s.jesdSysref p then s1 else s1.flag (Fld.PP_EVT_JCFG_ERR p)

/-- A TX link that is OFF with EN = 1 enters WAIT once no lane port is OFF (R260). -/
def State.jesdTxStart (s : State) (p : Nat) : State :=
  if s.get (Fld.PP_JSTAT_STATE p) = 0 ∧ s.is (Fld.PP_JCTRL_EN p) ∧ (s.lanes p).all (fun q => s.get (Fld.PP_STATUS_STATE q) != 0) then s.jesdWait p else s

/-- PORT_START_DONE: STARTING completes. A transmitting port is PARKED with its reasons as they stand; a receiving one delivers
unless EXTEST or READING_ROOM is set. A TX link that waited for its lanes goes on (R246, R260, R263). -/
def execPortStartDone (p : Fin 48) (s : State) : Res :=
  .next <|
    if s.get (Fld.PP_STATUS_STATE p) = 1 then
      let s1 := s.set (Fld.PP_STATUS_STATE p) (if s.portTx p || s.ppReasons p != 0 then 2 else 3)
      s1.each ((s1.lanes p).filter (fun q => s.pers p == 2 && s1.lane0 q)) (fun q a => a.jesdTxStart q)
    else s

/-- PORT_RELEASE: at a word boundary BOOT clears when its condition is over, and a PARKED port without a reason that holds it
is ACTIVE (R237, R246). -/
def execPortRelease (p : Fin 48) (s : State) : Res :=
  .next <|
    if s.now % 8 ≠ 0 then s
    else
      let s1 := s.when (s.bootOver (tileOfPort p)) (fun a => a.ppPark p pkBoot false)
      if s1.get (Fld.PP_STATUS_STATE p) = 2 ∧ s1.ppReasons p = 0 then s1.set (Fld.PP_STATUS_STATE p) 3 else s1

/-- Any reason that holds a port takes effect at a word boundary (R246). -/
def State.portPark (s : State) (p : Nat) : State :=
  if s.get (Fld.PP_STATUS_STATE p) = 3 ∧ s.ppReasons p ≠ 0 then s.set (Fld.PP_STATUS_STATE p) 2 else s

/-- Set or clear the FAULT reason of port `p`, which a link loss sets on a receiving port too (R264). -/
def State.portFaultBit (s : State) (p : Nat) (on : Bool) : State :=
  let old := s.get (Fld.PP_PARK_SRC_REASON p)
  if old.testBit pkFault = on then s else s.sets [(Fld.PP_PARK_SRC_REASON p, putBit old pkFault on), (Fld.PP_EVT_PARK_CHG p, 1)]

/-- PORT_UNPARK: PP_CMD.UNPARK clears the latched reasons TRIP, FAULT and SUPPLY whose conditions have cleared; a port's rails
are main rails (R237, R246). -/
def execPortUnpark (p : Fin 48) (s : State) : Res :=
  let s1 := s.when (!s.is Lat.TRIP) (fun a => a.ppPark p pkTrip false)
  let s2 := s1.when (!s.is (Lat.PP_BAD p)) (fun a => a.portFaultBit p false)
  .next (s.onHost fun s => (s2.when (s.get Fld.SYS_RAIL_WARN == 0) (fun a => a.ppPark p pkSupply false)))

/-- A port fault: the FAULT reason, raised once per port, or folded into the entry of the reference when that is ACTIVE
(R264, R336). -/
def State.portFault (s : State) (p : Nat) (m : List (Nat × Nat)) : State :=
  let s1 := s.portFaultBit p true
  if s1.is (Fld.LDG_ACTIVE 0) then s1.mark 0 m
  else if s1.is (Fld.LDG_ACTIVE 1) then s1.mark 1 m
  else if s1.marked 24 (markPort p) then s1.mark 24 m
  else s1.raise 24 (unitPort p) p m

/-- TXBUF_FAULT: the transmit buffer of port `p` leaves its fill window of ±8 words, or is back in it (R264). -/
def execTxbufFault (p : Fin 48) (present : Bool) (s : State) : Res :=
  let s1 := s.set (Lat.PP_BAD p) present.toNat
  .next (if present then (s1.flag (Fld.PP_EVT_TXBUF_FAULT p)).portFault p (markPort p) else s1)

/-! ### Fine delay (R247, R248) -/

/-- PP_FDLY.CUR moves 1 ps per word towards TGT; it is fixed at 0 on a JESD204C TX lane (R247). -/
def State.delayStep (s : State) (p : Nat) : State :=
  let cur := s.get (Fld.PP_FDLY_CUR p)
  let tgt := if s.pers p = 2 then 0 else s.get (Fld.PP_FDLY_TGT p)
  let cur' := if cur < tgt then cur + 1 else cur - (if tgt < cur then 1 else 0)
  s.sets [(Fld.PP_FDLY_CUR p, cur'), (Fld.PP_STATUS_DLY_SLEW p, if cur' = tgt then 0 else 1)]

/-- DLY_CAL: PP_CMD.DLY_CAL reserves a free TIU of the tile, or is refused (R248, R300). -/
def execDlyCal (p : Fin 48) (s : State) : Res :=
  let ok := s.is (Fld.PP_CFG_USED p) && s.pers p == 0 && s.get (Fld.PP_STATUS_STATE p) == 2 && (s.get (Fld.PP_PARK_SRC_REASON p)).testBit pkSoft
    && s.get (Lat.DLY_TIU p) == 0
  .next <| s.onHost fun s =>
    match ok, s.freeTiu (tileOfPort p) with
    | true, some k => s.sets [(Fld.TIU_STATUS_RSV k, 3), (Lat.DLY_TIU p, k + 1)]
    | _, _ => s.flag (Fld.PP_EVT_DLY_REFUSED p)

/-- DLY_CAL_DONE: the mean offset of the 64 edges, in 2^-4 ps, less the record's loopback figure is the lane's zero (R248). -/
def execDlyCalDone (p : Fin 48) (mean : Int) (s : State) : Res :=
  let loop := match s.factory with
    | some f => ((f.loopback.find? (fun x => x.1 == (p : Nat))).map (fun x => x.2.1)).getD 0
    | none => 0
  .next <|
    if s.get (Lat.DLY_TIU p) = 0 then s
    else ((s.seti (Fld.PP_DLY_ZERO p) (clampInt (-32768) 32767 (mean - loop))).sets [(Fld.TIU_STATUS_RSV (s.get (Lat.DLY_TIU p) - 1), 0), (Lat.DLY_TIU p, 0), (Fld.PP_EVT_DLY_DONE p, 1)])

/-! ### Pattern RX and captures (R249 to R253) -/

/-- RX_SLIP: the CDR's phase passes one bit and it drops or repeats one; `phase` is the phase it has then (R249). -/
def execRxSlip (p : Fin 48) (phase : Fin 64) (s : State) : Res :=
  .next <|
    if s.is (Fld.PP_CFG_USED p) && s.pers p == 1 && s.get (Fld.PP_STATUS_STATE p) != 0 then
      ((s.bump (Fld.PP_RX_STAT_SLIP p)).set (Fld.PP_RX_STAT_PHASE p) phase).flag (Fld.PP_EVT_RX_SLIP p)
    else s

/-- The capture of port `p`, if one is armed or running. -/
def State.cap (s : State) (p : Nat) : Option Cap := s.caps.find? (fun c => c.port == p)

/-- Put a capture in place, or remove it. -/
def State.putCap (s : State) (c : Cap) : State := { s with caps := c :: s.caps.filter (fun x => x.port != c.port) }
def State.dropCap (s : State) (p : Nat) : State := { s with caps := s.caps.filter (fun x => x.port != p) }

/-- The card of a MODE 0 capture is one it may fill (R251). -/
def State.captureCard (s : State) (p k len : Nat) : Bool :=
  let c := s.card k
  c.valid && !s.cardBad c && !c.streamed && !c.list && c.format == 8 + s.get (Fld.PP_CFG_WIDTH p) && s.loanCount k == 0 && decide (len ≤ c.len)

/-- CAP_START: PP_CMD.CAP_START arms a capture, or is refused (R250, R251). -/
def execCapStart (p : Fin 48) (s : State) : Res :=
  let at_ := s.get2 (Fld.PP_CAP_AT_LO p) (Fld.PP_CAP_AT_HI p)
  let len := s.get2 (Fld.PP_CAP_LEN_LO p) (Fld.PP_CAP_LEN_HI p)
  let task := s.is (Fld.PP_CAP_CFG_TRIG p)
  let mode := s.is (Fld.PP_CAP_CFG_MODE p)
  .next (s.onHost fun s => (s.onPers p 0x14 (s.pers p == 1) (fun a =>
    if a.is (Fld.PP_STATUS_CAP_BUSY p) || (!task && decide (at_ < a.now + 512)) || (!mode && !a.captureCard p (a.get (Fld.PP_CAP_CFG_CARD p)) len) then
      a.flag (Fld.PP_EVT_CAP_REFUSED p)
    else
      (a.putCap { port := p, trig := if task then none else some at_, byTask := task, len := len, mode := mode, card := a.get (Fld.PP_CAP_CFG_CARD p) }).flag
        (Fld.PP_STATUS_CAP_BUSY p))))

/-- CAPTURE_TASK: task 112 + p gives an armed TRIG = 1 capture its trigger tick E = S + 512 (R250, R315). -/
def execCaptureTask (p : Fin 48) (s : State) : Res :=
  .next (s.onTask (112 + p) true (fun g a =>
    match a.cap p with
    | some c => if c.byTask && c.trig.isNone then a.putCap { c with trig := some (g.s.getD 0 + dCut) } else a
    | none => a))

/-- The first tick at or after `t` on the grid of the port's class. -/
def State.capGrid (s : State) (p t : Nat) : Nat := gridUp t (s.get (Fld.PP_CFG_CLASS p))

/-- CAPTURE_TRIGGER: the capture starts at the first grid tick at or after its trigger tick; `samples` are the samples that the
pin delivers from there on (R250). -/
def execCaptureTrigger (p : Fin 48) (samples : List Nat) (s : State) : Res :=
  .next <|
    match s.cap p with
    | some c =>
      match c.trig, c.start with
      | some t, none => if s.capGrid p t ≤ s.now then s.putCap { c with start := some (s.capGrid p t), samples := samples } else s
      | _, _ => s
    | none => s

/-- Place bits of one sample in a byte string: the byte at `a` and the bytes after it (R86). -/
def State.packSample (s : State) (bit b v : Nat) : List (BitVec 8) :=
  let a := bit / 8
  if b = 16 then leBytes 2 (v % 65536)
  else
    let old := (Memory.read s.mem a).toNat
    let o := bit % 8
    [BitVec.ofNat 8 (old / 2 ^ (o + b) * 2 ^ (o + b) + v % 2 ^ b * 2 ^ o + old % 2 ^ o)]

/-- Sample `v` of a MODE 0 capture is written, or its beat is dropped (R97, R251). -/
def State.captureWrite (s : State) (c : Cap) (v : Nat) : Cap × State :=
  let k := s.card c.card
  let b := 2 ^ s.get (Fld.PP_CFG_WIDTH c.port)
  let bit := (k.base * 65536 + k.ofs * 64) * 8 + c.taken * b
  let a := bit / 8
  match s.dropCause (a / 65536) with
  | none => ({ c with taken := c.taken + 1, written := c.written + 1 }, s.storeBeat a (s.packSample bit b v))
  | some cause =>
    let s1 := if c.lostBeat = some (a / 64) then s else s.dropBeat 3 c.port a cause
    ({ c with taken := c.taken + 1, lostBeat := some (a / 64) }, s1.flag (Fld.PP_EVT_CAP_DROP c.port))

/-- The archive CAPTURE entry of the bits gathered so far (R252, R344). -/
def State.captureEntry (s : State) (c : Cap) : State :=
  s.accept (archiveEntry 17 false c.unref false false (unitPort c.port) c.accTick 0
    [c.acc % 2 ^ 32, c.acc / 2 ^ 32 % 2 ^ 32, c.acc / 2 ^ 64 % 2 ^ 32, c.acc / 2 ^ 96])

/-- Sample `v` of a MODE 1 capture, taken at tick `t`, joins the archive entry being filled (R252). -/
def State.captureArchive (s : State) (c : Cap) (v t : Nat) : Cap × State :=
  let b := 2 ^ s.get (Fld.PP_CFG_WIDTH c.port)
  let c1 := { c with taken := c.taken + 1, written := c.written + 1, acc := c.acc + v % 2 ^ b * 2 ^ c.accBits,
                     accBits := c.accBits + b, accTick := if c.accBits = 0 then t else c.accTick }
  if 128 ≤ c1.accBits then ({ c1 with acc := 0, accBits := 0 }, s.captureEntry c1) else (c1, s)

/-- Take the samples of capture `c` whose ticks have come (R250); a port that is not ACTIVE delivers nothing (R246). -/
def State.captureRun (s : State) (t0 : Nat) : Nat → Cap → Cap × State
  | 0, c => (c, s)
  | fuel + 1, c =>
    let t := t0 + c.taken * 2 ^ s.get (Fld.PP_CFG_CLASS c.port)
    if c.len ≤ c.taken || decide (s.now < t) || (c.stopAt.map (fun e => decide (e ≤ t))).getD false then (c, s)
    else
      let c1 := { c with unref := c.unref || s.unref }
      let v := if s.get (Fld.PP_STATUS_STATE c.port) = 3 then c.samples.getD c.taken 0 else 0
      let (c2, s2) := if c.mode then s.captureArchive c1 v t else s.captureWrite c1 v
      s2.captureRun t0 fuel c2

/-- The capture of port `p` up to now. -/
def State.captureStep (s : State) (p : Nat) : State :=
  match s.cap p with
  | some c =>
    match c.start with
    | some t0 => let (c1, s1) := s.captureRun t0 (s.now + 1 - t0) c; s1.putCap c1
    | none => s
  | none => s

/-- A capture ends: counts latched, entries written, CAP_DONE set and the producer pulsed (R250, R253, R344). -/
def State.captureClose (s : State) (c : Cap) (t : Nat) (ovf abort : Bool) : State :=
  let s1 := if 0 < c.accBits then s.captureEntry c else s
  let s2 := s1.accept (archiveEntry 18 false c.unref false false (unitPort c.port) t 0 [lo32 c.written, hi32 c.written, ovf.toNat + 2 * abort.toNat])
  let s3 := ((s2.dropCap c.port).set2 (Fld.PP_CAP_CNT_LO c.port) (Fld.PP_CAP_CNT_HI c.port) c.written).set2 (Fld.PP_CAP_START_LO c.port) (Fld.PP_CAP_START_HI c.port) (c.start.getD 0)
  (s3.sets [(Fld.PP_STATUS_CAP_BUSY c.port, 0), (Fld.PP_EVT_CAP_DONE c.port, 1)]).pulse (32 * tileOfPort c.port + 24 + c.port % 6) none

/-- CAP_ABORT: PP_CMD.CAP_ABORT ends a capture at the next word boundary (R250). -/
def execCapAbort (p : Fin 48) (s : State) : Res :=
  .next (s.onHost fun s => (s.onPers p 0x14 (s.pers p == 1) (fun a =>
    match a.cap p with
    | some c => if c.stopAt.isNone then a.putCap { c with stopAt := some (wordNext a.now) } else a
    | none => a)))

/-- CAPTURE_END: the capture of port `p` has taken its samples, or its abort takes effect (R250). -/
def execCaptureEnd (p : Fin 48) (s : State) : Res :=
  let s1 := s.captureStep p
  .next <|
    match s1.cap p with
    | none => s1
    | some c =>
      match c.stopAt with
      | some e => if e ≤ s.now then s1.captureClose c e false true else s1
      | none => if c.start.isSome && c.len ≤ c.taken then s1.captureClose c (c.start.getD 0 + c.len * 2 ^ s.get (Fld.PP_CFG_CLASS p)) false false else s1

/-- CAPTURE_OVERFLOW: the receive buffer is full: the capture stops at once (R253). -/
def execCaptureOverflow (p : Fin 48) (s : State) : Res :=
  let s1 := s.captureStep p
  .next <|
    match s1.cap p with
    | some c => if c.start.isSome then (s1.flag (Fld.PP_EVT_CAP_OVF p)).captureClose c s.now true false else s1
    | none => s1

/-- A capture armed for a tick that a load has passed ends with nothing taken (R468). -/
def State.passedCaptures (s : State) : State :=
  s.each s.caps (fun c a => match c.byTask, c.trig, c.start with
    | false, some t, none => if t < s.now then a.captureClose c s.now false true else a
    | _, _, _ => a)

/-! ### JESD204C link states (R256, R260 to R262) -/

/-- Do something to the link of which `p` is lane 0; elsewhere the link registers do nothing. -/
def State.onLink0 (s : State) (p : Nat) (f : State → State) : State :=
  if s.lane0 p then f s else s.outOfScope (unitTile (tileOfPort p)) (portOffset p 0x408)

/-- JESD_ENABLE: PP_JCTRL with EN = 1 and RBD (R260, R261, R450). -/
def execJesdEnable (p : Fin 48) (rbd : Nat) (s : State) : Res :=
  .next (s.onHost fun s => (s.onLink0 p (fun a =>
    let a1 := a.sets [(Fld.PP_JCTRL_EN p, 1), (Fld.PP_JCTRL_RBD p, rbd)]
    if a.pers p = 2 then a1.jesdTxStart p
    else if a.get (Fld.PP_JSTAT_STATE p) = 0 ∧ !a.is (Lat.JRX_STOP p) then a1.set (Fld.PP_JSTAT_STATE p) 4 else a1)))

/-- JESD_DISABLE: PP_JCTRL with EN = 0. A TX link in RUN or WAIT goes to STOPPING; an RX link goes to OFF within 1 µs (R260,
R261). -/
def execJesdDisable (p : Fin 48) (s : State) : Res :=
  .next (s.onHost fun s => (s.onLink0 p (fun a =>
    let a1 := a.clr (Fld.PP_JCTRL_EN p)
    let st := a.get (Fld.PP_JSTAT_STATE p)
    if a.pers p = 2 then (if st = 1 ∨ st = 2 then a1.set (Fld.PP_JSTAT_STATE p) 3 else a1)
    else if st = 0 then a1 else a1.flag (Lat.JRX_STOP p))))

/-- JESD_TX_FRAMING_START: a waiting TX link starts framing at an LEMC boundary, or reports that its SYSREF is not right
(R256, R260). -/
def execJesdTxFramingStart (p : Fin 48) (s : State) : Res :=
  .next <|
    if s.lane0 p && s.pers p == 2 && s.get (Fld.PP_JSTAT_STATE p) == 1 then
      if !s.jesdSysref p then s.flag (Fld.PP_EVT_JCFG_ERR p)
      else if s.lemc p s.now 0 then s.sets [(Fld.PP_JSTAT_STATE p, 2), (Fld.PP_EVT_JLOCK p, 1)]
      else s
    else s

/-- JESD_TX_STOP_DONE: STOPPING ends in OFF, or in WAIT if EN has been written 1 since (R260). -/
def execJesdTxStopDone (p : Fin 48) (s : State) : Res :=
  .next <|
    if s.lane0 p && s.pers p == 2 && s.get (Fld.PP_JSTAT_STATE p) == 3 then
      if s.is (Fld.PP_JCTRL_EN p) then s.jesdWait p else s.set (Fld.PP_JSTAT_STATE p) 0
    else s

/-- An RX link of lane-0 port `p` is in one of some states. -/
def State.jrx (s : State) (p : Nat) (l : List Nat) : Bool := s.lane0 p && s.pers p == 3 && l.contains (s.get (Fld.PP_JSTAT_STATE p)) && !s.is (Lat.JRX_STOP p)

/-- JESD_RX_BLOCK_LOCK: every lane has seen 64 consecutive valid sync headers (R261). -/
def execJesdRxBlockLock (p : Fin 48) (s : State) : Res :=
  .next (if s.jrx p [4] then s.sets [(Fld.PP_JSTAT_STATE p, 5), (Fld.PP_JSTAT_LANE_LOCK p, 2 ^ (s.lanes p).length - 1)] else s)

/-- JESD_RX_MBLK_FOUND: every lane has found the end of an extended multiblock (R261). -/
def execJesdRxMblkFound (p : Fin 48) (s : State) : Res :=
  .next (if s.jrx p [5] then s.set (Fld.PP_JSTAT_STATE p) 6 else s)

/-- The corrector inputs bound to the RX link of lane-0 port `p` (R266). -/
def State.jrxInputs (s : State) (p : Nat) : List Nat := s.corInputs 1 (fun src => src / 8 == s.get (Fld.PP_CFG_JLINK p))

/-- JESD_RX_RELEASE: the release tick is reached: RUN when every lane's boundary is buffered, JLATE and another try when one
is `late` (R261, R262). -/
def execJesdRxRelease (p : Fin 48) (late : Bool) (s : State) : Res :=
  .next <|
    if s.jrx p [6] then
      if !s.jesdSysref p then s.flag (Fld.PP_EVT_JCFG_ERR p)
      else if !s.lemc p s.now (8 * s.get (Fld.PP_JCTRL_RBD p)) then s
      else if late then s.flag (Fld.PP_EVT_JLATE p)
      else (s.sets [(Fld.PP_JSTAT_STATE p, 7), (Fld.PP_EVT_JLOCK p, 1)]).inputBack (s.jrxInputs p)
    else s

/-- JLOSS: 16 invalid sync headers in 64 on lane `lane` return an RX link to BLOCK; delivery stops, the loss is a port fault at
lane 0 with every lane marked, and groups that listen to it abort (R261, R264, R283). -/
def execJloss (p : Fin 48) (lane : Fin 8) (s : State) : Res :=
  .next <|
    if s.jrx p [5, 6, 7] then
      let lock := s.get (Fld.PP_JSTAT_LANE_LOCK p)
      let s1 := (s.sets [(Fld.PP_JSTAT_STATE p, 4), (Fld.PP_EVT_JLOSS p, 1), (Fld.PP_JSTAT_LANE_LOCK p, putBit lock lane false)]).bump (Fld.PP_JERR_SH_ERR p) 16
      (s1.portFault p ((s.lanes p).flatMap markPort)).inputLoss (s.jrxInputs p) 24
    else s

/-- JCRC: a CRC-12 mismatch in RUN: counted, and the block's samples are delivered flagged (R261, R262, R267). -/
def execJcrc (p : Fin 48) (s : State) : Res :=
  .next <|
    if s.jrx p [7] then
      ((s.bump (Fld.PP_JERR_CRC p)).flag (Fld.PP_EVT_JCRC p)).each (s.jrxInputs p) (fun i a => a.flag (Fld.COR_IN_STAT_FLAG i))
    else s

/-- JESD_RX_OFF_REACHED: an RX link written EN = 0 reaches OFF; an EN = 1 written meanwhile gives BLOCK (R261, R450). -/
def execJesdRxOffReached (p : Fin 48) (s : State) : Res :=
  .next <|
    if s.lane0 p && s.pers p == 3 && s.is (Lat.JRX_STOP p) then
      s.sets [(Lat.JRX_STOP p, 0), (Fld.PP_JSTAT_LANE_LOCK p, 0), (Fld.PP_JSTAT_STATE p, if s.is (Fld.PP_JCTRL_EN p) then 4 else 0)]
    else s

/-- The release of a REANCHOR: every TX link in RUN reports JLOSS; it is no fault (R260, R264). -/
def State.jesdReanchor (s : State) : State :=
  s.each ((List.range 48).filter (fun p => s.lane0 p && s.pers p == 2 && s.get (Fld.PP_JSTAT_STATE p) == 2)) (fun p a => a.flag (Fld.PP_EVT_JLOSS p))

/-! ### Transmission (R244, R257, R258) -/

/-- Pattern TX port `p` takes the sum of a grid tick, or its idle word while parked (R244, R246). -/
def State.portTick (s : State) (p t : Nat) : State :=
  if s.is (Fld.PP_CFG_USED p) ∧ s.pers p = 0 ∧ t % 2 ^ s.get (Fld.PP_CFG_CLASS p) = 0 then
    let b := 2 ^ s.get (Fld.PP_CFG_WIDTH p)
    if s.get (Fld.PP_STATUS_STATE p) = 3 then s.set (Lat.PP_WORD p) (s.portSum p t)
    else if s.get (Fld.PP_STATUS_STATE p) = 2 then s.set (Lat.PP_WORD p) (s.get (Fld.PP_IDLE_WORD p) % 2 ^ b)
    else s
  else s

/-- Steps 2 and 3 of the transport: the code of `n` bits for an interpolated value r in units of 2^-8 code (R258). -/
def transportCode (n : Nat) (r : Int) : Int :=
  let d := sat16 ((sat24 r + 2 ^ 7) / 2 ^ 8)
  if 16 ≤ n then d else clampInt (-2 ^ (n - 1)) (2 ^ (n - 1) - 1) ((d + 2 ^ (15 - n)) / 2 ^ (16 - n))

/-- The sums of the converter streams of the TX link at lane-0 port `p` at tick `t` enter their 64-tick histories; SAT is
reported at lane 0 (R257). At an instant of the link a code is formed with the interpolation the manual fixes by its
response only (R255, R258); while a lane is parked the code is 0 (R246). -/
def State.jesdTick (s : State) (p t : Nat) : State :=
  if !(s.lane0 p && s.pers p == 2 && s.get (Fld.PP_JSTAT_STATE p) == 2) then s
  else
    let j := s.get (Fld.PP_CFG_JLINK p)
    let parked := (s.lanes p).any (fun q => s.get (Fld.PP_STATUS_STATE q) != 3)
    let num := 33 * s.get (Fld.PP_JCFG0_F p)
    let den := (if s.get (Fld.PP_CFG_K p) = 1 then 8 else 4) * s.get (Fld.PP_JCFG0_S p)
    let into := (((t : Int) - s.get (Fld.TB_SYSREF_OFS (s.get (Fld.PP_JCFG1_SYSREF_SEL p)))) % (s.extMultiblock p : Int)).toNat
    let due := num != 0 && (into * den + num - 1) / num * num < (into + 1) * den
    s.each (List.range (s.get (Fld.PP_JCFG0_M p))) (fun m a =>
      let code := 1536 + 384 + 16 * j + m
      let exact := a.exactSum code t
      let x := sat24 exact
      let l := (a.lines.find? (fun l => l.ch == code)).getD ⟨code, List.replicate 64 (0, true), []⟩
      let xs := (x, parked) :: l.xs.take 63
      let r := sx 24 (Config.interpolated (xs.map (fun q => q.1), ((into * den + num - 1) / num * num - into * den) % den, den)).toNat
      let a1 := ({ a with lines := ⟨code, xs, []⟩ :: a.lines.filter (fun q => q.ch != code) }).when (exact != x && !a.is (Fld.PP_EVT_SAT p))
        (fun b => (b.flag (Fld.PP_EVT_SAT p)).archive 20 (unitPort p) t [code])
      a1.when due (fun b => b.seti (Lat.JTX_CODE (16 * j + m)) (if parked then 0 else transportCode (s.get (Fld.PP_JCFG0_N p)) r)))

end Sys2Proof.Machine
end

