-- ==== Sys2Proof/Machine/LinkBase.lean ====
section
/-!
DEFINITION. The parts of links and studio that other blocks reach: state changes of a link, its TIU, LINK_FAULT, the studio
state (R346, R352, R353, R355, R359), CRC-8 of headers and messages (R349, R350), fs and ticks.
-/
namespace Sys2Proof.Machine

/-- Ticks in one REFIN period, Q/4 (R53), from PLL_CFG.N and REFMUL. -/
def State.refTicks (s : State) : Nat :=
  s.get Fld.PLL_CFG_N * (match s.get Fld.PLL_CFG_REFMUL with | 0 => 2 | 1 => 4 | 2 => 1 | _ => 0) / 8

/-- Ticks per second, in kHz. -/
def State.tickKhz (s : State) : Nat := s.refTicks * s.get Fld.REF_CFG_NOM_KHZ

/-- fs in units of 2^-16 tick, rounded to nearest. -/
def State.fsToTick (s : State) (v : Int) : Int := (v * (s.tickKhz * 65536 : Nat) + 500000000000) / 1000000000000

/-- Units of 2^-16 tick in fs, rounded to nearest; 0 while the plan gives no rate. -/
def State.tickToFs (s : State) (v : Int) : Int :=
  if s.tickKhz = 0 then 0 else (v * 1000000000000 + (s.tickKhz * 32768 : Nat)) / (s.tickKhz * 65536 : Nat)

/-- CRC-8 with polynomial 0x07 and initial value 0 of the low `n` bits of a value, highest bit first (R349, R350). -/
def crc8 (v : Nat) : Nat → Nat → Nat
  | 0, c => c
  | n + 1, c =>
    let top := (c / 128 + v / 2 ^ n) % 2
    crc8 v n (if top = 1 then Nat.xor (c % 128 * 2) 7 else c % 128 * 2)

/-- The value nearest to `near` whose low `w` bits are those given (R350). -/
def extend (w v near : Nat) : Nat :=
  let m := 2 ^ w
  let d := (v + m - near % m) % m
  if 2 * d < m then near + d else if m ≤ near + d then near + d - m else near + d

/-- Role of link `l`: 0 UNUSED, 1 UP, 2 DOWN. -/
def State.linkRole (s : State) (l : Nat) : Nat := s.get (Fld.LK_CFG_ROLE l)

/-- State of link `l` (R352). -/
def State.linkState (s : State) (l : Nat) : Nat := s.get (Fld.LK_STATUS_STATE l)

/-- θ of link `l`, signed, in 2^-16 tick. -/
def State.theta (s : State) (l : Nat) : Int := sx 64 (s.get2 (Fld.LK_THETA_LO l) (Fld.LK_THETA_HI l))

/-- round(θ) of link `l` in ticks. -/
def State.thetaTicks (s : State) (l : Nat) : Int := (s.theta l + 32768) / 65536

/-- The UP link of the device. -/
def State.upLink (s : State) : Option Nat := (List.range 16).find? (fun l => s.linkRole l == 1)

/-- An archive LINK entry (R344). -/
def State.linkEntry (s : State) (l old st cause : Nat) (delay : Int) : State :=
  s.archive 22 (unitLink l) s.now [old + st * 16 + cause * 256, 0, lo32 (ux 64 delay), hi32 (ux 64 delay)]

/-- LINK_FAULT persists while a link that raised it is not back (R353). -/
def State.linkPersist (s : State) : State :=
  s.persist 27 ((List.range 16).any (fun l => s.is (Lat.LK_FAULTED l) && s.linkState l == 5))

/-- LINK_FAULT, once per link until it is cleared (R353). -/
def State.linkFault (s : State) (l : Nat) : State := ((s.flag (Lat.LK_FAULTED l)).raisePerUnit 27 (unitLink l) l (markLink l)).linkPersist

/-- Link `l` gives back the TIU it holds. -/
def State.linkTiuBack (s : State) (l : Nat) : State :=
  let k := s.get (Lat.LK_TIU l)
  if k = 0 then s.clr (Fld.LK_STATUS_TIU_WAIT l) else s.sets [(Fld.TIU_STATUS_RSV (k - 1), 0), (Lat.LK_TIU l, 0), (Fld.LK_STATUS_TIU_WAIT l, 0)]

/-- Link `l` looks for a free TIU of its tile (R300, R352). -/
def State.linkTiu (s : State) (l : Nat) : State :=
  if s.get (Lat.LK_TIU l) ≠ 0 then s
  else match s.freeTiu (l / 2) with
    | some k => s.sets [(Fld.TIU_STATUS_RSV k, 4), (Lat.LK_TIU l, k + 1), (Fld.LK_STATUS_TIU_WAIT l, 0)]
    | none => s.flag (Fld.LK_STATUS_TIU_WAIT l)

/-- The average of link `l` starts again. -/
def State.linkAverage (s : State) (l : Nat) : State := s.sets [(Lat.LK_N l, 0), (Lat.LK_SUM_T l, 0), (Lat.LK_SUM_R l, 0), (Lat.LK_HDR l, 0)]

/-- Corrector inputs that a stream of link `l` feeds (R364). -/
def State.linkInputs (s : State) (l : Nat) : List Nat := s.corInputs 2 (fun k => k / 4 == l)

/-- Link `l` changes state, with a cause (R352): leaving UP loses its streams and inputs (R353, R364); entering it clears
the stream counts; MEASURE takes a TIU. -/
def State.linkEnter (s : State) (l st cause : Nat) : State :=
  let old := s.linkState l
  let s1 := (s.sets [(Fld.LK_STATUS_STATE l, st), (Fld.LK_STATUS_CAUSE l, cause)]).linkEntry l old st cause (s.get (Fld.LK_RTT l) / 2)
  let s2 := if old = 3 ∧ st ≠ 3 then
      let a := s1.inputLoss (s1.linkInputs l) 27
      { a with txq := a.txq.filter (fun m => m.1 != l), txs := a.txs.filter (fun x => x.link != l), rxs := a.rxs.filter (fun x => x.link != l) }
    else s1
  let s3 := if (old = 2 ∨ old = 3) ∧ st ≠ 2 ∧ st ≠ 3 then s2.linkTiuBack l else s2
  match st with
  | 1 => (s3.sets [(Lat.LK_GOOD l, 0), (Lat.LK_AGAIN l, 0)])
  | 2 => (s3.linkAverage l).linkTiu l
  | 3 => (((s3.flag (Fld.LK_EVT_UP l)).clr (Lat.LK_FAULTED l)).each (List.range 4) (fun j a => a.sets [(Fld.LK_RXS_STAT_LATE l j, 0), (Fld.LK_RXS_STAT_MISSING l j, 0)])
      |>.inputBack (s3.linkInputs l)).linkPersist
  | 4 => (s3.flag (Fld.LK_EVT_RETRAIN l)).flag (Lat.LK_AGAIN l)
  | 5 => (s3.flag (Fld.LK_EVT_DOWN l)).linkPersist
  | _ => s3.linkPersist

/-- OFF to TRAIN when EN = 1, the link has a role and the time base has been released at least once (R352). -/
def State.linkStart (s : State) (l : Nat) : State :=
  if s.linkState l = 0 ∧ s.is (Fld.LK_CTRL_EN l) ∧ s.linkRole l ≠ 0 ∧ s.is Lat.TB_EVER ∧ s.unitsPowered then s.linkEnter l 1 0 else s

/-- A link stops (R352). -/
def State.linkStop (s : State) (l : Nat) : State := if 1 ≤ s.linkState l ∧ s.linkState l ≤ 5 then s.linkEnter l 6 0 else s

/-- A REANCHOR stop at this end: every link in UP retrains (R352, R359). -/
def State.linksAnchor (s : State) : State := s.each ((List.range 16).filter (fun l => s.linkState l == 3)) (fun l a => a.linkEnter l 4 7)

/-- The device is a follower of a studio (R346). -/
def State.follower (s : State) : Bool := !s.is Fld.LK_STUDIO_LEAD && s.upLink.isSome

/-- A follower becomes MISALIGNED: the event, LINK_FAULT with cause MISALIGN and a LINK entry that carries θ (R358). -/
def State.misalign (s : State) (l : Nat) : State :=
  ((((s.set Fld.LK_STUDIO_STATUS_STATE 6).flag Fld.LK_STUDIO_EVT_MISALIGN).set (Fld.LK_STATUS_CAUSE l) 9).linkFault l).linkEntry l (s.linkState l) (s.linkState l) 9 (s.theta l)

/-- A follower whose count has been moved or stopped is MISALIGNED (R359, R406). -/
def State.studioMisalign (s : State) : State :=
  match s.upLink with
  | some l => if s.follower && s.get Fld.LK_STUDIO_STATUS_STATE == 5 then s.misalign l else s
  | none => s

end Sys2Proof.Machine
end

