-- ==== Sys2Proof/Machine/Standby.lean ====
section
/-!
DEFINITION. What stopping and starting the time base does to the other blocks: the STOPPING state (R58, R59), STANDBY and its
end (R406), a REANCHOR stop (R302, R352), a load that passes named ticks (R468).
-/
namespace Sys2Proof.Machine

/-- The time base enters STOPPING: BOOT on every channel and transmitting port, an armed anchor or relock falls (R58). -/
def State.tbStop (s : State) : State :=
  (s.sets [(Fld.TB_STATUS_STATE, 7), (Fld.TB_STATUS_LOCKED, 0), (Fld.TB_STATUS_UNREF, 0), (Fld.TB_STATUS_ANCHOR_ARMED, 0)]).parkAll pkBoot true

/-- IDLE to STANDBY begins: channels, ports, links and TIUs stop, with their EN fields kept (R406). -/
def State.standbyBegin (s : State) : State :=
  let s1 := s.sets [(Lat.PWR_BUSY, 1), (Lat.PWR_NEXT, 2)]
  (((s1.each (List.range 32) (fun n a => a.chStop n)).each (List.range 48) (fun p a => a.portStop p)).each (List.range 16) (fun l a => a.linkStop l)).each
    (List.range 24) (fun k a => a.tiuStop k)

/-- STANDBY to IDLE begins: stacks leave self-refresh, units with EN = 1 start, a follower is MISALIGNED (R406). -/
def State.standbyEnd (s : State) : State :=
  let s1 := s.sets [(Lat.PWR_BUSY, 1), (Lat.PWR_NEXT, 1), (Lat.STK_SR, 0)]
  ((((s1.each (List.range 32) (fun n a => a.chStart n)).each (List.range 48) (fun p a => a.portStart p)).each (List.range 16) (fun l a => a.linkStart l)).each
    (List.range 24) (fun k a => a.tiuStart k)).when s.follower (fun a => a.sets [(Fld.LK_STUDIO_STATUS_STATE, 6), (Fld.LK_STUDIO_EVT_MISALIGN, 1)])

/-- A REANCHOR stop breaks measurements in RUN and sends UP links to RETRAIN (R302, R352). -/
def State.stopMeasurements (s : State) : State := s.breakTius.linksAnchor

/-- Actions whose named tick a load has passed (R468): range requests, TIUs in ARMED, captures. -/
def State.passedActions (s : State) : State :=
  let late := s.ranges.filter (fun q => match q.at_ with | some t => decide (t < s.now) | none => false)
  let s1 := ({ s with ranges := s.ranges.filter (fun q => !late.contains q) }).each late (fun q a => a.flag (Fld.CH_EVT_RNG_REFUSED q.ch))
  (((s1.each late (fun q a => a.when (!(a.ranges.any (fun x => x.ch == q.ch))) (fun b => b.clr (Fld.CH_STATUS_RNG_PEND q.ch)))).passedTius).passedCaptures)

end Sys2Proof.Machine
end

