-- ==== Sys2Proof/Machine/TimeBase.lean ====
section
/-!
DEFINITION. Reference, PLL and device time: the time-base state machine, anchors, relocks, loads and the time outputs
(R49 to R78, R468, R469).
-/
namespace Sys2Proof.Machine

/-! ### Frequency plan -/

/-- Twice the multiplier m of REFMUL (×1, ×2, ÷2); 0 for the undefined code 3 (R53). -/
def refMul2 (c : Nat) : Nat := match c with | 0 => 2 | 1 => 4 | 2 => 1 | _ => 0

/-- Loop bandwidth of a preset, in kHz (R54). -/
def bwKhz (c : Nat) : Nat := [50, 64, 82, 105, 134, 171, 219, 279, 357, 457, 584, 747, 955, 1222, 1562, 2000].getD c 0

/-- Twice Q = N × m, the ratio of F_vco to REFIN. -/
def State.q2 (s : State) : Nat := s.get Fld.PLL_CFG_N * refMul2 (s.get Fld.PLL_CFG_REFMUL)

/-- Ticks in one REFIN period, Q/4 (R53). -/
def State.refPeriod (s : State) : Nat := s.refTicks

/-- The nominal window of the presence detector in ticks: 3.5 periods (R50, R67). -/
def State.refWindow (s : State) : Nat := 7 * s.q2 / 16

/-- The first failing check of R53, or 0. Frequencies in kHz, doubled so that ÷2 stays whole. -/
def State.pllError (s : State) : Nat :=
  let n := s.get Fld.PLL_CFG_N
  let f := s.get Fld.REF_CFG_NOM_KHZ
  let k := s.get Fld.REF_CFG_K_SLK
  let pfd2 := f * refMul2 (s.get Fld.PLL_CFG_REFMUL)
  if s.get Fld.PLL_CFG_REFMUL = 3 then 6
  else if ¬(48 ≤ n ∧ n ≤ 2560) then 1
  else if ¬(20000 ≤ pfd2 ∧ pfd2 ≤ 1000000) then 2
  else if ¬(48000000 ≤ n * pfd2 ∧ n * pfd2 ≤ 54400000) then 3
  else if s.q2 % 8 ≠ 0 then 4
  else if !s.is Fld.PLL_CFG_EXT_LF && decide (pfd2 < 40 * bwKhz (s.get Fld.PLL_CFG_BW)) then 5
  else if ¬(1 ≤ k ∧ k ≤ 25 ∧ 10000 * k ≤ f ∧ f ≤ 25000 * k) then 7
  else 0

/-! ### State changes -/

/-- The time base enters a state (R58). UNREF is on in COAST, REACQUIRE and REANCHOR (R67). An armed anchor or relock
falls when the state that armed it is left (R66). -/
def State.tbEnter (s : State) (st : Nat) : State :=
  let old := s.get Fld.TB_STATUS_STATE
  (s.sets [(Fld.TB_STATUS_STATE, st), (Fld.TB_STATUS_LOCKED, if st = 3 then 1 else 0),
    (Fld.TB_STATUS_UNREF, if 4 ≤ st ∧ st ≤ 6 then 1 else 0)]).when ((old == 3 || old == 4) && old != st)
      (fun a => a.clr Fld.TB_STATUS_ANCHOR_ARMED)

/-- Start an acquisition from OFF: the checks of R53, then ACQUIRE when REFIN is present; with REFIN absent EN stays 1 and
acquisition starts when it is back (R53, R58). -/
def State.tbStart (s : State) : State :=
  let e := s.pllError
  let s1 := s.set Fld.PLL_STATUS_ERR e
  if e ≠ 0 then (s1.flag Fld.TB_EVT_CFG_ERR).clr Lat.TB_WANT
  else
    let s2 := s1.flag Lat.TB_WANT
    if s.is Fld.REF_STATUS_PRESENT then (s2.tbEnter 1).sets [(Fld.PLL_STATUS_BAND_CAL_DONE, 0), (Fld.PLL_STATUS_LD, 0)] else s2

/-- PLL_ENABLE: EN = 1 written by `pf` (R53, R60). In OFF it starts an acquisition, in STOPPING it queues a restart, in
ANCHOR and REANCHOR it replaces a clear that is held (log entry 9), elsewhere EN is already in effect. In STANDBY it is
the resume of R406. While FORCED = 1 it is refused (R460). -/
def execPllEnable (pf : Fin 4) (s : State) : Res :=
  .next (s.asPriv pf (fun a =>
    if a.is Fld.SYS_THERM_FORCED then a.set Fld.SYS_PWR_STATUS_RESULT 1 else
    let a1 := (a.flag Fld.PLL_CTRL_EN).clr Lat.TB_CLEAR_HELD
    match a.get Fld.TB_STATUS_STATE with
    | 0 => if a.get Fld.AON_PWR_STATUS_STATE = 2 ∧ a.pllError = 0 ∧ !a.is Lat.PWR_BUSY then a1.standbyEnd.tbStart else a1.tbStart
    | 7 => a1.sets [(Fld.PLL_STATUS_RESTART_PENDING, 1), (Fld.TB_EVT_RESTART_QUEUED, 1)]
    | _ => a1))

/-- PLL_DISABLE: EN = 0 written by `pf` (R58 to R60). Accepted only while every reel is IDLE. In IDLE it is the STANDBY
transition of R406. -/
def execPllDisable (pf : Fin 4) (s : State) : Res :=
  .next (s.asPriv pf (fun a =>
    if !a.allIdle then a.flag Fld.TB_EVT_EN_REFUSED
    else
      let a1 := a.clr Fld.PLL_CTRL_EN
      match a.get Fld.TB_STATUS_STATE with
      | 0 => a1.clr Lat.TB_WANT
      | 7 => a1.clr Fld.PLL_STATUS_RESTART_PENDING
      | 2 => a1.flag Lat.TB_CLEAR_HELD
      | 6 => a1.flag Lat.TB_CLEAR_HELD
      | _ => if a.get Fld.AON_PWR_STATUS_STATE = 1 then a1.standbyBegin.tbStop else a1.tbStop))

/-- REF_CFG_WRITE: a write of REF_CFG is posted to the slow domain (R20, R23); when it takes effect the presence
detector's timeout is calibrated again (R50). -/
def execRefCfgWrite (pf : Fin 4) (v : Nat) (s : State) : Res :=
  .next (s.asPriv pf (fun a => a.post .REF_CFG 0 0 v))

/-- The loss action of TB_REFLOSS_ACT (R68). -/
def State.lossAction (s : State) : State :=
  match s.get Fld.TB_REFLOSS_ACT_ACT with
  | 0 => s
  | 2 => (s.parkAll pkRefloss true).stopReels (fun _ => true)
  | _ => s.parkAll pkRefloss true

/-- LOCKED is lost: COAST begins at the loss decision, cause 0 REF_LOST or 1 PLL_UNLOCK (R58, R67, R68). -/
def State.coastBegin (s : State) (cause : Nat) : State :=
  (((s.tbEnter 4).sets [(Lat.TB_REL_CAUSE, cause), (Lat.TB_LOSS_TICK, s.now), (Lat.TB_REACQ, 0)]).archive 13 (unitBlock 0) s.now
    [s.refWindow, cause]).lossAction

/-- The RELOCK entries of a release that ends REANCHOR (R72, R344): one record of two entries. -/
def State.relockEntry (s : State) : State :=
  let cause := s.get Lat.TB_REL_CAUSE
  let est := s.is Fld.TB_STATUS_DISC_EST
  let loss := if cause = 2 then 0 else s.get Lat.TB_LOSS_TICK
  let coast := if cause = 2 then 0 else s.get2 Fld.TB_COAST_LO Fld.TB_COAST_HI
  (s.accept (archiveEntry 14 false s.unref est false (unitBlock 0) (s.get Lat.TB_REL_TICK) 0
      [lo32 loss, hi32 loss, s.get Fld.TB_DISC, s.get Fld.TB_ANCHOR_RES])).accept
    (archiveEntry 14 true s.unref est false (unitBlock 0) (s.get Lat.TB_REL_TICK) 0 [lo32 coast, hi32 coast, cause, 0])

/-- A release that ends REANCHOR, into state `st`: the count resumes, the coast's length and the held interval are recorded,
and the park release and the residual measurement are due (R58, R69, R71, R72). -/
def State.release (s : State) (st h : Nat) (est : Bool) : State :=
  let cause := s.get Lat.TB_REL_CAUSE
  let s1 := (s.tbEnter st).sets [(Lat.TB_HELD, 0), (Fld.TB_DISC, h), (Fld.TB_STATUS_DISC_EST, est.toNat), (Fld.TB_EVT_ANCHOR_DONE, 1),
    (Lat.TB_REL_TICK, s.now), (Lat.TB_UNPARK_DUE, 1), (Lat.TB_EPIN_SEEN, 0)]
  let s2 := if cause = 2 then s1 else s1.set2 Fld.TB_COAST_LO Fld.TB_COAST_HI (tickAfter (s.get Lat.TB_LOSS_TICK) s.now)
  let s3 := s2.pulse 461 none
  let s4 := s3.jesdReanchor
  if s.is Fld.TB_CTRL_ANCHOR_MEAS then s4.sets [(Lat.TB_MEAS_DUE, 1), (Lat.TB_ENTRY_DUE, 1)] else s4.relockEntry

/-- REF_LOST: the presence detector declares REFIN lost (R50); `h` is the held interval the device computes from IOSC when
the loss falls in a REANCHOR stop (R71). -/
def execRefLost (h : Nat) (s : State) : Res :=
  let st := s.get Fld.TB_STATUS_STATE
  let s0 := ((s.sets [(Fld.REF_STATUS_PRESENT, 0), (Fld.REF_STATUS_FREQ_OK, 0), (Fld.TB_STATUS_REF_PRESENT, 0), (Fld.REF_STATUS_SLK_SRC, 0)]).persist 0 true).pulse 460 none
  let s1 := if 1 ≤ st ∧ st ≤ 6 then s0.flag Fld.TB_EVT_REF_LOST else s0
  .next <|
    if !s.is Fld.REF_STATUS_PRESENT then s
    else match st with
      | 1 => s1.tbEnter 0
      | 2 => s1.tbEnter 0
      | 3 => (s1.raise 0 (unitBlock 0) s.refWindow []).coastBegin 0
      | 4 => s1.raise 0 (unitBlock 0) s.refWindow []
      | 5 => (s1.raise 0 (unitBlock 0) s.refWindow []).tbEnter 4
      | 6 => if s.is Lat.TB_HELD then (s1.raise 0 (unitBlock 0) s.refWindow []).release 4 h true
             else (s1.raise 0 (unitBlock 0) s.refWindow []).tbEnter 4
      | _ => s1

/-- REF_BACK: REFIN counts as present again (R51, R58). FREQ_KHZ is an estimate that the manual gives to within 5 %: a free
value. -/
def execRefBack (s : State) : Res :=
  let f := s.fresh (2 ^ 18)
  let s1 := (f.2.sets [(Fld.REF_STATUS_FREQ_KHZ, f.1), (Fld.REF_STATUS_PRESENT, 1), (Fld.REF_STATUS_FREQ_OK, 1), (Fld.TB_STATUS_REF_PRESENT, 1),
    (Fld.REF_STATUS_SLK_SRC, s.get Lat.TB_EVER)]).persist 0 false
  .next <|
    if s.is Fld.REF_STATUS_PRESENT then s
    else match s.get Fld.TB_STATUS_STATE with
      | 0 => if s.is Fld.PLL_CTRL_EN && s.is Lat.TB_WANT then s1.tbStart else s1
      | 4 => s1.flag Fld.TB_EVT_REF_BACK
      | _ => s1

/-- A load may take place: every reel is IDLE and the value is word-aligned (R65). -/
def State.loadOk (s : State) : Bool := s.allIdle && s.get Fld.TB_LOAD_LO % 8 == 0

/-- An armed load that may not take place is refused and stays armed (R65). -/
def State.loadCheck (s : State) : State :=
  if s.is Fld.TB_STATUS_LOAD_ARMED && !s.loadOk then (s.flag Fld.TB_EVT_LOAD_REFUSED).clr Lat.TB_LOAD_OK
  else s.set Lat.TB_LOAD_OK (s.get Fld.TB_STATUS_LOAD_ARMED)

/-- LOCK_DETECT: lock detect asserts (R55), with the VCO band the calibration found. ACQUIRE goes to ANCHOR; REACQUIRE goes
to REANCHOR, which stops at the next word boundary (R58). -/
def execLockDetect (band : Nat) (s : State) : Res :=
  let s1 := s.flag Fld.PLL_STATUS_LD
  .next <|
    match s.get Fld.TB_STATUS_STATE with
    | 1 => ((s1.sets [(Fld.PLL_STATUS_BAND_CAL_DONE, 1), (Fld.PLL_STATUS_VCO_BAND, band)]).tbEnter 2).loadCheck
    | 5 => (s1.tbEnter 6).clr Lat.TB_HELD
    | 0 => s
    | _ => s1

/-- PLL_UNLOCK: the phase error stays large while REFIN is present; LOCKED goes to COAST with the loss action (R55). -/
def execPllUnlock (s : State) : Res :=
  .next <|
    if s.locked && s.is Fld.REF_STATUS_PRESENT then
      (((s.clr Fld.PLL_STATUS_LD).flag Fld.TB_EVT_UNLOCK).raise 1 (unitBlock 0) 0 []).coastBegin 1
    else s

/-- REACQUIRE_START: in COAST with REFIN present, at a word boundary, automatically or by the armed relock whose tick is
reached (R58, R66). -/
def execReacquireStart (s : State) : Res :=
  let armed := s.is Fld.TB_STATUS_ANCHOR_ARMED && s.get Lat.TB_ANCHOR_TICK ≤ s.now
  .next <|
    if s.get Fld.TB_STATUS_STATE = 4 ∧ s.is Fld.REF_STATUS_PRESENT ∧ s.now % 8 = 0 ∧ (s.is Fld.TB_RELOCK_AUTO_EN || armed) then
      (s.tbEnter 5).clr Fld.PLL_STATUS_LD
    else s

/-- REACQ_TIMEOUT: 10 ms in REACQUIRE without lock; band calibration repeats, with an archive entry (R58, R469). -/
def execReacqTimeout (s : State) : Res :=
  .next <|
    if s.get Fld.TB_STATUS_STATE = 5 then
      ((s.clr Fld.PLL_STATUS_BAND_CAL_DONE).bumpWrap Lat.TB_REACQ).archive 21 (unitBlock 0) s.now [s.get Lat.TB_REACQ + 1]
    else s

/-- REANCHOR_STOP: at a word boundary the dividers and the count stop and every output parks: from LOCKED at the armed
tick, or from a REANCHOR that lock detect entered (R58, R66, R69). Measurements in RUN break and links retrain. -/
def execReanchorStop (s : State) : Res :=
  let st := s.get Fld.TB_STATUS_STATE
  let due := st = 3 ∧ s.is Fld.TB_STATUS_ANCHOR_ARMED ∧ s.get Lat.TB_ANCHOR_TICK ≤ s.now ∨ st = 6 ∧ !s.is Lat.TB_HELD
  .next <|
    if due ∧ s.now % 8 = 0 then
      let s1 := (s.tbEnter 6).flag Lat.TB_HELD
      let s2 := if st = 3 then s1.set Lat.TB_REL_CAUSE 2 else s1
      ((s2.each (List.range 32) (fun n a => a.chPark n pkReanchor true)).loadCheck).stopMeasurements
    else s

/-- t_anc in units of 2^-16 tick, from TB_ANCHOR_TGT in fs (R71), rounded to nearest. -/
def State.tAnc (s : State) : Int := s.fsToTick (s.geti Fld.TB_ANCHOR_TGT)

/-- H of R71 in units of 2^-16 tick: `d` is how far the last REFIN edge lies before W_s, `j` the REFIN periods from that edge
to the qualified edge. -/
def State.heldInterval (s : State) (d j : Nat) : Int := (j * s.refPeriod * 65536 : Nat) - (d : Int) + s.tAnc

/-- The first tick after release carries the value `v` in place of the held count: the archive entry and the actions whose
named tick the load has passed (R65, R468); an ALIGNED follower is misaligned (R359). -/
def State.applyCount (s : State) (v : Nat) : State :=
  let s1 := { s with tick := v }
  let s2 := s1.archive 16 (unitBlock 0) v [lo32 s.now, hi32 s.now, lo32 v, hi32 v]
  ((s2.passedActions).each (List.range 16) (fun k a => a.when (a.is (Fld.EV_TMR_CFG_EN k)) (fun b => b.timerArm k v))).studioMisalign

/-- An armed load takes place and disarms (R65). -/
def State.applyLoad (s : State) : State :=
  (s.sets [(Fld.TB_STATUS_LOAD_ARMED, 0), (Lat.TB_LOAD_OK, 0)]).applyCount (s.get2 Fld.TB_LOAD_LO Fld.TB_LOAD_HI)

/-- n, v and c of an alignment (R356), and what remains for the trim in units of 2^-16 tick: `h` is H, θ that of the UP link,
ρ the residual of the previous anchor. -/
def State.alignStep (s : State) (l : Nat) (h : Int) : Nat × Nat × Int :=
  let x := (s.now * 65536 : Nat) + h - s.theta l - s.fsToTick (s.geti Fld.TB_ANCHOR_RES)
  let n := (x + 8192) / 16384
  let v := ((-n) % 32).toNat
  (v, ((n + v) / 4 % (tickMod : Int)).toNat, x + 16384 * v - 65536 * ((n + v) / 4))

/-- The release of a follower in ANCHORING: the step of the dividers, the count through the load path, and the interval of
the aligned grid as the new target (R355, R356). A load that reels refuse leaves the count to the verification. -/
def State.alignRelease (s : State) (h : Int) : State :=
  match s.upLink with
  | some l =>
    let (v, c, e) := s.alignStep l h
    let s1 := s.sets [(Lat.ST_OUT, 1), (Lat.ST_FRESH, 0)]
    if s.allIdle then ((s1.set Fld.LK_VSTEP v).seti Fld.TB_ANCHOR_TGT (s.geti Fld.TB_ANCHOR_TGT + s.tickToFs (16384 * v - e))).applyCount c
    else s1.flag Fld.TB_EVT_LOAD_REFUSED
  | none => s

/-- What the release of an anchor starts: TIUs and links that waited for it, and the TIU of the time base (R61, R293, R300,
R352). -/
def State.afterRelease (s : State) : State :=
  ((s.each (List.range 24) (fun k a => a.tiuStart k)).each (List.range 16) (fun l a => a.linkStart l)).tbClaim

/-- ANCHOR_RELEASE: the qualified REFIN edge; the count runs from the held value or the loaded one (R58, R61, R65, R69, R71). -/
def execAnchorRelease (d j : Nat) (s : State) : Res :=
  let qualified := s.get Fld.TB_EPIN_CFG_MODE ≠ 2 ∨ s.is Lat.TB_EPIN_SEEN
  let h := s.heldInterval d j
  let finish := fun (a : State) =>
    let a1 := ((a.flag Lat.TB_EVER).set Fld.REF_STATUS_SLK_SRC (a.get Fld.REF_STATUS_PRESENT)).bootClear.afterRelease
    let a2 := if s.get Fld.TB_STATUS_STATE = 6 ∧ a1.get Fld.LK_STUDIO_STATUS_STATE = 4 then a1.alignRelease h
      else if a1.is Lat.TB_LOAD_OK then a1.applyLoad else a1
    if a2.is Lat.TB_CLEAR_HELD then (a2.clr Lat.TB_CLEAR_HELD).tbStop else a2
  .next <|
    if ¬qualified then s
    else match s.get Fld.TB_STATUS_STATE with
      | 2 => finish ((s.tbEnter 3).sets [(Fld.TB_EVT_ANCHOR_DONE, 1), (Lat.TB_REL_TICK, s.now), (Lat.TB_EPIN_SEEN, 0),
          (Lat.TB_MEAS_DUE, s.get Fld.TB_CTRL_ANCHOR_MEAS)])
      | 6 => if s.is Lat.TB_HELD then finish (s.release 3 (ux 32 h) false) else s
      | _ => s

/-- REANCHOR_PARK_RELEASE: 8 words after release the REANCHOR reason clears; when the release ended the coast, the REFLOSS
reason clears with it (R68, R69, R237). -/
def execReanchorParkRelease (s : State) : Res :=
  .next <|
    if s.is Lat.TB_UNPARK_DUE && decide (64 ≤ tickAfter (s.get Lat.TB_REL_TICK) s.now) then
      let s1 := (s.each (List.range 32) (fun n a => a.chPark n pkReanchor false)).clr Lat.TB_UNPARK_DUE
      if s.locked then s1.parkAll pkRefloss false else s1
    else s

/-- ANCHOR_MEAS_DONE: the mean residual in fs, less TB_ANCHOR_TGT, is written 128 words after release, and automatic trim
follows it (R62, R63). -/
def execAnchorMeasDone (mean : Int) (s : State) : Res :=
  .next <|
    if s.is Lat.TB_MEAS_DUE && decide (1024 ≤ tickAfter (s.get Lat.TB_REL_TICK) s.now) then
      let res := mean - s.geti Fld.TB_ANCHOR_TGT
      let s1 := (s.seti Fld.TB_ANCHOR_RES res).clr Lat.TB_MEAS_DUE
      let s2 := if s.is Fld.TB_CTRL_AUTO_TRIM then s1.seti Fld.TB_FTRIM_TRIM (clampInt (-200) 200 (-((res + 50) / 100))) else s1
      if s.is Lat.TB_ENTRY_DUE then (s2.clr Lat.TB_ENTRY_DUE).relockEntry else s2
    else s

/-- TB_STOP_DONE: self-refresh is entered, the clocks have switched and the count stands at a word boundary; the PLL goes
off, and a pending restart begins ACQUIRE (R58, R60, R449). -/
def execTbStopDone (s : State) : Res :=
  .next <|
    if s.get Fld.TB_STATUS_STATE = 7 ∧ s.now % 8 = 0 then
      let s1 := ((s.tbEnter 0).sets [(Fld.PLL_STATUS_LD, 0), (Lat.TB_WANT, 0), (Lat.STK_SR, 1), (Fld.PLL_STATUS_RESTART_PENDING, 0)])
      if s.is Fld.PLL_STATUS_RESTART_PENDING then s1.tbStart else s1
    else s

/-! ### Commands of TB_CMD -/

/-- Arm an anchor or a relock at TB_ANCHOR_AT: word-aligned and not yet passed, in the state that allows it (R66). -/
def State.armAnchor (s : State) (st : Nat) : State :=
  let at_ := s.get2 Fld.TB_ANCHOR_AT_LO Fld.TB_ANCHOR_AT_HI
  if s.get Fld.TB_STATUS_STATE = st ∧ at_ % 8 = 0 ∧ s.now ≤ at_ then
    s.sets [(Fld.TB_STATUS_ANCHOR_ARMED, 1), (Lat.TB_ANCHOR_TICK, at_)]
  else s.flag Fld.TB_EVT_CFG_ERR

/-- ANCHOR: TB_CMD.ANCHOR (R66). -/
def execTbAnchor (pf : Fin 4) (s : State) : Res := .next (s.asPriv pf (fun a => a.armAnchor 3))

/-- RELOCK: TB_CMD.RELOCK (R66). -/
def execTbRelock (pf : Fin 4) (s : State) : Res := .next (s.asPriv pf (fun a => a.armAnchor 4))

/-- LOAD_ARM: TB_CMD.LOAD_ARM, alone or in one write with LOAD_DISARM, which then changes no load (R65). -/
def execLoadArm (pf : Fin 4) (withDisarm : Bool) (s : State) : Res :=
  .next (s.asPriv pf (fun a => if withDisarm then a.flag Fld.TB_EVT_CFG_ERR else a.flag Fld.TB_STATUS_LOAD_ARMED))

/-- LOAD_DISARM: TB_CMD.LOAD_DISARM cancels an armed load (R65). -/
def execLoadDisarm (pf : Fin 4) (s : State) : Res :=
  .next (s.asPriv pf (fun a => a.sets [(Fld.TB_STATUS_LOAD_ARMED, 0), (Lat.TB_LOAD_OK, 0)]))

/-- TOD_COMMIT: the time-of-day association is latched and archived (R78). -/
def execTodCommit (pf : Fin 4) (s : State) : Res :=
  .next (s.asPriv pf (fun a =>
    let sec := a.get2 Fld.TB_TOD_SEC_LO Fld.TB_TOD_SEC_HI
    let t := a.get2 Fld.TB_TOD_TICK_LO Fld.TB_TOD_TICK_HI
    (a.sets [(Lat.TOD_SEC, sec), (Lat.TOD_NS, a.get Fld.TB_TOD_NS), (Lat.TOD_TICK, t), (Lat.TOD_VALID, 1)]).archive 15 (unitBlock 0) t
      [lo32 sec, hi32 sec, a.get Fld.TB_TOD_NS]))

/-! ### Time outputs -/

/-- The width of a pulse: WIDTH, or half the period where WIDTH is 0 or not below it (R74). -/
def pulseWidth (w p : Nat) : Nat := if w = 0 ∨ p ≤ w then p / 2 else w

/-- Take the configuration of EPOCH_OUTn into force from word boundary `w` (R74). -/
def State.epochArm (s : State) (n w : Nat) : State :=
  if !s.is (Fld.TB_EPOCH_CFG_EN n) then s.clr (Lat.EPOCH_RUN n)
  else match s.epochPeriod n with
    | none => (s.clr (Lat.EPOCH_RUN n)).flag Fld.TB_EVT_CFG_ERR
    | some p => s.sets [(Lat.EPOCH_RUN n, 1), (Lat.EPOCH_NEXT n, gridFrom w p (s.get (Fld.TB_EPOCH_OFS n)))]

/-- EPOCH_CFG_WRITE: a write of TB_EPOCH_CFG, PER_LO, PER_HI or OFS (`reg` 0 to 3) of EPOCH_OUTn (R74). A pulse of the old
configuration that is due before the write takes effect is still emitted. -/
def execEpochCfgWrite (pf : Fin 4) (n : Fin 2) (reg : Fin 4) (v : Nat) (s : State) : Res :=
  .next (s.asPriv pf (fun a =>
    let w := wordNext a.now
    let a1 := match reg with
      | 0 => a.sets [(Fld.TB_EPOCH_CFG_EN n, bitsOf v 31 1), (Fld.TB_EPOCH_CFG_MODE n, bitsOf v 29 2), (Fld.TB_EPOCH_CFG_K n, bitsOf v 23 6), (Fld.TB_EPOCH_CFG_WIDTH n, bitsOf v 8 8)]
      | 1 => a.set (Fld.TB_EPOCH_PER_LO n) v
      | 2 => a.set (Fld.TB_EPOCH_PER_HI n) v
      | 3 => a.set (Fld.TB_EPOCH_OFS n) v
    let old := a.get (Lat.EPOCH_NEXT n)
    (a1.when (a.is (Lat.EPOCH_RUN n) && old < w) (fun b => b.sets [(Lat.EPOCH_OLD n, 1), (Lat.EPOCH_OLD_TICK n, old),
      (Lat.EPOCH_OLD_WIDTH n, pulseWidth (a.get (Fld.TB_EPOCH_CFG_WIDTH n)) ((a.epochPeriod n).getD 0))])).epochArm n w))

/-- EPOCH_PULSE: EPOCH_OUTn starts a pulse at its due tick and pulses producer 400 + n with that origin (R74). -/
def execEpochPulse (n : Fin 2) (s : State) : Res :=
  .next <|
    if s.is (Lat.EPOCH_OLD n) && s.get (Lat.EPOCH_OLD_TICK n) ≤ s.now then
      ((s.clr (Lat.EPOCH_OLD n)).emit (.pin (16 + n) (s.get (Lat.EPOCH_OLD_TICK n)) (s.get (Lat.EPOCH_OLD_WIDTH n)))).pulse (400 + n) (some (s.get (Lat.EPOCH_OLD_TICK n)))
    else if s.is (Lat.EPOCH_RUN n) && s.get (Lat.EPOCH_NEXT n) ≤ s.now && !s.countHeld then
      match s.epochPeriod n with
      | none => s
      | some p =>
        let t := s.get (Lat.EPOCH_NEXT n)
        ((s.set (Lat.EPOCH_NEXT n) (t + p)).emit (.pin (16 + n) t (pulseWidth (s.get (Fld.TB_EPOCH_CFG_WIDTH n)) p))).pulse (400 + n) (some t)
    else s

/-- EPOCH_IN_EDGE: EPOCH_IN is sampled high on a REFIN edge; in MODE EVENT and ANCHOR it is stamped and pulses producer 402
with that stamp; in MODE ANCHOR it also qualifies the next REFIN edge of an anchor (R61, R75). -/
def execEpochInEdge (s : State) : Res :=
  let m := s.get Fld.TB_EPIN_CFG_MODE
  .next <|
    if m = 1 ∨ m = 2 then
      let s1 := ((s.set2 Fld.TB_EPIN_STAMP_LO Fld.TB_EPIN_STAMP_HI s.now).set Fld.TB_STATUS_EPIN_UNREF s.unref.toNat).pulse 402 (some s.now)
      s1.when (m == 2 && (s.get Fld.TB_STATUS_STATE == 2 || (s.get Fld.TB_STATUS_STATE == 6 && s.is Lat.TB_HELD))) (fun a => a.flag Lat.TB_EPIN_SEEN)
    else s

/-- The period of SYSREF output n is valid (R76). -/
def State.sysrefOk (s : State) (n : Nat) : Bool := s.get (Fld.TB_SYSREF_PER n) % 8 == 0 && decide (64 ≤ s.get (Fld.TB_SYSREF_PER n))

/-- SYSREF_CFG_WRITE: a write of TB_SYSREF_CFG, PER or OFS (`reg` 0 to 2) of output n takes effect at the next word boundary;
an invalid period is reported while EN = 1 (R76). -/
def execSysrefCfgWrite (pf : Fin 4) (n : Fin 8) (reg : Fin 3) (v : Nat) (s : State) : Res :=
  .next (s.asPriv pf (fun a =>
    let a1 := match reg with
      | 0 => a.sets [(Fld.TB_SYSREF_CFG_EN n, bitsOf v 31 1), (Fld.TB_SYSREF_CFG_MODE n, bitsOf v 30 1), (Fld.TB_SYSREF_CFG_COUNT n, bitsOf v 16 8), (Fld.TB_SYSREF_CFG_WIDTH n, bitsOf v 8 8)]
      | 1 => a.set (Fld.TB_SYSREF_PER n) v
      | 2 => a.set (Fld.TB_SYSREF_OFS n) v
    if !a1.is (Fld.TB_SYSREF_CFG_EN n) then a1.sets [(Lat.SYSREF_RUN n, 0), (Lat.SYSREF_LEFT n, 0)]
    else if !a1.sysrefOk n then (a1.clr (Lat.SYSREF_RUN n)).flag Fld.TB_EVT_CFG_ERR
    else a1.sets [(Lat.SYSREF_RUN n, 1), (Lat.SYSREF_NEXT n, gridFrom (wordNext a.now) (a1.get (Fld.TB_SYSREF_PER n)) (a1.get (Fld.TB_SYSREF_OFS n)))]))

/-- SYSREF_PULSE: SYSREF output n pulses at its due tick: at every period in CONTINUOUS mode, the remaining pulses of a burst
in GAPPED mode (R76). -/
def execSysrefPulse (n : Fin 8) (s : State) : Res :=
  let t := s.get (Lat.SYSREF_NEXT n)
  let p := s.get (Fld.TB_SYSREF_PER n)
  let gapped := s.is (Fld.TB_SYSREF_CFG_MODE n)
  .next <|
    if s.is (Lat.SYSREF_RUN n) && t ≤ s.now && !s.countHeld && (!gapped || s.get (Lat.SYSREF_LEFT n) != 0) then
      ((s.set (Lat.SYSREF_NEXT n) (t + p)).when gapped (fun a => a.set (Lat.SYSREF_LEFT n) (s.get (Lat.SYSREF_LEFT n) - 1))).emit
        (.pin (18 + n) t (if s.get (Fld.TB_SYSREF_CFG_WIDTH n) = 0 then p / 2 else s.get (Fld.TB_SYSREF_CFG_WIDTH n)))
    else s

/-- SYSREF_BURST: task 160 + n starts a burst of COUNT pulses (0 acts as 1) at the first period boundary at least 64 ticks
after its trigger, in GAPPED mode (R76, R315). -/
def execSysrefBurst (n : Fin 8) (s : State) : Res :=
  .next (s.onTask (160 + n) false (fun _ a =>
    if a.is (Lat.SYSREF_RUN n) && a.is (Fld.TB_SYSREF_CFG_MODE n) then
      a.sets [(Lat.SYSREF_LEFT n, max 1 (a.get (Fld.TB_SYSREF_CFG_COUNT n))),
        (Lat.SYSREF_NEXT n, gridFrom (a.now + 64) (a.get (Fld.TB_SYSREF_PER n)) (a.get (Fld.TB_SYSREF_OFS n)))]
    else a))

/-- CC_FAULT: control core `t` halts or faults; its tile's firmware tasks stop, reissues of the tile wait, and the corrector
groups it sequences abort with cause CORE (R31, R283, R334). -/
def execCcFault (t : Fin 8) (s : State) : Res :=
  .next <|
    ((((s.flag (Lat.CC_HALTED t)).flag Fld.CAL_STATUS_CORE_STOP).persist 9 true).raise 9 (unitTile t) t (markTile t)).each
      ((List.range 4).filter (fun g => s.get (Fld.COR_GRP_CFG_CC g) == (t : Nat))) (fun g a => a.corAbort g 7 (some 9))

end Sys2Proof.Machine
end

