-- ==== Sys2Proof/Machine/Power.lean ====
section
/-!
DEFINITION. Power states and their transitions (R405 to R407), the main rails (R456).
-/
namespace Sys2Proof.Machine

/-- The condition of RUN: a reel that is not IDLE or a corrector group that is not OFF (R405). -/
def State.running (s : State) : Bool := !s.allIdle || [0, 1, 2, 3].any (fun g => s.get (Fld.COR_GRP_STATUS_STATE g) != 0)

/-- SYS_PWR_STATUS.RESULT. -/
def State.pwrResult (s : State) (n : Nat) : State := s.set Fld.SYS_PWR_STATUS_RESULT n

/-- The transition to STANDBY begins (R406). The PLL is off behind EN = 0. -/
def State.toStandby (s : State) : State := ((s.clr Fld.PLL_CTRL_EN).standbyBegin).tbStop

/-- Apply a power command when no transition is in progress: 1 STANDBY, 2 RESUME, 3 SLEEP, 4 WAKE (R406, R460). -/
def State.pwrApply (s : State) (c : Nat) : State :=
  let st := s.get Fld.AON_PWR_STATUS_STATE
  match c with
  | 1 =>
    if st ≤ 1 then (if s.running then s.pwrResult 1 else (s.pwrResult 0).toStandby)
    else s.pwrResult (if st = 2 then 0 else 1)
  | 2 =>
    if st = 2 then
      if s.is Fld.SYS_THERM_FORCED then s.pwrResult 1
      else if s.pllError = 0 then (((s.pwrResult 0).flag Fld.PLL_CTRL_EN).standbyEnd).tbStart
      else ((s.pwrResult 0).flag Fld.PLL_CTRL_EN).tbStart
    else s.pwrResult (if st ≤ 1 then 0 else 1)
  | 3 =>
    if st ≤ 1 then (if s.running then s.pwrResult 1 else ((s.pwrResult 0).toStandby).flag Lat.PWR_THEN)
    else if st = 2 then (s.pwrResult 0).sets [(Lat.PWR_BUSY, 1), (Lat.PWR_NEXT, 3)]
    else s.pwrResult 1
  | 4 => if st = 3 then s.sets [(Lat.PWR_BUSY, 1), (Lat.PWR_NEXT, 2), (Fld.AON_PWR_EVT_WOKE, 1), (Fld.AON_EVT_WOKE, 1)] else s
  | _ => s

/-- A power command: applied, or queued one deep while a transition is in progress; RESUME cancels a queued STANDBY or
SLEEP (R407). -/
def State.pwrCommand (s : State) (c : Nat) : State :=
  if !s.is Lat.PWR_BUSY then s.pwrApply c
  else if c = 2 ∧ (s.get Lat.PWR_Q = 1 ∨ s.get Lat.PWR_Q = 3) then s.sets [(Lat.PWR_Q, 0), (Fld.AON_PWR_STATUS_QUEUED, 0)]
  else s.sets [(Lat.PWR_Q, c), (Fld.AON_PWR_STATUS_QUEUED, 1)]

/-- STANDBY: SYS_PWR_CMD.STANDBY (R406, R407). -/
def execStandby (pf : Fin 4) (s : State) : Res := .next (s.asPriv pf (fun a => a.pwrCommand 1))

/-- PWR_RESUME: SYS_PWR_CMD.RESUME (R406, R407). -/
def execPwrResume (pf : Fin 4) (s : State) : Res := .next (s.asPriv pf (fun a => a.pwrCommand 2))

/-- SLEEP: SYS_PWR_CMD.SLEEP (R406, R407). -/
def execSleep (pf : Fin 4) (s : State) : Res := .next (s.asPriv pf (fun a => a.pwrCommand 3))

/-- WAKE: AON_PWR_CMD.WAKE (R406, R407). -/
def execWake (pf : Fin 4) (s : State) : Res := .next (s.asPrivAon pf (fun a => a.pwrCommand 4))

/-- The queued command is applied when a transition has ended (R407). -/
def State.pwrNext (s : State) : State :=
  let c := s.get Lat.PWR_Q
  (s.sets [(Lat.PWR_Q, 0), (Fld.AON_PWR_STATUS_QUEUED, 0)]).when (c != 0) (fun a => a.pwrApply c)

/-- The transition in progress can end: to IDLE when the time base is LOCKED, to STANDBY when it has stopped (R406). -/
def State.pwrReady (s : State) : Bool :=
  s.is Lat.PWR_BUSY &&
    match s.get Lat.PWR_NEXT with
    | 1 => s.locked
    | 2 => s.get Fld.TB_STATUS_STATE != 7
    | _ => true

/-- POWER_TRANSITION_DONE: a transition ends (R406, R407). An orderly STANDBY or SLEEP commits the wear counts (R462). A sleep
goes on to DEEP_SLEEP, a wake goes on to IDLE when WAKE_RESUME is set, a restart of the time base that was queued behind the
stop goes on to IDLE; else the queued command applies. -/
def execPowerTransitionDone (s : State) : Res :=
  let n := s.get Lat.PWR_NEXT
  let old := s.get Fld.AON_PWR_STATUS_STATE
  let s1 := s.sets [(Lat.PWR_BUSY, 0), (Fld.AON_PWR_STATUS_STATE, n), (Fld.AON_EVT_PWR_DONE, 1)]
  .next <|
    if !s.pwrReady then s
    else match n with
      | 1 => s1.pwrNext
      | 2 =>
        if old = 3 then
          let s2 := (s1.each (List.range 8) (fun t a => a.when (a.get (Fld.SYS_TILE_STATUS_STATE t) != 0) (fun b => b.clr (Lat.CC_SLEEP t)))).deliverWake
          if s.is Fld.AON_PWR_CFG_WAKE_RESUME then s2.pwrApply 2 else s2.pwrNext
        else
          let s2 := s1.wearCommit
          if s.is Lat.PWR_THEN then (s2.clr Lat.PWR_THEN).pwrApply 3
          else if s.get Fld.TB_STATUS_STATE ≠ 0 then s2.standbyEnd
          else s2.pwrNext
      | 3 => (s1.wearCommit.each (List.range 8) (fun t a => a.flag (Lat.CC_SLEEP t))).pwrNext
      | _ => s1.pwrNext

/-- RUN_IDLE_CHANGE: the device moves between RUN and IDLE by itself (R405). A forced standby begins when every reel is IDLE
(R460). -/
def execRunIdleChange (s : State) : Res :=
  .next <|
    if s.get Fld.AON_PWR_STATUS_STATE ≤ 1 ∧ !s.is Lat.PWR_BUSY then
      if s.is Lat.FORCE_STBY && s.allIdle then (s.clr Lat.FORCE_STBY).toStandby
      else s.set Fld.AON_PWR_STATUS_STATE (if s.running then 0 else 1)
    else s

/-- The main rails: every rail but VDD_AON (R455). -/
def mainRail (n : Nat) : Bool := n != 9

/-- MAIN_RAIL_PG_LOSS: main rail `rail` loses power-good, which takes the device OFF, where the matrix array loses its content too (R306); or (`lost` false) it is good, and when no
rail is lost any more the device boots (R404, R406, R456). -/
def execMainRailPgLoss (rail : Fin 11) (lost : Bool) (s : State) : Res :=
  let bit := 1 <<< (rail : Nat)
  let pg := s.get Fld.SYS_RAIL_PG
  .next <|
    if !mainRail rail then s
    else if lost then
      let s1 := s.sets [(Fld.SYS_RAIL_PG, if pg.testBit rail then pg - bit else pg), (Lat.RAIL_LOST, s.get Lat.RAIL_LOST ||| bit), (Lat.PWR_OFF, 1)]
      s1.resetMain.resetKeys (fun k => k.r == .EV_MATRIX)
    else
      let l := putBit (s.get Lat.RAIL_LOST) rail false
      (s.sets [(Fld.SYS_RAIL_PG, pg ||| bit), (Lat.RAIL_LOST, l)]).when (l == 0) (fun a => a.clr Lat.PWR_OFF)

/-- SUPPLY_UV: main rail `rail` falls below its warning level, or (`low` false) is above it again (R334, R456). The manual
gives the rail monitor no UNIT code: RAISED_AT takes a free value. -/
def execSupplyUv (rail : Fin 11) (low : Bool) (s : State) : Res :=
  let s1 := (s.set Fld.SYS_RAIL_WARN (putBit (s.get Fld.SYS_RAIL_WARN) rail low)).uvPersist
  let f := s1.fresh (2 ^ 12)
  .next <|
    if !mainRail rail || (s.get Fld.SYS_RAIL_WARN).testBit rail == low then s
    else if low then f.2.raise 6 f.1 (16 + (rail : Nat)) []
    else s1

end Sys2Proof.Machine
end

