-- ==== Sys2Proof/Machine/Jinel.lean ====
section
/-!
DEFINITION. Jinel images (R385 to R390): their directory and records, which fields an image may write, the budgets of the
structure that would result (R35) and what applying an image does.
-/
namespace Sys2Proof.Machine

/-! ### Directory and records -/

/-- A directory entry (R386): TYPE, PART, OFFSET, LENGTH, and whether its reserved bits are 0. -/
structure DirEntry where
  type : Nat
  part : Nat
  ofs : Nat
  len : Nat
  clean : Bool
deriving DecidableEq, Repr

/-- Entry `i` of the directory. -/
def dirEntry (img : List (BitVec 8)) (i : Nat) : DirEntry :=
  let w := dwordAt img (256 + 16 * i)
  ⟨w % 256, bitsOf w 8 8, dwordAt img (260 + 16 * i), dwordAt img (264 + 16 * i), decide (w < 2 ^ 16) && dwordAt img (268 + 16 * i) == 0⟩

/-- The directory of an image, NSEC entries. -/
def directory (img : List (BitVec 8)) : List DirEntry := (List.range (dwordAt img 36 % 256)).map (dirEntry img)

/-- One record of a section: BAR0 offset and value (R387). -/
def bodyRecords (img : List (BitVec 8)) (e : DirEntry) : List (Nat × Nat) :=
  (List.range (e.len / 8)).map (fun k => (dwordAt img (e.ofs + 8 * k), dwordAt img (e.ofs + 8 * k + 4)))

/-- Two bodies do not overlap. -/
def bodiesApart (a b : DirEntry) : Bool := decide (a.ofs + a.len ≤ b.ofs) || decide (b.ofs + b.len ≤ a.ofs) || a.len == 0 || b.len == 0

/-- The registers a section may target whole (R388). -/
def sectionRegs (type : Nat) : List RName :=
  match type with
  | 1 => [.PP_CFG, .PP_JCFG0, .LK_CFG, .LK_STUDIO, .LK_RXS_CFG, .COR_IN_CFG, .TL_GRANT]
  | 2 => [.TL_PIPE_LAT, .MS_REFILL_BW, .COR_GRP_CFG, .COR_GRP_SLICE, .COR_GRP_DRV]
  | 3 => [.EV_MATRIX, .EV_GRP_MAP, .EV_GRP_EN, .EV_TASK_CFG]
  | 4 => [.IC_ROUTE, .IC_FAULTN_EN_LO, .IC_FAULTN_EN_HI, .IC_WAKE_SEL]
  | 6 => [.CAL_CTRL]
  | _ => []

/-- The fields of dword `j` of a register that section `type` writes (R388). -/
def imageFields (type : Nat) (r : RName) (j : Nat) : List FieldSpec :=
  let all := (layout r j).filter (fun f => f.acc != .RSV)
  let at_ := fun (lo : Nat) => all.filter (fun f => f.lo == lo)
  if (sectionRegs type).contains r then all
  else match type, r with
    | 1, .LK_TXS_CFG => at_ 0
    | 1, .REEL => if 8 ≤ j ∧ j ≤ 10 then all else []
    | 2, .REEL => if j = 0 then at_ 16 else []
    | 2, .MS_CFG => at_ 30
    | 5, .MS_CFG => at_ 0
    | 5, .IC_ARC_CFG => at_ 31
    | _, _ => []

/-- A record is well formed in its section: its target is one of the section's, and no other bit of the value is set (R387, R388). -/
def recordOk (type : Nat) (q : Nat × Nat) : Bool :=
  match (if q.1 < 2 ^ 24 then regAt 0 q.1 else none) with
  | none => false
  | some (r, _, j) =>
    let fs := imageFields type r j
    !fs.isEmpty && fs.foldl (fun a f => a + bitsOf q.2 f.lo f.w * 2 ^ f.lo) 0 == q.2

/-- The format of an image (R385 to R388): header, directory, bodies, records and reserved bits. -/
def imageFormat (img : List (BitVec 8)) : Bool :=
  let len := dwordAt img 8
  let kind := dwordAt img 12 % 2
  let tile := bitsOf (dwordAt img 12) 8 3
  let dir := directory img
  len % 8 == 0 && decide (len ≤ 0x3FFFFF8) && bitsOf (dwordAt img 12) 1 7 == 0 && decide (dwordAt img 12 < 2 ^ 11) && bitsOf (dwordAt img 20) 8 8 == 0 &&
    decide (dwordAt img 32 < 2) && decide (dwordAt img 36 < 256) && decide (1 ≤ dir.length) && decide (dir.length ≤ 64) &&
    (slice img 40 24).all (· == 0) && (slice img 128 128).all (· == 0) && (kind == 1 || (tile == 0 && (slice img 64 64).all (· == 0))) &&
    dir.all (fun e => e.clean && decide (1 ≤ e.type) && decide (e.type ≤ 6) && e.ofs % 8 == 0 && e.len % 8 == 0 && decide (e.ofs + e.len ≤ len - 1288) &&
      (if kind = 1 then e.part == tile && decide (e.type ≤ 4) else e.part == 255 || (decide (e.part < 8) && decide (e.type ≤ 4)))) &&
    decide ((dir.map (fun e => (e.type, e.part))).Nodup) && (kind == 1 || [1, 2, 3, 4, 5, 6].all (fun t => dir.any (fun e => e.type == t && e.part == 255))) &&
    decide (dir.Pairwise (fun a b => bodiesApart a b = true)) && dir.all (fun e => (bodyRecords img e).all (recordOk e.type))

/-- The device part of a full image (R386): the header with IMAGE_ID and COUNTER 0, then every entry and body of PART 0xFF. -/
def devicePart (img : List (BitVec 8)) : List (BitVec 8) :=
  slice img 0 24 ++ leBytes 8 0 ++ slice img 32 224 ++
    (List.range (directory img).length).flatMap (fun i =>
      let e := dirEntry img i
      if e.part = 255 then slice img (256 + 16 * i) 16 ++ slice img e.ofs e.len else [])

/-- Magic, format, header length and the family counts of this member (R1, R385, R389); KIND as `kind`. -/
def imageFamily (img : List (BitVec 8)) (kind : Nat) : Bool :=
  dwordAt img 0 == 0x4A4E4C31 && dwordAt img 4 == 1 + 256 * 2 ^ 16 && dwordAt img 12 % 2 == kind && dwordAt img 16 == 8 + 4 * 2 ^ 8 + 32 * 2 ^ 16 + 48 * 2 ^ 24 &&
    bitsOf (dwordAt img 20) 0 8 == 16 && bitsOf (dwordAt img 20) 16 16 == 1024

/-- The records of an image in directory order, with their sections. -/
def imageRecords (img : List (BitVec 8)) : List (Nat × Nat × Nat) :=
  (directory img).flatMap (fun e => (bodyRecords img e).map (fun q => (e.type, q.1, q.2)))

/-! ### Applying records -/

/-- Write the image fields of one record (R387). RATE follows BOOKED (R135, R388). -/
def State.applyRecord (s : State) (q : Nat × Nat × Nat) : State :=
  match regAt 0 q.2.1 with
  | none => s
  | some (r, i, j) =>
    let s1 := s.each (imageFields q.1 r j) (fun f a => a.set ⟨r, i, j, f.lo, f.w⟩ (bitsOf q.2.2 f.lo f.w))
    if q.1 = 2 ∧ r = .REEL then s1.set (Fld.REEL_RATE i) (s1.get (Fld.REEL_BOOKED i)) else s1

/-- A key that some section of an image writes, or RATE. -/
def imageKey (k : Key) : Bool :=
  [1, 2, 3, 4, 5, 6].any (fun t => (imageFields t k.r k.j).any (fun f => f.lo == k.lo && f.w == k.w)) || (k.r == .REEL && k.j == 0 && k.lo == 11)

/-- The structure that a full image gives: every image field at its reset value, then the records (R390). -/
def State.imageStructure (s : State) (img : List (BitVec 8)) : State := (s.resetKeys imageKey).each (imageRecords img) (fun q a => a.applyRecord q)

/-- What a full load does beside the image fields (R311, R331, R340, R355, R390): groups that are now disabled lose their loop
counts, routes move, the archive starts anew, the studio role is taken. -/
def State.afterLoad (s : State) : State :=
  let s1 := s.each ((List.range 16).filter (fun g => !(s.get Fld.EV_GRP_EN_EN).testBit g)) (fun g a => a.groupOff g)
  let s2 := s1.sets [(Fld.IC_ARC_WR, 0), (Fld.IC_ARC_RD, 0), (Fld.IC_ARC_FILL, 0), (Lat.ARC_FULL, 0)]
  (s2.set Fld.LK_STUDIO_STATUS_STATE (if s2.is Fld.LK_STUDIO_LEAD then 5 else if s2.follower then 1 else 0)).reroute

/-! ### Budgets (R35, R389) -/

/-- The tile of a destination: that of its channel, port or link; none for a corrector input, which lies behind the crossbar
(R4, R30, R130). -/
def destTile (d : Nat) : Option Nat :=
  match destKind d with
  | 1 => some (destIdx d / 4)
  | 2 => some (destIdx d / 6)
  | 3 => some (destIdx d / 8)
  | _ => none

/-- A route from tile `t` to a destination passes through the crossbar (R30). -/
def crossTile (t d : Nat) : Bool := destKind d != 0 && destTile d != some t

/-- Lane share of rate class `c`: a class 0 reel has 2^23 (R44). -/
def laneShare (c : Nat) : Nat := if c ≤ 23 then 2 ^ (23 - c) else 0

/-- The booked reels with their classes; class 31 is not booked. -/
def State.booked (s : State) : List (Nat × Nat) :=
  ((List.range 1024).map (fun r => (r, s.get (Fld.REEL_BOOKED r)))).filter (fun p => p.2 != 31)

/-- The destinations that occupy a crossbar slot, with the reel's tile and its share (R45). -/
def State.crossings (s : State) : List (Nat × Nat × Nat) :=
  s.booked.flatMap (fun p => ((s.dests p.1).filter (fun d => crossTile (tileOfReel p.1) d)).map (fun d => (tileOfReel p.1, d, laneShare p.2)))

/-- Lanes and crossbar slots of tile `t` (R44, R45): 16 class-0 reels, 16 slots out, 16 slots in. -/
def State.tileBudget (s : State) (t : Nat) : Bool :=
  let sum := fun (l : List Nat) => l.foldl (· + ·) 0
  let full := 16 * laneShare 0
  decide (sum ((s.booked.filter (fun p => tileOfReel p.1 == t)).map (fun p => laneShare p.2)) ≤ full) &&
    decide (sum ((s.crossings.filter (fun c => c.1 == t)).map (fun c => c.2.2)) ≤ full) &&
    decide (sum ((s.crossings.filter (fun c => destTile c.2.1 == some t)).map (fun c => c.2.2)) ≤ full)

/-- Booked stack traffic of classes 1 and 2 against the limit of the temperature class, in 0.1 GB/s (R46, R111). -/
def State.bandwidthBudget (s : State) : Bool :=
  let play := ((s.booked.filter (fun p => s.get (Fld.REEL_VOICE p.1) == 0)).map (fun p => 128 * laneShare p.2)).foldl (· + ·) 0
  let limit := match s.get Fld.MS_CFG_TEMP_CLASS with | 0 => 26240 | 1 => 25450 | 2 => 24400 | _ => 19680
  decide (play + s.get Fld.MS_REFILL_BW * 2 ^ 23 ≤ limit * 2 ^ 23)

/-- The grants of all reels: reel and destination, each once (R130, R387). -/
def State.allGrants (s : State) : List (Nat × Nat) :=
  (List.range 1024).flatMap (fun r => (((s.grants r).filter (fun d => destKind d != 0)).dedup).map (fun d => (r, d)))

/-- TL_PIPE_LAT of every tile: at least 50, and 58 with a cross-tile route (R42). -/
def State.latencyBudget (s : State) : Bool :=
  let least := if s.allGrants.any (fun g => crossTile (tileOfReel g.1) g.2) then 58 else 50
  (List.range 8).all (fun t => decide (least ≤ s.get (Fld.TL_PIPE_LAT_WORDS t)))

/-- At most 32 reels are granted one destination (R131). -/
def State.contributorBudget (s : State) : Bool :=
  let ds := s.allGrants.map (fun g => g.2)
  ds.all (fun d => decide (ds.count d ≤ 32))

/-- The FFT slices of group `g`. -/
def State.slices (s : State) (g : Nat) : List Nat := (List.range 16).filter (fun k => (s.get (Fld.COR_GRP_SLICE_SLICES g)).testBit k)

/-- The load check of corrector group `g` (R268). -/
def State.groupBudget (s : State) (g : Nat) : Bool :=
  let sine := s.is (Fld.COR_GRP_CFG_MODE g)
  let n := s.get (Fld.COR_GRP_CFG_NLOG2_A g)
  let l := s.get (Fld.COR_GRP_CFG_LLOG2_A g)
  let c := s.get (Fld.COR_GRP_CFG_CLASS_A g)
  let d := s.get (Fld.COR_GRP_CFG_DM1 g) + 1
  let dr := (List.range d).map (fun k => s.get (Fld.COR_GRP_DRV_REEL g k))
  !s.is (Fld.COR_GRP_CFG_VALID g) ||
    ((List.range d).all (fun k => s.is (Fld.COR_GRP_DRV_VALID g k)) &&
      dr.all (fun r =>
        let v := s.get (Fld.REEL_VOICE r)
        if sine then v == 1 || v == 2
        else v == 3 && s.get (Fld.REEL_GEN_CLASS r) == c && s.get (Fld.REEL_NLOG2 r) == n && (l == s.get (Fld.REEL_LLOG2 r) || l == s.get (Fld.REEL_LLOG2 r) + 1)) &&
      decide (10 ≤ n) && decide (n ≤ 16) && decide (4 ≤ l) && decide (l ≤ 13) && decide (l + 1 ≤ n) && !(s.slices g).isEmpty &&
      decide ((d + s.get (Fld.COR_GRP_CFG_RM1 g) + 1) * n ≤ 4 * 2 ^ c * (s.slices g).length) && decide (dr.Nodup) &&
      [0, 1, 2, 3].all (fun h => h == g || !s.is (Fld.COR_GRP_CFG_VALID h) ||
        ((s.slices g).all (fun k => !(s.slices h).contains k) && dr.all (fun r => !(s.drives h).contains r))))

/-- Each event group holds exactly 8 channels (R310). -/
def State.eventBudget (s : State) : Bool := (List.range 16).all (fun g => ((List.range 128).filter (fun c => s.groupOf c == g)).length == 8)

/-- The roles and the depth of a studio (R346), and the streams of each link that some reel is granted (R351). -/
def State.studioBudget (s : State) : Bool :=
  let ups := ((List.range 16).filter (fun l => s.linkRole l == 1)).length
  decide (s.get Fld.LK_STUDIO_DEPTH ≤ 4) && (s.is Fld.LK_STUDIO_LEAD || (List.range 16).all (fun l => s.linkRole l == 0) || ups == 1) &&
    (List.range 16).all (fun l =>
      let cs := ((List.range 4).filter (fun j => s.allGrants.any (fun g => g.2 == 3 * 512 + 4 * l + j))).map (fun j => s.get (Fld.LK_TXS_CFG_CLASS l j))
      cs.all (fun c => decide (3 ≤ c) && decide (c ≤ 23)) && decide ((cs.map (fun c => 22 * laneShare c)).foldl (· + ·) 0 ≤ 3 * 2 ^ 23))

/-- Every budget of a structure (R35, R389, RESULT 6). -/
def State.budgets (s : State) : Bool :=
  s.booked.all (fun p => decide (p.2 ≤ 23)) && (List.range 8).all (fun t => s.tileBudget t) && s.bandwidthBudget && s.latencyBudget && s.contributorBudget &&
    [0, 1, 2, 3].all (fun g => s.groupBudget g) && s.eventBudget && s.studioBudget &&
    decide (4096 ≤ s.get Fld.MS_CFG_ARCH_LEAVES) && decide (s.get Fld.MS_CFG_ARCH_LEAVES ≤ 131072)

/-! ### The checks in order (R389) -/

/-- The targets that a part of tile `t` may name (R388). -/
def partTarget (t : Nat) (off : Nat) : Bool :=
  (decide (0x100000 + t * 0x100000 ≤ off) && decide (off < 0x200000 + t * 0x100000)) ||
    match regAt 0 off with
    | some (.EV_MATRIX, p, _) => p / 32 == t
    | some (.EV_TASK_CFG, k, _) => (decide (k < 112) && k % 56 / 7 == t) || (decide (112 ≤ k) && decide (k < 160) && (k - 112) / 6 == t)
    | some (.IC_ROUTE, n, _) => (decide (48 ≤ n) && decide (n < 80) && (n - 48) / 4 == t) || (decide (80 ≤ n) && decide (n < 112) && (n - 80) / 4 == t) ||
        (decide (112 ≤ n) && decide (n < 160) && (n - 112) / 6 == t) || (decide (176 ≤ n) && decide (n < 200) && (n - 176) / 3 == t)
    | _ => false

/-- A record of a part of tile `t` stays within what a reissue may change: no cross-tile grant and no JESD204C port changes
(R389, RESULT 7). -/
def State.partRecord (s : State) (t : Nat) (q : Nat × Nat × Nat) : Bool :=
  partTarget t q.2.1 &&
    match regAt 0 q.2.1 with
    | some (.TL_GRANT, i, j) =>
      let old := s.word .TL_GRANT i j
      [0, 16].all (fun lo => bitsOf old lo 12 == bitsOf q.2.2 lo 12 || !(crossTile t (bitsOf old lo 12) || crossTile t (bitsOf q.2.2 lo 12)))
    | some (.PP_CFG, p, _) => s.word .PP_CFG p 0 == q.2.2 || !(decide (2 ≤ s.get (Fld.PP_CFG_PERS p)) || decide (2 ≤ bitsOf q.2.2 30 2))
    | some (.PP_JCFG0, p, _) => s.word .PP_JCFG0 p 0 == q.2.2 || decide (s.get (Fld.PP_CFG_PERS p) < 2)
    | _ => true

/-- The checks of a full image: 0, or the RESULT of the first that fails (R389). `none` is a read error or short read. -/
def State.imageCheck (s : State) (data : Option (List (BitVec 8))) : Nat :=
  match data with
  | none => 8
  | some img =>
    if !s.imageSigned img then 2
    else if dwordAt img 28 < s.get Fld.SEC_IMG_FLOOR then 3
    else if !imageFamily img 0 then 4
    else if !imageFormat img then 5
    else if !(s.imageStructure img).budgets then 6
    else 0

/-- The checks of a tile part for tile `t` (R389). -/
def State.partCheck (s : State) (t : Nat) (data : Option (List (BitVec 8))) : Nat :=
  match data with
  | none => 8
  | some img =>
    if !s.imageSigned img then 2
    else if dwordAt img 28 < s.get Fld.SEC_IMG_FLOOR then 3
    else if !imageFamily img 1 || leValue (slice img 64 64) != s.get Lat.IMG_DEV then 4
    else if !imageFormat img || bitsOf (dwordAt img 12) 8 3 != t then 5
    else if !(s.each (imageRecords img) (fun q a => a.applyRecord q)).budgets then 6
    else if !(imageRecords img).all (fun q => s.partRecord t q) then 7
    else 0

/-- D of an image: the digest of its covered bytes (R411, R412). -/
def imageDigest (img : List (BitVec 8)) : Nat := digestOf (img.take (dwordAt img 8 - 1288))

/-- A full image takes effect (R390, R421). -/
def State.applyImage (s : State) (img : List (BitVec 8)) : State :=
  (s.imageStructure img).afterLoad.sets [(Fld.SYS_IMG_STATUS_LOADED, 1), (Fld.SYS_IMG_ID, dwordAt img 24), (Lat.IMG_CNT, dwordAt img 28),
    (Lat.IMG_DEV, digestOf (devicePart img)), (Lat.M_IMG, imageDigest img), (Lat.REISSUES, 0)]

/-- A tile part takes effect (R392, R421): M_IMG takes the part's digest in, and REISSUES counts it. -/
def State.applyPart (s : State) (img : List (BitVec 8)) : State :=
  ((s.each (imageRecords img) (fun q a => a.applyRecord q)).reroute).sets
    [(Lat.M_IMG, digestOf (leBytes 64 (s.get Lat.M_IMG) ++ leBytes 64 (imageDigest img))), (Lat.REISSUES, s.get Lat.REISSUES + 1)]

/-- The structure without an image: every image field at its reset value (R390, R399 stage 9). -/
def State.noImage (s : State) : State :=
  (s.resetKeys imageKey).afterLoad.sets [(Fld.SYS_IMG_STATUS_LOADED, 0), (Fld.SYS_IMG_ID, 0), (Lat.IMG_CNT, 0), (Lat.IMG_DEV, 0), (Lat.M_IMG, 0), (Lat.REISSUES, 0)]

end Sys2Proof.Machine
end

