-- ==== Sys2Proof/Machine/Tiles.lean ====
section
/-!
DEFINITION. Full loads and tile reissues (R391 to R394): the commands of the image and tile registers and the states of a tile.
-/
namespace Sys2Proof.Machine

/-- The image source as the registers name it: SRC, address, LEN (R391). -/
def State.imageSource (s : State) : Nat :=
  s.get Fld.SYS_IMG_LEN + s.get2 Fld.SYS_IMG_ADDR_LO Fld.SYS_IMG_ADDR_HI * 2 ^ 26 + s.get Fld.SYS_IMG_SRC_SRC * 2 ^ 90

/-- LOAD: SYS_IMG_CMD.LOAD starts a full load in STANDBY; in any other power state it is refused with STATE (R391). While a load
is in progress the command has no effect. -/
def execImageLoad (pf : Fin 4) (s : State) : Res :=
  .next (s.asPriv pf (fun a =>
    if a.is Fld.SYS_IMG_STATUS_BUSY then a
    else if a.get Fld.AON_PWR_STATUS_STATE = 2 ∧ !a.is Lat.PWR_BUSY then a.sets [(Fld.SYS_IMG_STATUS_BUSY, 1), (Fld.SYS_IMG_STATUS_RESULT, 0), (Lat.IMG_AT, a.imageSource)]
    else a.set Fld.SYS_IMG_STATUS_RESULT 1))

/-- IMAGE_LOAD_DONE: the checks of a full load end on the bytes that its source delivered, none for a read error; the image
applies, or the old structure stays (R35, R389, R390). -/
def execImageLoadDone (data : Option (List (BitVec 8))) (s : State) : Res :=
  .next <|
    if s.is Fld.SYS_IMG_STATUS_BUSY then
      let n := s.imageCheck data
      let s1 := if n = 0 then s.applyImage (data.getD []) else s
      s1.sets [(Fld.SYS_IMG_STATUS_BUSY, 0), (Fld.SYS_IMG_STATUS_RESULT, n)]
    else s

/-- BOOT is set or cleared on the channels and ports of tile `t`. -/
def State.tilePark (s : State) (t : Nat) (on : Bool) : State :=
  (s.each (List.range 4) (fun k a => a.chPark (4 * t + k) pkBoot on)).each (List.range 6) (fun k a => a.ppPark (6 * t + k) pkBoot on)

/-- Tile `t` enters STOPPING: BOOT on its outputs, stop requests for its reels, and groups that run on its FFT slices abort
(R283, R392, R451). -/
def State.tileStop (s : State) (t : Nat) : State :=
  (((s.set (Fld.SYS_TILE_STATUS_STATE t) 3).tilePark t true).stopReels (fun r => tileOfReel r == t)).each
    ([0, 1, 2, 3].filter (fun g => s.corRunning g && (s.slices g).any (fun k => k / 2 == t))) (fun g a => a.corAbort g 8 none)

/-- Tile `t` enters RUN: BOOT clears on its outputs where the conditions of R235 hold. -/
def State.tileRunning (s : State) (t : Nat) : State := (s.sets [(Fld.SYS_TILE_STATUS_STATE t, 2), (Fld.SYS_TILE_STATUS_RESTART_PENDING t, 0)]).bootClear

/-- Tile `t` goes to OFF; its control core sleeps (R394). -/
def State.tileOff (s : State) (t : Nat) : State :=
  s.sets [(Fld.SYS_TILE_STATUS_STATE t, 0), (Fld.SYS_TILE_STATUS_RESTART_PENDING t, 0), (Lat.CC_SLEEP t, 1)]

/-- Tile `t` starts: power up, its control core wakes (R392). -/
def State.tileStart (s : State) (t : Nat) : State := s.sets [(Fld.SYS_TILE_STATUS_STATE t, 1), (Lat.CC_SLEEP t, 0), (Lat.CC_HALTED t, 0)]

/-- REISSUE: SYS_IMG_CMD.REISSUE for the tile of SYS_IMG_TILE (R392, R393): it starts in RUN, is queued in STOPPING and LOADING,
where a further one replaces the queued address, and is refused in OFF and STARTING. -/
def execReissue (pf : Fin 4) (s : State) : Res :=
  .next (s.asPriv pf (fun a =>
    let t := a.get Fld.SYS_IMG_TILE
    match a.get (Fld.SYS_TILE_STATUS_STATE t) with
    | 2 => (a.sets [(Fld.SYS_TILE_STATUS_REISSUE_PENDING t, 1), (Fld.SYS_TILE_STATUS_RESULT t, 0), (Lat.RI_AT t, a.imageSource)]).tileStop t
    | 3 => a.sets [(Fld.SYS_TILE_STATUS_REISSUE_PENDING t, 1), (Fld.SYS_TILE_STATUS_RESULT t, 9), (Lat.RI_AT t, a.imageSource)]
    | 4 => a.sets [(Fld.SYS_TILE_STATUS_REISSUE_PENDING t, 1), (Fld.SYS_TILE_STATUS_RESULT t, 9), (Lat.RI_NEXT t, a.imageSource)]
    | _ => a.set (Fld.SYS_TILE_STATUS_RESULT t) 1))

/-- TILE_ENABLE: SYS_TILE_CTRL[t].EN written 1 (R392, R393, R450). -/
def execTileEnable (pf : Fin 4) (t : Fin 8) (s : State) : Res :=
  .next (s.asPriv pf (fun a =>
    let a1 := a.flag (Fld.SYS_TILE_CTRL_EN t)
    match a.get (Fld.SYS_TILE_STATUS_STATE t) with
    | 0 => a1.tileStart t
    | 3 => if a.is (Fld.SYS_TILE_CTRL_EN t) then a1 else a1.flag (Fld.SYS_TILE_STATUS_RESTART_PENDING t)
    | _ => a1))

/-- TILE_DISABLE: SYS_TILE_CTRL[t].EN written 0 (R392, R393): RUN goes to STOPPING; a start or a load completes first. -/
def execTileDisable (pf : Fin 4) (t : Fin 8) (s : State) : Res :=
  .next (s.asPriv pf (fun a =>
    let a1 := a.sets [(Fld.SYS_TILE_CTRL_EN t, 0), (Fld.SYS_TILE_STATUS_RESTART_PENDING t, 0)]
    if a.get (Fld.SYS_TILE_STATUS_STATE t) = 2 then a1.tileStop t else a1))

/-- TILE_START_DONE: STARTING ends in RUN, or goes on to STOPPING when EN has been cleared (R392, R393). -/
def execTileStartDone (t : Fin 8) (s : State) : Res :=
  .next <|
    if s.get (Fld.SYS_TILE_STATUS_STATE t) = 1 then (if s.is (Fld.SYS_TILE_CTRL_EN t) then s.tileRunning t else s.tileStop t) else s

/-- TILE_STOP_DONE: every reel of a stopping tile is IDLE: LOADING when a reissue is pending, else OFF or RUN as EN says
(R392, R393). -/
def execTileStopDone (t : Fin 8) (s : State) : Res :=
  .next <|
    if s.get (Fld.SYS_TILE_STATUS_STATE t) = 3 ∧ s.tileIdle t then
      let s1 := { s with loans := s.loans.filter (fun l => tileOfReel l.reel != (t : Nat)) }
      if s.is (Fld.SYS_TILE_STATUS_REISSUE_PENDING t) then s1.sets [(Fld.SYS_TILE_STATUS_STATE t, 4), (Fld.SYS_TILE_STATUS_REISSUE_PENDING t, 0)]
      else if s.is (Fld.SYS_TILE_CTRL_EN t) then s1.tileRunning t else s1.tileOff t
    else s

/-- TILE_LOAD_DONE: the checks of the tile part end on the bytes its source delivered; the part applies or is refused, and the
tile leaves LOADING, or loads the part queued meanwhile (R389, R392, R393). -/
def execTileLoadDone (t : Fin 8) (data : Option (List (BitVec 8))) (s : State) : Res :=
  .next <|
    if s.get (Fld.SYS_TILE_STATUS_STATE t) = 4 then
      let n := s.partCheck t data
      let s1 := (if n = 0 then s.applyPart (data.getD []) else s).set (Fld.SYS_TILE_STATUS_RESULT t) n
      if s.is (Fld.SYS_TILE_STATUS_REISSUE_PENDING t) then s1.sets [(Fld.SYS_TILE_STATUS_REISSUE_PENDING t, 0), (Lat.RI_AT t, s.get (Lat.RI_NEXT t))]
      else if s.is (Fld.SYS_TILE_CTRL_EN t) then s1.tileRunning t else s1.tileOff t
    else s

end Sys2Proof.Machine
end

