-- ==== Sys2Proof/Machine/Boot.lean ====
section
/-!
DEFINITION. Boot: sources, stages, records, the fail count, reading-room mode (R395 to R403) and the loader (R402).
-/
namespace Sys2Proof.Machine

/-- Write every field of a register's dword from a word. -/
def State.putWord (s : State) (r : RName) (i j v : Nat) : State :=
  s.each (layout r j) (fun f a => a.set ⟨r, i, j, f.lo, f.w⟩ (bitsOf v f.lo f.w))

/-! ### Boot records and the fail count (R400, R403) -/

/-- The stage of the attempt in progress, 0 when there is none. -/
def State.stage (s : State) : Nat := if s.get Fld.AON_PWR_STATUS_STATE = 4 then s.get Fld.AON_BOOT_STATUS_STAGE else 0

/-- The keys of boot record `i`. -/
def recordKeys (i : Nat) : List Key := (List.range 4).flatMap (fun j => keysOf .AON_BREC i j)

/-- Shift the boot records down one place (R403). -/
def State.shiftRecords (s : State) : State :=
  s.each [7, 6, 5, 4, 3, 2, 1] (fun i a => a.sets ((recordKeys i).zip ((recordKeys (i - 1)).map (fun k => s.get k))))

/-- A new boot record with an outcome, a cause and a stage (R403). -/
def State.newRecord (s : State) (outcome cause stage us : Nat) : State :=
  s.shiftRecords.sets [(Fld.AON_BREC_VALID 0, 1), (Fld.AON_BREC_CAUSE 0, cause), (Fld.AON_BREC_STAGE 0, stage), (Fld.AON_BREC_SRC 0, s.get Fld.AON_BOOT_STATUS_SRC),
    (Fld.AON_BREC_OUTCOME 0, outcome), (Fld.AON_BREC_COUNT 0, s.get Fld.SEC_BOOT_CNT), (Fld.AON_BREC_MICROS 0, us), (Fld.AON_BREC_FAILS 0, s.get Fld.AON_BOOT_FAILS)]

/-- The record of the attempt in progress is completed (R400). -/
def State.endRecord (s : State) (outcome cause stage us : Nat) : State :=
  s.sets [(Fld.AON_BREC_OUTCOME 0, outcome), (Fld.AON_BREC_CAUSE 0, cause), (Fld.AON_BREC_STAGE 0, stage), (Fld.AON_BREC_MICROS 0, us),
    (Fld.AON_BREC_FAILS 0, s.get Fld.AON_BOOT_FAILS)]

/-- A reset between boot attempts: only SYS_RESET and AON power-on end the error state of the boundary, so it is carried over
(R400, R424). -/
def State.resetBoot (s : State) : State :=
  s.resetMain.sets [(Fld.SEC_STATUS_ERROR, s.get Fld.SEC_STATUS_ERROR), (Fld.SEC_ALARM_CODE, s.get Fld.SEC_ALARM_CODE)]

/-- Reading-room mode: everything outside AON is reset and every channel and port parks (R401). -/
def State.readingRoom (s : State) : State :=
  (s.resetBoot.sets [(Lat.BOOT_DUE, 0), (Fld.AON_PWR_STATUS_STATE, 5), (Fld.AON_BOOT_STATUS_READING_ROOM, 1), (Fld.AON_EVT_READING_ROOM, 1)]).parkAll pkReading true

/-- The attempt fails in its stage (R400): the record is completed; with the count at 3 the device enters reading-room mode, else
it resets and tries again after 10 ms. -/
def State.bootFail (s : State) (cause us : Nat) : State :=
  let k := s.stage
  let s1 := (if k = 1 then s.newRecord 1 cause k us else s.endRecord 1 cause k us)
  if s.get Fld.AON_BOOT_FAILS = 3 then s1.readingRoom else s1.resetBoot.sets [(Lat.BOOT_DUE, 0), (Lat.BOOT_RETRY, 1)]

/-- A monotonic cell rises to a value (R415): one write, none when it is already there or the cell has used its rated 2^24
writes, which sets WORN. -/
def State.cellRise (s : State) (i : Nat) (key : Key) (v : Nat) : State :=
  if v ≤ s.get key then s
  else if 2 ^ 24 ≤ s.get (Lat.NV_WRITES i) then s.flag Fld.SEC_STATUS_WORN
  else
    let s1 := (s.set key v).bump (Lat.NV_WRITES i)
    s1.when (decide (2 ^ 24 ≤ s1.get (Lat.NV_WRITES i))) (fun a => a.flag Fld.SEC_STATUS_WORN)

/-- Erase the OWNER key (R410). -/
def State.eraseOwner (s : State) : State := ({ s with ownerKey := [] }).resetKeys (fun k => k.r == RName.SEC_OKEY_DIG)

/-! ### Stages (R399) -/

/-- Stage 2 begins (R400, R415 to R417, R419, R425): the fuses give the life-cycle state; a BLANK or RETIRED device enters
reading-room mode without counting; so does one whose count is 3. Else the attempt counts. -/
def State.stage2 (s : State) (us : Nat) : State :=
  let s1 := s.set Fld.SEC_STATUS_LC (max (s.get Lat.LC_FUSED) s.lc)
  if s1.lc = 0 then (s1.newRecord 3 0x11 2 us).readingRoom
  else if s1.lc = 5 then (s1.newRecord 3 0x12 2 us).readingRoom
  else if s1.get Fld.AON_BOOT_FAILS = 3 then s1.readingRoom
  else
    let s2 := (s1.bump Fld.AON_BOOT_FAILS).cellRise 0 Fld.SEC_BOOT_CNT (s1.get Fld.SEC_BOOT_CNT + 1)
    let s3 := s2.when (s1.lc == 4 || s1.is Fld.SEC_STATUS_ZEROIZED) (fun a => a.eraseOwner)
    let s4 := if s1.is Fld.SEC_STATUS_ZEROIZED then { s3 with idKey := [] } else s3
    (s4.set Fld.SEC_STATUS_DEBUG_OPEN (if s1.lc = 1 then 1 else 0)).newRecord 2 1 2 us

/-- The boot source is the PCIe host: BOOT_SRC 1, or 3 which acts as 1 (R395). -/
def State.hostSource (s : State) : Bool := s.get Fld.AON_BOOT_STATUS_SRC % 2 == 1

/-- The wait for an item from the host begins, when the host is the source (R397). -/
def State.waitHost (s : State) (item : Nat) : State :=
  if s.hostSource then s.sets [(Fld.AON_BOOT_STATUS_WAIT_HOST, 1), (Fld.AON_BOOT_STATUS_WAIT_FOR, item), (Fld.AON_EVT_WAIT_HOST, 1)] else s

/-- A boot parameter block is valid: CRC, reserved fields (R396). -/
def blockValid (b : List (BitVec 8)) : Bool :=
  crc32 (b.take 60) == dwordAt b 60 && decide (dwordAt b 12 < 4) && (slice b 48 12).all (· == 0)

/-- Take a valid block (R396). -/
def State.takeBlock (s : State) (b : List (BitVec 8)) : State :=
  (s.sets [(Lat.BPB_OK, 1), (Lat.BPB_REF, dwordAt b 4), (Lat.BPB_PLL, dwordAt b 8), (Lat.BPB_MODE, dwordAt b 12)]).each [1, 2, 3, 4] (fun i a =>
    a.sets [(Lat.PAY_ADDR i, dwordAt b (8 + 8 * i)), (Lat.PAY_LEN i, dwordAt b (12 + 8 * i))])

/-- Stage 3 ends with the block that the source gave (R395 to R397): the host's values, the flash block, or the reset values where
there is none. `none` is BPB_BAD. -/
def State.stage3 (s : State) (b : List (BitVec 8)) : Option State :=
  if s.hostSource then some (s.sets [(Lat.BPB_OK, 1), (Lat.BPB_REF, s.get Fld.AON_BPB_REF), (Lat.BPB_PLL, s.get Fld.AON_BPB_PLL)])
  else if b.length < 64 ∨ dwordAt b 0 ≠ 0x42504231 then some s
  else if blockValid b then some (s.takeBlock b)
  else if s.get Fld.AON_BOOT_STATUS_SRC = 2 then some s
  else none

/-- Stage 6 begins: the block's values are loaded, and the PLL is enabled (R396, R399). -/
def State.stage6 (s : State) : State :=
  ((s.when (s.is Lat.BPB_OK) (fun a => (a.putWord .REF_CFG 0 0 (s.get Lat.BPB_REF)).putWord .PLL_CFG 0 0 (s.get Lat.BPB_PLL))).flag Fld.PLL_CTRL_EN).tbStart

/-- A firmware container verifies (R411 to R413): 0, or the boot cause. -/
def State.firmwareCheck (s : State) (fw : List (BitVec 8)) : Nat :=
  let len := dwordAt fw 8
  let key := slice fw 64 1793
  if !(dwordAt fw 0 == 0x5A465731 && dwordAt fw 4 == 1 && len % 8 == 0 && decide (1864 + 1288 ≤ len) && decide (len ≤ fw.length) &&
      (slice fw 16 48).all (· == 0) && (slice fw 1857 7).all (· == 0) && digestOf key == s.getDwords Fld.SEC_VKEY_DIG 0 16 &&
      sigBlockOk key "TRXFW001" (fw.take (len - 1288)) (slice fw (len - 1288) 1288)) then 0x70
  else if dwordAt fw 12 < s.get Fld.SEC_FW_FLOOR then 0x71
  else 0

/-- Verified firmware is loaded and the control cores start: tiles with EN = 1 power up (R392, R399, R413). -/
def State.takeFirmware (s : State) (fw : List (BitVec 8)) : State :=
  let s1 := { s with vendorKey := slice fw 64 1793 }
  (s1.sets [(Lat.FW_CNT, dwordAt fw 12), (Lat.M_FW, digestOf (fw.take (dwordAt fw 8 - 1288)))]).each
    ((List.range 8).filter (fun t => s.is (Fld.SYS_TILE_CTRL_EN t))) (fun t a => a.tileStart t)

/-- Stage 10: the factory record, then the override of the boot source, where the life-cycle state takes one (R370, R381,
R414, R415). -/
def State.stage10 (s : State) (fac : Option CalRecord) (ovr : Option OvrRecord) : State :=
  let s1 := (s.loadFactory fac).set Fld.CAL_OVR_CNT (s.get Fld.SEC_OVR_FLOOR)
  match ovr with
  | none => s1
  | some rec => if s1.overridesTaken then s1.overrideLoaded rec else s1.calRefuse 1

/-- BOOT_ATTEMPT_START: an attempt that is due begins at stage 1, where the BOOT_SRC balls are sampled (R395, R399). -/
def execBootAttemptStart (src : Fin 4) (s : State) : Res :=
  .next <|
    if s.is Lat.BOOT_DUE && !s.is Lat.PWR_OFF && s.get Fld.AON_PWR_STATUS_STATE == 4 then
      s.sets [(Lat.BOOT_DUE, 0), (Fld.AON_BOOT_STATUS_STAGE, 1), (Fld.AON_BOOT_STATUS_SRC, src), (Lat.BPB_OK, 0)]
    else s

/-- The next stage begins, `us` microseconds into the attempt, in a state where stage `k` has done its work. -/
def State.nextStage (s : State) (k us : Nat) : State :=
  let s1 := s.sets [(Fld.AON_BSTAGE_T k, us), (Fld.AON_BOOT_STATUS_STAGE, k + 1)]
  match k with
  | 1 => s1.stage2 us
  | 2 => s1.waitHost 0
  | 5 => let s2 := s1.stage6
         if s2.get Fld.PLL_STATUS_ERR ≠ 0 then s2.bootFail 0x51 us else s2
  | 7 => s1.waitHost 1
  | 8 => s1.waitHost 2
  | 9 => s1.waitHost 3
  | _ => s1

/-- BOOT_STAGE_DONE: the stage in progress completes at `us`. `data` is what the source delivered: the block at stage 3, the
firmware at stage 8, the image at stage 9; in a boot over L0 the payload is what L0 carried. `fac` and `ovr` are the records of
stage 10. A stage whose check fails fails the attempt; in the error state of the boundary every stage does (R399, R424). -/
def execBootStageDone (us : Nat) (data : List (BitVec 8)) (fac : Option CalRecord) (ovr : Option OvrRecord) (s : State) : Res :=
  let k := s.stage
  let bytes := if s.get Fld.AON_BOOT_STATUS_SRC = 2 ∧ k ≠ 3 then s.bootRx else data
  let s0 := { s with bootRx := [] }
  .next <|
    if s.is Fld.AON_BOOT_STATUS_WAIT_HOST then s
    else if 1 ≤ k ∧ s.is Fld.SEC_STATUS_ERROR then s.bootFail 0xF1 us
    else match k with
      | 1 => s.nextStage 1 us
      | 2 => s.nextStage 2 us
      | 3 =>
        match s.stage3 data with
        | none => s.bootFail 0x21 us
        | some a => a.nextStage 3 us
      | 4 => s.nextStage 4 us
      | 5 => ({ s with sp := [] }).nextStage 5 us
      | 6 => if s.locked then s.nextStage 6 us else s
      | 7 => (({ s with mem := [], badBursts := [] }).when (s.lc == 4) (fun a => a.flag Fld.SEC_STATUS_DEBUG_OPEN)).nextStage 7 us
      | 8 => let c := s.firmwareCheck bytes
             if c ≠ 0 then s.bootFail c us else (s0.takeFirmware bytes).nextStage 8 us
      | 9 =>
        if bytes.isEmpty then s0.noImage.nextStage 9 us
        else
          let n := s.imageCheck (some bytes)
          if n ≠ 0 then s.bootFail (0x80 + n) us else (s0.applyImage bytes).nextStage 9 us
      | 10 => (s0.stage10 fac ovr).nextStage 10 us
      | _ => s

/-- The host has supplied the item the boot waits for, or it is absent (R397). The override is awaited after the record. -/
def State.itemGiven (s : State) (addr len : Nat) : State :=
  let i := s.get Fld.AON_BOOT_STATUS_WAIT_FOR
  let s1 := (s.clr Fld.AON_BOOT_STATUS_WAIT_HOST).when (i != 0) (fun a => a.sets [(Lat.PAY_ADDR i, addr), (Lat.PAY_LEN i, len)])
  if i = 3 then s1.waitHost 4 else s1

/-- GO: AON_BOOT_CMD.GO supplies the item awaited: the block in AON_BPB_*, any other at AON_BOOT_PAY (R397). -/
def execBootGo (pf : Fin 4) (s : State) : Res :=
  .next (s.asPrivAon pf (fun a =>
    if a.is Fld.AON_BOOT_STATUS_WAIT_HOST then a.itemGiven (a.get2 Fld.AON_BOOT_PAY_ADDR_LO Fld.AON_BOOT_PAY_ADDR_HI) (a.get Fld.AON_BOOT_PAY_LEN) else a))

/-- HOST_TIMEOUT: the wait for the host ends after HOST_TMO × 10 ms and fails the stage (R397). Stage 10 has no failure
(R399): there the item counts as absent. -/
def execHostTimeout (us : Nat) (s : State) : Res :=
  .next <|
    if s.is Fld.AON_BOOT_STATUS_WAIT_HOST then (if s.stage = 10 then s.itemGiven 0 0 else s.bootFail 0x23 us) else s

/-- The failure causes of a stage beside those its own checks find (R399, R403). STAGE_TIMEOUT holds for every stage. -/
def stageCauses (k : Nat) : List Nat :=
  (match k with
    | 2 => [0x10, 0x11]
    | 3 => [0x20, 0x22, 0x24]
    | 4 => [0x30, 0x31]
    | 5 => [0x40]
    | 6 => [0x50, 0x52]
    | 7 => [0x60, 0x61]
    | 8 => [0x22]
    | 9 => [0x22, 0x88]
    | _ => []) ++ [0xF0]

/-- BOOT_STAGE_FAIL: the stage in progress fails with a cause that the table gives it, or exceeds its maximum (R399, R400). -/
def execBootStageFail (cause : Fin 256) (us : Nat) (s : State) : Res :=
  .next (if 1 ≤ s.stage ∧ (stageCauses s.stage).contains (cause : Nat) then s.bootFail cause us else s)

/-- BOOT_RETRY_DELAY: 10 ms after a failed attempt the next one is due at stage 1 (R400). -/
def execBootRetryDelay (s : State) : Res := .next (if s.is Lat.BOOT_RETRY then s.sets [(Lat.BOOT_RETRY, 0), (Lat.BOOT_DUE, 1)] else s)

/-- READY: stage 11 ends (R398 to R400, R405): the count is 0, the record is OK, BOOT park reasons clear where R235 lets them, and
L0 starts under its image role after a boot over it. -/
def execBootReady (us : Nat) (s : State) : Res :=
  .next <|
    if s.stage = 11 then
      let s1 := (s.sets [(Fld.AON_BSTAGE_T 11, us), (Fld.AON_BOOT_FAILS, 0)]).endRecord 0 0 11 us
      (((s1.sets [(Lat.BOOT_READY, 1), (Fld.AON_EVT_READY, 1)]).set Fld.AON_PWR_STATUS_STATE (if s.running then 0 else 1)).bootClear).when
        (s.get Fld.AON_BOOT_STATUS_SRC == 2) (fun a => a.linkStart 0)
    else s

/-- RETRY: AON_BOOT_CMD.RETRY in reading-room mode sets the count to 2 and starts one attempt; elsewhere it is ignored (R401). -/
def execBootRetry (pf : Fin 4) (s : State) : Res :=
  .next (s.asPrivAon pf (fun a => if a.get Fld.AON_PWR_STATUS_STATE = 5 then (a.set Fld.AON_BOOT_FAILS 2).resetBoot else a))

/-! ### Loader (R402, R403) -/

/-- A loader command `c`: refused on a RETIRED device, without a flash, and for WRITE while a reel is not IDLE outside
reading-room mode; else in progress with the result it will report. A command while one is in progress has no effect. -/
def State.loaderStart (s : State) (c res : Nat) (flash : Bool) (f : State → State) : State :=
  let s1 := s.set Fld.AON_LDR_CMD c
  if s.is Fld.AON_LDR_STATUS_BUSY then s
  else if s.lc = 5 then s1.set Fld.AON_LDR_STATUS_RESULT 4
  else if !flash || s.get Fld.AON_BOOT_STATUS_SRC != 0 then s1.set Fld.AON_LDR_STATUS_RESULT 2
  else if c = 1 ∧ s.get Fld.AON_PWR_STATUS_STATE ≠ 5 ∧ !s.allIdle then s1.set Fld.AON_LDR_STATUS_RESULT 1
  else f (s1.sets [(Fld.AON_LDR_STATUS_BUSY, 1), (Fld.AON_LDR_STATUS_RESULT, 0), (Lat.LDR_RES, res)])

/-- LOADER_WRITE: copy AON_LDR_LEN bytes of host memory, `data`, to flash at AON_LDR_OFS (R402). `flash` says that one is present. -/
def execLoaderWrite (pf : Fin 4) (flash : Bool) (data : List (BitVec 8)) (s : State) : Res :=
  .next (s.asPrivAon pf (fun a => a.loaderStart 1 0 flash (fun b => b.emit (.flashWrite (b.get Fld.AON_LDR_OFS) (data.take (b.get Fld.AON_LDR_LEN))))))

/-- LOADER_VERIFY: read back and compare the same range; `same` says what the comparison finds (R402). -/
def execLoaderVerify (pf : Fin 4) (flash same : Bool) (s : State) : Res :=
  .next (s.asPrivAon pf (fun a => a.loaderStart 2 (if same then 0 else 3) flash (fun b => b)))

/-- LOADER_READ: copy the flash range, which holds `data`, to host memory (R402). -/
def execLoaderRead (pf : Fin 4) (flash : Bool) (data : List (BitVec 8)) (s : State) : Res :=
  .next (s.asPrivAon pf (fun a => a.loaderStart 3 0 flash (fun b =>
    b.emit (.hostWrite (b.get2 Fld.AON_LDR_ADDR_LO Fld.AON_LDR_ADDR_HI) ((data.take (b.get Fld.AON_LDR_LEN)).map (fun x => x.toNat))))))

/-- LOADER_DONE: a loader command completes (R402). -/
def execLoaderDone (s : State) : Res :=
  .next (if s.is Fld.AON_LDR_STATUS_BUSY then s.sets [(Fld.AON_LDR_STATUS_BUSY, 0), (Fld.AON_LDR_STATUS_RESULT, s.get Lat.LDR_RES), (Fld.AON_EVT_LDR_DONE, 1)] else s)

end Sys2Proof.Machine
end

