-- ==== Sys2Proof/Machine/ReelCmds.lean ====
section
/-!
DEFINITION. Reel commands, starts, cue boundaries, wait ends, stops and faults (R123 to R165).
-/
namespace Sys2Proof.Machine

/-! ### Arming (R136, R160, R161, R219) -/

/-- A table of `n` words at `base` does not lie wholly in scratchpad banks 18 to 30 (R219). -/
def tableBad (base n : Nat) : Bool := base < 147456 || 253952 < base + n

/-- The record fails a check of R136 or R219. -/
def State.recordBad (s : State) (r : Nat) : Bool :=
  let v := s.voice r
  let reserved := (List.range 64).any (fun j => (layout .REEL j).any (fun f => f.acc == .RSV && s.get ⟨.REEL, r, j, f.lo, f.w⟩ != 0))
  let kind := s.is (Fld.REEL_START_KIND r)
  let nl := s.get (Fld.REEL_NLOG2 r)
  let ll := s.get (Fld.REEL_LLOG2 r)
  let ku := s.get (Fld.REEL_KURT r)
  decide (6 ≤ v) || reserved || (s.dests r).any (fun d => !s.inScope r d || voiceDestBad v d)
    || (kind && s.is (Fld.REEL_STOP_EN r) && s.get (Fld.REEL_STOP_EVC r) == s.get (Fld.REEL_START_EVC r))
    || (!kind && s.get2 (Fld.REEL_START_TICK_LO r) (Fld.REEL_START_TICK_HI r) % 2 ^ s.get (Fld.REEL_BOOKED r) != 0)
    || (v == 3 && (!(decide (10 ≤ nl ∧ nl ≤ 16)) || !(decide (4 ≤ ll ∧ ll ≤ 12 ∧ ll ≤ nl - 1)) || !(decide (ku = 0 ∨ 0x300 ≤ ku ∧ ku ≤ 0x700))
        || decide (23 < s.get (Fld.REEL_GEN_CLASS r)) || tableBad (s.get (Fld.REEL_PSD_BASE0 r)) (2 ^ ll / 8) || tableBad (s.get (Fld.REEL_PSD_BASE1 r)) (2 ^ ll / 8)))
    || (v == 5 && decide (6 < s.get (Fld.REEL_PMODE r)))
    || (v == 5 && s.get (Fld.REEL_PMODE r) == 5 && tableBad (s.get (Fld.REEL_PW_BASE r)) ((max 1 (s.get (Fld.REEL_PW_CNT r)) + 7) / 8))
    || (s.get (Fld.REEL_SWP_CNT r) != 0 && tableBad (s.get (Fld.REEL_SWP_BASE r)) (s.get (Fld.REEL_SWP_CNT r)))
    || (v == 4 && tableBad (s.get (Fld.REEL_RTAB_BASE r)) (2 * max 1 (s.get (Fld.REEL_RCNT r))))

/-- The time base is running for ARM: LOCKED, COAST, REACQUIRE or REANCHOR (R160). -/
def State.timeRunning (s : State) : Bool := 3 ≤ s.get Fld.TB_STATUS_STATE && s.get Fld.TB_STATUS_STATE ≤ 6

/-- RESULT of an ARM of an IDLE reel: 0 OK, 2 NOT_BOOKED, 6 BAD_RECORD, 7 NO_TIME, 3 CMD_LATE (R160, R161). -/
def State.armCheck (s : State) (r : Nat) : Nat :=
  if s.get (Fld.REEL_BOOKED r) = 31 then 2
  else if s.recordBad r then 6
  else if !s.timeRunning then 7
  else if !s.is (Fld.REEL_START_KIND r) && decide (s.get2 (Fld.REEL_START_TICK_LO r) (Fld.REEL_START_TICK_HI r) < s.now + 512) then 3
  else 0

/-- The first row of R124: the reel enters ARMED; SAT_CNT and the stop tick of an earlier run are cleared (R163, R215). -/
def State.arm (s : State) (r : Nat) : State :=
  ((s.clr (Fld.REEL_SAT_CNT r)).set2 (Fld.REEL_STOP_TICK_LO r) (Fld.REEL_STOP_TICK_HI r) (2 ^ 64 - 1)).enterArmed r s.now

/-- An ARM of reel `r` by a command or a task: its result and the state (R160, R164, R165). -/
def State.armRequest (s : State) (r : Nat) : Nat × State :=
  match s.reelState r with
  | 0 => if s.armCheck r = 0 then (0, s.arm r) else (s.armCheck r, s)
  | 5 => (4, (s.flag (Fld.REEL_RESTART_PENDING r)).flag (Fld.TL_REEL_EVT_RESTART_QUEUED (tileOfReel r)))
  | _ => (1, s)

/-- A reel command of tile `t` has ended with RESULT `res` (R160). -/
def State.reelDone (s : State) (t res : Nat) : State :=
  s.sets [(Fld.TL_REEL_CMD_BUSY t, 0), (Fld.TL_REEL_CMD_RESULT t, res), (Fld.TL_REEL_EVT_CMD_DONE t, 1)]

/-- The reel that TL_REEL_IDX names. -/
def State.cmdReel (s : State) (t : Nat) : Nat := 128 * t + s.get (Fld.TL_REEL_IDX_REEL t)

/-- Give one reel command of tile `t`; a write that sets another command bit too is refused with MULTI (R160). -/
def State.reelCommand (s : State) (t : Nat) (others : Bool) (f : State → Nat × State) : State :=
  if others then s.reelDone t 5 else let (res, a) := f s; a.reelDone t res

/-- ARM: TL_REEL_CMD.ARM in tile `t`. -/
def execReelArm (t : Fin 8) (others : Bool) (s : State) : Res :=
  .next (s.onHost fun s => (s.reelCommand t others (fun a => a.armRequest (a.cmdReel t))))

/-- DISARM: an ARMED reel returns to IDLE with its loans returned; in STOPPING a pending restart is cancelled (R160). -/
def execReelDisarm (t : Fin 8) (others : Bool) (s : State) : Res :=
  .next (s.onHost fun s => (s.reelCommand t others (fun a =>
    let r := a.cmdReel t
    match a.reelState r with
    | 1 => (0, ((a.quitRun r a.now).enterState r 0).dropWindow r)
    | 5 => (0, a.clr (Fld.REEL_RESTART_PENDING r))
    | _ => (1, a))))

/-- STOP_AT: a stop request at the tick in ARG, at least 512 ticks ahead (R160, R163). -/
def execReelStopAt (t : Fin 8) (others : Bool) (s : State) : Res :=
  .next (s.onHost fun s => (s.reelCommand t others (fun a =>
    let r := a.cmdReel t
    let arg := a.get2 (Fld.TL_REEL_ARG_LO t) (Fld.TL_REEL_ARG_HI t)
    if !a.stoppable r then (1, a) else if arg < a.now + 512 then (3, a) else (0, a.requestStop r arg))))

/-- CLEAR: a FAULTED reel returns to IDLE; FAULT and STOP_CODE are cleared (R124, R160). -/
def execReelClear (t : Fin 8) (others : Bool) (s : State) : Res :=
  .next (s.onHost fun s => (s.reelCommand t others (fun a =>
    let r := a.cmdReel t
    if a.reelState r = 6 then (0, (a.enterState r 0).sets [(Fld.REEL_FAULT r, 0), (Fld.REEL_STOP_CODE r, 0)]) else (1, a))))

/-- The reels of tile `t` in arm group `g`. -/
def State.groupReels (s : State) (t g : Nat) : List Nat :=
  ((List.range 128).map (fun l => 128 * t + l)).filter (fun r => s.get (Fld.REEL_ARM_GRP r) == g)

/-- ARM_GROUP: arm-group task of group `g` of tile `t` (R164), task 7t + g - 1 (R315). -/
def execArmGroup (t : Fin 8) (g : Fin 8) (s : State) : Res :=
  .next (if g = 0 then s else s.onTask (7 * t + g - 1) false (fun _ a =>
    a.each (a.groupReels t g) (fun r b =>
      let (res, c) := b.armRequest r
      if res = 0 ∨ res = 4 then c else c.flag (Fld.TL_REEL_EVT_CMD_REFUSED t))))

/-- STOP_GROUP: stop-group task of group `g` of tile `t`, task 56 + 7t + g - 1: a stop request at S + D_cut for every reel of the group (R163,
R164). Only reels that were not IDLE or FAULTED are stopped. -/
def execStopGroup (t : Fin 8) (g : Fin 8) (s : State) : Res :=
  .next (if g = 0 then s else s.onTask (56 + 7 * t + g - 1) true (fun tr a =>
    a.each (a.groupReels t g) (fun r b => b.requestStop r (tr.s.getD 0 + dCut))))

/-! ### Starts and boundaries -/

/-- A fault of reel `r` is due at or before tick `t`. -/
def State.faultBy (s : State) (r t : Nat) : Bool :=
  match (s.eng r).fault with
  | some (_, f) => decide (f ≤ t)
  | none => false

/-- A stop or a fault of reel `r` is due at or before tick `t`: it takes precedence (R125). -/
def State.displaced (s : State) (r t : Nat) : Bool :=
  decide (s.get2 (Fld.REEL_STOP_TICK_LO r) (Fld.REEL_STOP_TICK_HI r) ≤ t) || s.faultBy r t

/-- The start tick of ARMED reel `r` that has come (R162). -/
def State.startTick (s : State) (r : Nat) : Option Nat :=
  if s.is (Fld.REEL_START_KIND r) then (s.firstEvent (s.get (Fld.REEL_START_EVC r)) (s.eng r).armedAt s.now).map (fun v => v.e)
  else
    let t := s.get2 (Fld.REEL_START_TICK_LO r) (Fld.REEL_START_TICK_HI r)
    if t ≤ s.now then some t else none

/-- REEL_START: an ARMED reel starts at its start tick, which is B of its first chain (R124, R126, R162). -/
def execReelStart (r : Fin 1024) (s : State) : Res :=
  .next <|
    if s.reelState r ≠ 1 then s
    else match s.startTick r with
      | none => s
      | some t => if s.displaced r t then s else s.runChain r t (s.get (Fld.REEL_SP r)) (s.eng r).window

/-- A loop entry on top of the stack belongs to the current call depth; its height (R172). -/
def State.cutLoop (s : State) (r : Nat) : Option Nat :=
  let k := s.stacks r
  match k.loops with
  | [] => none
  | e :: _ => if e.depth = k.calls.length then some k.loops.length else none

/-- Fix what decides the committed cut of reel `r` from its state at E (R172 to R174). -/
def State.resolveCut (s : State) (r : Nat) : State :=
  let e := s.eng r
  match e.commit with
  | none => s
  | some c =>
    if c.kind ≠ 0 then s
    else
      let last := fun t => t - 2 ^ s.rate r
      let seg := if c.e ≤ last e.endB then { c with kind := 1, x := e.endB } else { c with kind := 2 }
      let passEnd := e.passStart + ((c.e + 2 ^ s.rate r - e.passStart + e.passLen - 1) / max 1 e.passLen) * e.passLen
      let c' : Commit :=
        if c.mode = 0 then { c with kind := 1, x := c.e }
        else match c.mode, s.cutLoop r with
          | 2, some h => { c with kind := 3, loop := h }
          | m, _ =>
            if s.reelState r = 3 ∨ !e.run then { c with kind := 1, x := c.e }
            else if m = 3 then
              let p := max passEnd (e.passStart + e.passLen)
              if p ≤ e.endB then { c with kind := 1, x := p } else { c with kind := 4 }
            else seg
      s.onEng r (fun e => { e with commit := some c' })

/-- The chain from cue `q` executes the NEXT of the loop entry at height `h` (R172). -/
def State.chainNexts (s : State) (r h : Nat) : Nat → List WinCue → Nat → Stacks → Bool
  | 0, _, _, _ => false
  | fuel + 1, words, q, k =>
    let c := match words with
      | [] => s.readCue r q 0
      | w :: _ => if w.q = q then w else s.readCue r q 0
    if cueKind (cueOp c.w) ≠ 3 ∨ c.fault ≠ 0 then false
    else if cueOp c.w = 0x09 ∧ k.loops.length = h then true
    else match advance q c.w k with
      | .to q' k' => s.chainNexts r h fuel (words.drop 1) q' k'
      | _ => false

/-- A committed END_OF_LOOP cut falls at boundary `b`, whose last sample fell at tick `last` (R172). -/
def State.loopCutHere (s : State) (r b last q : Nat) (words : List WinCue) : State :=
  match (s.eng r).commit with
  | some c => if c.kind = 3 ∧ c.e ≤ last ∧ s.chainNexts r c.loop 17 words q (s.stacks r) then
      s.onEng r (fun e => { e with commit := some { c with kind := 5, x := b } }) else s
  | none => s

/-- The committed cut of reel `r` falls at or before tick `t` (R171, R176). -/
def State.cutBy (s : State) (r t : Nat) : Bool :=
  match (s.eng r).commit with
  | some c => (c.kind == 1 || c.kind == 5) && c.x ≤ t
  | none => false

/-- The state at E of the committed cut decides before boundary `b` (R170). -/
def State.resolveBefore (s : State) (r b : Nat) : State :=
  match (s.eng r).commit with
  | some c => if c.e < b ∨ (c.mode = 0 ∧ c.e ≤ b) then s.resolveCut r else s
  | none => s

/-- The end of one pass of a PLAYN at tick `p`: the next pass begins (R105, R142, R186). -/
def State.passEnd (s : State) (r p : Nat) : State :=
  let left := s.get (Fld.REEL_PASS r) - 1
  ((((s.streamPassEnd r).set (Fld.REEL_PASS r) left).onEng r (fun e => { e with passStart := p })).streamPass r).cardSlate r (cueN (s.curCue r).w - left) p

/-- CUE_BOUNDARY: a pass of the producing cue of reel `r` ends, or the cue ends at B and the next chain executes, unless a
fault, a stop or a cut takes that tick (R124, R125, R139, R176). -/
def execCueBoundary (r : Fin 1024) (s : State) : Res :=
  let e := s.eng r
  let st := s.reelState r
  let p := e.passStart + e.passLen
  .next <|
    if ¬((st = 2 ∨ st = 4) ∧ e.run ∧ e.started) then s
    else if p < e.endB ∧ p ≤ s.now then
      let s1 := s.resolveBefore r p
      if s1.displaced r p || s1.cutBy r p then s1 else s1.passEnd r p
    else if e.endB ≤ s.now then
      let b := e.endB
      let s1 := s.resolveBefore r b
      match advance (s.curCue r).q (s.curCue r).w (s.stacks r) with
      | .to q _ =>
        let words := e.window.drop 1
        let s2 := s1.loopCutHere r b (b - 2 ^ s.rate r) q words
        if s2.displaced r b || s2.cutBy r b then s2
        else ((s2.streamPassEnd r).leaveCue r b).runChain r b q words
      | _ => s1
    else s

/-! ### Wait ends -/

/-- The end tick of the wait of reel `r` that has come: an event, or the tick named (R146 to R148). -/
def State.waitDone (s : State) (r : Nat) : Option Nat :=
  let e := s.eng r
  let w := (s.curCue r).w
  if cueOp w = 0x10 then
    match s.firstEvent (bitsOf (cueDw w 1) 0 7) e.waitB s.now with
    | some v => if cueDw w 2 = 0 ∨ v.e ≤ e.waitB + cueDw w 2 then some v.e else none
    | none => none
  else
    let t := s.get2 (Fld.REEL_WAIT_END_LO r) (Fld.REEL_WAIT_END_HI r)
    if t ≤ s.now then some t else none

/-- Continue reel `r` at boundary `b` after a wait, from cue `q`. -/
def State.afterWait (s : State) (r b q : Nat) (words : List WinCue) : State :=
  let s1 := s.resolveBefore r (b + 1)
  let s2 := s1.loopCutHere r b ((s.eng r).endB - 2 ^ s.rate r) q words
  if s2.displaced r b || s2.cutBy r b then s2 else (s2.keepLast r b).runChain r b q words

/-- WAIT_END: the wait of reel `r` ends on its condition (R124, R139, R146 to R148). -/
def execWaitEnd (r : Fin 1024) (s : State) : Res :=
  .next <|
    if s.reelState r ≠ 3 then s
    else match s.waitDone r with
      | none => s
      | some t => s.afterWait r t ((s.curCue r).q + 1) ((s.eng r).window.drop 1)

/-- WAIT_TIMEOUT: no event has counted by B + TMO: the wait ends there and execution continues at TMO_TARGET (R146). -/
def execWaitTimeout (r : Fin 1024) (s : State) : Res :=
  let w := (s.curCue r).w
  let e := s.eng r
  let t := e.waitB + cueDw w 2
  let q := bitsOf (cueDw w 1) 16 16
  .next <|
    if s.reelState r = 3 ∧ cueOp w = 0x10 ∧ cueDw w 2 ≠ 0 ∧ t ≤ s.now ∧ (s.firstEvent (bitsOf (cueDw w 1) 0 7) e.waitB t).isNone then
      s.afterWait r t q (((e.targets.find? (fun p => p.1 == q)).map (fun p => p.2)).getD [])
    else s

/-! ### Stops and faults -/

/-- STOP_TAKE_EFFECT: the pending stop request of reel `r` takes effect at its tick (R124, R163). -/
def execStopTakeEffect (r : Fin 1024) (s : State) : Res :=
  let t := s.get2 (Fld.REEL_STOP_TICK_LO r) (Fld.REEL_STOP_TICK_HI r)
  .next <|
    if s.stoppable r && decide (t ≤ s.now) && !s.faultBy r t then s.enterStopping r t
    else s

/-- REEL_STOP_DONE: 4 words after STOPPING was entered the loans return and the reel is IDLE; a pending arm is applied with
its checks (R124, R165). -/
def execReelStopDone (r : Fin 1024) (s : State) : Res :=
  .next <|
    if s.reelState r = 5 ∧ (s.eng r).stopAt / 8 + 4 ≤ s.now / 8 then
      let s1 := ((s.dropWindow r).enterState r 0).clr (Fld.REEL_RESTART_PENDING r)
      if s.is (Fld.REEL_RESTART_PENDING r) then
        if s1.armCheck r = 0 then s1.arm r else s1.flag (Fld.TL_REEL_EVT_CMD_REFUSED (tileOfReel r))
      else s1
    else s

/-- REEL_FAULT: the fault on its way to reel `r` takes effect at its tick (R158, R159). With `recordEcc` the engine meets an
uncorrectable error on a read of the reel's record: it is counted and raised at the tile, and faults the reel at the next
word boundary (R118, R158). -/
def execReelFault (r : Fin 1024) (recordEcc : Bool) (s : State) : Res :=
  let t := tileOfReel r
  .next <|
    if recordEcc then
      let s1 := ((s.bump (Fld.TL_SP_ECC_UNCORR t)).flag (Fld.TL_SP_EVT_ECC_UNCORR t)).raise 20 (unitTile t) (t + 1 * 2 ^ 8) (markReel r)
      if s.reelState r = 0 ∨ s.reelState r = 6 then s1 else s1.pendFault r 18 (wordNext s.now)
    else match (s.eng r).fault with
      | some (code, f) => if f ≤ s.now then s.enterFault r code f else s
      | none => s

/-- CUE_EVENT_PULSE: the pulses that FIRE cues of reel `r` have scheduled and whose tick has come (R155). -/
def execCueEventPulse (r : Fin 1024) (s : State) : Res :=
  let due := (s.eng r).fires.filter (fun p => p.2 ≤ s.now)
  .next ((s.onEng r (fun e => { e with fires := e.fires.filter (fun p => s.now < p.2) })).each due (fun p a => a.tilePulse p.1 p.2))

end Sys2Proof.Machine
end

