-- ==== Sys2Proof/Machine/VoiceCmds.lean ====
section
/-!
DEFINITION. Staged voice updates and sweep pieces as commands (R202, R216 to R218).
-/
namespace Sys2Proof.Machine

/-- The voices to which an update kind applies (R216). -/
def kindFits (kind voice : Nat) : Bool :=
  if kind ≤ 3 then voice == 1 || voice == 2 else if kind ≤ 6 then voice == 3 else false

/-- A value lies in the range of its kind (R216). -/
def kindInRange (kind v : Nat) : Bool :=
  match kind with
  | 3 => v ≤ 0x10000
  | 4 => v < 2 ^ 32
  | 5 => 0x300 ≤ v && v ≤ 0x700
  | _ => true

/-- Stage a kind on reel `r`, replacing the value of that kind (R216). -/
def State.stageVoice (s : State) (r kind v : Nat) : State :=
  s.onEng r (fun e => { e with staged := e.staged.filter (fun p => p.1 != kind) ++ [(kind, v)] })

/-- Merge a staged set into a pending one: later values win, and two PSD_SWAPs form one swap (R218). -/
def mergeSets (old new : List (Nat × Nat)) : List (Nat × Nat) := old.filter (fun p => !new.any (fun q => q.1 == p.1)) ++ new

/-- Move the staged set of reel `r` into its pending set (R216, R218). -/
def State.commitSet (s : State) (r : Nat) : State :=
  let e := s.eng r
  let t := tileOfReel r
  if e.staged.isEmpty then s
  else
    let s1 := s.when (!e.pendingSet.isEmpty) (fun a => a.flag (Fld.TL_VSTG_EVT_MERGED t))
    (s1.onEng r (fun e => { e with pendingSet := mergeSets e.pendingSet e.staged, staged := [], pendingAt := s.now })).setBit (Fld.TL_VSTG_PEND t) (r % 128)

/-- A staging command of tile `t` ends with RESULT (R216). -/
def State.stgDone (s : State) (t res : Nat) : State := s.sets [(Fld.TL_VSTG_CMD_BUSY t, 0), (Fld.TL_VSTG_CMD_RESULT t, res)]

/-- The reel that TL_VSTG_REEL names. -/
def State.stgReel (s : State) (t : Nat) : Nat := 128 * t + s.get (Fld.TL_VSTG_REEL t)

/-- A host staging command may not reach the reel: 1 STATE, 2 OWNED (R216, R268). -/
def State.stgRefused (s : State) (r : Nat) : Nat :=
  if !s.stoppable r then 1 else if (s.groupOfDrive r).isSome then 2 else 0

/-- STAGE: TL_VSTG_CMD.STAGE of tile `t`; `both` when COMMIT is written in the same write (R216). -/
def execVoiceStage (t : Fin 8) (both : Bool) (s : State) : Res :=
  let r := s.stgReel t
  let kind := s.get (Fld.TL_VSTG_KIND t)
  let v := s.get2 (Fld.TL_VSTG_VAL_LO t) (Fld.TL_VSTG_VAL_HI t)
  .next <| s.onHost fun s =>
    if both then s.stgDone t 5
    else if s.stgRefused r ≠ 0 then s.stgDone t (s.stgRefused r)
    else if !kindFits kind (s.voice r) then s.stgDone t 3
    else if !kindInRange kind v then s.stgDone t 4
    else (s.stageVoice r kind v).stgDone t 0

/-- COMMIT: TL_VSTG_CMD.COMMIT of tile `t` (R216, R218). -/
def execVoiceCommit (t : Fin 8) (both : Bool) (s : State) : Res :=
  let r := s.stgReel t
  .next <| s.onHost fun s =>
    if both then s.stgDone t 5
    else if s.stgRefused r ≠ 0 then s.stgDone t (s.stgRefused r)
    else (s.commitSet r).stgDone t 0

/-- VOICE_UPDATE_APPLY: the pending set of reel `r` applies when this tick is a boundary of its voice, while it runs (R217). -/
def execVoiceUpdateApply (r : Fin 1024) (s : State) : Res :=
  .next (if s.stoppable r && s.voiceBoundary r s.now then s.applyPending r s.now else s)

/-- SWEEP_PIECE_START: the piece of reel `r`'s sweep table in progress ends: it folds and the next entry starts, or the voice
runs on as a tone after the last one (R201, R202). -/
def execSweepPieceStart (r : Fin 1024) (s : State) : Res :=
  let e := s.eng r
  .next <|
    match e.sweepEnd with
    | none => s
    | some t =>
      if s.now < t || !e.run || e.endB ≤ t || s.displaced r t || s.cutBy r t then s
      else
        let i := s.get (Fld.REEL_SWP_IDX r) + 1
        let s1 := s.foldPiece r t
        if i < s.get (Fld.REEL_SWP_CNT r) then s1.startSweep r i (e.sweepEntry.getD (s.sweepRow r i)) t else s1

end Sys2Proof.Machine
end

