-- ==== Sys2Proof/Machine/Corrector.lean ====
section
/-!
DEFINITION. Response correction: the commands of the control groups, analysis frames and blocks, drive updates, the ramp and
the checks (R266 to R285). The spectra, the estimate and the errors come with the commands as the matrix engine computed
them: the manual fixes them as real formulas, not to the bit.
-/
namespace Sys2Proof.Machine

/-! ### Commands (R282 to R285) -/

/-- A write of COR_GRP_CMD with one command for group `g`: more than one bit is refused (R285); a group that the image
does not define is out of scope (R34); after the command, PARK_N and TRIP are looked at (R282). -/
def State.corCmd (s : State) (g : Nat) (multi : Bool) (f : State → State) : State :=
  if multi then s.flag (Fld.COR_GRP_EVT_REFUSED g)
  else if !s.is (Fld.COR_GRP_CFG_VALID g) then s.outOfScope (unitGroup g) (0xD000C + 0x1000 * g)
  else (f s).corHardCheck g

/-- The first byte of the store of group `g`, and its length (R269). -/
def State.storeBase (s : State) (g : Nat) : Nat := s.get (Fld.COR_STORE_LEAF g) * 65536
def State.storeBytes (s : State) (g : Nat) : Nat :=
  ((s.storeRuns g).foldl (fun a p => max a (p.1 + p.2)) 0) * 65536 - s.storeBase g

/-- The store lies inside the general region (R282). -/
def State.storeGeneral (s : State) (g : Nat) : Bool :=
  s.general (s.get (Fld.COR_STORE_LEAF g)) && s.storeBase g + s.storeBytes g ≤ 0x1000000000

/-- The checks of START in OFF (R282). -/
def State.corReady (s : State) (g : Nat) : Bool := (s.drives g).all (fun r => s.stoppable r) && s.storeGeneral g

/-- The estimate comes from the host: SINE with more than one drive (R276). -/
def State.hostEstimate (s : State) (g : Nat) : Bool := s.is (Fld.COR_GRP_CFG_MODE g) && s.get (Fld.COR_GRP_CFG_DM1 g) != 0

/-- HDR.H_VALID and its copy in COR_GRP_STATUS (R269, R272). -/
def State.setHValid (s : State) (g : Nat) (v : Bool) : State :=
  let a := s.storeBase g
  (s.segStore a [BitVec.ofNat 8 ((Memory.read s.mem a).toNat / 2 * 2 + v.toNat)]).set (Fld.COR_GRP_STATUS_H_VALID g) v.toNat

/-- START in OFF (R282). -/
def State.corBegin (s : State) (g : Nat) : State :=
  let s1 := s.clr (Fld.COR_GRP_STATUS_RESTART_PENDING g)
  if s.corReady g then
    let s2 := (s1.corState g 1).sets [(Lat.COR_FRAMES g, 0), (Lat.COR_CTL g, 0), (Lat.COR_DUE g, 0), (Lat.COR_BUSY g, 0), (Lat.COR_RAMP g, 0), (Lat.COR_ZERO g, 0),
      (Fld.COR_GRP_STATUS_SETTLED g, 0), (Fld.COR_GRP_STATUS_ALARM g, 0), (Fld.COR_CNT_UPD g, 0), (Fld.COR_CNT_DISCARD g, 0)]
    if s.hostEstimate g then s2.set (Fld.COR_GRP_STATUS_H_VALID g) ((Memory.read s.mem (s.storeBase g)).toNat % 2) else s2.setHValid g false
  else s1.flag (Fld.COR_GRP_EVT_REFUSED g)

/-- A START pending at the end of a ramp applies once no drive is STOPPING (R284). -/
def State.corPending (s : State) (g : Nat) : State :=
  if s.is (Fld.COR_GRP_STATUS_RESTART_PENDING g) && s.get (Fld.COR_GRP_STATUS_STATE g) == 0 && (s.drives g).all (fun r => s.get (Fld.REEL_STATE r) != 5) then
    (s.corBegin g).corHardCheck g
  else s

/-- START (R282, R284). -/
def execCorStart (g : Fin 4) (multi : Bool) (s : State) : Res :=
  .next (s.onHost fun s => (s.corCmd g multi (fun a =>
    match a.get (Fld.COR_GRP_STATUS_STATE g) with
    | 0 => if a.is (Fld.COR_GRP_STATUS_RESTART_PENDING g) then a else a.corBegin g
    | 4 => a.sets [(Fld.COR_GRP_STATUS_RESTART_PENDING g, 1), (Fld.COR_GRP_EVT_RESTART_QUEUED g, 1)]
    | 5 => a.flag (Fld.COR_GRP_EVT_REFUSED g)
    | 6 => a.flag (Fld.COR_GRP_EVT_REFUSED g)
    | _ => a)))

/-- CLOSE: ESTIMATE to CONTROL when H_VALID = 1 (R282). -/
def execCorClose (g : Fin 4) (multi : Bool) (s : State) : Res :=
  .next (s.onHost fun s => (s.corCmd g multi (fun a =>
    if a.get (Fld.COR_GRP_STATUS_STATE g) = 1 then
      if a.is (Fld.COR_GRP_STATUS_H_VALID g) then (a.corState g 2).sets [(Fld.COR_GRP_STATUS_SETTLED g, 0), (Lat.COR_CTL g, 0), (Lat.COR_DUE g, 0)]
      else a.flag (Fld.COR_GRP_EVT_REFUSED g)
    else a)))

/-- Staged and pending updates of the drives of a group are discarded (R279, R282). -/
def State.dropUpdates (s : State) (g : Nat) : State :=
  (s.each (s.drives g) (fun r a => (a.onEng r (fun e => { e with staged := [], pendingSet := [] })).clrBit (Fld.TL_VSTG_PEND (tileOfReel r)) (r % 128))).clr (Lat.COR_BUSY g)

/-- HOLD: CONTROL to HOLD; the pending update is discarded (R282). -/
def execCorHold (g : Fin 4) (multi : Bool) (s : State) : Res :=
  .next (s.onHost fun s => (s.corCmd g multi (fun a =>
    if a.get (Fld.COR_GRP_STATUS_STATE g) = 2 then ((a.corState g 3).dropUpdates g).clr (Lat.COR_DUE g) else a)))

/-- RESUME: HOLD to CONTROL (R282). -/
def execCorResume (g : Fin 4) (multi : Bool) (s : State) : Res :=
  .next (s.onHost fun s => (s.corCmd g multi (fun a => if a.get (Fld.COR_GRP_STATUS_STATE g) = 3 then a.corState g 2 else a)))

/-- STOP of a group: the ramp into STOPPING, or the cancelling of a pending START (R282, R284). -/
def State.corStopCmd (s : State) (g : Nat) : State :=
  if s.corRunning g then (s.corState g 4).corRamp g else s.clr (Fld.COR_GRP_STATUS_RESTART_PENDING g)

/-- ABORT of a group (R283, R284). -/
def State.corAbortCmd (s : State) (g : Nat) : State :=
  if s.corRunning g then s.corAbort g 4 none else s.clr (Fld.COR_GRP_STATUS_RESTART_PENDING g)

/-- COR_STOP (R282). -/
def execCorStop (g : Fin 4) (multi : Bool) (s : State) : Res := .next (s.onHost fun s => (s.corCmd g multi (fun a => a.corStopCmd g)))

/-- ABORT (R283). -/
def execCorAbort (g : Fin 4) (multi : Bool) (s : State) : Res := .next (s.onHost fun s => (s.corCmd g multi (fun a => a.corAbortCmd g)))

/-- COR_CLEAR: ABORTED to OFF (R282). -/
def execCorClear (g : Fin 4) (multi : Bool) (s : State) : Res :=
  .next (s.onHost fun s => (s.corCmd g multi (fun a =>
    if a.get (Fld.COR_GRP_STATUS_STATE g) = 6 then (a.corState g 0).sets [(Fld.COR_GRP_STATUS_ABORT_CAUSE g, 0), (Lat.COR_ZERO g, 0)] else a)))

/-- The reference banks of a group swap (R285). -/
def State.swapBanks (s : State) (g : Nat) : State :=
  s.sets [(Lat.COR_SWAP g, 0), (Fld.COR_GRP_EVT_REF_SWAPPED g, 1), (Fld.COR_GRP_STATUS_REF_ACTIVE g, 1 - s.get (Fld.COR_GRP_STATUS_REF_ACTIVE g))]

/-- REF_SWAP: at once in OFF, else at the next update (R285). -/
def execCorRefSwap (g : Fin 4) (multi : Bool) (s : State) : Res :=
  .next (s.onHost fun s => (s.corCmd g multi (fun a => if a.get (Fld.COR_GRP_STATUS_STATE g) = 0 then a.swapBanks g else a.flag (Lat.COR_SWAP g))))

/-- COR_LEVEL_WRITE: a new target level; SETTLED clears (R278, R285). -/
def execCorLevelWrite (g : Fin 4) (v : Nat) (s : State) : Res :=
  .next (s.onHost fun s => (s.sets [(Fld.COR_LEVEL g, v), (Fld.COR_GRP_STATUS_SETTLED g, 0), (Lat.COR_CTL g, 0)]))

/-- COR_ABORT_TASK: task 224 + g acts as COR_GRP_CMD.ABORT (R315). -/
def execCorAbortTask (g : Fin 4) (s : State) : Res :=
  .next (s.onTask (224 + g) false (fun _ a => a.corCmd g false (fun b => b.corAbortCmd g)))

/-- COR_STOP_TASK: task 228 + g acts as COR_GRP_CMD.STOP (R315). -/
def execCorStopTask (g : Fin 4) (s : State) : Res :=
  .next (s.onTask (228 + g) false (fun _ a => a.corCmd g false (fun b => b.corStopCmd g)))

/-! ### Frames and blocks (R271 to R273, R276, R278, R280, R281) -/

/-- 2^AVG_SH; values above 10 act as 10 (R272). -/
def State.avgCount (s : State) (g : Nat) : Nat := 2 ^ min 10 (s.get (Fld.COR_GRP_CTRL_AVG_SH g))

/-- The inputs that are responses of group `g`, those of a bitmap over responses (R268). -/
def State.responses (s : State) (g mask : Nat) : List Nat :=
  (List.range 64).filter (fun i => s.corResponse g i && mask.testBit (s.get (Fld.COR_IN_CFG_RESP i)))

/-- A drive destination is parked or in a range gap (R272, R285). -/
def State.driveMuted (s : State) (g : Nat) : Bool :=
  (s.drives g).any (fun r => (s.dests r).any (fun d => destKind d == 1 &&
    (s.get (Fld.CH_STATUS_STATE (destIdx d)) != 3 || s.is (Fld.CH_STATUS_RNG_GAP (destIdx d)))))

/-- The frame or block is discarded (R272): a flagged or saturated response, UNREF, a REANCHOR stop, a muted drive
destination, a lost input now, or one of these earlier in the frame (`gap`). -/
def State.corDiscards (s : State) (g sat flagged : Nat) (gap : Bool) : Bool :=
  gap || sat != 0 || flagged != 0 || s.unref || s.is Lat.TB_HELD || s.driveMuted g ||
    (s.responses g 0xFFFF).any (fun i => s.is (Fld.COR_IN_STAT_LOSS i))

/-- Count a discarded frame or block (R272). -/
def State.corDiscard (s : State) (g : Nat) : State := (s.bump (Fld.COR_CNT_DISCARD g)).flag (Fld.COR_GRP_EVT_DISCARD g)

/-- What the engine stores: runs of bytes at offsets in the store (R269); what would lie outside it is not written. -/
def State.storeWrites (s : State) (g : Nat) (l : List (Nat × List (BitVec 8))) : State :=
  s.each (l.filter (fun p => p.1 + p.2.length ≤ s.storeBytes g)) (fun p a => a.segStore (a.storeBase g + p.1) p.2)

/-- Level, tag and EXTRAP at an accepted frame or block (R280); dB in units of 2^-8. -/
def State.corLevels (s : State) (g : Nat) (cur tag : Int) : State :=
  let e : Bool := decide (6 * 256 < cur - tag)
  let s1 := (s.seti (Fld.COR_DRV_LVL_CUR g) cur).seti (Fld.COR_DRV_LVL_TAG g) tag
  if s.is (Fld.COR_GRP_STATUS_EXTRAP g) == e then s1
  else ((s1.set (Fld.COR_GRP_STATUS_EXTRAP g) e.toNat).flag (Fld.COR_GRP_EVT_EXTRAP_CHG g)).archive 10 (unitGroup g) s.now
    [s.get (Fld.COR_QUAL g), s.get (Fld.COR_CNT2_HELD g)] e

/-- sqrt of an unsigned number, rounded to nearest. -/
def sqrtRound (n : Nat) : Nat := (Nat.sqrt (4 * n) + 1) / 2

/-- The line errors, limited to 99 dB either way; units of 2^-16 dB (R278). -/
def limitErrors (errs : List (List Int)) : List (List Int) := errs.map (fun l => l.map (clampInt (-(99 * 65536)) (99 * 65536)))

/-- COR_QUAL: the rms of the line errors, rounded to 2^-8 dB (R281); it keeps its value when there is no term. -/
def State.corQual (s : State) (g : Nat) (errs : List (List Int)) : State :=
  let all := errs.flatMap id
  if all.isEmpty then s
  else s.set (Fld.COR_QUAL g) (min 0xFFFF (sqrtRound ((all.foldl (fun a e => a + e.natAbs ^ 2) 0) / (all.length * 65536))))

/-- A line or rms error beyond an alarm limit (R278). -/
def State.corAlarmed (s : State) (g : Nat) (errs : List (List Int)) (rms : List Int) : Bool :=
  errs.any (fun l => l.any (fun e => decide (s.get (Fld.COR_LIM_LINE_ALM g) * 256 < e.natAbs)))
    || rms.any (fun e => decide (s.get (Fld.COR_LIM_RMS_ALM g) * 256 < e.natAbs))

/-- The abort cause that the checks of R278 find: 3 DRIVE in every state, 1 LINE and 2 RMS once SETTLED in CONTROL and
HOLD. -/
def State.corAbortCheck (s : State) (g : Nat) (settled : Bool) (errs : List (List Int)) (rms : List Int) : Option Nat :=
  let lines := max 1 (s.get (Fld.COR_ABT_LINES g))
  if settled && errs.any (fun l => decide (lines ≤ (l.filter (fun e => decide (s.get (Fld.COR_LIM_LINE_ABT g) * 256 < e.natAbs))).length)) then some 1
  else if settled && rms.any (fun e => decide (s.get (Fld.COR_LIM_RMS_ABT g) * 256 < e.natAbs)) then some 2
  else if s.geti (Fld.COR_DRV_MAX g) < s.geti (Fld.COR_DRV_LVL_CUR g) then some 3
  else none

/-- The checks after an accepted frame or block (R278, R281). -/
def State.corChecks (s : State) (g : Nat) (errs : List (List Int)) (rms : List Int) : State :=
  let e := limitErrors errs
  let st := s.get (Fld.COR_GRP_STATUS_STATE g)
  let settled := s.is (Fld.COR_GRP_STATUS_SETTLED g) && (st == 2 || st == 3)
  let alarm := settled && s.corAlarmed g e rms
  let s1 := ((s.corQual g e).set (Fld.COR_GRP_STATUS_ALARM g) alarm.toNat).when alarm (fun a => a.flag (Fld.COR_GRP_EVT_ALARM g))
  match s1.corAbortCheck g settled e rms with
  | some c => s1.corAbort g c none
  | none => s1

/-- Count an accepted frame or block: H_VALID after 2^AVG_SH of them, SETTLED after 2^AVG_SH in CONTROL (R272, R278). -/
def State.corCount (s : State) (g : Nat) : State :=
  let n := s.avgCount g
  let s1 := s.bump (Lat.COR_FRAMES g)
  let s2 := s1.when (decide (n ≤ s1.get (Lat.COR_FRAMES g)) && !s.hostEstimate g) (fun a => a.setHValid g true)
  let s3 := s2.segStore (s2.storeBase g + 8) (leBytes 4 (s2.get (Lat.COR_FRAMES g)))
  if s.get (Fld.COR_GRP_STATUS_STATE g) = 2 then
    let s4 := s3.bump (Lat.COR_CTL g)
    s4.when (decide (n ≤ s4.get (Lat.COR_CTL g))) (fun a => a.flag (Fld.COR_GRP_STATUS_SETTLED g))
  else s3

/-- An accepted frame or block: what the engine stores, the tag (`tag32` in HDR), levels, checks and counts. -/
def State.corAccept (s : State) (g : Nat) (errs : List (List Int)) (rms : List Int) (cur tag : Int) (tag32 : Nat) (store : List (Nat × List (BitVec 8))) : State :=
  let s1 := ((s.storeWrites g store).segStore (s.storeBase g + 4) (leBytes 4 tag32)).corLevels g cur tag
  (s1.corChecks g errs rms).corCount g

/-- Flags and saturation that a frame's samples show (R267). -/
def State.corInputFlags (s : State) (g sat flagged : Nat) : State :=
  (s.each (s.responses g sat) (fun i a => a.flag (Fld.COR_IN_STAT_SAT i))).each (s.responses g flagged) (fun i a => a.flag (Fld.COR_IN_STAT_FLAG i))

/-- COR_FRAME_CLOSE: an analysis frame of RANDOM group `g` closes (R271 to R273). `sat` and `flagged` are bitmaps over its
responses; errors in 2^-16 dB; `cur` and `tag` in 2^-8 dB, `tag32` the tag as binary32; `ecc` an uncorrectable store
read (R270). In CONTROL it counts towards the next update, or towards SKIP while one has not latched (R274, R275). -/
def execCorFrameClose (g : Fin 4) (sat flagged : Nat) (gap ecc : Bool) (errs : List (List Int)) (rms : List Int) (cur tag : Int) (tag32 : Nat)
    (store : List (Nat × List (BitVec 8))) (s : State) : Res :=
  let s0 := s.corInputFlags g sat flagged
  .next <|
    if !s.corRunning g || s.is (Fld.COR_GRP_CFG_MODE g) then s
    else if ecc then s0.corAbort g 10 none
    else if s.corDiscards g sat flagged gap then s0.corDiscard g
    else
      let s1 := s0.corAccept g errs rms cur tag tag32 store
      if s1.get (Fld.COR_GRP_STATUS_STATE g) = 2 then
        let n := max 1 (s.get (Fld.COR_GRP_CTRL_UPD_FRAMES g))
        let s2 := s1.bump (Lat.COR_DUE g)
        if n ≤ s2.get (Lat.COR_DUE g) && s.is (Lat.COR_BUSY g) then
          ((s2.clr (Lat.COR_DUE g)).bump (Fld.COR_CNT2_SKIP g)).flag (Fld.COR_GRP_EVT_SKIP g)
        else s2
      else s1

/-! ### Updates (R274, R275, R277) -/

/-- Steps of level per factor of 10 in amplitude: one is 1/512 dB. -/
def dbSteps : Nat := 10240

/-- `v` × 10^(k/10240) rounded to nearest, half up, for `up`, and v × 10^(-k/10240) otherwise: the largest n with
2n - 1 ≤ 2 v 10^(±k/10240), found by bisection below 2^`bits`. A level of x/256 dB in amplitude is k = 2x. -/
def dbScale (v k : Nat) (up : Bool) : Nat → Nat → Nat
  | 0, n => n
  | bits + 1, n =>
    let m := n + 2 ^ bits
    let ok := if up then decide ((2 * m - 1) ^ dbSteps ≤ (2 * v) ^ dbSteps * 10 ^ k) else decide ((2 * m - 1) ^ dbSteps * 10 ^ k ≤ (2 * v) ^ dbSteps)
    dbScale v k up bits (if ok then m else n)

/-- The step exponents of a group: DN, and UP or UP/2 while EXTRAP = 1 (R274). -/
def State.stepDn (s : State) (g : Nat) : Nat := 2 * s.get (Fld.COR_STEP_DN g)
def State.stepUp (s : State) (g : Nat) : Nat := (if s.is (Fld.COR_GRP_STATUS_EXTRAP g) then 1 else 2) * s.get (Fld.COR_STEP_UP g)

/-- round(a × sqrt(num/den)), half up: the largest n with (2n - 1)^2 den ≤ 4 a^2 num. -/
def sqrtScale (a num den : Nat) : Nat := (Nat.sqrt (4 * a * a * num / den) + 1) / 2

/-- The new amplitude of a line (R274 steps 5 and 6): `num`/`den` is (s + Δ)/s, 0 standing for a value at or below 0. The
bounds on ρ are applied as bounds on the rounded amplitude, which is the same because rounding keeps order. -/
def State.newAmp (s : State) (g a num den : Nat) : Nat :=
  let lo := dbScale a (s.stepDn g) false 18 0
  let hi := dbScale a (s.stepUp g) true 34 0
  max lo (min hi (sqrtScale a num den))

/-- COR_UPDATE: a due RANDOM update of group `g` (R274, R275). `held` says per table line whether it is held for every drive
(no target, or a coherence below COH_MIN); `rho` gives per drive and line the ratio (s_d + Δ_d)/s_d, a denominator of 0 for
s_d = 0. -/
def execCorUpdate (g : Fin 4) (held : List Bool) (rho : List (List (Nat × Nat))) (s : State) : Res :=
  let n := max 1 (s.get (Fld.COR_GRP_CTRL_UPD_FRAMES g))
  let ds := s.drives g
  -- one line of one drive: whether it is held, and its new amplitude before the limit
  let line : Nat → Nat → List (Nat × Nat) → Bool × Nat := fun r l row =>
    let a := (s.noiseLines r (s.get (Fld.REEL_ACTIVE r))).getD l 0
    let (num, den) := row.getD l (1, 1)
    if held.getD l false || a == 0 || den == 0 then (true, a) else (false, s.newAmp g a num den)
  let lines := fun (r : Nat) => List.range (2 ^ s.get (Fld.REEL_LLOG2 r))
  let rows := ds.zip rho
  .next <|
    if s.get (Fld.COR_GRP_STATUS_STATE g) ≠ 2 ∨ s.is (Fld.COR_GRP_CFG_MODE g) ∨ s.is (Lat.COR_BUSY g) ∨ s.get (Lat.COR_DUE g) < n then s
    else
      let count := ((List.range 8192).filter (fun l => rows.any (fun p => decide (l < 2 ^ s.get (Fld.REEL_LLOG2 p.1)) && (line p.1 l p.2).1))).length
      let limit := rows.any (fun p => (lines p.1).any (fun l => decide (65535 < (line p.1 l p.2).2)))
      let s1 := s.when (s.is (Lat.COR_SWAP g)) (fun a => a.swapBanks g)
      let s2 := s1.each rows (fun p a =>
        let r := p.1
        let base := s.get (if s.get (Fld.REEL_ACTIVE r) = 1 then Fld.REEL_PSD_BASE0 r else Fld.REEL_PSD_BASE1 r)
        a.spStore (spWord (tileOfReel r) base) ((lines r).flatMap (fun l => leBytes 2 (min 65535 (line r l p.2).2))))
      let s3 := s2.each rows (fun p a => (a.stageVoice p.1 6 0).commitSet p.1)
      ((s3.sets [(Lat.COR_DUE g, 0), (Lat.COR_BUSY g, 1), (Fld.COR_CNT2_HELD g, count)]).when limit (fun a => a.flag (Fld.COR_GRP_EVT_DRIVE_LIMIT g))).corHardCheck g

/-- The phase bound PH_STEP in 2^-64 turn (R277). -/
def State.phaseStep (s : State) (g : Nat) : Int := (s.get (Fld.COR_PH_STEP g) * 2 ^ 64 / 92160 : Nat)

/-- One SINE update of every drive (R277): per drive the ratio |X_new|/|X| and the phase change in 2^-64 turn. -/
def State.sineUpdate (s : State) (g : Nat) (upd : List (Nat × Nat × Int)) : State :=
  let s1 := s.when (s.is (Lat.COR_SWAP g)) (fun a => a.swapBanks g)
  (s1.each ((s.drives g).zip upd) (fun p a =>
    let r := p.1
    let (num, den, dphi) := p.2
    let amp := ampOf (s.get (Fld.REEL_AMP_CUR r))
    let want := if den = 0 then amp else (2 * amp * num + den) / (2 * den)
    let v := max (dbScale amp (s.stepDn g) false 18 0) (min (dbScale amp (s.stepUp g) true 34 0) want)
    let ph := (s.get2 (Fld.REEL_P_CUR_LO r) (Fld.REEL_P_CUR_HI r) + clampInt (-(s.phaseStep g)) (s.phaseStep g) dphi : Int)
    (((a.stageVoice r 3 (min 0x10000 v)).stageVoice r 2 (ux 64 ph)).commitSet r).when (decide (0x10000 < v)) (fun b => b.flag (Fld.COR_GRP_EVT_DRIVE_LIMIT g)))).flag (Lat.COR_BUSY g)

/-- The drives' frequency words differ (R276). -/
def State.sineUnequal (s : State) (g : Nat) : Bool :=
  match s.drives g with
  | [] => true
  | r :: l => l.any (fun q => s.ftw80 q != s.ftw80 r)

/-- COR_BLOCK_END: a SINE block of group `g` ends and is evaluated (R276 to R278); the operands are those of COR_FRAME_CLOSE with
the update the engine computed. -/
def execCorBlockEnd (g : Fin 4) (sat flagged : Nat) (gap ecc : Bool) (errs : List (List Int)) (rms : List Int) (cur tag : Int) (tag32 : Nat)
    (store : List (Nat × List (BitVec 8))) (upd : List (Nat × Nat × Int)) (s : State) : Res :=
  let s0 := s.corInputFlags g sat flagged
  .next <|
    if !s.corRunning g || !s.is (Fld.COR_GRP_CFG_MODE g) then s
    else if ecc then s0.corAbort g 10 none
    else if s.corDiscards g sat flagged gap || s.sineUnequal g then s0.corDiscard g
    else
      let s1 := s0.corAccept g errs rms cur tag tag32 store
      if s1.get (Fld.COR_GRP_STATUS_STATE g) = 2 then
        if s.is (Lat.COR_BUSY g) then (s1.bump (Fld.COR_CNT2_SKIP g)).flag (Fld.COR_GRP_EVT_SKIP g) else s1.sineUpdate g upd
      else s1

/-! ### The ramp (R279) and slices (R283) -/

/-- RAMP_START: at W_0 the ramp runs and pending drive updates are discarded (R279). -/
def execRampStart (g : Fin 4) (s : State) : Res :=
  .next <|
    if s.get (Lat.COR_RAMP g) = 1 ∧ s.get (Lat.COR_W0 g) ≤ s.now then (s.dropUpdates g).set (Lat.COR_RAMP g) 2 else s

/-- RAMP_END: at W_0 + 8K every drive gets a stop request for that tick and the group enters OFF or ABORTED (R279, R282,
R284). -/
def execRampEnd (g : Fin 4) (s : State) : Res :=
  let e := s.get (Lat.COR_W0 g) + 8 * s.corRampWords g
  .next <|
    if s.get (Lat.COR_RAMP g) = 2 ∧ e ≤ s.now then
      let s1 := s.each (s.drives g) (fun r a => a.requestStop r e)
      if s.get (Fld.COR_GRP_STATUS_STATE g) = 4 then (((s1.clr (Lat.COR_RAMP g)).corState g 0).corPending g)
      else if s.get (Fld.COR_GRP_STATUS_STATE g) = 5 then (s1.clr (Lat.COR_RAMP g)).corState g 6
      else s1.clr (Lat.COR_RAMP g)
    else s

/-- FFT_SLICE_FAULT: slice k, of tile k div 2, faults; the groups that use it abort with cause SLICE, raised at its tile
(R283). -/
def execFftSliceFault (k : Fin 16) (s : State) : Res :=
  .next (s.each ((List.range 4).filter (fun g => (s.get (Fld.COR_GRP_SLICE_SLICES g)).testBit k)) (fun g a =>
    (a.flag (Lat.COR_SLICE_BAD g)).corAbortAt g 8 none (unitTile (k / 2))))

end Sys2Proof.Machine
end

