-- ==== Sys2Proof/Machine/Cues.lean ====
section
/-!
DEFINITION. The cues as commands: reel `r` executes one cue word at its SP, with B at the present tick (R137 to R156). Chains
of a running script execute the same operations (Reels.lean).
-/
namespace Sys2Proof.Machine

/-- Reel `r` executes cue word `w` at its SP: nothing happens when the word is not the opcode, or the reel is in no state that
executes cues, or its producing cue has not ended. -/
def State.cueStep (s : State) (r op w : Nat) : State :=
  let e := s.eng r
  let b := s.now
  let q := s.get (Fld.REEL_SP r)
  if cueOp w ≠ op ∨ ¬(1 ≤ s.reelState r ∧ s.reelState r ≤ 4) ∨ (e.run ∧ b < e.endB) then s
  else
    let s0 := if e.run then (s.streamPassEnd r).leaveCue r b else s
    let f := s0.cueFault r w
    let c : WinCue := ⟨q, w, f, if s0.voice r = 4 then s0.rampEntry r (s0.get (Fld.REEL_RIDX r)) else []⟩
    let a := gridUp b (s0.rate r)
    match cueKind op with
    | 3 =>
      match advance q w (s0.stacks r) with
      | .to q' k' =>
        if f ≠ 0 then s0.chainFault r b f c
        else
          let s1 := (if cueDeferred w then s0.deferCue r c else s0).setStacks r k'
          let s2 := (s1.set (Fld.REEL_SP r) (q' % 65536)).onEng r (fun e => { e with anchor := a })
          if a ≤ s.now then s2.runDeferred r a else s2
      | .err code => s0.chainFault r b code c
      | .ends => s0
    | 1 => if f ≠ 0 then s0.chainFault r b f c else s0.startCue r b c
    | 2 => if f ≠ 0 then s0.enterFault r f b else s0.startWait r b c
    | _ =>
      let s1 := s0.runDeferred r b
      if s1.reelState r = 6 then s1 else if f ≠ 0 then s1.enterFault r f b else s1.terminal r b c

/-- NOP does nothing (R137). -/
def execCueNop (r : Fin 1024) (w : Nat) (s : State) : Res := .next (s.cueStep r 0x00 w)
/-- PLAY plays a card, or runs the voice for LEN samples (R142). -/
def execCuePlay (r : Fin 1024) (w : Nat) (s : State) : Res := .next (s.cueStep r 0x01 w)
/-- PLAYN plays N passes as one segment (R142). -/
def execCuePlayn (r : Fin 1024) (w : Nat) (s : State) : Res := .next (s.cueStep r 0x02 w)
/-- LOOP pushes a loop entry (R143). -/
def execCueLoop (r : Fin 1024) (w : Nat) (s : State) : Res := .next (s.cueStep r 0x08 w)
/-- NEXT repeats the body or pops the entry (R143, R144). -/
def execCueNext (r : Fin 1024) (w : Nat) (s : State) : Res := .next (s.cueStep r 0x09 w)
/-- CALL pushes the next cue and continues at TARGET (R144). -/
def execCueCall (r : Fin 1024) (w : Nat) (s : State) : Res := .next (s.cueStep r 0x0A w)
/-- RET pops and continues at the popped cue (R144). -/
def execCueRet (r : Fin 1024) (w : Nat) (s : State) : Res := .next (s.cueStep r 0x0B w)
/-- WAIT_EV waits for an event or its time-out (R146). -/
def execCueWaitEv (r : Fin 1024) (w : Nat) (s : State) : Res := .next (s.cueStep r 0x10 w)
/-- WAIT_TICK waits for a tick (R147). -/
def execCueWaitTick (r : Fin 1024) (w : Nat) (s : State) : Res := .next (s.cueStep r 0x11 w)
/-- SYNC waits for a grid tick (R148). -/
def execCueSync (r : Fin 1024) (w : Nat) (s : State) : Res := .next (s.cueStep r 0x12 w)
/-- CUTIF arms or disarms a cut (R151). -/
def execCueCutif (r : Fin 1024) (w : Nat) (s : State) : Res := .next (s.cueStep r 0x18 w)
/-- SET_F loads FTW, CRW or the resampler step (R152, R198). -/
def execCueSetF (r : Fin 1024) (w : Nat) (s : State) : Res := .next (s.cueStep r 0x20 w)
/-- SET_P sets or adds to the phase (R152, R198). -/
def execCueSetP (r : Fin 1024) (w : Nat) (s : State) : Res := .next (s.cueStep r 0x21 w)
/-- SET_G writes gains and destinations (R134, R153). -/
def execCueSetG (r : Fin 1024) (w : Nat) (s : State) : Res := .next (s.cueStep r 0x22 w)
/-- SET_RNG requests a range change (R154). -/
def execCueSetRng (r : Fin 1024) (w : Nat) (s : State) : Res := .next (s.cueStep r 0x23 w)
/-- SLATE pulses a slate producer and writes its entry (R155). -/
def execCueSlate (r : Fin 1024) (w : Nat) (s : State) : Res := .next (s.cueStep r 0x28 w)
/-- MARK writes an archive entry (R155). -/
def execCueMark (r : Fin 1024) (w : Nat) (s : State) : Res := .next (s.cueStep r 0x29 w)
/-- FIRE schedules a cue-event pulse (R155). -/
def execCueFire (r : Fin 1024) (w : Nat) (s : State) : Res := .next (s.cueStep r 0x2A w)
/-- CAL_GAP contributes 0 for LEN samples (R150). -/
def execCueCalGap (r : Fin 1024) (w : Nat) (s : State) : Res := .next (s.cueStep r 0x30 w)
/-- STOP ends the script (R156). -/
def execCueStop (r : Fin 1024) (w : Nat) (s : State) : Res := .next (s.cueStep r 0x3E w)
/-- END ends a pass of the script (R156). -/
def execCueEnd (r : Fin 1024) (w : Nat) (s : State) : Res := .next (s.cueStep r 0x3F w)

end Sys2Proof.Machine
end

