-- ==== Sys2Proof/Machine/Cuts.lean ====
section
/-!
DEFINITION. Event stamps, agreed stamps, cuts, heads and late data (R166 to R194).
-/
namespace Sys2Proof.Machine

/-- EVENT_STAMP: the receiver of tile `t` stamps the oldest pulse of channel `c` it has not stamped (R166). In a REANCHOR
stop the count stands at the first tick after release, and the stamp carries UNREF (R70). -/
def execEventStamp (t : Fin 8) (c : Fin 128) (s : State) : Res :=
  let add := fun (p : Pulse) => { p with tiles := p.tiles ++ [((t : Nat), s.now)], stamp := minTick p.stamp (some s.now), unref := p.unref || s.unref }
  .next { s with pulses := replaceFirst (fun p => p.ch == (c : Nat) && p.tiles.all (fun x => x.1 != (t : Nat))) add s.pulses }

/-- An event becomes known at every tile: the tiles that watch its channel latch it, tasks learn S, ALIGN pins and stop
events fall due, and the tiles keep it for 64 words after S (R163, R167 to R169, R321). `pipe` is TL_PIPE_LAT. -/
def State.agree (s : State) (p : Pulse) (st : Nat) : State :=
  let late := decide (st + 384 < s.now)
  let e := if late then wordUp (s.now + 128) else st + dCut
  let s1 := s.each (List.range 8) (fun t a =>
    let a1 := a.when late (fun b => b.flag (Fld.TL_CUT_EVT_EV_LATE t))
    if a1.get (Fld.TL_EVR_SEL_EVC t) = p.ch then
      let loc := ((p.tiles.find? (fun x => x.1 == t)).map (fun x => x.2)).getD (2 ^ 64 - 1)
      (((a1.set2 (Fld.TL_EVR_STAMP_LO t) (Fld.TL_EVR_STAMP_HI t) st).set2 (Fld.TL_EVR_LOCAL_LO t) (Fld.TL_EVR_LOCAL_HI t) loc).sets
        [(Fld.TL_EVR_STATUS_VALID t, 1), (Fld.TL_EVR_STATUS_ORIGIN t, (p.origin == some st).toNat), (Fld.TL_EVR_STATUS_LATE t, late.toNat),
         (Fld.TL_EVR_STATUS_UNREF t, p.unref.toNat)]).when late (fun b => b.bump (Fld.TL_EVR_STATUS_LATE_CNT t))
    else a1)
  let pipe := s.get (Fld.TL_PIPE_LAT_WORDS 0)
  let pins := (List.range 16).filter (fun n => s.evioUsable n && s.is (Fld.EV_EVIO_CFG_DIR n) && s.is (Fld.EV_EVIO_CFG_MODE n) && s.get (Fld.EV_EVIO_CFG_EVC n) == p.ch)
  let s2 := { s1 with
    events := s1.events.filter (fun (v : Ev) => s.now ≤ max (v.s + 512) v.e) ++ [Ev.mk p.ch st e p.unref]
    triggers := s1.triggers.map (fun (g : Trigger) => if g.ch == p.ch && g.formed == p.formed && !g.direct then { g with s := minTick g.s (some st), unref := g.unref || p.unref } else g)
    alignDue := s1.alignDue ++ pins.map (fun n => (n, ((st + 8 * pipe : Nat) + s.geti (Fld.EV_EVIO_CFG_ADJ n)).toNat)) }
  s2.each (s2.activeReels.filter (fun r => s2.is (Fld.REEL_STOP_EN r) && s2.get (Fld.REEL_STOP_EVC r) == p.ch)) (fun r a => a.requestStop r e)

/-- STAMP_AGREED: the stamp ring forms the agreed stamp of the oldest pulse of channel `c`: the smallest of its receiver
stamps and origin ticks (R167). -/
def execStampAgreed (c : Fin 128) (s : State) : Res :=
  .next <|
    match s.pulses.find? (fun p => p.ch == (c : Nat)) with
    | none => s
    | some p =>
      match minTick p.origin p.stamp with
      | none => s
      | some st => ({ s with pulses := removeFirst (fun p => p.ch == (c : Nat)) s.pulses }).agree p st

/-! ### Cuts -/

/-- CUT_COMMIT: the first counting event commits the armed cut of reel `r` (R170); an IMMEDIATE cut falls at E (R172). -/
def execCutCommit (r : Fin 1024) (s : State) : Res :=
  let e := s.eng r
  .next <|
    if s.is (Fld.REEL_CUT_ARMED r) && e.commit.isNone && decide (2 ≤ s.reelState r ∧ s.reelState r ≤ 4) then
      match s.firstEvent (s.get (Fld.REEL_CUT_EVC r)) (max e.cutFrom e.lastCut) (2 ^ 65) with
      | none => s
      | some v =>
        let m := s.get (Fld.REEL_CUT_MODE r)
        s.onEng r (fun e => { e with recut := false, commit := some ⟨s.get (Fld.REEL_CUT_TARGET r), m, s.is (Fld.REEL_CUT_KEEP r), v.s, v.e, v.unref, e.cutLoops, e.cutCalls,
          if m = 0 then 1 else 0, v.e, 0⟩ })
    else s

/-- The words of the target chain of cue `q`, with each ramp entry read again for the entry now in force (R213). -/
def State.targetWords (s : State) (r q : Nat) : List WinCue :=
  let l := (((s.eng r).targets.find? (fun p => p.1 == q)).map (fun p => p.2)).getD []
  l.map (fun c => if s.voice r = 4 ∧ (cueOp c.w = 1 ∨ cueOp c.w = 2) then { c with data := s.rampEntry r (s.get (Fld.REEL_RIDX r)) } else c)

/-- The card at which a target chain arrives first, if any. -/
def State.targetCard (s : State) (r q : Nat) : Option Nat :=
  match (((s.eng r).targets.find? (fun p => p.1 == q)).bind (fun p => p.2.getLast?)) with
  | some c => if s.voice r = 0 ∧ (cueOp c.w = 1 ∨ cueOp c.w = 2) then some (cueCard c.w) else none
  | none => none

/-- The cut of reel `r` is taken at its cut tick (R175 to R177): `late` says that the target's first sample is late. -/
def State.takeCut (s : State) (r : Nat) (c : Commit) (late : Bool) : State :=
  let t := tileOfReel r
  let sp := s.get (Fld.REEL_SP r)
  let e := s.eng r
  let slot := (s.targetCard r c.target).bind (fun k => s.heads.find? (fun h => h.1 == t && h.2.1 == k))
  let head := (slot.map (fun h => h.2.2)).getD false
  let s0 := s.when (slot.isSome && !head) (fun a => (a.bump (Fld.TL_HEAD_MISS_LATE t)).flag (Fld.TL_CUT_EVT_HEAD_LATE t))
  let s1 := (if e.run && decide (e.passStart + e.passLen ≤ c.x) then s0.streamPassEnd r else s0).leaveCue r c.x
  let k := s1.stacks r
  let k1 := if c.kind = 5 then
      match (k.popTo c.loop k.calls.length).loops with
      | [] => k
      | l :: rest => if l.inf then ⟨l :: rest, k.calls⟩ else if 0 < l.remain then ⟨{ l with remain := l.remain - 1 } :: rest, k.calls⟩ else ⟨rest, k.calls⟩
    else k
  let s2 := (s1.setStacks r (k1.popTo c.loops c.calls)).onEng r (fun e => { e with
    commit := none, recut := false, deferred := [], lastCut := c.x, cutEntry := some (sp, { c with kind := if late then 9 else 1 }, head) })
  let s3 := s2.when (!e.recut && !c.keep) (fun a => a.clr (Fld.REEL_CUT_ARMED r))
  ((s3.bump (Fld.TL_CUT_CNT t)).flag (Fld.TL_CUT_EVT_CUT_TAKEN t)).runChain r c.x c.target (s3.targetWords r c.target)

/-- CUT_TAKE: the committed cut of reel `r` is taken at X, once X is fixed and reached (R170 to R177). -/
def execCutTake (r : Fin 1024) (late : Bool) (s : State) : Res :=
  .next <|
    match (s.eng r).commit with
    | none => s
    | some c0 =>
      if s.now < c0.e then s
      else
        let s1 := s.resolveCut r
        match (s1.eng r).commit with
        | none => s1
        | some c => if s1.cutBy r s.now && !s1.displaced r c.x && decide (2 ≤ s.reelState r ∧ s.reelState r ≤ 4) then s1.takeCut r c late else s1

/-- HEAD_FILL: the head slot of card `k` in tile `t` is filled, once the card's loan is in force (R184); reels that waited for
it are primed (R161). -/
def execHeadFill (t : Fin 8) (k : Fin 262144) (s : State) : Res :=
  .next <|
    if s.loans.any (fun l => l.card == (k : Nat) && tileOfReel l.reel == (t : Nat) && l.inForce) then
      let s1 := { s with heads := s.heads.map (fun (h : Nat × Nat × Bool) => if h.1 == (t : Nat) && h.2.1 == (k : Nat) then (h.1, h.2.1, true) else h) }
      s1.each ((s1.engines.filter (fun (e : Engine) => tileOfReel e.reel == (t : Nat))).map (fun (e : Engine) => e.reel)) (fun r a => a.primedUpdate r)
    else s

/-! ### Late data -/

/-- The ledger entry that shadows a late episode: a stack, crossbar port, link or DMA fault that is ACTIVE at the resource its
data comes from (R48, R192, R336). -/
def State.lateShadow (s : State) (r cause : Nat) : Option Nat :=
  let c := s.card (s.get (Fld.REEL_CARD r))
  if s.is (Fld.LDG_ACTIVE 3) then some 3
  else if s.is (Fld.LDG_ACTIVE 7) then some 7
  else if cause = 3 && s.get (Fld.MS_STRM_CFG_SRC_KIND c.stream) == 2 && s.is (Fld.LDG_ACTIVE 27) then some 27
  else if cause = 3 && s.get (Fld.MS_STRM_CFG_SRC_KIND c.stream) == 1 && s.is (Fld.LDG_ACTIVE 28) then some 28
  else none

/-- Reel `r` plays stored data now: a PLAY or PLAYN of a REPLAY reel past its anchor. -/
def State.playsData (s : State) (r : Nat) : Bool :=
  let e := s.eng r
  s.voice r == 0 && e.run && e.started && cueOp (s.curCue r).w != 0x30 && decide (e.anchor ≤ s.now)

/-- LATE_LEAF: the data of reel `r` is absent at this tick, by `cause`: 0 stack, 1 head, 2 unheaded target, 3 stream (R104, R189,
R190, R192, R193). Synthesised voices are never late; a stream is late only while FP = PP. -/
def execLateLeaf (r : Fin 1024) (cause : Fin 4) (s : State) : Res :=
  let t := tileOfReel r
  let e := s.eng r
  let c := s.card (s.get (Fld.REEL_CARD r))
  let real := (cause : Nat) ≠ 3 ∨ (c.streamed ∧ s.get (Fld.MS_STRM_FILL c.stream) = s.get (Fld.MS_STRM_PLAY c.stream))
  .next <|
    if s.reelState r = 2 ∧ s.playsData r ∧ e.late.isNone ∧ real then
      let s0 := s.onEng r (fun e => { e with hold := if e.anchor < s.now then s.reelValue r (s.now - 1) else e.hold, late := some (s.now, cause) })
      let s1 := ((s0.tilePulse (32 * t + 19) s.now).bump (Fld.REEL_LATE_EV r))
      let s2 := match s.lateShadow r cause with
        | some k => s1.mark k (markReel r)
        | none => s1.raisePerTile 22 t (markReel r)
      if s.get (Fld.REEL_LATE_POL r) = 3 ∧ e.guard ≤ s.now then s2.onEng r (fun e => { e with recAt := some (wordUp s.now) })
      else s2.enterState r 4
    else s

/-- LATE_RESUME: at a word boundary with the data of 64 words present, reel `r` returns to PLAYING at the position that device
time gives (R124, R191). -/
def execLateResume (r : Fin 1024) (s : State) : Res :=
  .next (if s.reelState r = 4 ∧ s.now % 8 = 0 then (s.endEpisode r s.now).enterState r 2 else s)

/-- RECOVERY_CUT: under LATE_POL = CUT the late cue of reel `r` is cut to RECOVER at X (R193). -/
def execRecoveryCut (r : Fin 1024) (s : State) : Res :=
  let t := tileOfReel r
  .next <|
    match (s.eng r).recAt with
    | none => s
    | some x =>
      if s.now < x || s.displaced r x || s.reelState r != 2 then s
      else
        let sp := s.get (Fld.REEL_SP r)
        let q := s.get (Fld.REEL_RECOVER r)
        let s1 := (((s.leaveCue r x).discardCuts r).setStacks r ⟨[], []⟩).onEng r (fun e => { e with
          recAt := none, guard := x + 512, hold := 0, deferred := [], lastCut := x, cutEntry := some (sp, ⟨q, 4, false, 0, 0, false, 0, 0, 1, x, 0⟩, false) })
        ((s1.bump (Fld.TL_CUT_CNT t)).flag (Fld.TL_CUT_EVT_RECOVER t)).runChain r x q (s1.targetWords r q)

end Sys2Proof.Machine
end

