-- ==== Sys2Proof/Machine/SegMem.lean ====
section
/-!
DEFINITION. Segment memory and scratchpads as the host and the engines reach them: windows, card port, cache, loans, streams,
refresh, march tests and reel records (R79 to R122, R135, R470).
-/
namespace Sys2Proof.Machine

/-! ### BAR2 (R84, R97, R437) -/

/-- BAR2_WRITE: a posted host write, checked beat by beat; `uncorr` names bursts that prove uncorrectable (R82 to R84, R97,
R437). Bytes past the end of segment memory reach nothing. -/
def execBar2Write (pf : Fin 4) (addr : Nat) (data : List (BitVec 8)) (uncorr : List Nat) (s : State) : Res :=
  .next (s.onHost fun s =>
    (((s.spoil uncorr).when (s.is Lat.STK_SR) (fun a => a.flag Fld.MS_EVT_SR_ACCESS)).writeSeg 0 pf addr (data.take (2 ^ 36 - addr))).2)

/-- BAR2_READ: a host read of `len` bytes, ignoring loans; above 4,096 bytes it is a Completer Abort (R83, R84, R99, R435,
R437). In DEEP_SLEEP, and in reading-room mode with its untrained stacks, it returns 0 (R401, R405). -/
def execBar2Read (pf : Fin 4) (addr len : Nat) (uncorr : List Nat) (s : State) : Res :=
  .next <|
    if s.asleep then (s.flag Fld.AON_PWR_EVT_SLEEP_ACCESS).emit (.hostRead pf addr (List.replicate len 0))
    else if s.get Fld.AON_PWR_STATUS_STATE = 5 then s.emit (.hostRead pf addr (List.replicate len 0))
    else if 4096 < len ∨ 2 ^ 36 < addr + len then (s.flag Fld.SYS_HIF_EVT_UR).emit (.hostError pf addr)
    else
      let (d, s1) := (s.spoil uncorr).segRead addr len
      s1.emit (.hostRead pf addr (d.map (fun b => b.toNat)))

/-! ### Card port (R90, R91) -/

/-- The 16 staged dwords. -/
def State.stagedCard (s : State) : List Nat := (List.range 16).map (fun i => s.get (Fld.MS_CARD_DATA i))

/-- CARD_WRITE: MS_CARD_CMD.WRITE; with READ in the same write it is refused with MULTI. The port decides in this cycle, and
every later reader sees the new card (R90, R91, R98). -/
def execCardWrite (withRead : Bool) (s : State) : Res :=
  .next <| s.onHost fun s =>
    if s.is Fld.MS_CARD_CMD_BUSY then s
    else if withRead then s.set Fld.MS_CARD_CMD_RESULT 4
    else
      let k := s.get Fld.MS_CARD_IDX_IDX
      let res := s.cardCheck k s.stagedCard
      let s1 := s.sets [(Fld.MS_CARD_CMD_BUSY, 1), (Lat.CARD_WR, 1), (Lat.CARD_RES, res)]
      if res = 0 then s1.cardStore k s.stagedCard else s1

/-- CARD_READ: MS_CARD_CMD.READ; with WRITE in the same write it is refused with MULTI (R90). -/
def execCardRead (withWrite : Bool) (s : State) : Res :=
  .next <| s.onHost fun s =>
    if s.is Fld.MS_CARD_CMD_BUSY then s
    else if withWrite then s.set Fld.MS_CARD_CMD_RESULT 4
    else
      let k := s.get Fld.MS_CARD_IDX_IDX
      let bad := (s.card k).valid && (s.card k).crc != crc32 (Memory.reads s.mem (64 * k) 60)
      s.sets [(Fld.MS_CARD_CMD_BUSY, 1), (Lat.CARD_WR, 0), (Lat.CARD_RES, if bad then 3 else 0)]

/-- CARD_CMD_COMPLETE: the command in progress reports RESULT and clears BUSY; a read has placed the card (R90, R91). -/
def execCardCmdComplete (s : State) : Res :=
  .next <|
    if !s.is Fld.MS_CARD_CMD_BUSY then s
    else
      let res := s.get Lat.CARD_RES
      let s1 := s.sets [(Fld.MS_CARD_CMD_BUSY, 0), (Fld.MS_CARD_CMD_RESULT, res), (Fld.MS_EVT_CARD_DONE, 1)]
      let s2 := s1.when (res == 1) (fun a => a.flag Fld.MS_EVT_CARD_BUSY)
      let s3 := s2.when (res == 2 || res == 3) (fun a => a.flag Fld.MS_EVT_CARD_ERR)
      if s.is Lat.CARD_WR then s3
      else s3.each (List.range 16) (fun i a => a.set (Fld.MS_CARD_DATA i) ((s.cardDwords (s.get Fld.MS_CARD_IDX_IDX)).getD i 0))

/-! ### Card cache and windows (R92, R93, R138, R118) -/

/-- CARD_CACHE_FILL: tile `t` fills card `k` from the catalogue; an invalid card faults every cue that refers to it, and
CARD_BAD is raised once with the referring reels (R89, R92). The oldest entry leaves a full cache. -/
def execCardCacheFill (t : Fin 8) (k : Fin 262144) (s : State) : Res :=
  let mine := s.cards.filter (fun p => p.1 == (t : Nat))
  let kept := if mine.length < 2048 then s.cards else s.cards.filter (fun p => some p != mine.head?)
  let s1 := { s with cards := if s.cards.contains ((t : Nat), (k : Nat)) then s.cards else kept ++ [((t : Nat), (k : Nat))] }
  let mark := fun (c : WinCue) => if (cueOp c.w == 1 || cueOp c.w == 2) && cueCard c.w == (k : Nat) && c.fault == 0 then { c with fault := 15 } else c
  let refers := ((s.engines.filter (fun e => tileOfReel e.reel == (t : Nat))).map (fun e => e.reel)).filter (fun r => (s.windowCards r).contains k)
  .next <|
    if s.cardInvalid k then
      (s1.each refers (fun r a => a.onEng r (fun e => { e with window := e.window.map mark, targets := e.targets.map (fun p => (p.1, p.2.map mark)) }))).raiseOnce
        17 (unitBlock 35) k (refers.flatMap markReel)
    else s1

/-- CUE_WINDOW_ENTER: a cue enters the window of reel `r`: the window is brought up to date, which reads and checks what has
come into it and takes its loans (R93, R141); `ecc` is 1 for a corrected and 2 for an uncorrectable error on the read
of cue `q` (R118). -/
def execCueWindowEnter (r : Fin 1024) (q : Fin 65536) (ecc : Fin 3) (s : State) : Res :=
  let t := tileOfReel r
  let e := s.eng r
  .next <|
    if ¬(1 ≤ s.reelState r ∧ s.reelState r ≤ 4) then s
    else
      let s1 := if s.reelState r = 1 then s.buildWindow r [] (s.get (Fld.REEL_SP r)) false
        else match advance (s.curCue r).q (s.curCue r).w (s.stacks r) with
          | .to n _ => s.buildWindow r (e.window.take 1) n false
          | _ => s
      match ecc with
      | 0 => s1
      | 1 => s1.bump (Fld.TL_SP_ECC_CORR t)
      | 2 =>
        let mark := fun (c : WinCue) => if c.q == (q : Nat) then { c with fault := 18 } else c
        let s2 := ((s1.bump (Fld.TL_SP_ECC_UNCORR t)).flag (Fld.TL_SP_EVT_ECC_UNCORR t)).raise 20 (unitTile t) (t + (2 + (q : Nat) / 8192) * 2 ^ 8) (markReel r)
        s2.onEng r (fun e => { e with window := e.window.take 1 ++ (e.window.drop 1).map mark, targets := e.targets.map (fun p => (p.1, p.2.map mark)) })

/-- LOAN_IN_FORCE: every leaf that the first loan of card `k` covers is marked: its loans are in force (R96, R161). -/
def execLoanInForce (k : Fin 262144) (s : State) : Res :=
  .next <|
    match s.firstTaken k with
    | none => s
    | some t =>
      if s.now < forceTick (s.coveredLeaves (s.card k)) t then s
      else
        let s1 := { s with loans := s.loans.map (fun (l : Loan) => if l.card == (k : Nat) then { l with inForce := true } else l) }
        s1.each ((s.loans.filter (fun l => l.card == (k : Nat))).map (fun l => l.reel)) (fun r a => a.primedUpdate r)

/-- WDROP_CLR: the dropped-beat count is cleared and the first-drop latch rearmed (R97). -/
def execWdropClr (s : State) : Res := .next (s.onHost fun s => (s.sets [(Fld.MS_WDROP_CNT, 0), (Lat.WDROP_LATCHED, 0)]))

/-! ### Streams (R101 to R109, R470) -/

/-- The loan count of the card bound to slot `n` is 0, or none is bound. -/
def State.slotFree (s : State) (n : Nat) : Bool := !s.is (Fld.MS_STRM_CARD_BOUND n) || s.loanCount (s.get (Fld.MS_STRM_CARD_CARD n)) == 0

/-- STREAM_BIND: a write of MS_STRM_CARD[n] (R470). -/
def execStreamBind (n : Fin 1024) (v : Nat) (s : State) : Res :=
  .next <| s.onHost fun s =>
    if s.slotFree n then (s.sets [(Fld.MS_STRM_CARD_BOUND n, bitsOf v 31 1), (Fld.MS_STRM_CARD_CARD n, bitsOf v 0 18)]).slotReset n
    else s.flag Fld.MS_EVT_BIND_REFUSED

/-- STREAM_RESET: MS_STRM_CFG[n].RESET (R107). -/
def execStreamReset (n : Fin 1024) (s : State) : Res := .next (s.onHost fun s => (if s.slotFree n then s.slotReset n else s))

/-- HOST_COMMIT_WRITE: PF `pf` writes a sequence number to MS_STRM_COMMIT[n]; the commit is offered once its earlier writes have
landed (R108, R109). -/
def execHostCommitWrite (pf : Fin 4) (n : Fin 1024) (seq : Nat) (s : State) : Res :=
  .next (s.onHost fun s => { s.set (Fld.MS_STRM_COMMIT_SEQ n) seq with offers := s.offers ++ [((n : Nat), (pf : Nat), seq % 2 ^ 32)] })

/-- STREAM_COMMIT: slot `n` takes or refuses the oldest host commit offered to it (R102, R103, R109). -/
def execStreamCommit (n : Fin 1024) (s : State) : Res :=
  .next <|
    match s.offers.find? (fun o => o.1 == (n : Nat)) with
    | none => s
    | some (_, pf, seq) => (({ s with offers := removeFirst (fun o => o.1 == (n : Nat)) s.offers }).commitSlot n 3 pf seq).2

/-- PLAY_POINTER_ADVANCE: the reel that plays slot `n` has completed leaf PP (R101, R104). -/
def execPlayPointerAdvance (n : Fin 1024) (s : State) : Res :=
  .next <|
    if s.get (Lat.STRM_NEXT n) = 0 ∨ s.now < s.get (Lat.STRM_NEXT n) then s
    else
      let s1 := (s.playAdvance n).bumpWrap (Lat.STRM_LEAF n)
      match s.boundCard n with
      | none => s1.set (Lat.STRM_NEXT n) 0
      | some (k, c) =>
        match s.loans.find? (fun l => l.card == k) with
        | some l => s1.set (Lat.STRM_NEXT n) (s.leafTick l.reel c (s.get (Lat.STRM_LEAF n) + 2))
        | none => s1.set (Lat.STRM_NEXT n) 0

/-! ### Refresh and temperature (R112, R113) -/

/-- The bound between refresh levels `n - 1` and `n`, in 1/16 degree (R112). -/
def refreshBound (n : Nat) : Int := match n with | 1 => 85 * 16 | 2 => 105 * 16 | _ => 125 * 16

/-- REFRESH_STEP_DOWN: stack `k` has read at least 3 degrees below the bound for 1 ms, 100 readings (R112, R459). -/
def execRefreshStepDown (k : Fin 4) (s : State) : Res :=
  .next <|
    if 0 < s.get (Fld.MS_STK_STATUS_REFRESH k) ∧ 100 ≤ s.get (Lat.STK_COLD_SINCE k) then
      (s.set (Fld.MS_STK_STATUS_REFRESH k) (s.get (Fld.MS_STK_STATUS_REFRESH k) - 1)).clr (Lat.STK_COLD_SINCE k)
    else s

/-- BOOKING_THERMAL_CLEAR: stack `k` has stayed at least 3 degrees below the bound of the image class for 1 ms: the episode
ends and, when no stack is over, parked outputs resume (R113). -/
def execBookingThermalClear (k : Fin 4) (s : State) : Res :=
  .next <|
    if s.is (Fld.MS_STK_STATUS_OVER_CLASS k) && decide (100 ≤ s.get (Lat.STK_BOOK_COLD k)) then
      let s1 := ((s.sets [(Fld.MS_STK_STATUS_OVER_CLASS k, 0), (Fld.MS_EVT_THERMAL, 1)]).archive 12 (unitStack k) s.now
        [s.get (Fld.MS_STK_STATUS_TJ k), 16 + (k : Nat) + 2 * 2 ^ 8])
      if (List.range 4).any (fun i => s1.is (Fld.MS_STK_STATUS_OVER_CLASS i)) then s1 else (s1.persist 19 false).parkAll pkThermBook false
    else s

/-! ### Reel records and scratchpads (R115 to R122, R135) -/

/-- A host may write the record of reel `r`: it is IDLE or FAULTED. -/
def State.recOpen (s : State) (r : Nat) : Bool := s.reelState r == 0 || s.reelState r == 6

/-- Write dword `j` of a reel record: its RW fields, and through BAR4 (`raw`) its reserved bits too (R21, R135). -/
def State.recWrite (s : State) (r j v : Nat) (raw : Bool) : State :=
  s.each (layout .REEL j) (fun f a => if f.acc == .RW || (raw && f.acc == .RSV) then a.set ⟨.REEL, r, j, f.lo, f.w⟩ (bitsOf v f.lo f.w) else a)

/-- REEL_RECORD_WRITE: a BAR0 write of dword `j` of reel record `r` (R135). -/
def execReelRecordWrite (r : Fin 1024) (j : Fin 64) (v : Nat) (s : State) : Res :=
  .next (s.onHost fun s => (if s.recOpen r then s.recWrite r j v false else s.flag (Fld.TL_REEL_EVT_REC_BUSY (tileOfReel r))))

/-- The reel and byte of its record at a BAR4 address, if the address lies in a record window (R115). -/
def recordAt (a : Nat) : Option (Nat × Nat) :=
  let off := a % 0x400000
  if 0x20000 ≤ off ∧ off < 0x28000 then some (128 * (a / 0x400000) + (off - 0x20000) / 256, off % 256) else none

/-- The bank of a BAR4 address is offline (R121). -/
def State.offline (s : State) (a : Nat) : Bool := (s.get (Fld.TL_SP_OFFLINE (a / 0x400000))).testBit (a % 0x400000 / 0x20000)

/-- The byte at a BAR4 address, without side effects; record bytes come from the record, reserved bits as stored. -/
def State.spByte (s : State) (a : Nat) : BitVec 8 :=
  match recordAt a with
  | some (r, b) => BitVec.ofNat 8 (s.word .REEL r (b / 4) / 2 ^ (8 * (b % 4)))
  | none => Memory.read s.sp a

/-- Store one byte at a BAR4 address, in a record as R135 allows. -/
def State.spPut (s : State) (a : Nat) (v : BitVec 8) : State :=
  match recordAt a with
  | some (r, b) =>
    let w := s.word .REEL r (b / 4)
    let old := w / 2 ^ (8 * (b % 4)) % 256
    if s.recOpen r then s.recWrite r (b / 4) (w - old * 2 ^ (8 * (b % 4)) + v.toNat * 2 ^ (8 * (b % 4))) true
    else s.flag (Fld.TL_REEL_EVT_REC_BUSY (tileOfReel r))
  | none => s.spStore a [v]

/-- Bytes written through BAR4 or DMA: an offline bank drops them (R116, R121). -/
def State.spWrite (s : State) : Nat → List (BitVec 8) → State
  | _, [] => s
  | a, b :: l =>
    (if 2 ^ 25 ≤ a then s else if s.offline a then s.flag (Fld.TL_SP_EVT_OFFLINE_ACCESS (a / 0x400000)) else s.spPut a b).spWrite (a + 1) l

/-- Bytes read through BAR4 or DMA: an offline bank reads 0 (R121). -/
def State.spRead (s : State) (a n : Nat) : List (BitVec 8) × State :=
  ((List.range n).map (fun i => if s.offline (a + i) then 0 else s.spByte (a + i)),
   s.each ((List.range 8).filter (fun t => (List.range n).any (fun i => (a + i) / 0x400000 == t && s.offline (a + i)))) (fun t b => b.flag (Fld.TL_SP_EVT_OFFLINE_ACCESS t)))

/-- SCRATCHPAD_WRITE: a host write through BAR4, merged into the words it touches (R116, R117, R121, R435); `ecc` is 1 for a
corrected and 2 for an uncorrectable error on the merge read (R118). -/
def execScratchpadWrite (pf : Fin 4) (addr : Nat) (data : List (BitVec 8)) (ecc : Fin 3) (s : State) : Res :=
  let t := addr / 0x400000
  let s1 := s.spWrite addr data
  .next <| s.onHost fun s =>
    if 8 ≤ t then s.emit (.hostError pf addr)
    else match ecc with
      | 0 => s1
      | 1 => s1.bump (Fld.TL_SP_ECC_CORR t)
      | 2 => ((s1.bump (Fld.TL_SP_ECC_UNCORR t)).flag (Fld.TL_SP_EVT_ECC_UNCORR t)).raise 20 (unitTile t) (t + addr % 0x400000 / 0x20000 * 2 ^ 8) (markTile t)

/-- The bytes of a bank, and a bank filled with bytes; records included. -/
def State.bankBytes (s : State) (t b : Nat) : List (BitVec 8) := (List.range 0x20000).map (fun i => s.spByte (t * 0x400000 + b * 0x20000 + i))

/-- A bank that reads 0: its stored bytes go, and every field of its reel records is 0 (R119). -/
def State.bankClear (s : State) (t b : Nat) : State :=
  let lo := t * 0x400000 + b * 0x20000
  let s1 := { s with sp := s.sp.filter (fun (c : Host.Cell) => !(lo ≤ c.1 && c.1 < lo + 0x20000)) }
  if b = 1 then s1.each (List.range 128) (fun l a => a.each (List.range 64) (fun j a => a.each (layout .REEL j) (fun f a => a.clr ⟨.REEL, 128 * t + l, j, f.lo, f.w⟩))) else s1

/-- MARCH_START: TL_MARCH_CTRL of tile `t` is written with START = 1: a test starts, or is refused (R119 to R121). -/
def execMarchStart (t : Fin 8) (v : Nat) (s : State) : Res :=
  let b := bitsOf v 0 5
  let mode := bitsOf v 30 1
  let s1 := s.sets [(Fld.TL_MARCH_CTRL_MODE t, mode), (Fld.TL_MARCH_CTRL_BANK t, b)]
  .next <| s.onHost fun s =>
    if !v.testBit 31 then s1
    else if s.is (Fld.TL_MARCH_STATUS_BUSY t) then s.set (Fld.TL_MARCH_STATUS_RESULT t) 4
    else if b = 0 ∨ (b = 31 ∧ mode = 1) then s1.set (Fld.TL_MARCH_STATUS_RESULT t) 3
    else if 1 ≤ b ∧ b ≤ 30 ∧ !s.tileIdle t then s1.set (Fld.TL_MARCH_STATUS_RESULT t) 2
    else
      let s2 := s1.sets [(Fld.TL_MARCH_STATUS_BUSY t, 1), (Fld.TL_MARCH_STATUS_BANK t, b), (Lat.MARCH_MODE t, mode),
        (Fld.TL_SP_OFFLINE t, s.get (Fld.TL_SP_OFFLINE t) ||| 1 <<< b)]
      if mode = 1 then (s2.bankClear t 31).spStore ((t : Nat) * 0x400000 + 31 * 0x20000) (s.bankBytes t b) else s2

/-- MARCH_DONE: the test of tile `t` ends with `fails` failing words, the first at `addr` (R119, R122). -/
def execMarchDone (t : Fin 8) (fails addr : Nat) (s : State) : Res :=
  let b := s.get (Fld.TL_MARCH_STATUS_BANK t)
  let off := s.get (Fld.TL_SP_OFFLINE t)
  .next <|
    if !s.is (Fld.TL_MARCH_STATUS_BUSY t) then s
    else
      let s1 := (if s.is (Lat.MARCH_MODE t) then s else s.bankClear t b).sets [(Fld.TL_MARCH_STATUS_BUSY t, 0), (Fld.TL_MARCH_STATUS_FAIL_CNT t, min fails 65535)]
      if fails = 0 then s1.sets [(Fld.TL_MARCH_STATUS_RESULT t, 0), (Fld.TL_SP_OFFLINE t, putBit off b false), (Fld.TL_SP_EVT_MARCH_DONE t, 1)]
      else (s1.sets [(Fld.TL_MARCH_STATUS_RESULT t, 1), (Fld.TL_MARCH_ADDR t, addr)]).raise 20 (unitTile t) ((t : Nat) + b * 2 ^ 8) (markTile t)

end Sys2Proof.Machine
end

