-- ==== Sys2Proof/Machine/Dma.lean ====
section
/-!
DEFINITION. The DMA queues: their states, the ring, descriptors and their writeback (R438 to R445). A descriptor command carries
what the engine fetched from host memory; it runs the whole descriptor, whose writeback is a command of its own.
-/
namespace Sys2Proof.Machine

/-! ### The ring (R438) -/

/-- Entries of queue `q`: 2^LOG2, other values acting as the nearer limit. -/
def State.ringSize (s : State) (q : Nat) : Nat := 2 ^ max 4 (min 16 (s.get (Fld.DMA_Q_SIZE_LOG2 q)))

/-- The bus address of the ring. -/
def State.ringBase (s : State) (q : Nat) : Nat := s.get2 (Fld.DMA_Q_BASE_LO q) (Fld.DMA_Q_BASE_HI q)

/-- How far an index lies ahead of HEAD. -/
def State.ahead (s : State) (q idx : Nat) : Nat := (idx + s.ringSize q - s.get (Fld.DMA_Q_HEAD q) % s.ringSize q) % s.ringSize q

/-- Entries that the host has added and HEAD has not passed. -/
def State.unprocessed (s : State) (q : Nat) : Nat := s.ahead q (s.get (Fld.DMA_Q_TAIL q))

/-- Descriptors of queue `q` that have ended and wait for their writeback. -/
def State.ended (s : State) (q : Nat) : List DmaDone := s.dmaDone.filter (fun x => x.q == q)

/-- A write of a queue's registers: by PF0 or the owner, else dropped (R432). -/
def State.asOwner (s : State) (pf q : Nat) (f : State → State) : State :=
  s.onHost (fun a => if pf = 0 ∨ pf = q / 16 then f a else a.flag Fld.SYS_HIF_EVT_PRIV_DENIED)

/-! ### Queue states (R443) -/

/-- DMA_QUEUE_ENABLE: DMA_Q_CTRL.EN = 1 (R443). The byte count starts when the queue leaves OFF (R445). -/
def execDmaQueueEnable (pf : Fin 4) (q : Fin 64) (s : State) : Res :=
  .next (s.asOwner pf q (fun a =>
    let a1 := a.flag (Fld.DMA_Q_CTRL_EN q)
    match a.get (Fld.DMA_Q_STATUS_STATE q) with
    | 0 => if a.ringBase q % 64 ≠ 0 then a1.flag (Fld.DMA_Q_EVT_CFG_ERR q)
           else a1.sets [(Fld.DMA_Q_STATUS_STATE q, 1), (Fld.DMA_Q_BYTES_LO q, 0), (Fld.DMA_Q_BYTES_HI q, 0), (Lat.DMA_ENDING q, 0)]
    | 2 => a1.sets [(Fld.DMA_Q_STATUS_RESTART_PENDING q, 1), (Fld.DMA_Q_EVT_RESTART_QUEUED q, 1)]
    | _ => a1))

/-- DMA_QUEUE_DISABLE: DMA_Q_CTRL.EN = 0 (R443). A descriptor that is in progress may still end. -/
def execDmaQueueDisable (pf : Fin 4) (q : Fin 64) (s : State) : Res :=
  .next (s.asOwner pf q (fun a =>
    let a1 := a.clr (Fld.DMA_Q_CTRL_EN q)
    match a.get (Fld.DMA_Q_STATUS_STATE q) with
    | 1 => a1.sets [(Fld.DMA_Q_STATUS_STATE q, 2), (Lat.DMA_ENDING q, if (a.ended q).length < a.unprocessed q then 1 else 0)]
    | 2 => a1.clr (Fld.DMA_Q_STATUS_RESTART_PENDING q)
    | 3 => a1.clr (Fld.DMA_Q_STATUS_STATE q)
    | _ => a1))

/-- DMA_STOP_DONE: the reads of a stopping queue have returned and its ended descriptors are written back: OFF, or RUN when a
restart is pending (R443). -/
def execDmaStopDone (q : Fin 64) (s : State) : Res :=
  .next <|
    if s.get (Fld.DMA_Q_STATUS_STATE q) = 2 ∧ (s.ended q).isEmpty then
      s.sets [(Fld.DMA_Q_STATUS_STATE q, s.get (Fld.DMA_Q_STATUS_RESTART_PENDING q)), (Fld.DMA_Q_STATUS_RESTART_PENDING q, 0), (Lat.DMA_ENDING q, 0)]
    else s

/-- DMA_TAIL_WRITE: a write of DMA_Q_TAIL (R438). TAIL moves forward only: a value nearer to HEAD than the one in force would
cross HEAD, or empty a ring that still holds entries, and is ignored with TAIL_BAD. -/
def execDmaTailWrite (pf : Fin 4) (q : Fin 64) (v : Nat) (s : State) : Res :=
  .next (s.asOwner pf q (fun a =>
    if a.ahead q (v % 2 ^ 16) < a.unprocessed q then a.flag (Fld.DMA_Q_EVT_TAIL_BAD q) else a.set (Fld.DMA_Q_TAIL q) v))

/-! ### Descriptors (R439, R440, R442, R444) -/

/-- A descriptor as its fields. -/
structure Desc where
  op : Nat
  commit : Bool
  irq : Bool
  fence : Bool
  slot : Nat
  len : Nat
  host : Nat
  dev : Nat
  seq : Nat
  /-- Its reserved bits are all 0. -/
  clean : Bool
deriving DecidableEq, Repr

/-- The fields of 8 dwords (R439). -/
def descOf (d : List Nat) : Desc where
  op := bitsOf (d.getD 0 0) 0 8
  commit := (d.getD 0 0).testBit 8
  irq := (d.getD 0 0).testBit 9
  fence := (d.getD 0 0).testBit 10
  slot := bitsOf (d.getD 0 0) 16 10
  len := bitsOf (d.getD 1 0) 0 26
  host := lo32 (d.getD 2 0) + lo32 (d.getD 3 0) * 2 ^ 32
  dev := lo32 (d.getD 4 0) + lo32 (d.getD 5 0) * 2 ^ 32
  seq := lo32 (d.getD 6 0)
  clean := bitsOf (d.getD 0 0) 26 6 == 0 && bitsOf (d.getD 0 0) 11 5 == 0 && bitsOf (d.getD 1 0) 26 6 == 0

/-- BAD_DESC (R440). -/
def Desc.bad (d : Desc) : Bool :=
  !(1 ≤ d.op && d.op ≤ 5 && d.clean) || d.len == 0 || (d.commit && d.op != 1) ||
    (match d.op with
      | 3 => decide (2 ^ 25 < d.dev + d.len)
      | 4 => decide (2 ^ 25 < d.dev + d.len)
      | 5 => d.len % 64 != 0 || decide (262144 < d.dev + d.len / 64)
      | _ => decide (2 ^ 36 < d.dev + d.len))

/-- The queue may run its next descriptor: RUN, or STOPPING with one in progress; its PF in D0 with bus mastering; an entry below
TAIL within 8 of HEAD; a fence behind nothing; no faulted descriptor ahead; the fabric powered, and the stacks out of self-refresh
where `seg` says that they are needed (R84, R434, R438, R439, R442, R445). -/
def State.dmaReady (s : State) (q : Nat) (fence seg : Bool) : Bool :=
  let st := s.get (Fld.DMA_Q_STATUS_STATE q)
  let l := s.ended q
  (st == 1 || (st == 2 && s.is (Lat.DMA_ENDING q))) && s.is (Fld.SYS_PF_CFG_BME (q / 16)) && !s.is (Fld.SYS_PF_CFG_D3HOT (q / 16)) &&
    !s.asleep && s.get Fld.AON_PWR_STATUS_STATE != 5 && !(seg && s.is Lat.STK_SR) &&
    decide (l.length < s.unprocessed q) && decide (l.length < 8) && (!fence || l.isEmpty) && l.all (fun x => x.status != 3 && x.status != 4)

/-- A descriptor of queue `q` ends: its result waits for the writeback, `n` bytes are counted (R441, R445). -/
def State.dmaEnd (s : State) (q status count n : Nat) (irq : Bool) : State :=
  let b := s.get2 (Fld.DMA_Q_BYTES_LO q) (Fld.DMA_Q_BYTES_HI q) + n
  { (s.set2 (Fld.DMA_Q_BYTES_LO q) (Fld.DMA_Q_BYTES_HI q) (b % 2 ^ 64)).clr (Lat.DMA_ENDING q) with
    dmaDone := s.dmaDone ++ [(⟨q, status, count, irq⟩ : DmaDone)] }

/-- A run of a descriptor ends at a chunk boundary: 4 KiB of the host address or of the descriptor (R443, R445). -/
def Desc.boundary (d : Desc) (moved : Nat) : Bool := (d.host + moved) % 4096 == 0 || moved % 4096 == 0

/-- Run the descriptor `d` of operation `op`. `move n` moves its first `n` bytes and answers what was lost (status 1 or 6 with its
count, none for nothing) and the state. A bad descriptor moves nothing; an error from the host ends it after `moved` bytes; in
STOPPING it ends with ABORTED after `moved` bytes, unless that is all of it; a commit is offered when the whole data has
passed (R440 to R444). -/
def State.runDesc (s : State) (q op : Nat) (seg : Bool) (words : List Nat) (moved : Nat) (err : Bool)
    (move : Desc → Nat → State → Option (Nat × Nat) × State) : State :=
  let d := descOf words
  if d.op ≠ op ∨ !s.dmaReady q d.fence seg then s
  else if d.bad then s.dmaEnd q 3 0 0 d.irq
  else if err then (move d (min moved d.len) s).2.dmaEnd q 4 0 (min moved d.len) d.irq
  else if s.get (Fld.DMA_Q_STATUS_STATE q) = 2 ∧ moved < d.len then
    if d.boundary moved then (move d moved s).2.dmaEnd q 5 moved moved d.irq else s
  else
    let r := move d d.len s
    let c := if d.commit then r.2.commitSlot d.slot 1 q d.seq else (true, r.2)
    match r.1 with
    | some (status, count) => c.2.dmaEnd q status count d.len d.irq
    | none => if c.1 then c.2.dmaEnd q 0 d.len d.len d.irq else c.2.dmaEnd q 2 0 d.len d.irq

/-- WRITE_SEG: host data into segment memory, checked beat by beat (R97, R440, R444). -/
def execWriteSeg (q : Fin 64) (d : List Nat) (moved : Nat) (data : List (BitVec 8)) (uncorr : List Nat) (err : Bool) (s : State) : Res :=
  .next (s.runDesc q 1 true d moved err (fun x n a =>
    let w := (a.spoil uncorr).writeSeg 1 q x.dev (data.take n)
    (if w.1 = 0 then none else some (1, w.1), w.2)))

/-- READ_SEG: segment memory to host memory, any region (R83, R440). -/
def execReadSeg (q : Fin 64) (d : List Nat) (moved : Nat) (uncorr : List Nat) (err : Bool) (s : State) : Res :=
  .next (s.runDesc q 2 true d moved err (fun x n a =>
    let r := (a.spoil uncorr).segRead x.dev n
    (none, r.2.emit (.hostWrite x.host (r.1.map (fun b => b.toNat))))))

/-- WRITE_SP: host data into the scratchpads (R116, R121, R135, R440). -/
def execWriteSp (q : Fin 64) (d : List Nat) (moved : Nat) (data : List (BitVec 8)) (err : Bool) (s : State) : Res :=
  .next (s.runDesc q 3 false d moved err (fun x n a => (none, a.spWrite x.dev (data.take n))))

/-- READ_SP: scratchpads to host memory (R121, R440). -/
def execReadSp (q : Fin 64) (d : List Nat) (moved : Nat) (err : Bool) (s : State) : Res :=
  .next (s.runDesc q 4 false d moved err (fun x n a =>
    let r := a.spRead x.dev n
    (none, r.2.emit (.hostWrite x.host (r.1.map (fun b => b.toNat))))))

/-- Cards in order, one per 64 bytes, until one is refused: how many were written, whether one was refused (R91, R440, R441). -/
def State.dmaCards (s : State) (k : Nat) (data : List (BitVec 8)) : Nat → Nat → Nat × Bool × State
  | 0, n => (n, false, s)
  | fuel + 1, n =>
    let d := (List.range 16).map (fun i => leValue ((data.drop (64 * n + 4 * i)).take 4))
    if s.cardCheck (k + n) d ≠ 0 then (n, true, s)
    else (s.cardStore (k + n) d).dmaCards k data fuel (n + 1)

/-- CARD: cards through the card port (R91, R440, R441). -/
def execDmaCard (q : Fin 64) (d : List Nat) (moved : Nat) (data : List (BitVec 8)) (err : Bool) (s : State) : Res :=
  .next (s.runDesc q 5 true d moved err (fun x n a =>
    let r := a.dmaCards x.dev (data.take n) (n / 64) 0
    (if r.2.1 then some (6, r.1) else none, r.2.2)))

/-! ### Writeback (R441, R442) -/

/-- BAD_DESC and HOST_ERR fault the queue, and DMA_FAULT is raised once per queue (R334, R442). A stop under way completes all the
same (R443). -/
def State.dmaFault (s : State) (q : Nat) : State :=
  let s1 := (s.sets [(Fld.DMA_Q_EVT_FAULT q, 1), (Fld.DMA_EVT_Q_FAULT, 1)]).when (s.get (Fld.DMA_Q_STATUS_STATE q) == 1) (fun a => a.set (Fld.DMA_Q_STATUS_STATE q) 3)
  let s2 := if s.is (Fld.LDG_ACTIVE 28) then s1 else s1.resetKeys (fun k => k.r == .L_DMA_RAISED)
  if s2.is (Lat.DMA_RAISED q) then s2 else (s2.flag (Lat.DMA_RAISED q)).raise 28 (unitBlock 6) q []

/-- The result `x` is written to WB of the descriptor at HEAD; HEAD advances past it unless it faulted the queue (R441, R442). -/
def State.writeBack (s : State) (x : DmaDone) : State :=
  let q := x.q
  let h := s.get (Fld.DMA_Q_HEAD q) % s.ringSize q
  let s1 := (s.emit (.hostWrite (s.ringBase q + 32 * h + 28) ((leBytes 4 (2 ^ 31 + x.status * 2 ^ 28 + x.count % 2 ^ 26)).map (fun b => b.toNat)))).when
    x.irq (fun a => a.flag (Fld.DMA_Q_EVT_DESC_DONE q))
  if x.status = 3 ∨ x.status = 4 then s1.dmaFault q
  else
    let s2 := (s1.set (Fld.DMA_Q_HEAD q) ((h + 1) % s.ringSize q)).when (x.status == 1) (fun a => a.flag (Fld.DMA_Q_EVT_DROPPED q))
    s2.when (s2.unprocessed q == 0) (fun a => a.flag (Fld.DMA_Q_EVT_IDLE q))

/-- DESC_WRITEBACK: the oldest ended descriptor of queue `q` is written back. With none, the next descriptor is one that has no
row: `d` with a reserved OP (BAD_DESC), or one whose fetch failed, `err` (HOST_ERR) (R440 to R442). -/
def execDescWriteback (q : Fin 64) (d : List Nat) (err : Bool) (s : State) : Res :=
  let x := descOf d
  .next <|
    match (s.ended q).head? with
    | some r => ({ s with dmaDone := removeFirst (fun y => y.q == (q : Nat)) s.dmaDone }).writeBack r
    | none =>
      if s.dmaReady q false false && (err || !(1 ≤ x.op && x.op ≤ 5)) then
        (s.clr (Lat.DMA_ENDING q)).writeBack ⟨q, if err then 4 else 3, 0, !err && x.irq⟩
      else s

end Sys2Proof.Machine
end

