-- ==== Sys2Proof/Machine/HostIf.lean ====
section
/-!
DEFINITION. The host interface: resets and power states of functions (R434), register writes and reads that have no row of their
own (R20 to R25, R432, R435), the slow domain's writes (R23, R24).
-/
namespace Sys2Proof.Machine

/-! ### Functions (R430 to R434) -/

/-- Target `t` ends its service as if by EOI, and its presentation is withdrawn (R434). -/
def State.targetReset (s : State) (t : Nat) : State :=
  (s.sets [(Fld.IC_TGT_STATUS_INSVC t, 0), (Fld.IC_TGT_STATUS_INSVC_SRC t, 0x3FF)]).withdraw t

/-- The configuration space and MSI-X of PF `f` take their reset values; `priv` says that SYS_PF_CFG.PRIV does too (R434). -/
def State.functionReset (s : State) (f : Nat) (priv : Bool) : State :=
  (s.resetKeys (fun k => k.i == f && (k.r == .SYS_MSIX || k.r == .SYS_MSIX_PBA || k.r == .L_PF_FMASK || k.r == .L_PF_PME_EN ||
    (k.r == .SYS_PF_CFG && (priv || k.lo != 0))))).targetReset f

/-- DMA queue `q` goes to OFF with no writeback for the descriptors in progress (R434). -/
def State.queueReset (s : State) (q : Nat) : State :=
  { s.sets [(Fld.DMA_Q_STATUS_STATE q, 0), (Fld.DMA_Q_STATUS_RESTART_PENDING q, 0), (Fld.DMA_Q_CTRL_EN q, 0), (Lat.DMA_ENDING q, 0)] with
    dmaDone := s.dmaDone.filter (fun x => x.q != q) }

/-- Everything that the loss of the link resets, with the state of the link in the ledger (R334, R434). -/
def State.hostLinkDown (s : State) (link : Nat) : State :=
  let s1 := (s.each (List.range 4) (fun f a => a.functionReset f true)).each (List.range 64) (fun q a => a.queueReset q)
  ((s1.sets [(Fld.SYS_HIF_STATUS_UP, 0), (Fld.SYS_HIF_STATUS_FLIT, 0), (Fld.SYS_HIF_STATUS_WIDTH, 0), (Fld.SYS_HIF_STATUS_SPEED, 0),
    (Fld.SYS_HIF_EVT_LINK_RESET, 1)]).persist 10 true).raise 10 (unitBlock 5) link []
    |>.reroute

/-- HOST_LINK_RESET: PERST#, hot reset or Data Link Layer down, `link` being the state of the link (R434). -/
def execHostLinkReset (link : Nat) (s : State) : Res := .next (s.hostLinkDown link)

/-- The PCIe lanes are under EXTEST (R465, R466). -/
def State.inExtest (s : State) : Bool := [0, 4, 5].contains (s.get Lat.TAP_IR)

/-- HOST_LINK_UP: Data Link Layer up at a rate and width of R430; HOST_LINK no longer persists (R434). A partner without such a
rate leaves the link down, with HOST_LINK raised. Under EXTEST the link stays down (R466). -/
def execHostLinkUp (flit : Bool) (width : Fin 64) (speed : Fin 16) (s : State) : Res :=
  .next <|
    if s.inExtest || s.is Fld.SYS_HIF_STATUS_UP then s
    else if 4 ≤ (speed : Nat) ∧ (speed : Nat) ≤ 6 ∧ [1, 4, 8, 16].contains (width : Nat) then
      (s.sets [(Fld.SYS_HIF_STATUS_UP, 1), (Fld.SYS_HIF_STATUS_FLIT, flit.toNat), (Fld.SYS_HIF_STATUS_WIDTH, width), (Fld.SYS_HIF_STATUS_SPEED, speed)]).persist 10 false
    else if (speed : Nat) < 4 then let f := s.fresh (2 ^ 32); (f.2.persist 10 true).raise 10 (unitBlock 5) f.1 []
    else s

/-- FLR of PF `f` (R434). -/
def execFlr (pf : Fin 4) (s : State) : Res :=
  .next ((((s.functionReset pf false).each (List.range 16) (fun k a => a.queueReset (16 * pf + k))).flag Fld.SYS_HIF_EVT_FLR).reroute)

/-- PF_D3HOT: PF `f` is asleep; its queues pause (R326, R434). -/
def execPfD3hot (pf : Fin 4) (s : State) : Res := .next ((s.flag (Fld.SYS_PF_CFG_D3HOT pf)).reroute)

/-- PF_D0_ENTRY: PF `f` is in D0 again (R326, R434). -/
def execPfD0Entry (pf : Fin 4) (s : State) : Res := .next ((s.clr (Fld.SYS_PF_CFG_D3HOT pf)).reroute)

/-- BME_CLEAR: Bus Master Enable of PF `f` is cleared; its queues pause (R434). -/
def execBmeClear (pf : Fin 4) (s : State) : Res := .next ((s.clr (Fld.SYS_PF_CFG_BME pf)).flag Fld.DMA_EVT_BME_OFF)

/-- BME_SET: Bus Master Enable of PF `f` is set (R434). -/
def execBmeSet (pf : Fin 4) (s : State) : Res := .next (s.flag (Fld.SYS_PF_CFG_BME pf))

/-! ### Register writes (R20 to R24, R432, R435) -/

/-- A BAR0 address in the AON block. -/
def aonAddr (a : Nat) : Bool := decide (0x10000 ≤ a) && decide (a < 0x20000)

/-- A BAR0 address that needs privilege: the SYS, AON, TB and SEC blocks but for each PF's own MSI-X table, and the matrix array
(R432). -/
def privAddr (a : Nat) : Bool := (decide (a < 0x40000) && !(decide (0x8000 ≤ a) && decide (a < 0x9000))) || (decide (0x80000 ≤ a) && decide (a < 0x82000))

/-- The DMA queue registers. -/
def queueReg (r : RName) : Bool :=
  [RName.DMA_Q_CTRL, .DMA_Q_STATUS, .DMA_Q_HEAD, .DMA_Q_TAIL, .DMA_Q_BASE_LO, .DMA_Q_BASE_HI, .DMA_Q_SIZE, .DMA_Q_EVT, .DMA_Q_IRQ_EN, .DMA_Q_BYTES_LO,
    .DMA_Q_BYTES_HI].contains r

/-- PF `pf` may write the register at an address (R432). -/
def State.mayWrite (s : State) (pf a : Nat) (r : RName) (i : Nat) : Bool :=
  if queueReg r then pf == 0 || pf == i / 16 else !privAddr a || s.privileged pf

/-- Registers that take writes only in some states: queue set-up while the queue is OFF (R438), a store while its group is OFF
(R269), the operands of a command while none is in progress (R90, R160, R216), PRIV of PF1 to PF3 from PF0 (R432). Reel records have
a row of their own. -/
def State.writeOpen (s : State) (pf : Nat) (r : RName) (i : Nat) : Bool :=
  match r with
  | .SYS_PF_CFG => pf == 0 && i != 0
  | .DMA_Q_HEAD => s.get (Fld.DMA_Q_STATUS_STATE i) == 0
  | .DMA_Q_BASE_LO => s.get (Fld.DMA_Q_STATUS_STATE i) == 0
  | .DMA_Q_BASE_HI => s.get (Fld.DMA_Q_STATUS_STATE i) == 0
  | .DMA_Q_SIZE => s.get (Fld.DMA_Q_STATUS_STATE i) == 0
  | .COR_STORE => s.get (Fld.COR_GRP_STATUS_STATE i) == 0
  | .MS_CARD_IDX => !s.is Fld.MS_CARD_CMD_BUSY
  | .MS_CARD_DATA => !s.is Fld.MS_CARD_CMD_BUSY
  | .TL_REEL_IDX => !s.is (Fld.TL_REEL_CMD_BUSY i)
  | .TL_REEL_ARG_LO => !s.is (Fld.TL_REEL_CMD_BUSY i)
  | .TL_REEL_ARG_HI => !s.is (Fld.TL_REEL_CMD_BUSY i)
  | .TL_VSTG_REEL => !s.is (Fld.TL_VSTG_CMD_BUSY i)
  | .TL_VSTG_KIND => !s.is (Fld.TL_VSTG_CMD_BUSY i)
  | .TL_VSTG_VAL_LO => !s.is (Fld.TL_VSTG_CMD_BUSY i)
  | .TL_VSTG_VAL_HI => !s.is (Fld.TL_VSTG_CMD_BUSY i)
  | .REEL => false
  | _ => true

/-- Registers of a TIU that its reservation closes (R301). -/
def tiuReg (r : RName) : Bool :=
  [RName.TIU_CTRL, .TIU_CFG, .TIU_SRC, .TIU_PRESCALE, .TIU_MAXN, .TIU_AT_LO, .TIU_AT_HI, .TIU_LIMIT_LO, .TIU_LIMIT_HI].contains r

/-- The personalities that a port register needs: capture registers pattern RX, converter registers JESD204C (R34, R242). -/
def State.persOk (s : State) (r : RName) (p : Nat) : Option Bool :=
  if [RName.PP_CAP_CFG, .PP_CAP_AT_LO, .PP_CAP_AT_HI, .PP_CAP_LEN_LO, .PP_CAP_LEN_HI].contains r then some (s.pers p == 1)
  else if [RName.PP_JCFG1, .PP_JCTRL, .PP_JRX_TOFS].contains r then some (decide (2 ≤ s.pers p))
  else none

/-- Write the RW fields of a register's dword. -/
def State.putRw (s : State) (r : RName) (i j v : Nat) : State :=
  s.each (layout r j) (fun f a => if f.acc == .RW then a.set ⟨r, i, j, f.lo, f.w⟩ (bitsOf v f.lo f.w) else a)

/-- What a write does beside storing its fields: `old` is the state before it. PARK parks a port (R246), TB_CTRL claims its TIU
(R300), a source choice of the equaliser is dated (R228), a stream's index starts with its enable (R363), a threshold starts BELOW
(R320), an unmasked vector sends what it holds (R433). -/
def State.afterWrite (s old : State) (r : RName) (i j : Nat) : State :=
  match r with
  | .PP_CTRL => s.ppPark i pkSoft (s.is (Fld.PP_CTRL_PARK i))
  | .TB_CTRL => s.tbClaim
  | .CH_EQ_CFG => s.set (Lat.EQ_SRC_AT i) s.now
  | .LK_TXS_CFG => s.when (s.is (Fld.LK_TXS_CFG_EN i j) && !old.is (Fld.LK_TXS_CFG_EN i j)) (fun a => a.clr (Lat.LK_TXS_N i j))
  | .EV_THR_CFG => s.when (s.is (Fld.EV_THR_CFG_EN i) && !old.is (Fld.EV_THR_CFG_EN i)) (fun a => a.clr (Lat.THR_ABOVE i))
  | .SYS_MSIX =>
    s.when (j % 4 == 3 && (old.get (vectorMask i (j / 4))).testBit 0 && !(s.get (vectorMask i (j / 4))).testBit 0) (fun a => a.unmask i (j / 4))
  | _ => s

/-- Store a write to dword `j` of register `r`: slow-domain fields are posted, the others written at once. -/
def State.storeReg (s : State) (r : RName) (i j v : Nat) : State :=
  let s1 := s.putRw r i j v
  let s2 := if (layout r j).any (fun f => f.acc == .WS) then s1.post r i j v else s1
  (s2.afterWrite s r i j).reroute

/-- A full-dword write of PF `pf` to the register that lies at a BAR0 address. -/
def State.regWrite (s : State) (pf addr : Nat) (r : RName) (i j v : Nat) : State :=
  if !s.mayWrite pf addr r i then s.flag Fld.SYS_HIF_EVT_PRIV_DENIED
  else if !s.writeOpen pf r i then s
  else if tiuReg r then s.unreserved i (fun a => a.storeReg r i j v)
  else match s.persOk r i with
    | some ok => s.onPers i (addr - portOffset i 0) ok (fun a => a.storeReg r i j v)
    | none => s.storeReg r i j v

/-- REGISTER_WRITE: PF `pf` writes a dword at BAR0 address `addr` with byte enables `be`; it stores every field whose write has no
row of its own under its access code (R20, R21, R432). A dword with a byte left out is ignored (R435). -/
def execRegisterWrite (pf : Fin 4) (addr : Nat) (be : Fin 16) (v : Nat) (s : State) : Res :=
  let go := fun (a : State) =>
    if (be : Nat) ≠ 15 then a.flag Fld.SYS_HIF_EVT_NARROW_WR
    else match regAt pf addr with
      | none => if privAddr addr && !a.privileged pf then a.flag Fld.SYS_HIF_EVT_PRIV_DENIED else a
      | some (r, i, j) => a.regWrite pf addr r i j v
  .next (if aonAddr addr then go s else s.onHost go)

/-- WS_WRITE_EFFECT: the oldest write posted to the slow domain takes effect (R23, R24). A write of REF_CFG calibrates the
presence detector's timeout, 3.5 nominal periods (R50). -/
def execWsWriteEffect (s : State) : Res :=
  .next <|
    match s.posted with
    | [] => s
    | p :: l =>
      let s1 := ({ s with posted := l }).each (layout p.r p.j) (fun f a =>
        if f.acc == Acc.WS || f.acc == Acc.WX then a.set ⟨p.r, p.i, p.j, f.lo, f.w⟩ (bitsOf p.data f.lo f.w) else a)
      s1.when (p.r == RName.REF_CFG) (fun a => a.set Lat.REF_WINDOW_PS (3500000000 / a.get Fld.REF_CFG_NOM_KHZ))

/-! ### Register reads (R20, R22) -/

/-- The tile's booked lanes in units of 2^-20 lane (R127). -/
def State.bookedLanes (s : State) (t : Nat) : Nat :=
  ((List.range 128).map (fun l =>
    let c := s.get (Fld.REEL_BOOKED (128 * t + l))
    if c = 31 then 0 else 2 ^ 23 / 2 ^ c)).foldl (· + ·) 0

/-- A dword whose bit `n` is `p (32 w + n)`. -/
def bitDword (p : Nat → Bool) (w : Nat) : Nat := (List.range 32).foldl (fun a n => a + if p (32 * w + n) then 2 ^ n else 0) 0

/-- The content of a register's dword as a read returns it: counts and bitmaps that follow other state are computed from it. -/
def State.readWord (s : State) (r : RName) (i j : Nat) : Nat :=
  match r with
  | .TB_TICK_LO => lo32 s.tick
  | .TB_TICK_HI => hi32 s.tick
  | .MS_LOAN_CNT => s.loanCount (s.get Fld.MS_LOAN_IDX)
  | .MS_LEAF_LOAN => min 15 (s.leafCount (s.get Fld.MS_LEAF_IDX)) + (s.ringCommitted (s.get Fld.MS_LEAF_IDX)).toNat * 16
  | .TL_LANES => s.bookedLanes i
  | .IC_PEND => bitDword s.request i
  | .IC_TGT_STATUS => s.word r i j % 2 ^ 31 + (s.awake i).toNat * 2 ^ 31
  | .IC_LDG_ACTIVE_LO => bitDword (fun k => s.is (Fld.LDG_ACTIVE k)) 0
  | .IC_LDG_ACTIVE_HI => bitDword (fun k => s.is (Fld.LDG_ACTIVE k)) 1
  | .DMA_Q_ACTIVE_LO => bitDword (fun q => s.get (Fld.DMA_Q_STATUS_STATE q) != 0) 0
  | .DMA_Q_ACTIVE_HI => bitDword (fun q => s.get (Fld.DMA_Q_STATUS_STATE q) != 0) 1
  | .PP_JLAT => if s.lane0 i && s.pers i == 2 then 256 + Config.jtxDelay (s.word .PP_CFG i 0, s.word .PP_JCFG0 i 0) % 769 else 0
  | _ => s.word r i j

/-- Clear every sticky bit of a register's dword (R20). -/
def State.clearSticky (s : State) (r : RName) (i j : Nat) : State :=
  s.each (layout r j) (fun f a => if f.acc == .RC then a.clr ⟨r, i, j, f.lo, f.w⟩ else a)

/-- STICKY_READ_CLEAR: PF `pf` reads the dword at BAR0 address `addr`: the value goes to the host and the sticky bits of that
register clear (R20, R22). In DEEP_SLEEP only the AON block answers (R405). -/
def execStickyReadClear (pf : Fin 4) (addr : Nat) (s : State) : Res :=
  let a := addr / 4 * 4
  let reply := fun (b : State) (v : Nat) => b.emit (.hostRead pf a ((leBytes 4 v).map (fun x => x.toNat)))
  .next <|
    if s.asleep && !aonAddr a then reply (s.flag Fld.AON_PWR_EVT_SLEEP_ACCESS) 0
    else match regAt pf a with
      | none => reply s 0
      | some (r, i, j) => (reply (s.clearSticky r i j) (s.readWord r i j)).reroute

/-- A reference output runs: it is enabled and REFIN is present (R73). -/
def State.refOut (s : State) (n : Nat) : Bool :=
  s.is Fld.REF_STATUS_PRESENT && (if n = 0 then s.is Fld.REF_OUT_CFG_EN0 else s.is Fld.REF_OUT_CFG_EN1)

end Sys2Proof.Machine
end

