-- ==== Sys2Proof/Machine/Ledger.lean ====
section
/-!
DEFINITION. The fault ledger's clears and persisting causes (R338), the archive ring (R340 to R345), and the faults
of shared resources that have a row of their own (R31, R32, R334).
-/
namespace Sys2Proof.Machine

/-- Clear ledger entry `k` (R338): every field of it but CAUSE and PERSIST becomes 0. -/
def State.ledgerClear (s : State) (k : Nat) : State :=
  let s1 := s.archive 5 (s.get (Fld.LDG_RAISED_AT k)) s.now [k, s.get (Fld.LDG_DETAIL k), s.get (Fld.LDG_COUNT k)] true
  (s1.sets [(Fld.LDG_ACTIVE k, 0), (Fld.LDG_NOTIFY k, 0), (Fld.LDG_COUNT k, 0), (Fld.LDG_FIRST_LO k, 0), (Fld.LDG_FIRST_HI k, 0),
    (Fld.LDG_LAST_LO k, 0), (Fld.LDG_LAST_HI k, 0), (Fld.LDG_DETAIL k, 0)]).resetKeys (fun q => q.r == .IC_LDG && q.i == k && 8 ≤ q.j)

/-- LEDGER_CLEAR: a write of IC_LDG_CLR clears the entry it names and archives its final count; an entry that is not
ACTIVE is left alone (R338). A persisting cause keeps what its next raise will say. -/
def execLedgerClear (v : Nat) (s : State) : Res :=
  let k := v % 64
  let s1 := s.set Fld.IC_LDG_CLR_CAUSE k
  .next <| s.onHost fun s =>
    if s.is (Fld.LDG_ACTIVE k) then
      (s1.sets [(Lat.LDG_AGAIN_UNIT k, s.get (Fld.LDG_RAISED_AT k)), (Lat.LDG_AGAIN_DETAIL k, s.get (Fld.LDG_DETAIL k)),
        (Lat.LDG_AGAIN k, s.get (Fld.LDG_PERSIST k))]
        |>.each (List.range 35) (fun j a => a.when (s.get (Fld.LDG_MAP k j) != 0) (fun b => b.set (Lat.LDG_AGAIN_MAP k j) (s.get (Fld.LDG_MAP k j))))).ledgerClear k
    else s1

/-- LEDGER_PERSIST_RERAISE: at the next word boundary after a clear, a persisting cause whose condition remains raises
again (R338). -/
def execLedgerPersistReraise (k : Fin 64) (s : State) : Res :=
  .next <|
    if s.is (Lat.LDG_AGAIN k) then
      let s1 := (s.clr (Lat.LDG_AGAIN k)).resetKeys (fun q => q.r == .L_LDG_AGAIN_MAP && q.i == (k : Nat))
      if s.is (Fld.LDG_PERSIST k) then s1.raise k (s.get (Lat.LDG_AGAIN_UNIT k)) (s.get (Lat.LDG_AGAIN_DETAIL k)) ((List.range 35).map (fun j => (j, s.get (Lat.LDG_AGAIN_MAP k j)))) else s1
    else s

/-- The length of the archive ring in entries (R340). -/
def State.ringLen (s : State) : Nat := 2048 * s.get Fld.MS_CFG_ARCH_LEAVES

/-- The number of unread entries (R340). -/
def State.ringFill (s : State) : Nat :=
  if s.ringLen = 0 then 0 else (s.get Fld.IC_ARC_WR + s.ringLen - s.get Fld.IC_ARC_RD % s.ringLen) % s.ringLen

/-- IC_ARC_FILL follows the pointers, and THRESH sets when the fill reaches the threshold (R341). -/
def State.ringUpdate (s : State) : State :=
  let old := s.get Fld.IC_ARC_FILL
  let th := s.get Fld.IC_ARC_CFG_THRESH
  (s.set Fld.IC_ARC_FILL s.ringFill).when (old < th && th ≤ s.ringFill) (fun a => a.flag Fld.IC_ARC_EVT_THRESH)

/-- Store an entry at the write index and advance it (R340). -/
def State.ringStore (s : State) (e : List Nat) : State :=
  (s.segStore (0x1000000 + 32 * s.get Fld.IC_ARC_WR) (e.flatMap (leBytes 4))).set Fld.IC_ARC_WR
    ((s.get Fld.IC_ARC_WR + 1) % s.ringLen)

/-- ARCHIVE_WRITE_ENTRY: the writer moves its oldest entry to the ring; on a full ring it overwrites the oldest entry or
drops this one, as IC_ARC_CFG.POL says (R341, R342). -/
def execArchiveWriteEntry (s : State) : Res :=
  .next <|
    match s.arcBuf with
    | [] => s
    | e :: rest =>
      let s1 := { s with arcBuf := rest }
      if s.ringFill + 1 < s.ringLen then (s1.ringStore e).ringUpdate
      else if s.is Fld.IC_ARC_CFG_POL then
        let s2 := s1.bump Fld.IC_ARC_LOST
        if s.is Lat.ARC_FULL then s2
        else ((s2.flag Lat.ARC_FULL).persist 11 true).raise 11 (unitBlock 34) 0 []
      else
        (((s1.ringStore e).set Fld.IC_ARC_RD ((s.get Fld.IC_ARC_RD + 1) % s.ringLen)).bump Fld.IC_ARC_LOST
          |>.flag Fld.IC_ARC_EVT_WRAP).ringUpdate

/-- ARCHIVE_RD_WRITE: a write of IC_ARC_RD consumes entries; a value outside the entries from the old RD to WR is
ignored with RD_BAD. Freed space ends a full episode (R340, R341). -/
def execArchiveRdWrite (v : Nat) (s : State) : Res :=
  let n := v % 2 ^ 28
  .next <| s.onHost fun s =>
    if s.ringLen ≠ 0 ∧ n < s.ringLen ∧ (n + s.ringLen - s.get Fld.IC_ARC_RD) % s.ringLen ≤ s.ringFill then
      let s1 := (s.set Fld.IC_ARC_RD n).ringUpdate
      if s1.ringFill + 1 < s1.ringLen then (s1.clr Lat.ARC_FULL).persist 11 false else s1
    else s.flag Fld.IC_ARC_EVT_RD_BAD

/-- The UNIT code of the block of sensor `k`: tiles 0 to 7, converter dies 8 to 15, stacks 16 to 19, and the logic-die
centre (the crossbar block) for 20 (R343, R459). -/
def sensorUnit (k : Nat) : Nat :=
  if k < 8 then unitTile k else if k < 16 then unitDie (k - 8) else if k < 20 then unitStack (k - 16) else unitBlock 2

/-- ARCHIVE_TEMP_PERIODIC: a TEMP entry for each of the 21 sensors, when enabled (R345). -/
def execArchiveTempPeriodic (s : State) : Res :=
  .next <|
    if s.is Fld.IC_ARC_TEMP_EN then
      s.each (List.range 21) (fun k a => a.archive 12 (sensorUnit k) s.now [s.get (Fld.SYS_TJ_TJ k), k])
    else s

/-- TICK_SKEW: tile `t`'s replica mismatches the tick broadcast. It raises the cause once, marks the tile, and the tile
goes on from the master count (R32). -/
def execTickSkew (t : Fin 8) (s : State) : Res := .next (s.raise 8 (unitBlock 0) (1 <<< (t : Nat)) (markTile t))

/-- CROSSBAR_FAULT: a fault on a crossbar port; ports 0 to 7 are the tiles' (R334, R48). -/
def execCrossbarFault (port : Nat) (s : State) : Res :=
  .next (s.raise 7 (unitBlock 2) port (if port < 8 then markTile port else []))

/-- STACK_TRAINING_LOSS: stack controller `stack` loses its training, or fails its refresh (R334). -/
def execStackTrainingLoss (stack : Fin 4) (refresh : Bool) (s : State) : Res :=
  .next (s.raise 3 (unitStack stack) ((stack : Nat) + (if refresh then 2 else 1) * 16) [])

/-- TIU_DLL_LOCK_LOSS: a TIU's delay-locked loop loses lock in RUN; stamping stops and TIU_FAULT is raised (R334, R287). -/
def execTiuDllLockLoss (k : Fin 24) (s : State) : Res :=
  .next <|
    if s.get (Fld.TIU_STATUS_STATE k) = 4 then
      (s.clr (Fld.TIU_STATUS_DLL_LOCK k)).raise 30 (unitTiu k) k []
    else s.clr (Fld.TIU_STATUS_DLL_LOCK k)

end Sys2Proof.Machine
end

