-- ==== Sys2Proof/Machine/Links.lean ====
section
/-!
DEFINITION. Studios and Denlor links: link states, frames and messages, the delay measurement, alignment and following,
remote events and streams (R346 to R364).
-/
namespace Sys2Proof.Machine

/-! ### Link states (R352, R353) -/

/-- LINK_ENABLE: LK_CTRL.EN = 1 (R352, R353). -/
def execLinkEnable (l : Fin 16) (s : State) : Res :=
  let s1 := s.flag (Fld.LK_CTRL_EN l)
  .next (s.onHost fun s => (if s.linkState l = 6 then s1.sets [(Fld.LK_STATUS_RESTART_PENDING l, 1), (Fld.LK_EVT_RESTART_QUEUED l, 1)] else s1.linkStart l))

/-- LINK_DISABLE: LK_CTRL.EN = 0 (R352, R353). -/
def execLinkDisable (l : Fin 16) (s : State) : Res :=
  .next (s.onHost fun s => (((s.clr (Fld.LK_CTRL_EN l)).clr (Fld.LK_STATUS_RESTART_PENDING l)).linkStop l))

/-- LINK_STOP_DONE: STOPPING ends in OFF, or in TRAIN when a restart is pending (R352, R353). -/
def execLinkStopDone (l : Fin 16) (s : State) : Res :=
  .next <|
    if s.linkState l = 6 then
      (s.clr (Fld.LK_STATUS_RESTART_PENDING l)).linkEnter l (if s.is (Fld.LK_STATUS_RESTART_PENDING l) && s.unitsPowered then 1 else 0) 0
    else s

/-- LINK_TRAINED: block lock holds and 4 consecutive headers were good: MEASURE, or DOWN when the roles or the device
numbers clash (R352). -/
def execLinkTrained (l : Fin 16) (s : State) : Res :=
  .next <|
    if s.linkState l = 1 ∧ s.get (Lat.LK_GOOD l) = 4 then
      if s.get (Lat.LK_PROLE l) + s.linkRole l ≠ 3 then s.linkEnter l 5 5
      else if s.get (Fld.LK_STATUS_PARTNER_DEV l) = s.get Fld.LK_STUDIO_DEV then s.linkEnter l 5 6
      else s.linkEnter l 2 0
    else s

/-- LINK_TRAIN_TIMEOUT: 1 ms in TRAIN without success (R352). -/
def execLinkTrainTimeout (l : Fin 16) (s : State) : Res := .next (if s.linkState l = 1 then s.linkEnter l 5 4 else s)

/-- LINK_SYNC_LOSS: in UP, sync headers or header CRCs fail (causes 1 SIGNAL, 2 BLOCK, 3 FRAME), or the partner's REANCHOR
stop breaks the line (0 of the operand, cause ANCHOR, which raises nothing) (R352). -/
def execLinkSyncLoss (l : Fin 16) (cause : Fin 4) (s : State) : Res :=
  .next <|
    if s.linkState l = 3 then
      if cause = 0 then s.linkEnter l 4 7 else (s.linkEnter l 4 cause).linkFault l
    else s

/-- LINK_RETRAIN_LOCK: lock is back within 1 ms: the link measures again (R352). -/
def execLinkRetrainLock (l : Fin 16) (s : State) : Res :=
  .next (if s.linkState l = 4 then (s.linkEnter l 2 (s.get (Fld.LK_STATUS_CAUSE l))) else s)

/-- LINK_RETRAIN_TIMEOUT: 1 ms in RETRAIN without lock (R352). -/
def execLinkRetrainTimeout (l : Fin 16) (s : State) : Res := .next (if s.linkState l = 4 then (s.linkFault l).linkEnter l 5 4 else s)

/-- LINK_DOWN_TIMEOUT: after 10 ms in DOWN the link trains again (R352). -/
def execLinkDownTimeout (l : Fin 16) (s : State) : Res := .next (if s.linkState l = 5 then s.linkEnter l 1 0 else s)

/-! ### Frames (R348 to R350) -/

/-- The header that link `l` sends for frame `f` (R349). -/
def State.header (s : State) (l f : Nat) : Nat :=
  let aligned := s.is Fld.LK_STUDIO_LEAD || s.get Fld.LK_STUDIO_STATUS_STATE == 5
  let v := f % 2 ^ 40 + s.linkState l * 2 ^ 40 + aligned.toNat * 2 ^ 44 + s.unref.toNat * 2 ^ 45 + s.linkRole l * 2 ^ 46 + s.get Fld.LK_STUDIO_DEV * 2 ^ 48
  v + crc8 v 56 0 * 2 ^ 56

/-- An EVENT message (R350). -/
def eventMessage (m : Nat) (unref : Bool) (t : Nat) : Nat :=
  let v := 2 + m * 16 + unref.toNat * 2 ^ 7 + t % 2 ^ 48 * 2 ^ 8
  v + crc8 v 56 0 * 2 ^ 56

/-- The CRC-8 of whole blocks, the first block first. -/
def crcBlocks (l : List Nat) : Nat := l.foldl (fun c w => crc8 w 64 c) 0

/-- A TIME message (R350): the partner frame stamped, its arrival stamp in 2^-16 tick, the sender's T_f. -/
def timeMessage (frame stamp tf : Nat) : List Nat :=
  let w0 := 1 + frame % 2 ^ 40 * 16
  let w1 := stamp % 2 ^ 64
  [w0 + crcBlocks [w0, w1, tf % tickMod] * 2 ^ 56, w1, tf % tickMod]

/-- Four samples in a data block, sample 0 lowest (R350). -/
def sampleBlocks : Nat → List Int → List Nat
  | 0, _ => []
  | _, [] => []
  | n + 1, l => (((l.take 4).zipIdx).foldl (fun a p => a + ux 16 p.1 * 2 ^ (16 * p.2)) 0) :: sampleBlocks n (l.drop 4)

/-- A STREAM message of one run of samples (R350, R363). -/
def streamMessage (j : Nat) (l : List TxSample) : List Nat :=
  let w0 := 3 + j * 16 + (l.any (fun x => x.commit)).toNat * 2 ^ 6 + (l.any (fun x => x.sat)).toNat * 2 ^ 7 + l.length * 2 ^ 8 + ((l.head?.map (fun x => x.at_)).getD 0) % 2 ^ 40 * 2 ^ 12
  let data := sampleBlocks 3 (l.map (fun x => x.d))
  (w0 + crcBlocks (w0 :: data) * 2 ^ 56) :: data

/-- The next run of one stream: up to 12 samples of the stream whose sample is oldest, ending at a COMMIT. -/
def State.txRun (s : State) (l : Nat) : Option (Nat × List TxSample) :=
  match s.txs.find? (fun x => x.link == l) with
  | none => none
  | some x =>
    let mine := (s.txs.filter (fun y => y.link == l && y.j == x.j)).take 12
    let upTo := (mine.takeWhile (fun y => !y.commit)).length + 1
    some (x.j, mine.take upTo)

/-- Streams fill what is left of a frame of 31 message blocks (R350, R351). -/
def State.sendStreams (s : State) (l : Nat) : Nat → Nat → State
  | 0, _ => s
  | fuel + 1, room =>
    match s.txRun l with
    | none => s
    | some (j, run) =>
      let n := 1 + (run.length + 3) / 4
      if room < n then s
      else (({ s with txs := s.txs.filter (fun x => !run.contains x) }).emit (.link l 3 (streamMessage j run))).sendStreams l fuel (room - n)

/-- LINK_FRAME_TX: at a multiple of 528 ticks link `l` sends its header, then EVENT, TIME and STREAM messages in this order as
far as the 31 blocks reach; idle blocks fill the rest (R348 to R351). -/
def execLinkFrameTx (l : Fin 16) (s : State) : Res :=
  let f := s.now / 528
  .next <|
    if s.now % 528 ≠ 0 ∨ s.get (Lat.LK_SENT l) = f + 1 ∨ ¬(1 ≤ s.linkState l ∧ s.linkState l ≤ 4) then s
    else
      let s1 := (s.set (Lat.LK_SENT l) (f + 1)).emit (.link l 0 [s.header l f])
      let evs := (s1.txq.filter (fun m => m.1 == (l : Nat))).take 31
      let s2 := s1.each evs (fun m a => (({ a with txq := removeFirst (fun x => x == m) a.txq }).emit (.link l 2 [eventMessage m.2.1 m.2.2.2 m.2.2.1])))
      let room := 31 - evs.length
      let time := s.is (Lat.LK_HDR l) && (s.linkState l == 2 || s.linkState l == 3) && decide (3 ≤ room)
      let s3 := s2.when time (fun a => (a.emit (.link l 1 (timeMessage (s.get (Lat.LK_HDR_F l)) (s.get (Lat.LK_HDR_A l)) s.now))))
      if s.linkState l = 3 then s3.sendStreams l 16 (if time then room - 3 else room) else s3

/-- A header or message whose CRC fails is discarded and counted (R350). -/
def State.crcError (s : State) (l : Nat) : State := (s.bump (Fld.LK_CNT_CRC_ERR l)).flag (Fld.LK_EVT_CRC l)

/-- The path figures of link `l` in the calibration record (R354, R370): transmit, receive and internal asymmetry, in fs. -/
def State.linkFigures (s : State) (l : Nat) : Int × Int × Int :=
  match s.factory with
  | some f => ((f.links.find? (fun r => r.1 == l)).map (fun r => r.2)).getD (0, 0, 0)
  | none => (0, 0, 0)

/-- HEADER_RX: a header `w` arrives; `stamp` is its arrival at the pin as the TIU stamps it, in 2^-16 tick. The link notes what
the header says of the partner, and in MEASURE and UP its calibrated stamp for the delay exchange (R349, R354). -/
def execHeaderRx (l : Fin 16) (w stamp : Nat) (s : State) : Res :=
  .next <|
    if ¬(1 ≤ s.linkState l ∧ s.linkState l ≤ 4) then s
    else if crc8 w 56 0 ≠ bitsOf w 56 8 then (s.crcError l).clr (Lat.LK_GOOD l)
    else
      let s1 := s.sets [(Lat.LK_GOOD l, min 4 (s.get (Lat.LK_GOOD l) + 1)), (Lat.LK_PSTATE l, bitsOf w 40 4), (Fld.LK_STATUS_PARTNER_ALIGNED l, bitsOf w 44 1),
        (Lat.LK_PUNREF l, bitsOf w 45 1), (Lat.LK_PROLE l, bitsOf w 46 2), (Fld.LK_STATUS_PARTNER_DEV l, bitsOf w 48 6)]
      if s.linkState l = 2 ∨ s.linkState l = 3 then
        let s2 := s1.linkTiu l
        if s2.get (Lat.LK_TIU l) = 0 then s2
        else s2.sets [(Lat.LK_HDR l, 1), (Lat.LK_HDR_F l, bitsOf w 0 40), (Lat.LK_HDR_A l, ((stamp : Int) - s.fsToTick (s.linkFigures l).2.1).toNat)]
      else s1

/-- TIME: a TIME message closes one exchange when this end holds the stamp of the frame that carried it (R350, R354). -/
def execMsgTime (l : Fin 16) (w0 w1 w2 : Nat) (s : State) : Res :=
  let st := s.linkState l
  .next <|
    if ¬(st = 2 ∨ st = 3) then s
    else if crcBlocks [w0 % 2 ^ 56, w1, w2] ≠ bitsOf w0 56 8 then s.crcError l
    else if s.is (Lat.LK_HDR l) ∧ s.get (Lat.LK_HDR_F l) = w2 / 528 % 2 ^ 40 then
      let dTx := s.fsToTick (s.linkFigures l).1
      let mine : Int := (528 * extend 40 (bitsOf w0 4 40) (s.now / 528) * 65536 : Nat) + dTx
      let theirs : Int := (w2 * 65536 : Nat) + dTx
      let aPart : Int := (extend 48 (bitsOf w1 16 48) s.now * 65536 + bitsOf w1 0 16 : Nat)
      let x := (s.get (Lat.LK_HDR_A l) : Int) - theirs
      let y := aPart - mine
      let s1 := if s.get (Lat.LK_N l) = 0 then s.seti (Lat.LK_T0 l) (x - y) else s
      (((s1.seti (Lat.LK_T1 l) (x - y)).seti (Lat.LK_SUM_T l) (s.geti (Lat.LK_SUM_T l) + (x - y))).seti (Lat.LK_SUM_R l) (s.geti (Lat.LK_SUM_R l) + (x + y))).bump (Lat.LK_N l)
    else s

/-! ### Averages and following (R347, R352, R354, R358, R362) -/

/-- A signed quotient rounded to nearest. -/
def divRound (a : Int) (b : Nat) : Int := (2 * a + b) / (2 * b : Nat)

/-- |v| in 2^-16 tick is at most `n` tenths of a ps. -/
def State.withinTenths (s : State) (v : Int) (n : Nat) : Bool := decide (v.natAbs * 1000000000000 ≤ n * 100 * (s.tickKhz * 65536))

/-- An ALIGNED follower acts on a new average of its UP link (R358, R359). -/
def State.follow (s : State) (l : Nat) : State :=
  let th := s.theta l
  if !(s.follower && s.linkRole l == 1 && s.get Fld.LK_STUDIO_STATUS_STATE == 5) then s
  else if !s.withinTenths th 50 then s.misalign l
  else if s.withinTenths th 1 || !s.is Fld.LK_STUDIO_CFG_FOLLOW then s
  else
    let trim := s.geti Fld.TB_FTRIM_TRIM - divRound (th * 10000000000) (s.tickKhz * 65536)
    if trim < -200 ∨ 200 < trim then s.misalign l else (s.seti Fld.TB_FTRIM_TRIM trim).flag Fld.LK_STUDIO_EVT_FOLLOW_ADJ

/-- LINK_MEASURE_DONE: 1,024 exchanges are averaged (R352, R354). `evMeas` and `strmMeas` are the worst event and stream paths in
words that MEASURE found (R362, R364). -/
def execLinkMeasureDone (l : Fin 16) (evMeas strmMeas : Nat) (s : State) : Res :=
  let st := s.linkState l
  let asym := s.fsToTick (s.geti (Fld.LK_ASYM l) + (s.linkFigures l).2.2)
  let th := divRound (s.geti (Lat.LK_SUM_T l) - 1024 * asym) 2048
  let r := divRound (s.geti (Lat.LK_SUM_R l)) 1024
  let long := decide (2 * 1600 * 65536 < r)
  let freq := decide (2 * 65536 < (s.geti (Lat.LK_T1 l) - s.geti (Lat.LK_T0 l)).natAbs)
  let moved := s.is (Lat.LK_AGAIN l) && decide (65536 < (r - (s.get (Fld.LK_RTT l) : Int)).natAbs)
  .next <|
    if ¬((st = 2 ∨ st = 3) ∧ 1024 ≤ s.get (Lat.LK_N l)) then s
    else if long then (s.linkFault l).linkEnter l 5 12
    else
      let s1 := ((s.seti (Fld.LK_RTT l) r).set2 (Fld.LK_THETA_LO l) (Fld.LK_THETA_HI l) (ux 64 th)).linkAverage l
      let late := decide (s.get Fld.LK_STUDIO_EV_LAT + 48 < evMeas)
      let s2 :=
        if st = 2 then
          let cause := if freq then 10 else if moved then 8 else if late then 11 else 0
          let slow := (List.range 4).any (fun j => s.get (Fld.LK_RXS_CFG_MODE l j) == 1 && decide (s.get (Fld.LK_RXS_CFG_STRM_LAT l j) ≤ strmMeas))
          ((((s1.sets [(Fld.LK_EV_MEAS l, evMeas), (Fld.LK_STRM_MEAS l, strmMeas), (Lat.LK_AGAIN l, 0)]).linkEnter l 3 cause).when late
            (fun a => a.flag (Fld.LK_EVT_EV_MARGIN l))).when moved (fun a => a.flag (Fld.LK_EVT_DELAY_CHG l))).when slow (fun a => a.flag (Fld.LK_EVT_STRM_LATE l))
        else if freq then s1.set (Fld.LK_STATUS_CAUSE l) 10 else s1
      let s3 := s2.when (s.linkRole l == 1) (fun a => a.flag Lat.ST_FRESH)
      s3.follow l

/-! ### Alignment (R355 to R359) -/

/-- Start an alignment: WAIT_PARENT (R355). -/
def State.alignStart (s : State) : State := s.sets [(Fld.LK_STUDIO_STATUS_STATE, 2), (Fld.LK_STUDIO_STATUS_RESULT, 0), (Lat.ST_FRESH, 0), (Lat.ST_OUT, 0)]

/-- ALIGN: LK_STUDIO_CMD.ALIGN (R355, R359). -/
def execLinkAlign (s : State) : Res :=
  let st := s.get Fld.LK_STUDIO_STATUS_STATE
  .next <| s.onHost fun s =>
    if s.is Fld.LK_STUDIO_LEAD then s.set Fld.LK_STUDIO_STATUS_RESULT 3
    else match s.upLink with
      | none => s
      | some l =>
        if 2 ≤ st ∧ st ≤ 4 then s
        else if s.get (Fld.LK_STATUS_CAUSE l) = 10 then s.set Fld.LK_STUDIO_STATUS_RESULT 2
        else if !s.allIdle then s.set Fld.LK_STUDIO_STATUS_RESULT 1
        else s.alignStart

/-- ALIGN_PARENT_READY: the UP link is UP and its partner shows ALIGNED: MEASURING takes a fresh average (R355). -/
def execAlignParentReady (s : State) : Res :=
  .next <|
    match s.upLink with
    | some l =>
      if s.get Fld.LK_STUDIO_STATUS_STATE = 2 ∧ s.linkState l = 3 ∧ s.is (Fld.LK_STATUS_PARTNER_ALIGNED l) then
        (s.sets [(Fld.LK_STUDIO_STATUS_STATE, 3), (Lat.ST_FRESH, 0)]).linkAverage l
      else s
    | none => s

/-- The alignment ends without success (R355). -/
def State.alignFail (s : State) : State :=
  s.sets [(Fld.LK_STUDIO_STATUS_STATE, 1), (Fld.LK_STUDIO_STATUS_RESULT, 4), (Fld.LK_STUDIO_EVT_ALIGN_FAIL, 1), (Lat.ST_OUT, 0)]

/-- ALIGN_ANCHOR_ARM: with the fresh average, an anchor is armed at the first word boundary at least 512 ticks ahead (R355). -/
def execAlignAnchorArm (s : State) : Res :=
  .next <|
    if s.get Fld.LK_STUDIO_STATUS_STATE = 3 ∧ s.is Lat.ST_FRESH then
      if s.locked then
        s.sets [(Fld.TB_STATUS_ANCHOR_ARMED, 1), (Lat.TB_ANCHOR_TICK, wordUp (s.now + 512)), (Fld.LK_STUDIO_STATUS_STATE, 4), (Lat.ST_FRESH, 0), (Lat.ST_OUT, 0)]
      else s.alignFail
    else s

/-- ALIGN_VERIFY: the measurement after the release decides: ALIGNED within TOL, else UNALIGNED with FAIL (R355). -/
def execAlignVerify (s : State) : Res :=
  .next <|
    match s.upLink with
    | some l =>
      if s.get Fld.LK_STUDIO_STATUS_STATE = 4 ∧ s.is Lat.ST_OUT ∧ s.is Lat.ST_FRESH then
        if s.withinTenths (s.theta l) (s.get Fld.LK_STUDIO_CFG_TOL) then
          s.sets [(Fld.LK_STUDIO_STATUS_STATE, 5), (Fld.LK_STUDIO_STATUS_RESULT, 0), (Fld.LK_STUDIO_EVT_ALIGN_DONE, 1), (Lat.ST_OUT, 0)]
        else s.alignFail
      else s
    | none => s

/-- AUTO_ALIGN_START: a MISALIGNED follower with every reel IDLE and AUTO_ALIGN = 1 starts ALIGN by itself (R359). -/
def execAutoAlignStart (s : State) : Res :=
  .next <|
    match s.upLink with
    | some l => if s.get Fld.LK_STUDIO_STATUS_STATE = 6 ∧ s.is Fld.LK_STUDIO_CFG_AUTO_ALIGN ∧ s.allIdle ∧ s.get (Fld.LK_STATUS_CAUSE l) ≠ 10 then s.alignStart else s
    | none => s

/-! ### Remote events (R351, R360, R361) -/

/-- REMOTE_EVENT_SEND: send task 256 + 8L + m queues EVENT m, or drops it outside UP or on a full queue; ECHO pulses the local
producer (R315, R351, R353, R360, R361). -/
def execRemoteEventSend (l : Fin 16) (m : Fin 8) (s : State) : Res :=
  .next (s.onTask (256 + 8 * l + m) true (fun g a =>
    let t := g.s.getD 0
    let a1 := if a.linkState l = 3 ∧ (a.txq.filter (fun x => x.1 == (l : Nat))).length < 32 then { a with txq := a.txq ++ [((l : Nat), (m : Nat), t, g.unref)] }
      else (a.bump (Fld.LK_CNT_EV_DROP l)).flag (Fld.LK_EVT_EV_DROP l)
    if a.is (Fld.LK_TXEV_ECHO l m) then a1.pulse (272 + 8 * l + m) (some (t + 8 * a.get Fld.LK_STUDIO_EV_LAT)) else a1))

/-- EVENT: EVENT m arrives and pulses producer 272 + 8L + m with the origin tick S + round(θ) + 8 × EV_LAT (R360). -/
def execMsgEvent (l : Fin 16) (w : Nat) (s : State) : Res :=
  .next <|
    if s.linkState l ≠ 3 then s
    else if crc8 w 56 0 ≠ bitsOf w 56 8 then s.crcError l
    else
      let so : Int := extend 48 (bitsOf w 8 48) s.now + s.thetaTicks l + 8 * s.get Fld.LK_STUDIO_EV_LAT
      s.pulse (272 + 8 * l + bitsOf w 4 3) (some so.toNat)

/-! ### Streams (R363, R364) -/

/-- The samples of a STREAM message. -/
def streamSamples (n : Nat) (data : List Nat) : List Int := (List.range n).map (fun i => sx 16 (bitsOf (data.getD (i / 4) 0) (16 * (i % 4)) 16))

/-- A sample of a SEGMENT stream goes to the ring leaf FP of the slot it feeds, at its position (R364); a dropped beat sets
STRM_DROP. -/
def State.ringSample (s : State) (l j pos : Nat) (d : Int) : State :=
  let id := 4 * l + j
  match (List.range 1024).find? (fun n => s.get (Fld.MS_STRM_CFG_SRC_KIND n) == 2 && s.get (Fld.MS_STRM_CFG_SRC n) == id && (s.boundCard n).isSome) with
  | none => s
  | some n => match s.boundCard n with
    | none => s
    | some (_, c) => match s.dataLeaf c (s.get (Fld.MS_STRM_FILL n) % c.listLen) with
      | none => s
      | some leaf =>
        let (lost, a) := s.writeSeg 2 id (leaf * 65536 + 2 * pos) (leBytes 2 (ux 16 d))
        a.when (lost != 0) (fun b => b.flag (Fld.LK_EVT_STRM_DROP l))

/-- The slot that a SEGMENT stream feeds commits FP (R102, R108, R364). -/
def State.segmentCommit (s : State) (l j : Nat) : State :=
  match (List.range 1024).find? (fun n => s.get (Fld.MS_STRM_CFG_SRC_KIND n) == 2 && s.get (Fld.MS_STRM_CFG_SRC n) == 4 * l + j) with
  | some n => (s.commitSlot n 2 (4 * l + j) (s.get (Fld.MS_STRM_FILL n))).2
  | none => s

/-- STREAM: a STREAM message of class `c` arrives: `w` its first block, `data` its data blocks (R350, R364). -/
def execMsgStream (l : Fin 16) (c : Fin 32) (w : Nat) (data : List Nat) (s : State) : Res :=
  let j := bitsOf w 4 2
  let n := bitsOf w 8 4
  let t0 := extend 40 (bitsOf w 12 40) s.now
  let xs := streamSamples n data
  let commit := (w.testBit 6)
  .next <|
    if s.linkState l ≠ 3 then s
    else if crcBlocks (w % 2 ^ 56 :: data) ≠ bitsOf w 56 8 then s.crcError l
    else
      let at_ : Int := t0 + s.thetaTicks l + 8 * s.get (Fld.LK_RXS_CFG_STRM_LAT l j)
      let s1 := s.sets [(Lat.LK_RXS_LOG2 l j, c + 1), (Lat.LK_RXS_PH l j, at_.toNat % 2 ^ (c : Nat)), (Lat.LK_RXS_T l j, t0 + n * 2 ^ (c : Nat))]
      match s.get (Fld.LK_RXS_CFG_MODE l j) with
      | 1 =>
        let new : List RxSample := (List.range n).map (fun i => ⟨l, j, at_.toNat + i * 2 ^ (c : Nat), 2 ^ (c : Nat), xs.getD i 0⟩)
        { s1 with rxs := s1.rxs ++ new.filter (fun x => s.now < x.start) }
      | 2 =>
        let gap := if s.get (Lat.LK_RXS_LOG2 l j) = 0 then 0 else (t0 - s.get (Lat.LK_RXS_T l j)) / 2 ^ (c : Nat)
        let p0 := if commit then (65536 - n) % 32768 else (s.get (Lat.LK_RXS_POS l j) + gap) % 32768
        let s2 := s1.each (List.range n) (fun i a => a.ringSample l j ((p0 + i) % 32768) (xs.getD i 0))
        (s2.set (Lat.LK_RXS_POS l j) ((p0 + n) % 32768)).when commit (fun a => a.segmentCommit l j)
      | _ => s1

/-- MGMT: management traffic (R350): 0 the partner's identity in TRAIN, 1 the alignment handshake, which carries nothing that the
header does not, 2 mailbox traffic for the tile's control core, 3 boot transfer over L0 (R398), which is kept for the boot
stage that reads it. -/
def execMsgMgmt (l : Fin 16) (kind : Fin 4) (data : List (BitVec 8)) (s : State) : Res :=
  .next <|
    if ¬(1 ≤ s.linkState l ∧ s.linkState l ≤ 4) ∧ ¬(l = 0 ∧ kind = 3) then s
    else match kind with
      | 0 => if s.linkState l = 1 then s.set (Fld.LK_STATUS_PARTNER_DEV l) ((data.headD 0).toNat) else s
      | 1 => s
      | 2 => s.emit (.core (l / 2) (256 + (data.headD 0).toNat))
      | 3 => if l = 0 ∧ s.get Fld.AON_PWR_STATUS_STATE = 4 then { s with bootRx := s.bootRx ++ data } else s

/-- One tick of the streams of link `l`: a transmit stream takes a grid sample of its sum (R363); a SUM stream without a sample
at its grid tick counts LATE in UP and MISSING outside it (R364). -/
def State.linkTick (s : State) (l t : Nat) : State :=
  let up := s.linkState l == 3
  let s1 := s.each (List.range 4) (fun j a =>
    let c := a.get (Fld.LK_TXS_CFG_CLASS l j)
    if up && a.is (Fld.LK_TXS_CFG_EN l j) && t % 2 ^ c == 0 then
      let code := 3 * 512 + 4 * l + j
      let x := a.destSum code t
      let d := (x + 128) / 256
      let sat := x != a.exactSum code t || d < -32768 || 32767 < d
      let k := a.get (Lat.LK_TXS_N l j)
      { a.set (Lat.LK_TXS_N l j) (k + 1) with txs := a.txs ++ [(⟨l, j, t, clampInt (-32768) 32767 d, k % 32768 == 32767, sat⟩ : TxSample)] }
    else a)
  let s2 := s1.each (List.range 4) (fun j a =>
    let k := a.get (Lat.LK_RXS_LOG2 l j)
    if a.get (Fld.LK_RXS_CFG_MODE l j) = 1 ∧ k ≠ 0 ∧ t % 2 ^ (k - 1) = a.get (Lat.LK_RXS_PH l j) % 2 ^ (k - 1) then
      if !up then a.bump (Fld.LK_RXS_STAT_MISSING l j)
      else if a.rxs.any (fun x => x.link == l && x.j == j && x.start ≤ t && t < x.start + x.len) then a
      else a.bump (Fld.LK_RXS_STAT_LATE l j)
    else a)
  { s2 with rxs := s2.rxs.filter (fun x => x.link != l || t < x.start + x.len) }

end Sys2Proof.Machine
end

