-- ==== Sys2Proof/Machine/Security.lean ====
section
/-!
DEFINITION. The security boundary: SEC commands (R415 to R428), the error state (R424), attestation (R420 to R422), zeroization
(R425) and the life cycle (R416 to R419).
-/
namespace Sys2Proof.Machine

/-- The boundary serves a verification for the loader, a boot stage or the calibration service (R428). -/
def State.secServing (s : State) : Bool :=
  s.is Fld.SYS_IMG_STATUS_BUSY || (List.range 8).any (fun t => s.get (Fld.SYS_TILE_STATUS_STATE t) == 4) || s.is Lat.OVR_BUSY ||
    (decide (8 ≤ s.stage) && decide (s.stage ≤ 10))

/-- A SEC command is refused (R427). -/
def State.secRefuse (s : State) (n : Nat) : State := (s.set Fld.SEC_STATUS_RESULT n).flag Fld.SEC_EVT_REFUSED

/-- SEC commands are accepted in RUN, IDLE and STANDBY (R427). -/
def State.secPower (s : State) : Bool := decide (s.get Fld.AON_PWR_STATUS_STATE ≤ 2)

/-- The keyed commands (R427). -/
def secKeyed (code : Nat) : Bool := [3, 4, 6, 7, 8, 9].contains code

/-- Command `code` starts: BUSY, with the result it will report when it ends unless something says otherwise. -/
def State.secStart (s : State) (code res : Nat) : State :=
  s.sets [(Fld.SEC_STATUS_BUSY, 1), (Fld.SEC_STATUS_RESULT, 0), (Lat.SEC_RUN, code), (Lat.SEC_RES, res)]

/-- A write of SEC_CMD with a command code: refused with BUSY, KEY, ERROR or STATE, or started (R424, R427, R428). `ok` says that
the life-cycle state takes it. -/
def State.secCommand (s : State) (pf code key : Nat) (ok : State → Bool) (f : State → State) : State :=
  s.asPriv pf (fun a =>
    let a1 := a.sets [(Fld.SEC_CMD_KEY, key), (Fld.SEC_CMD_CMD, code)]
    if a.is Fld.SEC_STATUS_BUSY || a.secServing then a1.secRefuse 1
    else if secKeyed code && key != 0x7A11 then a1.secRefuse 3
    else if a.is Fld.SEC_STATUS_ERROR && code != 7 && code != 8 && code != 9 then a1.secRefuse 7
    else if !a.secPower || !ok a then a1.secRefuse 2
    else f (a1.secStart code 0))

/-- No command of R425 has zeroized the device. -/
def State.unzeroized (s : State) : Bool := !s.is Fld.SEC_STATUS_ZEROIZED

/-- ATTEST: accepted in PROVISIONED, FIELD and RETURNED with ZEROIZED = 0; the tick and the flags of byte 25 are those of now
(R420, R422). -/
def execAttest (pf : Fin 4) (key : Fin 65536) (s : State) : Res :=
  .next (s.secCommand pf 1 key (fun a => decide (2 ≤ a.lc) && decide (a.lc ≤ 4) && a.unzeroized) (fun a =>
    a.sets [(Lat.ATT_TICK, a.tick), (Lat.ATT_FLAGS, a.get Fld.SEC_STATUS_DEBUG_OPEN + a.get Fld.SEC_STATUS_ZEROIZED * 2 + a.unref.toNat * 4)]))

/-- SELFTEST: known-answer tests and the entropy start-up test (R423). A failure is SEC_ERROR_ENTER. -/
def execSelftest (pf : Fin 4) (key : Fin 65536) (s : State) : Res := .next (s.secCommand pf 2 key (fun _ => true) (fun a => a))

/-- PROVISION: accepted in VENDOR_TEST on a device that is not zeroized (R417, R418, R426). -/
def execProvision (pf : Fin 4) (key : Fin 65536) (s : State) : Res := .next (s.secCommand pf 3 key (fun a => a.lc == 1 && a.unzeroized) (fun a => a))

/-- FIELD: accepted in PROVISIONED on a device that is not zeroized (R417, R426). -/
def execSecField (pf : Fin 4) (key : Fin 65536) (s : State) : Res := .next (s.secCommand pf 4 key (fun a => a.lc == 2 && a.unzeroized) (fun a => a))

/-- RMA_NONCE: 32 fresh bytes in SEC_DNONCE (R419). -/
def execRmaNonce (pf : Fin 4) (key : Fin 65536) (s : State) : Res := .next (s.secCommand pf 5 key (fun _ => true) (fun a => a))

/-- The bytes of SEC_XFER. -/
def State.xfer (s : State) : List (BitVec 8) := (List.range 1024).flatMap (fun j => leBytes 4 (s.get (Fld.SEC_XFER j)))

/-- The checks of a return token in their order: 0, or SIG, BIND, NONCE (R419). -/
def State.tokenCheck (s : State) : Nat :=
  let t := s.xfer.take 1416
  if !(dwordAt t 0 == 0x524D4131 && (slice t 116 12).all (· == 0) && sigBlockOk s.vendorKey "TRXRMA01" (t.take 128) (t.drop 128)) then 4
  else if leValue (slice t 4 16) != s.uid || leValue (slice t 20 64) != s.getDwords Fld.SEC_ID_DIG 0 16 then 5
  else if leValue (slice t 84 32) != s.getDwords Fld.SEC_DNONCE 0 8 then 6
  else 0

/-- Stop requests for every reel at the next word boundary (R163). -/
def State.stopAll (s : State) : State := s.stopReels (fun _ => true)

/-- RMA_APPLY: accepted in FIELD; the token is checked, and a valid one stops every reel (R419). -/
def execRmaApply (pf : Fin 4) (key : Fin 65536) (s : State) : Res :=
  .next (s.secCommand pf 6 key (fun a => a.lc == 3) (fun a => (a.set Lat.SEC_RES s.tokenCheck).when (s.tokenCheck == 0) (fun b => b.stopAll)))

/-- RETIRE: accepted in VENDOR_TEST to RETURNED, in the error state too; every reel stops (R417, R424). -/
def execRetire (pf : Fin 4) (key : Fin 65536) (s : State) : Res :=
  .next (s.secCommand pf 7 key (fun a => decide (1 ≤ a.lc) && decide (a.lc ≤ 4)) (fun a => a.stopAll))

/-- A zeroization, 8 ZEROIZE or 9 ZEROIZE_DATA (R425, R428): it ends ATTEST and SELFTEST at once, waits behind PROVISION and
RMA_APPLY, and stops every reel when it starts. -/
def State.zeroize (s : State) (pf code key : Nat) : State :=
  let run := s.get Lat.SEC_RUN
  if s.is Fld.SEC_STATUS_BUSY && key == 0x7A11 && (run == 1 || run == 2) then
    s.asPriv pf (fun a => (((a.sets [(Fld.SEC_CMD_KEY, key), (Fld.SEC_CMD_CMD, code), (Fld.SEC_STATUS_RESULT, 9), (Lat.SEC_RUN, code), (Lat.SEC_RES, 0), (Fld.SEC_EVT_DONE, 1)]).resetKeys
      (fun k => k.r == .SEC_ATT || k.r == .SEC_XFER))).stopAll)
  else if s.is Fld.SEC_STATUS_BUSY && key == 0x7A11 && (run == 3 || run == 6) then
    s.asPriv pf (fun a => a.sets [(Fld.SEC_CMD_KEY, key), (Fld.SEC_CMD_CMD, code), (Lat.SEC_NEXT, code)])
  else s.secCommand pf code key (fun a => decide (1 ≤ a.lc) && decide (a.lc ≤ 4)) (fun a => a.stopAll)

/-- ZEROIZE (R425, R428). -/
def execZeroize (pf : Fin 4) (key : Fin 65536) (s : State) : Res := .next (s.zeroize pf 8 key)

/-- ZEROIZE_DATA (R425, R428). -/
def execZeroizeData (pf : Fin 4) (key : Fin 65536) (s : State) : Res := .next (s.zeroize pf 9 key)

/-- A command that raises counter `i` to `v`: refused with WORN when the cell would be written and has used its writes (R415). -/
def State.advance (s : State) (pf code key i : Nat) (floor : Key) (v : Nat) : State :=
  s.secCommand pf code key (fun _ => true) (fun a =>
    if s.get floor < v ∧ 2 ^ 24 ≤ s.get (Lat.NV_WRITES i) then ((a.sets [(Fld.SEC_STATUS_BUSY, 0), (Lat.SEC_RUN, 0), (Fld.SEC_STATUS_WORN, 1)]).secRefuse 10) else a)

/-- ADV_FW: the FW floor rises to the firmware in force (R415). -/
def execAdvFw (pf : Fin 4) (key : Fin 65536) (s : State) : Res := .next (s.advance pf 10 key 1 Fld.SEC_FW_FLOOR (s.get Lat.FW_CNT))

/-- ADV_IMG: the IMG floor rises to the full image in force (R415). -/
def execAdvImg (pf : Fin 4) (key : Fin 65536) (s : State) : Res := .next (s.advance pf 11 key 2 Fld.SEC_IMG_FLOOR (s.get Lat.IMG_CNT))

/-- ADV_OVR: the OVR floor rises to CAL_OVR_CNT (R415). -/
def execAdvOvr (pf : Fin 4) (key : Fin 65536) (s : State) : Res := .next (s.advance pf 12 key 3 Fld.SEC_OVR_FLOOR (s.get Fld.CAL_OVR_CNT))

/-- SEC_CMD_INVALID: the codes 0 and 13 to 31 are refused with FORMAT (R427). -/
def execSecCmdInvalid (pf : Fin 4) (code : Fin 32) (key : Fin 65536) (s : State) : Res :=
  .next (if (code : Nat) = 0 ∨ 13 ≤ (code : Nat) then s.asPriv pf (fun a => (a.sets [(Fld.SEC_CMD_KEY, key), (Fld.SEC_CMD_CMD, code)]).secRefuse 8) else s)

/-! ### The end of a command -/

/-- Write bytes into a window of dwords. -/
def State.setWindow (s : State) (key : Nat → Key) (l : List (BitVec 8)) : State :=
  s.each (List.range ((l.length + 3) / 4)) (fun j a => a.set (key j) (leValue (slice l (4 * j) 4)))

/-- The first 456 bytes of a report (R420). -/
def State.attestReport (s : State) : List (BitVec 8) :=
  leBytes 4 0x41545331 ++ leBytes 2 1 ++ leBytes 2 1744 ++ leBytes 16 s.uid ++ leBytes 1 s.lc ++ leBytes 1 (s.get Lat.ATT_FLAGS) ++ leBytes 2 0 ++
    leBytes 4 (s.get Fld.SEC_BOOT_CNT) ++ leBytes 32 (s.getDwords Fld.SEC_NONCE 0 8) ++ leBytes 8 (s.get Lat.ATT_TICK) ++ leBytes 8 (s.get Lat.TOD_TICK) ++
    leBytes 8 (s.get Lat.TOD_SEC) ++ leBytes 4 (s.get Lat.TOD_NS) ++ leBytes 4 (s.get Fld.SYS_IMG_ID) ++ leBytes 4 (s.get Lat.FW_CNT) ++ leBytes 4 (s.get Lat.IMG_CNT) ++
    leBytes 4 (s.get Lat.OVR_CNT) ++ leBytes 4 (s.get Fld.SEC_FW_FLOOR) ++ leBytes 4 (s.get Fld.SEC_IMG_FLOOR) ++ leBytes 4 (s.get Fld.SEC_OVR_FLOOR) ++
    leBytes 4 (s.get Lat.REISSUES) ++ leBytes 4 0 ++ leBytes 64 (s.getDwords Fld.SEC_ID_DIG 0 16) ++ leBytes 64 (s.get Lat.M_FW) ++ leBytes 64 (s.get Lat.M_IMG) ++
    leBytes 64 ((s.factory.map (fun f => f.digest)).getD 0) ++ leBytes 64 (s.get Lat.M_OVR) ++ leBytes 8 0

/-- The report is signed and placed in SEC_ATT (R420, R422). -/
def State.attestDone (s : State) : State :=
  let r := s.attestReport
  { (s.resetKeys (fun k => k.r == .SEC_ATT)).setWindow Fld.SEC_ATT (r ++ sigBlock s.idKey "TRXATT01" r s.free) with free := s.free + 1 }

/-- The life-cycle state changes: fuses, status, event (R416, R417). -/
def State.lifeCycle (s : State) (n : Nat) : State := s.sets [(Fld.SEC_STATUS_LC, n), (Lat.LC_FUSED, n), (Fld.SEC_EVT_LC_CHANGED, 1)]

/-- PROVISION ends: a malformed OWNER key is refused with FORMAT; else both keys are stored and PROVISIONED is blown (R418). -/
def State.provisionDone (s : State) : State :=
  let owner := s.xfer.take 1793
  let keys := Config.falconKeys s.free
  if owner.take 1 ≠ [0x0A] then s.sets [(Lat.SEC_RES, 8), (Fld.SEC_EVT_REFUSED, 1)]
  else
    let s1 := { s with ownerKey := owner, idKey := keys.2, free := s.free + 1 }
    (((s1.setWindow Fld.SEC_ID_PUB (keys.1.take 1793)).setDwords Fld.SEC_ID_DIG 0 16 (digestOf keys.1)).setDwords Fld.SEC_OKEY_DIG 0 16 (digestOf owner)).lifeCycle 2
      |>.clr Fld.SEC_STATUS_DEBUG_OPEN

/-- Eight fresh dwords in SEC_DNONCE (R419). -/
def State.nonceDone (s : State) : State :=
  s.each (List.range 8) (fun i a => let f := a.fresh (2 ^ 32); f.2.set (Fld.SEC_DNONCE i) f.1)

/-- Every scratchpad bank and every byte of segment memory is written 0 (R419, R425). -/
def State.wipe (s : State) : State :=
  ({ s with sp := [], mem := [], badBursts := [] }).each (List.range 8) (fun t a => a.bankClear t 1)

/-- RMA_APPLY ends (R419): a valid token returns the device; SEC_DNONCE is cleared whatever the result. -/
def State.rmaDone (s : State) : State :=
  let s1 := if s.get Lat.SEC_RES = 0 then ((s.lifeCycle 4).eraseOwner.wipe).flag Fld.SEC_STATUS_DEBUG_OPEN else s.flag Fld.SEC_EVT_REFUSED
  s1.resetKeys (fun k => k.r == .SEC_DNONCE)

/-- A zeroization ends (R425): the fuse, the keys, and for ZEROIZE_DATA the memories. -/
def State.zeroizeDone (s : State) (wipes : Bool) : State :=
  let s1 := ({ s with idKey := [] }).eraseOwner.sets [(Fld.SEC_STATUS_ZEROIZED, 1), (Fld.SEC_EVT_ZEROIZED, 1)]
  if wipes then s1.wipe else s1

/-- The effect with which command `code` ends. -/
def State.secEffect (s : State) (code : Nat) : State :=
  match code with
  | 1 => s.attestDone
  | 3 => s.provisionDone
  | 4 => s.lifeCycle 3
  | 5 => s.nonceDone
  | 6 => s.rmaDone
  | 7 => (({ s with idKey := [] }).eraseOwner).lifeCycle 5
  | 8 => s.zeroizeDone false
  | 9 => s.zeroizeDone true
  | 10 => s.cellRise 1 Fld.SEC_FW_FLOOR (s.get Lat.FW_CNT)
  | 11 => s.cellRise 2 Fld.SEC_IMG_FLOOR (s.get Lat.IMG_CNT)
  | 12 => s.cellRise 3 Fld.SEC_OVR_FLOOR (s.get Fld.CAL_OVR_CNT)
  | _ => s

/-- No command runs any more: BUSY, RESULT, DONE, and SEC_XFER is cleared; a zeroization that waited starts (R427, R428). -/
def State.secEnd (s : State) (res : Nat) : State :=
  let next := s.get Lat.SEC_NEXT
  let s1 := (s.sets [(Fld.SEC_STATUS_BUSY, 0), (Fld.SEC_STATUS_RESULT, res), (Fld.SEC_EVT_DONE, 1), (Lat.SEC_RUN, 0), (Lat.SEC_NEXT, 0), (Lat.SEC_RES, 0)]).resetKeys
    (fun k => k.r == .SEC_XFER)
  if next = 0 then s1 else (s1.sets [(Fld.SEC_STATUS_BUSY, 1), (Lat.SEC_RUN, next)]).stopAll

/-- SEC_CMD_DONE: the command in progress completes (R427). A wipe waits until every reel is IDLE. RETIRE resets the device. -/
def execSecCmdDone (s : State) : Res :=
  let code := s.get Lat.SEC_RUN
  .next <|
    if !s.is Fld.SEC_STATUS_BUSY then s
    else if (code = 6 ∧ s.get Lat.SEC_RES = 0 ∨ code = 9) ∧ !s.allIdle then s
    else
      let s1 := s.secEffect code
      if code = 7 then s1.resetMain else s1.secEnd (s1.get Lat.SEC_RES)

/-- SEC_ERROR_ENTER: a self-test failure or a sensor alarm (codes 1 to 6) enters the error state: the first alarm is latched, a
command in progress ends with ERROR, SEC_ALARM is raised and persists, a boot stage fails at `us` (R399, R424). -/
def execSecErrorEnter (code : Fin 8) (us : Nat) (s : State) : Res :=
  let c : Nat := code
  let s1 := (s.flag Fld.SEC_STATUS_ERROR).when (!s.is Fld.SEC_STATUS_ERROR) (fun a => (a.set Fld.SEC_ALARM_CODE c).flag Fld.SEC_EVT_ERROR)
  let s2 := s1.when (c == 2 || c == 3) (fun a => a.flag Fld.SEC_EVT_HEALTH)
  let s3 := s2.when (s.is Fld.SEC_STATUS_BUSY) (fun a => a.secEnd 7)
  let s4 := if s.is Fld.SEC_STATUS_ERROR then s3 else (s3.persist 4 true).raise 4 (unitBlock 1) c []
  .next (if c = 0 ∨ c = 7 then s else if 1 ≤ s.stage then s4.bootFail 0xF1 us else s4)

end Sys2Proof.Machine
end

