-- ==== Sys2Proof/Machine/TestAccess.lean ====
section
/-!
DEFINITION. The test access port: instructions, boundary scan and its effect on stimulus, FUSE_INIT (R417, R429, R465, R466).
-/
namespace Sys2Proof.Machine

/-- An EXTEST instruction leaves: the park reason clears; reels stay as they are (R429). Nothing happens when none was selected. -/
def State.leaveExtest (s : State) : State := s.when s.inExtest (fun a => a.parkAll pkExtest false)

/-- Instruction `code` is selected; it is no EXTEST. -/
def State.tapSelect (s : State) (code : Nat) : State := (s.leaveExtest).set Lat.TAP_IR code

/-- An EXTEST instruction is selected: every reel stops, every channel and port parks, running groups with a drive destination
abort, and the PCIe link goes down (R282, R429, R451, R466). From one EXTEST instruction to another nothing more happens. -/
def State.extest (s : State) (code : Nat) : State :=
  if s.inExtest then s.set Lat.TAP_IR code
  else
    let s1 := ((s.set Lat.TAP_IR code).stopAll).parkAll pkExtest true
    let s2 := s1.each (List.range 32) (fun n a => a.hardParkAbort n)
    let f := s2.fresh (2 ^ 32)
    f.2.hostLinkDown f.1

/-- EXTEST (R429, R465). -/
def execExtest (s : State) : Res := .next (s.extest 0)

/-- EXTEST_PULSE is EXTEST for R429 and R451 (R465). -/
def execExtestPulse (s : State) : Res := .next (s.extest 4)

/-- EXTEST_TRAIN is EXTEST for R429 and R451 (R465). -/
def execExtestTrain (s : State) : Res := .next (s.extest 5)

/-- EXTEST_DESELECT: Test-Logic-Reset ends EXTEST and selects IDCODE (R429, R465). -/
def execExtestDeselect (s : State) : Res := .next (if s.inExtest then s.tapSelect 1 else s)

/-- The IDCODE register on the TRX9640 B0 (R465). -/
def idcode : Nat := 0x19640A8B

/-- IDCODE: the register is selected and shifts out (R465). -/
def execIdcode (s : State) : Res := .next ((s.tapSelect 1).emit (.tdo idcode))

/-- SAMPLE/PRELOAD: the 356 cells capture `sample`, the levels at the balls, which shift out, and hold `load` after the update
(R465, R466). -/
def execSamplePreload (sample load : Nat) (s : State) : Res := .next (((s.tapSelect 2).set Lat.BSR load).emit (.tdo (sample % 2 ^ 356)))

/-- The private codes are open (R429). -/
def State.privateOpen (s : State) (code : Nat) : Bool := decide (0x80 ≤ code) && decide (code ≤ 0xFE) && s.is Fld.SEC_STATUS_DEBUG_OPEN

/-- BYPASS: code 0xFF, an unused code, or a private code that is closed selects the bypass register (R429, R465). Other codes have rows
of their own; the manual describes no open private instruction. -/
def execBypass (code : Fin 256) (s : State) : Res :=
  .next (if [0, 1, 2, 4, 5].contains (code : Nat) || s.privateOpen code || ((code : Nat) == 0x90 && s.lc == 0) then s else s.tapSelect 0xFF)

/-- FUSE_INIT: on a BLANK device it blows DEV_UID, the VENDOR key digest and the first group of the life-cycle fuses, effective at
the next boot (R417); elsewhere it is closed and selects BYPASS (R429). -/
def execFuseInit (uid digest : Nat) (s : State) : Res :=
  .next <|
    if s.lc = 0 ∧ s.get Lat.LC_FUSED = 0 then
      ((((s.tapSelect 0x90).setDwords Fld.SEC_UID 0 4 uid).setDwords Fld.SEC_VKEY_DIG 0 16 digest).set Lat.LC_FUSED 1)
    else s.tapSelect 0xFF

end Sys2Proof.Machine
end

