-- ==== Sys2Proof/Machine/Thermal.lean ====
section
/-!
DEFINITION. Junction sensors and what follows their readings: sensor faults, refresh rates, the thermal class of the image,
calibration, the trip (R112, R113, R371, R459, R460), and the wear ledger (R462).
-/
namespace Sys2Proof.Machine

/-! ### Readings (R459) -/

/-- A sensor that reads and has not failed. -/
def State.sensorValid (s : State) (k : Nat) : Bool := s.is (Lat.SENS_SEEN k) && !s.is (Fld.SYS_TJ_FAULT k)

/-- A reading that is a sensor fault: outside -55 to +175 degrees, or more than 20 degrees from the last (R459). -/
def State.badReading (s : State) (k : Nat) (tj : Int) : Bool :=
  decide (tj < -55 * 16) || decide (175 * 16 < tj) || (s.is (Lat.SENS_SEEN k) && decide (20 * 16 < (tj - s.geti (Fld.SYS_TJ_TJ k)).natAbs))

/-- The hottest valid sensor of a list, as number and reading (R460, R462). -/
def State.hottest (s : State) (l : List Nat) : Option (Nat × Int) :=
  (l.filter (fun k => s.sensorValid k)).foldl (fun m k =>
    match m with
    | none => some (k, s.geti (Fld.SYS_TJ_TJ k))
    | some (j, t) => if t < s.geti (Fld.SYS_TJ_TJ k) then some (k, s.geti (Fld.SYS_TJ_TJ k)) else some (j, t)) none

/-- SYS_THERM names the hottest valid sensor (R460). -/
def State.thermShow (s : State) : State :=
  match s.hottest (List.range 21) with
  | none => s
  | some (k, t) => (s.set Fld.SYS_THERM_SENSOR k).seti Fld.SYS_THERM_TJ_MAX t

/-- A sensor fault: raised at the die of the sensor; the sensor no longer counts, and a stack whose sensor has failed refreshes
at 16x (R112, R334, R459). -/
def State.sensorFault (s : State) (k : Nat) : State :=
  let m := if 8 ≤ k ∧ k < 16 then markDie (k - 8) else if k < 8 then markTile k else []
  let s1 := (s.sets [(Fld.SYS_TJ_FAULT k, 1), (Lat.HOT155 k, 0), (Lat.HOT160 k, 0)]).raise 12 (sensorUnit k) k m
  (s1.when (decide (16 ≤ k) && decide (k < 20)) (fun a => a.sets [(Fld.MS_STK_STATUS_REFRESH (k - 16), 3), (Lat.STK_COLD_SINCE (k - 16), 0)])).thermShow

/-! ### Stacks (R112, R113) -/

/-- The refresh code of a temperature (R112). -/
def refreshFor (tj : Int) : Nat := if tj ≤ 85 * 16 then 0 else if tj ≤ 105 * 16 then 1 else if tj ≤ 125 * 16 then 2 else 3

/-- Stack `k` reads: its refresh steps up as the reading calls for, or the readings 3 degrees below the bound are counted. -/
def State.refreshReading (s : State) (k : Nat) (tj : Int) : State :=
  let r := s.get (Fld.MS_STK_STATUS_REFRESH k)
  if r < refreshFor tj then s.sets [(Fld.MS_STK_STATUS_REFRESH k, refreshFor tj), (Lat.STK_COLD_SINCE k, 0)]
  else if 0 < r ∧ tj ≤ refreshBound r - 48 then s.bump (Lat.STK_COLD_SINCE k)
  else s.clr (Lat.STK_COLD_SINCE k)

/-- The upper bound of the image's temperature class (R113). -/
def classBound (c : Nat) : Int := match c with | 0 => 85 * 16 | 1 => 105 * 16 | _ => 125 * 16

/-- Reel `r` holds a loan on a segment with a leaf in stack `k` (R113). -/
def State.loanIn (s : State) (r k : Nat) : Bool :=
  s.loans.any (fun l => l.reel == r && (let c := s.card l.card
    (s.coveredLeaves c).any (fun x => x % 4 == k) || (List.range c.leaves).any (fun n => ((s.dataLeaf c n).map (fun x => x % 4 == k)).getD false)))

/-- The action of MS_THERM_POL while stack `k` is over its class (R113). -/
def State.classAction (s : State) (k : Nat) : State :=
  let reels := s.activeReels.filter (fun r => s.stoppable r && s.loanIn r k)
  let ds := reels.flatMap (fun r => s.dests r)
  match s.get Fld.MS_THERM_POL_POL with
  | 0 => s
  | 2 => s.each reels (fun r a => a.requestStop r (wordNext a.now))
  | _ => s.each ds (fun d a =>
      if destKind d = 1 then a.chPark (destIdx d) pkThermBook true
      else if destKind d = 2 ∧ a.portTx (destIdx d) then a.ppPark (destIdx d) pkThermBook true else a)

/-- Stack `k` reads against the image's class: over the bound an episode begins and its policy acts; in an episode the readings 3
degrees below the bound are counted (R113). The 150 degree class has no episodes. -/
def State.classReading (s : State) (k : Nat) (tj : Int) : State :=
  let c := s.get Fld.MS_CFG_TEMP_CLASS
  if c = 3 then s
  else if classBound c < tj then
    let s1 := s.clr (Lat.STK_BOOK_COLD k)
    let s2 := if s.is (Fld.MS_STK_STATUS_OVER_CLASS k) then s1
      else (((s1.sets [(Fld.MS_STK_STATUS_OVER_CLASS k, 1), (Fld.MS_EVT_THERMAL, 1)]).raise 19 (unitStack k) k []).persist 19 true).archive 12 (unitStack k) s.now
        [s.get (Fld.MS_STK_STATUS_TJ k), 16 + k + 2 ^ 8]
    s2.classAction k
  else if tj ≤ classBound c - 48 then s.bump (Lat.STK_BOOK_COLD k)
  else s.clr (Lat.STK_BOOK_COLD k)

/-- A valid reading of stack `k`. -/
def State.stackReading (s : State) (k : Nat) (tj : Int) : State :=
  let s1 := s.seti (Fld.MS_STK_STATUS_TJ k) tj
  (s1.refreshReading k tj).classReading k tj

/-! ### The trip (R460) -/

/-- Two readings in a row at a limit: the count goes to 2 at most. -/
def hotCount (n : Nat) (hot : Bool) : Nat := if hot then min 2 (n + 1) else 0

/-- The trip begins: raised with the sensor, TRIP on every channel and transmitting port, running groups aborted (R282, R460). -/
def State.trip (s : State) (k : Nat) : State :=
  let m := if 8 ≤ k ∧ k < 16 then markDie (k - 8) else if k < 8 then markTile k else []
  ((((s.sets [(Lat.TRIP, 1), (Fld.SYS_THERM_TRIP, 1), (Lat.TRIP_FOR, 0)]).raise 2 (sensorUnit k) k m).persist 2 true).parkAll pkTrip true).each
    (List.range 32) (fun n a => a.hardParkAbort n)

/-- The reading of sensor `k` against the trip limits. -/
def State.tripReading (s : State) (k : Nat) (tj : Int) : State :=
  let s1 := s.sets [(Lat.HOT155 k, hotCount (s.get (Lat.HOT155 k)) (decide (155 * 16 ≤ tj))), (Lat.HOT160 k, hotCount (s.get (Lat.HOT160 k)) (decide (160 * 16 ≤ tj)))]
  if s1.get (Lat.HOT155 k) = 2 ∧ !s.is Lat.TRIP then s1.trip k else s1

/-- The readings of sensor 20 count the time of a trip, 10 microseconds each: how long it has lasted, and how long every valid
sensor has read 150 degrees or less (R459, R460). -/
def State.tripClock (s : State) : State :=
  let cool := (List.range 21).all (fun k => !s.sensorValid k || decide (s.geti (Fld.SYS_TJ_TJ k) ≤ 150 * 16))
  if s.is Lat.TRIP || s.is Fld.SYS_THERM_FORCED then
    s.sets [(Lat.TRIP_FOR, min 10000 (s.get Lat.TRIP_FOR + 1)), (Lat.COOL_FOR, if cool then min 1000 (s.get Lat.COOL_FOR + 1) else 0)]
  else s.sets [(Lat.TRIP_FOR, 0), (Lat.COOL_FOR, 0)]

/-- SENSOR_READING: sensor `k` reads `tj`, in sixteenths of a degree (R112, R113, R371, R459, R460). -/
def execSensorReading (k : Fin 21) (tj : Int) (s : State) : Res :=
  let s1 :=
    if s.is (Fld.SYS_TJ_FAULT k) then s
    else if s.badReading k tj then s.sensorFault k
    else
      let a := ((s.seti (Fld.SYS_TJ_TJ k) tj).flag (Lat.SENS_SEEN k)).thermShow
      let b := a.when (decide (16 ≤ (k : Nat)) && decide ((k : Nat) < 20)) (fun x => x.stackReading (k - 16) tj)
      (b.each ((List.range 32).filter (fun n => b.channelSensor n == k)) (fun n x => x.calTemperature n)).tripReading k tj
  .next (if (k : Nat) = 20 then s1.tripClock else s1)

/-- THERMAL_FORCED_STANDBY: a sensor has read 160 degrees twice in a row, or the trip has stood for 100 ms: every reel stops, and
the STANDBY transition begins when they are IDLE (R460). -/
def execThermalForcedStandby (s : State) : Res :=
  .next <|
    if !s.is Fld.SYS_THERM_FORCED && ((List.range 21).any (fun k => s.get (Lat.HOT160 k) == 2) || (s.is Lat.TRIP && s.get Lat.TRIP_FOR == 10000)) then
      let s1 := (s.flag Fld.SYS_THERM_FORCED).stopAll
      if 1 < s.get Fld.AON_PWR_STATUS_STATE then s1
      else if s1.allIdle && !s.is Lat.PWR_BUSY then s1.toStandby
      else s1.flag Lat.FORCE_STBY
    else s

/-- THERMAL_TRIP_CLEAR: every sensor has read 150 degrees or less for 10 ms: the condition clears, and FORCED with it; the TRIP park
reason waits for an UNPARK (R460). -/
def execThermalTripClear (s : State) : Res :=
  .next <|
    if (s.is Lat.TRIP || s.is Fld.SYS_THERM_FORCED) && s.get Lat.COOL_FOR == 1000 then
      (s.sets [(Lat.TRIP, 0), (Fld.SYS_THERM_TRIP, 0), (Fld.SYS_THERM_FORCED, 0), (Lat.TRIP_FOR, 0), (Lat.COOL_FOR, 0)]).persist 2 false
    else s

/-! ### The wear ledger (R462) -/

/-- The sensors of die class `d`. -/
def classSensors (d : Nat) : List Nat :=
  match d with
  | 0 => [0, 1, 2, 3, 4, 5, 6, 7, 20]
  | 1 => [8, 9, 10, 11, 12, 13, 14, 15]
  | _ => [16, 17, 18, 19]

/-- The bin of a temperature. -/
def wearBin (tj : Int) : Nat :=
  if tj < -20 * 16 then 0 else if tj ≤ 85 * 16 then 1 else if tj ≤ 110 * 16 then 2 else if tj ≤ 125 * 16 then 3
  else if tj ≤ 140 * 16 then 4 else if tj ≤ 150 * 16 then 5 else 6

/-- WEAR_SECOND: one second is added to a bin of each die class (R462). A class none of whose sensors is valid has no temperature:
its bin is a free value. -/
def execWearSecond (s : State) : Res :=
  let s1 := s.each [0, 1, 2] (fun d a =>
    let r := match a.hottest (classSensors d) with
      | some (_, t) => (wearBin t, a)
      | none => a.fresh 7
    (r.2.bump (Lat.WEAR_T d r.1)).wearShow d)
  .next (if s.is Lat.PWR_OFF then s else s1.bump Lat.WEAR_AGE)

/-- WEAR_COMMIT: the counts are committed, an hour after the last hourly commit (R462). An orderly STANDBY or SLEEP commits them
too. -/
def execWearCommit (s : State) : Res := .next (if 3600 ≤ s.get Lat.WEAR_AGE then s.wearCommit else s)

end Sys2Proof.Machine
end

