-- ==== Sys2Proof/Machine/Dispatch.lean ====
section
/-!
DEFINITION. One arm per command: the meaning it has, by one direct call.
-/
namespace Sys2Proof.Machine

def exec (i : Instr) (s : State) : Host.Outcome State Fault Refusal :=
  match i with
  | .registerWrite pf addr be v => Sys2Proof.Machine.execRegisterWrite pf addr be v s
  | .stickyReadClear pf addr => Sys2Proof.Machine.execStickyReadClear pf addr s
  | .wsWriteEffect => Sys2Proof.Machine.execWsWriteEffect s
  | .tickSkew t => Sys2Proof.Machine.execTickSkew t s
  | .ccFault t => Sys2Proof.Machine.execCcFault t s
  | .refCfgWrite pf v => Sys2Proof.Machine.execRefCfgWrite pf v s
  | .refLost h => Sys2Proof.Machine.execRefLost h s
  | .refBack => Sys2Proof.Machine.execRefBack s
  | .pllEnable pf => Sys2Proof.Machine.execPllEnable pf s
  | .pllDisable pf => Sys2Proof.Machine.execPllDisable pf s
  | .lockDetect band => Sys2Proof.Machine.execLockDetect band s
  | .pllUnlock => Sys2Proof.Machine.execPllUnlock s
  | .reacquireStart => Sys2Proof.Machine.execReacquireStart s
  | .reacqTimeout => Sys2Proof.Machine.execReacqTimeout s
  | .reanchorStop => Sys2Proof.Machine.execReanchorStop s
  | .anchorRelease d j => Sys2Proof.Machine.execAnchorRelease d j s
  | .reanchorParkRelease => Sys2Proof.Machine.execReanchorParkRelease s
  | .anchorMeasDone mean => Sys2Proof.Machine.execAnchorMeasDone mean s
  | .tbStopDone => Sys2Proof.Machine.execTbStopDone s
  | .tbAnchor pf => Sys2Proof.Machine.execTbAnchor pf s
  | .tbRelock pf => Sys2Proof.Machine.execTbRelock pf s
  | .loadArm pf withDisarm => Sys2Proof.Machine.execLoadArm pf withDisarm s
  | .loadDisarm pf => Sys2Proof.Machine.execLoadDisarm pf s
  | .todCommit pf => Sys2Proof.Machine.execTodCommit pf s
  | .epochCfgWrite pf n reg v => Sys2Proof.Machine.execEpochCfgWrite pf n reg v s
  | .epochPulse n => Sys2Proof.Machine.execEpochPulse n s
  | .epochInEdge => Sys2Proof.Machine.execEpochInEdge s
  | .sysrefCfgWrite pf n reg v => Sys2Proof.Machine.execSysrefCfgWrite pf n reg v s
  | .sysrefPulse n => Sys2Proof.Machine.execSysrefPulse n s
  | .bar2Write pf addr data uncorr => Sys2Proof.Machine.execBar2Write pf addr data uncorr s
  | .bar2Read pf addr len uncorr => Sys2Proof.Machine.execBar2Read pf addr len uncorr s
  | .cardWrite withRead => Sys2Proof.Machine.execCardWrite withRead s
  | .cardRead withWrite => Sys2Proof.Machine.execCardRead withWrite s
  | .cardCmdComplete => Sys2Proof.Machine.execCardCmdComplete s
  | .cardCacheFill t k => Sys2Proof.Machine.execCardCacheFill t k s
  | .cueWindowEnter r q ecc => Sys2Proof.Machine.execCueWindowEnter r q ecc s
  | .loanInForce k => Sys2Proof.Machine.execLoanInForce k s
  | .wdropClr => Sys2Proof.Machine.execWdropClr s
  | .streamBind n v => Sys2Proof.Machine.execStreamBind n v s
  | .streamReset n => Sys2Proof.Machine.execStreamReset n s
  | .hostCommitWrite pf n seq => Sys2Proof.Machine.execHostCommitWrite pf n seq s
  | .streamCommit n => Sys2Proof.Machine.execStreamCommit n s
  | .playPointerAdvance n => Sys2Proof.Machine.execPlayPointerAdvance n s
  | .refreshStepDown k => Sys2Proof.Machine.execRefreshStepDown k s
  | .bookingThermalClear k => Sys2Proof.Machine.execBookingThermalClear k s
  | .marchStart t v => Sys2Proof.Machine.execMarchStart t v s
  | .marchDone t fails addr => Sys2Proof.Machine.execMarchDone t fails addr s
  | .scratchpadWrite pf addr data ecc => Sys2Proof.Machine.execScratchpadWrite pf addr data ecc s
  | .reelRecordWrite r j v => Sys2Proof.Machine.execReelRecordWrite r j v s
  | .reelArm t others => Sys2Proof.Machine.execReelArm t others s
  | .reelDisarm t others => Sys2Proof.Machine.execReelDisarm t others s
  | .reelStopAt t others => Sys2Proof.Machine.execReelStopAt t others s
  | .reelClear t others => Sys2Proof.Machine.execReelClear t others s
  | .reelStart r => Sys2Proof.Machine.execReelStart r s
  | .cueBoundary r => Sys2Proof.Machine.execCueBoundary r s
  | .cueNop r w => Sys2Proof.Machine.execCueNop r w s
  | .cuePlay r w => Sys2Proof.Machine.execCuePlay r w s
  | .cuePlayn r w => Sys2Proof.Machine.execCuePlayn r w s
  | .cueLoop r w => Sys2Proof.Machine.execCueLoop r w s
  | .cueNext r w => Sys2Proof.Machine.execCueNext r w s
  | .cueCall r w => Sys2Proof.Machine.execCueCall r w s
  | .cueRet r w => Sys2Proof.Machine.execCueRet r w s
  | .cueWaitEv r w => Sys2Proof.Machine.execCueWaitEv r w s
  | .cueWaitTick r w => Sys2Proof.Machine.execCueWaitTick r w s
  | .cueSync r w => Sys2Proof.Machine.execCueSync r w s
  | .cueCutif r w => Sys2Proof.Machine.execCueCutif r w s
  | .cueSetF r w => Sys2Proof.Machine.execCueSetF r w s
  | .cueSetP r w => Sys2Proof.Machine.execCueSetP r w s
  | .cueSetG r w => Sys2Proof.Machine.execCueSetG r w s
  | .cueSetRng r w => Sys2Proof.Machine.execCueSetRng r w s
  | .cueSlate r w => Sys2Proof.Machine.execCueSlate r w s
  | .cueMark r w => Sys2Proof.Machine.execCueMark r w s
  | .cueFire r w => Sys2Proof.Machine.execCueFire r w s
  | .cueEventPulse r => Sys2Proof.Machine.execCueEventPulse r s
  | .cueCalGap r w => Sys2Proof.Machine.execCueCalGap r w s
  | .cueStop r w => Sys2Proof.Machine.execCueStop r w s
  | .cueEnd r w => Sys2Proof.Machine.execCueEnd r w s
  | .waitEnd r => Sys2Proof.Machine.execWaitEnd r s
  | .waitTimeout r => Sys2Proof.Machine.execWaitTimeout r s
  | .stopTakeEffect r => Sys2Proof.Machine.execStopTakeEffect r s
  | .reelStopDone r => Sys2Proof.Machine.execReelStopDone r s
  | .reelFault r recordEcc => Sys2Proof.Machine.execReelFault r recordEcc s
  | .eventStamp t c => Sys2Proof.Machine.execEventStamp t c s
  | .stampAgreed c => Sys2Proof.Machine.execStampAgreed c s
  | .cutCommit r => Sys2Proof.Machine.execCutCommit r s
  | .cutTake r late => Sys2Proof.Machine.execCutTake r late s
  | .headFill t k => Sys2Proof.Machine.execHeadFill t k s
  | .lateLeaf r cause => Sys2Proof.Machine.execLateLeaf r cause s
  | .lateResume r => Sys2Proof.Machine.execLateResume r s
  | .recoveryCut r => Sys2Proof.Machine.execRecoveryCut r s
  | .voiceStage t both => Sys2Proof.Machine.execVoiceStage t both s
  | .voiceCommit t both => Sys2Proof.Machine.execVoiceCommit t both s
  | .voiceUpdateApply r => Sys2Proof.Machine.execVoiceUpdateApply r s
  | .sweepPieceStart r => Sys2Proof.Machine.execSweepPieceStart r s
  | .chEnable n => Sys2Proof.Machine.execChEnable n s
  | .chDisable n => Sys2Proof.Machine.execChDisable n s
  | .chStageReady n => Sys2Proof.Machine.execChStageReady n s
  | .chRampDownDone n => Sys2Proof.Machine.execChRampDownDone n s
  | .chParkWrite n on => Sys2Proof.Machine.execChParkWrite n on s
  | .chRelease n => Sys2Proof.Machine.execChRelease n s
  | .unpark n => Sys2Proof.Machine.execUnpark n s
  | .rngReq n => Sys2Proof.Machine.execRngReq n s
  | .eqSwap n => Sys2Proof.Machine.execEqSwap n s
  | .chEqCoefWrite n b tap v => Sys2Proof.Machine.execChEqCoefWrite n b tap v s
  | .channelBoundary n => Sys2Proof.Machine.execChannelBoundary n s
  | .rangeGapStart n => Sys2Proof.Machine.execRangeGapStart n s
  | .rangeGapEnd n => Sys2Proof.Machine.execRangeGapEnd n s
  | .parkNFall => Sys2Proof.Machine.execParkNFall s
  | .parkNRelease held => Sys2Proof.Machine.execParkNRelease held s
  | .outShort n present => Sys2Proof.Machine.execOutShort n present s
  | .stageHot n present => Sys2Proof.Machine.execStageHot n present s
  | .feedFault n fill => Sys2Proof.Machine.execFeedFault n fill s
  | .converterSupplyLoss d pg => Sys2Proof.Machine.execConverterSupplyLoss d pg s
  | .portEnable p => Sys2Proof.Machine.execPortEnable p s
  | .portDisable p => Sys2Proof.Machine.execPortDisable p s
  | .portStopDone p => Sys2Proof.Machine.execPortStopDone p s
  | .portStartDone p => Sys2Proof.Machine.execPortStartDone p s
  | .portUnpark p => Sys2Proof.Machine.execPortUnpark p s
  | .dlyCal p => Sys2Proof.Machine.execDlyCal p s
  | .dlyCalDone p mean => Sys2Proof.Machine.execDlyCalDone p mean s
  | .capStart p => Sys2Proof.Machine.execCapStart p s
  | .capAbort p => Sys2Proof.Machine.execCapAbort p s
  | .captureTrigger p samples => Sys2Proof.Machine.execCaptureTrigger p samples s
  | .captureEnd p => Sys2Proof.Machine.execCaptureEnd p s
  | .captureOverflow p => Sys2Proof.Machine.execCaptureOverflow p s
  | .rxSlip p phase => Sys2Proof.Machine.execRxSlip p phase s
  | .txbufFault p present => Sys2Proof.Machine.execTxbufFault p present s
  | .jesdEnable p rbd => Sys2Proof.Machine.execJesdEnable p rbd s
  | .jesdDisable p => Sys2Proof.Machine.execJesdDisable p s
  | .jesdTxFramingStart p => Sys2Proof.Machine.execJesdTxFramingStart p s
  | .jesdTxStopDone p => Sys2Proof.Machine.execJesdTxStopDone p s
  | .jesdRxBlockLock p => Sys2Proof.Machine.execJesdRxBlockLock p s
  | .jesdRxMblkFound p => Sys2Proof.Machine.execJesdRxMblkFound p s
  | .jesdRxRelease p late => Sys2Proof.Machine.execJesdRxRelease p late s
  | .jloss p lane => Sys2Proof.Machine.execJloss p lane s
  | .jcrc p => Sys2Proof.Machine.execJcrc p s
  | .corStart g multi => Sys2Proof.Machine.execCorStart g multi s
  | .corClose g multi => Sys2Proof.Machine.execCorClose g multi s
  | .corHold g multi => Sys2Proof.Machine.execCorHold g multi s
  | .corResume g multi => Sys2Proof.Machine.execCorResume g multi s
  | .corStop g multi => Sys2Proof.Machine.execCorStop g multi s
  | .corAbort g multi => Sys2Proof.Machine.execCorAbort g multi s
  | .corClear g multi => Sys2Proof.Machine.execCorClear g multi s
  | .corRefSwap g multi => Sys2Proof.Machine.execCorRefSwap g multi s
  | .corLevelWrite g v => Sys2Proof.Machine.execCorLevelWrite g v s
  | .corFrameClose g sat flagged gap ecc errs rms cur tag tag32 store => Sys2Proof.Machine.execCorFrameClose g sat flagged gap ecc errs rms cur tag tag32 store s
  | .corBlockEnd g sat flagged gap ecc errs rms cur tag tag32 store upd => Sys2Proof.Machine.execCorBlockEnd g sat flagged gap ecc errs rms cur tag tag32 store upd s
  | .corUpdate g held rho => Sys2Proof.Machine.execCorUpdate g held rho s
  | .rampStart g => Sys2Proof.Machine.execRampStart g s
  | .rampEnd g => Sys2Proof.Machine.execRampEnd g s
  | .tiuEnable k => Sys2Proof.Machine.execTiuEnable k s
  | .tiuDisable k => Sys2Proof.Machine.execTiuDisable k s
  | .tiuDllLock k => Sys2Proof.Machine.execTiuDllLock k s
  | .tiuStopDone k => Sys2Proof.Machine.execTiuStopDone k s
  | .tiuArm k => Sys2Proof.Machine.execTiuArm k s
  | .tiuAbort k => Sys2Proof.Machine.execTiuAbort k s
  | .tiuT0 k => Sys2Proof.Machine.execTiuT0 k s
  | .tiuEdge k line q => Sys2Proof.Machine.execTiuEdge k line q s
  | .tiuDone k => Sys2Proof.Machine.execTiuDone k s
  | .tiuCalRun k host => Sys2Proof.Machine.execTiuCalRun k host s
  | .tiuCalComplete k a b offset => Sys2Proof.Machine.execTiuCalComplete k a b offset s
  | .tiuReservedWrite k arm => Sys2Proof.Machine.execTiuReservedWrite k arm s
  | .channelPulse c => Sys2Proof.Machine.execChannelPulse c s
  | .channelLockoutEnd c => Sys2Proof.Machine.execChannelLockoutEnd c s
  | .loopWindowEnd c => Sys2Proof.Machine.execLoopWindowEnd c s
  | .matrixWrite pf p w v => Sys2Proof.Machine.execMatrixWrite pf p w v s
  | .groupEnableWrite v => Sys2Proof.Machine.execGroupEnableWrite v s
  | .hostFire w v => Sys2Proof.Machine.execHostFire w v s
  | .taskCfgWrite k v => Sys2Proof.Machine.execTaskCfgWrite k v s
  | .taskTrigger k => Sys2Proof.Machine.execTaskTrigger k s
  | .taskFire v => Sys2Proof.Machine.execTaskFire v s
  | .taskDeferDeliver k => Sys2Proof.Machine.execTaskDeferDeliver k s
  | .taskCntClr => Sys2Proof.Machine.execTaskCntClr s
  | .armGroup t g => Sys2Proof.Machine.execArmGroup t g s
  | .stopGroup t g => Sys2Proof.Machine.execStopGroup t g s
  | .captureTask p => Sys2Proof.Machine.execCaptureTask p s
  | .sysrefBurst n => Sys2Proof.Machine.execSysrefBurst n s
  | .groupEnableTask g => Sys2Proof.Machine.execGroupEnableTask g s
  | .groupDisableTask g => Sys2Proof.Machine.execGroupDisableTask g s
  | .tiuArmTask k => Sys2Proof.Machine.execTiuArmTask k s
  | .corAbortTask g => Sys2Proof.Machine.execCorAbortTask g s
  | .corStopTask g => Sys2Proof.Machine.execCorStopTask g s
  | .archiveLogTask k => Sys2Proof.Machine.execArchiveLogTask k s
  | .remoteEventSend l m => Sys2Proof.Machine.execRemoteEventSend l m s
  | .doorbell c b => Sys2Proof.Machine.execDoorbell c b s
  | .ccProducerPulse t => Sys2Proof.Machine.execCcProducerPulse t s
  | .timerCfgWrite k cfg => Sys2Proof.Machine.execTimerCfgWrite k cfg s
  | .timerFire k => Sys2Proof.Machine.execTimerFire k s
  | .thresholdCross k signal => Sys2Proof.Machine.execThresholdCross k signal s
  | .evioInputEdge n high => Sys2Proof.Machine.execEvioInputEdge n high s
  | .evioAlignPulse n => Sys2Proof.Machine.execEvioAlignPulse n s
  | .irqPresent t => Sys2Proof.Machine.execIrqPresent t s
  | .irqClaim reader t => Sys2Proof.Machine.execIrqClaim reader t s
  | .irqEoi t v => Sys2Proof.Machine.execIrqEoi t v s
  | .irqRouteWrite src v => Sys2Proof.Machine.execIrqRouteWrite src v s
  | .msixUnmask pf vec => Sys2Proof.Machine.execMsixUnmask pf vec s
  | .icSwSet v => Sys2Proof.Machine.execIcSwSet v s
  | .wakeWatcherAssert src => Sys2Proof.Machine.execWakeWatcherAssert src s
  | .ledgerClear v => Sys2Proof.Machine.execLedgerClear v s
  | .ledgerPersistReraise k => Sys2Proof.Machine.execLedgerPersistReraise k s
  | .archiveWriteEntry => Sys2Proof.Machine.execArchiveWriteEntry s
  | .archiveRdWrite v => Sys2Proof.Machine.execArchiveRdWrite v s
  | .archiveTempPeriodic => Sys2Proof.Machine.execArchiveTempPeriodic s
  | .linkEnable l => Sys2Proof.Machine.execLinkEnable l s
  | .linkDisable l => Sys2Proof.Machine.execLinkDisable l s
  | .linkStopDone l => Sys2Proof.Machine.execLinkStopDone l s
  | .linkTrained l => Sys2Proof.Machine.execLinkTrained l s
  | .linkTrainTimeout l => Sys2Proof.Machine.execLinkTrainTimeout l s
  | .linkMeasureDone l evMeas strmMeas => Sys2Proof.Machine.execLinkMeasureDone l evMeas strmMeas s
  | .linkSyncLoss l cause => Sys2Proof.Machine.execLinkSyncLoss l cause s
  | .linkRetrainLock l => Sys2Proof.Machine.execLinkRetrainLock l s
  | .linkRetrainTimeout l => Sys2Proof.Machine.execLinkRetrainTimeout l s
  | .linkDownTimeout l => Sys2Proof.Machine.execLinkDownTimeout l s
  | .linkFrameTx l => Sys2Proof.Machine.execLinkFrameTx l s
  | .headerRx l w stamp => Sys2Proof.Machine.execHeaderRx l w stamp s
  | .msgTime l w0 w1 w2 => Sys2Proof.Machine.execMsgTime l w0 w1 w2 s
  | .msgEvent l w => Sys2Proof.Machine.execMsgEvent l w s
  | .msgStream l c w data => Sys2Proof.Machine.execMsgStream l c w data s
  | .msgMgmt l kind data => Sys2Proof.Machine.execMsgMgmt l kind data s
  | .linkAlign => Sys2Proof.Machine.execLinkAlign s
  | .alignParentReady => Sys2Proof.Machine.execAlignParentReady s
  | .alignAnchorArm => Sys2Proof.Machine.execAlignAnchorArm s
  | .alignVerify => Sys2Proof.Machine.execAlignVerify s
  | .autoAlignStart => Sys2Proof.Machine.execAutoAlignStart s
  | .rcalCheck mohm => Sys2Proof.Machine.execRcalCheck mohm s
  | .calMeasComplete n kind delta p res => Sys2Proof.Machine.execCalMeasComplete n kind delta p res s
  | .calMeasTimeout n => Sys2Proof.Machine.execCalMeasTimeout n s
  | .calLoadExtrap n p => Sys2Proof.Machine.execCalLoadExtrap n p s
  | .calAccept n multi => Sys2Proof.Machine.execCalAccept n multi s
  | .calRemeasure n multi => Sys2Proof.Machine.execCalRemeasure n multi s
  | .calHold n multi => Sys2Proof.Machine.execCalHold n multi s
  | .calRun multi => Sys2Proof.Machine.execCalRun multi s
  | .calAbort multi => Sys2Proof.Machine.execCalAbort multi s
  | .calHostRunDone ofs gain inl skew p vres sres => Sys2Proof.Machine.execCalHostRunDone ofs gain inl skew p vres sres s
  | .ovrLoad multi => Sys2Proof.Machine.execOvrLoad multi s
  | .ovrLoadDone rec => Sys2Proof.Machine.execOvrLoadDone rec s
  | .imageLoad pf => Sys2Proof.Machine.execImageLoad pf s
  | .imageLoadDone data => Sys2Proof.Machine.execImageLoadDone data s
  | .reissue pf => Sys2Proof.Machine.execReissue pf s
  | .tileEnable pf t => Sys2Proof.Machine.execTileEnable pf t s
  | .tileDisable pf t => Sys2Proof.Machine.execTileDisable pf t s
  | .tileStartDone t => Sys2Proof.Machine.execTileStartDone t s
  | .tileStopDone t => Sys2Proof.Machine.execTileStopDone t s
  | .tileLoadDone t data => Sys2Proof.Machine.execTileLoadDone t data s
  | .bootAttemptStart src => Sys2Proof.Machine.execBootAttemptStart src s
  | .bootStageDone us data fac ovr => Sys2Proof.Machine.execBootStageDone us data fac ovr s
  | .bootGo pf => Sys2Proof.Machine.execBootGo pf s
  | .hostTimeout us => Sys2Proof.Machine.execHostTimeout us s
  | .bootStageFail cause us => Sys2Proof.Machine.execBootStageFail cause us s
  | .bootRetryDelay => Sys2Proof.Machine.execBootRetryDelay s
  | .bootReady us => Sys2Proof.Machine.execBootReady us s
  | .bootRetry pf => Sys2Proof.Machine.execBootRetry pf s
  | .loaderWrite pf flash data => Sys2Proof.Machine.execLoaderWrite pf flash data s
  | .loaderVerify pf flash same => Sys2Proof.Machine.execLoaderVerify pf flash same s
  | .loaderRead pf flash data => Sys2Proof.Machine.execLoaderRead pf flash data s
  | .loaderDone => Sys2Proof.Machine.execLoaderDone s
  | .sysReset pf key => Sys2Proof.Machine.execSysReset pf key s
  | .aonPowerOn => Sys2Proof.Machine.execAonPowerOn s
  | .standby pf => Sys2Proof.Machine.execStandby pf s
  | .pwrResume pf => Sys2Proof.Machine.execPwrResume pf s
  | .sleep pf => Sys2Proof.Machine.execSleep pf s
  | .wake pf => Sys2Proof.Machine.execWake pf s
  | .powerTransitionDone => Sys2Proof.Machine.execPowerTransitionDone s
  | .runIdleChange => Sys2Proof.Machine.execRunIdleChange s
  | .mainRailPgLoss rail lost => Sys2Proof.Machine.execMainRailPgLoss rail lost s
  | .supplyUv rail low => Sys2Proof.Machine.execSupplyUv rail low s
  | .attest pf key => Sys2Proof.Machine.execAttest pf key s
  | .selftest pf key => Sys2Proof.Machine.execSelftest pf key s
  | .provision pf key => Sys2Proof.Machine.execProvision pf key s
  | .secField pf key => Sys2Proof.Machine.execSecField pf key s
  | .rmaNonce pf key => Sys2Proof.Machine.execRmaNonce pf key s
  | .rmaApply pf key => Sys2Proof.Machine.execRmaApply pf key s
  | .retire pf key => Sys2Proof.Machine.execRetire pf key s
  | .zeroize pf key => Sys2Proof.Machine.execZeroize pf key s
  | .zeroizeData pf key => Sys2Proof.Machine.execZeroizeData pf key s
  | .advFw pf key => Sys2Proof.Machine.execAdvFw pf key s
  | .advImg pf key => Sys2Proof.Machine.execAdvImg pf key s
  | .advOvr pf key => Sys2Proof.Machine.execAdvOvr pf key s
  | .secCmdInvalid pf code key => Sys2Proof.Machine.execSecCmdInvalid pf code key s
  | .secErrorEnter code us => Sys2Proof.Machine.execSecErrorEnter code us s
  | .fuseInit uid digest => Sys2Proof.Machine.execFuseInit uid digest s
  | .extest => Sys2Proof.Machine.execExtest s
  | .extestPulse => Sys2Proof.Machine.execExtestPulse s
  | .extestTrain => Sys2Proof.Machine.execExtestTrain s
  | .extestDeselect => Sys2Proof.Machine.execExtestDeselect s
  | .idcode => Sys2Proof.Machine.execIdcode s
  | .samplePreload sample load => Sys2Proof.Machine.execSamplePreload sample load s
  | .bypass code => Sys2Proof.Machine.execBypass code s
  | .hostLinkReset link => Sys2Proof.Machine.execHostLinkReset link s
  | .hostLinkUp flit width speed => Sys2Proof.Machine.execHostLinkUp flit width speed s
  | .flr pf => Sys2Proof.Machine.execFlr pf s
  | .pfD3hot pf => Sys2Proof.Machine.execPfD3hot pf s
  | .bmeClear pf => Sys2Proof.Machine.execBmeClear pf s
  | .dmaQueueEnable pf q => Sys2Proof.Machine.execDmaQueueEnable pf q s
  | .dmaQueueDisable pf q => Sys2Proof.Machine.execDmaQueueDisable pf q s
  | .dmaStopDone q => Sys2Proof.Machine.execDmaStopDone q s
  | .dmaTailWrite pf q v => Sys2Proof.Machine.execDmaTailWrite pf q v s
  | .writeSeg q d moved data uncorr err => Sys2Proof.Machine.execWriteSeg q d moved data uncorr err s
  | .readSeg q d moved uncorr err => Sys2Proof.Machine.execReadSeg q d moved uncorr err s
  | .writeSp q d moved data err => Sys2Proof.Machine.execWriteSp q d moved data err s
  | .readSp q d moved err => Sys2Proof.Machine.execReadSp q d moved err s
  | .dmaCard q d moved data err => Sys2Proof.Machine.execDmaCard q d moved data err s
  | .descWriteback q d err => Sys2Proof.Machine.execDescWriteback q d err s
  | .sensorReading k tj => Sys2Proof.Machine.execSensorReading k tj s
  | .thermalForcedStandby => Sys2Proof.Machine.execThermalForcedStandby s
  | .thermalTripClear => Sys2Proof.Machine.execThermalTripClear s
  | .wearSecond => Sys2Proof.Machine.execWearSecond s
  | .wearCommit => Sys2Proof.Machine.execWearCommit s
  | .converterSupplyGood d => Sys2Proof.Machine.execConverterSupplyGood d s
  | .portRelease p => Sys2Proof.Machine.execPortRelease p s
  | .tiuDllLockLoss k => Sys2Proof.Machine.execTiuDllLockLoss k s
  | .jesdRxOffReached p => Sys2Proof.Machine.execJesdRxOffReached p s
  | .secCmdDone => Sys2Proof.Machine.execSecCmdDone s
  | .pfD0Entry pf => Sys2Proof.Machine.execPfD0Entry pf s
  | .bmeSet pf => Sys2Proof.Machine.execBmeSet pf s
  | .msixFunctionMask pf enable fmask => Sys2Proof.Machine.execMsixFunctionMask pf enable fmask s
  | .crossbarFault port => Sys2Proof.Machine.execCrossbarFault port s
  | .fftSliceFault k => Sys2Proof.Machine.execFftSliceFault k s
  | .stackTrainingLoss stack refresh => Sys2Proof.Machine.execStackTrainingLoss stack refresh s

end Sys2Proof.Machine
end

