-- ==== Sys2Proof/Machine/Tick.lean ====
section
/-!
DEFINITION. One tick of device time: what follows the tick count whatever is commanded (R58, R63, R64, R69).
-/
namespace Sys2Proof.Machine

/-- The count advances: LOCKED, COAST, REACQUIRE, a REANCHOR until its stop, and STOPPING to the next word boundary (R58, R64,
R69). -/
def State.counting (s : State) : Bool :=
  match s.get Fld.TB_STATUS_STATE with
  | 3 => true
  | 4 => true
  | 5 => true
  | 6 => !s.is Lat.TB_HELD
  | 7 => s.tick % 8 != 0
  | _ => false

/-- What the tick in progress puts out: channel paths, pattern and converter ports, captures, link streams (R222, R244, R250, R257,
R363, R364). -/
def State.outputs (s : State) : State :=
  let t := s.tick
  let s1 := s.each ((List.range 32).filter (fun n => s.get (Fld.CH_STATUS_STATE n) != 0)) (fun n a => a.channelTick n t)
  let s2 := s1.each (List.range 48) (fun p a => ((a.portTick p t).jesdTick p t).captureStep p)
  s2.each (List.range 16) (fun l a => a.linkTick l t)

/-- Reel `r` at a new tick: the actions of its anchor tick, or a fault that waited for it; the sample index; the sweep entry that
is read 64 words ahead (R139, R158, R202). -/
def State.reelTick (s : State) (r : Nat) : State :=
  let e := s.eng r
  let st := s.reelState r
  let s1 :=
    if st = 0 ∨ 5 ≤ st ∨ s.tick < e.anchor then s
    else if e.run && !e.started then s.anchorActions r e.anchor
    else if e.deferred.any (fun c => c.fault != 0) then s.runDeferred r e.anchor
    else s
  let e1 := s1.eng r
  let s2 := s1.when (e1.run && e1.started && decide (s1.tick < e1.endB)) (fun a =>
    a.set2 (Fld.REEL_POS_LO r) (Fld.REEL_POS_HI r) ((a.tick - e1.anchor) / 2 ^ a.rate r))
  match e1.sweepEnd with
  | some t => s2.when (e1.sweepEntry.isNone && decide (t ≤ s.tick + 512) && decide (s.get (Fld.REEL_SWP_IDX r) + 1 < s.get (Fld.REEL_SWP_CNT r))) (fun a =>
      a.onEng r (fun x => { x with sweepEntry := some (a.sweepRow r (a.get (Fld.REEL_SWP_IDX r) + 1)) }))
  | none => s2

/-- An ALIGN pulse on an EVIO pin ends at its tick (R321). -/
def State.evioFall (s : State) (n : Nat) : State := s.when (s.is (Lat.EVIO_OUT n) && decide (s.get (Lat.EVIO_FALL_AT n) ≤ s.tick)) (fun a => a.clr (Lat.EVIO_OUT n))

/-- TB_FTRIM.CUR moves one step towards TRIM, which saturates at ±200 (R63). -/
def State.trimStep (s : State) : State :=
  let cur := s.geti Fld.TB_FTRIM_CUR
  let tgt := clampInt (-200) 200 (s.geti Fld.TB_FTRIM_TRIM)
  s.seti Fld.TB_FTRIM_CUR (if cur < tgt then cur + 1 else if tgt < cur then cur - 1 else cur)

/-- What happens at every word boundary: soft parks, slews, a corrector START that waits, the age of tap tables (R63, R226, R235,
R246, R247, R284, R289). -/
def State.wordStart (s : State) : State :=
  let s1 := (s.trimStep).each (List.range 32) (fun n a => (a.softPark n).skewStep n)
  let s2 := s1.each (List.range 48) (fun p a => (a.portPark p).delayStep p)
  (s2.each [0, 1, 2, 3] (fun g a => a.corPending g)).each (List.range 24) (fun k a => a.tiuAge k)

/-- One tick passes, when the count advances. -/
def State.tickOnce (s : State) : State :=
  if s.counting then
    let s1 := { s.outputs with tick := (s.tick + 1) % 2 ^ 64 }
    let s2 := s1.each (s1.engines.map (fun e => e.reel)) (fun r a => a.reelTick r)
    let s3 := s2.each (List.range 16) (fun n a => a.evioFall n)
    s3.when (s3.tick % 8 == 0) (fun a => a.wordStart)
  else s

end Sys2Proof.Machine
end

