-- ==== Sys2Proof/Safety.lean ====
section
/-!
DEFINITION. The terms in which claims speak: what a command does, what it leaves alone, what it reports, and the conditions on a
state that the manual's rules name.
-/
namespace Sys2Proof.Machine

/-! ### What is left alone -/

/-- The parts of a state beside its register fields and latches. -/
inductive Part where
  | tick | mem | sp | loans | engines | events | heads | ranges | caps | measures | tables | lines | factory | ovrRows | deltas | calSets
  | calPends | rxs | txq | txs | bootRx | ownerKey | idKey | vendorKey | dmaDone | badBursts | offers | cards | badCards | edges | pulses
  | triggers | alignDue | arcBuf | posted | out | pending | free
deriving DecidableEq, Repr

/-- A part is the same in two states. -/
def Part.same (s t : State) : Part → Prop
  | .tick => t.tick = s.tick
  | .mem => t.mem = s.mem
  | .sp => t.sp = s.sp
  | .loans => t.loans = s.loans
  | .engines => t.engines = s.engines
  | .events => t.events = s.events
  | .heads => t.heads = s.heads
  | .ranges => t.ranges = s.ranges
  | .caps => t.caps = s.caps
  | .measures => t.measures = s.measures
  | .tables => t.tables = s.tables
  | .lines => t.lines = s.lines
  | .factory => t.factory = s.factory
  | .ovrRows => t.ovrRows = s.ovrRows
  | .deltas => t.deltas = s.deltas
  | .calSets => t.calSets = s.calSets
  | .calPends => t.calPends = s.calPends
  | .rxs => t.rxs = s.rxs
  | .txq => t.txq = s.txq
  | .txs => t.txs = s.txs
  | .bootRx => t.bootRx = s.bootRx
  | .ownerKey => t.ownerKey = s.ownerKey
  | .idKey => t.idKey = s.idKey
  | .vendorKey => t.vendorKey = s.vendorKey
  | .dmaDone => t.dmaDone = s.dmaDone
  | .badBursts => t.badBursts = s.badBursts
  | .offers => t.offers = s.offers
  | .cards => t.cards = s.cards
  | .badCards => t.badCards = s.badCards
  | .edges => t.edges = s.edges
  | .pulses => t.pulses = s.pulses
  | .triggers => t.triggers = s.triggers
  | .alignDue => t.alignDue = s.alignDue
  | .arcBuf => t.arcBuf = s.arcBuf
  | .posted => t.posted = s.posted
  | .out => t.out = s.out
  | .pending => t.pending = s.pending
  | .free => t.free = s.free

/-- A key of a list of new values. -/
def named (l : List (Key × Nat)) (k : Key) : Bool := l.any (fun p => p.1 == k)

/-- A key of one of these registers. -/
def among (l : List RName) (k : Key) : Bool := l.contains k.r

/-- A key of one of these registers in instance `i`. -/
def amongAt (l : List RName) (i : Nat) (k : Key) : Bool := l.contains k.r && k.i == i

/-- From `s` to `t` only the parts `ps` and the fields of `p` may change. -/
def Frame (s t : State) (ps : List Part) (p : Key → Bool) : Prop :=
  (∀ x, x ∉ ps → Part.same s t x) ∧ ∀ k, p k = false → t.get k = s.get k

/-- The command `c` on `s` answers a next state `t` with `P t`, in which the fields of `l` hold the values beside them; every other
field outside `p` and every part outside `ps` is as in `s`. -/
def Does (c : Instr) (s : State) (ps : List Part) (p : Key → Bool) (l : List (Key × Nat)) (P : State → Prop) : Prop :=
  ∃ t, exec c s = .next t ∧ (∀ q ∈ l, t.get q.1 = q.2) ∧ Frame s t ps (fun k => p k || named l k) ∧ P t

/-- The command gives the fields of `l` their values and leaves all else alone. -/
def Gives (c : Instr) (s : State) (l : List (Key × Nat)) : Prop := Does c s [] (fun _ => false) l (fun _ => True)

/-- The command answers `s` itself. -/
def Keeps (c : Instr) (s : State) : Prop := exec c s = .next s

/-! ### What is reported -/

/-- The fields of the ledger entry of cause `k`. -/
def ledgerOf (k : Nat) (x : Key) : Bool := x.r == .IC_LDG && x.i == k

/-- The fields in which the archive writer counts what it drops (R342). -/
def archiveLoss (x : Key) : Bool := x == Fld.IC_ARC_LOST || x == Fld.IC_ARC_EVT_BUF_OVF

/-- Cause `k` was raised at a unit with a detail (R335): a raise of an ACTIVE entry counts and stamps it, any other starts it. -/
def Raised (s t : State) (k unit detail : Nat) : Prop :=
  t.is (Fld.LDG_ACTIVE k) = true ∧ t.get2 (Fld.LDG_LAST_LO k) (Fld.LDG_LAST_HI k) = s.tick % 2 ^ 64 ∧
    if s.is (Fld.LDG_ACTIVE k) then t.get (Fld.LDG_COUNT k) = min (s.get (Fld.LDG_COUNT k) + 1) 65535
    else t.is (Fld.LDG_NOTIFY k) = true ∧ t.get (Fld.LDG_COUNT k) = 1 ∧ t.get (Fld.LDG_DETAIL k) = detail % 2 ^ 32 ∧
      t.get (Fld.LDG_RAISED_AT k) = unit % 2 ^ 12 ∧ t.get2 (Fld.LDG_FIRST_LO k) (Fld.LDG_FIRST_HI k) = s.tick % 2 ^ 64

/-- The archive writer was given an entry (R342): it holds it, or drops and counts it when its buffer is full. -/
def Archived (s t : State) (e : List Nat) : Prop :=
  if s.arcBuf.length < 1024 then t.arcBuf = s.arcBuf ++ [e]
  else t.arcBuf = s.arcBuf ∧ t.is Fld.IC_ARC_EVT_BUF_OVF = true ∧ t.get Fld.IC_ARC_LOST = min (s.get Fld.IC_ARC_LOST + 1) (2 ^ 32 - 1)

/-! ### What park reasons change (R237, R246) -/

/-- The fields of channel `n` that a park reason can change: its reasons, its event and its state. -/
def parkOfChannel (n : Nat) (x : Key) : Bool :=
  x == Fld.CH_PARK_SRC_REASON n || x == Fld.CH_EVT_PARK_CHG n || x == Fld.CH_STATUS_STATE n || x == Fld.CH_STATUS_HARD n

/-- The fields of port `p` that a park reason can change. -/
def parkOfPort (p : Nat) (x : Key) : Bool := x == Fld.PP_PARK_SRC_REASON p || x == Fld.PP_EVT_PARK_CHG p

/-- Those fields of every channel and port. -/
def parkAny (x : Key) : Bool := parkOfChannel x.i x || parkOfPort x.i x

/-! ### Conditions on a state -/

/-- Host writes reach their register: the device is neither in DEEP_SLEEP nor in reading-room mode (R401, R405). -/
def State.hostOpen (s : State) : Bool := s.get Fld.AON_PWR_STATUS_STATE != 3 && s.get Fld.AON_PWR_STATUS_STATE != 5

/-- The trigger that the block of task `k` takes next (R316, R318); where the task acts at a tick, the first whose stamp is known. -/
def State.waiting (s : State) (k : Nat) (needsS : Bool) : Option Trigger :=
  s.triggers.find? (fun g => g.task == k && (g.phase == 1 || g.phase == 3) && (!needsS || g.s.isSome))

/-- The triggers left when one has been taken. -/
def State.without (s : State) (g : Trigger) : List Trigger := removeFirst (fun h => h == g) s.triggers

/-- Reel `r` executes cue word `w`, of opcode `op`, at the present tick: it plays, no producing cue and no deferred effect is in
progress, the tick lies on its grid and the cue passes the checks of R138. -/
def State.cueNow (s : State) (r op w : Nat) : Bool :=
  cueOp w == op && s.reelState r == 2 && !(s.eng r).run && (s.eng r).deferred.isEmpty && s.cueFault r w == 0 && gridUp s.tick (s.rate r) == s.tick

/-- The fields of reel `r`'s loop and call stacks (R143, R144). -/
def stackOf (r : Nat) (x : Key) : Bool := x.r == .REEL && x.i == r && 16 ≤ x.j && x.j ≤ 25

/-- The fields of reel `r`. -/
def reelOf (r : Nat) (x : Key) : Bool := x.r == .REEL && x.i == r

/-- The fields that report reel `r` in its tile's maps, and those of the tile's heads (R125, R183). -/
def tileMaps (r : Nat) (x : Key) : Bool := amongAt [.TL_REEL_ACTIVE, .TL_REEL_FAULTED, .TL_HEAD_STATUS, .TL_HEAD_MISS, .TL_CUT_EVT] (tileOfReel r) x

/-- From `s` to `t`, reel `r` has started the gap cue `w` as its chain at `b`: it contributes 0 for LEN samples from the first
tick of its class at or after `b` (R126, R150). -/
def startsGap (s t : State) (r b w : Nat) : Prop :=
  let rate := if cueRate w = 31 then s.rate r else cueRate w
  t.reelState r = 2 ∧ (t.eng r).run = true ∧ (t.eng r).passStart = gridUp b rate ∧ (t.eng r).passLen = cueLen w * 2 ^ rate ∧
    (t.eng r).endB = gridUp b rate + cueLen w * 2 ^ rate

/-- Reel `r` has nothing but its current cue in progress: no deferred effect, no staged update, no cut, and its script goes on
with gap cue `c` without a fault. -/
def State.nextGap (s : State) (r : Nat) (c : WinCue) : Bool :=
  (s.eng r).deferred.isEmpty && (s.eng r).pendingSet.isEmpty && (s.eng r).cutEntry.isNone && cueOp c.w == 0x30 && c.fault == 0

/-- The fields that a chain of reel `r` on a gap cue can change: its own, its tile's maps and counts of late data, and the
reports of the cues and loans of its window. -/
def chainOf (r : Nat) (x : Key) : Bool :=
  reelOf r x || tileMaps r x || ledgerOf 16 x || archiveLoss x || among [.MS_EVT, .L_STRM_RET] x ||
    amongAt [.TL_LATE_CNT, .TL_LATE_LAST, .TL_LATE_WORDS_HI, .TL_LATE_WORDS_LO] (tileOfReel r) x

/-- The fields that a reset of everything outside the AON domain leaves (R404). -/
def kept (k : Key) : Bool := nonVolatile k || inAon k

/-- The parts that such a reset clears: all but the key store, what has left the device and the queue. -/
def cleared : List Part :=
  [.tick, .mem, .sp, .loans, .engines, .events, .heads, .ranges, .caps, .measures, .tables, .lines, .factory, .ovrRows, .deltas, .calSets, .calPends, .rxs, .txq,
    .txs, .bootRx, .vendorKey, .dmaDone, .badBursts, .offers, .cards, .badCards, .edges, .pulses, .triggers, .alignDue, .arcBuf, .posted]

/-- Everything of `t` but the fields that a reset leaves, and those of `p`, is as right after reset. -/
def Restarted (t : State) (p : Key → Bool) : Prop := Frame State.reset t [.ownerKey, .idKey, .out, .pending, .free] (fun k => kept k || p k)

/-- Both memories are in their canonical form. -/
abbrev State.memWf (s : State) : Prop := Memory.wf s.mem = true ∧ Memory.wf s.sp = true

/-- The count is a 64-bit number (R63, R64). -/
abbrev State.tickWf (s : State) : Prop := s.tick < 2 ^ 64

end Sys2Proof.Machine
end

