-- ==== Sys2Proof/Certificates/Slice0/Obligations.lean ====
section
/-!
DEFINITION. The statements for the provers: what each family of commands does, by the rules of the manual.
-/
section
open Sys2Proof Sys2Proof.Machine

/-- A step takes the command at the front of the queue. A step of a state with a command at the front of its queue is that command
on the state with the rest of the queue. With an empty queue a step is one tick of device time (the model's choice, assumption
log 1). (95_what_each_step_holds.md, R63, R64) -/
def Obligations.QueueFirstInFirstOut : Prop :=
  (∀ (c : Instr) (rest : List Instr) (s : State), s.pending = c :: rest → step s = exec c { s with pending := rest }) ∧
  (∀ s : State, s.pending = [] → step s = .next s.tickOnce)

/-- No command stops the block, and none touches the queue. Every command on every state answers a next state with the queue as it
was; every refusal and every fault of the manual is state (assumption log 46), and a step never stops. (00_scope.md,
95_what_each_step_holds.md) -/
def Obligations.EveryCommandCompletes : Prop :=
  (∀ (c : Instr) (s : State), ∃ t, exec c s = .next t ∧ t.pending = s.pending) ∧
  (∀ s : State, ∃ t, step s = .next t ∧ t.pending = s.pending.tail)

/-- Every step keeps both memories canonical and the count a 64-bit number. From every state in which segment memory and the
scratchpads are in their canonical form (addresses strictly rising, no byte listed that an unlisted address reads as) and the
master count is below 2^64, every step that answers a next state leaves both so. (03_segment_memory.md, R63, R64) -/
def Obligations.StepKeepsMemoryAndCount : Prop :=
  ∀ s t : State, s.memWf → s.tickWf → step s = .next t → t.memWf ∧ t.tickWf

/-- The state right after reset. Right after reset the device is in BOOT, the time base is OFF with its count at 0, every channel,
port, TIU, DMA queue and link is OFF and every reel IDLE; nothing is on loan, booked, pending or raised; both memories are in
their canonical form. (R64, R398, R405, R414, 17_registers.md) -/
def Obligations.ResetState : Prop :=
  State.reset.get Fld.AON_PWR_STATUS_STATE = 4 ∧ State.reset.get Fld.TB_STATUS_STATE = 0 ∧ State.reset.tick = 0 ∧ State.reset.hostOpen = true ∧
  (∀ n : Fin 32, State.reset.get (Fld.CH_STATUS_STATE n) = 0) ∧ (∀ p : Fin 48, State.reset.get (Fld.PP_STATUS_STATE p) = 0) ∧ (∀ k : Fin 24, State.reset.get (Fld.TIU_STATUS_STATE k) = 0) ∧
  (∀ q : Fin 64, State.reset.get (Fld.DMA_Q_STATUS_STATE q) = 0) ∧ (∀ l : Fin 16, State.reset.get (Fld.LK_STATUS_STATE l) = 0) ∧ (∀ r : Fin 1024, State.reset.reelState r = 0) ∧
  (∀ k : Fin 64, State.reset.is (Fld.LDG_ACTIVE k) = false) ∧ State.reset.loans = [] ∧ State.reset.pending = [] ∧ State.reset.memWf ∧ State.reset.tickWf

/-- Reset of a stream slot. Writing RESET of a slot whose card has loan count 0 sets FP and PP to 0, clears both counts of the slot
and leaves none of its leaves committed; while the card is on loan nothing changes. (R107) -/
def Obligations.StreamReset : Prop :=
  ∀ (n : Fin 1024) (s : State), s.hostOpen = true →
    (s.slotFree n = true → Does (.streamReset n) s [] (fun _ => false) [(Fld.MS_STRM_FILL n, 0), (Fld.MS_STRM_PLAY n, 0), (Fld.MS_STRM_CNT_STALE n, 0), (Fld.MS_STRM_CNT_SKIP n, 0), (Lat.STRM_RET n, 0)]
      (fun t => ∀ c, t.boundCard n = some c → seqDiff (t.retained n) (t.get (Fld.MS_STRM_FILL n)) = 0)) ∧
    (s.slotFree n = false → Keeps (.streamReset n) s)

/-- TB_CMD arms an anchor in LOCKED, a relock in COAST, a load in any state, and disarms a load. A privileged host write of
TB_CMD.ANCHOR in LOCKED, or of RELOCK in COAST, with a word-aligned TB_ANCHOR_AT that has not passed sets ANCHOR_ARMED and takes
the tick; with any of these conditions false it only sets CFG_ERR. LOAD_ARM sets LOAD_ARMED, LOAD_DISARM clears it, and the two
in one write set CFG_ERR alone. Nothing else changes. (R65, R66, 02_time_base.md) -/
def Obligations.ArmingAnchorRelockAndLoad : Prop :=
  (∀ (pf : Fin 4) (s : State), s.hostOpen → s.privileged pf = true →
    (s.get Fld.TB_STATUS_STATE = 3 → s.get2 Fld.TB_ANCHOR_AT_LO Fld.TB_ANCHOR_AT_HI % 8 = 0 → s.tick ≤ s.get2 Fld.TB_ANCHOR_AT_LO Fld.TB_ANCHOR_AT_HI →
      Gives (.tbAnchor pf) s [(Fld.TB_STATUS_ANCHOR_ARMED, 1), (Lat.TB_ANCHOR_TICK, s.get2 Fld.TB_ANCHOR_AT_LO Fld.TB_ANCHOR_AT_HI)]) ∧
    (s.get Fld.TB_STATUS_STATE = 4 → s.get2 Fld.TB_ANCHOR_AT_LO Fld.TB_ANCHOR_AT_HI % 8 = 0 → s.tick ≤ s.get2 Fld.TB_ANCHOR_AT_LO Fld.TB_ANCHOR_AT_HI →
      Gives (.tbRelock pf) s [(Fld.TB_STATUS_ANCHOR_ARMED, 1), (Lat.TB_ANCHOR_TICK, s.get2 Fld.TB_ANCHOR_AT_LO Fld.TB_ANCHOR_AT_HI)]) ∧
    ((s.get Fld.TB_STATUS_STATE ≠ 3 ∨ s.get2 Fld.TB_ANCHOR_AT_LO Fld.TB_ANCHOR_AT_HI % 8 ≠ 0 ∨ s.get2 Fld.TB_ANCHOR_AT_LO Fld.TB_ANCHOR_AT_HI < s.tick) →
      Gives (.tbAnchor pf) s [(Fld.TB_EVT_CFG_ERR, 1)]) ∧
    ((s.get Fld.TB_STATUS_STATE ≠ 4 ∨ s.get2 Fld.TB_ANCHOR_AT_LO Fld.TB_ANCHOR_AT_HI % 8 ≠ 0 ∨ s.get2 Fld.TB_ANCHOR_AT_LO Fld.TB_ANCHOR_AT_HI < s.tick) →
      Gives (.tbRelock pf) s [(Fld.TB_EVT_CFG_ERR, 1)]) ∧
    Gives (.loadArm pf false) s [(Fld.TB_STATUS_LOAD_ARMED, 1)] ∧ Gives (.loadArm pf true) s [(Fld.TB_EVT_CFG_ERR, 1)] ∧
    Gives (.loadDisarm pf) s [(Fld.TB_STATUS_LOAD_ARMED, 0), (Lat.TB_LOAD_OK, 0)])

/-- What a host write of PLL_CTRL.EN and of REF_CFG does. EN = 1 in OFF with a good plan and REFIN present starts ACQUIRE and clears
what an earlier acquisition left; with a failing check of R53 it reports the check and CFG_ERR and starts nothing; in STOPPING
it queues one restart. EN = 0 is refused with EN_REFUSED while a reel is not IDLE; in STOPPING it cancels the queued restart; in
LOCKED it enters STOPPING with the BOOT reason on every channel. A write of REF_CFG is posted to the slow domain. (R23, R53,
R58, R59, R60, 02_time_base.md) -/
def Obligations.PllCommands : Prop :=
  (∀ (pf : Fin 4) (s : State), s.hostOpen = true → s.privileged pf = true → s.is Fld.SYS_THERM_FORCED = false →
    (s.get Fld.TB_STATUS_STATE = 0 → s.get Fld.AON_PWR_STATUS_STATE ≠ 2 → s.pllError = 0 → s.is Fld.REF_STATUS_PRESENT = true →
      Gives (.pllEnable pf) s [(Fld.PLL_CTRL_EN, 1), (Lat.TB_CLEAR_HELD, 0), (Fld.PLL_STATUS_ERR, 0), (Lat.TB_WANT, 1), (Fld.TB_STATUS_STATE, 1),
        (Fld.TB_STATUS_LOCKED, 0), (Fld.TB_STATUS_UNREF, 0), (Fld.PLL_STATUS_BAND_CAL_DONE, 0), (Fld.PLL_STATUS_LD, 0)]) ∧
    (s.get Fld.TB_STATUS_STATE = 0 → s.pllError ≠ 0 →
      Gives (.pllEnable pf) s [(Fld.PLL_CTRL_EN, 1), (Lat.TB_CLEAR_HELD, 0), (Fld.PLL_STATUS_ERR, s.pllError), (Fld.TB_EVT_CFG_ERR, 1), (Lat.TB_WANT, 0)]) ∧
    (s.get Fld.TB_STATUS_STATE = 7 →
      Gives (.pllEnable pf) s [(Fld.PLL_CTRL_EN, 1), (Lat.TB_CLEAR_HELD, 0), (Fld.PLL_STATUS_RESTART_PENDING, 1), (Fld.TB_EVT_RESTART_QUEUED, 1)])) ∧
  (∀ (pf : Fin 4) (s : State), s.hostOpen = true → s.privileged pf = true →
    (s.allIdle = false → Gives (.pllDisable pf) s [(Fld.TB_EVT_EN_REFUSED, 1)]) ∧
    (s.allIdle = true → s.get Fld.TB_STATUS_STATE = 7 → Gives (.pllDisable pf) s [(Fld.PLL_CTRL_EN, 0), (Fld.PLL_STATUS_RESTART_PENDING, 0)]) ∧
    (s.allIdle = true → s.get Fld.TB_STATUS_STATE = 3 → s.get Fld.AON_PWR_STATUS_STATE ≠ 1 →
      Does (.pllDisable pf) s [] (among [.CH_EVT, .CH_PARK_SRC, .CH_STATUS, .PP_EVT, .PP_PARK_SRC]) [(Fld.PLL_CTRL_EN, 0), (Fld.TB_STATUS_STATE, 7), (Fld.TB_STATUS_LOCKED, 0), (Fld.TB_STATUS_UNREF, 0), (Fld.TB_STATUS_ANCHOR_ARMED, 0)]
        (fun t => ∀ n < 32, (t.get (Fld.CH_PARK_SRC_REASON n)).testBit 0 = true)) ∧
    ∀ v : Nat, s.posted.any (fun p => p.r == .REF_CFG && p.i == 0 && p.j == 0) = false →
      Does (.refCfgWrite pf v) s [.posted] (fun _ => false) [] (fun t => t.posted = s.posted ++ [⟨.REF_CFG, 0, 0, v % 2 ^ 32, 0⟩]))

/-- What a loss of REFIN, its return and an unlock do to the time base. A REFIN loss while PRESENT is 1 clears PRESENT and FREQ_OK;
it takes ACQUIRE and ANCHOR to OFF with TB_EVT.REF_LOST, LOCKED to COAST with the ledger's cause 0 and the loss action,
REACQUIRE to COAST, and a stopped REANCHOR to COAST with the held interval marked EST. REFIN's return sets PRESENT again, sets
REF_BACK in COAST and starts the acquisition that waits for it. An unlock with REFIN present takes LOCKED to COAST with cause 1
and no REF_LOST. An absent or present REFIN is reported once. (R50, R51, R55, R58, R67, R68, 02_time_base.md) -/
def Obligations.ReferenceLossAndReturn : Prop :=
  (∀ (h : Nat) (s : State), s.is Fld.REF_STATUS_PRESENT = false → Keeps (.refLost h) s) ∧
  (∀ (h : Nat) (s : State), s.is Fld.REF_STATUS_PRESENT = true →
    let gone := [(Fld.REF_STATUS_PRESENT, 0), (Fld.REF_STATUS_FREQ_OK, 0), (Fld.TB_STATUS_REF_PRESENT, 0), (Fld.REF_STATUS_SLK_SRC, 0), (Fld.LDG_PERSIST 0, 1)]
    (s.get Fld.TB_STATUS_STATE = 0 ∨ s.get Fld.TB_STATUS_STATE = 7 → Does (.refLost h) s [.edges] (fun _ => false) gone (fun _ => True)) ∧
    (s.get Fld.TB_STATUS_STATE = 1 ∨ s.get Fld.TB_STATUS_STATE = 2 → Does (.refLost h) s [.edges] (fun _ => false)
      (gone ++ [(Fld.TB_EVT_REF_LOST, 1), (Fld.TB_STATUS_STATE, 0), (Fld.TB_STATUS_LOCKED, 0), (Fld.TB_STATUS_UNREF, 0)]) (fun _ => True)) ∧
    (s.get Fld.TB_STATUS_STATE = 3 → s.is Fld.TB_STATUS_ANCHOR_ARMED = true →
      Does (.refLost h) s [.edges, .arcBuf] (among [.CH_EVT, .CH_PARK_SRC, .CH_STATUS, .IC_ARC_EVT, .IC_ARC_LOST, .IC_LDG, .PP_EVT, .PP_PARK_SRC, .REEL])
        (gone ++ [(Fld.TB_EVT_REF_LOST, 1), (Fld.TB_STATUS_STATE, 4), (Fld.TB_STATUS_LOCKED, 0), (Fld.TB_STATUS_UNREF, 1), (Fld.TB_STATUS_ANCHOR_ARMED, 0),
          (Lat.TB_REL_CAUSE, 0), (Lat.TB_LOSS_TICK, s.tick % 2 ^ 64), (Lat.TB_REACQ, 0)])
        (fun t => Raised s t 0 (unitBlock 0) s.refWindow ∧
          (s.get Fld.TB_REFLOSS_ACT_ACT = 0 → ∀ n, t.get (Fld.CH_PARK_SRC_REASON n) = s.get (Fld.CH_PARK_SRC_REASON n)) ∧
          (s.get Fld.TB_REFLOSS_ACT_ACT ≠ 0 → ∀ n < 32, (t.get (Fld.CH_PARK_SRC_REASON n)).testBit pkRefloss = true))) ∧
    (s.get Fld.TB_STATUS_STATE = 5 ∨ s.get Fld.TB_STATUS_STATE = 6 ∧ s.is Lat.TB_HELD = false → Does (.refLost h) s [.edges, .arcBuf] (fun k => ledgerOf 0 k || archiveLoss k)
      (gone ++ [(Fld.TB_EVT_REF_LOST, 1), (Fld.TB_STATUS_STATE, 4), (Fld.TB_STATUS_LOCKED, 0), (Fld.TB_STATUS_UNREF, 1)])
      (fun t => Raised s t 0 (unitBlock 0) s.refWindow)) ∧
    (s.get Fld.TB_STATUS_STATE = 6 → s.is Lat.TB_HELD = true → Does (.refLost h) s [.edges, .arcBuf] (among [.IC_ARC_EVT, .IC_ARC_LOST, .IC_LDG, .L_TB_ENTRY_DUE,
      .L_TB_MEAS_DUE, .PP_EVT, .PP_PARK_SRC, .TB_COAST_HI, .TB_COAST_LO])
      (gone ++ [(Fld.TB_EVT_REF_LOST, 1), (Fld.TB_STATUS_STATE, 4), (Fld.TB_STATUS_LOCKED, 0), (Fld.TB_STATUS_UNREF, 1), (Fld.TB_STATUS_DISC_EST, 1),
        (Fld.TB_DISC, h % 2 ^ 32), (Fld.TB_EVT_ANCHOR_DONE, 1), (Lat.TB_HELD, 0), (Lat.TB_REL_TICK, s.tick % 2 ^ 64), (Lat.TB_UNPARK_DUE, 1), (Lat.TB_EPIN_SEEN, 0)])
      (fun t => s.get Lat.TB_REL_CAUSE ≠ 2 → t.get2 Fld.TB_COAST_LO Fld.TB_COAST_HI = tickAfter (s.get Lat.TB_LOSS_TICK) s.tick))) ∧
  (∀ (s : State), s.is Fld.REF_STATUS_PRESENT = true → Keeps .refBack s) ∧
  (∀ (s : State), s.is Fld.REF_STATUS_PRESENT = false →
    let back := [(Fld.REF_STATUS_PRESENT, 1), (Fld.REF_STATUS_FREQ_OK, 1), (Fld.TB_STATUS_REF_PRESENT, 1), (Fld.REF_STATUS_SLK_SRC, s.get Lat.TB_EVER % 2), (Fld.LDG_PERSIST 0, 0)]
    (s.get Fld.TB_STATUS_STATE = 4 → Does .refBack s [.free] (fun k => k == Fld.REF_STATUS_FREQ_KHZ) (back ++ [(Fld.TB_EVT_REF_BACK, 1)]) (fun _ => True)) ∧
    (s.get Fld.TB_STATUS_STATE = 0 → s.is Fld.PLL_CTRL_EN = true → s.is Lat.TB_WANT = true → s.pllError = 0 →
      Does .refBack s [.free] (fun k => k == Fld.REF_STATUS_FREQ_KHZ) (back ++ [(Fld.TB_STATUS_STATE, 1), (Fld.TB_STATUS_LOCKED, 0), (Fld.TB_STATUS_UNREF, 0),
        (Fld.PLL_STATUS_ERR, 0), (Fld.PLL_STATUS_BAND_CAL_DONE, 0), (Fld.PLL_STATUS_LD, 0)]) (fun _ => True)) ∧
    (s.get Fld.TB_STATUS_STATE ≠ 4 → s.is Fld.PLL_CTRL_EN = false → Does .refBack s [.free] (fun k => k == Fld.REF_STATUS_FREQ_KHZ) back (fun _ => True))) ∧
  (∀ (s : State), s.get Fld.TB_STATUS_STATE = 3 → s.is Fld.TB_STATUS_LOCKED = true → s.is Fld.REF_STATUS_PRESENT = true → s.get Fld.TB_REFLOSS_ACT_ACT = 0 →
    Does .pllUnlock s [.arcBuf] (fun k => ledgerOf 1 k || archiveLoss k) [(Fld.PLL_STATUS_LD, 0), (Fld.TB_EVT_UNLOCK, 1), (Fld.TB_STATUS_STATE, 4), (Fld.TB_STATUS_LOCKED, 0),
      (Fld.TB_STATUS_UNREF, 1), (Fld.TB_STATUS_ANCHOR_ARMED, 0), (Lat.TB_REL_CAUSE, 1), (Lat.TB_LOSS_TICK, s.tick % 2 ^ 64), (Lat.TB_REACQ, 0)]
      (fun t => Raised s t 1 (unitBlock 0) 0))

/-- What lock detect, the start of a reacquisition, its time-out and the end of STOPPING do. Lock detect takes ACQUIRE to ANCHOR
with the band the calibration found, and REACQUIRE to REANCHOR; it changes nothing in OFF and only LD elsewhere. A reacquisition
starts in COAST with REFIN present at a word boundary, automatically or by an armed relock whose tick has come. A time-out in
REACQUIRE repeats band calibration with one REACQ archive entry. STOPPING ends in OFF, or in ACQUIRE where a restart waits.
(R55, R58, R60, R66, R469, 02_time_base.md) -/
def Obligations.Acquisition : Prop :=
  (∀ (b : Nat) (s : State),
    (s.get Fld.TB_STATUS_STATE = 1 → s.is Fld.TB_STATUS_LOAD_ARMED = false → Gives (.lockDetect b) s [(Fld.PLL_STATUS_LD, 1), (Fld.PLL_STATUS_BAND_CAL_DONE, 1),
      (Fld.PLL_STATUS_VCO_BAND, b % 2 ^ 8), (Fld.TB_STATUS_STATE, 2), (Fld.TB_STATUS_LOCKED, 0), (Fld.TB_STATUS_UNREF, 0), (Lat.TB_LOAD_OK, 0)]) ∧
    (s.get Fld.TB_STATUS_STATE = 5 → Gives (.lockDetect b) s [(Fld.PLL_STATUS_LD, 1), (Fld.TB_STATUS_STATE, 6), (Fld.TB_STATUS_LOCKED, 0), (Fld.TB_STATUS_UNREF, 1), (Lat.TB_HELD, 0)]) ∧
    (s.get Fld.TB_STATUS_STATE = 0 → Keeps (.lockDetect b) s) ∧
    (s.get Fld.TB_STATUS_STATE = 3 → Gives (.lockDetect b) s [(Fld.PLL_STATUS_LD, 1)])) ∧
  (∀ (b : Nat) (s : State), s.get Fld.TB_STATUS_STATE = 1 → s.is Fld.TB_STATUS_LOAD_ARMED = true →
    Does (.lockDetect b) s [] (fun k => k == Fld.TB_EVT_LOAD_REFUSED) [(Fld.PLL_STATUS_LD, 1), (Fld.PLL_STATUS_BAND_CAL_DONE, 1),
      (Fld.PLL_STATUS_VCO_BAND, b % 2 ^ 8), (Fld.TB_STATUS_STATE, 2), (Fld.TB_STATUS_LOCKED, 0), (Fld.TB_STATUS_UNREF, 0), (Lat.TB_LOAD_OK, s.loadOk.toNat)]
      (fun t => s.loadOk = false → t.is Fld.TB_EVT_LOAD_REFUSED = true)) ∧
  (∀ (s : State), s.get Fld.TB_STATUS_STATE = 4 → s.is Fld.REF_STATUS_PRESENT = true → s.tick % 8 = 0 →
    (s.is Fld.TB_RELOCK_AUTO_EN = true ∨ s.is Fld.TB_STATUS_ANCHOR_ARMED = true ∧ s.get Lat.TB_ANCHOR_TICK ≤ s.tick →
      Gives .reacquireStart s [(Fld.TB_STATUS_STATE, 5), (Fld.TB_STATUS_LOCKED, 0), (Fld.TB_STATUS_UNREF, 1), (Fld.TB_STATUS_ANCHOR_ARMED, 0), (Fld.PLL_STATUS_LD, 0)]) ∧
    (s.is Fld.TB_RELOCK_AUTO_EN = false → s.is Fld.TB_STATUS_ANCHOR_ARMED = false → Keeps .reacquireStart s)) ∧
  (∀ (s : State), s.get Fld.TB_STATUS_STATE = 5 → Does .reacqTimeout s [.arcBuf] archiveLoss [(Fld.PLL_STATUS_BAND_CAL_DONE, 0), (Lat.TB_REACQ, (s.get Lat.TB_REACQ + 1) % 2 ^ 32)]
    (fun t => Archived s t (archiveEntry 21 false s.unref false false (unitBlock 0) s.tick 0 [s.get Lat.TB_REACQ + 1]))) ∧
  (∀ (s : State), s.get Fld.TB_STATUS_STATE = 7 → s.tick % 8 = 0 →
    (s.is Fld.PLL_STATUS_RESTART_PENDING = false → Gives .tbStopDone s [(Fld.TB_STATUS_STATE, 0), (Fld.TB_STATUS_LOCKED, 0), (Fld.TB_STATUS_UNREF, 0), (Fld.PLL_STATUS_LD, 0),
      (Lat.TB_WANT, 0), (Lat.STK_SR, 1), (Fld.PLL_STATUS_RESTART_PENDING, 0)]) ∧
    (s.is Fld.PLL_STATUS_RESTART_PENDING = true → s.pllError = 0 → s.is Fld.REF_STATUS_PRESENT = true → Gives .tbStopDone s [(Fld.TB_STATUS_STATE, 1), (Fld.TB_STATUS_LOCKED, 0),
      (Fld.TB_STATUS_UNREF, 0), (Fld.PLL_STATUS_LD, 0), (Fld.PLL_STATUS_ERR, 0), (Fld.PLL_STATUS_BAND_CAL_DONE, 0), (Lat.TB_WANT, 1), (Lat.STK_SR, 1), (Fld.PLL_STATUS_RESTART_PENDING, 0)]))

/-- What a REANCHOR stop, the release of an anchor, the park release after it and its measurement do. In LOCKED, at a word boundary
at or after the armed tick, the time base enters REANCHOR, holds the count and parks every channel with the REANCHOR reason. The
first qualified edge in ANCHOR enters LOCKED with ANCHOR_DONE. A qualified edge in a stopped REANCHOR enters LOCKED, records H
in TB_DISC and clears the hold. The park reason clears 64 ticks after the release. The residual is written 1,024 ticks after it,
and with AUTO_TRIM the trim is minus its rounded tenth of a picosecond, within 200. (R58, R61, R62, R63, R69, R71,
02_time_base.md) -/
def Obligations.StopAndRelease : Prop :=
  (∀ (s : State), s.get Fld.TB_STATUS_STATE = 3 → s.is Fld.TB_STATUS_ANCHOR_ARMED = true → s.get Lat.TB_ANCHOR_TICK ≤ s.tick → s.tick % 8 = 0 →
    Does .reanchorStop s [.measures, .rxs, .txq, .txs, .edges, .arcBuf] (fun _ => true) [(Fld.TB_STATUS_STATE, 6), (Fld.TB_STATUS_LOCKED, 0), (Fld.TB_STATUS_UNREF, 1),
      (Fld.TB_STATUS_ANCHOR_ARMED, 0), (Lat.TB_HELD, 1), (Lat.TB_REL_CAUSE, 2)] (fun t => ∀ n < 32, (t.get (Fld.CH_PARK_SRC_REASON n)).testBit pkReanchor = true)) ∧
  (∀ (s : State), s.tick % 8 ≠ 0 → Keeps .reanchorStop s) ∧
  (∀ (d j : Nat) (s : State), s.get Fld.TB_EPIN_CFG_MODE ≠ 2 → s.is Lat.TB_LOAD_OK = false → s.is Lat.TB_CLEAR_HELD = false → s.get Fld.LK_STUDIO_STATUS_STATE ≠ 4 →
    (s.get Fld.TB_STATUS_STATE = 2 → Does (.anchorRelease d j) s [.measures, .rxs, .txq, .txs, .edges, .arcBuf] (fun _ => true) [(Fld.TB_STATUS_STATE, 3), (Fld.TB_STATUS_LOCKED, 1),
      (Fld.TB_STATUS_UNREF, 0), (Fld.TB_EVT_ANCHOR_DONE, 1), (Lat.TB_REL_TICK, s.tick % 2 ^ 64), (Lat.TB_EVER, 1)] (fun _ => True)) ∧
    (s.get Fld.TB_STATUS_STATE = 6 → s.is Lat.TB_HELD = true → Does (.anchorRelease d j) s [.measures, .rxs, .txq, .txs, .edges, .arcBuf] (fun _ => true)
      [(Fld.TB_STATUS_STATE, 3), (Fld.TB_STATUS_LOCKED, 1), (Fld.TB_STATUS_UNREF, 0), (Fld.TB_STATUS_DISC_EST, 0), (Fld.TB_EVT_ANCHOR_DONE, 1), (Lat.TB_HELD, 0),
        (Fld.TB_DISC, ux 32 (s.heldInterval d j)), (Lat.TB_UNPARK_DUE, 1)] (fun _ => True)) ∧
    (s.get Fld.TB_STATUS_STATE = 3 → Keeps (.anchorRelease d j) s)) ∧
  (∀ (d j : Nat) (s : State), s.get Fld.TB_EPIN_CFG_MODE = 2 → s.is Lat.TB_EPIN_SEEN = false → Keeps (.anchorRelease d j) s) ∧
  (∀ (s : State), s.is Lat.TB_UNPARK_DUE = true → 64 ≤ tickAfter (s.get Lat.TB_REL_TICK) s.tick →
    Does .reanchorParkRelease s [] (among [.CH_EVT, .CH_PARK_SRC, .CH_STATUS, .PP_EVT, .PP_PARK_SRC]) [(Lat.TB_UNPARK_DUE, 0)]
      (fun t => (∀ n < 32, (t.get (Fld.CH_PARK_SRC_REASON n)).testBit pkReanchor = false) ∧ (s.locked = true → ∀ n < 32, (t.get (Fld.CH_PARK_SRC_REASON n)).testBit pkRefloss = false))) ∧
  (∀ (s : State), s.is Lat.TB_UNPARK_DUE = false → Keeps .reanchorParkRelease s) ∧
  (∀ (m : Int) (s : State), s.is Lat.TB_MEAS_DUE = true → 1024 ≤ tickAfter (s.get Lat.TB_REL_TICK) s.tick → s.is Lat.TB_ENTRY_DUE = false →
    (s.is Fld.TB_CTRL_AUTO_TRIM = false → Gives (.anchorMeasDone m) s [(Fld.TB_ANCHOR_RES, ux 32 (m - s.geti Fld.TB_ANCHOR_TGT)), (Lat.TB_MEAS_DUE, 0)]) ∧
    (s.is Fld.TB_CTRL_AUTO_TRIM = true → Gives (.anchorMeasDone m) s [(Fld.TB_ANCHOR_RES, ux 32 (m - s.geti Fld.TB_ANCHOR_TGT)), (Lat.TB_MEAS_DUE, 0),
      (Fld.TB_FTRIM_TRIM, ux 9 (max (-200) (min 200 (-((m - s.geti Fld.TB_ANCHOR_TGT + 50) / 100)))))]))

/-- Writes of the EPOCH and SYSREF registers, their pulses and a SYSREF burst. A privileged write of a register of EPOCH_OUTn or of
SYSREF output n takes the fields and moves the next pulse to the first grid tick at or after the next word boundary; a period
the rules refuse holds the output low with CFG_ERR while EN is 1. A pulse that is due leaves at its tick and moves the next one
on by one period; a gapped SYSREF counts its burst down. A burst task starts COUNT pulses, at least one, at the first grid tick
64 ticks on. (R74, R76, R315, 02_time_base.md) -/
def Obligations.EpochAndSysrefOutputs : Prop :=
  (∀ (pf : Fin 4) (n : Fin 2) (v : Nat) (s : State), s.hostOpen = true → s.privileged pf = true → s.is (Lat.EPOCH_RUN n) = false → v < 2 ^ 32 →
    (v.testBit 31 = false → Gives (.epochCfgWrite pf n 0 v) s [(Fld.TB_EPOCH_CFG_EN n, 0), (Fld.TB_EPOCH_CFG_MODE n, bitsOf v 29 2), (Fld.TB_EPOCH_CFG_K n, bitsOf v 23 6),
      (Fld.TB_EPOCH_CFG_WIDTH n, bitsOf v 8 8), (Lat.EPOCH_RUN n, 0)]) ∧
    (v.testBit 31 = true → bitsOf v 29 2 = 0 → 3 ≤ bitsOf v 23 6 → bitsOf v 23 6 ≤ 48 → s.get (Fld.TB_EPOCH_OFS n) < 2 ^ bitsOf v 23 6 →
      Gives (.epochCfgWrite pf n 0 v) s [(Fld.TB_EPOCH_CFG_EN n, 1), (Fld.TB_EPOCH_CFG_MODE n, 0), (Fld.TB_EPOCH_CFG_K n, bitsOf v 23 6), (Fld.TB_EPOCH_CFG_WIDTH n, bitsOf v 8 8),
        (Lat.EPOCH_RUN n, 1), (Lat.EPOCH_NEXT n, gridFrom (wordNext s.tick) (2 ^ bitsOf v 23 6) (s.get (Fld.TB_EPOCH_OFS n)) % 2 ^ 64)]) ∧
    (v.testBit 31 = true → bitsOf v 29 2 = 0 → bitsOf v 23 6 < 3 ∨ 48 < bitsOf v 23 6 →
      Gives (.epochCfgWrite pf n 0 v) s [(Fld.TB_EPOCH_CFG_EN n, 1), (Fld.TB_EPOCH_CFG_MODE n, 0), (Fld.TB_EPOCH_CFG_K n, bitsOf v 23 6), (Fld.TB_EPOCH_CFG_WIDTH n, bitsOf v 8 8),
        (Lat.EPOCH_RUN n, 0), (Fld.TB_EVT_CFG_ERR, 1)])) ∧
  (∀ (n : Fin 2) (s : State), s.is (Lat.EPOCH_OLD n) = false → s.is (Lat.EPOCH_RUN n) = true → s.get (Lat.EPOCH_NEXT n) ≤ s.tick → s.countHeld = false → ∀ p, s.epochPeriod n = some p →
    Does (.epochPulse n) s [.edges, .out] (fun _ => false) [(Lat.EPOCH_NEXT n, (s.get (Lat.EPOCH_NEXT n) + p) % 2 ^ 64)]
      (fun t => t.out = .pin (16 + n) (s.get (Lat.EPOCH_NEXT n)) (pulseWidth (s.get (Fld.TB_EPOCH_CFG_WIDTH n)) p) :: s.out)) ∧
  (∀ (pf : Fin 4) (n : Fin 8) (v : Nat) (s : State), s.hostOpen = true → s.privileged pf = true → v < 2 ^ 32 →
    (s.is (Fld.TB_SYSREF_CFG_EN n) = true → v % 8 = 0 → 64 ≤ v → Gives (.sysrefCfgWrite pf n 1 v) s [(Fld.TB_SYSREF_PER n, v), (Lat.SYSREF_RUN n, 1),
      (Lat.SYSREF_NEXT n, gridFrom (wordNext s.tick) v (s.get (Fld.TB_SYSREF_OFS n)) % 2 ^ 64)]) ∧
    (s.is (Fld.TB_SYSREF_CFG_EN n) = true → v % 8 ≠ 0 ∨ v < 64 → Gives (.sysrefCfgWrite pf n 1 v) s [(Fld.TB_SYSREF_PER n, v), (Lat.SYSREF_RUN n, 0), (Fld.TB_EVT_CFG_ERR, 1)]) ∧
    (s.is (Fld.TB_SYSREF_CFG_EN n) = false → Gives (.sysrefCfgWrite pf n 1 v) s [(Fld.TB_SYSREF_PER n, v), (Lat.SYSREF_RUN n, 0), (Lat.SYSREF_LEFT n, 0)])) ∧
  (∀ (n : Fin 8) (s : State), s.is (Lat.SYSREF_RUN n) = true → s.get (Lat.SYSREF_NEXT n) ≤ s.tick → s.countHeld = false → s.get (Fld.TB_SYSREF_CFG_WIDTH n) ≠ 0 →
    (s.is (Fld.TB_SYSREF_CFG_MODE n) = false → Does (.sysrefPulse n) s [.out] (fun _ => false) [(Lat.SYSREF_NEXT n, (s.get (Lat.SYSREF_NEXT n) + s.get (Fld.TB_SYSREF_PER n)) % 2 ^ 64)]
      (fun t => t.out = .pin (18 + n) (s.get (Lat.SYSREF_NEXT n)) (s.get (Fld.TB_SYSREF_CFG_WIDTH n)) :: s.out)) ∧
    (s.is (Fld.TB_SYSREF_CFG_MODE n) = true → s.get (Lat.SYSREF_LEFT n) ≠ 0 → Does (.sysrefPulse n) s [.out] (fun _ => false)
      [(Lat.SYSREF_NEXT n, (s.get (Lat.SYSREF_NEXT n) + s.get (Fld.TB_SYSREF_PER n)) % 2 ^ 64), (Lat.SYSREF_LEFT n, s.get (Lat.SYSREF_LEFT n) - 1)] (fun t => t.out = .pin (18 + n) (s.get (Lat.SYSREF_NEXT n)) (s.get (Fld.TB_SYSREF_CFG_WIDTH n)) :: s.out)) ∧
    (s.is (Fld.TB_SYSREF_CFG_MODE n) = true → s.get (Lat.SYSREF_LEFT n) = 0 → Keeps (.sysrefPulse n) s)) ∧
  (∀ (n : Fin 8) (s : State), s.is (Lat.SYSREF_RUN n) = true → s.is (Fld.TB_SYSREF_CFG_MODE n) = true → ∀ g, s.waiting (160 + n) false = some g →
    Does (.sysrefBurst n) s [.triggers] (fun _ => false) [(Lat.SYSREF_LEFT n, max 1 (s.get (Fld.TB_SYSREF_CFG_COUNT n))),
      (Lat.SYSREF_NEXT n, gridFrom (s.tick + 64) (s.get (Fld.TB_SYSREF_PER n)) (s.get (Fld.TB_SYSREF_OFS n)) % 2 ^ 64)] (fun t => t.triggers = s.without g))

/-- An edge of EPOCH_IN, a time-of-day commit, a tick skew and a fault of a control core. An edge of EPOCH_IN in MODE 1 or 2 writes
the stamp and whether it carries UNREF, and in MODE 2 qualifies the next anchor; in MODE 0 or 3 it changes nothing. A privileged
TOD_COMMIT latches the association and gives the archive one entry of it. A tick skew raises its cause at the tile. A control
core's fault halts it, sets CORE_STOP and raises cause 9 at its tile. (R31, R67, R75, R78, R283, R334, R335, 02_time_base.md) -/
def Obligations.TimeStampsAndCoreFaults : Prop :=
  (∀ (s : State), s.get Fld.TB_EPIN_CFG_MODE = 0 ∨ s.get Fld.TB_EPIN_CFG_MODE = 3 → Keeps .epochInEdge s) ∧
  (∀ (s : State), s.tick < 2 ^ 64 →
    (s.get Fld.TB_EPIN_CFG_MODE = 1 ∨ s.get Fld.TB_EPIN_CFG_MODE = 2 ∧ s.get Fld.TB_STATUS_STATE = 3 → Does .epochInEdge s [.edges] (fun _ => false)
      [(Fld.TB_EPIN_STAMP_LO, s.tick % 2 ^ 32), (Fld.TB_EPIN_STAMP_HI, s.tick / 2 ^ 32), (Fld.TB_STATUS_EPIN_UNREF, s.unref.toNat)] (fun _ => True)) ∧
    (s.get Fld.TB_EPIN_CFG_MODE = 2 → s.get Fld.TB_STATUS_STATE = 2 ∨ s.get Fld.TB_STATUS_STATE = 6 ∧ s.is Lat.TB_HELD = true → Does .epochInEdge s [.edges] (fun _ => false)
      [(Fld.TB_EPIN_STAMP_LO, s.tick % 2 ^ 32), (Fld.TB_EPIN_STAMP_HI, s.tick / 2 ^ 32), (Fld.TB_STATUS_EPIN_UNREF, s.unref.toNat), (Lat.TB_EPIN_SEEN, 1)] (fun _ => True))) ∧
  (∀ (pf : Fin 4) (s : State), s.hostOpen = true → s.privileged pf = true →
    let sec := s.get2 Fld.TB_TOD_SEC_LO Fld.TB_TOD_SEC_HI
    let t := s.get2 Fld.TB_TOD_TICK_LO Fld.TB_TOD_TICK_HI
    Does (.todCommit pf) s [.arcBuf] archiveLoss [(Lat.TOD_SEC, sec), (Lat.TOD_NS, s.get Fld.TB_TOD_NS), (Lat.TOD_TICK, t), (Lat.TOD_VALID, 1)]
      (fun t' => Archived s t' (archiveEntry 15 false s.unref false false (unitBlock 0) t 0 [sec % 2 ^ 32, sec / 2 ^ 32 % 2 ^ 32, s.get Fld.TB_TOD_NS]))) ∧
  (∀ (t : Fin 8) (s : State), Does (.tickSkew t) s [.arcBuf] (fun k => ledgerOf 8 k || archiveLoss k) [] (fun x => Raised s x 8 (unitBlock 0) (2 ^ (t : Nat)))) ∧
  (∀ (t : Fin 8) (s : State), (∀ g < 4, s.get (Fld.COR_GRP_CFG_CC g) ≠ t) → Does (.ccFault t) s [.arcBuf] (fun k => ledgerOf 9 k || archiveLoss k)
    [(Lat.CC_HALTED t, 1), (Fld.CAL_STATUS_CORE_STOP, 1), (Fld.LDG_PERSIST 9, 1)] (fun x => Raised s x 9 (unitTile t) t)) ∧
  (∀ (t : Fin 8) (s : State), Does (.ccFault t) s [.edges, .arcBuf] (among [.COR_GRP_EVT, .COR_GRP_STATUS, .IC_ARC_EVT, .IC_ARC_LOST, .IC_LDG, .L_COR_RAMP, .L_COR_W0, .L_COR_ZERO, .REEL])
    [(Lat.CC_HALTED t, 1), (Fld.CAL_STATUS_CORE_STOP, 1), (Fld.LDG_PERSIST 9, 1)] (fun _ => True))

/-- The matrix array, channel pulses, their lockout and loop window, group enables and host fires. A privileged write of one word of
the matrix array takes effect. An edge on its way into a channel is consumed in order: on an idle channel of an enabled group it
makes the channel busy and counts one pulse in the loop window, a disabled group ignores it, and a busy channel coalesces it.
The end of a lockout frees the channel. A loop window past its end counts from 0. A write of EV_GRP_EN sets the enables and
clears the counts of the groups it disables. A host fire of a channel of an enabled group sends it one edge of producer 512; in
a disabled group it sets FIRE_GATED. (R306, R308, R309, R311, R312, R314, 11_event_matrix.md) -/
def Obligations.ChannelPulsesAndGroups : Prop :=
  (∀ (pf : Fin 4) (p : Fin 512) (w : Fin 4) (v : Nat) (s : State), s.hostOpen = true → s.privileged pf = true →
    Gives (.matrixWrite pf p w v) s [(Fld.EV_MATRIX_EN p w, v % 2 ^ 32)]) ∧
  (∀ (c : Fin 128) (s : State), s.edges.find? (fun e => e.ch == (c : Nat)) = none → Keeps (.channelPulse c) s) ∧
  (∀ (c : Fin 128) (s : State), ∀ e, s.edges.find? (fun e => e.ch == (c : Nat)) = some e →
    let rest := removeFirst (fun e => e.ch == (c : Nat)) s.edges
    (s.is (Lat.EVC_BUSY c) = true → Does (.channelPulse c) s [.edges, .pulses] (fun _ => false) [] (fun t => t.edges = rest ∧ t.pulses.map (·.ch) = s.pulses.map (·.ch))) ∧
    (s.is (Lat.EVC_BUSY c) = false → s.groupOn c = false → Does (.channelPulse c) s [.edges] (fun _ => false) [] (fun t => t.edges = rest)) ∧
    (s.is (Lat.EVC_BUSY c) = false → s.groupOn c = true → s.asleep = false → s.get (Lat.EVC_LOOPS c) + 1 < 1024 →
      Does (.channelPulse c) s [.edges, .pulses, .triggers] (fun k => k.r == .L_EVIO_OUT || k == Fld.IC_EVC_STAT || k == Lat.EVC_LOOP_END c)
        [(Lat.EVC_BUSY c, 1), (Lat.EVC_LOOPS c, s.get (Lat.EVC_LOOPS c) + 1)]
        (fun t => t.edges = rest ∧ t.pulses = s.pulses ++ [⟨c, s.tick, e.origin, none, s.unref, []⟩] ∧
          t.triggers = s.triggers ++ (s.tasksOn c).map (fun k => ⟨k, c, s.tick, none, s.unref, false, 0⟩)))) ∧
  (∀ (c : Fin 128) (s : State), Does (.channelLockoutEnd c) s [] (fun k => k.r == .L_EVIO_OUT) [(Lat.EVC_BUSY c, 0)]
    (fun t => ∀ n < 16, s.is (Fld.EV_EVIO_CFG_DIR n) = true → s.is (Fld.EV_EVIO_CFG_MODE n) = false → s.get (Fld.EV_EVIO_CFG_EVC n) = c → t.is (Lat.EVIO_OUT n) = false)) ∧
  (∀ (c : Fin 128) (s : State), (s.get (Lat.EVC_LOOP_END c) ≤ s.tick → Gives (.loopWindowEnd c) s [(Lat.EVC_LOOPS c, 0)]) ∧
    (s.tick < s.get (Lat.EVC_LOOP_END c) → s.asleep = false → Keeps (.loopWindowEnd c) s)) ∧
  (∀ (v : Nat) (s : State), s.hostOpen = true → Does (.groupEnableWrite v) s [] (fun k => k.r == .L_EVC_LOOPS) [(Fld.EV_GRP_EN_EN, v % 2 ^ 16)]
    (fun t => ∀ c < 128, t.get (Lat.EVC_LOOPS c) = if v.testBit (s.groupOf c) then s.get (Lat.EVC_LOOPS c) else 0)) ∧
  (∀ (w : Fin 4) (j : Fin 32) (s : State), s.hostOpen = true →
    (s.groupOn (32 * w + j) = true → Does (.hostFire w (2 ^ (j : Nat))) s [.edges] (fun _ => false) [(Lat.EVC_LOOPS (32 * w + j), 0)] (fun t => t.edges = s.edges ++ [⟨32 * w + j, 512, none⟩])) ∧
    (s.groupOn (32 * w + j) = false → Gives (.hostFire w (2 ^ (j : Nat))) s [(Lat.EVC_LOOPS (32 * w + j), 0), (Fld.EV_EVT_FIRE_GATED, 1)]))

/-- Task configuration, captured triggers, direct fires, deferral and the counters of tasks. A write of a task's EV_TASK_CFG takes
EN, POL and EVC; EN = 0 drops what its DEFER queue holds, and a reserved task keeps nothing. A trigger that the synchroniser has
captured is delivered: to an idle task's block, merged into a busy COALESCE task with its coincidence counted, or deferred for a
busy DEFER task, at most four deep. EV_TASK_FIRE delivers to an enabled task a direct trigger whose S is a word boundary, and
sets TASK_GATED for any other. The oldest deferred trigger is delivered once the task is idle. TASK_CNT_CLR clears every count.
(R315, R316, R317, R318, 11_event_matrix.md) -/
def Obligations.TaskInputs : Prop :=
  (∀ (k : Fin 768) (v : Nat) (s : State), s.hostOpen = true →
    (taskExists k = false → Keeps (.taskCfgWrite k v) s) ∧
    (taskExists k = true → v.testBit 31 = true → Gives (.taskCfgWrite k v) s [(Fld.EV_TASK_CFG_EN k, 1), (Fld.EV_TASK_CFG_POL k, bitsOf v 30 1), (Fld.EV_TASK_CFG_EVC k, bitsOf v 0 7)]) ∧
    (taskExists k = true → v.testBit 31 = false → Does (.taskCfgWrite k v) s [.triggers] (fun _ => false)
      [(Fld.EV_TASK_CFG_EN k, 0), (Fld.EV_TASK_CFG_POL k, bitsOf v 30 1), (Fld.EV_TASK_CFG_EVC k, bitsOf v 0 7), (Fld.EV_TASK_STAT_DEPTH k, 0)]
      (fun t => t.triggers = s.triggers.filter (fun g => !(g.task == (k : Nat) && g.phase == 2))))) ∧
  (∀ (k : Fin 768) (s : State), s.triggers.find? (fun g => g.task == (k : Nat) && g.phase == 0) = none → Keeps (.taskTrigger k) s) ∧
  (∀ (k : Fin 768) (s : State), ∀ g, s.triggers.find? (fun g => g.task == (k : Nat) && g.phase == 0) = some g →
    let rest := removeFirst (fun g => g.task == (k : Nat) && g.phase == 0) s.triggers
    (s.taskBusy k = false → Does (.taskTrigger k) s [.triggers] (fun _ => false) [] (fun t => t.triggers = rest ++ [{ g with phase := 1 }])) ∧
    (s.taskBusy k = true → s.is (Fld.EV_TASK_CFG_POL k) = false → Does (.taskTrigger k) s [.triggers] (fun _ => false)
      [(Fld.EV_TASK_STAT_COINC_CNT k, min (s.get (Fld.EV_TASK_STAT_COINC_CNT k) + 1) 4095), (Fld.EV_TASK_STAT_COINC k, 1), (Fld.EV_EVT_TASK_COINC, 1)]
      (fun t => t.triggers.length = rest.length)) ∧
    (s.taskBusy k = true → s.is (Fld.EV_TASK_CFG_POL k) = true → s.taskDepth k < 4 → Does (.taskTrigger k) s [.triggers] (fun _ => false)
      [(Fld.EV_TASK_STAT_DEPTH k, s.taskDepth k + 1)] (fun t => t.triggers = rest ++ [{ g with phase := 2 }])) ∧
    (s.taskBusy k = true → s.is (Fld.EV_TASK_CFG_POL k) = true → 4 ≤ s.taskDepth k → Does (.taskTrigger k) s [.triggers] (fun _ => false)
      [(Fld.EV_TASK_STAT_OVF_CNT k, min (s.get (Fld.EV_TASK_STAT_OVF_CNT k) + 1) 4095), (Fld.EV_TASK_STAT_OVF k, 1), (Fld.EV_EVT_TASK_OVF, 1)] (fun t => t.triggers = rest))) ∧
  (∀ (v : Nat) (s : State), s.hostOpen = true →
    (taskExists (v % 1024) = true → v % 1024 < 768 → s.is (Fld.EV_TASK_CFG_EN (v % 1024)) = true → s.taskBusy (v % 1024) = false →
      Does (.taskFire v) s [.triggers] (fun _ => false) [(Fld.EV_TASK_FIRE_TASK, v % 1024)]
        (fun t => t.triggers = s.triggers ++ [⟨v % 1024, 0, s.tick, some (wordUp (s.tick + 8)), s.unref, true, 1⟩])) ∧
    (taskExists (v % 1024) = false ∨ 768 ≤ v % 1024 ∨ s.is (Fld.EV_TASK_CFG_EN (v % 1024)) = false → Gives (.taskFire v) s [(Fld.EV_TASK_FIRE_TASK, v % 1024), (Fld.EV_EVT_TASK_GATED, 1)])) ∧
  (∀ (k : Fin 768) (s : State),
    (s.taskBusy k = true ∨ s.taskDepth k = 0 → Keeps (.taskDeferDeliver k) s) ∧
    (s.taskBusy k = false → 0 < s.taskDepth k → s.taskDepth k < 8 → Does (.taskDeferDeliver k) s [.triggers] (fun _ => false) [(Fld.EV_TASK_STAT_DEPTH k, s.taskDepth k - 1)]
      (fun t => t.taskBusy k = true ∧ t.taskDepth k = s.taskDepth k - 1 ∧ t.triggers.length = s.triggers.length))) ∧
  (∀ (s : State), s.hostOpen = true → Does .taskCntClr s [] (fun q => q.r == .EV_TASK_STAT && (q.lo == 0 || q.lo == 12)) []
    (fun t => ∀ k, t.get (Fld.EV_TASK_STAT_COINC_CNT k) = 0 ∧ t.get (Fld.EV_TASK_STAT_OVF_CNT k) = 0))

/-- What the group, archive and doorbell tasks and a core's pulse do. The task of a group sets or clears its enable, a clear with
the counts of its channels. An archive task gives one EVENT entry stamped S, marked FX with channel 0 for a direct fire. A
doorbell task sets its bit at its core. In each the trigger taken is consumed, and without one nothing but the waiting trigger's
phase changes. A core that runs pulses its producer. (R304, R311, R315, R316, R344, 11_event_matrix.md) -/
def Obligations.TaskActions : Prop :=
  (∀ (g : Fin 16) (s : State), ∀ q, s.waiting (168 + g) false = some q → Does (.groupEnableTask g) s [.triggers] (fun _ => false)
    [(Fld.EV_GRP_EN_EN, s.get Fld.EV_GRP_EN_EN ||| 2 ^ (g : Nat))] (fun t => t.triggers = s.without q)) ∧
  (∀ (g : Fin 16) (s : State), ∀ q, s.waiting (184 + g) false = some q → Does (.groupDisableTask g) s [.triggers] (fun k => k.r == .L_EVC_LOOPS || k == Fld.EV_GRP_EN_EN) []
    (fun t => t.triggers = s.without q ∧ (∀ j < 16, (t.get Fld.EV_GRP_EN_EN).testBit j = ((s.get Fld.EV_GRP_EN_EN).testBit j && j != g)) ∧
      ∀ c < 128, t.get (Lat.EVC_LOOPS c) = if s.groupOf c = g then 0 else s.get (Lat.EVC_LOOPS c))) ∧
  (∀ (k : Fin 8) (s : State), ∀ q, s.waiting (232 + k) true = some q → Does (.archiveLogTask k) s [.triggers, .arcBuf] archiveLoss [] (fun t => t.triggers = s.without q ∧
    Archived s t (archiveEntry 8 false q.unref false q.direct (unitTask (232 + k)) (q.s.getD 0) 0 [if q.direct then 0 else q.ch]))) ∧
  (∀ (c : Fin 8) (b : Fin 32) (s : State), ∀ q, s.waiting (384 + 32 * (c : Nat) + (b : Nat)) false = some q → Does (.doorbell c b) s [.triggers, .out] (fun _ => false)
    [(Lat.DOORBELL c, s.get (Lat.DOORBELL c) ||| 2 ^ (b : Nat))] (fun t => t.triggers = s.without q ∧ t.out = .core c b :: s.out)) ∧
  (∀ (c : Fin 8) (b : Fin 32) (s : State), s.waiting (384 + 32 * (c : Nat) + (b : Nat)) false = none → Does (.doorbell c b) s [.triggers] (fun _ => false) []
    (fun t => t.triggers = replaceFirst (fun g => g.task == 384 + 32 * (c : Nat) + (b : Nat) && g.phase == 1) (fun g => { g with phase := 3 }) s.triggers)) ∧
  (∀ (t : Fin 8) (s : State), s.is (Lat.CC_HALTED t) = true → Keeps (.ccProducerPulse t) s) ∧
  (∀ (t : Fin 8) (s : State), s.is (Lat.CC_HALTED t) = false → s.asleep = false → Does (.ccProducerPulse t) s [.edges] (fun _ => false) []
    (fun u => u.edges = s.edges ++ (s.channelsOf (32 * t + 30)).map (fun c => ⟨c, 32 * t + 30, none⟩)))

/-- Timers, thresholds and the EVIO pins. A write of a timer's configuration arms a one-shot timer at its offset, or reports
TMR_LATE and clears EN when that has passed; a periodic timer runs on its grid when its period is a multiple of 8 of at least
64, and is late otherwise. A timer that is due pulses producer 404 + k; a one-shot clears EN, a periodic one moves on by its
period. A threshold follows its signal with hysteresis. An input edge sets the pin's level. A due ALIGN pulse drives its pin for
at least 8 ticks, and is discarded while the count is held. (R319, R320, R321, R70, 11_event_matrix.md) -/
def Obligations.TimersThresholdsAndPins : Prop :=
  (∀ (k : Fin 16) (v : Nat) (s : State), s.hostOpen = true →
    let per := s.get2 (Fld.EV_TMR_PER_LO k) (Fld.EV_TMR_PER_HI k)
    let ofs := s.get2 (Fld.EV_TMR_OFS_LO k) (Fld.EV_TMR_OFS_HI k)
    (v.testBit 31 = false → Gives (.timerCfgWrite k v) s [(Fld.EV_TMR_CFG_EN k, 0), (Fld.EV_TMR_CFG_MODE k, bitsOf v 30 1), (Lat.TMR_RUN k, 0)]) ∧
    (v.testBit 31 = true → v.testBit 30 = true → wordNext s.tick ≤ ofs → Gives (.timerCfgWrite k v) s [(Fld.EV_TMR_CFG_EN k, 1), (Fld.EV_TMR_CFG_MODE k, 1), (Lat.TMR_RUN k, 1), (Lat.TMR_NEXT k, ofs)]) ∧
    (v.testBit 31 = true → v.testBit 30 = true → ofs < wordNext s.tick → Gives (.timerCfgWrite k v) s [(Fld.EV_TMR_CFG_EN k, 0), (Fld.EV_TMR_CFG_MODE k, 1), (Lat.TMR_RUN k, 0), (Fld.EV_EVT_TMR_LATE, 1)]) ∧
    (v.testBit 31 = true → v.testBit 30 = false → per % 8 = 0 → 64 ≤ per → Gives (.timerCfgWrite k v) s [(Fld.EV_TMR_CFG_EN k, 1), (Fld.EV_TMR_CFG_MODE k, 0), (Lat.TMR_RUN k, 1),
      (Lat.TMR_NEXT k, gridFrom (wordNext s.tick) per ofs % 2 ^ 64)]) ∧
    (v.testBit 31 = true → v.testBit 30 = false → per % 8 ≠ 0 ∨ per < 64 → Gives (.timerCfgWrite k v) s [(Fld.EV_TMR_CFG_EN k, 1), (Fld.EV_TMR_CFG_MODE k, 0), (Lat.TMR_RUN k, 0), (Fld.EV_EVT_TMR_LATE, 1)])) ∧
  (∀ (k : Fin 16) (s : State), s.is (Lat.TMR_RUN k) = false → Keeps (.timerFire k) s) ∧
  (∀ (k : Fin 16) (s : State), s.is (Lat.TMR_RUN k) = true → s.get (Lat.TMR_NEXT k) ≤ s.tick → s.asleep = false →
    let fired (t : State) : Prop := t.edges = s.edges ++ (s.channelsOf (404 + k)).map (fun c => ⟨c, 404 + k, some (s.get (Lat.TMR_NEXT k))⟩)
    (s.is (Fld.EV_TMR_CFG_MODE k) = true → Does (.timerFire k) s [.edges] (fun _ => false) [(Fld.EV_TMR_CFG_EN k, 0), (Lat.TMR_RUN k, 0)] fired) ∧
    (s.is (Fld.EV_TMR_CFG_MODE k) = false → Does (.timerFire k) s [.edges] (fun _ => false)
      [(Lat.TMR_NEXT k, (s.get (Lat.TMR_NEXT k) + s.get2 (Fld.EV_TMR_PER_LO k) (Fld.EV_TMR_PER_HI k)) % 2 ^ 64)] fired)) ∧
  (∀ (k : Fin 32) (x : Int) (s : State), s.is (Fld.EV_THR_CFG_EN k) = true → s.is (Fld.EV_THR_CFG_SRC_KIND k) = true → s.tick < 2 ^ 60 →
    let lvl := s.geti (Fld.EV_THR_LVL_LEVEL k)
    (s.is (Lat.THR_ABOVE k) = false → lvl * 256 ≤ x → Does (.thresholdCross k x) s [.edges] (fun y => y == Lat.THR_WORD k) [(Lat.THR_ABOVE k, 1)]
      (fun t => s.get (Fld.EV_THR_CFG_DIR k) ≠ 1 → s.asleep = false → s.get (Lat.THR_WORD k) ≠ s.tick / 8 + 1 →
        t.edges = s.edges ++ (s.channelsOf (420 + k)).map (fun c => ⟨c, 420 + k, some s.tick⟩) ∧ t.get (Lat.THR_WORD k) = s.tick / 8 + 1)) ∧
    (s.is (Lat.THR_ABOVE k) = true → x < (lvl - s.get (Fld.EV_THR_LVL_HYST k)) * 256 → Does (.thresholdCross k x) s [.edges] (fun y => y == Lat.THR_WORD k) [(Lat.THR_ABOVE k, 0)]
      (fun t => s.get (Fld.EV_THR_CFG_DIR k) = 0 → t.edges = s.edges)) ∧
    (s.is (Lat.THR_ABOVE k) = false → x < lvl * 256 → Keeps (.thresholdCross k x) s)) ∧
  (∀ (n : Fin 16) (h : Bool) (s : State),
    (s.is (Lat.EVIO_IN n) = h ∨ s.is (Fld.EV_EVIO_CFG_DIR n) = true ∨ s.is (Fld.EV_EVIO_CFG_FALL n) = h → Gives (.evioInputEdge n h) s [(Lat.EVIO_IN n, h.toNat)]) ∧
    (s.is (Lat.EVIO_IN n) ≠ h → s.is (Fld.EV_EVIO_CFG_DIR n) = false → s.is (Fld.EV_EVIO_CFG_FALL n) ≠ h → s.evioUsable n = true →
      Does (.evioInputEdge n h) s [.edges] (fun _ => false) [(Lat.EVIO_IN n, h.toNat)] (fun t => t.edges = s.edges ++ (s.channelsOf (256 + n)).map (fun c => ⟨c, 256 + n, none⟩)))) ∧
  (∀ (n : Fin 16) (s : State), ∀ p, s.alignDue.find? (fun p => p.1 == (n : Nat) && p.2 ≤ s.tick) = some p → s.is (Fld.EV_EVIO_CFG_DIR n) = true → s.is (Fld.EV_EVIO_CFG_MODE n) = true →
    (s.asleep = false → s.countHeld = false → Does (.evioAlignPulse n) s [.alignDue, .out] (fun _ => false)
      [(Lat.EVIO_OUT n, 1), (Lat.EVIO_FALL_AT n, (p.2 + max 8 (s.get (Fld.EV_EVIO_CFG_WIDTH n))) % 2 ^ 64)]
      (fun t => t.out = .pin n p.2 (max 8 (s.get (Fld.EV_EVIO_CFG_WIDTH n))) :: s.out ∧ t.alignDue = removeFirst (fun q => q == p) s.alignDue)) ∧
    (s.countHeld = true → Does (.evioAlignPulse n) s [.alignDue] (fun _ => false) [] (fun t => t.alignDue = removeFirst (fun q => q == p) s.alignDue)))

/-- What a target is presented with, and the message a PF gets. Where no source waits for a sleeping target, a target in service
keeps its presentation; one that is not shows its lowest-numbered candidate, sets TO_SECONDARY where it is that source's
secondary target, and shows nothing when no source requests. A PF that passes from nothing to a source gets one MSI-X message,
or the vector's PBA bit while the entry is masked. (R325, R326, R327, R330, R332, R433, 12_interrupts_and_ledger.md) -/
def Obligations.InterruptPresentation : Prop :=
  (∀ (t : Fin 12) (s : State), (∀ n < 256, s.is (Fld.IC_ROUTE_WAKE n) = false) →
    let woken : Key → Bool := fun k => k.r == .L_IC_WOKEN
    (s.is (Fld.IC_TGT_STATUS_INSVC t) = true → Does (.irqPresent t) s [] woken [] (fun _ => True)) ∧
    (s.is (Fld.IC_TGT_STATUS_INSVC t) = false → s.candidate t = none → Does (.irqPresent t) s [] (fun k => woken k || ((t : Nat) < 4 && k == Fld.SYS_MSIX_PBA t))
      [(Fld.IC_TGT_STATUS_PRESENTED t, 0x3FF)] (fun u => (t : Nat) < 4 → s.get (Fld.IC_TGT_STATUS_PRESENTED t) ≠ 0x3FF → u.get (Fld.SYS_MSIX_PBA t) = 0)) ∧
    (s.is (Fld.IC_TGT_STATUS_INSVC t) = false → ∀ c, s.candidate t = some c → s.get (Fld.IC_TGT_STATUS_PRESENTED t) ≠ c.1 →
      (4 ≤ (t : Nat) ∨ s.get (Fld.IC_TGT_STATUS_PRESENTED t) ≠ 0x3FF → Does (.irqPresent t) s [] (fun k => woken k || k == Fld.IC_EVT_TO_SECONDARY) [(Fld.IC_TGT_STATUS_PRESENTED t, c.1)]
        (fun u => u.get Fld.IC_EVT_TO_SECONDARY = if c.2 then 1 else s.get Fld.IC_EVT_TO_SECONDARY)) ∧
      ((t : Nat) < 4 → s.get (Fld.IC_TGT_STATUS_PRESENTED t) = 0x3FF →
        ((s.get (vectorMask t (s.vectorOf t c.1))).testBit 0 = false → Does (.irqPresent t) s [.out] (fun k => woken k || k == Fld.IC_EVT_TO_SECONDARY) [(Fld.IC_TGT_STATUS_PRESENTED t, c.1)]
          (fun u => u.out = .msix t (s.vectorOf t c.1) :: s.out)) ∧
        ((s.get (vectorMask t (s.vectorOf t c.1))).testBit 0 = true → Does (.irqPresent t) s [] (fun k => woken k || k == Fld.IC_EVT_TO_SECONDARY)
          [(Fld.IC_TGT_STATUS_PRESENTED t, c.1), (Fld.SYS_MSIX_PBA t, s.get (Fld.SYS_MSIX_PBA t) ||| 2 ^ s.vectorOf t c.1)] (fun _ => True)))))

/-- Claims, ends of service, routes, vectors, software status and the wake watcher. A claim by the target of a presented, requesting
source starts its service and returns its number, with bit 31 for a secondary target; any other claim returns 0x3FF and changes
nothing else. EOI of the source in service ends it; any other value sets EOI_MISMATCH. A write of a route takes its fields,
reports a bad route and only withdraws presentations. Unmasking a vector sends the message it holds. IC_SW_SET sets bits. In
DEEP_SLEEP the first watched assertion latches the wake cause and starts the wake. (R324, R325, R328, R329, R331, R333, R433,
12_interrupts_and_ledger.md) -/
def Obligations.InterruptService : Prop :=
  (∀ (r t : Fin 12) (s : State),
    let n := s.get (Fld.IC_TGT_STATUS_PRESENTED t)
    (r = t → s.is (Fld.IC_TGT_STATUS_INSVC t) = false → n ≠ 0x3FF → s.requesting n = true → Gives (.irqClaim r t) s [(Fld.IC_TGT_STATUS_INSVC t, 1), (Fld.IC_TGT_STATUS_INSVC_SRC t, n),
      (Fld.IC_TGT_STATUS_PRESENTED t, 0x3FF), (Lat.CLAIM_DATA r, if s.get (Fld.IC_ROUTE_PRI n) = t then n else n + 2 ^ 31)]) ∧
    (r ≠ t ∨ s.is (Fld.IC_TGT_STATUS_INSVC t) = true ∨ n = 0x3FF ∨ s.requesting n = false → Gives (.irqClaim r t) s [(Lat.CLAIM_DATA r, 0x3FF)])) ∧
  (∀ (t : Fin 12) (v : Nat) (s : State), s.hostOpen = true →
    (s.is (Fld.IC_TGT_STATUS_INSVC t) = true → s.get (Fld.IC_TGT_STATUS_INSVC_SRC t) = v % 2 ^ 10 → Gives (.irqEoi t v) s [(Fld.IC_EOI_SRC t, v % 2 ^ 10), (Fld.IC_TGT_STATUS_INSVC t, 0),
      (Fld.IC_TGT_STATUS_INSVC_SRC t, 0x3FF)]) ∧
    (s.is (Fld.IC_TGT_STATUS_INSVC t) = false ∨ s.get (Fld.IC_TGT_STATUS_INSVC_SRC t) ≠ v % 2 ^ 10 → Gives (.irqEoi t v) s [(Fld.IC_EOI_SRC t, v % 2 ^ 10), (Fld.IC_EVT_EOI_MISMATCH, 1)])) ∧
  (∀ (n : Fin 256) (v : Nat) (s : State), s.hostOpen = true →
    let bad := 12 ≤ v % 16 ∨ v.testBit 8 = true ∧ 12 ≤ v / 16 % 16
    Does (.irqRouteWrite n v) s [] (fun k => k == Fld.IC_EVT_BAD_ROUTE || k.r == .SYS_MSIX_PBA || (k.r == .IC_TGT_STATUS && k == Fld.IC_TGT_STATUS_PRESENTED k.i))
      [(Fld.IC_ROUTE_EN n, bitsOf v 31 1), (Fld.IC_ROUTE_WAKE n, bitsOf v 9 1), (Fld.IC_ROUTE_SEC_EN n, bitsOf v 8 1), (Fld.IC_ROUTE_SEC n, bitsOf v 4 4), (Fld.IC_ROUTE_PRI n, bitsOf v 0 4)]
      (fun t => (bad → t.is Fld.IC_EVT_BAD_ROUTE = true) ∧ (¬bad → t.get Fld.IC_EVT_BAD_ROUTE = s.get Fld.IC_EVT_BAD_ROUTE) ∧
        ∀ u < 12, t.get (Fld.IC_TGT_STATUS_PRESENTED u) = s.get (Fld.IC_TGT_STATUS_PRESENTED u) ∨ t.get (Fld.IC_TGT_STATUS_PRESENTED u) = 0x3FF)) ∧
  (∀ (pf : Fin 4) (v : Fin 2) (s : State),
    let clear := s.get (vectorMask pf v) / 2 * 2
    ((s.get (Fld.SYS_MSIX_PBA pf)).testBit v = false → Gives (.msixUnmask pf v) s [(vectorMask pf v, clear)]) ∧
    ((s.get (Fld.SYS_MSIX_PBA pf)).testBit v = true → s.get (Fld.IC_TGT_STATUS_PRESENTED pf) ≠ 0x3FF → Does (.msixUnmask pf v) s [.out] (fun _ => false)
      [(vectorMask pf v, clear), (Fld.SYS_MSIX_PBA pf, s.get (Fld.SYS_MSIX_PBA pf) - 2 ^ (v : Nat))] (fun t => t.out = .msix pf v :: s.out))) ∧
  (∀ (pf : Fin 4) (e f : Bool) (s : State), Does (.msixFunctionMask pf e f) s [] (fun k => k.r == .SYS_MSIX_PBA || (k.r == .IC_TGT_STATUS && k == Fld.IC_TGT_STATUS_PRESENTED k.i))
    [(Fld.SYS_PF_CFG_MSIX_EN pf, e.toNat), (Lat.PF_FMASK pf, f.toNat)]
    (fun t => e = false ∨ f = true → t.get (Fld.IC_TGT_STATUS_PRESENTED pf) = 0x3FF)) ∧
  (∀ (v : Nat) (s : State), s.hostOpen = true → Gives (.icSwSet v) s [(Fld.IC_SW_STAT, s.get Fld.IC_SW_STAT ||| v % 2 ^ 8)]) ∧
  (∀ (n : Fin 256) (s : State),
    (s.asleep = true → watchable n = true → s.watched n = true →
      (s.is Lat.WAKE_START = false → Gives (.wakeWatcherAssert n) s [(Lat.WAKE_SEEN n, 1), (Lat.WAKE_START, 1), (Fld.IC_WAKE_CAUSE_VALID, 1), (Fld.IC_WAKE_CAUSE_SRC, n),
        (Lat.PWR_BUSY, 1), (Lat.PWR_NEXT, 2), (Fld.AON_PWR_EVT_WOKE, 1), (Fld.AON_EVT_WOKE, 1)]) ∧
      (s.is Lat.WAKE_START = true → Gives (.wakeWatcherAssert n) s [(Lat.WAKE_SEEN n, 1)])) ∧
    (s.asleep = false ∨ watchable n = false ∨ s.watched n = false → Keeps (.wakeWatcherAssert n) s))

/-- Ledger clears, persisting causes and the faults of shared resources. A clear of an ACTIVE entry zeroes all of it but PERSIST,
archives its final count, and remembers a persisting cause; a clear of any other entry changes only IC_LDG_CLR. A remembered
cause whose condition remains is raised again with the unit and detail it had. A crossbar fault, a lost stack training and a DLL
lock loss in RUN raise causes 7, 3 and 30 at their units. (R334, R335, R338, R287, 12_interrupts_and_ledger.md) -/
def Obligations.FaultLedger : Prop :=
  (∀ (v : Nat) (s : State), s.hostOpen = true →
    let k := v % 64
    (s.is (Fld.LDG_ACTIVE k) = false → Gives (.ledgerClear v) s [(Fld.IC_LDG_CLR_CAUSE, k)]) ∧
    (s.is (Fld.LDG_ACTIVE k) = true → Does (.ledgerClear v) s [.arcBuf] (fun x => archiveLoss x || (x.r == .IC_LDG && x.i == k && x != Fld.LDG_PERSIST k) || (x.r == .L_LDG_AGAIN_MAP && x.i == k))
      [(Fld.IC_LDG_CLR_CAUSE, k), (Fld.LDG_ACTIVE k, 0), (Fld.LDG_NOTIFY k, 0), (Fld.LDG_COUNT k, 0), (Fld.LDG_DETAIL k, 0), (Fld.LDG_FIRST_LO k, 0), (Fld.LDG_FIRST_HI k, 0),
        (Fld.LDG_LAST_LO k, 0), (Fld.LDG_LAST_HI k, 0), (Lat.LDG_AGAIN k, s.get (Fld.LDG_PERSIST k)), (Lat.LDG_AGAIN_UNIT k, s.get (Fld.LDG_RAISED_AT k)), (Lat.LDG_AGAIN_DETAIL k, s.get (Fld.LDG_DETAIL k))]
      (fun t => (∀ j < 35, t.get (Fld.LDG_MAP k j) = 0) ∧
        Archived s t (archiveEntry 5 false s.unref false true (s.get (Fld.LDG_RAISED_AT k)) s.tick 0 [k, s.get (Fld.LDG_DETAIL k), s.get (Fld.LDG_COUNT k)])))) ∧
  (∀ (k : Fin 64) (s : State), s.is (Lat.LDG_AGAIN k) = false → Keeps (.ledgerPersistReraise k) s) ∧
  (∀ (k : Fin 64) (s : State), s.is (Lat.LDG_AGAIN k) = true →
    (s.is (Fld.LDG_PERSIST k) = true → Does (.ledgerPersistReraise k) s [.arcBuf] (fun x => ledgerOf k x || archiveLoss x || (x.r == .L_LDG_AGAIN_MAP && x.i == (k : Nat))) [(Lat.LDG_AGAIN k, 0)]
      (fun t => Raised s t k (s.get (Lat.LDG_AGAIN_UNIT k)) (s.get (Lat.LDG_AGAIN_DETAIL k)))) ∧
    (s.is (Fld.LDG_PERSIST k) = false → Does (.ledgerPersistReraise k) s [] (fun x => x.r == .L_LDG_AGAIN_MAP && x.i == (k : Nat)) [(Lat.LDG_AGAIN k, 0)] (fun _ => True))) ∧
  (∀ (p : Nat) (s : State), Does (.crossbarFault p) s [.arcBuf] (fun k => ledgerOf 7 k || archiveLoss k) [] (fun t => Raised s t 7 (unitBlock 2) p)) ∧
  (∀ (k : Fin 4) (r : Bool) (s : State), Does (.stackTrainingLoss k r) s [.arcBuf] (fun x => ledgerOf 3 x || archiveLoss x) [] (fun t => Raised s t 3 (unitStack k) (k + (if r then 32 else 16)))) ∧
  (∀ (k : Fin 24) (s : State),
    (s.get (Fld.TIU_STATUS_STATE k) = 4 → Does (.tiuDllLockLoss k) s [.arcBuf] (fun x => ledgerOf 30 x || archiveLoss x) [(Fld.TIU_STATUS_DLL_LOCK k, 0)] (fun t => Raised s t 30 (unitTiu k) k)) ∧
    (s.get (Fld.TIU_STATUS_STATE k) ≠ 4 → Gives (.tiuDllLockLoss k) s [(Fld.TIU_STATUS_DLL_LOCK k, 0)]))

/-- The archive writer, the read index and the temperature entries. With room in the ring, the writer stores its oldest entry at the
write index and advances it. On a full ring it drops the entry under POL 1, counting it and raising ARC_FULL once, and under POL
0 overwrites the oldest entry, moves the read index, counts it and sets WRAP. A write of IC_ARC_RD within the unread entries
moves it; any other sets RD_BAD alone. With TEMP_EN the buffer takes one TEMP entry for each of the 21 sensors that finds room.
(R340, R341, R342, R345, 12_interrupts_and_ledger.md) -/
def Obligations.ArchiveRing : Prop :=
  (∀ (s : State), s.arcBuf = [] → Keeps .archiveWriteEntry s) ∧
  (∀ (s : State), ∀ e ∈ s.arcBuf.head?,
    let stored (t : State) : Prop := t.arcBuf = s.arcBuf.tail ∧ t.mem = Memory.writes s.mem (0x1000000 + 32 * s.get Fld.IC_ARC_WR) (e.flatMap (leBytes 4))
    (s.ringFill + 1 < s.ringLen → Does .archiveWriteEntry s [.mem, .arcBuf] (fun k => k == Fld.IC_ARC_FILL || k == Fld.IC_ARC_EVT_THRESH)
      [(Fld.IC_ARC_WR, (s.get Fld.IC_ARC_WR + 1) % s.ringLen)] (fun t => stored t ∧ t.get Fld.IC_ARC_FILL = t.ringFill % 2 ^ 28)) ∧
    (s.ringLen ≤ s.ringFill + 1 → s.is Fld.IC_ARC_CFG_POL = true → s.is Lat.ARC_FULL = true → Does .archiveWriteEntry s [.arcBuf] (fun _ => false)
      [(Fld.IC_ARC_LOST, min (s.get Fld.IC_ARC_LOST + 1) (2 ^ 32 - 1))] (fun t => t.arcBuf = s.arcBuf.tail)) ∧
    (s.ringLen ≤ s.ringFill + 1 → s.is Fld.IC_ARC_CFG_POL = true → s.is Lat.ARC_FULL = false → Does .archiveWriteEntry s [.arcBuf] (fun k => ledgerOf 11 k || archiveLoss k)
      [(Lat.ARC_FULL, 1), (Fld.LDG_PERSIST 11, 1)] (fun t => Raised s t 11 (unitBlock 34) 0)) ∧
    (s.ringLen ≤ s.ringFill + 1 → s.is Fld.IC_ARC_CFG_POL = false → s.ringLen ≠ 0 → Does .archiveWriteEntry s [.mem, .arcBuf] (fun k => k == Fld.IC_ARC_FILL || k == Fld.IC_ARC_EVT_THRESH)
      [(Fld.IC_ARC_WR, (s.get Fld.IC_ARC_WR + 1) % s.ringLen), (Fld.IC_ARC_RD, (s.get Fld.IC_ARC_RD + 1) % s.ringLen), (Fld.IC_ARC_LOST, min (s.get Fld.IC_ARC_LOST + 1) (2 ^ 32 - 1)),
        (Fld.IC_ARC_EVT_WRAP, 1)] stored)) ∧
  (∀ (v : Nat) (s : State), s.hostOpen = true →
    let n := v % 2 ^ 28
    (s.ringLen ≠ 0 → n < s.ringLen → (n + s.ringLen - s.get Fld.IC_ARC_RD) % s.ringLen ≤ s.ringFill →
      Does (.archiveRdWrite v) s [] (fun k => k == Fld.IC_ARC_FILL || k == Fld.IC_ARC_EVT_THRESH || k == Lat.ARC_FULL || k == Fld.LDG_PERSIST 11) [(Fld.IC_ARC_RD, n)] (fun t => t.get Fld.IC_ARC_FILL = t.ringFill % 2 ^ 28)) ∧
    (s.ringLen = 0 ∨ s.ringLen ≤ n ∨ s.ringFill < (n + s.ringLen - s.get Fld.IC_ARC_RD) % s.ringLen → Gives (.archiveRdWrite v) s [(Fld.IC_ARC_EVT_RD_BAD, 1)])) ∧
  (∀ (s : State), s.is Fld.IC_ARC_TEMP_EN = false → Keeps .archiveTempPeriodic s) ∧
  (∀ (s : State), s.is Fld.IC_ARC_TEMP_EN = true → s.arcBuf.length + 21 ≤ 1024 → Does .archiveTempPeriodic s [.arcBuf] (fun _ => false) []
    (fun t => t.arcBuf = s.arcBuf ++ (List.range 21).map (fun k => archiveEntry 12 false s.unref false false (sensorUnit k) s.tick 0 [s.get (Fld.SYS_TJ_TJ k), k])))

/-- Powering a channel up and down. CH_ENABLE sets EN: OFF goes to POWERING when the rails are good and the power state allows it,
PARKING queues a restart, elsewhere nothing else changes. CH_DISABLE clears EN and a queued restart and takes a powered channel
to PARKING under hard park. A POWERING stage that is ready becomes PARKED. The end of the ramp takes PARKING to OFF, or to
POWERING where a restart waits and power allows it. (R234, R235, R236, R449, 07_output_channels.md) -/
def Obligations.ChannelPower : Prop :=
  (∀ (n : Fin 32) (s : State), s.hostOpen = true →
    (s.get (Fld.CH_STATUS_STATE n) = 0 → s.channelPower n = true → Gives (.chEnable n) s [(Fld.CH_CTRL_EN n, 1), (Fld.CH_STATUS_STATE n, 1), (Fld.CH_STATUS_HARD n, 1)]) ∧
    (s.get (Fld.CH_STATUS_STATE n) = 0 → s.channelPower n = false → Gives (.chEnable n) s [(Fld.CH_CTRL_EN n, 1)]) ∧
    (s.get (Fld.CH_STATUS_STATE n) = 4 → Gives (.chEnable n) s [(Fld.CH_CTRL_EN n, 1), (Fld.CH_STATUS_RESTART_PENDING n, 1), (Fld.CH_EVT_RESTART_QUEUED n, 1)]) ∧
    (1 ≤ s.get (Fld.CH_STATUS_STATE n) → s.get (Fld.CH_STATUS_STATE n) ≤ 3 → Gives (.chEnable n) s [(Fld.CH_CTRL_EN n, 1)]) ∧
    (s.get (Fld.CH_STATUS_STATE n) = 0 ∨ s.get (Fld.CH_STATUS_STATE n) = 4 → Gives (.chDisable n) s [(Fld.CH_CTRL_EN n, 0), (Fld.CH_STATUS_RESTART_PENDING n, 0)]) ∧
    (s.get (Fld.CH_STATUS_STATE n) ≠ 0 → s.get (Fld.CH_STATUS_STATE n) ≠ 4 → Gives (.chDisable n) s [(Fld.CH_CTRL_EN n, 0), (Fld.CH_STATUS_RESTART_PENDING n, 0),
      (Fld.CH_STATUS_STATE n, 4), (Fld.CH_STATUS_HARD n, 1)])) ∧
  (∀ (n : Fin 32) (s : State),
    (s.get (Fld.CH_STATUS_STATE n) = 1 → Gives (.chStageReady n) s [(Fld.CH_STATUS_STATE n, 2), (Fld.CH_STATUS_HARD n, if s.get (Fld.CH_PARK_SRC_REASON n) &&& hardMask = 0 then 0 else 1)]) ∧
    (s.get (Fld.CH_STATUS_STATE n) ≠ 1 → Keeps (.chStageReady n) s) ∧
    (s.get (Fld.CH_STATUS_STATE n) = 4 → s.is (Fld.CH_STATUS_RESTART_PENDING n) = true → s.channelPower n = true → Gives (.chRampDownDone n) s
      [(Fld.CH_STATUS_STATE n, 1), (Fld.CH_STATUS_HARD n, 1), (Fld.CH_STATUS_RESTART_PENDING n, 0)]) ∧
    (s.get (Fld.CH_STATUS_STATE n) = 4 → s.is (Fld.CH_STATUS_RESTART_PENDING n) = false ∨ s.channelPower n = false → Gives (.chRampDownDone n) s
      [(Fld.CH_STATUS_STATE n, 0), (Fld.CH_STATUS_HARD n, 0), (Fld.CH_STATUS_RESTART_PENDING n, 0)]) ∧
    (s.get (Fld.CH_STATUS_STATE n) ≠ 4 → Keeps (.chRampDownDone n) s))

/-- Park reasons of channels, their release and PARK_N. CH_CTRL.PARK writes the SOFT reason and no other. At a word boundary BOOT
clears where its condition is over and a PARKED channel without a reason becomes ACTIVE; off a boundary nothing changes. UNPARK
clears TRIP, FAULT and SUPPLY, each only when its condition has cleared, and touches no other reason. PARK_N low sets its reason
on every channel and raises cause 5 once; held high it clears the reason on every channel. (R235, R237, R238, R246, R282,
07_output_channels.md) -/
def Obligations.ChannelParking : Prop :=
  (∀ (n : Fin 32) (b : Bool) (s : State), s.hostOpen = true → Does (.chParkWrite n b) s [] (parkOfChannel n) [(Fld.CH_CTRL_PARK n, b.toNat)]
    (fun t => ∀ j < 11, (t.get (Fld.CH_PARK_SRC_REASON n)).testBit j = if j = pkSoft then b else (s.get (Fld.CH_PARK_SRC_REASON n)).testBit j)) ∧
  (∀ (n : Fin 32) (s : State), s.tick % 8 ≠ 0 → Keeps (.chRelease n) s) ∧
  (∀ (n : Fin 32) (s : State), s.tick % 8 = 0 →
    (s.get (Fld.CH_STATUS_STATE n) = 2 → s.get (Fld.CH_PARK_SRC_REASON n) = 0 → Gives (.chRelease n) s [(Fld.CH_STATUS_STATE n, 3), (Fld.CH_STATUS_HARD n, 0)]) ∧
    (s.get (Fld.CH_STATUS_STATE n) = 2 → s.get (Fld.CH_PARK_SRC_REASON n) = 1 → s.bootOver (tileOfChannel n) = true → Gives (.chRelease n) s
      [(Fld.CH_STATUS_STATE n, 3), (Fld.CH_STATUS_HARD n, 0), (Fld.CH_PARK_SRC_REASON n, 0), (Fld.CH_EVT_PARK_CHG n, 1)]) ∧
    (s.bootOver (tileOfChannel n) = false → s.get (Fld.CH_PARK_SRC_REASON n) ≠ 0 → Keeps (.chRelease n) s)) ∧
  (∀ (n : Fin 32) (s : State), s.hostOpen = true → Does (.unpark n) s [] (parkOfChannel n) [] (fun t => ∀ j < 11, (t.get (Fld.CH_PARK_SRC_REASON n)).testBit j =
    if j = pkTrip ∧ s.is Lat.TRIP = false ∨ j = pkFault ∧ s.get (Lat.CH_BAD n) = 0 ∨ j = pkSupply ∧ s.dieGood (n / 4) = true then false else (s.get (Fld.CH_PARK_SRC_REASON n)).testBit j)) ∧
  (∀ (s : State), s.is Lat.PARK_N_LOW = true → Keeps .parkNFall s) ∧
  (∀ (s : State), s.is Lat.PARK_N_LOW = false → Does .parkNFall s [.edges, .arcBuf] (fun k => parkAny k || ledgerOf 5 k || archiveLoss k || among [.COR_GRP_EVT, .COR_GRP_STATUS, .IC_LDG, .L_COR_RAMP, .L_COR_W0, .L_COR_ZERO, .REEL] k)
    [(Lat.PARK_N_LOW, 1), (Fld.LDG_PERSIST 5, 1)] (fun t => Raised s t 5 (unitBlock 33) 0 ∧ ∀ n < 32, (t.get (Fld.CH_PARK_SRC_REASON n)).testBit pkParkN = true ∧ t.get (Fld.CH_STATUS_STATE n) ≠ 3 ∨
      t.get (Fld.CH_PARK_SRC_REASON n) = s.get (Fld.CH_PARK_SRC_REASON n))) ∧
  (∀ (s : State), Gives (.parkNRelease false) s [(Lat.PARK_N_LOW, 0), (Fld.LDG_PERSIST 5, 0)]) ∧
  (∀ (s : State), Does (.parkNRelease true) s [] parkAny [(Lat.PARK_N_LOW, 0), (Fld.LDG_PERSIST 5, 0)] (fun t => ∀ n < 32, (t.get (Fld.CH_PARK_SRC_REASON n)).testBit pkParkN = false))

/-- Output shorts, hot stages, feed faults and the supply of a converter die. A fault condition that appears sets its event and the
FAULT reason of its channel, and raises cause 23 where nothing folds it; one that goes changes only what persists. A feed fill
of 24 to 40 words is no fault. A converter rail under its warning sets the SUPPLY reason on the four channels of its die and
raises cause 6 once; below power-good it also takes them OFF. Good rails clear the warning and start the wait of R237. (R235,
R237, R240, R334, R336, R456, 07_output_channels.md) -/
def Obligations.ChannelFaults : Prop :=
  (∀ (n : Fin 32) (s : State), s.is (Fld.LDG_ACTIVE 6) = false →
    let pks : Key → Bool := fun k => parkOfChannel n k || ledgerOf 23 k || archiveLoss k
    let bad (b : Nat) (s t : State) : Prop := (t.get (Lat.CH_BAD n)).testBit b = true ∧ (t.get (Fld.CH_PARK_SRC_REASON n)).testBit pkFault = true ∧ t.get (Fld.CH_STATUS_STATE n) ≠ 3 ∧
      (s.is (Fld.LDG_ACTIVE 23) = false → Raised s t 23 (unitChannel n) n)
    ((s.get (Fld.CH_PARK_SRC_REASON n)).testBit pkFault = false → s.get (Lat.CH_BAD n) = 0 →
      Does (.outShort n true) s [.arcBuf] (fun k => pks k || k == Lat.CH_BAD n) [(Fld.CH_EVT_OUT_SHORT n, 1), (Fld.LDG_PERSIST 23, 1)] (bad 0 s) ∧
      Does (.stageHot n true) s [.arcBuf] (fun k => pks k || k == Lat.CH_BAD n) [(Fld.CH_EVT_STAGE_HOT n, 1), (Fld.LDG_PERSIST 23, 1)] (bad 1 s) ∧
      (s.is (Fld.LDG_ACTIVE 0) = false → s.is (Fld.LDG_ACTIVE 1) = false → ∀ f : Nat, f < 24 ∨ 40 < f →
        Does (.feedFault n f) s [.arcBuf] (fun k => pks k || k == Lat.CH_BAD n) [(Fld.CH_EVT_FEED_FAULT n, 1), (Fld.LDG_PERSIST 23, 1)] (bad 2 s))) ∧
    (Does (.outShort n false) s [] (fun k => k == Lat.CH_BAD n || k == Fld.LDG_PERSIST 23) [] (fun t => (t.get (Lat.CH_BAD n)).testBit 0 = false)) ∧
    (Does (.stageHot n false) s [] (fun k => k == Lat.CH_BAD n || k == Fld.LDG_PERSIST 23) [] (fun t => (t.get (Lat.CH_BAD n)).testBit 1 = false)) ∧
    (∀ f : Nat, 24 ≤ f → f ≤ 40 → Does (.feedFault n f) s [] (fun k => k == Lat.CH_BAD n || k == Fld.LDG_PERSIST 23) [] (fun t => (t.get (Lat.CH_BAD n)).testBit 2 = false))) ∧
  (∀ (d : Fin 8) (s : State),
    let four : Key → Bool := fun k => k.i / 4 == (d : Nat) && parkOfChannel k.i k
    (s.is (Lat.DIE_UV d) = false → Does (.converterSupplyLoss d false) s [.arcBuf] (fun k => four k || ledgerOf 6 k || archiveLoss k) [(Lat.DIE_UV d, 1), (Fld.LDG_PERSIST 6, 1)]
      (fun t => Raised s t 6 (unitDie d) d ∧ ∀ j < 4, (t.get (Fld.CH_PARK_SRC_REASON (4 * d + j))).testBit pkSupply = true)) ∧
    (s.is (Lat.DIE_UV d) = true → Does (.converterSupplyLoss d true) s [] (fun k => four k || (k.i / 4 == (d : Nat) && k == Fld.CH_STATUS_RESTART_PENDING k.i)) [(Lat.DIE_PG d, 0)]
      (fun t => ∀ j < 4, t.get (Fld.CH_STATUS_STATE (4 * d + j)) = 0 ∧ (t.get (Fld.CH_PARK_SRC_REASON (4 * d + j))).testBit pkSupply = true)) ∧
    (s.is (Lat.DIE_PG d) = true → Does (.converterSupplyGood d) s [] (fun k => k == Fld.LDG_PERSIST 6) [(Lat.DIE_UV d, 0), (Lat.DIE_GOOD_AT d, s.tick % 2 ^ 64)] (fun _ => True)) ∧
    (s.is (Lat.DIE_PG d) = false → Does (.converterSupplyGood d) s [] (fun k => k == Fld.LDG_PERSIST 6 || four k) [(Lat.DIE_UV d, 0), (Lat.DIE_GOOD_AT d, s.tick % 2 ^ 64), (Lat.DIE_PG d, 1)]
      (fun t => ∀ j < 4, (t.get (Fld.CH_PARK_SRC_REASON (4 * d + j))).testBit pkBoot = true ∧
        (s.get (Fld.CH_STATUS_STATE (4 * d + j)) = 0 → s.is (Fld.CH_CTRL_EN (4 * d + j)) = true → s.unitsPowered = true → t.get (Fld.CH_STATUS_STATE (4 * d + j)) = 1))))

/-- Range requests and gaps, equaliser swaps and bank writes, and channel boundaries. A range request in a powered channel waits for
its word-aligned tick at least 512 ticks ahead, or for the next boundary where CH_RNG_AT is 0; a request for the range in force
completes at once, and any other tick is refused. An equaliser swap is asked for once. A tap of the inactive bank takes its
value; a write of the active bank is dropped with EQ_WR_ACTIVE. At a boundary a pending swap exchanges the banks. A request due
starts its gap; 256 ticks on, the gap ends with the new range in force. (R228, R229, R231, R232, R233, R451,
07_output_channels.md) -/
def Obligations.ChannelRangesAndBanks : Prop :=
  (∀ (n : Fin 32) (s : State), s.hostOpen = true →
    let at_ := s.get2 (Fld.CH_RNG_AT_LO n) (Fld.CH_RNG_AT_HI n)
    (at_ ≠ 0 → at_ % 8 ≠ 0 ∨ at_ < s.tick + 512 → Gives (.rngReq n) s [(Fld.CH_EVT_RNG_REFUSED n, 1)]) ∧
    (s.get (Fld.CH_STATUS_STATE n) = 2 ∨ s.get (Fld.CH_STATUS_STATE n) = 3 → s.is (Fld.CH_STATUS_RNG_GAP n) = false → s.ranges.all (fun q => q.ch != (n : Nat)) = true →
      at_ = 0 ∨ at_ % 8 = 0 ∧ s.tick + 512 ≤ at_ →
      (s.get (Fld.CH_RANGE_REQ n) ≠ s.get (Fld.CH_RANGE_CUR n) → Does (.rngReq n) s [.ranges] (fun _ => false) [(Fld.CH_STATUS_RNG_PEND n, 1), (Fld.CH_RANGE_PEND_VAL n, s.get (Fld.CH_RANGE_REQ n))]
        (fun t => t.ranges = s.ranges ++ [⟨n, s.get (Fld.CH_RANGE_REQ n), if at_ = 0 then none else some at_, none, s.tick⟩])) ∧
      (s.get (Fld.CH_RANGE_REQ n) = s.get (Fld.CH_RANGE_CUR n) → Gives (.rngReq n) s [(Fld.CH_EVT_RNG_DONE n, 1)])) ∧
    (s.is (Fld.CH_EQ_CFG_SWAP_PEND n) = false → Gives (.eqSwap n) s [(Fld.CH_EQ_CFG_SWAP_PEND n, 1), (Lat.EQ_REQ_AT n, s.tick % 2 ^ 64)]) ∧
    (s.is (Fld.CH_EQ_CFG_SWAP_PEND n) = true → Keeps (.eqSwap n) s) ∧
    (∀ (b : Fin 2) (i : Fin 64) (v : Nat),
      (s.get (Fld.CH_EQ_CFG_ACTIVE n) ≠ b → Gives (.chEqCoefWrite n b i v) s [(Fld.CH_EQ_COEF_H n (64 * b + i), v % 2 ^ 20)]) ∧
      (s.get (Fld.CH_EQ_CFG_ACTIVE n) = b → Gives (.chEqCoefWrite n b i v) s [(Fld.CH_EVT_EQ_WR_ACTIVE n, 1)]))) ∧
  (∀ (n : Fin 32) (s : State), s.calPends = [] → s.get (Fld.CH_EQ_CFG_SRC n) = s.get (Lat.EQ_SRC_CUR n) → s.ranges = [] →
    (s.is (Fld.CH_EQ_CFG_SWAP_PEND n) = true → s.boundary n (s.get (Lat.EQ_REQ_AT n)) = true → Does (.channelBoundary n) s [.lines] (fun _ => false)
      [(Fld.CH_EQ_CFG_ACTIVE n, 1 - s.get (Fld.CH_EQ_CFG_ACTIVE n)), (Fld.CH_EQ_CFG_SWAP_PEND n, 0), (Fld.CH_EVT_EQ_SWAPPED n, 1)] (fun _ => True)) ∧
    (s.is (Fld.CH_EQ_CFG_SWAP_PEND n) = false → Keeps (.channelBoundary n) s)) ∧
  (∀ (n : Fin 32) (s : State),
    (s.is (Fld.CH_STATUS_RNG_GAP n) = true → Keeps (.rangeGapStart n) s) ∧
    (s.is (Fld.CH_STATUS_RNG_GAP n) = false → s.get (Fld.CH_STATUS_STATE n) = 2 ∨ s.get (Fld.CH_STATUS_STATE n) = 3 → ∀ q ∈ s.ranges.head?, s.ranges.length = 1 → q.ch = n → ∀ a, q.at_ = some a → a ≤ s.tick →
      Does (.rangeGapStart n) s [.ranges] (fun _ => false) [(Fld.CH_STATUS_RNG_GAP n, 1), (Lat.RNG_AT n, a % 2 ^ 64), (Lat.RNG_NEW n, q.range % 4), (Fld.CH_STATUS_RNG_PEND n, 0)] (fun t => t.ranges = [])) ∧
    (s.is (Fld.CH_STATUS_RNG_GAP n) = true → s.get (Lat.RNG_AT n) + 256 ≤ s.tick → Does (.rangeGapEnd n) s [.lines, .calSets, .calPends, .arcBuf]
      (fun k => archiveLoss k || k == Fld.CAL_EVT_SET_APPLIED || amongAt [.CAL_CH_STATUS, .CAL_LOAD, .CAL_PEND_TAG, .CAL_RESID, .CH_CAL_GAIN, .CH_CAL_OFS, .CH_CAL_SKEW, .CH_CAL_TAG, .CH_EQ_CFG, .CH_INL, .CH_RANGE,
        .L_CAL_SEQ, .L_EQ_SRC_CUR] n k || k == Fld.CH_EVT_EQ_SWAPPED n || k == Fld.CH_STATUS_RNG_PEND n) [(Fld.CH_STATUS_RNG_GAP n, 0), (Fld.CH_RANGE_CUR n, s.get (Lat.RNG_NEW n)), (Fld.CH_EVT_RNG_DONE n, 1)] (fun _ => True)) ∧
    (s.tick < s.get (Lat.RNG_AT n) + 256 → Keeps (.rangeGapEnd n) s))

/-- Powering a port up and down, its release and its unpark. PORT_ENABLE sets EN and starts a used OFF port in a powered state, or
queues a restart in STOPPING. PORT_DISABLE clears EN and a queued restart and stops a running port. The end of a stop gives OFF,
or STARTING where a restart waits and may start. A started transmitting port is PARKED, a receiving one without a holding reason
ACTIVE. At a word boundary a PARKED port that no reason holds becomes ACTIVE. UNPARK clears TRIP, FAULT and SUPPLY, each when
its condition has cleared. (R237, R242, R246, R260, R263, R449, 08_pattern_and_converter_ports.md) -/
def Obligations.PortStates : Prop :=
  (∀ (p : Fin 48) (s : State), s.hostOpen = true →
    let st := s.get (Fld.PP_STATUS_STATE p)
    (st = 0 → s.is (Fld.PP_CFG_USED p) = true → s.unitsPowered = true → Gives (.portEnable p) s [(Fld.PP_CTRL_EN p, 1), (Fld.PP_STATUS_STATE p, 1)]) ∧
    (st = 0 → s.is (Fld.PP_CFG_USED p) = false ∨ s.unitsPowered = false → Gives (.portEnable p) s [(Fld.PP_CTRL_EN p, 1)]) ∧
    (st = 4 → Gives (.portEnable p) s [(Fld.PP_CTRL_EN p, 1), (Fld.PP_STATUS_RESTART_PENDING p, 1), (Fld.PP_EVT_RESTART_QUEUED p, 1)]) ∧
    (1 ≤ st → st ≤ 3 → Gives (.portEnable p) s [(Fld.PP_CTRL_EN p, 1)]) ∧
    (1 ≤ st → st ≤ 3 → Gives (.portDisable p) s [(Fld.PP_CTRL_EN p, 0), (Fld.PP_STATUS_RESTART_PENDING p, 0), (Fld.PP_STATUS_STATE p, 4)]) ∧
    (st = 0 ∨ st = 4 → Gives (.portDisable p) s [(Fld.PP_CTRL_EN p, 0), (Fld.PP_STATUS_RESTART_PENDING p, 0)]) ∧
    (Does (.portUnpark p) s [] (parkOfPort p) [] (fun t => ∀ j < 11, (t.get (Fld.PP_PARK_SRC_REASON p)).testBit j =
      if s.portTx p = true ∧ (j = pkTrip ∧ s.is Lat.TRIP = false ∨ j = pkSupply ∧ s.get Fld.SYS_RAIL_WARN = 0) ∨ j = pkFault ∧ s.is (Lat.PP_BAD p) = false then false
      else (s.get (Fld.PP_PARK_SRC_REASON p)).testBit j))) ∧
  (∀ (p : Fin 48) (s : State),
    let st := s.get (Fld.PP_STATUS_STATE p)
    let again := s.is (Fld.PP_STATUS_RESTART_PENDING p) && s.is (Fld.PP_CTRL_EN p) && s.is (Fld.PP_CFG_USED p) && s.unitsPowered
    (st = 4 → Gives (.portStopDone p) s [(Fld.PP_STATUS_STATE p, if again then 1 else 0), (Fld.PP_STATUS_RESTART_PENDING p, 0)]) ∧
    (st ≠ 4 → Keeps (.portStopDone p) s) ∧ (st ≠ 1 → Keeps (.portStartDone p) s) ∧
    (st = 1 → s.pers p = 0 ∨ s.ppReasons p ≠ 0 ∧ s.pers p ≠ 2 → Gives (.portStartDone p) s [(Fld.PP_STATUS_STATE p, 2)]) ∧
    (st = 1 → s.pers p = 1 ∨ s.pers p = 3 → s.ppReasons p = 0 → Gives (.portStartDone p) s [(Fld.PP_STATUS_STATE p, 3)]) ∧
    (st = 1 → s.pers p = 2 → Does (.portStartDone p) s [] (fun k => k == Fld.PP_JSTAT_STATE k.i || k == Fld.PP_EVT_JCFG_ERR k.i) [(Fld.PP_STATUS_STATE p, 2)] (fun _ => True)) ∧
    (s.tick % 8 ≠ 0 → Keeps (.portRelease p) s) ∧
    (s.tick % 8 = 0 → st = 2 → s.ppReasons p = 0 → (s.get (Fld.PP_PARK_SRC_REASON p)).testBit pkBoot = false → Gives (.portRelease p) s [(Fld.PP_STATUS_STATE p, 3)]) ∧
    (s.tick % 8 = 0 → st = 2 → s.get (Fld.PP_PARK_SRC_REASON p) = 1 → s.bootOver (tileOfPort p) = true → Gives (.portRelease p) s [(Fld.PP_STATUS_STATE p, 3), (Fld.PP_PARK_SRC_REASON p, 0), (Fld.PP_EVT_PARK_CHG p, 1)]) ∧
    (s.bootOver (tileOfPort p) = false → s.ppReasons p ≠ 0 → Keeps (.portRelease p) s))

/-- Transmit-buffer faults, delay calibration and receive slips. A transmit-buffer fault sets its event and the FAULT reason and
raises cause 24 where nothing folds it; its end changes only the latch that records it. DLY_CAL on a soft-parked pattern TX port
reserves a free TIU of the tile, and is refused otherwise; its result is the clamped mean less the loopback figure of the
factory record, and frees the TIU. A slip in a started pattern RX port counts and records the phase; elsewhere it changes
nothing. (R246, R247, R248, R249, R264, R300, R336, 08_pattern_and_converter_ports.md) -/
def Obligations.PortSignals : Prop :=
  (∀ (p : Fin 48) (s : State),
    (s.is (Fld.LDG_ACTIVE 0) = false → s.is (Fld.LDG_ACTIVE 1) = false → s.is (Fld.LDG_ACTIVE 24) = false → Does (.txbufFault p true) s [.arcBuf] (fun k => parkOfPort p k || ledgerOf 24 k || archiveLoss k)
      [(Lat.PP_BAD p, 1), (Fld.PP_EVT_TXBUF_FAULT p, 1)] (fun t => Raised s t 24 (unitPort p) p ∧ (t.get (Fld.PP_PARK_SRC_REASON p)).testBit pkFault = true)) ∧
    (s.is (Fld.LDG_ACTIVE 0) = true → Does (.txbufFault p true) s [] (fun k => parkOfPort p k || ledgerOf 0 k) [(Lat.PP_BAD p, 1), (Fld.PP_EVT_TXBUF_FAULT p, 1)]
      (fun t => (t.get (Fld.PP_PARK_SRC_REASON p)).testBit pkFault = true ∧ t.get (Fld.LDG_COUNT 0) = s.get (Fld.LDG_COUNT 0))) ∧
    Gives (.txbufFault p false) s [(Lat.PP_BAD p, 0)]) ∧
  (∀ (p : Fin 48) (s : State), s.hostOpen = true →
    (s.is (Fld.PP_CFG_USED p) = true → s.pers p = 0 → s.get (Fld.PP_STATUS_STATE p) = 2 → (s.get (Fld.PP_PARK_SRC_REASON p)).testBit pkSoft = true → s.get (Lat.DLY_TIU p) = 0 →
      ∀ k, s.freeTiu (tileOfPort p) = some k → Gives (.dlyCal p) s [(Fld.TIU_STATUS_RSV k, 3), (Lat.DLY_TIU p, k + 1)]) ∧
    (s.is (Fld.PP_CFG_USED p) = false ∨ s.pers p ≠ 0 ∨ s.get (Fld.PP_STATUS_STATE p) ≠ 2 ∨ s.get (Lat.DLY_TIU p) ≠ 0 ∨ s.freeTiu (tileOfPort p) = none → Gives (.dlyCal p) s [(Fld.PP_EVT_DLY_REFUSED p, 1)])) ∧
  (∀ (p : Fin 48) (m : Int) (s : State),
    (s.get (Lat.DLY_TIU p) = 0 → Keeps (.dlyCalDone p m) s) ∧
    (s.get (Lat.DLY_TIU p) ≠ 0 → s.factory = none → Gives (.dlyCalDone p m) s [(Fld.PP_DLY_ZERO p, ux 16 (clampInt (-32768) 32767 m)), (Fld.TIU_STATUS_RSV (s.get (Lat.DLY_TIU p) - 1), 0), (Lat.DLY_TIU p, 0),
      (Fld.PP_EVT_DLY_DONE p, 1)])) ∧
  (∀ (p : Fin 48) (f : Fin 64) (s : State),
    (s.is (Fld.PP_CFG_USED p) = true → s.pers p = 1 → s.get (Fld.PP_STATUS_STATE p) ≠ 0 → Gives (.rxSlip p f) s [(Fld.PP_RX_STAT_SLIP p, min (s.get (Fld.PP_RX_STAT_SLIP p) + 1) 65535),
      (Fld.PP_RX_STAT_PHASE p, f), (Fld.PP_EVT_RX_SLIP p, 1)]) ∧
    (s.is (Fld.PP_CFG_USED p) = false ∨ s.pers p ≠ 1 ∨ s.get (Fld.PP_STATUS_STATE p) = 0 → Keeps (.rxSlip p f) s))

/-- Arming, triggering, aborting and ending a capture of a pattern RX port. CAP_START on a used pattern RX port arms one archive
capture, for a named tick at least 512 ticks ahead or for the capture task, and is refused while one is busy; on any other port
it is out of scope. The capture task gives the trigger tick S + 512. At its grid tick the capture starts. An abort ends it at
the next word boundary. An end that is due latches the counts, sets CAP_DONE and frees the port. (R34, R250, R251, R252, R253,
R344, 08_pattern_and_converter_ports.md) -/
def Obligations.PatternCaptures : Prop :=
  (∀ (p : Fin 48) (s : State), s.hostOpen = true →
    let at_ := s.get2 (Fld.PP_CAP_AT_LO p) (Fld.PP_CAP_AT_HI p)
    let len := s.get2 (Fld.PP_CAP_LEN_LO p) (Fld.PP_CAP_LEN_HI p)
    let task := s.is (Fld.PP_CAP_CFG_TRIG p)
    let rx := s.is (Fld.PP_CFG_USED p) && s.pers p == 1
    (rx = true → s.is (Fld.PP_STATUS_CAP_BUSY p) = false → s.is (Fld.PP_CAP_CFG_MODE p) = true → task = true ∨ s.tick + 512 ≤ at_ → Does (.capStart p) s [.caps] (fun _ => false) [(Fld.PP_STATUS_CAP_BUSY p, 1)]
      (fun t => t.cap p = some { port := p, trig := if task then none else some at_, byTask := task, len := len, mode := true, card := s.get (Fld.PP_CAP_CFG_CARD p) } ∧ ∀ q, q ≠ (p : Nat) → t.cap q = s.cap q)) ∧
    (rx = true → s.is (Fld.PP_STATUS_CAP_BUSY p) = true ∨ task = false ∧ at_ < s.tick + 512 → Gives (.capStart p) s [(Fld.PP_EVT_CAP_REFUSED p, 1)]) ∧
    (rx = false → s.is (Fld.LDG_ACTIVE 16) = false → Does (.capStart p) s [.arcBuf] (fun k => ledgerOf 16 k || archiveLoss k) [] (fun t => Raised s t 16 (unitTile (tileOfPort p)) (portOffset p 0x14)) ∧
      Does (.capAbort p) s [.arcBuf] (fun k => ledgerOf 16 k || archiveLoss k) [] (fun t => Raised s t 16 (unitTile (tileOfPort p)) (portOffset p 0x14))) ∧
    (rx = true → ∀ c, s.cap p = some c → c.port = p → c.stopAt = none → Does (.capAbort p) s [.caps] (fun _ => false) [] (fun t => t.cap p = some { c with stopAt := some (wordNext s.tick) }))) ∧
  (∀ (p : Fin 48) (s : State), ∀ c, s.cap p = some c → ∀ g, s.waiting (112 + p) true = some g → c.byTask = true → c.trig = none →
    Does (.captureTask p) s [.caps, .triggers] (fun _ => false) [] (fun t => t.triggers = s.without g ∧ t.cap p = some { c with trig := some (g.s.getD 0 + 512) })) ∧
  (∀ (p : Fin 48) (l : List Nat) (s : State), ∀ c, s.cap p = some c → ∀ a, c.trig = some a → c.start = none →
    (s.capGrid p a ≤ s.tick → Does (.captureTrigger p l) s [.caps] (fun _ => false) [] (fun t => t.cap p = some { c with start := some (s.capGrid p a), samples := l })) ∧
    (s.tick < s.capGrid p a → Keeps (.captureTrigger p l) s)) ∧
  (∀ (p : Fin 48) (s : State), s.cap p = none → Keeps (.captureEnd p) s ∧ Keeps (.captureOverflow p) s) ∧
  (∀ (p : Fin 48) (s : State), ∀ c, s.cap p = some c → c.start = none → c.accBits = 0 →
    (∀ e, c.stopAt = some e → e ≤ s.tick → Does (.captureEnd p) s [.caps, .edges, .arcBuf] archiveLoss [(Fld.PP_CAP_CNT_LO p, c.written % 2 ^ 32), (Fld.PP_CAP_CNT_HI p, c.written / 2 ^ 32 % 2 ^ 32),
      (Fld.PP_CAP_START_LO p, 0), (Fld.PP_CAP_START_HI p, 0), (Fld.PP_STATUS_CAP_BUSY p, 0), (Fld.PP_EVT_CAP_DONE p, 1)]
      (fun t => t.cap p = none ∧ Archived s t (archiveEntry 18 false c.unref false false (unitPort p) e 0 [c.written % 2 ^ 32, c.written / 2 ^ 32 % 2 ^ 32, 2]))) ∧
    (c.stopAt = none → Keeps (.captureEnd p) s) ∧ Keeps (.captureOverflow p) s) ∧
  (∀ (p : Fin 48) (s : State), ∀ c, s.cap p = some c → ∀ a, c.start = some a → c.accBits = 0 → c.len ≤ c.taken →
    let ended : List (Key × Nat) := [(Fld.PP_CAP_CNT_LO p, c.written % 2 ^ 32), (Fld.PP_CAP_CNT_HI p, c.written / 2 ^ 32 % 2 ^ 32), (Fld.PP_CAP_START_LO p, a % 2 ^ 32), (Fld.PP_CAP_START_HI p, a / 2 ^ 32 % 2 ^ 32),
      (Fld.PP_STATUS_CAP_BUSY p, 0), (Fld.PP_EVT_CAP_DONE p, 1)]
    (c.stopAt = none → Does (.captureEnd p) s [.caps, .edges, .arcBuf] archiveLoss ended (fun t => t.cap p = none)) ∧
    Does (.captureOverflow p) s [.caps, .edges, .arcBuf] archiveLoss ((Fld.PP_EVT_CAP_OVF p, 1) :: ended) (fun t => t.cap p = none ∧
      Archived s t (archiveEntry 18 false c.unref false false (unitPort p) s.tick 0 [c.written % 2 ^ 32, c.written / 2 ^ 32 % 2 ^ 32, 1])))

/-- Enabling and disabling a JESD204C link, and the framing of a transmitter. An enable at the lane 0 of an RX link in OFF that is
not stopping takes EN and RBD and enters BLOCK; a TX link in OFF without an OFF lane waits. A disable stops a TX link in WAIT or
RUN, and an RX link that is not OFF. Off lane 0 the register is out of scope. A waiting TX link starts framing at an LEMC
boundary with JLOCK, and reports JCFG_ERR while its SYSREF is not right. Its stop ends in OFF unless EN is set. (R34, R254,
R256, R260, R261, R450, 08_pattern_and_converter_ports.md) -/
def Obligations.JesdTransmitters : Prop :=
  (∀ (p : Fin 48) (r : Nat) (s : State), s.hostOpen = true →
    (s.lane0 p = false → s.is (Fld.LDG_ACTIVE 16) = false → Does (.jesdEnable p r) s [.arcBuf] (fun k => ledgerOf 16 k || archiveLoss k) [] (fun t => Raised s t 16 (unitTile (tileOfPort p)) (portOffset p 0x408)) ∧
      Does (.jesdDisable p) s [.arcBuf] (fun k => ledgerOf 16 k || archiveLoss k) [] (fun t => Raised s t 16 (unitTile (tileOfPort p)) (portOffset p 0x408))) ∧
    (s.lane0 p = true → s.pers p = 3 →
      (s.get (Fld.PP_JSTAT_STATE p) = 0 → s.is (Lat.JRX_STOP p) = false → Gives (.jesdEnable p r) s [(Fld.PP_JCTRL_EN p, 1), (Fld.PP_JCTRL_RBD p, r % 2 ^ 16), (Fld.PP_JSTAT_STATE p, 4)]) ∧
      (s.get (Fld.PP_JSTAT_STATE p) ≠ 0 ∨ s.is (Lat.JRX_STOP p) = true → Gives (.jesdEnable p r) s [(Fld.PP_JCTRL_EN p, 1), (Fld.PP_JCTRL_RBD p, r % 2 ^ 16)]) ∧
      (s.get (Fld.PP_JSTAT_STATE p) ≠ 0 → Gives (.jesdDisable p) s [(Fld.PP_JCTRL_EN p, 0), (Lat.JRX_STOP p, 1)]) ∧
      (s.get (Fld.PP_JSTAT_STATE p) = 0 → Gives (.jesdDisable p) s [(Fld.PP_JCTRL_EN p, 0)])) ∧
    (s.lane0 p = true → s.pers p = 2 →
      (s.get (Fld.PP_JSTAT_STATE p) = 0 → (s.lanes p).all (fun q => s.get (Fld.PP_STATUS_STATE q) != 0) = true → s.jesdSysref p = true →
        Gives (.jesdEnable p r) s [(Fld.PP_JCTRL_EN p, 1), (Fld.PP_JCTRL_RBD p, r % 2 ^ 16), (Fld.PP_JSTAT_STATE p, 1)]) ∧
      (s.get (Fld.PP_JSTAT_STATE p) = 0 → (s.lanes p).all (fun q => s.get (Fld.PP_STATUS_STATE q) != 0) = false → Gives (.jesdEnable p r) s [(Fld.PP_JCTRL_EN p, 1), (Fld.PP_JCTRL_RBD p, r % 2 ^ 16)]) ∧
      (s.get (Fld.PP_JSTAT_STATE p) = 1 ∨ s.get (Fld.PP_JSTAT_STATE p) = 2 → Gives (.jesdDisable p) s [(Fld.PP_JCTRL_EN p, 0), (Fld.PP_JSTAT_STATE p, 3)]))) ∧
  (∀ (p : Fin 48) (s : State), s.lane0 p = true → s.pers p = 2 →
    (s.get (Fld.PP_JSTAT_STATE p) = 1 → s.jesdSysref p = false → Gives (.jesdTxFramingStart p) s [(Fld.PP_EVT_JCFG_ERR p, 1)]) ∧
    (s.get (Fld.PP_JSTAT_STATE p) = 1 → s.jesdSysref p = true → s.lemc p s.tick 0 = true → Gives (.jesdTxFramingStart p) s [(Fld.PP_JSTAT_STATE p, 2), (Fld.PP_EVT_JLOCK p, 1)]) ∧
    (s.get (Fld.PP_JSTAT_STATE p) = 1 → s.jesdSysref p = true → s.lemc p s.tick 0 = false → Keeps (.jesdTxFramingStart p) s) ∧
    (s.get (Fld.PP_JSTAT_STATE p) = 3 → s.is (Fld.PP_JCTRL_EN p) = false → Gives (.jesdTxStopDone p) s [(Fld.PP_JSTAT_STATE p, 0)]) ∧
    (s.get (Fld.PP_JSTAT_STATE p) = 3 → s.is (Fld.PP_JCTRL_EN p) = true → s.jesdSysref p = true → Gives (.jesdTxStopDone p) s [(Fld.PP_JSTAT_STATE p, 1)]) ∧
    (s.get (Fld.PP_JSTAT_STATE p) ≠ 3 → Keeps (.jesdTxStopDone p) s))

/-- The states of a JESD204C receiver, its losses and its CRC errors. A receiver in BLOCK that all lanes lock goes to EXT with its
lanes marked locked; the end of a multiblock takes it to release; its release tick takes it to RUN with JLOCK, or reports JLATE
when a lane is late. A loss returns it to BLOCK with JLOSS, the lane unlocked, 16 errors counted and the port's FAULT reason
set. A CRC error in RUN is counted and reported. A stopped receiver that reaches OFF enters BLOCK where EN is set. None of these
changes a receiver that is stopping or in another state. (R256, R261, R262, R264, R267, R283, 08_pattern_and_converter_ports.md) -/
def Obligations.JesdReceivers : Prop :=
  (∀ (p : Fin 48) (s : State),
    (s.jrx p [4] = true → Gives (.jesdRxBlockLock p) s [(Fld.PP_JSTAT_STATE p, 5), (Fld.PP_JSTAT_LANE_LOCK p, (2 ^ (s.lanes p).length - 1) % 2 ^ 8)]) ∧ (s.jrx p [4] = false → Keeps (.jesdRxBlockLock p) s) ∧
    (s.jrx p [5] = true → Gives (.jesdRxMblkFound p) s [(Fld.PP_JSTAT_STATE p, 6)]) ∧ (s.jrx p [5] = false → Keeps (.jesdRxMblkFound p) s) ∧
    (∀ late : Bool, s.jrx p [6] = false → Keeps (.jesdRxRelease p late) s) ∧
    (s.jrx p [6] = true → s.jesdSysref p = false → Gives (.jesdRxRelease p true) s [(Fld.PP_EVT_JCFG_ERR p, 1)]) ∧
    (s.jrx p [6] = true → s.jesdSysref p = true → s.lemc p s.tick (8 * s.get (Fld.PP_JCTRL_RBD p)) = true →
      Gives (.jesdRxRelease p true) s [(Fld.PP_EVT_JLATE p, 1)] ∧
      Does (.jesdRxRelease p false) s [] (fun k => k.r == .COR_IN_STAT) [(Fld.PP_JSTAT_STATE p, 7), (Fld.PP_EVT_JLOCK p, 1)] (fun _ => True)) ∧
    (∀ lane : Fin 8, (s.jrx p [5, 6, 7] = false → Keeps (.jloss p lane) s) ∧
      (s.jrx p [5, 6, 7] = true → Does (.jloss p lane) s [.edges, .arcBuf] (fun k => archiveLoss k || parkOfPort p k || among [.COR_GRP_EVT, .COR_GRP_STATUS, .COR_IN_STAT, .IC_LDG, .L_COR_RAMP, .L_COR_W0, .L_COR_ZERO, .REEL] k)
        [(Fld.PP_JSTAT_STATE p, 4), (Fld.PP_EVT_JLOSS p, 1), (Fld.PP_JSTAT_LANE_LOCK p, putBit (s.get (Fld.PP_JSTAT_LANE_LOCK p)) lane false), (Fld.PP_JERR_SH_ERR p, min (s.get (Fld.PP_JERR_SH_ERR p) + 16) 65535)]
        (fun t => (t.get (Fld.PP_PARK_SRC_REASON p)).testBit pkFault = true))) ∧
    (s.jrx p [7] = true → Does (.jcrc p) s [] (fun k => k.r == .COR_IN_STAT) [(Fld.PP_JERR_CRC p, min (s.get (Fld.PP_JERR_CRC p) + 1) 65535), (Fld.PP_EVT_JCRC p, 1)]
      (fun t => ∀ i ∈ s.jrxInputs p, t.is (Fld.COR_IN_STAT_FLAG i) = true)) ∧ (s.jrx p [7] = false → Keeps (.jcrc p) s) ∧
    (s.lane0 p = true → s.pers p = 3 → s.is (Lat.JRX_STOP p) = true → Gives (.jesdRxOffReached p) s [(Lat.JRX_STOP p, 0), (Fld.PP_JSTAT_LANE_LOCK p, 0), (Fld.PP_JSTAT_STATE p, 4 * s.get (Fld.PP_JCTRL_EN p))]) ∧
    (s.is (Lat.JRX_STOP p) = false → Keeps (.jesdRxOffReached p) s))

/-- Powering a time-interval unit up and down. On a unit no service holds, TIU_ENABLE sets EN, starts an OFF unit once the time base
has released, and queues a restart in STOPPING; TIU_DISABLE clears EN and a queued restart, and stops a powered unit with its
measurement discarded. A reserved unit ignores both with RSV_REFUSED. The lock of the loop takes LOCKING to IDLE with the
uniform table. The end of a stop gives OFF, or LOCKING where a restart waits and may start. (R287, R289, R293, R294, R301, R449,
10_time_interval_units.md) -/
def Obligations.TiuStates : Prop :=
  (∀ (k : Fin 24) (s : State), s.hostOpen = true → s.reserved k = true → Gives (.tiuEnable k) s [(Fld.TIU_EVT_RSV_REFUSED k, 1)] ∧ Gives (.tiuDisable k) s [(Fld.TIU_EVT_RSV_REFUSED k, 1)]) ∧
  (∀ (k : Fin 24) (s : State), s.hostOpen = true → s.reserved k = false →
    let st := s.get (Fld.TIU_STATUS_STATE k)
    (st = 0 → s.is Lat.TB_EVER = true → s.unitsPowered = true → Gives (.tiuEnable k) s [(Fld.TIU_CTRL_EN k, 1), (Fld.TIU_STATUS_STATE k, 1)]) ∧
    (st = 0 → s.is Lat.TB_EVER = false ∨ s.unitsPowered = false → Gives (.tiuEnable k) s [(Fld.TIU_CTRL_EN k, 1)]) ∧
    (st = 6 → Gives (.tiuEnable k) s [(Fld.TIU_CTRL_EN k, 1), (Fld.TIU_STATUS_RESTART_PENDING k, 1), (Fld.TIU_EVT_RESTART_QUEUED k, 1)]) ∧
    (1 ≤ st → st ≤ 5 → Gives (.tiuEnable k) s [(Fld.TIU_CTRL_EN k, 1)]) ∧
    (st = 0 ∨ st = 6 → Gives (.tiuDisable k) s [(Fld.TIU_CTRL_EN k, 0), (Fld.TIU_STATUS_RESTART_PENDING k, 0)]) ∧
    (1 ≤ st → st ≤ 5 → Does (.tiuDisable k) s [.measures] (fun _ => false) [(Fld.TIU_CTRL_EN k, 0), (Fld.TIU_STATUS_RESTART_PENDING k, 0), (Fld.TIU_STATUS_STATE k, 6)]
      (fun t => t.measures = s.measures.filter (fun m => m.tiu != (k : Nat))))) ∧
  (∀ (k : Fin 24) (s : State),
    (s.get (Fld.TIU_STATUS_STATE k) = 1 → Does (.tiuDllLock k) s [.tables] (fun x => x.r == .TIU_TAP && x.i == (k : Nat)) [(Fld.TIU_STATUS_DLL_LOCK k, 1), (Fld.TIU_STATUS_STATE k, 2), (Fld.TIU_STATUS_CAL_VALID k, 0),
      (Lat.TIU_BOFS k, 0)] (fun t => (∀ j < 128, t.get (Fld.TIU_TAP_W_EVEN k j) = regReset (Fld.TIU_TAP_W_EVEN k j) ∧ t.get (Fld.TIU_TAP_W_ODD k j) = regReset (Fld.TIU_TAP_W_ODD k j)) ∧
        t.tables = s.tables.filter (fun x => x.tiu != (k : Nat)))) ∧
    (s.get (Fld.TIU_STATUS_STATE k) = 0 ∨ s.get (Fld.TIU_STATUS_STATE k) = 6 → Keeps (.tiuDllLock k) s) ∧
    (s.get (Fld.TIU_STATUS_STATE k) = 6 → Gives (.tiuStopDone k) s [(Fld.TIU_STATUS_DLL_LOCK k, 0), (Fld.TIU_STATUS_RESTART_PENDING k, 0), (Lat.TIU_CAL_BUSY k, 0),
      (Fld.TIU_STATUS_STATE k, if s.is (Fld.TIU_STATUS_RESTART_PENDING k) && s.is (Fld.TIU_CTRL_EN k) && s.is Lat.TB_EVER && s.unitsPowered then 1 else 0)]) ∧
    (s.get (Fld.TIU_STATUS_STATE k) ≠ 6 → Keeps (.tiuStopDone k) s))

/-- Arming a measurement, its start tick and its abort. An accepted ARM of a locked unit in IDLE or DONE enters ARMED with a
measurement whose T0 is TIU_AT, or the next word boundary for 0 and for the task. A refused ARM sets ARM_REFUSED, with the
reason in REFUSE when the host asked; a reserved unit reports the write as well. At T0 an ARMED unit enters RUN. An abort drops
the measurement and returns to IDLE. (R293, R295, R301, R315, 10_time_interval_units.md) -/
def Obligations.TiuArming : Prop :=
  (∀ (k : Fin 24) (s : State), s.hostOpen = true →
    let at_ := s.get2 (Fld.TIU_AT_LO k) (Fld.TIU_AT_HI k)
    (s.armRefusal k at_ = 0 → s.tables.all (fun t => t.tiu != (k : Nat)) = true → Does (.tiuArm k) s [.measures] (fun _ => false) [(Fld.TIU_STATUS_STATE k, 3), (Fld.TIU_RUN_LO k, 0), (Fld.TIU_RUN_HI k, 0)]
      (fun t => t.meas k = some { tiu := k, t0 := if at_ = 0 then wordNext s.tick else at_, est := !s.is (Fld.TIU_STATUS_CAL_VALID k), stale := s.tableStale k } ∧ ∀ j, j ≠ (k : Nat) → t.meas j = s.meas j)) ∧
    (s.armRefusal k at_ ≠ 0 → s.reserved k = false → Gives (.tiuArm k) s [(Fld.TIU_EVT_ARM_REFUSED k, 1), (Fld.TIU_STATUS_REFUSE k, s.armRefusal k at_)]) ∧
    (s.reserved k = true → Gives (.tiuArm k) s [(Fld.TIU_EVT_RSV_REFUSED k, 1), (Fld.TIU_EVT_ARM_REFUSED k, 1), (Fld.TIU_STATUS_REFUSE k, 4)] ∧ Gives (.tiuAbort k) s [(Fld.TIU_EVT_RSV_REFUSED k, 1)] ∧
      Gives (.tiuReservedWrite k false) s [(Fld.TIU_EVT_RSV_REFUSED k, 1)] ∧
      Gives (.tiuReservedWrite k true) s [(Fld.TIU_EVT_RSV_REFUSED k, 1), (Fld.TIU_EVT_ARM_REFUSED k, 1), (Fld.TIU_STATUS_REFUSE k, 4)]) ∧
    (s.reserved k = false → 3 ≤ s.get (Fld.TIU_STATUS_STATE k) → s.get (Fld.TIU_STATUS_STATE k) ≤ 5 → Does (.tiuAbort k) s [.measures] (fun _ => false) [(Fld.TIU_STATUS_STATE k, 2)]
      (fun t => t.measures = s.measures.filter (fun m => m.tiu != (k : Nat)))) ∧
    (s.reserved k = false → s.get (Fld.TIU_STATUS_STATE k) < 3 ∨ s.get (Fld.TIU_STATUS_STATE k) = 6 → Keeps (.tiuAbort k) s)) ∧
  (∀ (k : Fin 24) (s : State), ∀ g, s.waiting (200 + k) false = some g →
    (s.armRefusal k 0 = 0 → s.tables.all (fun t => t.tiu != (k : Nat)) = true → Does (.tiuArmTask k) s [.measures, .triggers] (fun _ => false) [(Fld.TIU_STATUS_STATE k, 3), (Fld.TIU_RUN_LO k, 0), (Fld.TIU_RUN_HI k, 0)]
      (fun t => t.triggers = s.without g ∧ (t.meas k).map (·.t0) = some (wordNext s.tick))) ∧
    (s.armRefusal k 0 ≠ 0 → Does (.tiuArmTask k) s [.triggers] (fun _ => false) [(Fld.TIU_EVT_ARM_REFUSED k, 1)] (fun t => t.triggers = s.without g))) ∧
  (∀ (k : Fin 24) (s : State), ∀ m, s.meas k = some m →
    (s.get (Fld.TIU_STATUS_STATE k) = 3 → m.t0 ≤ s.tick → Gives (.tiuT0 k) s [(Fld.TIU_STATUS_STATE k, 4)]) ∧ (s.tick < m.t0 → Keeps (.tiuT0 k) s))

/-- Edges, the end of a measurement and the tap table. In RUN, an edge of the start input that comes at least 16 ticks after the
last opens an interval, and one of the stop input closes it, adding its length to the sums; an edge of frequency mode counts. A
measurement that is full or past its limit latches its results, with TIMEOUT only for an incomplete interval measurement, and
enters DONE. A code-density run starts on a locked unit that is due; its result sets the table at once where nothing is
measured. (R286, R288, R289, R292, R296, R297, R298, R299, 10_time_interval_units.md) -/
def Obligations.TiuStampsAndTable : Prop :=
  (∀ (k : Fin 24) (q : Fin 128) (s : State), ∀ m, s.meas k = some m → m.tiu = k → s.get (Fld.TIU_STATUS_STATE k) = 4 → s.stamps k = true → m.rate = false → m.n < s.tiuWanted k → s.tiuLimit k m.t0 = none →
    s.get (Fld.TIU_SRC_START_SEL k) ≠ s.get (Fld.TIU_SRC_STOP_SEL k) →
    let a := s.stampOf k 0 q (s.get (Fld.TIU_SRC_START_SEL k))
    let b := s.stampOf k 1 q (s.get (Fld.TIU_SRC_STOP_SEL k))
    (s.is (Fld.TIU_CFG_MODE k) = false → m.t0 * 65536 ≤ a → m.lastA = none → m.opened = none → m.lastStop = none → m.lastStart = none → m.first = none →
      Does (.tiuEdge k 0 q) s [.measures] (fun _ => false) [] (fun t => t.meas k = some { m with lastA := some a, unref := m.unref || s.unref, opened := some a, lastStart := some a, first := some a })) ∧
    (s.is (Fld.TIU_CFG_MODE k) = false → m.t0 * 65536 ≤ b → m.lastB = none → ∀ v, m.opened = some v → v ≤ b →
      Does (.tiuEdge k 1 q) s [.measures] (fun _ => false) [] (fun t => (t.meas k).map (fun x => (x.opened, x.n, x.isum)) = some (none, m.n + 1, m.isum + (b - v)))) ∧
    (s.is (Fld.TIU_CFG_MODE k) = true → m.t0 * 65536 ≤ a → m.edges < 2 ^ 40 → Does (.tiuEdge k 0 q) s [.measures] (fun _ => false)
      [(Fld.TIU_RUN_LO k, (m.edges + 1) % 2 ^ 32), (Fld.TIU_RUN_HI k, (m.edges + 1) / 2 ^ 32)] (fun t => (t.meas k).map (·.edges) = some (m.edges + 1)))) ∧
  (∀ (k : Fin 24) (l : Fin 2) (q : Fin 128) (s : State), s.get (Fld.TIU_STATUS_STATE k) ≠ 4 ∨ s.stamps k = false ∨ s.meas k = none → Keeps (.tiuEdge k l q) s) ∧
  (∀ (k : Fin 24) (s : State), ∀ m, s.meas k = some m →
    let full := m.rate = true ∨ s.tiuWanted k ≤ m.n
    let limit := ∃ e ∈ s.tiuLimit k m.t0, e ≤ s.tick
    (s.get (Fld.TIU_STATUS_STATE k) = 4 → full ∨ limit → Does (.tiuDone k) s [.measures, .edges] (amongAt [.TIU_FREQ_EXP, .TIU_FREQ_RATIO_HI, .TIU_FREQ_RATIO_LO, .TIU_IMAX_HI, .TIU_IMAX_LO, .TIU_IMIN_HI, .TIU_IMIN_LO,
        .TIU_START, .TIU_STOP, .TIU_SUM_T, .TIU_SUM_IT, .TIU_EVT, .TIU_RSTAT] k)
      [(Fld.TIU_STATUS_STATE k, 5), (Fld.TIU_EVT_DONE k, 1), (Fld.TIU_RSTAT_N k, m.n % 2 ^ 21), (Fld.TIU_RSTAT_BROKEN k, 0), (Fld.TIU_RSTAT_EST k, m.est.toNat), (Fld.TIU_RSTAT_UNREF k, m.unref.toNat),
        (Fld.TIU_OVERRUN k, min m.overrun 65535), (Fld.TIU_ISUM_LO k, ux 64 m.isum % 2 ^ 32), (Fld.TIU_ISUM_HI k, ux 64 m.isum / 2 ^ 32)]
      (fun t => t.meas k = none ∧ (full → t.is (Fld.TIU_RSTAT_TIMEOUT k) = false) ∧ (¬full → s.is (Fld.TIU_CFG_MODE k) = false → t.is (Fld.TIU_RSTAT_TIMEOUT k) = true ∧ t.is (Fld.TIU_EVT_TIMEOUT k) = true))) ∧
    (s.get (Fld.TIU_STATUS_STATE k) ≠ 4 → Keeps (.tiuDone k) s)) ∧
  (∀ (k : Fin 24) (h : Bool) (s : State),
    (s.is (Fld.TIU_STATUS_DLL_LOCK k) = true → h = true ∨ s.is (Fld.TIU_STATUS_CAL_VALID k) = false → Gives (.tiuCalRun k h) s [(Lat.TIU_CAL_BUSY k, 1)]) ∧
    (s.is (Fld.TIU_STATUS_DLL_LOCK k) = false → Keeps (.tiuCalRun k h) s)) ∧
  (∀ (k : Fin 24) (a b : List Nat) (o : Int) (s : State),
    (s.is (Lat.TIU_CAL_BUSY k) = false → Keeps (.tiuCalComplete k a b o) s) ∧
    (s.is (Lat.TIU_CAL_BUSY k) = true → a.foldl (· + ·) 0 = 2 ^ 20 → b.foldl (· + ·) 0 = 2 ^ 20 →
      let done : List (Key × Nat) := [(Lat.TIU_CAL_BUSY k, 0), (Fld.TIU_EVT_CAL_DONE k, 1), (Lat.TIU_CAL_AT k, s.tick % 2 ^ 64), (Fld.TIU_CAL_STAT_TJ k, s.get (Fld.SYS_TJ_TJ (k / 3))), (Fld.TIU_CAL_STAT_AGE k, 0)]
      (s.meas k ≠ none → Does (.tiuCalComplete k a b o) s [.tables] (fun _ => false) done (fun t => t.tables.find? (fun x => x.tiu == (k : Nat)) = some ⟨k, tapWidths a ++ tapWidths b, o⟩)) ∧
      (s.meas k = none → Does (.tiuCalComplete k a b o) s [.tables] (fun x => x.r == .TIU_TAP && x.i == (k : Nat)) (done ++ [(Fld.TIU_STATUS_CAL_VALID k, 1), (Lat.TIU_BOFS k, ux 17 o)])
        (fun t => (∀ j < 64, t.get (Fld.TIU_TAP_W_EVEN k j) = (tapWidths a).getD (2 * j) 0 % 2 ^ 16 ∧ t.get (Fld.TIU_TAP_W_ODD k (64 + j)) = (tapWidths b).getD (2 * j + 1) 0 % 2 ^ 16)))))

/-- The commands of a correction group. On a defined group none of whose drive destinations stands under PARK_N or TRIP: START in
OFF clears the averages and enters ESTIMATE, or is refused where a drive or the store is not ready; in STOPPING it queues; in
ABORTING and ABORTED it is refused. CLOSE, HOLD, RESUME and CLEAR change the state only from their own; CLOSE needs H_VALID.
STOP in a running state starts the ramp into STOPPING, ABORT the ramp into ABORTING with cause HOST; elsewhere both only cancel
a queued START. REF_SWAP acts at once in OFF. Two commands in one write are refused, and a group the image does not define is
out of scope. (R34, R268, R278, R282, R283, R284, R285, 09_response_correction.md) -/
def Obligations.CorrectorCommands : Prop :=
  (∀ (g : Fin 4) (s : State), s.hostOpen = true →
    (Gives (.corStart g true) s [(Fld.COR_GRP_EVT_REFUSED g, 1)] ∧ Gives (.corClose g true) s [(Fld.COR_GRP_EVT_REFUSED g, 1)] ∧ Gives (.corHold g true) s [(Fld.COR_GRP_EVT_REFUSED g, 1)] ∧
      Gives (.corResume g true) s [(Fld.COR_GRP_EVT_REFUSED g, 1)] ∧ Gives (.corStop g true) s [(Fld.COR_GRP_EVT_REFUSED g, 1)] ∧ Gives (.corAbort g true) s [(Fld.COR_GRP_EVT_REFUSED g, 1)] ∧
      Gives (.corClear g true) s [(Fld.COR_GRP_EVT_REFUSED g, 1)] ∧ Gives (.corRefSwap g true) s [(Fld.COR_GRP_EVT_REFUSED g, 1)]) ∧
    (s.is (Fld.COR_GRP_CFG_VALID g) = false → s.is (Fld.LDG_ACTIVE 16) = false → let bad := fun (t : State) => Raised s t 16 (unitGroup g) (0xD000C + 0x1000 * g)
      Does (.corStart g false) s [.arcBuf] (fun x => ledgerOf 16 x || archiveLoss x) [] bad ∧
      Does (.corClose g false) s [.arcBuf] (fun x => ledgerOf 16 x || archiveLoss x) [] bad ∧
      Does (.corHold g false) s [.arcBuf] (fun x => ledgerOf 16 x || archiveLoss x) [] bad ∧
      Does (.corResume g false) s [.arcBuf] (fun x => ledgerOf 16 x || archiveLoss x) [] bad ∧
      Does (.corStop g false) s [.arcBuf] (fun x => ledgerOf 16 x || archiveLoss x) [] bad ∧
      Does (.corAbort g false) s [.arcBuf] (fun x => ledgerOf 16 x || archiveLoss x) [] bad ∧
      Does (.corClear g false) s [.arcBuf] (fun x => ledgerOf 16 x || archiveLoss x) [] bad ∧
      Does (.corRefSwap g false) s [.arcBuf] (fun x => ledgerOf 16 x || archiveLoss x) [] bad) ∧
    (∀ v : Nat, v < 2 ^ 32 → Gives (.corLevelWrite g v) s [(Fld.COR_LEVEL g, v % 2 ^ 16), (Fld.COR_GRP_STATUS_SETTLED g, 0), (Lat.COR_CTL g, 0)])) ∧
  (∀ (g : Fin 4) (s : State), s.hostOpen = true → s.is (Fld.COR_GRP_CFG_VALID g) = true → s.corHardParked g = false →
    let st := s.get (Fld.COR_GRP_STATUS_STATE g)
    let queued := s.is (Fld.COR_GRP_STATUS_RESTART_PENDING g)
    let fresh : List (Key × Nat) := [(Fld.COR_GRP_STATUS_STATE g, 1), (Fld.COR_GRP_EVT_STATE_CHG g, 1), (Fld.COR_GRP_STATUS_RESTART_PENDING g, 0), (Lat.COR_FRAMES g, 0), (Lat.COR_CTL g, 0), (Lat.COR_DUE g, 0), (Lat.COR_BUSY g, 0), (Lat.COR_RAMP g, 0), (Lat.COR_ZERO g, 0),
      (Fld.COR_GRP_STATUS_SETTLED g, 0), (Fld.COR_GRP_STATUS_ALARM g, 0), (Fld.COR_CNT_UPD g, 0), (Fld.COR_CNT_DISCARD g, 0)]
    (st = 0 → queued = false → s.corReady g = true → s.hostEstimate g = false →
      Does (.corStart g false) s [.mem] (fun _ => false) (fresh ++ [(Fld.COR_GRP_STATUS_H_VALID g, 0)]) (fun t => (Memory.read t.mem (s.storeBase g)).toNat = (Memory.read s.mem (s.storeBase g)).toNat / 2 * 2 ∧
        ∀ a < 0x1000000000, a ≠ s.storeBase g → Memory.read t.mem a = Memory.read s.mem a)) ∧
    (st = 0 → queued = false → s.corReady g = true → s.hostEstimate g = true → Gives (.corStart g false) s (fresh ++ [(Fld.COR_GRP_STATUS_H_VALID g, (Memory.read s.mem (s.storeBase g)).toNat % 2)])) ∧
    (st = 0 → queued = false → s.corReady g = false → Gives (.corStart g false) s [(Fld.COR_GRP_EVT_REFUSED g, 1), (Fld.COR_GRP_STATUS_RESTART_PENDING g, 0)]) ∧
    (st = 0 → queued = true → Keeps (.corStart g false) s) ∧
    (st = 4 → Gives (.corStart g false) s [(Fld.COR_GRP_STATUS_RESTART_PENDING g, 1), (Fld.COR_GRP_EVT_RESTART_QUEUED g, 1)]) ∧
    (st = 5 ∨ st = 6 → Gives (.corStart g false) s [(Fld.COR_GRP_EVT_REFUSED g, 1)]) ∧
    (st = 1 → s.is (Fld.COR_GRP_STATUS_H_VALID g) = true → Gives (.corClose g false) s [(Fld.COR_GRP_STATUS_STATE g, 2), (Fld.COR_GRP_EVT_STATE_CHG g, 1), (Fld.COR_GRP_STATUS_SETTLED g, 0), (Lat.COR_CTL g, 0), (Lat.COR_DUE g, 0)]) ∧
    (st = 1 → s.is (Fld.COR_GRP_STATUS_H_VALID g) = false → Gives (.corClose g false) s [(Fld.COR_GRP_EVT_REFUSED g, 1)]) ∧
    (st = 2 → Does (.corHold g false) s [.engines] (fun x => x.r == .TL_VSTG_PEND) [(Fld.COR_GRP_STATUS_STATE g, 3), (Fld.COR_GRP_EVT_STATE_CHG g, 1), (Lat.COR_BUSY g, 0), (Lat.COR_DUE g, 0)]
      (fun t => ∀ r ∈ s.drives g, (t.eng r).staged = [] ∧ (t.eng r).pendingSet = [] ∧ t.bit (Fld.TL_VSTG_PEND (tileOfReel r)) (r % 128) = false)) ∧
    (st = 3 → Gives (.corResume g false) s [(Fld.COR_GRP_STATUS_STATE g, 2), (Fld.COR_GRP_EVT_STATE_CHG g, 1)]) ∧
    (st = 6 → Gives (.corClear g false) s [(Fld.COR_GRP_STATUS_STATE g, 0), (Fld.COR_GRP_EVT_STATE_CHG g, 1), (Fld.COR_GRP_STATUS_ABORT_CAUSE g, 0), (Lat.COR_ZERO g, 0)]) ∧
    ((st ≠ 1 → Keeps (.corClose g false) s) ∧ (st ≠ 2 → Keeps (.corHold g false) s) ∧ (st ≠ 3 → Keeps (.corResume g false) s) ∧ (st ≠ 6 → Keeps (.corClear g false) s)) ∧
    (1 ≤ st → st ≤ 3 → Gives (.corStop g false) s [(Fld.COR_GRP_STATUS_STATE g, 4), (Fld.COR_GRP_EVT_STATE_CHG g, 1), (Lat.COR_W0 g, wordUp (s.tick + 64) % 2 ^ 64), (Lat.COR_RAMP g, 1)]) ∧
    (1 ≤ st → st ≤ 3 → Does (.corAbort g false) s [.edges, .arcBuf] (fun x => ledgerOf 25 x || archiveLoss x)
      [(Fld.COR_GRP_STATUS_STATE g, 5), (Fld.COR_GRP_EVT_STATE_CHG g, 1), (Fld.COR_GRP_STATUS_ABORT_CAUSE g, 4), (Fld.COR_GRP_EVT_ABORT g, 1), (Lat.COR_W0 g, wordUp (s.tick + 64) % 2 ^ 64), (Lat.COR_RAMP g, 1)]
      (fun t => s.is (Fld.LDG_ACTIVE 25) = false → Raised s t 25 (unitGroup g) (g + 4 * 2 ^ 8))) ∧
    (st = 0 ∨ 4 ≤ st → Gives (.corStop g false) s [(Fld.COR_GRP_STATUS_RESTART_PENDING g, 0)] ∧ Gives (.corAbort g false) s [(Fld.COR_GRP_STATUS_RESTART_PENDING g, 0)]) ∧
    (st = 0 → Gives (.corRefSwap g false) s [(Lat.COR_SWAP g, 0), (Fld.COR_GRP_EVT_REF_SWAPPED g, 1), (Fld.COR_GRP_STATUS_REF_ACTIVE g, 1 - s.get (Fld.COR_GRP_STATUS_REF_ACTIVE g))]) ∧
    (st ≠ 0 → Gives (.corRefSwap g false) s [(Lat.COR_SWAP g, 1)])) ∧
  (∀ (g : Fin 4) (s : State), s.is (Fld.COR_GRP_CFG_VALID g) = true → s.corHardParked g = false → s.corRunning g = true →
    (∀ x, s.waiting (224 + g) false = some x → Does (.corAbortTask g) s [.edges, .arcBuf, .triggers] (fun x => ledgerOf 25 x || archiveLoss x)
      [(Fld.COR_GRP_STATUS_STATE g, 5), (Fld.COR_GRP_EVT_STATE_CHG g, 1), (Fld.COR_GRP_STATUS_ABORT_CAUSE g, 4), (Fld.COR_GRP_EVT_ABORT g, 1), (Lat.COR_W0 g, wordUp (s.tick + 64) % 2 ^ 64), (Lat.COR_RAMP g, 1)]
      (fun t => t.triggers = s.without x)) ∧
    (∀ x, s.waiting (228 + g) false = some x → Does (.corStopTask g) s [.triggers] (fun _ => false)
      [(Fld.COR_GRP_STATUS_STATE g, 4), (Fld.COR_GRP_EVT_STATE_CHG g, 1), (Lat.COR_W0 g, wordUp (s.tick + 64) % 2 ^ 64), (Lat.COR_RAMP g, 1)] (fun t => t.triggers = s.without x))) ∧
  (∀ (g : Fin 4) (s : State), s.hostOpen = true → s.is (Fld.COR_GRP_CFG_VALID g) = true → s.corHardParked g = true → s.corRunning g = true →
    Does (.corRefSwap g false) s [.edges, .arcBuf] (fun x => ledgerOf 25 x || archiveLoss x || (s.drives g).any (fun r => x == Fld.REEL_STOP_TICK_LO r || x == Fld.REEL_STOP_TICK_HI r))
      [(Lat.COR_SWAP g, 1), (Fld.COR_GRP_STATUS_STATE g, 6), (Fld.COR_GRP_EVT_STATE_CHG g, 1), (Fld.COR_GRP_STATUS_ABORT_CAUSE g, 9), (Fld.COR_GRP_EVT_ABORT g, 1), (Lat.COR_ZERO g, 1), (Lat.COR_RAMP g, 0), (Fld.COR_GRP_STATUS_RESTART_PENDING g, 0)] (fun _ => True))

/-- Frames, blocks, updates and the ramp of a correction group. A RANDOM group that runs discards and counts a frame that R272
excludes; an uncorrectable store read aborts it with cause STORE; an accepted frame in ESTIMATE counts towards H_VALID; a SINE
block does the same. A due update commits a PSD_SWAP to every drive and occupies the group until it has latched. At W_0 the ramp
runs and pending drive updates are gone; at its end every drive has a stop request and the group is OFF or ABORTED. A slice
fault aborts the groups that use it with cause SLICE. (R270, R272, R274, R275, R276, R278, R279, R282, R283, R284,
09_response_correction.md) -/
def Obligations.CorrectorFrames : Prop :=
  (∀ (g : Fin 4) (sat flagged : Nat) (gap ecc : Bool) (errs : List (List Int)) (rms : List Int) (cur tag : Int) (tag32 : Nat) (store : List (Nat × List (BitVec 8))) (upd : List (Nat × Nat × Int)) (s : State),
    let st := s.get (Fld.COR_GRP_STATUS_STATE g)
    let sine := s.is (Fld.COR_GRP_CFG_MODE g)
    let flags := fun (x : Key) => (s.responses g sat).any (fun i => x == Fld.COR_IN_STAT_SAT i) || (s.responses g flagged).any (fun i => x == Fld.COR_IN_STAT_FLAG i)
    let marked := fun (t : State) => (∀ i ∈ s.responses g sat, t.is (Fld.COR_IN_STAT_SAT i) = true) ∧ (∀ i ∈ s.responses g flagged, t.is (Fld.COR_IN_STAT_FLAG i) = true)
    let lost : List (Key × Nat) := [(Fld.COR_CNT_DISCARD g, min (s.get (Fld.COR_CNT_DISCARD g) + 1) 0xFFFF), (Fld.COR_GRP_EVT_DISCARD g, 1)]
    let stored : List (Key × Nat) := [(Fld.COR_GRP_STATUS_STATE g, 5), (Fld.COR_GRP_EVT_STATE_CHG g, 1), (Fld.COR_GRP_STATUS_ABORT_CAUSE g, 10), (Fld.COR_GRP_EVT_ABORT g, 1), (Lat.COR_W0 g, wordUp (s.tick + 64) % 2 ^ 64), (Lat.COR_RAMP g, 1)]
    (st = 0 ∨ 4 ≤ st ∨ sine = true → Keeps (.corFrameClose g sat flagged gap ecc errs rms cur tag tag32 store) s) ∧
    (st = 0 ∨ 4 ≤ st ∨ sine = false → Keeps (.corBlockEnd g sat flagged gap ecc errs rms cur tag tag32 store upd) s) ∧
    (1 ≤ st → st ≤ 3 →
      (sine = false → s.corDiscards g sat flagged gap = true → Does (.corFrameClose g sat flagged gap false errs rms cur tag tag32 store) s [] flags lost marked) ∧
      (sine = true → s.corDiscards g sat flagged gap = true ∨ s.sineUnequal g = true → Does (.corBlockEnd g sat flagged gap false errs rms cur tag tag32 store upd) s [] flags lost marked) ∧
      (sine = false → Does (.corFrameClose g sat flagged gap true errs rms cur tag tag32 store) s [.edges, .arcBuf] (fun x => flags x || ledgerOf 25 x || archiveLoss x) stored
        (fun t => marked t ∧ (s.is (Fld.LDG_ACTIVE 25) = false → Raised s t 25 (unitGroup g) (g + 10 * 2 ^ 8)))) ∧
      (sine = true → Does (.corBlockEnd g sat flagged gap true errs rms cur tag tag32 store upd) s [.edges, .arcBuf] (fun x => flags x || ledgerOf 25 x || archiveLoss x) stored
        (fun t => marked t ∧ (s.is (Fld.LDG_ACTIVE 25) = false → Raised s t 25 (unitGroup g) (g + 10 * 2 ^ 8)))))) ∧
  (∀ (g : Fin 4) (errs : List (List Int)) (rms : List Int) (cur tag : Int) (tag32 : Nat) (upd : List (Nat × Nat × Int)) (s : State), s.get (Fld.COR_GRP_STATUS_STATE g) = 1 → s.corDiscards g 0 0 false = false →
    cur ≤ s.geti (Fld.COR_DRV_MAX g) → -(2 ^ 15) ≤ cur → cur < 2 ^ 15 →
    let n := min (s.get (Lat.COR_FRAMES g) + 1) (2 ^ (Lat.COR_FRAMES g).w - 1)
    let change := fun (x : Key) => x == Fld.COR_GRP_STATUS_EXTRAP g || x == Fld.COR_GRP_EVT_EXTRAP_CHG g || x == Fld.COR_GRP_STATUS_H_VALID g || x == Fld.COR_QUAL g || archiveLoss x
    let after := fun (t : State) => (s.avgCount g ≤ n → s.hostEstimate g = false → t.is (Fld.COR_GRP_STATUS_H_VALID g) = true) ∧ t.is (Fld.COR_GRP_STATUS_EXTRAP g) = decide (6 * 256 < cur - tag) ∧
      (s.is (Fld.COR_GRP_STATUS_EXTRAP g) = decide (6 * 256 < cur - tag) → t.arcBuf = s.arcBuf)
    let levels : List (Key × Nat) := [(Lat.COR_FRAMES g, n), (Fld.COR_DRV_LVL_CUR g, ux 16 cur), (Fld.COR_DRV_LVL_TAG g, ux 16 tag), (Fld.COR_GRP_STATUS_ALARM g, 0)]
    (s.is (Fld.COR_GRP_CFG_MODE g) = false → Does (.corFrameClose g 0 0 false false errs rms cur tag tag32 []) s [.mem, .arcBuf] change levels after) ∧
    (s.is (Fld.COR_GRP_CFG_MODE g) = true → s.sineUnequal g = false → Does (.corBlockEnd g 0 0 false false errs rms cur tag tag32 [] upd) s [.mem, .arcBuf] change levels after)) ∧
  (∀ (g : Fin 4) (held : List Bool) (rho : List (List (Nat × Nat))) (s : State),
    let due := s.get (Fld.COR_GRP_STATUS_STATE g) = 2 ∧ s.is (Fld.COR_GRP_CFG_MODE g) = false ∧ s.is (Lat.COR_BUSY g) = false ∧ max 1 (s.get (Fld.COR_GRP_CTRL_UPD_FRAMES g)) ≤ s.get (Lat.COR_DUE g)
    (¬due → Keeps (.corUpdate g held rho) s) ∧
    (due → s.corHardParked g = false → s.is (Lat.COR_SWAP g) = false → Does (.corUpdate g held rho) s [.sp, .engines] (fun x => x.r == .TL_VSTG_EVT || x.r == .TL_VSTG_PEND || x == Fld.COR_CNT2_HELD g || x == Fld.COR_GRP_EVT_DRIVE_LIMIT g) [(Lat.COR_DUE g, 0), (Lat.COR_BUSY g, 1)]
      (fun t => (∀ p ∈ (s.drives g).zip rho, (6, 0) ∈ (t.eng p.1).pendingSet ∧ (t.eng p.1).staged = []) ∧ (rho = [] → t.sp = s.sp ∧ t.get (Fld.COR_CNT2_HELD g) = 0)))) ∧
  (∀ (g : Fin 4) (s : State), let st := s.get (Fld.COR_GRP_STATUS_STATE g)
    (s.get (Lat.COR_RAMP g) = 1 → s.get (Lat.COR_W0 g) ≤ s.tick → Does (.rampStart g) s [.engines] (fun x => x.r == .TL_VSTG_PEND) [(Lat.COR_RAMP g, 2), (Lat.COR_BUSY g, 0)]
      (fun t => ∀ r ∈ s.drives g, (t.eng r).staged = [] ∧ (t.eng r).pendingSet = [])) ∧
    (s.get (Lat.COR_RAMP g) ≠ 1 ∨ s.tick < s.get (Lat.COR_W0 g) → Keeps (.rampStart g) s) ∧
    let e := s.get (Lat.COR_W0 g) + 8 * (max 50 (min 10000 (s.get (Fld.COR_ABT_TIME g))) * 800000)
    (s.get (Lat.COR_RAMP g) ≠ 2 ∨ s.tick < e → Keeps (.rampEnd g) s) ∧
    (s.get (Lat.COR_RAMP g) = 2 → e ≤ s.tick → st = 4 ∨ st = 5 → s.is (Fld.COR_GRP_STATUS_RESTART_PENDING g) = false → e < 2 ^ 64 →
      Does (.rampEnd g) s [.edges] (fun x => (s.drives g).any (fun r => x == Fld.REEL_STOP_TICK_LO r || x == Fld.REEL_STOP_TICK_HI r))
        [(Lat.COR_RAMP g, 0), (Fld.COR_GRP_STATUS_STATE g, if st = 4 then 0 else 6), (Fld.COR_GRP_EVT_STATE_CHG g, 1)]
        (fun t => ∀ r ∈ s.drives g, s.stoppable r = true → t.get2 (Fld.REEL_STOP_TICK_LO r) (Fld.REEL_STOP_TICK_HI r) = min e (s.get2 (Fld.REEL_STOP_TICK_LO r) (Fld.REEL_STOP_TICK_HI r))))) ∧
  (∀ (k : Fin 16) (s : State), Does (.fftSliceFault k) s [.edges, .arcBuf] (fun x => among [.COR_GRP_STATUS, .COR_GRP_EVT, .L_COR_W0, .L_COR_RAMP, .L_COR_SLICE_BAD] x || ledgerOf 25 x || archiveLoss x) []
    (fun t => ∀ g < 4, (s.get (Fld.COR_GRP_SLICE_SLICES g)).testBit k = true →
      t.is (Lat.COR_SLICE_BAD g) = true ∧ (s.corRunning g = true → t.get (Fld.COR_GRP_STATUS_STATE g) = 5 ∧ t.get (Fld.COR_GRP_STATUS_ABORT_CAUSE g) = 8 ∧ t.get (Lat.COR_RAMP g) = 1)))

/-- The cues that steer a script. Where a reel executes such a cue at a tick of its grid, NOP goes to the next cue; LOOP pushes an
entry with its body and count; NEXT repeats the body while passes remain or the loop is endless, and pops the entry after the
last; CALL pushes the next cue and goes to its target; RET pops and goes there. A full loop or call stack, and NEXT or RET on an
empty one, take the reel to FAULTED with codes 5, 7, 6 and 8. (R137, R139, R142, R143, R144, R145, R158,
04_reels_and_scripts.md) -/
def Obligations.CuesOfFlow : Prop :=
  (∀ (r : Fin 1024) (w : Nat) (s : State), let q := s.get (Fld.REEL_SP r)
    (s.cueNow r 0x00 w = true → Does (.cueNop r w) s [.engines] (stackOf r) [(Fld.REEL_SP r, (q + 1) % 65536)] (fun t => t.stacks r = s.stacks r)) ∧
    (s.cueNow r 0x08 w = true → (s.stacks r).loops.length < 4 → q < 65535 → Does (.cueLoop r w) s [.engines] (stackOf r) [(Fld.REEL_SP r, q + 1)]
      (fun t => t.stacks r = ⟨⟨decide (cueDw w 1 = 0), (s.stacks r).calls.length, q + 1, cueDw w 1 - 1⟩ :: (s.stacks r).loops, (s.stacks r).calls⟩)) ∧
    (s.cueNow r 0x09 w = true → ∀ e, (s.stacks r).loops.head? = some e → e.depth = (s.stacks r).calls.length →
      (e.inf = true → Does (.cueNext r w) s [.engines] (stackOf r) [(Fld.REEL_SP r, e.body)] (fun t => t.stacks r = s.stacks r)) ∧
      (e.inf = false → 0 < e.remain → Does (.cueNext r w) s [.engines] (stackOf r) [(Fld.REEL_SP r, e.body)]
        (fun t => (t.stacks r).loops = { e with remain := e.remain - 1 } :: (s.stacks r).loops.tail ∧ (t.stacks r).calls = (s.stacks r).calls)) ∧
      (e.inf = false → e.remain = 0 → Does (.cueNext r w) s [.engines] (stackOf r) [(Fld.REEL_SP r, (q + 1) % 65536)]
        (fun t => (t.stacks r).loops = (s.stacks r).loops.tail ∧ (t.stacks r).calls = (s.stacks r).calls))) ∧
    (s.cueNow r 0x0A w = true → (s.stacks r).calls.length < 4 → q < 65535 → Does (.cueCall r w) s [.engines] (stackOf r) [(Fld.REEL_SP r, cueDw w 1 % 65536)]
      (fun t => (t.stacks r).loops = (s.stacks r).loops ∧ (t.stacks r).calls = (q + 1) :: (s.stacks r).calls)) ∧
    (s.cueNow r 0x0B w = true → (s.stacks r).loops = [] → ∀ c, (s.stacks r).calls.head? = some c → Does (.cueRet r w) s [.engines] (stackOf r) [(Fld.REEL_SP r, c)]
      (fun t => (t.stacks r).loops = [] ∧ (t.stacks r).calls = (s.stacks r).calls.tail))) ∧
  (∀ (r : Fin 1024) (w : Nat) (s : State), let q := s.get (Fld.REEL_SP r)
    let parts : List Part := [.loans, .engines, .heads, .edges, .arcBuf]
    let regs := fun (x : Key) => among [.CAL_CH_STATUS, .CAL_EVT, .CAL_STATUS, .COR_GRP_EVT, .COR_GRP_STATUS, .IC_ARC_EVT, .IC_ARC_LOST, .IC_LDG, .L_CAL_RUN, .L_COR_RAMP, .L_COR_W0, .L_COR_ZERO, .L_STRM_RET, .REEL, .TL_CUT_EVT,
      .TL_HEAD_MISS, .TL_HEAD_STATUS, .TL_LATE_CNT, .TL_LATE_LAST, .TL_LATE_WORDS_HI, .TL_LATE_WORDS_LO, .TL_REEL_ACTIVE, .TL_REEL_EVT, .TL_REEL_FAULTED, .TL_REEL_FLT_LAST, .TL_VSTG_EVT, .TL_VSTG_PEND] x
    let faulted := fun (code : Nat) => [(Fld.REEL_STATE r, 6), (Fld.REEL_FAULT r, code), (Fld.REEL_SP r, q), (Fld.TL_REEL_EVT_FAULT (tileOfReel r), 1), (Fld.TL_REEL_FLT_LAST_CODE (tileOfReel r), code), (Fld.TL_REEL_FLT_LAST_REEL (tileOfReel r), r % 128)]
    (s.cueNow r 0x08 w = true → 4 ≤ (s.stacks r).loops.length → Does (.cueLoop r w) s parts regs (faulted 5) (fun t => (t.eng r).window = [])) ∧
    (s.cueNow r 0x09 w = true → (s.stacks r).loops = [] → Does (.cueNext r w) s parts regs (faulted 6) (fun t => (t.eng r).window = [])) ∧
    (s.cueNow r 0x0A w = true → 4 ≤ (s.stacks r).calls.length → Does (.cueCall r w) s parts regs (faulted 7) (fun t => (t.eng r).window = [])) ∧
    (s.cueNow r 0x0B w = true → (s.stacks r).calls = [] → Does (.cueRet r w) s parts regs (faulted 8) (fun t => (t.eng r).window = [])))

/-- The cues that change a reel, its channel or the archive. Where a reel executes such a cue at a tick of its grid, it goes to the
next cue, and: CUTIF arms a cut with its target, channel and mode, noting the tick and the stack depths, or disarms; SET_F loads
the frequency word (keeping the phase at that tick where it says so), the chirp word or the resampler step; SET_P sets or adds
to the phase of a tone or chirp; SET_G writes the gains it names; SET_RNG asks its channel for a range; SLATE and MARK write
their entries; FIRE schedules its pulse. (R139, R151, R152, R153, R154, R155, R188, R198, R231, R345, 04_reels_and_scripts.md) -/
def Obligations.CuesOfEffect : Prop :=
  (∀ (r : Fin 1024) (w : Nat) (s : State),
    let sp := (Fld.REEL_SP r, (s.get (Fld.REEL_SP r) + 1) % 65536)
    let d1 := cueDw w 1
    let lo := cueDw w 2
    let hi := cueDw w 3
    (s.cueNow r 0x18 w = true → cueBits w 8 1 = 1 → Does (.cueCutif r w) s [.engines] (stackOf r) [sp, (Fld.REEL_CUT_ARMED r, 0)] (fun t => (t.eng r).recut = ((s.eng r).commit.isSome || (s.eng r).recut))) ∧
    (s.cueNow r 0x18 w = true → cueBits w 8 1 = 0 → Does (.cueCutif r w) s [.engines] (stackOf r)
      [sp, (Fld.REEL_CUT_ARMED r, 1), (Fld.REEL_CUT_KEEP r, cueBits w 9 1), (Fld.REEL_CUT_MODE r, bitsOf d1 16 2), (Fld.REEL_CUT_EVC r, bitsOf d1 24 7), (Fld.REEL_CUT_TARGET r, d1 % 65536)]
      (fun t => (t.eng r).cutFrom = s.tick ∧ (t.eng r).cutLoops = (s.stacks r).loops.length ∧ (t.eng r).cutCalls = (s.stacks r).calls.length)) ∧
    (s.cueNow r 0x20 w = true → cueBits w 8 3 = 0 → Does (.cueSetF r w) s [.engines] (stackOf r) [sp, (Fld.REEL_FTW_CUR_LO r, lo), (Fld.REEL_FTW_CUR_HI r, hi), (Fld.REEL_FTW_X r, 0)] (fun _ => True)) ∧
    (s.cueNow r 0x20 w = true → cueBits w 8 3 = 1 → Does (.cueSetF r w) s [.engines] (fun x => stackOf r x || x == Fld.REEL_P_CUR_LO r || x == Fld.REEL_P_CUR_HI r || x == Fld.REEL_P_X r)
      [sp, (Fld.REEL_FTW_CUR_LO r, lo), (Fld.REEL_FTW_CUR_HI r, hi), (Fld.REEL_FTW_X r, 0)] (fun t => (t.p80 r + t.ftw80 r * s.tick) % 2 ^ 80 = (s.p80 r + s.ftw80 r * s.tick) % 2 ^ 80)) ∧
    (s.cueNow r 0x20 w = true → cueBits w 9 2 = 1 → Does (.cueSetF r w) s [.engines] (stackOf r) [sp, (Fld.REEL_CRW_CUR_LO r, lo), (Fld.REEL_CRW_CUR_HI r, hi)] (fun _ => True)) ∧
    (s.cueNow r 0x20 w = true → cueBits w 9 2 = 2 → Does (.cueSetF r w) s [.engines] (stackOf r) [sp] (fun t => (t.eng r).rstep = lo + hi * 2 ^ 32)) ∧
    (s.cueNow r 0x21 w = true → s.voice r = 1 ∨ s.voice r = 2 → cueBits w 8 1 = 0 → Does (.cueSetP r w) s [.engines] (stackOf r) [sp, (Fld.REEL_P_CUR_LO r, lo), (Fld.REEL_P_CUR_HI r, hi), (Fld.REEL_P_X r, 0)] (fun _ => True)) ∧
    (s.cueNow r 0x21 w = true → s.voice r = 1 ∨ s.voice r = 2 → cueBits w 8 1 = 1 → Does (.cueSetP r w) s [.engines] (fun x => stackOf r x || x == Fld.REEL_P_CUR_LO r || x == Fld.REEL_P_CUR_HI r) [sp, (Fld.REEL_P_X r, 0)]
      (fun t => t.get2 (Fld.REEL_P_CUR_LO r) (Fld.REEL_P_CUR_HI r) = (s.get2 (Fld.REEL_P_CUR_LO r) (Fld.REEL_P_CUR_HI r) + lo + hi * 2 ^ 32) % 2 ^ 64)) ∧
    (s.cueNow r 0x21 w = true → s.voice r ≠ 1 → s.voice r ≠ 2 → Does (.cueSetP r w) s [.engines] (stackOf r) [sp] (fun _ => True)) ∧
    (s.cueNow r 0x22 w = true → Does (.cueSetG r w) s [.engines] (stackOf r)
      [sp, (Fld.REEL_GAIN0 r, if cueBits w 8 1 = 1 then d1 % 2 ^ 18 else s.get (Fld.REEL_GAIN0 r)), (Fld.REEL_GAIN1 r, if cueBits w 9 1 = 1 then lo % 2 ^ 18 else s.get (Fld.REEL_GAIN1 r)),
        (Fld.REEL_DEST0 r, if cueBits w 10 1 = 1 then bitsOf hi 0 12 else s.get (Fld.REEL_DEST0 r)), (Fld.REEL_DEST1 r, if cueBits w 11 1 = 1 then bitsOf hi 16 12 else s.get (Fld.REEL_DEST1 r))] (fun _ => True)) ∧
    (let d := s.get (if cueBits w 8 1 = 1 then Fld.REEL_DEST1 r else Fld.REEL_DEST0 r); let n := destIdx d
      s.cueNow r 0x23 w = true → destKind d = 1 → s.get (Fld.CH_STATUS_STATE n) = 2 ∨ s.get (Fld.CH_STATUS_STATE n) = 3 → s.is (Fld.CH_STATUS_RNG_GAP n) = false → s.ranges.all (fun p => p.ch != n) = true →
      s.get (Fld.CH_RANGE_CUR n) ≠ d1 % 4 → Does (.cueSetRng r w) s [.engines, .ranges] (stackOf r) [sp, (Fld.CH_STATUS_RNG_PEND n, 1), (Fld.CH_RANGE_PEND_VAL n, d1 % 4)]
        (fun t => t.ranges = s.ranges ++ [⟨n, d1 % 4, some (wordUp s.tick), some r, s.tick⟩])) ∧
    (s.cueNow r 0x28 w = true → Does (.cueSlate r w) s [.engines, .edges, .arcBuf] (fun x => stackOf r x || archiveLoss x) [sp, (Lat.PROD_WORD (32 * tileOfReel r + 8 + d1 % 8), (s.tick / 8 + 1) % 2 ^ 64)]
      (fun t => Archived s t (archiveEntry 6 false s.unref false false (unitReel r) s.tick 0 [lo, d1 % 8]))) ∧
    (s.cueNow r 0x29 w = true → Does (.cueMark r w) s [.engines, .arcBuf] (fun x => stackOf r x || archiveLoss x) [sp] (fun t => Archived s t (archiveEntry 7 false s.unref false false (unitReel r) s.tick 0 [lo]))) ∧
    (s.cueNow r 0x2A w = true → Does (.cueFire r w) s [.engines] (stackOf r) [sp] (fun t => (t.eng r).fires = (s.eng r).fires ++ [(32 * tileOfReel r + d1 % 8, s.tick + d1 / 65536)]))) ∧
  (∀ (r : Fin 1024) (w : Nat) (s : State), s.reelState r = 0 ∨ 5 ≤ s.reelState r ∨ ((s.eng r).run = true ∧ s.tick < (s.eng r).endB) →
    Keeps (.cueCutif r w) s ∧ Keeps (.cueSetF r w) s ∧ Keeps (.cueSetP r w) s ∧ Keeps (.cueSetG r w) s ∧ Keeps (.cueSetRng r w) s ∧ Keeps (.cueSlate r w) s ∧ Keeps (.cueMark r w) s ∧ Keeps (.cueFire r w) s ∧ Keeps (.cueNop r w) s ∧
    Keeps (.cuePlay r w) s ∧ Keeps (.cueWaitEv r w) s ∧ Keeps (.cueStop r w) s)

/-- The cues that produce, wait and end a script. Where a reel executes such a cue at a tick of its grid: PLAY, PLAYN and CAL_GAP
start a segment of their passes at that tick, PLAYN with N of them; WAIT_EV, WAIT_TICK and SYNC enter WAITING with the tick the
wait ends at; STOP ends in STOPPING with its code, END in STOPPING with code 0 for a script that does not repeat, and in ARMED
at ENTRY for one that starts on an event. (R105, R126, R128, R142, R146, R147, R148, R149, R150, R156, R197,
04_reels_and_scripts.md) -/
def Obligations.CuesThatTakeTime : Prop :=
  (∀ (r : Fin 1024) (w : Nat) (s : State), let b := s.tick
    let rate := if cueRate w = 31 then s.rate r else cueRate w
    let run := fun (n : Nat) (t : State) => (t.eng r).run = true ∧ (t.eng r).started = true ∧ (t.eng r).passStart = b ∧ (t.eng r).passLen = s.passSamples r w * 2 ^ rate ∧ (t.eng r).endB = b + n * (s.passSamples r w * 2 ^ rate)
    let parts : List Part := [.loans, .engines, .heads, .arcBuf]
    let regs := fun (x : Key) => reelOf r x || tileMaps r x || ledgerOf 16 x || archiveLoss x || among [.MS_EVT, .L_STRM_RET] x
    let clean := (s.eng r).pendingSet = [] ∧ (s.eng r).cutEntry = none ∧ gridUp b rate = b ∧ s.playFault r w rate = 0
    let values := fun (n : Nat) => [(Fld.REEL_STATE r, 2), (Fld.REEL_SP r, s.get (Fld.REEL_SP r)), (Fld.REEL_RATE r, rate), (Fld.REEL_POS_LO r, 0), (Fld.REEL_POS_HI r, 0), (Fld.REEL_PASS r, n)]
    (s.cueNow r 0x01 w = true → clean → s.voice r = 1 → Does (.cuePlay r w) s parts regs (values 1) (run 1)) ∧
    (s.cueNow r 0x02 w = true → clean → s.voice r = 1 → Does (.cuePlayn r w) s parts regs (values (cueN w)) (run (cueN w))) ∧
    (s.cueNow r 0x01 w = true → clean → s.voice r = 0 → (s.card (cueCard w)).slate = false → (s.card (cueCard w)).streamed = false → Does (.cuePlay r w) s parts regs (values 1) (fun t => run 1 t ∧ t.get (Fld.REEL_CARD r) = cueCard w)) ∧
    (s.cueNow r 0x30 w = true → clean → Does (.cueCalGap r w) s parts regs (values 1) (run 1))) ∧
  (∀ (r : Fin 1024) (w : Nat) (s : State), let b := s.tick
    let waits := fun (t : State) => (t.eng r).waitB = b ∧ (t.eng r).waitOut = cueBits w 8 2 ∧ (t.eng r).run = false
    let parts : List Part := [.loans, .engines, .heads, .arcBuf]
    let regs := fun (x : Key) => reelOf r x || tileMaps r x || ledgerOf 16 x || archiveLoss x || among [.MS_EVT, .L_STRM_RET] x
    let values := fun (e : Nat) => [(Fld.REEL_STATE r, 3), (Fld.REEL_SP r, s.get (Fld.REEL_SP r)), (Fld.REEL_WAIT_END_LO r, lo32 e), (Fld.REEL_WAIT_END_HI r, hi32 e)]
    (s.cueNow r 0x10 w = true → Does (.cueWaitEv r w) s parts regs (values (if cueDw w 2 = 0 then 0 else b + cueDw w 2)) waits) ∧
    (s.cueNow r 0x11 w = true → let e := if cueBits w 10 1 = 1 then b + cueVal w else cueVal w
      (b < e → Does (.cueWaitTick r w) s parts regs (values e) waits) ∧
      (e ≤ b → Does (.cueWaitTick r w) s parts regs ((Fld.TL_REEL_EVT_WAIT_PAST (tileOfReel r), 1) :: values b) waits)) ∧
    (s.cueNow r 0x12 w = true → cueBits w 10 2 = 0 → Does (.cueSync r w) s parts regs [(Fld.REEL_STATE r, 3), (Fld.REEL_SP r, s.get (Fld.REEL_SP r))]
      (fun t => waits t ∧ ∃ e, b ≤ e ∧ e < b + 2 ^ (cueDw w 1 % 64) ∧ e % 2 ^ (cueDw w 1 % 64) = cueVal w ∧ t.get2 (Fld.REEL_WAIT_END_LO r) (Fld.REEL_WAIT_END_HI r) = e % 2 ^ 64))) ∧
  (∀ (r : Fin 1024) (w : Nat) (s : State), s.groupOfDrive r = none →
    let parts : List Part := [.engines, .arcBuf]
    let regs := fun (x : Key) => reelOf r x || tileMaps r x || archiveLoss x || amongAt [.TL_LATE_CNT, .TL_LATE_LAST, .TL_LATE_WORDS_HI, .TL_LATE_WORDS_LO, .TL_VSTG_EVT, .TL_VSTG_PEND] (tileOfReel r) x
    let stopped := fun (t : State) => (t.eng r).run = false ∧ (t.eng r).fires = [] ∧ (t.eng r).commit = none ∧ (t.eng r).staged = [] ∧ (t.eng r).pendingSet = [] ∧ (t.eng r).stopAt = s.tick
    (s.cueNow r 0x3E w = true → Does (.cueStop r w) s parts regs [(Fld.REEL_STATE r, 5), (Fld.REEL_STOP_CODE r, cueDw w 1 % 65536), (Fld.REEL_CUT_ARMED r, 0)] stopped) ∧
    (s.cueNow r 0x3F w = true → s.is (Fld.REEL_START_KIND r) = false → s.get2 (Fld.REEL_START_PER_LO r) (Fld.REEL_START_PER_HI r) = 0 →
      Does (.cueEnd r w) s parts regs [(Fld.REEL_STATE r, 5), (Fld.REEL_STOP_CODE r, 0), (Fld.REEL_CUT_ARMED r, 0)] stopped) ∧
    (s.cueNow r 0x3F w = true → s.is (Fld.REEL_START_KIND r) = true → Does (.cueEnd r w) s [.loans, .engines, .heads, .arcBuf] (fun x => regs x || ledgerOf 16 x || among [.MS_EVT, .L_STRM_RET] x)
      [(Fld.REEL_STATE r, 1), (Fld.REEL_SP r, s.get (Fld.REEL_ENTRY r)), (Fld.REEL_RATE r, s.get (Fld.REEL_BOOKED r)), (Fld.REEL_CUT_ARMED r, 0), (Fld.REEL_FTW_CUR_LO r, s.get (Fld.REEL_FTW_LO r)), (Fld.REEL_P_CUR_LO r, s.get (Fld.REEL_P_LO r)),
        (Fld.REEL_AMP_CUR r, s.get (Fld.REEL_AMP r))] (fun t => t.stacks r = ⟨[], []⟩ ∧ (t.eng r).armedAt = s.tick)))

/-- Commands to reels and arm groups. A command to the reel that TL_REEL_IDX names answers its result and CMD_DONE; with another
command in the same write it answers MULTI. ARM of an IDLE reel that passes its checks enters ARMED at ENTRY with the booked
class; in STOPPING it queues. DISARM returns an ARMED reel to IDLE. STOP_AT records the earlier stop tick. CLEAR returns a
FAULTED reel to IDLE. The arm-group task arms every reel of its group; the stop-group task requests their stop at S + D_cut.
(R124, R128, R160, R161, R163, R164, R165, R197, R315, 04_reels_and_scripts.md) -/
def Obligations.ReelCommands : Prop :=
  (∀ (t : Fin 8) (s : State), s.hostOpen = true →
    let r := s.cmdReel t
    let st := s.reelState r
    let answer := fun (n : Nat) => [(Fld.TL_REEL_CMD_BUSY t, 0), (Fld.TL_REEL_CMD_RESULT t, n), (Fld.TL_REEL_EVT_CMD_DONE t, 1)]
    let arg := s.get2 (Fld.TL_REEL_ARG_LO t) (Fld.TL_REEL_ARG_HI t)
    let stop := s.get2 (Fld.REEL_STOP_TICK_LO r) (Fld.REEL_STOP_TICK_HI r)
    (Gives (.reelArm t true) s (answer 5) ∧ Gives (.reelDisarm t true) s (answer 5) ∧ Gives (.reelStopAt t true) s (answer 5) ∧ Gives (.reelClear t true) s (answer 5)) ∧
    (st = 0 → s.armCheck r = 0 → Does (.reelArm t false) s [.loans, .engines, .heads, .arcBuf] (fun x => reelOf r x || tileMaps r x || ledgerOf 16 x || archiveLoss x || among [.MS_EVT, .L_STRM_RET, .L_CAL_RUN, .CAL_STATUS, .CAL_EVT, .CAL_CH_STATUS] x)
      (answer 0 ++ [(Fld.REEL_STATE r, 1), (Fld.REEL_SP r, s.get (Fld.REEL_ENTRY r)), (Fld.REEL_RATE r, s.get (Fld.REEL_BOOKED r)), (Fld.REEL_SAT_CNT r, 0), (Fld.REEL_STOP_TICK_LO r, 2 ^ 32 - 1), (Fld.REEL_STOP_TICK_HI r, 2 ^ 32 - 1),
        (Fld.REEL_FTW_CUR_LO r, s.get (Fld.REEL_FTW_LO r)), (Fld.REEL_AMP_CUR r, s.get (Fld.REEL_AMP r))]) (fun u => u.stacks r = ⟨[], []⟩ ∧ (u.eng r).armedAt = s.tick ∧ (u.eng r).run = false)) ∧
    (st = 0 → s.armCheck r ≠ 0 → Gives (.reelArm t false) s (answer (s.armCheck r))) ∧
    (st = 5 → Gives (.reelArm t false) s (answer 4 ++ [(Fld.REEL_RESTART_PENDING r, 1), (Fld.TL_REEL_EVT_RESTART_QUEUED t, 1)])) ∧
    (st ≠ 0 → st ≠ 5 → Gives (.reelArm t false) s (answer 1)) ∧
    (st = 1 → s.groupOfDrive r = none → Does (.reelDisarm t false) s [.loans, .engines, .heads, .arcBuf] (fun x => chainOf r x || amongAt [.TL_VSTG_EVT, .TL_VSTG_PEND] t x) (answer 0 ++ [(Fld.REEL_STATE r, 0), (Fld.REEL_PRIMED r, 0), (Fld.REEL_CUT_ARMED r, 0)])
      (fun u => u.loans.all (fun l => l.reel != r) = true ∧ (u.eng r).window = [] ∧ (u.eng r).staged = [] ∧ (u.eng r).pendingSet = [])) ∧
    (st = 5 → Gives (.reelDisarm t false) s (answer 0 ++ [(Fld.REEL_RESTART_PENDING r, 0)])) ∧
    (st ≠ 1 → st ≠ 5 → Gives (.reelDisarm t false) s (answer 1)) ∧
    (1 ≤ st → st ≤ 4 → s.tick + 512 ≤ arg → Gives (.reelStopAt t false) s (answer 0 ++ [(Fld.REEL_STOP_TICK_LO r, min arg stop % 2 ^ 32), (Fld.REEL_STOP_TICK_HI r, min arg stop / 2 ^ 32)])) ∧
    (1 ≤ st → st ≤ 4 → arg < s.tick + 512 → Gives (.reelStopAt t false) s (answer 3)) ∧
    (st = 0 ∨ 5 ≤ st → Gives (.reelStopAt t false) s (answer 1)) ∧
    (st = 6 → Does (.reelClear t false) s [] (fun x => amongAt [.TL_REEL_ACTIVE, .TL_REEL_FAULTED] t x) (answer 0 ++ [(Fld.REEL_STATE r, 0), (Fld.REEL_FAULT r, 0), (Fld.REEL_STOP_CODE r, 0)])
      (fun u => u.bit (Fld.TL_REEL_ACTIVE t) (r % 128) = false ∧ u.bit (Fld.TL_REEL_FAULTED t) (r % 128) = false)) ∧
    (st ≠ 6 → Gives (.reelClear t false) s (answer 1))) ∧
  (∀ (t g : Fin 8) (s : State),
    (g = 0 → Keeps (.armGroup t g) s ∧ Keeps (.stopGroup t g) s) ∧
    (g ≠ 0 → ∀ x, s.waiting (7 * t + g - 1) false = some x → s.groupReels t g = [] → Does (.armGroup t g) s [.triggers] (fun _ => false) [] (fun u => u.triggers = s.without x)) ∧
    (g ≠ 0 → ∀ x, s.waiting (7 * t + g - 1) false = some x → ∀ r < 1024, s.groupReels t g = [r] → s.reelState r = 5 → Does (.armGroup t g) s [.triggers] (fun _ => false)
      [(Fld.REEL_RESTART_PENDING r, 1), (Fld.TL_REEL_EVT_RESTART_QUEUED t, 1)] (fun u => u.triggers = s.without x)) ∧
    (g ≠ 0 → ∀ x, s.waiting (56 + 7 * t + g - 1) true = some x → Does (.stopGroup t g) s [.triggers] (fun k => (s.groupReels t g).any (fun r => k == Fld.REEL_STOP_TICK_LO r || k == Fld.REEL_STOP_TICK_HI r)) []
      (fun u => u.triggers = s.without x ∧ ∀ e, x.s = some e → e + dCut < 2 ^ 64 → ∀ r ∈ s.groupReels t g, s.stoppable r = true →
        u.get2 (Fld.REEL_STOP_TICK_LO r) (Fld.REEL_STOP_TICK_HI r) = min (e + dCut) (s.get2 (Fld.REEL_STOP_TICK_LO r) (Fld.REEL_STOP_TICK_HI r)))))

/-- Starts, boundaries, wait ends, stops and faults of a reel. An ARMED reel starts at its start tick, a wait ends on its condition
or its time-out, and a producing cue ends at B, each with the chain that follows, shown for a chain that begins with a gap cue;
a pass of a PLAYN ends with the next pass. A stop at its tick enters STOPPING; four words later the reel is IDLE, or armed again
where that was queued. A fault at its tick enters FAULTED. A FIRE pulse at its tick leaves the schedule. Where its condition
does not hold, each leaves the state alone. (R118, R124, R126, R139, R142, R146, R155, R158, R159, R163, R165,
04_reels_and_scripts.md) -/
def Obligations.ReelRun : Prop :=
  (∀ (r : Fin 1024) (s : State), s.voice r = 1 → (s.eng r).commit = none →
    let e := s.eng r
    let cur := s.curCue r
    let parts : List Part := [.loans, .engines, .heads, .arcBuf]
    (s.reelState r ≠ 1 ∨ s.startTick r = none → Keeps (.reelStart r) s) ∧
    (s.reelState r = 1 → ∀ b, s.startTick r = some b → s.displaced r b = true → Keeps (.reelStart r) s) ∧
    (s.reelState r = 1 → ∀ b, s.startTick r = some b → s.displaced r b = false → ∀ c, e.window.head? = some c → c.q = s.get (Fld.REEL_SP r) → s.nextGap r c = true →
      Does (.reelStart r) s parts (chainOf r) [] (fun t => startsGap s t r b c.w)) ∧
    (s.reelState r ≠ 2 ∧ s.reelState r ≠ 4 ∨ e.run = false ∨ e.started = false ∨ (s.tick < e.endB ∧ s.tick < e.passStart + e.passLen) → Keeps (.cueBoundary r) s) ∧
    (s.reelState r = 2 → e.run = true → e.started = true →
      (e.passStart + e.passLen < e.endB → e.passStart + e.passLen ≤ s.tick → s.displaced r (e.passStart + e.passLen) = false →
        Does (.cueBoundary r) s [.engines] (fun _ => false) [(Fld.REEL_PASS r, s.get (Fld.REEL_PASS r) - 1)] (fun t => t.eng r = { e with reel := r, passStart := e.passStart + e.passLen })) ∧
      (e.endB ≤ e.passStart + e.passLen → e.endB ≤ s.tick → s.displaced r e.endB = false → cueOp cur.w = 0x01 ∨ cueOp cur.w = 0x30 → ∀ c, e.window.tail.head? = some c → c.q = cur.q + 1 → s.nextGap r c = true →
        Does (.cueBoundary r) s parts (chainOf r) [] (fun t => startsGap s t r e.endB c.w))) ∧
    (s.reelState r ≠ 3 ∨ s.waitDone r = none → Keeps (.waitEnd r) s) ∧
    (s.reelState r = 3 → ∀ b, s.waitDone r = some b → s.displaced r b = false → ∀ c, e.window.tail.head? = some c → c.q = cur.q + 1 → s.nextGap r c = true →
      Does (.waitEnd r) s parts (chainOf r) [] (fun t => startsGap s t r b c.w)) ∧
    (s.reelState r ≠ 3 ∨ cueOp cur.w ≠ 0x10 ∨ cueDw cur.w 2 = 0 ∨ s.tick < e.waitB + cueDw cur.w 2 → Keeps (.waitTimeout r) s) ∧
    (let b := e.waitB + cueDw cur.w 2; let q := bitsOf (cueDw cur.w 1) 16 16
      s.reelState r = 3 → cueOp cur.w = 0x10 → cueDw cur.w 2 ≠ 0 → b ≤ s.tick → s.firstEvent (cueDw cur.w 1 % 128) e.waitB b = none → s.displaced r b = false →
      ∀ p, e.targets.find? (fun x => x.1 == q) = some p → ∀ c, p.2.head? = some c → c.q = q → s.nextGap r c = true → Does (.waitTimeout r) s parts (chainOf r) [] (fun t => startsGap s t r b c.w))) ∧
  (∀ (r : Fin 1024) (s : State), let tile := tileOfReel r
    let stop := s.get2 (Fld.REEL_STOP_TICK_LO r) (Fld.REEL_STOP_TICK_HI r)
    let report := fun (x : Key) => amongAt [.TL_VSTG_EVT, .TL_VSTG_PEND, .TL_LATE_CNT, .TL_LATE_LAST, .TL_LATE_WORDS_HI, .TL_LATE_WORDS_LO] tile x
    (1 ≤ s.reelState r → s.reelState r ≤ 4 → stop ≤ s.tick → s.faultBy r stop = false → s.groupOfDrive r = none →
      Does (.stopTakeEffect r) s [.engines, .arcBuf] (fun x => reelOf r x || tileMaps r x || archiveLoss x || report x) [(Fld.REEL_STATE r, 5), (Fld.REEL_STOP_TICK_LO r, 2 ^ 32 - 1), (Fld.REEL_STOP_TICK_HI r, 2 ^ 32 - 1), (Fld.REEL_CUT_ARMED r, 0)]
        (fun t => (t.eng r).stopAt = s.tick ∧ (t.eng r).run = false ∧ (t.eng r).fires = [] ∧ (t.eng r).commit = none)) ∧
    (s.stoppable r = false ∨ s.tick < stop ∨ s.faultBy r stop = true → Keeps (.stopTakeEffect r) s) ∧
    (s.reelState r = 5 → (s.eng r).stopAt / 8 + 4 ≤ s.tick / 8 → s.is (Fld.REEL_RESTART_PENDING r) = false →
      Does (.reelStopDone r) s [.loans, .engines, .heads] (fun x => reelOf r x || tileMaps r x || x.r == .L_STRM_RET) [(Fld.REEL_STATE r, 0), (Fld.REEL_PRIMED r, 0), (Fld.REEL_RESTART_PENDING r, 0)]
        (fun t => t.loans.all (fun l => l.reel != r) = true ∧ (t.eng r).window = [] ∧ t.bit (Fld.TL_REEL_ACTIVE tile) (r % 128) = false)) ∧
    (s.reelState r = 5 → (s.eng r).stopAt / 8 + 4 ≤ s.tick / 8 → s.is (Fld.REEL_RESTART_PENDING r) = true → s.timeRunning = true → s.is (Fld.REEL_START_KIND r) = true → s.get (Fld.REEL_BOOKED r) ≠ 31 → s.recordBad r = false → s.is Lat.CAL_RUN = false →
      Does (.reelStopDone r) s [.loans, .engines, .heads, .arcBuf] (fun x => reelOf r x || tileMaps r x || ledgerOf 16 x || archiveLoss x || among [.MS_EVT, .L_STRM_RET] x)
        [(Fld.REEL_STATE r, 1), (Fld.REEL_SP r, s.get (Fld.REEL_ENTRY r)), (Fld.REEL_RATE r, s.get (Fld.REEL_BOOKED r)), (Fld.REEL_RESTART_PENDING r, 0)] (fun t => (t.eng r).armedAt = s.tick)) ∧
    (s.reelState r ≠ 5 ∨ s.tick / 8 < (s.eng r).stopAt / 8 + 4 → Keeps (.reelStopDone r) s) ∧
    (∀ f, (s.eng r).fault = some f → f.2 ≤ s.tick → 1 ≤ s.reelState r → s.reelState r ≤ 5 → s.groupOfDrive r = none → f.1 < 15 →
      Does (.reelFault r false) s [.loans, .engines, .heads, .edges, .arcBuf]
        (fun x => chainOf r x || ledgerOf 21 x || report x || x == Fld.TL_REEL_EVT_CMD_REFUSED tile)
        [(Fld.REEL_STATE r, 6), (Fld.REEL_FAULT r, f.1), (Fld.REEL_RESTART_PENDING r, 0), (Fld.TL_REEL_EVT_FAULT tile, 1), (Fld.TL_REEL_FLT_LAST_CODE tile, f.1), (Fld.TL_REEL_FLT_LAST_REEL tile, r % 128), (Fld.LDG_ACTIVE 21, 1)]
        (fun t => t.loans.all (fun l => l.reel != r) = true ∧ (t.eng r).run = false ∧ (t.eng r).fault = none)) ∧
    ((s.eng r).fault = none → Keeps (.reelFault r false) s) ∧
    (Does (.reelFault r true) s [.engines, .arcBuf] (fun x => ledgerOf 20 x || archiveLoss x) [(Fld.TL_SP_ECC_UNCORR tile, min (s.get (Fld.TL_SP_ECC_UNCORR tile) + 1) (2 ^ (Fld.TL_SP_ECC_UNCORR tile).w - 1)), (Fld.TL_SP_EVT_ECC_UNCORR tile, 1)]
      (fun t => Raised s t 20 (unitTile tile) (tile + 256) ∧ (1 ≤ s.reelState r → s.reelState r ≤ 5 → (s.eng r).fault = none → (t.eng r).fault = some (18, wordNext s.tick)))) ∧
    (Does (.cueEventPulse r) s [.engines, .edges] (fun x => x.r == .L_PROD_WORD) [] (fun t => t.eng r = { s.eng r with reel := r, fires := (s.eng r).fires.filter (fun p => s.tick < p.2) })))

/-- Event stamps, agreed stamps, and the commit and taking of a cut. A tile stamps the oldest pulse of a channel it has not stamped.
The agreed stamp is the smallest stamp or origin tick: the pulse becomes an event with E = S + D_cut, the tiles that select the
channel latch S, tasks learn it and stop events fall due. A reel with an armed cut commits to the first counting event, an
IMMEDIATE cut for E itself. At X the cut is taken: counted, the armed cut cleared unless it is kept, and the target's chain
begins, shown for one that begins with a gap cue. (R163, R166, R167, R168, R169, R170, R171, R172, R175, R176, R177,
05_cuts_and_refill_timing.md) -/
def Obligations.EventStampsAndCuts : Prop :=
  (∀ (u : Fin 8) (c : Fin 128) (s : State),
    (s.pulses.all (fun p => p.ch != (c : Nat) || p.tiles.any (fun x => x.1 == (u : Nat))) = true → Keeps (.eventStamp u c) s) ∧
    (∀ p, s.pulses.head? = some p → p.ch = c → p.tiles.all (fun x => x.1 != (u : Nat)) = true →
      Does (.eventStamp u c) s [.pulses] (fun _ => false) [] (fun t => t.pulses = { p with tiles := p.tiles ++ [((u : Nat), s.tick)], stamp := minTick p.stamp (some s.tick), unref := p.unref || s.unref } :: s.pulses.tail))) ∧
  (∀ (c : Fin 128) (s : State),
    (s.pulses.all (fun p => p.ch != (c : Nat)) = true → Keeps (.stampAgreed c) s) ∧
    (∀ p, s.pulses.head? = some p → p.ch = c →
      (p.origin = none → p.stamp = none → Keeps (.stampAgreed c) s) ∧
      (∀ st, minTick p.origin p.stamp = some st → s.tick ≤ st + 384 →
        Does (.stampAgreed c) s [.pulses, .events, .triggers, .alignDue] (fun x => among [.TL_EVR_STAMP_LO, .TL_EVR_STAMP_HI, .TL_EVR_LOCAL_LO, .TL_EVR_LOCAL_HI, .TL_EVR_STATUS] x || x.r == .REEL) []
          (fun t => t.pulses = s.pulses.tail ∧ t.events.getLast? = some ⟨c, st, st + dCut, p.unref⟩ ∧
            (∀ u < 8, s.get (Fld.TL_EVR_SEL_EVC u) = c → t.get2 (Fld.TL_EVR_STAMP_LO u) (Fld.TL_EVR_STAMP_HI u) = st % 2 ^ 64 ∧ t.is (Fld.TL_EVR_STATUS_VALID u) = true ∧ t.is (Fld.TL_EVR_STATUS_LATE u) = false) ∧
            (∀ u < 8, s.get (Fld.TL_EVR_SEL_EVC u) ≠ c → t.get (Fld.TL_EVR_STAMP_LO u) = s.get (Fld.TL_EVR_STAMP_LO u) ∧ t.get (Fld.TL_EVR_STATUS_VALID u) = s.get (Fld.TL_EVR_STATUS_VALID u)) ∧
            (∀ r ∈ s.activeReels, s.is (Fld.REEL_STOP_EN r) = true → s.get (Fld.REEL_STOP_EVC r) = c → s.stoppable r = true → st + dCut < 2 ^ 64 → t.get2 (Fld.REEL_STOP_TICK_LO r) (Fld.REEL_STOP_TICK_HI r) ≤ st + dCut))) ∧
      (∀ st, minTick p.origin p.stamp = some st → st + 384 < s.tick → ∃ t, exec (.stampAgreed c) s = .next t ∧ t.pulses = s.pulses.tail ∧ t.events.getLast? = some ⟨c, st, wordUp (s.tick + 128), p.unref⟩ ∧ (∀ u < 8, t.is (Fld.TL_CUT_EVT_EV_LATE u) = true)))) ∧
  (∀ (r : Fin 1024) (s : State), let e := s.eng r
    (s.is (Fld.REEL_CUT_ARMED r) = false ∨ e.commit.isSome = true ∨ s.reelState r < 2 ∨ 4 < s.reelState r → Keeps (.cutCommit r) s) ∧
    (s.is (Fld.REEL_CUT_ARMED r) = true → e.commit = none → 2 ≤ s.reelState r → s.reelState r ≤ 4 →
      (s.firstEvent (s.get (Fld.REEL_CUT_EVC r)) (max e.cutFrom e.lastCut) (2 ^ 65) = none → Keeps (.cutCommit r) s) ∧
      (∀ v, s.firstEvent (s.get (Fld.REEL_CUT_EVC r)) (max e.cutFrom e.lastCut) (2 ^ 65) = some v → Does (.cutCommit r) s [.engines] (fun _ => false) []
        (fun t => (t.eng r).commit = some ⟨s.get (Fld.REEL_CUT_TARGET r), s.get (Fld.REEL_CUT_MODE r), s.is (Fld.REEL_CUT_KEEP r), v.s, v.e, v.unref, e.cutLoops, e.cutCalls, if s.get (Fld.REEL_CUT_MODE r) = 0 then 1 else 0, v.e, 0⟩ ∧
          (t.eng r).recut = false ∧ ∀ n, n ≠ (r : Nat) → t.eng n = s.eng n)))) ∧
  (∀ (r : Fin 1024) (late : Bool) (s : State), let e := s.eng r
    (e.commit = none → Keeps (.cutTake r late) s) ∧
    (∀ k, e.commit = some k → s.tick < k.e → Keeps (.cutTake r late) s) ∧
    (∀ k, e.commit = some k → k.kind = 1 → k.e ≤ s.tick → (s.tick < k.x ∨ s.displaced r k.x = true) → Keeps (.cutTake r late) s) ∧
    (∀ k, e.commit = some k → k.kind = 1 → k.e ≤ s.tick → k.x ≤ s.tick → s.displaced r k.x = false → 2 ≤ s.reelState r → s.reelState r ≤ 4 → s.voice r = 1 → e.pendingSet = [] →
      ∀ p, e.targets.find? (fun x => x.1 == k.target) = some p → ∀ c, p.2.head? = some c → c.q = k.target → cueOp c.w = 0x30 → c.fault = 0 →
      Does (.cutTake r late) s [.loans, .engines, .heads, .arcBuf] (chainOf r)
        [(Fld.TL_CUT_CNT (tileOfReel r), min (s.get (Fld.TL_CUT_CNT (tileOfReel r)) + 1) (2 ^ 32 - 1)), (Fld.TL_CUT_EVT_CUT_TAKEN (tileOfReel r), 1), (Fld.REEL_CUT_ARMED r, if e.recut || k.keep then s.get (Fld.REEL_CUT_ARMED r) else 0)]
        (fun t => startsGap s t r k.x c.w ∧ (t.eng r).commit = none ∧ (t.eng r).lastCut = k.x)))

/-- Head slots and late data. A head slot is filled once the loan of its card is in force in its tile. Data that is absent while a
reel plays stored data starts a late episode: it is counted and pulses the late producer, raises DATA_LATE, and the reel enters
HOLDING, or under the CUT policy awaits its recovery cut at the next word boundary. At a word boundary with the data present the
reel resumes, the episode archived and counted. The recovery cut goes to RECOVER with empty stacks. (R104, R124, R161, R184,
R189, R190, R191, R192, R193, 05_cuts_and_refill_timing.md) -/
def Obligations.HeadsAndLateData : Prop :=
  (∀ (u : Fin 8) (k : Fin 262144) (s : State),
    let inForce := s.loans.any (fun l => l.card == (k : Nat) && tileOfReel l.reel == (u : Nat) && l.inForce)
    (inForce = true → Does (.headFill u k) s [.heads] (fun x => s.engines.any (fun e => x == Fld.REEL_PRIMED e.reel)) [] (fun t => t.heads = s.heads.map (fun h => if h.1 = (u : Nat) ∧ h.2.1 = (k : Nat) then (h.1, h.2.1, true) else h))) ∧
    (inForce = false → Keeps (.headFill u k) s)) ∧
  (∀ (r : Fin 1024) (cause : Fin 4) (s : State), let e := s.eng r; let tile := tileOfReel r
    (s.reelState r ≠ 2 ∨ s.playsData r = false ∨ e.late.isSome = true → Keeps (.lateLeaf r cause) s) ∧
    (cause ≠ 3 → s.reelState r = 2 → s.playsData r = true → e.late = none → s.lateShadow r cause = none → s.is (Fld.LDG_ACTIVE 22) = false →
      let begun := fun (t : State) => (t.eng r).late = some (s.tick, (cause : Nat)) ∧ Raised s t 22 (unitTile tile) (1 <<< tile)
      let values := [(Fld.REEL_LATE_EV r, min (s.get (Fld.REEL_LATE_EV r) + 1) (2 ^ (Fld.REEL_LATE_EV r).w - 1)), (Lat.PROD_WORD (32 * tile + 19), (s.tick / 8 + 1) % 2 ^ 64)]
      let regs := fun (x : Key) => ledgerOf 22 x || archiveLoss x
      (s.get (Fld.REEL_LATE_POL r) ≠ 3 ∨ s.tick < e.guard → Does (.lateLeaf r cause) s [.engines, .edges, .arcBuf] (fun x => regs x || amongAt [.TL_REEL_ACTIVE, .TL_REEL_FAULTED] tile x) ((Fld.REEL_STATE r, 4) :: values) begun) ∧
      (s.get (Fld.REEL_LATE_POL r) = 3 → e.guard ≤ s.tick → Does (.lateLeaf r cause) s [.engines, .edges, .arcBuf] regs values (fun t => begun t ∧ (t.eng r).recAt = some (wordUp s.tick)))) ∧
    (cause = 3 → (s.card (s.get (Fld.REEL_CARD r))).streamed = false → Keeps (.lateLeaf r cause) s)) ∧
  (∀ (r : Fin 1024) (s : State), let tile := tileOfReel r
    (s.reelState r ≠ 4 ∨ s.tick % 8 ≠ 0 → Keeps (.lateResume r) s) ∧
    (s.reelState r = 4 → s.tick % 8 = 0 → ∀ l, (s.eng r).late = some l →
      Does (.lateResume r) s [.engines, .arcBuf] (fun x => amongAt [.TL_REEL_ACTIVE, .TL_REEL_FAULTED, .TL_LATE_WORDS_LO, .TL_LATE_WORDS_HI] tile x || archiveLoss x)
        [(Fld.REEL_STATE r, 2), (Fld.TL_LATE_CNT tile, min (s.get (Fld.TL_LATE_CNT tile) + 1) (2 ^ 32 - 1)), (Fld.TL_LATE_LAST_CAUSE tile, l.2 % 2 ^ (Fld.TL_LATE_LAST_CAUSE tile).w), (Fld.TL_LATE_LAST_POL tile, s.get (Fld.REEL_LATE_POL r)),
          (Fld.TL_LATE_LAST_REEL tile, r % 128), (Fld.TL_CUT_EVT_LATE_LEAF tile, 1)]
        (fun t => (t.eng r).late = none ∧ t.get2 (Fld.TL_LATE_WORDS_LO tile) (Fld.TL_LATE_WORDS_HI tile) = (s.get2 (Fld.TL_LATE_WORDS_LO tile) (Fld.TL_LATE_WORDS_HI tile) + (s.tick - l.1 + 7) / 8) % 2 ^ 64))) ∧
  (∀ (r : Fin 1024) (s : State), let e := s.eng r; let tile := tileOfReel r
    (e.recAt = none → Keeps (.recoveryCut r) s) ∧
    (∀ x, e.recAt = some x → s.tick < x ∨ s.displaced r x = true ∨ s.reelState r ≠ 2 → Keeps (.recoveryCut r) s) ∧
    (∀ x, e.recAt = some x → x ≤ s.tick → s.displaced r x = false → s.reelState r = 2 → s.voice r = 0 → e.pendingSet = [] → let q := s.get (Fld.REEL_RECOVER r)
      ∀ p, e.targets.find? (fun y => y.1 == q) = some p → ∀ c, p.2.head? = some c → c.q = q → cueOp c.w = 0x30 → c.fault = 0 →
      Does (.recoveryCut r) s [.loans, .engines, .heads, .arcBuf] (chainOf r) [(Fld.TL_CUT_CNT tile, min (s.get (Fld.TL_CUT_CNT tile) + 1) (2 ^ 32 - 1)), (Fld.TL_CUT_EVT_RECOVER tile, 1), (Fld.REEL_CUT_ARMED r, 0)]
        (fun t => startsGap s t r x c.w ∧ t.stacks r = ⟨[], []⟩ ∧ (t.eng r).recAt = none ∧ (t.eng r).guard = x + 512)))

/-- The segment window, the drop count and the card port. A host write of one beat stores its bytes and nothing else where its leaf
takes writes; elsewhere the beat is dropped, counted, latched when it is the first, and archived. A host read answers the bytes
in memory; of more than 4,096 bytes it is an error; in DEEP_SLEEP and reading-room mode it answers zeros. A card write of a card
not on loan stores the staged dwords with their CRC; the command reports its result when it completes, and a read places the
card. A cache fill caches a valid card; an invalid one raises CARD_BAD. (R82, R84, R89, R90, R91, R92, R97, R99, R401, R405,
R435, R437) -/
def Obligations.SegmentWindowAndCards : Prop :=
  (∀ (pf : Fin 4) (addr : Nat) (data : List (BitVec 8)) (s : State), s.hostOpen = true → s.is Lat.STK_SR = false → s.badBursts = [] → addr % 64 + data.length ≤ 64 → addr < 2 ^ 36 →
    (s.dropCause (addr / 65536) = none → Does (.bar2Write pf addr data []) s [.mem] (fun _ => false) [] (fun t => Memory.reads t.mem addr data.length = data ∧ ∀ a, a < addr ∨ addr + data.length ≤ a → Memory.read t.mem a = Memory.read s.mem a)) ∧
    (∀ c, s.dropCause (addr / 65536) = some c → data ≠ [] → Does (.bar2Write pf addr data []) s [.arcBuf] (fun x => ledgerOf 18 x || archiveLoss x || among [.MS_WDROP_ADDR_LO, .MS_WDROP_ADDR_HI, .MS_WDROP_SRC] x)
      [(Fld.MS_WDROP_CNT, min (s.get Fld.MS_WDROP_CNT + 1) (2 ^ 32 - 1)), (Fld.MS_EVT_WDROP, 1), (Lat.WDROP_LATCHED, 1)]
      (fun t => (s.is Lat.WDROP_LATCHED = false → t.get2 Fld.MS_WDROP_ADDR_LO Fld.MS_WDROP_ADDR_HI = addr ∧ t.get Fld.MS_WDROP_SRC_CAUSE = c ∧ t.get Fld.MS_WDROP_SRC_SRC_ID = pf ∧ t.get Fld.MS_WDROP_SRC_SRC_KIND = 0) ∧
        (s.is (Fld.LDG_ACTIVE 18) = false → Raised s t 18 (unitStack (addr / 65536 % 4)) 0) ∧ (s.is (Fld.LDG_ACTIVE 18) = true → Archived s t (archiveEntry 19 false s.unref false false (unitStack (addr / 65536 % 4)) s.tick 0 [lo32 addr, hi32 addr, pf * 2 ^ 8 + c * 2 ^ 16, 1]))))) ∧
  (∀ (pf : Fin 4) (addr len : Nat) (s : State),
    (s.hostOpen = true → s.is Lat.STK_SR = false → s.badBursts = [] → len ≤ 4096 → addr + len ≤ 2 ^ 36 → Does (.bar2Read pf addr len []) s [.out] (fun _ => false) [] (fun t => t.out = .hostRead pf addr ((Memory.reads s.mem addr len).map (·.toNat)) :: s.out)) ∧
    (s.hostOpen = true → 4096 < len → Does (.bar2Read pf addr len []) s [.out] (fun _ => false) [(Fld.SYS_HIF_EVT_UR, 1)] (fun t => t.out = .hostError pf addr :: s.out)) ∧
    (s.get Fld.AON_PWR_STATUS_STATE = 3 → Does (.bar2Read pf addr len []) s [.out] (fun _ => false) [(Fld.AON_PWR_EVT_SLEEP_ACCESS, 1)] (fun t => t.out = .hostRead pf addr (List.replicate len 0) :: s.out)) ∧
    (s.get Fld.AON_PWR_STATUS_STATE = 5 → Does (.bar2Read pf addr len []) s [.out] (fun _ => false) [] (fun t => t.out = .hostRead pf addr (List.replicate len 0) :: s.out))) ∧
  (∀ s : State, s.hostOpen = true → let k := s.get Fld.MS_CARD_IDX_IDX
    Gives .wdropClr s [(Fld.MS_WDROP_CNT, 0), (Lat.WDROP_LATCHED, 0)] ∧
    (s.is Fld.MS_CARD_CMD_BUSY = true → ∀ b : Bool, Keeps (.cardWrite b) s ∧ Keeps (.cardRead b) s) ∧
    (s.is Fld.MS_CARD_CMD_BUSY = false →
      (Gives (.cardWrite true) s [(Fld.MS_CARD_CMD_RESULT, 4)] ∧ Gives (.cardRead true) s [(Fld.MS_CARD_CMD_RESULT, 4)]) ∧
      (s.cardCheck k s.stagedCard ≠ 0 → Gives (.cardWrite false) s [(Fld.MS_CARD_CMD_BUSY, 1), (Lat.CARD_WR, 1), (Lat.CARD_RES, s.cardCheck k s.stagedCard)]) ∧
      (s.cardCheck k s.stagedCard = 0 → Does (.cardWrite false) s [.mem, .cards, .badCards] (fun x => among [.L_STRM_RET, .MS_STRM_CNT, .MS_STRM_FILL, .MS_STRM_PLAY] x) [(Fld.MS_CARD_CMD_BUSY, 1), (Lat.CARD_WR, 1), (Lat.CARD_RES, 0)]
        (fun t => (∀ i < 15, (t.cardDwords k).getD i 0 = s.get (Fld.MS_CARD_DATA i)) ∧ (t.card k).crc = crc32 (Memory.reads t.mem (64 * k) 60) ∧ t.cards = s.cards.filter (fun p => p.2 != k) ∧
          ∀ a, a < 64 * k ∨ 64 * k + 64 ≤ a → Memory.read t.mem a = Memory.read s.mem a)) ∧
      (Gives (.cardRead false) s [(Fld.MS_CARD_CMD_BUSY, 1), (Lat.CARD_WR, 0), (Lat.CARD_RES, if (s.card k).valid ∧ (s.card k).crc ≠ crc32 (Memory.reads s.mem (64 * k) 60) then 3 else 0)]))) ∧
  (∀ s : State, let res := s.get Lat.CARD_RES
    let done := [(Fld.MS_CARD_CMD_BUSY, 0), (Fld.MS_CARD_CMD_RESULT, res % 2 ^ (Fld.MS_CARD_CMD_RESULT).w), (Fld.MS_EVT_CARD_DONE, 1), (Fld.MS_EVT_CARD_BUSY, if res = 1 then 1 else s.get Fld.MS_EVT_CARD_BUSY), (Fld.MS_EVT_CARD_ERR, if res = 2 ∨ res = 3 then 1 else s.get Fld.MS_EVT_CARD_ERR)]
    (s.is Fld.MS_CARD_CMD_BUSY = false → Keeps .cardCmdComplete s) ∧
    (s.is Fld.MS_CARD_CMD_BUSY = true → s.is Lat.CARD_WR = true → Gives .cardCmdComplete s done) ∧
    (s.is Fld.MS_CARD_CMD_BUSY = true → s.is Lat.CARD_WR = false → Gives .cardCmdComplete s (done ++ (List.range 16).map (fun i => (Fld.MS_CARD_DATA i, (s.cardDwords (s.get Fld.MS_CARD_IDX_IDX)).getD i 0))))) ∧
  (∀ (u : Fin 8) (k : Fin 262144) (s : State), s.cards.length < 2048 → s.cards.contains ((u : Nat), (k : Nat)) = false →
    (s.cardInvalid k = false → Does (.cardCacheFill u k) s [.cards] (fun _ => false) [] (fun t => t.cards = s.cards ++ [((u : Nat), (k : Nat))])) ∧
    (s.cardInvalid k = true → s.is (Fld.LDG_ACTIVE 17) = false → Does (.cardCacheFill u k) s [.cards, .engines, .arcBuf] (fun x => ledgerOf 17 x || archiveLoss x) []
      (fun t => Raised s t 17 (unitBlock 35) k ∧ ∀ e ∈ s.engines, tileOfReel e.reel = u → s.eng e.reel = e → (s.windowCards e.reel).contains (k : Nat) = true → ∀ c ∈ (t.eng e.reel).window, cueOp c.w = 1 → cueCard c.w = k → c.fault ≠ 0)))

/-- Streams: binding, reset, commits and the play pointer. A commit names a sequence number. The slot accepts it only when it is FP,
lies below R_ret + N and comes from the slot's source; an accepted commit advances FP by one, so that one more leaf is
committed; any other commit increments the STALE count and sets STALE_COMMIT. A host's write of a sequence number offers a
commit, taken when it reaches the slot. Binding and resetting a slot whose card is not on loan resets its pointers and counts;
binding any other is refused. The play pointer passes a completed leaf; where it would pass FP, FP goes with it and a skip
counts. (R102) -/
def Obligations.StreamSlots : Prop :=
  (∀ (n : Fin 1024) (s : State), ∀ o, s.offers.find? (fun o => o.1 == (n : Nat)) = some o →
    let fp := s.get (Fld.MS_STRM_FILL n)
    let own := s.get (Fld.MS_STRM_CFG_SRC_KIND n) = 3 ∧ s.get (Fld.MS_STRM_CFG_SRC n) = o.2.1
    let stale : List (Key × Nat) := [(Fld.MS_STRM_CNT_STALE n, min (s.get (Fld.MS_STRM_CNT_STALE n) + 1) (2 ^ (Fld.MS_STRM_CNT_STALE n).w - 1)), (Fld.MS_EVT_STALE_COMMIT, 1)]
    let taken := fun (t : State) => t.offers = removeFirst (fun o => o.1 == (n : Nat)) s.offers
    (s.boundCard n = none → Does (.streamCommit n) s [.offers] (fun _ => false) stale taken) ∧
    (∀ k, s.boundCard n = some k →
      (own → o.2.2 % 2 ^ 32 = fp → seqDiff (s.retained n) fp < k.2.listLen → Does (.streamCommit n) s [.offers] (fun _ => false) [(Fld.MS_STRM_FILL n, (fp + 1) % 2 ^ 32)]
        (fun t => taken t ∧ (t.boundCard n).isSome = true ∧ seqDiff (t.retained n) (t.get (Fld.MS_STRM_FILL n)) = seqDiff (s.retained n) fp + 1)) ∧
      (¬own ∨ o.2.2 % 2 ^ 32 ≠ fp ∨ k.2.listLen ≤ seqDiff (s.retained n) fp → Does (.streamCommit n) s [.offers] (fun _ => false) stale taken))) ∧
  (∀ (n kind id seq : Nat) (s : State), let r := s.commitSlot n kind id seq
    (r.1 = true → r.2.get (Fld.MS_STRM_FILL n) = (seq + 1) % 2 ^ 32 ∧ ∀ k, s.boundCard n = some k → seq % 2 ^ 32 = s.get (Fld.MS_STRM_FILL n) ∧ seqDiff (s.retained n) (seq % 2 ^ 32) < k.2.listLen) ∧
    (r.1 = false → r.2.get (Fld.MS_STRM_FILL n) = s.get (Fld.MS_STRM_FILL n) ∧ r.2.get (Fld.MS_STRM_CNT_STALE n) = min (s.get (Fld.MS_STRM_CNT_STALE n) + 1) 0xFFFF ∧ r.2.is Fld.MS_EVT_STALE_COMMIT = true)) ∧
  (∀ (n : Fin 1024) (s : State), s.offers.all (fun o => o.1 != (n : Nat)) = true → Keeps (.streamCommit n) s) ∧
  (∀ (pf : Fin 4) (n : Fin 1024) (v : Nat) (s : State), s.hostOpen = true →
    let cleared : List (Key × Nat) := [(Fld.MS_STRM_FILL n, 0), (Fld.MS_STRM_PLAY n, 0), (Fld.MS_STRM_CNT_STALE n, 0), (Fld.MS_STRM_CNT_SKIP n, 0), (Lat.STRM_RET n, 0)]
    Does (.hostCommitWrite pf n v) s [.offers] (fun _ => false) [(Fld.MS_STRM_COMMIT_SEQ n, v % 2 ^ 32)] (fun t => t.offers = s.offers ++ [((n : Nat), (pf : Nat), v % 2 ^ 32)]) ∧
    (s.slotFree n = true → Gives (.streamBind n v) s (cleared ++ [(Fld.MS_STRM_CARD_BOUND n, v / 2 ^ 31 % 2), (Fld.MS_STRM_CARD_CARD n, v % 2 ^ 18)]) ∧ Gives (.streamReset n) s cleared) ∧
    (s.slotFree n = false → Gives (.streamBind n v) s [(Fld.MS_EVT_BIND_REFUSED, 1)] ∧ Keeps (.streamReset n) s)) ∧
  (∀ (n : Fin 1024) (s : State), let pp := s.get (Fld.MS_STRM_PLAY n); let fp := s.get (Fld.MS_STRM_FILL n)
    (s.get (Lat.STRM_NEXT n) = 0 ∨ s.tick < s.get (Lat.STRM_NEXT n) → Keeps (.playPointerAdvance n) s) ∧
    (s.get (Lat.STRM_NEXT n) ≠ 0 → s.get (Lat.STRM_NEXT n) ≤ s.tick →
      let passed : List (Key × Nat) := [(Fld.MS_STRM_PLAY n, (pp + 1) % 2 ^ 32), (Lat.STRM_LEAF n, (s.get (Lat.STRM_LEAF n) + 1) % 2 ^ (Lat.STRM_LEAF n).w)]
      (s.boundCard n = none → fp = pp → Gives (.playPointerAdvance n) s (passed ++ [(Fld.MS_STRM_FILL n, (pp + 1) % 2 ^ 32), (Fld.MS_STRM_CNT_SKIP n, min (s.get (Fld.MS_STRM_CNT_SKIP n) + 1) (2 ^ (Fld.MS_STRM_CNT_SKIP n).w - 1)), (Lat.STRM_RET n, 0), (Lat.STRM_NEXT n, 0)])) ∧
      (s.boundCard n = none → fp ≠ pp → Gives (.playPointerAdvance n) s (passed ++ [(Lat.STRM_RET n, 0), (Lat.STRM_NEXT n, 0)])) ∧
      (∀ k, s.boundCard n = some k → ∀ l, s.loans.find? (fun l => l.card == k.1) = some l →
        (fp ≠ pp → Does (.playPointerAdvance n) s [] (fun _ => false) (passed ++ [(Lat.STRM_RET n, if s.get (Fld.REEL_LATE_POL l.reel) = 2 then 1 else 0), (Lat.STRM_NEXT n, s.leafTick l.reel k.2 (s.get (Lat.STRM_LEAF n) + 2) % 2 ^ 64)]) (fun _ => True)) ∧
        (fp = pp → Does (.playPointerAdvance n) s [] (fun x => x == Lat.STRM_NEXT n) (passed ++ [(Fld.MS_STRM_FILL n, (pp + 1) % 2 ^ 32), (Lat.STRM_RET n, 0), (Fld.MS_STRM_CNT_SKIP n, min (s.get (Fld.MS_STRM_CNT_SKIP n) + 1) (2 ^ (Fld.MS_STRM_CNT_SKIP n).w - 1))]) (fun _ => True)))))

/-- Cues that enter a window and loans that come into force. The window of an ARMED reel begins with the cue at its SP, and every
card it refers to is on loan to the reel; a reel that does not run keeps its window. An uncorrectable error on the read is
counted and raised at the tile. The loans of a card are in force, and the reels that hold them may be primed, once every covered
leaf is marked, not before. (R92, R93, R96, R118, R141, R161, 03_segment_memory.md, 04_reels_and_scripts.md) -/
def Obligations.WindowLoans : Prop :=
  (∀ (r : Fin 1024) (q : Fin 65536) (e : Fin 3) (s : State), s.reelState r = 0 ∨ 5 ≤ s.reelState r → Keeps (.cueWindowEnter r q e) s) ∧
  (∀ (r : Fin 1024) (q : Fin 65536) (s : State), s.reelState r = 1 → let tile := tileOfReel r
    let parts : List Part := [.loans, .engines, .heads, .arcBuf]
    let regs := fun (x : Key) => x == Fld.REEL_PRIMED r || amongAt [.TL_HEAD_STATUS, .TL_HEAD_MISS, .TL_CUT_EVT] tile x || ledgerOf 16 x || archiveLoss x || among [.MS_EVT, .L_STRM_RET] x
    let begins := fun (t : State) => ((t.eng r).window.head?.map (·.q)) = some (s.get (Fld.REEL_SP r)) ∧ ∀ n, n ≠ (r : Nat) → t.eng n = s.eng n
    ((s.eng r).window = [] → Does (.cueWindowEnter r q 0) s parts regs [] (fun t => begins t ∧ (s.cards = [] → ∀ k ∈ t.windowCards r, t.onLoan r k = true ∨ (t.eng r).fault.isSome = true))) ∧
    ((s.eng r).window = [] → Does (.cueWindowEnter r q 1) s parts regs [(Fld.TL_SP_ECC_CORR tile, min (s.get (Fld.TL_SP_ECC_CORR tile) + 1) (2 ^ (Fld.TL_SP_ECC_CORR tile).w - 1))] begins) ∧
    ((s.eng r).window = [] → s.is (Fld.LDG_ACTIVE 20) = false → Does (.cueWindowEnter r q 2) s parts (fun x => regs x || ledgerOf 20 x)
      [(Fld.TL_SP_ECC_UNCORR tile, min (s.get (Fld.TL_SP_ECC_UNCORR tile) + 1) (2 ^ (Fld.TL_SP_ECC_UNCORR tile).w - 1)), (Fld.TL_SP_EVT_ECC_UNCORR tile, 1)]
      (fun t => begins t ∧ Raised s t 20 (unitTile tile) (tile + (2 + q / 8192) * 2 ^ 8) ∧ ∀ c ∈ (t.eng r).window.tail, c.q = q → c.fault = 18))) ∧
  (∀ (k : Fin 262144) (s : State),
    (s.loans.all (fun l => l.card != (k : Nat)) = true → Keeps (.loanInForce k) s) ∧
    (∀ m, s.firstTaken k = some m → let f := forceTick (s.coveredLeaves (s.card k)) m
      (s.tick < f → Keeps (.loanInForce k) s) ∧
      (f ≤ s.tick → Does (.loanInForce k) s [.loans] (fun x => s.loans.any (fun l => l.card == (k : Nat) && x == Fld.REEL_PRIMED l.reel)) []
        (fun t => t.loans = s.loans.map (fun l => if l.card = (k : Nat) then { l with inForce := true } else l) ∧
          ∀ l ∈ s.loans, l.card = k → t.is (Fld.REEL_PRIMED l.reel) = true → ∀ m ∈ t.loans, m.reel = l.reel → m.inForce = true))))

/-- Refresh, reel records, scratchpads and march tests. A stack that has stayed cold steps its refresh level down, and ends its
booking episode; the last to do so unparks the outputs. A host write of a reel record of an IDLE or FAULTED reel writes the
read-write fields of that dword; of a running reel it only sets REC_BUSY. A scratchpad write stores its bytes; an offline bank
drops them. A march test starts on a bank that may be tested, which goes offline, or is refused with its reason; its end brings
the bank back, cleared in mode 0, or leaves it offline with the failures and the fault raised. (R112, R113, R116, R118, R119,
R120, R121, R122, R135, R435, 03_segment_memory.md) -/
def Obligations.StacksAndScratchpads : Prop :=
  (∀ (k : Fin 4) (s : State), let n := s.get (Fld.MS_STK_STATUS_REFRESH k)
    (n ≠ 0 → 100 ≤ s.get (Lat.STK_COLD_SINCE k) → Gives (.refreshStepDown k) s [(Fld.MS_STK_STATUS_REFRESH k, n - 1), (Lat.STK_COLD_SINCE k, 0)]) ∧
    (n = 0 ∨ s.get (Lat.STK_COLD_SINCE k) < 100 → Keeps (.refreshStepDown k) s) ∧
    (s.is (Fld.MS_STK_STATUS_OVER_CLASS k) = false ∨ s.get (Lat.STK_BOOK_COLD k) < 100 → Keeps (.bookingThermalClear k) s) ∧
    (s.is (Fld.MS_STK_STATUS_OVER_CLASS k) = true → 100 ≤ s.get (Lat.STK_BOOK_COLD k) →
      let entry := fun (t : State) => Archived s t (archiveEntry 12 false s.unref false false (unitStack k) s.tick 0 [s.get (Fld.MS_STK_STATUS_TJ k), 16 + k + 512])
      ((∃ i ∈ [0, 1, 2, 3], i ≠ (k : Nat) ∧ s.is (Fld.MS_STK_STATUS_OVER_CLASS i) = true) → Does (.bookingThermalClear k) s [.arcBuf] archiveLoss [(Fld.MS_STK_STATUS_OVER_CLASS k, 0), (Fld.MS_EVT_THERMAL, 1)] entry) ∧
      ((∀ i ∈ [0, 1, 2, 3], i ≠ (k : Nat) → s.is (Fld.MS_STK_STATUS_OVER_CLASS i) = false) → Does (.bookingThermalClear k) s [.arcBuf] (fun x => archiveLoss x || parkAny x)
        [(Fld.MS_STK_STATUS_OVER_CLASS k, 0), (Fld.MS_EVT_THERMAL, 1), (Fld.LDG_PERSIST 19, 0)] (fun t => entry t ∧ (∀ n < 32, (t.get (Fld.CH_PARK_SRC_REASON n)).testBit pkThermBook = false) ∧ ∀ p < 48, (t.get (Fld.PP_PARK_SRC_REASON p)).testBit pkThermBook = false)))) ∧
  (∀ (r : Fin 1024) (j : Fin 64) (v : Nat) (s : State), s.hostOpen = true →
    (s.recOpen r = true → Does (.reelRecordWrite r j v) s [] (fun x => reelOf r x && x.j == (j : Nat)) [] (fun t => ∀ f ∈ layout .REEL j, (f.acc = .RW → t.get ⟨.REEL, r, j, f.lo, f.w⟩ = bitsOf v f.lo f.w) ∧ (f.acc ≠ .RW → t.get ⟨.REEL, r, j, f.lo, f.w⟩ = s.get ⟨.REEL, r, j, f.lo, f.w⟩))) ∧
    (s.recOpen r = false → Gives (.reelRecordWrite r j v) s [(Fld.TL_REEL_EVT_REC_BUSY (tileOfReel r), 1)])) ∧
  (∀ (pf : Fin 4) (addr : Nat) (data : List (BitVec 8)) (s : State), s.hostOpen = true →
    (2 ^ 25 ≤ addr → ∀ e : Fin 3, Does (.scratchpadWrite pf addr data e) s [.out] (fun _ => false) [] (fun t => t.out = .hostError pf addr :: s.out)) ∧
    (addr < 2 ^ 25 → addr % 0x400000 / 0x20000 = (addr + data.length) % 0x400000 / 0x20000 → addr % 0x400000 / 0x20000 ≠ 1 →
      (s.offline addr = false → Does (.scratchpadWrite pf addr data 0) s [.sp] (fun _ => false) [] (fun t => Memory.reads t.sp addr data.length = data ∧ ∀ a, a < addr ∨ addr + data.length ≤ a → Memory.read t.sp a = Memory.read s.sp a)) ∧
      (s.offline addr = false → Does (.scratchpadWrite pf addr data 1) s [.sp] (fun _ => false) [(Fld.TL_SP_ECC_CORR (addr / 0x400000), min (s.get (Fld.TL_SP_ECC_CORR (addr / 0x400000)) + 1) (2 ^ (Fld.TL_SP_ECC_CORR 0).w - 1))] (fun t => Memory.reads t.sp addr data.length = data)) ∧
      (s.offline addr = true → data ≠ [] → Gives (.scratchpadWrite pf addr data 0) s [(Fld.TL_SP_EVT_OFFLINE_ACCESS (addr / 0x400000), 1)]))) ∧
  (∀ (u : Fin 8) (v : Nat) (s : State), s.hostOpen = true → let b := v % 32; let mode := v / 2 ^ 30 % 2
    let wrote : List (Key × Nat) := [(Fld.TL_MARCH_CTRL_MODE u, mode), (Fld.TL_MARCH_CTRL_BANK u, b)]
    (v.testBit 31 = false → Gives (.marchStart u v) s wrote) ∧
    (v.testBit 31 = true → s.is (Fld.TL_MARCH_STATUS_BUSY u) = true → Gives (.marchStart u v) s [(Fld.TL_MARCH_STATUS_RESULT u, 4)]) ∧
    (v.testBit 31 = true → s.is (Fld.TL_MARCH_STATUS_BUSY u) = false →
      (b = 0 ∨ (b = 31 ∧ mode = 1) → Gives (.marchStart u v) s (wrote ++ [(Fld.TL_MARCH_STATUS_RESULT u, 3)])) ∧
      (1 ≤ b → b ≤ 30 → s.tileIdle u = false → Gives (.marchStart u v) s (wrote ++ [(Fld.TL_MARCH_STATUS_RESULT u, 2)])) ∧
      (1 ≤ b → s.tileIdle u = true ∨ b = 31 → mode = 0 → Gives (.marchStart u v) s (wrote ++ [(Fld.TL_MARCH_STATUS_BUSY u, 1), (Fld.TL_MARCH_STATUS_BANK u, b), (Lat.MARCH_MODE u, 0), (Fld.TL_SP_OFFLINE u, s.get (Fld.TL_SP_OFFLINE u) ||| 1 <<< b)])))) ∧
  (∀ (u : Fin 8) (fails addr : Nat) (s : State), let b := s.get (Fld.TL_MARCH_STATUS_BANK u); let lo := u * 0x400000 + b * 0x20000
    (s.is (Fld.TL_MARCH_STATUS_BUSY u) = false → Keeps (.marchDone u fails addr) s) ∧
    (s.is (Fld.TL_MARCH_STATUS_BUSY u) = true →
      (s.is (Lat.MARCH_MODE u) = true → Does (.marchDone u 0 addr) s [] (fun _ => false) [(Fld.TL_MARCH_STATUS_BUSY u, 0), (Fld.TL_MARCH_STATUS_FAIL_CNT u, 0), (Fld.TL_MARCH_STATUS_RESULT u, 0), (Fld.TL_SP_EVT_MARCH_DONE u, 1), (Fld.TL_SP_OFFLINE u, putBit (s.get (Fld.TL_SP_OFFLINE u)) b false)] (fun t => (t.get (Fld.TL_SP_OFFLINE u)).testBit b = false)) ∧
      (s.is (Lat.MARCH_MODE u) = false → b ≠ 1 → Does (.marchDone u 0 addr) s [.sp] (fun _ => false) [(Fld.TL_MARCH_STATUS_BUSY u, 0), (Fld.TL_MARCH_STATUS_FAIL_CNT u, 0), (Fld.TL_MARCH_STATUS_RESULT u, 0), (Fld.TL_SP_EVT_MARCH_DONE u, 1), (Fld.TL_SP_OFFLINE u, putBit (s.get (Fld.TL_SP_OFFLINE u)) b false)]
        (fun t => (∀ a, lo ≤ a → a < lo + 0x20000 → Memory.read t.sp a = 0) ∧ ∀ a, a < lo ∨ lo + 0x20000 ≤ a → Memory.read t.sp a = Memory.read s.sp a)) ∧
      (s.is (Lat.MARCH_MODE u) = true → fails ≠ 0 → Does (.marchDone u fails addr) s [.arcBuf] (fun x => ledgerOf 20 x || archiveLoss x) [(Fld.TL_MARCH_STATUS_BUSY u, 0), (Fld.TL_MARCH_STATUS_FAIL_CNT u, min fails 65535), (Fld.TL_MARCH_STATUS_RESULT u, 1), (Fld.TL_MARCH_ADDR u, addr % 2 ^ (Fld.TL_MARCH_ADDR u).w)]
        (fun t => Raised s t 20 (unitTile u) (u + b * 2 ^ 8)))))

/-- DMA queues, descriptors and their writeback. PF0 or the owner enables a queue with an aligned ring (OFF to RUN), disables it
(RUN to STOPPING, FAULTED to OFF) and moves TAIL forward only; another PF's write is dropped. A descriptor of a ready queue
moves its bytes between host memory and segment memory, scratchpads or the card port and ends with DONE; a beat that is lost
ends it with DROPPED, a bad one with BAD_DESC and nothing moved, a host error with HOST_ERR. A descriptor of another operation,
or of a queue that is not ready, does nothing. The writeback puts the result at HEAD and advances it; BAD_DESC and HOST_ERR
fault the queue. A stop ends in OFF or a queued restart. (R432, R434, R438, R439, R440, R441, R442, R443, R444, R445,
17_host_interface_and_registers.md) -/
def Obligations.DmaQueues : Prop :=
  (∀ (pf : Fin 4) (q : Fin 64) (v : Nat) (s : State), s.hostOpen = true →
    let st := s.get (Fld.DMA_Q_STATUS_STATE q)
    (pf ≠ 0 → (pf : Nat) ≠ q / 16 → Gives (.dmaQueueEnable pf q) s [(Fld.SYS_HIF_EVT_PRIV_DENIED, 1)] ∧ Gives (.dmaQueueDisable pf q) s [(Fld.SYS_HIF_EVT_PRIV_DENIED, 1)] ∧ Gives (.dmaTailWrite pf q v) s [(Fld.SYS_HIF_EVT_PRIV_DENIED, 1)]) ∧
    (pf = 0 ∨ (pf : Nat) = q / 16 →
      (st = 0 → s.ringBase q % 64 = 0 → Gives (.dmaQueueEnable pf q) s [(Fld.DMA_Q_CTRL_EN q, 1), (Fld.DMA_Q_STATUS_STATE q, 1), (Fld.DMA_Q_BYTES_LO q, 0), (Fld.DMA_Q_BYTES_HI q, 0), (Lat.DMA_ENDING q, 0)]) ∧
      (st = 0 → s.ringBase q % 64 ≠ 0 → Gives (.dmaQueueEnable pf q) s [(Fld.DMA_Q_CTRL_EN q, 1), (Fld.DMA_Q_EVT_CFG_ERR q, 1)]) ∧
      (st = 2 → Gives (.dmaQueueEnable pf q) s [(Fld.DMA_Q_CTRL_EN q, 1), (Fld.DMA_Q_STATUS_RESTART_PENDING q, 1), (Fld.DMA_Q_EVT_RESTART_QUEUED q, 1)]) ∧
      (st = 1 ∨ st = 3 → Gives (.dmaQueueEnable pf q) s [(Fld.DMA_Q_CTRL_EN q, 1)]) ∧
      (st = 1 → Gives (.dmaQueueDisable pf q) s [(Fld.DMA_Q_CTRL_EN q, 0), (Fld.DMA_Q_STATUS_STATE q, 2), (Lat.DMA_ENDING q, if (s.ended q).length < s.unprocessed q then 1 else 0)]) ∧
      (st = 2 → Gives (.dmaQueueDisable pf q) s [(Fld.DMA_Q_CTRL_EN q, 0), (Fld.DMA_Q_STATUS_RESTART_PENDING q, 0)]) ∧
      (st = 3 → Gives (.dmaQueueDisable pf q) s [(Fld.DMA_Q_CTRL_EN q, 0), (Fld.DMA_Q_STATUS_STATE q, 0)]) ∧
      (st = 0 → Gives (.dmaQueueDisable pf q) s [(Fld.DMA_Q_CTRL_EN q, 0)]) ∧
      (s.unprocessed q ≤ s.ahead q (v % 2 ^ 16) → Gives (.dmaTailWrite pf q v) s [(Fld.DMA_Q_TAIL q, v % 2 ^ 16)]) ∧
      (s.ahead q (v % 2 ^ 16) < s.unprocessed q → Gives (.dmaTailWrite pf q v) s [(Fld.DMA_Q_EVT_TAIL_BAD q, 1)]))) ∧
  (∀ (q : Fin 64) (s : State), let st := s.get (Fld.DMA_Q_STATUS_STATE q)
    (st = 2 → s.ended q = [] → Gives (.dmaStopDone q) s [(Fld.DMA_Q_STATUS_STATE q, s.get (Fld.DMA_Q_STATUS_RESTART_PENDING q)), (Fld.DMA_Q_STATUS_RESTART_PENDING q, 0), (Lat.DMA_ENDING q, 0)]) ∧
    (st ≠ 2 ∨ s.ended q ≠ [] → Keeps (.dmaStopDone q) s)) ∧
  (∀ (q : Fin 64) (w : List Nat) (moved : Nat) (data : List (BitVec 8)) (err : Bool) (s : State), let d := descOf w
    (d.op ≠ 1 ∨ s.dmaReady q d.fence true = false → Keeps (.writeSeg q w moved data [] err) s) ∧ (d.op ≠ 2 ∨ s.dmaReady q d.fence true = false → Keeps (.readSeg q w moved [] err) s) ∧
    (d.op ≠ 3 ∨ s.dmaReady q d.fence false = false → Keeps (.writeSp q w moved data err) s) ∧ (d.op ≠ 4 ∨ s.dmaReady q d.fence false = false → Keeps (.readSp q w moved err) s) ∧
    (d.op ≠ 5 ∨ s.dmaReady q d.fence true = false → Keeps (.dmaCard q w moved data err) s)) ∧
  (∀ (q : Fin 64) (w : List Nat) (moved : Nat) (data : List (BitVec 8)) (s : State), let d := descOf w
    let total := s.get2 (Fld.DMA_Q_BYTES_LO q) (Fld.DMA_Q_BYTES_HI q)
    let counted := fun (n : Nat) => [(Lat.DMA_ENDING q, 0), (Fld.DMA_Q_BYTES_LO q, (total + n) % 2 ^ 32), (Fld.DMA_Q_BYTES_HI q, (total + n) % 2 ^ 64 / 2 ^ 32)]
    let ends := fun (status count : Nat) (t : State) => t.dmaDone = s.dmaDone ++ [⟨q, status, count, d.irq⟩]
    (d.op = 1 → s.dmaReady q d.fence true = true → d.bad = true → Does (.writeSeg q w moved data [] false) s [.dmaDone] (fun _ => false) (counted 0) (ends 3 0)) ∧
    (s.get (Fld.DMA_Q_STATUS_STATE q) = 1 → d.bad = false → data.length = d.len →
      (s.dmaReady q d.fence true = true → d.op = 1 → s.badBursts = [] → d.dev % 64 + d.len ≤ 64 →
        (s.dropCause (d.dev / 65536) = none → d.commit = false → Does (.writeSeg q w moved data [] false) s [.mem, .dmaDone] (fun _ => false) (counted d.len)
          (fun t => ends 0 d.len t ∧ Memory.reads t.mem d.dev d.len = data ∧ ∀ a, a < d.dev ∨ d.dev + d.len ≤ a → Memory.read t.mem a = Memory.read s.mem a)) ∧
        (s.dropCause (d.dev / 65536) ≠ none → d.commit = false → Does (.writeSeg q w moved data [] false) s [.dmaDone, .arcBuf] (fun x => ledgerOf 18 x || archiveLoss x || among [.MS_WDROP_ADDR_LO, .MS_WDROP_ADDR_HI, .MS_WDROP_SRC] x)
          (counted d.len ++ [(Fld.MS_WDROP_CNT, min (s.get Fld.MS_WDROP_CNT + 1) (2 ^ 32 - 1)), (Fld.MS_EVT_WDROP, 1), (Lat.WDROP_LATCHED, 1)]) (ends 1 d.len)) ∧
        (s.dropCause (d.dev / 65536) = none → d.commit = true → s.boundCard d.slot = none →
          Does (.writeSeg q w moved data [] false) s [.mem, .dmaDone] (fun _ => false) (counted d.len ++ [(Fld.MS_STRM_CNT_STALE d.slot, min (s.get (Fld.MS_STRM_CNT_STALE d.slot) + 1) 0xFFFF), (Fld.MS_EVT_STALE_COMMIT, 1)]) (ends 2 0)) ∧
        (s.dropCause (d.dev / 65536) = none → d.commit = false → moved = 0 → Does (.writeSeg q w moved data [] true) s [.dmaDone] (fun _ => false) (counted 0) (ends 4 0))) ∧
      (s.dmaReady q d.fence true = true → d.op = 2 → s.badBursts = [] → Does (.readSeg q w moved [] false) s [.dmaDone, .out] (fun _ => false) (counted d.len)
        (fun t => ends 0 d.len t ∧ t.out = .hostWrite d.host ((Memory.reads s.mem d.dev d.len).map (·.toNat)) :: s.out)) ∧
      (s.dmaReady q d.fence false = true → d.op = 3 → s.offline d.dev = false → d.dev % 0x400000 / 0x20000 = (d.dev + d.len) % 0x400000 / 0x20000 → d.dev % 0x400000 / 0x20000 ≠ 1 →
        Does (.writeSp q w moved data false) s [.sp, .dmaDone] (fun _ => false) (counted d.len) (fun t => ends 0 d.len t ∧ Memory.reads t.sp d.dev d.len = data)) ∧
      (s.dmaReady q d.fence false = true → d.op = 4 → s.offline d.dev = false → d.dev % 0x400000 / 0x20000 = (d.dev + d.len) % 0x400000 / 0x20000 → d.dev % 0x400000 / 0x20000 ≠ 1 →
        Does (.readSp q w moved false) s [.dmaDone, .out] (fun _ => false) (counted d.len) (fun t => ends 0 d.len t ∧ t.out = .hostWrite d.host ((Memory.reads s.sp d.dev d.len).map (·.toNat)) :: s.out)) ∧
      (s.dmaReady q d.fence true = true → d.op = 5 → d.len = 64 →
        let card := (List.range 16).map (fun i => leValue ((data.drop (4 * i)).take 4))
        (s.cardCheck d.dev card ≠ 0 → Does (.dmaCard q w moved data false) s [.dmaDone] (fun _ => false) (counted 64) (ends 6 0)) ∧
        (s.cardCheck d.dev card = 0 → Does (.dmaCard q w moved data false) s [.mem, .cards, .badCards, .dmaDone] (fun x => among [.L_STRM_RET, .MS_STRM_CNT, .MS_STRM_FILL, .MS_STRM_PLAY] x) (counted 64)
          (fun t => ends 0 64 t ∧ (∀ i < 15, (t.cardDwords d.dev).getD i 0 = card.getD i 0) ∧ (t.card d.dev).crc = crc32 (Memory.reads t.mem (64 * d.dev) 60)))))) ∧
  (∀ (q : Fin 64) (w : List Nat) (err : Bool) (s : State), let d := descOf w
    let head := s.get (Fld.DMA_Q_HEAD q) % s.ringSize q
    let wb := fun (status count : Nat) (t : State) => t.out = .hostWrite (s.ringBase q + 32 * head + 28) ((leBytes 4 (2 ^ 31 + status * 2 ^ 28 + count % 2 ^ 26)).map (·.toNat)) :: s.out
    let fault := fun (x : Key) => ledgerOf 28 x || archiveLoss x || x.r == .L_DMA_RAISED
    (∀ x, (s.ended q).head? = some x → x.status ≠ 3 → x.status ≠ 4 → Does (.descWriteback q w err) s [.dmaDone, .out] (fun k => k == Fld.DMA_Q_EVT_IDLE q)
      [(Fld.DMA_Q_HEAD q, (head + 1) % s.ringSize q), (Fld.DMA_Q_EVT_DESC_DONE q, if x.irq then 1 else s.get (Fld.DMA_Q_EVT_DESC_DONE q)), (Fld.DMA_Q_EVT_DROPPED q, if x.status = 1 then 1 else s.get (Fld.DMA_Q_EVT_DROPPED q))]
      (fun t => wb x.status x.count t ∧ t.dmaDone = removeFirst (fun y => y.q == (q : Nat)) s.dmaDone ∧ (t.unprocessed q = 0 → t.is (Fld.DMA_Q_EVT_IDLE q) = true))) ∧
    (∀ x, (s.ended q).head? = some x → x.status = 3 ∨ x.status = 4 → s.get (Fld.DMA_Q_STATUS_STATE q) = 1 → s.is (Fld.LDG_ACTIVE 28) = false → Does (.descWriteback q w err) s [.dmaDone, .out, .arcBuf] fault
      [(Fld.DMA_Q_STATUS_STATE q, 3), (Fld.DMA_Q_EVT_FAULT q, 1), (Fld.DMA_EVT_Q_FAULT, 1), (Fld.DMA_Q_EVT_DESC_DONE q, if x.irq then 1 else s.get (Fld.DMA_Q_EVT_DESC_DONE q)), (Lat.DMA_RAISED q, 1)] (fun t => wb x.status x.count t ∧ Raised s t 28 (unitBlock 6) q)) ∧
    (s.ended q = [] → s.dmaReady q false false = true → err = true ∨ d.op = 0 ∨ 5 < d.op → s.get (Fld.DMA_Q_STATUS_STATE q) = 1 → s.is (Fld.LDG_ACTIVE 28) = false → Does (.descWriteback q w err) s [.out, .arcBuf] (fun x => fault x || x == Fld.DMA_Q_EVT_DESC_DONE q)
      [(Fld.DMA_Q_STATUS_STATE q, 3), (Fld.DMA_Q_EVT_FAULT q, 1), (Fld.DMA_EVT_Q_FAULT, 1), (Lat.DMA_ENDING q, 0), (Lat.DMA_RAISED q, 1)] (fun t => wb (if err then 4 else 3) 0 t ∧ Raised s t 28 (unitBlock 6) q)) ∧
    (s.ended q = [] → s.dmaReady q false false = false ∨ (err = false ∧ 1 ≤ d.op ∧ d.op ≤ 5) → Keeps (.descWriteback q w err) s))

/-- The states of a link. Every change of state of a link writes STATE and CAUSE and archives a LINK entry. Enabling a link with a
role starts TRAIN once the time base has been released; in STOPPING it queues. Four good headers end TRAIN in MEASURE, with a
TIU of the tile where one is free, or in DOWN where the roles or the device numbers clash. 1,024 exchanges end MEASURE in UP
with the delay and offset averaged, or in DOWN where the path is too long. A loss in UP retrains, and faults except for the
partner's anchor; a timeout ends in DOWN, which trains again. Disabling stops the link. A bad header is discarded and counted.
(R300, R349, R350, R352, R353, R354, R362, R364, 13_studio.md) -/
def Obligations.LinkStates : Prop :=
  (∀ (l : Fin 16) (s : State), s.hostOpen = true → let st := s.linkState l
    let moved := fun (new cause : Nat) (t : State) => Archived s t (archiveEntry 22 false s.unref false false (unitLink l) s.tick 0 [st + new * 16 + cause * 256, 0, lo32 (s.get (Fld.LK_RTT l) / 2), 0])
    (st = 0 → s.linkRole l ≠ 0 → s.is Lat.TB_EVER = true → s.unitsPowered = true → Does (.linkEnable l) s [.arcBuf] archiveLoss
      [(Fld.LK_CTRL_EN l, 1), (Fld.LK_STATUS_STATE l, 1), (Fld.LK_STATUS_CAUSE l, 0), (Lat.LK_GOOD l, 0), (Lat.LK_AGAIN l, 0)] (moved 1 0)) ∧
    (st = 0 → s.linkRole l = 0 ∨ s.is Lat.TB_EVER = false ∨ s.unitsPowered = false → Gives (.linkEnable l) s [(Fld.LK_CTRL_EN l, 1)]) ∧
    (st = 6 → Gives (.linkEnable l) s [(Fld.LK_CTRL_EN l, 1), (Fld.LK_STATUS_RESTART_PENDING l, 1), (Fld.LK_EVT_RESTART_QUEUED l, 1)]) ∧
    (1 ≤ st → st ≤ 5 → Gives (.linkEnable l) s [(Fld.LK_CTRL_EN l, 1)]) ∧
    (st = 0 ∨ st = 6 → Gives (.linkDisable l) s [(Fld.LK_CTRL_EN l, 0), (Fld.LK_STATUS_RESTART_PENDING l, 0)]) ∧
    (st = 1 ∨ st = 4 ∨ st = 5 → Does (.linkDisable l) s [.arcBuf] (fun x => archiveLoss x || x == Fld.LDG_PERSIST 27) [(Fld.LK_CTRL_EN l, 0), (Fld.LK_STATUS_RESTART_PENDING l, 0), (Fld.LK_STATUS_STATE l, 6), (Fld.LK_STATUS_CAUSE l, 0)] (moved 6 0)) ∧
    (st = 3 → s.linkInputs l = [] → s.get (Lat.LK_TIU l) = 0 → Does (.linkDisable l) s [.arcBuf, .txq, .txs, .rxs] (fun x => archiveLoss x || x == Fld.LDG_PERSIST 27)
      [(Fld.LK_CTRL_EN l, 0), (Fld.LK_STATUS_RESTART_PENDING l, 0), (Fld.LK_STATUS_STATE l, 6), (Fld.LK_STATUS_CAUSE l, 0), (Fld.LK_STATUS_TIU_WAIT l, 0)]
      (fun t => moved 6 0 t ∧ t.txq = s.txq.filter (fun m => m.1 != (l : Nat)) ∧ t.txs = s.txs.filter (fun x => x.link != (l : Nat)) ∧ t.rxs = s.rxs.filter (fun x => x.link != (l : Nat))))) ∧
  (∀ (l : Fin 16) (s : State), let st := s.linkState l
    let moved := fun (new cause : Nat) (t : State) => Archived s t (archiveEntry 22 false s.unref false false (unitLink l) s.tick 0 [st + new * 16 + cause * 256, 0, lo32 (s.get (Fld.LK_RTT l) / 2), 0])
    let down := fun (cause : Nat) => [(Fld.LK_STATUS_STATE l, 5), (Fld.LK_STATUS_CAUSE l, cause), (Fld.LK_EVT_DOWN l, 1)]
    let measure := fun (cause : Nat) => [(Fld.LK_STATUS_STATE l, 2), (Fld.LK_STATUS_CAUSE l, cause), (Lat.LK_N l, 0), (Lat.LK_SUM_T l, 0), (Lat.LK_SUM_R l, 0), (Lat.LK_HDR l, 0)]
    let quiet := fun (x : Key) => archiveLoss x || x == Fld.LDG_PERSIST 27
    (st = 6 → s.unitsPowered = true → s.is (Fld.LK_STATUS_RESTART_PENDING l) = true → Does (.linkStopDone l) s [.arcBuf] archiveLoss [(Fld.LK_STATUS_STATE l, 1), (Fld.LK_STATUS_CAUSE l, 0), (Fld.LK_STATUS_RESTART_PENDING l, 0), (Lat.LK_GOOD l, 0), (Lat.LK_AGAIN l, 0)] (moved 1 0)) ∧
    (st = 6 → s.is (Fld.LK_STATUS_RESTART_PENDING l) = false → Does (.linkStopDone l) s [.arcBuf] quiet [(Fld.LK_STATUS_STATE l, 0), (Fld.LK_STATUS_CAUSE l, 0), (Fld.LK_STATUS_RESTART_PENDING l, 0)] (moved 0 0)) ∧
    (st ≠ 6 → Keeps (.linkStopDone l) s) ∧
    (st ≠ 1 ∨ s.get (Lat.LK_GOOD l) ≠ 4 → Keeps (.linkTrained l) s) ∧
    (st = 1 → s.get (Lat.LK_GOOD l) = 4 → s.get (Lat.LK_PROLE l) + s.linkRole l ≠ 3 → Does (.linkTrained l) s [.arcBuf] quiet (down 5) (moved 5 5)) ∧
    (st = 1 → s.get (Lat.LK_GOOD l) = 4 → s.get (Lat.LK_PROLE l) + s.linkRole l = 3 → s.get (Fld.LK_STATUS_PARTNER_DEV l) = s.get Fld.LK_STUDIO_DEV → Does (.linkTrained l) s [.arcBuf] quiet (down 6) (moved 5 6)) ∧
    (st = 1 → s.get (Lat.LK_GOOD l) = 4 → s.get (Lat.LK_PROLE l) + s.linkRole l = 3 → s.get (Fld.LK_STATUS_PARTNER_DEV l) ≠ s.get Fld.LK_STUDIO_DEV → s.get (Lat.LK_TIU l) = 0 →
      (∀ k, s.freeTiu (l / 2) = some k → Does (.linkTrained l) s [.arcBuf] archiveLoss (measure 0 ++ [(Fld.TIU_STATUS_RSV k, 4), (Lat.LK_TIU l, k + 1), (Fld.LK_STATUS_TIU_WAIT l, 0)]) (moved 2 0)) ∧
      (s.freeTiu (l / 2) = none → Does (.linkTrained l) s [.arcBuf] archiveLoss (measure 0 ++ [(Fld.LK_STATUS_TIU_WAIT l, 1)]) (moved 2 0))) ∧
    (st = 1 → Does (.linkTrainTimeout l) s [.arcBuf] quiet (down 4) (moved 5 4)) ∧ (st ≠ 1 → Keeps (.linkTrainTimeout l) s) ∧
    (st = 3 → s.linkInputs l = [] → s.get (Lat.LK_TIU l) = 0 → Does (.linkSyncLoss l 0) s [.arcBuf, .txq, .txs, .rxs] archiveLoss [(Fld.LK_STATUS_STATE l, 4), (Fld.LK_STATUS_CAUSE l, 7), (Fld.LK_EVT_RETRAIN l, 1), (Lat.LK_AGAIN l, 1), (Fld.LK_STATUS_TIU_WAIT l, 0)] (moved 4 7)) ∧
    (∀ c : Fin 4, c ≠ 0 → st = 3 → s.linkInputs l = [] → s.get (Lat.LK_TIU l) = 0 → s.is (Fld.LDG_ACTIVE 27) = false → Does (.linkSyncLoss l c) s [.arcBuf, .txq, .txs, .rxs] (fun x => archiveLoss x || ledgerOf 27 x)
      [(Fld.LK_STATUS_STATE l, 4), (Fld.LK_STATUS_CAUSE l, c), (Fld.LK_EVT_RETRAIN l, 1), (Lat.LK_AGAIN l, 1), (Fld.LK_STATUS_TIU_WAIT l, 0), (Lat.LK_FAULTED l, 1)] (fun t => Raised s t 27 (unitLink l) l)) ∧
    (∀ c : Fin 4, st ≠ 3 → Keeps (.linkSyncLoss l c) s) ∧
    (st = 4 → ∀ k, s.freeTiu (l / 2) = some k → s.get (Lat.LK_TIU l) = 0 → Does (.linkRetrainLock l) s [.arcBuf] archiveLoss (measure (s.get (Fld.LK_STATUS_CAUSE l)) ++ [(Fld.TIU_STATUS_RSV k, 4), (Lat.LK_TIU l, k + 1), (Fld.LK_STATUS_TIU_WAIT l, 0)]) (moved 2 (s.get (Fld.LK_STATUS_CAUSE l)))) ∧
    (st ≠ 4 → Keeps (.linkRetrainLock l) s ∧ Keeps (.linkRetrainTimeout l) s) ∧
    (st = 4 → s.is (Fld.LDG_ACTIVE 27) = false → Does (.linkRetrainTimeout l) s [.arcBuf] (fun x => archiveLoss x || ledgerOf 27 x) (down 4 ++ [(Lat.LK_FAULTED l, 1)]) (fun t => Raised s t 27 (unitLink l) l)) ∧
    (st = 5 → Does (.linkDownTimeout l) s [.arcBuf] archiveLoss [(Fld.LK_STATUS_STATE l, 1), (Fld.LK_STATUS_CAUSE l, 0), (Lat.LK_GOOD l, 0), (Lat.LK_AGAIN l, 0)] (moved 1 0)) ∧ (st ≠ 5 → Keeps (.linkDownTimeout l) s)) ∧
  (∀ (l : Fin 16) (ev strm : Nat) (s : State), let st := s.linkState l
    let r := divRound (s.geti (Lat.LK_SUM_R l)) 1024
    let th := divRound (s.geti (Lat.LK_SUM_T l) - 1024 * s.fsToTick (s.geti (Fld.LK_ASYM l) + (s.linkFigures l).2.2)) 2048
    (st ≠ 2 → st ≠ 3 → Keeps (.linkMeasureDone l ev strm) s) ∧ (s.get (Lat.LK_N l) < 1024 → Keeps (.linkMeasureDone l ev strm) s) ∧
    (st = 2 → 1024 ≤ s.get (Lat.LK_N l) → r ≤ 2 * 1600 * 65536 → 0 ≤ r → s.linkInputs l = [] → s.is Fld.LK_STUDIO_LEAD = true →
      Does (.linkMeasureDone l ev strm) s [.arcBuf] (fun x => archiveLoss x || x == Fld.LDG_PERSIST 27 || x == Fld.LK_STATUS_CAUSE l || x == Fld.LK_EVT_EV_MARGIN l || x == Fld.LK_EVT_DELAY_CHG l || x == Fld.LK_EVT_STRM_LATE l || x == Lat.ST_FRESH || amongAt [.LK_RXS_STAT] l x)
        [(Fld.LK_STATUS_STATE l, 3), (Fld.LK_RTT l, ux 32 r), (Fld.LK_THETA_LO l, ux 64 th % 2 ^ 32), (Fld.LK_THETA_HI l, ux 64 th / 2 ^ 32), (Fld.LK_EVT_UP l, 1), (Lat.LK_N l, 0), (Lat.LK_SUM_T l, 0), (Lat.LK_SUM_R l, 0), (Lat.LK_HDR l, 0), (Lat.LK_AGAIN l, 0), (Lat.LK_FAULTED l, 0),
          (Fld.LK_EV_MEAS l, ev % 2 ^ (Fld.LK_EV_MEAS l).w), (Fld.LK_STRM_MEAS l, strm % 2 ^ (Fld.LK_STRM_MEAS l).w)]
        (fun t => (s.get Fld.LK_STUDIO_EV_LAT + 48 < ev → t.is (Fld.LK_EVT_EV_MARGIN l) = true) ∧ ∀ j < 4, t.get (Fld.LK_RXS_STAT_LATE l j) = 0 ∧ t.get (Fld.LK_RXS_STAT_MISSING l j) = 0)) ∧
    (st = 2 → 1024 ≤ s.get (Lat.LK_N l) → 2 * 1600 * 65536 < r → s.is (Fld.LDG_ACTIVE 27) = false → s.get (Lat.LK_TIU l) = 0 → Does (.linkMeasureDone l ev strm) s [.arcBuf] (fun x => archiveLoss x || ledgerOf 27 x)
      [(Fld.LK_STATUS_STATE l, 5), (Fld.LK_STATUS_CAUSE l, 12), (Fld.LK_EVT_DOWN l, 1), (Lat.LK_FAULTED l, 1), (Fld.LK_STATUS_TIU_WAIT l, 0)] (fun t => Raised s t 27 (unitLink l) l))) ∧
  (∀ (l : Fin 16) (w stamp : Nat) (s : State), let st := s.linkState l
    let noted := [(Lat.LK_GOOD l, min 4 (s.get (Lat.LK_GOOD l) + 1)), (Lat.LK_PSTATE l, bitsOf w 40 4), (Fld.LK_STATUS_PARTNER_ALIGNED l, bitsOf w 44 1), (Lat.LK_PUNREF l, bitsOf w 45 1), (Lat.LK_PROLE l, bitsOf w 46 2), (Fld.LK_STATUS_PARTNER_DEV l, bitsOf w 48 6)]
    (st = 0 ∨ 5 ≤ st → Keeps (.headerRx l w stamp) s) ∧
    (1 ≤ st → st ≤ 4 → crc8 w 56 0 ≠ bitsOf w 56 8 → Gives (.headerRx l w stamp) s [(Fld.LK_CNT_CRC_ERR l, min (s.get (Fld.LK_CNT_CRC_ERR l) + 1) (2 ^ (Fld.LK_CNT_CRC_ERR l).w - 1)), (Fld.LK_EVT_CRC l, 1), (Lat.LK_GOOD l, 0)]) ∧
    (st = 1 ∨ st = 4 → crc8 w 56 0 = bitsOf w 56 8 → Gives (.headerRx l w stamp) s noted) ∧
    (st = 2 ∨ st = 3 → crc8 w 56 0 = bitsOf w 56 8 → s.get (Lat.LK_TIU l) ≠ 0 → Gives (.headerRx l w stamp) s (noted ++ [(Lat.LK_HDR l, 1), (Lat.LK_HDR_F l, w % 2 ^ 40), (Lat.LK_HDR_A l, ((stamp : Int) - s.fsToTick (s.linkFigures l).2.1).toNat % 2 ^ (Lat.LK_HDR_A l).w)])) ∧
    (st = 2 ∨ st = 3 → crc8 w 56 0 = bitsOf w 56 8 → s.get (Lat.LK_TIU l) = 0 → s.freeTiu (l / 2) = none → Gives (.headerRx l w stamp) s (noted ++ [(Fld.LK_STATUS_TIU_WAIT l, 1)])))

/-- Frames, messages and streams of a link. At a multiple of 528 ticks a link that trains, measures or runs sends its header once,
then the EVENT messages that wait; otherwise nothing is sent. A message with a bad CRC is counted and discarded. A TIME message
that closes an exchange adds to the averages. An EVENT message pulses its producer with the origin tick in local time. A STREAM
message notes its phase and gives the samples of a SUM stream their ticks. A send task queues its event in UP and drops it
elsewhere; ECHO pulses the local producer. Mailbox traffic reaches the tile's control core, and boot transfer over link 0 is
kept. (R348, R349, R350, R351, R354, R360, R361, R363, R364, R398, 13_studio.md) -/
def Obligations.LinkFramesAndMessages : Prop :=
  (∀ (l : Fin 16) (s : State), let f := s.tick / 528
    (s.tick % 528 ≠ 0 ∨ s.get (Lat.LK_SENT l) = f + 1 ∨ s.linkState l = 0 ∨ 5 ≤ s.linkState l → Keeps (.linkFrameTx l) s) ∧
    (s.tick % 528 = 0 → s.get (Lat.LK_SENT l) ≠ f + 1 → 1 ≤ s.linkState l → s.linkState l ≤ 4 → s.txs.all (fun x => x.link != (l : Nat)) = true → s.is (Lat.LK_HDR l) = false →
      (s.txq.all (fun m => m.1 != (l : Nat)) = true → Does (.linkFrameTx l) s [.out] (fun _ => false) [(Lat.LK_SENT l, (f + 1) % 2 ^ (Lat.LK_SENT l).w)] (fun t => t.out = .link l 0 [s.header l f] :: s.out)) ∧
      (∀ m, s.txq.head? = some m → m.1 = l → s.txq.tail.all (fun m => m.1 != (l : Nat)) = true → Does (.linkFrameTx l) s [.out, .txq] (fun _ => false) [(Lat.LK_SENT l, (f + 1) % 2 ^ (Lat.LK_SENT l).w)]
        (fun t => t.txq = s.txq.tail ∧ t.out = .link l 2 [eventMessage m.2.1 m.2.2.2 m.2.2.1] :: .link l 0 [s.header l f] :: s.out)))) ∧
  (∀ (l : Fin 16) (w0 w1 w2 : Nat) (s : State), let st := s.linkState l
    let mine : Int := (528 * extend 40 (bitsOf w0 4 40) (s.tick / 528) * 65536 : Nat) + s.fsToTick (s.linkFigures l).1
    let x : Int := (s.get (Lat.LK_HDR_A l) : Int) - ((w2 * 65536 : Nat) + s.fsToTick (s.linkFigures l).1)
    let y : Int := ((extend 48 (bitsOf w1 16 48) s.tick * 65536 + bitsOf w1 0 16 : Nat) : Int) - mine
    let bad := [(Fld.LK_CNT_CRC_ERR l, min (s.get (Fld.LK_CNT_CRC_ERR l) + 1) (2 ^ (Fld.LK_CNT_CRC_ERR l).w - 1)), (Fld.LK_EVT_CRC l, 1)]
    (st ≠ 2 → st ≠ 3 → Keeps (.msgTime l w0 w1 w2) s) ∧
    (st = 2 ∨ st = 3 → crcBlocks [w0 % 2 ^ 56, w1, w2] ≠ bitsOf w0 56 8 → Gives (.msgTime l w0 w1 w2) s bad) ∧
    (st = 2 ∨ st = 3 → crcBlocks [w0 % 2 ^ 56, w1, w2] = bitsOf w0 56 8 →
      (s.is (Lat.LK_HDR l) = false ∨ s.get (Lat.LK_HDR_F l) ≠ w2 / 528 % 2 ^ 40 → Keeps (.msgTime l w0 w1 w2) s) ∧
      (s.is (Lat.LK_HDR l) = true → s.get (Lat.LK_HDR_F l) = w2 / 528 % 2 ^ 40 → Gives (.msgTime l w0 w1 w2) s
        [(Lat.LK_N l, min (s.get (Lat.LK_N l) + 1) (2 ^ (Lat.LK_N l).w - 1)), (Lat.LK_T0 l, if s.get (Lat.LK_N l) = 0 then ux (Lat.LK_T0 l).w (x - y) else s.get (Lat.LK_T0 l)), (Lat.LK_T1 l, ux (Lat.LK_T1 l).w (x - y)),
          (Lat.LK_SUM_T l, ux (Lat.LK_SUM_T l).w (s.geti (Lat.LK_SUM_T l) + (x - y))), (Lat.LK_SUM_R l, ux (Lat.LK_SUM_R l).w (s.geti (Lat.LK_SUM_R l) + (x + y)))])) ∧
    (st ≠ 3 → Keeps (.msgEvent l w0) s) ∧ (st = 3 → crc8 w0 56 0 ≠ bitsOf w0 56 8 → Gives (.msgEvent l w0) s bad) ∧
    (st = 3 → crc8 w0 56 0 = bitsOf w0 56 8 → s.asleep = false → let p := 272 + 8 * l + bitsOf w0 4 3
      Does (.msgEvent l w0) s [.edges] (fun _ => false) [] (fun t => t.edges = s.edges ++ (s.channelsOf p).map (fun c => ⟨c, p, some ((extend 48 (bitsOf w0 8 48) s.tick : Int) + s.thetaTicks l + 8 * s.get Fld.LK_STUDIO_EV_LAT).toNat⟩)))) ∧
  (∀ (l : Fin 16) (c : Fin 32) (w : Nat) (data : List Nat) (s : State), let j := bitsOf w 4 2; let n := bitsOf w 8 4; let t0 := extend 40 (bitsOf w 12 40) s.tick
    let at_ : Int := t0 + s.thetaTicks l + 8 * s.get (Fld.LK_RXS_CFG_STRM_LAT l j)
    let noted : List (Key × Nat) := [(Lat.LK_RXS_LOG2 l j, (c : Nat) + 1), (Lat.LK_RXS_PH l j, at_.toNat % 2 ^ (c : Nat)), (Lat.LK_RXS_T l j, (t0 + n * 2 ^ (c : Nat)) % 2 ^ 64)]
    (s.linkState l ≠ 3 → Keeps (.msgStream l c w data) s) ∧
    (s.linkState l = 3 → crcBlocks (w % 2 ^ 56 :: data) ≠ bitsOf w 56 8 → Gives (.msgStream l c w data) s [(Fld.LK_CNT_CRC_ERR l, min (s.get (Fld.LK_CNT_CRC_ERR l) + 1) (2 ^ (Fld.LK_CNT_CRC_ERR l).w - 1)), (Fld.LK_EVT_CRC l, 1)]) ∧
    (s.linkState l = 3 → crcBlocks (w % 2 ^ 56 :: data) = bitsOf w 56 8 →
      (s.get (Fld.LK_RXS_CFG_MODE l j) = 0 → Gives (.msgStream l c w data) s noted) ∧
      (s.get (Fld.LK_RXS_CFG_MODE l j) = 1 → Does (.msgStream l c w data) s [.rxs] (fun _ => false) noted
        (fun t => ∀ i < n, s.tick < at_.toNat + i * 2 ^ (c : Nat) → (⟨l, j, at_.toNat + i * 2 ^ (c : Nat), 2 ^ (c : Nat), sx 16 (bitsOf (data.getD (i / 4) 0) (16 * (i % 4)) 16)⟩ : RxSample) ∈ t.rxs)) ∧
      (s.get (Fld.LK_RXS_CFG_MODE l j) = 2 → w.testBit 6 = true → (∀ k < 1024, s.get (Fld.MS_STRM_CFG_SRC_KIND k) ≠ 2) → Gives (.msgStream l c w data) s (noted ++ [(Lat.LK_RXS_POS l j, 0)])))) ∧
  (∀ (l : Fin 16) (k : Fin 4) (data : List (BitVec 8)) (s : State), let st := s.linkState l
    (st = 0 ∨ 5 ≤ st → k ≠ 3 ∨ l ≠ 0 → Keeps (.msgMgmt l k data) s) ∧
    (1 ≤ st → st ≤ 4 → (st = 1 → Gives (.msgMgmt l 0 data) s [(Fld.LK_STATUS_PARTNER_DEV l, (data.headD 0).toNat % 2 ^ (Fld.LK_STATUS_PARTNER_DEV l).w)]) ∧ (st ≠ 1 → Keeps (.msgMgmt l 0 data) s) ∧ Keeps (.msgMgmt l 1 data) s ∧
      Does (.msgMgmt l 2 data) s [.out] (fun _ => false) [] (fun t => t.out = .core (l / 2) (256 + (data.headD 0).toNat) :: s.out)) ∧
    (s.get Fld.AON_PWR_STATUS_STATE = 4 → Does (.msgMgmt 0 3 data) s [.bootRx] (fun _ => false) [] (fun t => t.bootRx = s.bootRx ++ data))) ∧
  (∀ (l : Fin 16) (m : Fin 8) (s : State), ∀ x, s.waiting (256 + 8 * l + m) true = some x →
    let drop : List (Key × Nat) := [(Fld.LK_CNT_EV_DROP l, min (s.get (Fld.LK_CNT_EV_DROP l) + 1) (2 ^ (Fld.LK_CNT_EV_DROP l).w - 1)), (Fld.LK_EVT_EV_DROP l, 1)]
    (s.is (Fld.LK_TXEV_ECHO l m) = false → s.linkState l = 3 → (s.txq.filter (fun y => y.1 == (l : Nat))).length < 32 → Does (.remoteEventSend l m) s [.triggers, .txq] (fun _ => false) []
      (fun t => t.triggers = s.without x ∧ t.txq = s.txq ++ [((l : Nat), (m : Nat), x.s.getD 0, x.unref)])) ∧
    (s.is (Fld.LK_TXEV_ECHO l m) = false → s.linkState l ≠ 3 ∨ 32 ≤ (s.txq.filter (fun y => y.1 == (l : Nat))).length → Does (.remoteEventSend l m) s [.triggers] (fun _ => false) drop (fun t => t.triggers = s.without x)) ∧
    (s.is (Fld.LK_TXEV_ECHO l m) = true → s.linkState l ≠ 3 → s.asleep = false → Does (.remoteEventSend l m) s [.triggers, .edges] (fun _ => false) drop
      (fun t => t.triggers = s.without x ∧ t.edges = s.edges ++ (s.channelsOf (272 + 8 * l + m)).map (fun c => ⟨c, 272 + 8 * l + m, some (x.s.getD 0 + 8 * s.get Fld.LK_STUDIO_EV_LAT)⟩))))

/-- Alignment of a studio follower. ALIGN of a follower with every reel IDLE waits for its parent; the leader's answer is BAD_STATE,
and a follower with a reel that is not IDLE or with a frequency fault is refused; during an alignment it does nothing. With the
UP link up and the parent aligned a fresh average is taken; with it, and the time base locked, an anchor is armed 512 ticks
ahead; the measurement after the release decides ALIGNED or ends with FAIL. A MISALIGNED follower starts by itself where
AUTO_ALIGN says so. (R355, R358, R359, 13_studio.md) -/
def Obligations.StudioAlignment : Prop :=
  (∀ s : State, s.hostOpen = true → let st := s.get Fld.LK_STUDIO_STATUS_STATE
    let begin_ : List (Key × Nat) := [(Fld.LK_STUDIO_STATUS_STATE, 2), (Fld.LK_STUDIO_STATUS_RESULT, 0), (Lat.ST_FRESH, 0), (Lat.ST_OUT, 0)]
    (s.is Fld.LK_STUDIO_LEAD = true → Gives .linkAlign s [(Fld.LK_STUDIO_STATUS_RESULT, 3)]) ∧
    (s.is Fld.LK_STUDIO_LEAD = false → s.upLink = none → Keeps .linkAlign s) ∧
    (s.is Fld.LK_STUDIO_LEAD = false → ∀ l, s.upLink = some l →
      (2 ≤ st → st ≤ 4 → Keeps .linkAlign s) ∧
      (st < 2 ∨ 4 < st → s.get (Fld.LK_STATUS_CAUSE l) = 10 → Gives .linkAlign s [(Fld.LK_STUDIO_STATUS_RESULT, 2)]) ∧
      (st < 2 ∨ 4 < st → s.get (Fld.LK_STATUS_CAUSE l) ≠ 10 → s.allIdle = false → Gives .linkAlign s [(Fld.LK_STUDIO_STATUS_RESULT, 1)]) ∧
      (st < 2 ∨ 4 < st → s.get (Fld.LK_STATUS_CAUSE l) ≠ 10 → s.allIdle = true → Gives .linkAlign s begin_))) ∧
  (∀ s : State, let st := s.get Fld.LK_STUDIO_STATUS_STATE
    let fail : List (Key × Nat) := [(Fld.LK_STUDIO_STATUS_STATE, 1), (Fld.LK_STUDIO_STATUS_RESULT, 4), (Fld.LK_STUDIO_EVT_ALIGN_FAIL, 1), (Lat.ST_OUT, 0)]
    (s.upLink = none → Keeps .alignParentReady s ∧ Keeps .alignVerify s ∧ Keeps .autoAlignStart s) ∧
    (∀ l, s.upLink = some l →
      (st = 2 → s.linkState l = 3 → s.is (Fld.LK_STATUS_PARTNER_ALIGNED l) = true → Gives .alignParentReady s [(Fld.LK_STUDIO_STATUS_STATE, 3), (Lat.ST_FRESH, 0), (Lat.LK_N l, 0), (Lat.LK_SUM_T l, 0), (Lat.LK_SUM_R l, 0), (Lat.LK_HDR l, 0)]) ∧
      (st ≠ 2 ∨ s.linkState l ≠ 3 ∨ s.is (Fld.LK_STATUS_PARTNER_ALIGNED l) = false → Keeps .alignParentReady s) ∧
      (st = 4 → s.is Lat.ST_OUT = true → s.is Lat.ST_FRESH = true → s.withinTenths (s.theta l) (s.get Fld.LK_STUDIO_CFG_TOL) = true →
        Gives .alignVerify s [(Fld.LK_STUDIO_STATUS_STATE, 5), (Fld.LK_STUDIO_STATUS_RESULT, 0), (Fld.LK_STUDIO_EVT_ALIGN_DONE, 1), (Lat.ST_OUT, 0)]) ∧
      (st = 4 → s.is Lat.ST_OUT = true → s.is Lat.ST_FRESH = true → s.withinTenths (s.theta l) (s.get Fld.LK_STUDIO_CFG_TOL) = false → Gives .alignVerify s fail) ∧
      (st ≠ 4 ∨ s.is Lat.ST_OUT = false ∨ s.is Lat.ST_FRESH = false → Keeps .alignVerify s) ∧
      (st = 6 → s.is Fld.LK_STUDIO_CFG_AUTO_ALIGN = true → s.allIdle = true → s.get (Fld.LK_STATUS_CAUSE l) ≠ 10 → Gives .autoAlignStart s [(Fld.LK_STUDIO_STATUS_STATE, 2), (Fld.LK_STUDIO_STATUS_RESULT, 0), (Lat.ST_FRESH, 0), (Lat.ST_OUT, 0)]) ∧
      (st ≠ 6 ∨ s.is Fld.LK_STUDIO_CFG_AUTO_ALIGN = false ∨ s.allIdle = false ∨ s.get (Fld.LK_STATUS_CAUSE l) = 10 → Keeps .autoAlignStart s)) ∧
    (st = 3 → s.is Lat.ST_FRESH = true → s.locked = true → Gives .alignAnchorArm s [(Fld.TB_STATUS_ANCHOR_ARMED, 1), (Lat.TB_ANCHOR_TICK, wordUp (s.tick + 512) % 2 ^ 64), (Fld.LK_STUDIO_STATUS_STATE, 4), (Lat.ST_FRESH, 0), (Lat.ST_OUT, 0)]) ∧
    (st = 3 → s.is Lat.ST_FRESH = true → s.locked = false → Gives .alignAnchorArm s fail) ∧
    (st ≠ 3 ∨ s.is Lat.ST_FRESH = false → Keeps .alignAnchorArm s))

/-- Staged voice updates and sweep pieces. STAGE and COMMIT in one write answer MULTI; a reel that is not ARMED, PLAYING, WAITING or
HOLDING answers STATE and a drive of a corrector group OWNED; a kind that does not fit the voice answers KIND and a value
outside its range RANGE; otherwise STAGE replaces the staged value of its kind. COMMIT moves the staged set into the pending
set, merging with one that has not applied. At a boundary of the voice the pending set applies and is logged, elsewhere nothing
happens. At its end tick a piece of a sweep table folds and the next entry starts, faults the reel, or leaves the voice a tone.
(R201, R202, R216, R217, R218, 06_synthesis_and_coherence.md) -/
def Obligations.StagedVoiceUpdates : Prop :=
  (∀ (t : Fin 8) (s : State), s.hostOpen = true →
    let r := s.stgReel t
    let kind := s.get (Fld.TL_VSTG_KIND t)
    let v := s.get2 (Fld.TL_VSTG_VAL_LO t) (Fld.TL_VSTG_VAL_HI t)
    let answer : Nat → List (Key × Nat) := fun n => [(Fld.TL_VSTG_CMD_BUSY t, 0), (Fld.TL_VSTG_CMD_RESULT t, n)]
    (Gives (.voiceStage t true) s (answer 5) ∧ Gives (.voiceCommit t true) s (answer 5)) ∧
    (s.reelState r = 0 ∨ 5 ≤ s.reelState r → Gives (.voiceStage t false) s (answer 1) ∧ Gives (.voiceCommit t false) s (answer 1)) ∧
    (1 ≤ s.reelState r → s.reelState r ≤ 4 → ∀ g, s.groupOfDrive r = some g → Gives (.voiceStage t false) s (answer 2) ∧ Gives (.voiceCommit t false) s (answer 2)) ∧
    (1 ≤ s.reelState r → s.reelState r ≤ 4 → s.groupOfDrive r = none →
      (kindFits kind (s.voice r) = false → Gives (.voiceStage t false) s (answer 3)) ∧
      (kindFits kind (s.voice r) = true → kindInRange kind v = false → Gives (.voiceStage t false) s (answer 4)) ∧
      (kindFits kind (s.voice r) = true → kindInRange kind v = true → Does (.voiceStage t false) s [.engines] (fun _ => false) (answer 0)
        (fun u => u.eng r = { s.eng r with staged := (s.eng r).staged.filter (fun x => x.1 != kind) ++ [(kind, v)] })) ∧
      ((s.eng r).staged = [] → Gives (.voiceCommit t false) s (answer 0)) ∧
      ((s.eng r).staged ≠ [] → Does (.voiceCommit t false) s [.engines] (fun x => x == Fld.TL_VSTG_PEND t (r % 128 / 32))
        (answer 0 ++ if (s.eng r).pendingSet = [] then [] else [(Fld.TL_VSTG_EVT_MERGED t, 1)])
        (fun u => u.eng r = { s.eng r with staged := [], pendingAt := s.tick, pendingSet := (s.eng r).pendingSet.filter (fun x => !(s.eng r).staged.any (fun y => y.1 == x.1)) ++ (s.eng r).staged } ∧
          u.bit (Fld.TL_VSTG_PEND t) (r % 128) = true)))) ∧
  (∀ (r : Fin 1024) (s : State), let k := tileOfReel r; let q := (r : Nat) % 128
    ((s.eng r).pendingSet = [] ∨ s.stoppable r = false ∨ s.voiceBoundary r s.tick = false → Keeps (.voiceUpdateApply r) s) ∧
    (s.stoppable r = true → s.voiceBoundary r s.tick = true → s.groupOfDrive r = none → ∀ q0, (s.eng r).pendingSet.head? = some q0 → (s.eng r).pendingSet.length = 1 → let kind := q0.1; let v := q0.2; 2 ≤ kind → kind ≤ 6 →
      Does (.voiceUpdateApply r) s [.engines, .arcBuf] (fun x => archiveLoss x || x == Fld.TL_VSTG_PEND k (q / 32))
        ([(Fld.TL_VSTG_LAST_KINDS k, 2 ^ kind), (Fld.TL_VSTG_LAST_REEL k, q), (Fld.TL_VSTG_EVT_APPLIED k, 1), (Fld.TL_VSTG_TICK_LO k, s.tick % 2 ^ 32), (Fld.TL_VSTG_TICK_HI k, s.tick / 2 ^ 32 % 2 ^ 32)] ++
          (if kind = 2 then [(Fld.REEL_P_CUR_LO r, v % 2 ^ 32), (Fld.REEL_P_CUR_HI r, v / 2 ^ 32 % 2 ^ 32), (Fld.REEL_P_X r, 0)]
            else if kind = 3 then [(Fld.REEL_AMP_CUR r, v % 2 ^ 17)] else if kind = 4 then [(Fld.REEL_NSCALE_CUR r, v % 2 ^ 32)]
            else if kind = 5 then [(Fld.REEL_KURT_CUR r, v % 2 ^ 11)] else [(Fld.REEL_ACTIVE r, (1 - s.get (Fld.REEL_ACTIVE r)) % 2)]))
        (fun u => (u.eng r).pendingSet = [] ∧ u.bit (Fld.TL_VSTG_PEND k) q = false)) ∧
    (s.stoppable r = true → s.voiceBoundary r s.tick = true → s.groupOfDrive r = none → ∀ q0, (s.eng r).pendingSet.head? = some q0 → (s.eng r).pendingSet.length = 1 → let kind := q0.1; let v := q0.2; kind ≤ 1 → (s.eng r).piece = none →
      Does (.voiceUpdateApply r) s [.engines, .arcBuf] (fun x => archiveLoss x || x == Fld.TL_VSTG_PEND k (q / 32) || [Fld.REEL_P_CUR_LO r, Fld.REEL_P_CUR_HI r, Fld.REEL_P_X r, Fld.REEL_FTW_CUR_LO r, Fld.REEL_FTW_CUR_HI r, Fld.REEL_FTW_X r].contains x)
        [(Fld.TL_VSTG_LAST_KINDS k, 2 ^ kind), (Fld.TL_VSTG_LAST_REEL k, q), (Fld.TL_VSTG_EVT_APPLIED k, 1), (Fld.TL_VSTG_TICK_LO k, s.tick % 2 ^ 32), (Fld.TL_VSTG_TICK_HI k, s.tick / 2 ^ 32 % 2 ^ 32)]
        (fun u => u.ftw80 r = v % 2 ^ 64 * 2 ^ 16 ∧ (kind = 0 → u.p80 r = s.p80 r % phaseMod) ∧ (kind = 1 → (u.p80 r : Int) = (s.p80 r + ((s.ftw80 r : Int) - v * 2 ^ 16) * s.tick) % phaseMod) ∧ (u.eng r).pendingSet = []))) ∧
  (∀ (r : Fin 1024) (s : State), let e := s.eng r; let i := s.get (Fld.REEL_SWP_IDX r) + 1
    (e.sweepEnd = none → Keeps (.sweepPieceStart r) s) ∧
    (∀ t, e.sweepEnd = some t →
      (s.tick < t ∨ e.run = false ∨ e.endB ≤ t ∨ s.displaced r t = true ∨ s.cutBy r t = true → Keeps (.sweepPieceStart r) s) ∧
      (t ≤ s.tick → e.run = true → t < e.endB → s.displaced r t = false → s.cutBy r t = false → ∀ t0, e.piece = some t0 →
        let d : Int := ((t - t0 : Nat) : Int)
        let phase : Key → Bool := fun x => [Fld.REEL_P_CUR_LO r, Fld.REEL_P_CUR_HI r, Fld.REEL_P_X r, Fld.REEL_FTW_CUR_LO r, Fld.REEL_FTW_CUR_HI r, Fld.REEL_FTW_X r].contains x
        let folded : State → Prop := fun u => (u.p80 r : Int) = (s.p80 r + s.crw r * (d * (d + 1) / 2) - s.crw r * d * t) % phaseMod ∧ (u.ftw80 r : Int) = (s.ftw80 r + s.crw r * d) % phaseMod
        let row := e.sweepEntry.getD (s.sweepRow r i); let dur := bitsOf row 64 40
        (s.get (Fld.REEL_SWP_CNT r) ≤ i → Does (.sweepPieceStart r) s [.engines] phase [] (fun u => folded u ∧ u.eng r = { e with piece := none, sweepEnd := none, sweepEntry := none })) ∧
        (i < s.get (Fld.REEL_SWP_CNT r) → dur ≠ 0 → dur % 2 ^ s.rate r = 0 → bitsOf row 104 24 = 0 →
          Does (.sweepPieceStart r) s [.engines] phase [(Fld.REEL_CRW_CUR_LO r, row % 2 ^ 32), (Fld.REEL_CRW_CUR_HI r, row / 2 ^ 32 % 2 ^ 32), (Fld.REEL_SWP_IDX r, i % 2 ^ 8)]
            (fun u => folded u ∧ u.eng r = { e with piece := some t, sweepEnd := some (t + dur), sweepEntry := none })) ∧
        (i < s.get (Fld.REEL_SWP_CNT r) → 1 ≤ s.reelState r → s.reelState r ≤ 5 → dur = 0 ∨ dur % 2 ^ s.rate r ≠ 0 ∨ bitsOf row 104 24 ≠ 0 →
          ∃ u, exec (.sweepPieceStart r) s = .next u ∧ u.reelState r = 6 ∧ u.get (Fld.REEL_FAULT r) = 3 ∧ u.is (Fld.TL_REEL_EVT_FAULT (tileOfReel r)) = true))))

end
end

