-- ==== Sys2Proof/Laws/State.lean ====
section
/-!
SUPPORT. The state's updates: what each leaves alone, reads after writes, and the parts of a state that are no fields.
-/
namespace Sys2Proof.Machine

@[simp] theorem State.set_tick (s : State) (k : Key) (v : Nat) : (s.set k v).tick = s.tick := rfl
@[simp] theorem State.set_mem (s : State) (k : Key) (v : Nat) : (s.set k v).mem = s.mem := rfl
@[simp] theorem State.set_sp (s : State) (k : Key) (v : Nat) : (s.set k v).sp = s.sp := rfl
@[simp] theorem State.set_loans (s : State) (k : Key) (v : Nat) : (s.set k v).loans = s.loans := rfl
@[simp] theorem State.set_engines (s : State) (k : Key) (v : Nat) : (s.set k v).engines = s.engines := rfl
@[simp] theorem State.set_events (s : State) (k : Key) (v : Nat) : (s.set k v).events = s.events := rfl
@[simp] theorem State.set_heads (s : State) (k : Key) (v : Nat) : (s.set k v).heads = s.heads := rfl
@[simp] theorem State.set_ranges (s : State) (k : Key) (v : Nat) : (s.set k v).ranges = s.ranges := rfl
@[simp] theorem State.set_caps (s : State) (k : Key) (v : Nat) : (s.set k v).caps = s.caps := rfl
@[simp] theorem State.set_measures (s : State) (k : Key) (v : Nat) : (s.set k v).measures = s.measures := rfl
@[simp] theorem State.set_tables (s : State) (k : Key) (v : Nat) : (s.set k v).tables = s.tables := rfl
@[simp] theorem State.set_lines (s : State) (k : Key) (v : Nat) : (s.set k v).lines = s.lines := rfl
@[simp] theorem State.set_factory (s : State) (k : Key) (v : Nat) : (s.set k v).factory = s.factory := rfl
@[simp] theorem State.set_ovrRows (s : State) (k : Key) (v : Nat) : (s.set k v).ovrRows = s.ovrRows := rfl
@[simp] theorem State.set_deltas (s : State) (k : Key) (v : Nat) : (s.set k v).deltas = s.deltas := rfl
@[simp] theorem State.set_calSets (s : State) (k : Key) (v : Nat) : (s.set k v).calSets = s.calSets := rfl
@[simp] theorem State.set_calPends (s : State) (k : Key) (v : Nat) : (s.set k v).calPends = s.calPends := rfl
@[simp] theorem State.set_rxs (s : State) (k : Key) (v : Nat) : (s.set k v).rxs = s.rxs := rfl
@[simp] theorem State.set_txq (s : State) (k : Key) (v : Nat) : (s.set k v).txq = s.txq := rfl
@[simp] theorem State.set_txs (s : State) (k : Key) (v : Nat) : (s.set k v).txs = s.txs := rfl
@[simp] theorem State.set_bootRx (s : State) (k : Key) (v : Nat) : (s.set k v).bootRx = s.bootRx := rfl
@[simp] theorem State.set_ownerKey (s : State) (k : Key) (v : Nat) : (s.set k v).ownerKey = s.ownerKey := rfl
@[simp] theorem State.set_idKey (s : State) (k : Key) (v : Nat) : (s.set k v).idKey = s.idKey := rfl
@[simp] theorem State.set_vendorKey (s : State) (k : Key) (v : Nat) : (s.set k v).vendorKey = s.vendorKey := rfl
@[simp] theorem State.set_dmaDone (s : State) (k : Key) (v : Nat) : (s.set k v).dmaDone = s.dmaDone := rfl
@[simp] theorem State.set_badBursts (s : State) (k : Key) (v : Nat) : (s.set k v).badBursts = s.badBursts := rfl
@[simp] theorem State.set_offers (s : State) (k : Key) (v : Nat) : (s.set k v).offers = s.offers := rfl
@[simp] theorem State.set_cards (s : State) (k : Key) (v : Nat) : (s.set k v).cards = s.cards := rfl
@[simp] theorem State.set_badCards (s : State) (k : Key) (v : Nat) : (s.set k v).badCards = s.badCards := rfl
@[simp] theorem State.set_edges (s : State) (k : Key) (v : Nat) : (s.set k v).edges = s.edges := rfl
@[simp] theorem State.set_pulses (s : State) (k : Key) (v : Nat) : (s.set k v).pulses = s.pulses := rfl
@[simp] theorem State.set_triggers (s : State) (k : Key) (v : Nat) : (s.set k v).triggers = s.triggers := rfl
@[simp] theorem State.set_alignDue (s : State) (k : Key) (v : Nat) : (s.set k v).alignDue = s.alignDue := rfl
@[simp] theorem State.set_arcBuf (s : State) (k : Key) (v : Nat) : (s.set k v).arcBuf = s.arcBuf := rfl
@[simp] theorem State.set_posted (s : State) (k : Key) (v : Nat) : (s.set k v).posted = s.posted := rfl
@[simp] theorem State.set_out (s : State) (k : Key) (v : Nat) : (s.set k v).out = s.out := rfl
@[simp] theorem State.set_pending (s : State) (k : Key) (v : Nat) : (s.set k v).pending = s.pending := rfl
@[simp] theorem State.set_free (s : State) (k : Key) (v : Nat) : (s.set k v).free = s.free := rfl

@[simp] theorem State.emit_tick (s : State) (o : Output) : (s.emit o).tick = s.tick := rfl
@[simp] theorem State.emit_fields (s : State) (o : Output) : (s.emit o).fields = s.fields := rfl
@[simp] theorem State.emit_mem (s : State) (o : Output) : (s.emit o).mem = s.mem := rfl
@[simp] theorem State.emit_sp (s : State) (o : Output) : (s.emit o).sp = s.sp := rfl
@[simp] theorem State.emit_loans (s : State) (o : Output) : (s.emit o).loans = s.loans := rfl
@[simp] theorem State.emit_engines (s : State) (o : Output) : (s.emit o).engines = s.engines := rfl
@[simp] theorem State.emit_events (s : State) (o : Output) : (s.emit o).events = s.events := rfl
@[simp] theorem State.emit_heads (s : State) (o : Output) : (s.emit o).heads = s.heads := rfl
@[simp] theorem State.emit_ranges (s : State) (o : Output) : (s.emit o).ranges = s.ranges := rfl
@[simp] theorem State.emit_caps (s : State) (o : Output) : (s.emit o).caps = s.caps := rfl
@[simp] theorem State.emit_measures (s : State) (o : Output) : (s.emit o).measures = s.measures := rfl
@[simp] theorem State.emit_tables (s : State) (o : Output) : (s.emit o).tables = s.tables := rfl
@[simp] theorem State.emit_lines (s : State) (o : Output) : (s.emit o).lines = s.lines := rfl
@[simp] theorem State.emit_factory (s : State) (o : Output) : (s.emit o).factory = s.factory := rfl
@[simp] theorem State.emit_ovrRows (s : State) (o : Output) : (s.emit o).ovrRows = s.ovrRows := rfl
@[simp] theorem State.emit_deltas (s : State) (o : Output) : (s.emit o).deltas = s.deltas := rfl
@[simp] theorem State.emit_calSets (s : State) (o : Output) : (s.emit o).calSets = s.calSets := rfl
@[simp] theorem State.emit_calPends (s : State) (o : Output) : (s.emit o).calPends = s.calPends := rfl
@[simp] theorem State.emit_rxs (s : State) (o : Output) : (s.emit o).rxs = s.rxs := rfl
@[simp] theorem State.emit_txq (s : State) (o : Output) : (s.emit o).txq = s.txq := rfl
@[simp] theorem State.emit_txs (s : State) (o : Output) : (s.emit o).txs = s.txs := rfl
@[simp] theorem State.emit_bootRx (s : State) (o : Output) : (s.emit o).bootRx = s.bootRx := rfl
@[simp] theorem State.emit_ownerKey (s : State) (o : Output) : (s.emit o).ownerKey = s.ownerKey := rfl
@[simp] theorem State.emit_idKey (s : State) (o : Output) : (s.emit o).idKey = s.idKey := rfl
@[simp] theorem State.emit_vendorKey (s : State) (o : Output) : (s.emit o).vendorKey = s.vendorKey := rfl
@[simp] theorem State.emit_dmaDone (s : State) (o : Output) : (s.emit o).dmaDone = s.dmaDone := rfl
@[simp] theorem State.emit_badBursts (s : State) (o : Output) : (s.emit o).badBursts = s.badBursts := rfl
@[simp] theorem State.emit_offers (s : State) (o : Output) : (s.emit o).offers = s.offers := rfl
@[simp] theorem State.emit_cards (s : State) (o : Output) : (s.emit o).cards = s.cards := rfl
@[simp] theorem State.emit_badCards (s : State) (o : Output) : (s.emit o).badCards = s.badCards := rfl
@[simp] theorem State.emit_edges (s : State) (o : Output) : (s.emit o).edges = s.edges := rfl
@[simp] theorem State.emit_pulses (s : State) (o : Output) : (s.emit o).pulses = s.pulses := rfl
@[simp] theorem State.emit_triggers (s : State) (o : Output) : (s.emit o).triggers = s.triggers := rfl
@[simp] theorem State.emit_alignDue (s : State) (o : Output) : (s.emit o).alignDue = s.alignDue := rfl
@[simp] theorem State.emit_arcBuf (s : State) (o : Output) : (s.emit o).arcBuf = s.arcBuf := rfl
@[simp] theorem State.emit_posted (s : State) (o : Output) : (s.emit o).posted = s.posted := rfl
@[simp] theorem State.emit_pending (s : State) (o : Output) : (s.emit o).pending = s.pending := rfl
@[simp] theorem State.emit_free (s : State) (o : Output) : (s.emit o).free = s.free := rfl

@[simp] theorem State.segStore_tick (s : State) (a : Nat) (l : List (BitVec 8)) : (s.segStore a l).tick = s.tick := rfl
@[simp] theorem State.segStore_fields (s : State) (a : Nat) (l : List (BitVec 8)) : (s.segStore a l).fields = s.fields := rfl
@[simp] theorem State.segStore_sp (s : State) (a : Nat) (l : List (BitVec 8)) : (s.segStore a l).sp = s.sp := rfl
@[simp] theorem State.segStore_loans (s : State) (a : Nat) (l : List (BitVec 8)) : (s.segStore a l).loans = s.loans := rfl
@[simp] theorem State.segStore_engines (s : State) (a : Nat) (l : List (BitVec 8)) : (s.segStore a l).engines = s.engines := rfl
@[simp] theorem State.segStore_events (s : State) (a : Nat) (l : List (BitVec 8)) : (s.segStore a l).events = s.events := rfl
@[simp] theorem State.segStore_heads (s : State) (a : Nat) (l : List (BitVec 8)) : (s.segStore a l).heads = s.heads := rfl
@[simp] theorem State.segStore_ranges (s : State) (a : Nat) (l : List (BitVec 8)) : (s.segStore a l).ranges = s.ranges := rfl
@[simp] theorem State.segStore_caps (s : State) (a : Nat) (l : List (BitVec 8)) : (s.segStore a l).caps = s.caps := rfl
@[simp] theorem State.segStore_measures (s : State) (a : Nat) (l : List (BitVec 8)) : (s.segStore a l).measures = s.measures := rfl
@[simp] theorem State.segStore_tables (s : State) (a : Nat) (l : List (BitVec 8)) : (s.segStore a l).tables = s.tables := rfl
@[simp] theorem State.segStore_lines (s : State) (a : Nat) (l : List (BitVec 8)) : (s.segStore a l).lines = s.lines := rfl
@[simp] theorem State.segStore_factory (s : State) (a : Nat) (l : List (BitVec 8)) : (s.segStore a l).factory = s.factory := rfl
@[simp] theorem State.segStore_ovrRows (s : State) (a : Nat) (l : List (BitVec 8)) : (s.segStore a l).ovrRows = s.ovrRows := rfl
@[simp] theorem State.segStore_deltas (s : State) (a : Nat) (l : List (BitVec 8)) : (s.segStore a l).deltas = s.deltas := rfl
@[simp] theorem State.segStore_calSets (s : State) (a : Nat) (l : List (BitVec 8)) : (s.segStore a l).calSets = s.calSets := rfl
@[simp] theorem State.segStore_calPends (s : State) (a : Nat) (l : List (BitVec 8)) : (s.segStore a l).calPends = s.calPends := rfl
@[simp] theorem State.segStore_rxs (s : State) (a : Nat) (l : List (BitVec 8)) : (s.segStore a l).rxs = s.rxs := rfl
@[simp] theorem State.segStore_txq (s : State) (a : Nat) (l : List (BitVec 8)) : (s.segStore a l).txq = s.txq := rfl
@[simp] theorem State.segStore_txs (s : State) (a : Nat) (l : List (BitVec 8)) : (s.segStore a l).txs = s.txs := rfl
@[simp] theorem State.segStore_bootRx (s : State) (a : Nat) (l : List (BitVec 8)) : (s.segStore a l).bootRx = s.bootRx := rfl
@[simp] theorem State.segStore_ownerKey (s : State) (a : Nat) (l : List (BitVec 8)) : (s.segStore a l).ownerKey = s.ownerKey := rfl
@[simp] theorem State.segStore_idKey (s : State) (a : Nat) (l : List (BitVec 8)) : (s.segStore a l).idKey = s.idKey := rfl
@[simp] theorem State.segStore_vendorKey (s : State) (a : Nat) (l : List (BitVec 8)) : (s.segStore a l).vendorKey = s.vendorKey := rfl
@[simp] theorem State.segStore_dmaDone (s : State) (a : Nat) (l : List (BitVec 8)) : (s.segStore a l).dmaDone = s.dmaDone := rfl
@[simp] theorem State.segStore_badBursts (s : State) (a : Nat) (l : List (BitVec 8)) : (s.segStore a l).badBursts = s.badBursts := rfl
@[simp] theorem State.segStore_offers (s : State) (a : Nat) (l : List (BitVec 8)) : (s.segStore a l).offers = s.offers := rfl
@[simp] theorem State.segStore_cards (s : State) (a : Nat) (l : List (BitVec 8)) : (s.segStore a l).cards = s.cards := rfl
@[simp] theorem State.segStore_badCards (s : State) (a : Nat) (l : List (BitVec 8)) : (s.segStore a l).badCards = s.badCards := rfl
@[simp] theorem State.segStore_edges (s : State) (a : Nat) (l : List (BitVec 8)) : (s.segStore a l).edges = s.edges := rfl
@[simp] theorem State.segStore_pulses (s : State) (a : Nat) (l : List (BitVec 8)) : (s.segStore a l).pulses = s.pulses := rfl
@[simp] theorem State.segStore_triggers (s : State) (a : Nat) (l : List (BitVec 8)) : (s.segStore a l).triggers = s.triggers := rfl
@[simp] theorem State.segStore_alignDue (s : State) (a : Nat) (l : List (BitVec 8)) : (s.segStore a l).alignDue = s.alignDue := rfl
@[simp] theorem State.segStore_arcBuf (s : State) (a : Nat) (l : List (BitVec 8)) : (s.segStore a l).arcBuf = s.arcBuf := rfl
@[simp] theorem State.segStore_posted (s : State) (a : Nat) (l : List (BitVec 8)) : (s.segStore a l).posted = s.posted := rfl
@[simp] theorem State.segStore_out (s : State) (a : Nat) (l : List (BitVec 8)) : (s.segStore a l).out = s.out := rfl
@[simp] theorem State.segStore_pending (s : State) (a : Nat) (l : List (BitVec 8)) : (s.segStore a l).pending = s.pending := rfl
@[simp] theorem State.segStore_free (s : State) (a : Nat) (l : List (BitVec 8)) : (s.segStore a l).free = s.free := rfl

@[simp] theorem State.spStore_tick (s : State) (a : Nat) (l : List (BitVec 8)) : (s.spStore a l).tick = s.tick := rfl
@[simp] theorem State.spStore_fields (s : State) (a : Nat) (l : List (BitVec 8)) : (s.spStore a l).fields = s.fields := rfl
@[simp] theorem State.spStore_mem (s : State) (a : Nat) (l : List (BitVec 8)) : (s.spStore a l).mem = s.mem := rfl
@[simp] theorem State.spStore_loans (s : State) (a : Nat) (l : List (BitVec 8)) : (s.spStore a l).loans = s.loans := rfl
@[simp] theorem State.spStore_engines (s : State) (a : Nat) (l : List (BitVec 8)) : (s.spStore a l).engines = s.engines := rfl
@[simp] theorem State.spStore_events (s : State) (a : Nat) (l : List (BitVec 8)) : (s.spStore a l).events = s.events := rfl
@[simp] theorem State.spStore_heads (s : State) (a : Nat) (l : List (BitVec 8)) : (s.spStore a l).heads = s.heads := rfl
@[simp] theorem State.spStore_ranges (s : State) (a : Nat) (l : List (BitVec 8)) : (s.spStore a l).ranges = s.ranges := rfl
@[simp] theorem State.spStore_caps (s : State) (a : Nat) (l : List (BitVec 8)) : (s.spStore a l).caps = s.caps := rfl
@[simp] theorem State.spStore_measures (s : State) (a : Nat) (l : List (BitVec 8)) : (s.spStore a l).measures = s.measures := rfl
@[simp] theorem State.spStore_tables (s : State) (a : Nat) (l : List (BitVec 8)) : (s.spStore a l).tables = s.tables := rfl
@[simp] theorem State.spStore_lines (s : State) (a : Nat) (l : List (BitVec 8)) : (s.spStore a l).lines = s.lines := rfl
@[simp] theorem State.spStore_factory (s : State) (a : Nat) (l : List (BitVec 8)) : (s.spStore a l).factory = s.factory := rfl
@[simp] theorem State.spStore_ovrRows (s : State) (a : Nat) (l : List (BitVec 8)) : (s.spStore a l).ovrRows = s.ovrRows := rfl
@[simp] theorem State.spStore_deltas (s : State) (a : Nat) (l : List (BitVec 8)) : (s.spStore a l).deltas = s.deltas := rfl
@[simp] theorem State.spStore_calSets (s : State) (a : Nat) (l : List (BitVec 8)) : (s.spStore a l).calSets = s.calSets := rfl
@[simp] theorem State.spStore_calPends (s : State) (a : Nat) (l : List (BitVec 8)) : (s.spStore a l).calPends = s.calPends := rfl
@[simp] theorem State.spStore_rxs (s : State) (a : Nat) (l : List (BitVec 8)) : (s.spStore a l).rxs = s.rxs := rfl
@[simp] theorem State.spStore_txq (s : State) (a : Nat) (l : List (BitVec 8)) : (s.spStore a l).txq = s.txq := rfl
@[simp] theorem State.spStore_txs (s : State) (a : Nat) (l : List (BitVec 8)) : (s.spStore a l).txs = s.txs := rfl
@[simp] theorem State.spStore_bootRx (s : State) (a : Nat) (l : List (BitVec 8)) : (s.spStore a l).bootRx = s.bootRx := rfl
@[simp] theorem State.spStore_ownerKey (s : State) (a : Nat) (l : List (BitVec 8)) : (s.spStore a l).ownerKey = s.ownerKey := rfl
@[simp] theorem State.spStore_idKey (s : State) (a : Nat) (l : List (BitVec 8)) : (s.spStore a l).idKey = s.idKey := rfl
@[simp] theorem State.spStore_vendorKey (s : State) (a : Nat) (l : List (BitVec 8)) : (s.spStore a l).vendorKey = s.vendorKey := rfl
@[simp] theorem State.spStore_dmaDone (s : State) (a : Nat) (l : List (BitVec 8)) : (s.spStore a l).dmaDone = s.dmaDone := rfl
@[simp] theorem State.spStore_badBursts (s : State) (a : Nat) (l : List (BitVec 8)) : (s.spStore a l).badBursts = s.badBursts := rfl
@[simp] theorem State.spStore_offers (s : State) (a : Nat) (l : List (BitVec 8)) : (s.spStore a l).offers = s.offers := rfl
@[simp] theorem State.spStore_cards (s : State) (a : Nat) (l : List (BitVec 8)) : (s.spStore a l).cards = s.cards := rfl
@[simp] theorem State.spStore_badCards (s : State) (a : Nat) (l : List (BitVec 8)) : (s.spStore a l).badCards = s.badCards := rfl
@[simp] theorem State.spStore_edges (s : State) (a : Nat) (l : List (BitVec 8)) : (s.spStore a l).edges = s.edges := rfl
@[simp] theorem State.spStore_pulses (s : State) (a : Nat) (l : List (BitVec 8)) : (s.spStore a l).pulses = s.pulses := rfl
@[simp] theorem State.spStore_triggers (s : State) (a : Nat) (l : List (BitVec 8)) : (s.spStore a l).triggers = s.triggers := rfl
@[simp] theorem State.spStore_alignDue (s : State) (a : Nat) (l : List (BitVec 8)) : (s.spStore a l).alignDue = s.alignDue := rfl
@[simp] theorem State.spStore_arcBuf (s : State) (a : Nat) (l : List (BitVec 8)) : (s.spStore a l).arcBuf = s.arcBuf := rfl
@[simp] theorem State.spStore_posted (s : State) (a : Nat) (l : List (BitVec 8)) : (s.spStore a l).posted = s.posted := rfl
@[simp] theorem State.spStore_out (s : State) (a : Nat) (l : List (BitVec 8)) : (s.spStore a l).out = s.out := rfl
@[simp] theorem State.spStore_pending (s : State) (a : Nat) (l : List (BitVec 8)) : (s.spStore a l).pending = s.pending := rfl
@[simp] theorem State.spStore_free (s : State) (a : Nat) (l : List (BitVec 8)) : (s.spStore a l).free = s.free := rfl

@[simp] theorem State.resetKeys_tick (s : State) (p : Key → Bool) : (s.resetKeys p).tick = s.tick := rfl
@[simp] theorem State.resetKeys_mem (s : State) (p : Key → Bool) : (s.resetKeys p).mem = s.mem := rfl
@[simp] theorem State.resetKeys_sp (s : State) (p : Key → Bool) : (s.resetKeys p).sp = s.sp := rfl
@[simp] theorem State.resetKeys_loans (s : State) (p : Key → Bool) : (s.resetKeys p).loans = s.loans := rfl
@[simp] theorem State.resetKeys_engines (s : State) (p : Key → Bool) : (s.resetKeys p).engines = s.engines := rfl
@[simp] theorem State.resetKeys_events (s : State) (p : Key → Bool) : (s.resetKeys p).events = s.events := rfl
@[simp] theorem State.resetKeys_heads (s : State) (p : Key → Bool) : (s.resetKeys p).heads = s.heads := rfl
@[simp] theorem State.resetKeys_ranges (s : State) (p : Key → Bool) : (s.resetKeys p).ranges = s.ranges := rfl
@[simp] theorem State.resetKeys_caps (s : State) (p : Key → Bool) : (s.resetKeys p).caps = s.caps := rfl
@[simp] theorem State.resetKeys_measures (s : State) (p : Key → Bool) : (s.resetKeys p).measures = s.measures := rfl
@[simp] theorem State.resetKeys_tables (s : State) (p : Key → Bool) : (s.resetKeys p).tables = s.tables := rfl
@[simp] theorem State.resetKeys_lines (s : State) (p : Key → Bool) : (s.resetKeys p).lines = s.lines := rfl
@[simp] theorem State.resetKeys_factory (s : State) (p : Key → Bool) : (s.resetKeys p).factory = s.factory := rfl
@[simp] theorem State.resetKeys_ovrRows (s : State) (p : Key → Bool) : (s.resetKeys p).ovrRows = s.ovrRows := rfl
@[simp] theorem State.resetKeys_deltas (s : State) (p : Key → Bool) : (s.resetKeys p).deltas = s.deltas := rfl
@[simp] theorem State.resetKeys_calSets (s : State) (p : Key → Bool) : (s.resetKeys p).calSets = s.calSets := rfl
@[simp] theorem State.resetKeys_calPends (s : State) (p : Key → Bool) : (s.resetKeys p).calPends = s.calPends := rfl
@[simp] theorem State.resetKeys_rxs (s : State) (p : Key → Bool) : (s.resetKeys p).rxs = s.rxs := rfl
@[simp] theorem State.resetKeys_txq (s : State) (p : Key → Bool) : (s.resetKeys p).txq = s.txq := rfl
@[simp] theorem State.resetKeys_txs (s : State) (p : Key → Bool) : (s.resetKeys p).txs = s.txs := rfl
@[simp] theorem State.resetKeys_bootRx (s : State) (p : Key → Bool) : (s.resetKeys p).bootRx = s.bootRx := rfl
@[simp] theorem State.resetKeys_ownerKey (s : State) (p : Key → Bool) : (s.resetKeys p).ownerKey = s.ownerKey := rfl
@[simp] theorem State.resetKeys_idKey (s : State) (p : Key → Bool) : (s.resetKeys p).idKey = s.idKey := rfl
@[simp] theorem State.resetKeys_vendorKey (s : State) (p : Key → Bool) : (s.resetKeys p).vendorKey = s.vendorKey := rfl
@[simp] theorem State.resetKeys_dmaDone (s : State) (p : Key → Bool) : (s.resetKeys p).dmaDone = s.dmaDone := rfl
@[simp] theorem State.resetKeys_badBursts (s : State) (p : Key → Bool) : (s.resetKeys p).badBursts = s.badBursts := rfl
@[simp] theorem State.resetKeys_offers (s : State) (p : Key → Bool) : (s.resetKeys p).offers = s.offers := rfl
@[simp] theorem State.resetKeys_cards (s : State) (p : Key → Bool) : (s.resetKeys p).cards = s.cards := rfl
@[simp] theorem State.resetKeys_badCards (s : State) (p : Key → Bool) : (s.resetKeys p).badCards = s.badCards := rfl
@[simp] theorem State.resetKeys_edges (s : State) (p : Key → Bool) : (s.resetKeys p).edges = s.edges := rfl
@[simp] theorem State.resetKeys_pulses (s : State) (p : Key → Bool) : (s.resetKeys p).pulses = s.pulses := rfl
@[simp] theorem State.resetKeys_triggers (s : State) (p : Key → Bool) : (s.resetKeys p).triggers = s.triggers := rfl
@[simp] theorem State.resetKeys_alignDue (s : State) (p : Key → Bool) : (s.resetKeys p).alignDue = s.alignDue := rfl
@[simp] theorem State.resetKeys_arcBuf (s : State) (p : Key → Bool) : (s.resetKeys p).arcBuf = s.arcBuf := rfl
@[simp] theorem State.resetKeys_posted (s : State) (p : Key → Bool) : (s.resetKeys p).posted = s.posted := rfl
@[simp] theorem State.resetKeys_out (s : State) (p : Key → Bool) : (s.resetKeys p).out = s.out := rfl
@[simp] theorem State.resetKeys_pending (s : State) (p : Key → Bool) : (s.resetKeys p).pending = s.pending := rfl
@[simp] theorem State.resetKeys_free (s : State) (p : Key → Bool) : (s.resetKeys p).free = s.free := rfl

/-! ### Reads after writes -/

theorem findField_filter_ne (k k' : Key) (h : k' ≠ k) (l : List (Key × Nat)) : findField k' (l.filter (fun p => p.1 ≠ k)) = findField k' l := by
  induction l with
  | nil => rfl
  | cons p l ih =>
    obtain ⟨q, v⟩ := p
    by_cases hq : q = k
    · subst hq
      simpa [List.filter, findField, Ne.symm h] using ih
    · by_cases hk : q = k'
      · subst hk
        simp [findField, hq]
      · simpa [List.filter, findField, hq, hk] using ih

/-- A field reads what was written to it, within its width; every other field reads as before. -/
theorem State.get_set (s : State) (k k' : Key) (v : Nat) : (s.set k v).get k' = if k = k' then v % 2 ^ k.w else s.get k' := by
  by_cases h : k = k'
  · subst h
    simp [State.get, State.set, findField]
  · simp only [State.get, State.set, findField, h, if_false]
    rw [findField_filter_ne k k' (Ne.symm h)]

@[simp] theorem State.get_set_self (s : State) (k : Key) (v : Nat) : (s.set k v).get k = v % 2 ^ k.w := by simp [State.get_set]

theorem State.get_set_ne (s : State) {k k' : Key} (v : Nat) (h : k ≠ k') : (s.set k v).get k' = s.get k' := by simp [State.get_set, h]

/-- A field never exceeds its width. -/
theorem State.get_lt (s : State) (k : Key) : s.get k < 2 ^ k.w := Nat.mod_lt _ (Nat.two_pow_pos _)

/-- Reads depend on the fields alone. -/
theorem State.get_of_fields {s t : State} (h : t.fields = s.fields) (k : Key) : t.get k = s.get k := by simp [State.get, h]

@[simp] theorem State.sets_nil (s : State) : s.sets [] = s := rfl
@[simp] theorem State.sets_cons (s : State) (k : Key) (v : Nat) (l : List (Key × Nat)) : s.sets ((k, v) :: l) = (s.set k v).sets l := rfl
@[simp] theorem State.flag_eq (s : State) (k : Key) : s.flag k = s.set k 1 := rfl
@[simp] theorem State.clr_eq (s : State) (k : Key) : s.clr k = s.set k 0 := rfl
@[simp] theorem State.when_true (s : State) (f : State → State) : s.when true f = f s := rfl
@[simp] theorem State.when_false (s : State) (f : State → State) : s.when false f = s := rfl
@[simp] theorem State.get_emit (s : State) (o : Output) (k : Key) : (s.emit o).get k = s.get k := rfl
@[simp] theorem State.get_segStore (s : State) (a : Nat) (l : List (BitVec 8)) (k : Key) : (s.segStore a l).get k = s.get k := rfl
@[simp] theorem State.get_spStore (s : State) (a : Nat) (l : List (BitVec 8)) (k : Key) : (s.spStore a l).get k = s.get k := rfl

/-- A key that is forgotten reads its reset value; every other key reads as before. -/
theorem State.get_resetKeys (s : State) (p : Key → Bool) (k : Key) : (s.resetKeys p).get k = if p k then regReset k % 2 ^ k.w else s.get k := by
  have h : findField k (s.fields.filter (fun q => !p q.1)) = if p k then none else findField k s.fields := by
    induction s.fields with
    | nil => simp [findField]
    | cons q l ih =>
      obtain ⟨q, v⟩ := q
      by_cases hq : q = k
      · subst hq
        cases hp : p q <;> simp_all [List.filter, findField]
      · cases hp : p q <;> simp_all [List.filter, findField]
  cases hp : p k <;> simp_all [State.get, State.resetKeys]

end Sys2Proof.Machine
end

