-- ==== Sys2Proof/Laws/Ops.lean ====
section
/-!
SUPPORT. The shared operations: what each can do and what it leaves alone, said once.
-/
namespace Sys2Proof.Machine

/-! ### Frames compose -/

theorem Frame.refl (s : State) (ps : List Part) (p : Key → Bool) : Frame s s ps p := ⟨fun x _ => by cases x <;> rfl, fun _ _ => rfl⟩

theorem Part.same_trans {s t u : State} {x : Part} (h : Part.same s t x) (g : Part.same t u x) : Part.same s u x := by
  cases x <;> exact Eq.trans g h

theorem Frame.trans {s t u : State} {ps : List Part} {p : Key → Bool} (h : Frame s t ps p) (g : Frame t u ps p) : Frame s u ps p :=
  ⟨fun x hx => Part.same_trans (h.1 x hx) (g.1 x hx), fun k hk => (g.2 k hk).trans (h.2 k hk)⟩

theorem Frame.mono {s t : State} {ps qs : List Part} {p q : Key → Bool} (h : Frame s t ps p) (hp : ∀ x ∈ ps, x ∈ qs)
    (hk : ∀ k, p k = true → q k = true) : Frame s t qs q := by
  refine ⟨fun x hx => h.1 x (fun hm => hx (hp x hm)), fun k hq => h.2 k ?_⟩
  cases e : p k
  · rfl
  · exact absurd (hk k e) (by simp [hq])

theorem Frame.get {s t : State} {ps : List Part} {p : Key → Bool} (h : Frame s t ps p) {k : Key} (hk : p k = false) : t.get k = s.get k := h.2 k hk

/-- A fold of changes leaves alone what each of them leaves alone. -/
theorem Frame.each {α : Type} (ps : List Part) (p : Key → Bool) (f : α → State → State) (l : List α)
    (h : ∀ x ∈ l, ∀ a, Frame a (f x a) ps p) (s : State) : Frame s (s.each l f) ps p := by
  induction l generalizing s with
  | nil => exact Frame.refl s ps p
  | cons x l ih => exact (h x (by simp) s).trans (ih (fun y hy => h y (by simp [hy])) (f x s))

theorem Frame.when {s : State} {ps : List Part} {p : Key → Bool} (c : Bool) (f : State → State) (h : Frame s (f s) ps p) : Frame s (s.when c f) ps p := by
  cases c
  · exact Frame.refl s ps p
  · exact h

theorem Frame.set (s : State) (k : Key) (v : Nat) {ps : List Part} {p : Key → Bool} (h : p k = true) : Frame s (s.set k v) ps p := by
  refine ⟨fun x _ => by cases x <;> rfl, fun k' hk => State.get_set_ne s v ?_⟩
  intro e
  subst e
  simp [h] at hk

theorem Frame.sets (s : State) (l : List (Key × Nat)) {ps : List Part} {p : Key → Bool} (h : ∀ q ∈ l, p q.1 = true) : Frame s (s.sets l) ps p := by
  induction l generalizing s with
  | nil => exact Frame.refl s ps p
  | cons q l ih =>
    obtain ⟨k, v⟩ := q
    exact (Frame.set s k v (h (k, v) (by simp))).trans (ih _ (fun q hq => h q (by simp [hq])))

/-! ### Fields -/

@[simp] theorem State.get_bump (s : State) (k k' : Key) (n : Nat) :
    (s.bump k n).get k' = if k = k' then min (s.get k + n) (2 ^ k.w - 1) else s.get k' := by
  have h : min (s.get k + n) (2 ^ k.w - 1) % 2 ^ k.w = min (s.get k + n) (2 ^ k.w - 1) := by
    apply Nat.mod_eq_of_lt
    have := Nat.two_pow_pos k.w
    omega
  simp only [State.bump, State.get_set, h]

theorem State.get_bumpWrap (s : State) (k k' : Key) (n : Nat) :
    (s.bumpWrap k n).get k' = if k = k' then (s.get k + n) % 2 ^ k.w else s.get k' := State.get_set _ _ _ _

theorem State.get_seti (s : State) (k k' : Key) (v : Int) : (s.seti k v).get k' = if k = k' then ux k.w v % 2 ^ k.w else s.get k' := State.get_set _ _ _ _

theorem State.get_set2 (s : State) (lo hi k : Key) (v : Nat) :
    (s.set2 lo hi v).get k = if hi = k then v / 2 ^ lo.w % 2 ^ hi.w else if lo = k then v % 2 ^ lo.w else s.get k := by
  simp [State.set2, State.get_set]

/-- A pair of fields never exceeds its width. -/
theorem State.get2_lt (s : State) (lo hi : Key) : s.get2 lo hi < 2 ^ lo.w * 2 ^ hi.w := by
  have h1 := s.get_lt lo
  have h2 := s.get_lt hi
  have h3 : (s.get hi + 1) * 2 ^ lo.w ≤ 2 ^ hi.w * 2 ^ lo.w := Nat.mul_le_mul_right _ h2
  simp only [State.get2]
  nlinarith

theorem State.get_mod_of_le (s : State) (k : Key) {n : Nat} (h : 2 ^ k.w ≤ n) : s.get k % n = s.get k := Nat.mod_eq_of_lt (lt_of_lt_of_le (s.get_lt k) h)

theorem State.get2_mod_of_le (s : State) (lo hi : Key) {n : Nat} (h : 2 ^ lo.w * 2 ^ hi.w ≤ n) : s.get2 lo hi % n = s.get2 lo hi :=
  Nat.mod_eq_of_lt (lt_of_lt_of_le (s.get2_lt lo hi) h)

@[simp] theorem State.is_set (s : State) (k k' : Key) (v : Nat) : (s.set k v).is k' = if k = k' then v % 2 ^ k.w == 1 else s.is k' := by
  by_cases h : k = k' <;> simp [State.is, State.get_set, h]

/-- What a list of writes leaves in a field: the last value written to it. -/
theorem State.get_sets_of_not_named (s : State) (l : List (Key × Nat)) (k : Key) (h : named l k = false) : (s.sets l).get k = s.get k := by
  induction l generalizing s with
  | nil => rfl
  | cons q l ih =>
    obtain ⟨k', v⟩ := q
    simp only [named, List.any_cons, Bool.or_eq_false_iff, beq_eq_false_iff_ne] at h
    rw [State.sets_cons, ih _ h.2, State.get_set_ne _ _ h.1]

/-- A projection that every change of a fold keeps is kept by the fold. -/
theorem State.each_keeps {α β : Type} (π : State → β) (f : α → State → State) (l : List α) (h : ∀ x a, π (f x a) = π a) (s : State) :
    π (s.each l f) = π s := by
  induction l generalizing s with
  | nil => rfl
  | cons x l ih => exact (ih (f x s)).trans (h x s)

theorem State.when_keeps {β : Type} (π : State → β) (c : Bool) (f : State → State) (s : State) (h : π (f s) = π s) : π (s.when c f) = π s := by
  cases c
  · rfl
  · exact h

@[simp] theorem State.each_nil {α : Type} (s : State) (f : α → State → State) : s.each [] f = s := rfl
@[simp] theorem State.each_cons {α : Type} (s : State) (x : α) (l : List α) (f : α → State → State) : s.each (x :: l) f = (f x s).each l f := rfl

/-! ### The archive and the ledger -/

theorem State.accept_frame (s : State) (e : List Nat) : Frame s (s.accept e) [.arcBuf] archiveLoss := by
  unfold State.accept
  split
  · refine ⟨fun x hx => ?_, fun _ _ => rfl⟩
    cases x <;> first | rfl | simp at hx
  · exact (Frame.set s _ _ (by decide)).trans (Frame.set _ _ _ (by decide))

theorem State.accept_archived (s : State) (e : List Nat) : Archived s (s.accept e) e := by
  unfold State.accept Archived
  by_cases h : s.arcBuf.length < 1024
  · simp [h]
  · simp only [h, if_false]
    refine ⟨rfl, by simp, ?_⟩
    simp [State.get_set]

theorem State.archive_frame (s : State) (type unit tick : Nat) (p : List Nat) (fx : Bool) :
    Frame s (s.archive type unit tick p fx) [.arcBuf] archiveLoss := State.accept_frame _ _

theorem State.mark_frame (s : State) (k : Nat) (m : List (Nat × Nat)) : Frame s (s.mark k m) [] (fun x => x.r == .IC_LDG && x.i == k && decide (8 ≤ x.j)) :=
  Frame.each _ _ _ _ (fun x _ a => Frame.set a _ _ (by simp)) s

/-- A raise touches the entry of its cause, and the archive (R335). -/
theorem State.raise_frame (s : State) (k unit detail : Nat) (m : List (Nat × Nat)) :
    Frame s (s.raise k unit detail m) [.arcBuf] (fun x => ledgerOf k x || archiveLoss x) := by
  have hm : ∀ a : State, Frame a (a.mark k m) [.arcBuf] (fun x => ledgerOf k x || archiveLoss x) := fun a =>
    (State.mark_frame a k m).mono (by simp) (fun x hx => by simp [ledgerOf] at hx ⊢; simp [hx])
  have hs : ∀ (a : State) (q : Key) (v : Nat), q.r = .IC_LDG → q.i = k → Frame a (a.set q v) [.arcBuf] (fun x => ledgerOf k x || archiveLoss x) :=
    fun a q v h1 h2 => Frame.set a q v (by simp [ledgerOf, h1, h2])
  unfold State.raise
  split
  · refine Frame.trans ?_ (hm _)
    have h2 : ∀ (a : State) (j j' v : Nat), Frame a (a.set2 ⟨.IC_LDG, k, j, 0, 32⟩ ⟨.IC_LDG, k, j', 0, 32⟩ v) [.arcBuf] (fun x => ledgerOf k x || archiveLoss x) :=
      fun a j j' v => (hs _ _ _ rfl rfl).trans (hs _ _ _ rfl rfl)
    exact ((hs _ _ _ rfl rfl).trans (h2 _ _ _ _)).trans (Frame.when _ _ (hs _ _ _ rfl rfl))
  · refine Frame.trans ?_ ((State.archive_frame _ _ _ _ _ _).mono (fun _ h => h) (fun x hx => by simp [hx]))
    refine Frame.trans ?_ (hm _)
    have h2 : ∀ (a : State) (j j' v : Nat), Frame a (a.set2 ⟨.IC_LDG, k, j, 0, 32⟩ ⟨.IC_LDG, k, j', 0, 32⟩ v) [.arcBuf] (fun x => ledgerOf k x || archiveLoss x) :=
      fun a j j' v => (hs _ _ _ rfl rfl).trans (hs _ _ _ rfl rfl)
    exact (Frame.sets _ _ (by simp [ledgerOf])).trans ((h2 _ _ _ _).trans (h2 _ _ _ _))

theorem State.raiseOnce_frame (s : State) (k unit detail : Nat) (m : List (Nat × Nat)) :
    Frame s (s.raiseOnce k unit detail m) [.arcBuf] (fun x => ledgerOf k x || archiveLoss x) := by
  unfold State.raiseOnce
  split
  · exact (State.mark_frame s k m).mono (by simp) (fun x hx => by simp [ledgerOf] at hx ⊢; simp [hx])
  · exact State.raise_frame s k unit detail m

/-- A fault of a dependent unit touches the resource's entry or its own (R336). -/
theorem State.report_frame (s : State) (res k unit detail : Nat) (m : List (Nat × Nat)) :
    Frame s (s.report res k unit detail m) [.arcBuf] (fun x => ledgerOf res x || ledgerOf k x || archiveLoss x) := by
  unfold State.report
  split
  · exact (State.mark_frame s res m).mono (by simp) (fun x hx => by simp [ledgerOf] at hx ⊢; simp [hx])
  · exact (State.raise_frame s k unit detail m).mono (fun _ h => h) (fun x hx => by simp at hx ⊢; tauto)

/-- A raise does what R335 says of its entry. -/
theorem State.raise_raised (s : State) (k unit detail : Nat) (m : List (Nat × Nat)) : Raised s (s.raise k unit detail m) k unit detail := by
  have hk : ∀ (a : State) (q : Key), q.j < 8 → (a.mark k m).get q = a.get q := fun a q hq =>
    (State.mark_frame a k m).get (by simp; omega)
  have ha : ∀ (a : State) (ty u ti : Nat) (p : List Nat) (q : Key), q.r = .IC_LDG → (a.archive ty u ti p).get q = a.get q := fun a ty u ti p q hq =>
    (State.archive_frame a ty u ti p false).get (by
      obtain ⟨r, i, j, lo, w⟩ := q
      subst hq
      simp [archiveLoss])
  have hw : s.tick % 4294967296 + s.tick / 4294967296 % 4294967296 * 4294967296 = s.tick % 18446744073709551616 := by omega
  unfold Raised State.raise
  cases h : s.is (Fld.LDG_ACTIVE k)
  · simp [State.is, State.get2, hk, ha, State.get_set2, State.get_set, State.now, hw]
  · have h1 : s.get (Fld.LDG_ACTIVE k) = 1 := by simpa [State.is] using h
    cases k == 8 || k == 21 || k == 22 <;>
      simp [State.is, State.get2, hk, State.get_set2, State.get_set, State.now, hw, State.when, h1]

/-! ### Producers -/

theorem State.pulse_frame (s : State) (p : Nat) (o : Option Nat) : Frame s (s.pulse p o) [.edges] (fun _ => false) := by
  unfold State.pulse
  split
  · exact Frame.refl _ _ _
  · refine ⟨fun x hx => ?_, fun _ _ => rfl⟩
    cases x <;> first | rfl | simp at hx

theorem State.post_frame (s : State) (r : RName) (i j v : Nat) : Frame s (s.post r i j v) [.posted] (fun _ => false) := by
  unfold State.post
  dsimp only
  split <;> refine ⟨fun x hx => ?_, fun _ _ => rfl⟩ <;> cases x <;> first | rfl | simp at hx

/-! ### Host accesses -/

theorem State.onHost_open (s : State) (f : State → State) (h : s.hostOpen = true) : s.onHost f = f s := by
  simp [State.hostOpen] at h
  simp [State.onHost, State.asleep, h.1, h.2]

theorem State.asPriv_open (s : State) (pf : Nat) (f : State → State) (h : s.hostOpen = true) (hp : s.privileged pf = true) : s.asPriv pf f = f s := by
  rw [State.asPriv, State.onHost_open _ _ h]
  simp [State.asPrivAon, hp]

end Sys2Proof.Machine
end

