-- ==== Sys2Proof/Laws/Parks.lean ====
section
/-!
SUPPORT. Park reasons: what a set or cleared reason does to a channel or a port, and to all of them (R237, R246).
-/
namespace Sys2Proof.Machine

/-- Taking away a bit that is set clears it and no other. -/
theorem testBit_sub_bit (v b c : Nat) (h : v.testBit b = true) : (v - 2 ^ b).testBit c = if c = b then false else v.testBit c := by
  obtain ⟨y, rfl⟩ : ∃ y, v = 2 ^ b + y := ⟨v - 2 ^ b, by have := Nat.ge_two_pow_of_testBit h; omega⟩
  rw [Nat.testBit_two_pow_add_eq] at h
  simp only [Nat.add_sub_cancel_left]
  rcases Nat.lt_trichotomy c b with hc | rfl | hc
  · rw [Nat.testBit_two_pow_add_gt hc, if_neg (by omega)]
  · simpa using h
  · obtain ⟨d, rfl⟩ := Nat.exists_eq_add_of_lt hc
    have hy : y / 2 ^ b % 2 = 0 := by
      have : y.testBit b = false := by simpa using h
      simpa [Nat.testBit_eq_decide_div_mod_eq] using this
    have hd : ∀ x : Nat, x.testBit (b + d + 1) = (x / 2 ^ b / 2).testBit d := by
      intro x
      rw [Nat.div_div_eq_div_mul, ← Nat.pow_succ, Nat.testBit_div_two_pow]
      congr 1
      omega
    rw [if_neg (by omega), hd, hd, Nat.add_div_left _ (Nat.two_pow_pos b)]
    congr 1
    omega

theorem putBit_testBit (v b : Nat) (on : Bool) (c : Nat) : (putBit v b on).testBit c = if c = b then on else v.testBit c := by
  cases on
  · by_cases h : v.testBit b = true
    · simp only [putBit, h, Bool.false_eq_true, if_false, if_true, Nat.one_shiftLeft, testBit_sub_bit v b c h]
    · by_cases hc : c = b
      · subst hc; simp [putBit, h]
      · simp [putBit, h, hc]
  · simp only [putBit, if_true, Nat.testBit_or, Nat.one_shiftLeft, Nat.testBit_two_pow]
    by_cases hc : c = b
    · subst hc; simp
    · simp [hc, Ne.symm hc]

theorem State.hardStatus_frame (s : State) (n : Nat) : Frame s (s.hardStatus n) [] (fun x => x == Fld.CH_STATUS_HARD n) :=
  Frame.set s _ _ (by simp)

theorem State.chPark_frame (s : State) (n b : Nat) (on : Bool) : Frame s (s.chPark n b on) [] (parkOfChannel n) := by
  unfold State.chPark
  dsimp only
  split
  · exact Frame.refl _ _ _
  · refine Frame.trans ?_ ((State.hardStatus_frame _ n).mono (by simp) (fun x hx => by simp [parkOfChannel] at hx ⊢; simp [hx]))
    refine Frame.trans ?_ (Frame.when _ _ (Frame.set _ _ _ (by simp [parkOfChannel])))
    exact Frame.sets _ _ (by simp [parkOfChannel])

theorem State.ppPark_frame (s : State) (p b : Nat) (on : Bool) : Frame s (s.ppPark p b on) [] (parkOfPort p) := by
  unfold State.ppPark
  dsimp only
  split
  · exact Frame.refl _ _ _
  · exact Frame.sets _ _ (by simp [parkOfPort])

theorem State.parkAll_frame (s : State) (b : Nat) (on : Bool) : Frame s (s.parkAll b on) [] parkAny := by
  unfold State.parkAll
  refine Frame.trans (Frame.each _ _ _ _ (fun n _ a => (State.chPark_frame a n b on).mono (by simp) ?_) s)
    (Frame.each _ _ _ _ (fun p _ a => (State.ppPark_frame a p b on).mono (by simp) ?_) _)
  · intro k hk
    simp only [parkOfChannel, Bool.or_eq_true, beq_iff_eq] at hk
    rcases hk with ((rfl | rfl) | rfl) | rfl <;> simp [parkAny, parkOfChannel]
  · intro k hk
    simp only [parkOfPort, Bool.or_eq_true, beq_iff_eq] at hk
    rcases hk with rfl | rfl <;> simp [parkAny, parkOfPort]

/-- The reasons of channel `n` after one of them has been set or cleared. -/
theorem State.chPark_reason (s : State) (n b : Nat) (on : Bool) (c : Nat) (hb : b < 11) :
    ((s.chPark n b on).get (Fld.CH_PARK_SRC_REASON n)).testBit c = if c = b then on else (s.get (Fld.CH_PARK_SRC_REASON n)).testBit c := by
  unfold State.chPark
  dsimp only
  split
  · rename_i h
    by_cases hc : c = b
    · subst hc; simpa using h
    · simp [hc]
  · rw [(State.hardStatus_frame _ n).get (by simp), State.when_keeps (fun a => a.get (Fld.CH_PARK_SRC_REASON n)) _ _ _ (by simp [State.get_set])]
    have hs : ∀ a : State, ((a.sets [(Fld.CH_PARK_SRC_REASON n, putBit (s.get (Fld.CH_PARK_SRC_REASON n)) b on), (Fld.CH_EVT_PARK_CHG n, 1)]).get
        (Fld.CH_PARK_SRC_REASON n)) = putBit (s.get (Fld.CH_PARK_SRC_REASON n)) b on % 2 ^ 11 := fun a => by simp [State.get_set]
    rw [hs, Nat.testBit_mod_two_pow, putBit_testBit]
    by_cases h11 : c < 11
    · simp [h11]
    · have hf : (s.get (Fld.CH_PARK_SRC_REASON n)).testBit c = false := by
        apply Nat.testBit_lt_two_pow
        exact lt_of_lt_of_le (s.get_lt _) (Nat.pow_le_pow_right (by norm_num) (by simp; omega))
      have hc : c ≠ b := by omega
      simp [h11, hc, hf]

/-- A reason set or cleared for all channels and ports stands so on every channel. -/
theorem State.parkAll_reason (s : State) (b : Nat) (on : Bool) (hb : b < 11) (n : Nat) (hn : n < 32) :
    ((s.parkAll b on).get (Fld.CH_PARK_SRC_REASON n)).testBit b = on := by
  unfold State.parkAll
  have h1 : ∀ (l : List Nat) (a : State), (a.each l (fun p a => a.ppPark p b on)).get (Fld.CH_PARK_SRC_REASON n) = a.get (Fld.CH_PARK_SRC_REASON n) :=
    fun l a => State.each_keeps (fun a => a.get (Fld.CH_PARK_SRC_REASON n)) _ _ (fun p a => (State.ppPark_frame a p b on).get (by simp [parkOfPort])) a
  have h2 : ∀ (l : List Nat) (a : State), (n ∈ l ∨ (a.get (Fld.CH_PARK_SRC_REASON n)).testBit b = on) →
      ((a.each l (fun n a => a.chPark n b on)).get (Fld.CH_PARK_SRC_REASON n)).testBit b = on := by
    intro l
    induction l with
    | nil => intro a h; simpa using h
    | cons m l ih =>
      intro a h
      refine ih _ ?_
      by_cases hm : m = n
      · subst hm
        exact Or.inr (by simp [State.chPark_reason _ _ _ _ _ hb])
      · rcases h with h | h
        · simp only [List.mem_cons] at h
          exact Or.inl (h.resolve_left (fun e => hm e.symm))
        · refine Or.inr ?_
          rw [(State.chPark_frame a m b on).get (by simp [parkOfChannel]; omega)]
          exact h
  rw [h1]
  exact h2 _ _ (Or.inl (by simp [hn]))

end Sys2Proof.Machine
end

