-- ==== Sys2Proof/Laws/Frames.lean ====
section
/-!
SUPPORT. How a frame is read off a definition: each lemma takes the outermost change of a state away.
-/
namespace Sys2Proof.Machine

section
variable {s a b : State} {ps qs : List Part} {p q : Key → Bool}

theorem among_sub {l rs : List RName} (h : l.all rs.contains = true) (k : Key) (hx : among l k = true) : among rs k = true := by
  have hm : k.r ∈ l := by simpa [among] using hx
  simpa [among] using List.all_eq_true.mp h _ hm

/-- A change with a smaller frame. -/
theorem Frame.via (h : Frame a b qs q) (hp : qs.all ps.contains = true) (hk : ∀ k, q k = true → p k = true) (g : Frame s a ps p) : Frame s b ps p :=
  g.trans (h.mono (fun x hx => by simpa using List.all_eq_true.mp hp x hx) hk)

theorem Frame.put {k : Key} {v : Nat} (h : p k = true) (g : Frame s a ps p) : Frame s (a.set k v) ps p := g.trans (Frame.set a k v h)

theorem Frame.puts {m : List (Key × Nat)} (h : ∀ q ∈ m, p q.1 = true) (g : Frame s a ps p) : Frame s (a.sets m) ps p := g.trans (Frame.sets a m h)

theorem Frame.putsCons {k : Key} {v : Nat} {m : List (Key × Nat)} (h : p k = true) (g : Frame s ((a.set k v).sets m) ps p) : Frame s (a.sets ((k, v) :: m)) ps p := g

theorem Frame.putFlag {k : Key} (h : p k = true) (g : Frame s a ps p) : Frame s (a.flag k) ps p := g.put h

theorem Frame.putClr {k : Key} (h : p k = true) (g : Frame s a ps p) : Frame s (a.clr k) ps p := g.put h

theorem Frame.putBump {k : Key} {n : Nat} (h : p k = true) (g : Frame s a ps p) : Frame s (a.bump k n) ps p := g.put h

theorem Frame.putBumpWrap {k : Key} {n : Nat} (h : p k = true) (g : Frame s a ps p) : Frame s (a.bumpWrap k n) ps p := g.put h

theorem Frame.putSeti {k : Key} {v : Int} (h : p k = true) (g : Frame s a ps p) : Frame s (a.seti k v) ps p := g.put h

theorem Frame.put2 {k k' : Key} {v : Nat} (h : p k = true) (h' : p k' = true) (g : Frame s a ps p) : Frame s (a.set2 k k' v) ps p := (g.put h).put h'

theorem Frame.putSetBit {key : Nat → Key} {n : Nat} (h : ∀ j, p (key j) = true) (g : Frame s a ps p) : Frame s (a.setBit key n) ps p := g.put (h _)

theorem Frame.putClrBit {key : Nat → Key} {n : Nat} (h : ∀ j, p (key j) = true) (g : Frame s a ps p) : Frame s (a.clrBit key n) ps p := by
  unfold State.clrBit
  split
  · exact g.put (h _)
  · exact g

theorem Frame.putDwords {key : Nat → Key} {j n v : Nat} (h : ∀ j, p (key j) = true) (g : Frame s a ps p) : Frame s (a.setDwords key j n v) ps p := by
  induction n generalizing a j v with
  | zero => exact g
  | succ n ih => exact ih (g.put (h _))

theorem Frame.putPersist {k : Nat} {c : Bool} (h : p (Fld.LDG_PERSIST k) = true) (g : Frame s a ps p) : Frame s (a.persist k c) ps p := g.put h

theorem Frame.forget {f : Key → Bool} (h : ∀ k, f k = true → p k = true) (g : Frame s a ps p) : Frame s (a.resetKeys f) ps p := by
  refine g.trans ⟨fun x _ => by cases x <;> rfl, fun k hk => ?_⟩
  rw [State.get_resetKeys]
  cases e : f k
  · rfl
  · exact absurd (h k e) (by simp [hk])

theorem Frame.step {c : Bool} {f : State → State} (h : Frame a (f a) ps p) (g : Frame s a ps p) : Frame s (a.when c f) ps p :=
  g.trans (Frame.when c f h)

theorem Frame.steps {α : Type} {m : List α} {f : α → State → State} (h : ∀ x a, Frame a (f x a) ps p) (g : Frame s a ps p) :
    Frame s (a.each m f) ps p := g.trans (Frame.each _ _ f m (fun x _ b => h x b) a)

/-- A host write changes what its effect changes, or reports that it was dropped. -/
theorem Frame.host {f : State → State} (hk : p Fld.AON_PWR_EVT_SLEEP_ACCESS = true) (h : Frame a (f a) ps p) (g : Frame s a ps p) :
    Frame s (a.onHost f) ps p := by
  unfold State.onHost
  split
  · exact g.put hk
  · split
    · exact g
    · exact g.trans h

theorem Frame.privAon {pf : Nat} {f : State → State} (hk : p Fld.SYS_HIF_EVT_PRIV_DENIED = true) (h : Frame a (f a) ps p) (g : Frame s a ps p) :
    Frame s (a.asPrivAon pf f) ps p := by
  unfold State.asPrivAon
  split
  · exact g.trans h
  · exact g.put hk

theorem Frame.priv {pf : Nat} {f : State → State} (h1 : p Fld.AON_PWR_EVT_SLEEP_ACCESS = true) (h2 : p Fld.SYS_HIF_EVT_PRIV_DENIED = true)
    (h : Frame a (f a) ps p) (g : Frame s a ps p) : Frame s (a.asPriv pf f) ps p :=
  Frame.host h1 (Frame.privAon h2 h (Frame.refl a ps p)) g

theorem Frame.choose {c : Prop} [Decidable c] (h : c → Frame s a ps p) (g : ¬c → Frame s b ps p) : Frame s (if c then a else b) ps p := by
  by_cases e : c
  · simpa [e] using h e
  · simpa [e] using g e

/-- Any field may change. -/
abbrev anyKey : Key → Bool := fun _ => true

theorem anyKey_sub (k : Key) (_ : q k = true) : anyKey k = true := rfl

/-! ### One part is replaced -/

theorem Frame.on_tick {x} (h : ps.contains .tick = true) (g : Frame s a ps p) : Frame s { a with tick := x } ps p :=
  g.trans ⟨fun y hy => by cases y <;> first | rfl | exact absurd (by simpa using h) hy, fun _ _ => rfl⟩

theorem Frame.on_mem {x} (h : ps.contains .mem = true) (g : Frame s a ps p) : Frame s { a with mem := x } ps p :=
  g.trans ⟨fun y hy => by cases y <;> first | rfl | exact absurd (by simpa using h) hy, fun _ _ => rfl⟩

theorem Frame.on_sp {x} (h : ps.contains .sp = true) (g : Frame s a ps p) : Frame s { a with sp := x } ps p :=
  g.trans ⟨fun y hy => by cases y <;> first | rfl | exact absurd (by simpa using h) hy, fun _ _ => rfl⟩

theorem Frame.on_loans {x} (h : ps.contains .loans = true) (g : Frame s a ps p) : Frame s { a with loans := x } ps p :=
  g.trans ⟨fun y hy => by cases y <;> first | rfl | exact absurd (by simpa using h) hy, fun _ _ => rfl⟩

theorem Frame.on_engines {x} (h : ps.contains .engines = true) (g : Frame s a ps p) : Frame s { a with engines := x } ps p :=
  g.trans ⟨fun y hy => by cases y <;> first | rfl | exact absurd (by simpa using h) hy, fun _ _ => rfl⟩

theorem Frame.on_events {x} (h : ps.contains .events = true) (g : Frame s a ps p) : Frame s { a with events := x } ps p :=
  g.trans ⟨fun y hy => by cases y <;> first | rfl | exact absurd (by simpa using h) hy, fun _ _ => rfl⟩

theorem Frame.on_heads {x} (h : ps.contains .heads = true) (g : Frame s a ps p) : Frame s { a with heads := x } ps p :=
  g.trans ⟨fun y hy => by cases y <;> first | rfl | exact absurd (by simpa using h) hy, fun _ _ => rfl⟩

theorem Frame.on_ranges {x} (h : ps.contains .ranges = true) (g : Frame s a ps p) : Frame s { a with ranges := x } ps p :=
  g.trans ⟨fun y hy => by cases y <;> first | rfl | exact absurd (by simpa using h) hy, fun _ _ => rfl⟩

theorem Frame.on_caps {x} (h : ps.contains .caps = true) (g : Frame s a ps p) : Frame s { a with caps := x } ps p :=
  g.trans ⟨fun y hy => by cases y <;> first | rfl | exact absurd (by simpa using h) hy, fun _ _ => rfl⟩

theorem Frame.on_measures {x} (h : ps.contains .measures = true) (g : Frame s a ps p) : Frame s { a with measures := x } ps p :=
  g.trans ⟨fun y hy => by cases y <;> first | rfl | exact absurd (by simpa using h) hy, fun _ _ => rfl⟩

theorem Frame.on_tables {x} (h : ps.contains .tables = true) (g : Frame s a ps p) : Frame s { a with tables := x } ps p :=
  g.trans ⟨fun y hy => by cases y <;> first | rfl | exact absurd (by simpa using h) hy, fun _ _ => rfl⟩

theorem Frame.on_lines {x} (h : ps.contains .lines = true) (g : Frame s a ps p) : Frame s { a with lines := x } ps p :=
  g.trans ⟨fun y hy => by cases y <;> first | rfl | exact absurd (by simpa using h) hy, fun _ _ => rfl⟩

theorem Frame.on_factory {x} (h : ps.contains .factory = true) (g : Frame s a ps p) : Frame s { a with factory := x } ps p :=
  g.trans ⟨fun y hy => by cases y <;> first | rfl | exact absurd (by simpa using h) hy, fun _ _ => rfl⟩

theorem Frame.on_ovrRows {x} (h : ps.contains .ovrRows = true) (g : Frame s a ps p) : Frame s { a with ovrRows := x } ps p :=
  g.trans ⟨fun y hy => by cases y <;> first | rfl | exact absurd (by simpa using h) hy, fun _ _ => rfl⟩

theorem Frame.on_deltas {x} (h : ps.contains .deltas = true) (g : Frame s a ps p) : Frame s { a with deltas := x } ps p :=
  g.trans ⟨fun y hy => by cases y <;> first | rfl | exact absurd (by simpa using h) hy, fun _ _ => rfl⟩

theorem Frame.on_calSets {x} (h : ps.contains .calSets = true) (g : Frame s a ps p) : Frame s { a with calSets := x } ps p :=
  g.trans ⟨fun y hy => by cases y <;> first | rfl | exact absurd (by simpa using h) hy, fun _ _ => rfl⟩

theorem Frame.on_calPends {x} (h : ps.contains .calPends = true) (g : Frame s a ps p) : Frame s { a with calPends := x } ps p :=
  g.trans ⟨fun y hy => by cases y <;> first | rfl | exact absurd (by simpa using h) hy, fun _ _ => rfl⟩

theorem Frame.on_rxs {x} (h : ps.contains .rxs = true) (g : Frame s a ps p) : Frame s { a with rxs := x } ps p :=
  g.trans ⟨fun y hy => by cases y <;> first | rfl | exact absurd (by simpa using h) hy, fun _ _ => rfl⟩

theorem Frame.on_txq {x} (h : ps.contains .txq = true) (g : Frame s a ps p) : Frame s { a with txq := x } ps p :=
  g.trans ⟨fun y hy => by cases y <;> first | rfl | exact absurd (by simpa using h) hy, fun _ _ => rfl⟩

theorem Frame.on_txs {x} (h : ps.contains .txs = true) (g : Frame s a ps p) : Frame s { a with txs := x } ps p :=
  g.trans ⟨fun y hy => by cases y <;> first | rfl | exact absurd (by simpa using h) hy, fun _ _ => rfl⟩

theorem Frame.on_bootRx {x} (h : ps.contains .bootRx = true) (g : Frame s a ps p) : Frame s { a with bootRx := x } ps p :=
  g.trans ⟨fun y hy => by cases y <;> first | rfl | exact absurd (by simpa using h) hy, fun _ _ => rfl⟩

theorem Frame.on_ownerKey {x} (h : ps.contains .ownerKey = true) (g : Frame s a ps p) : Frame s { a with ownerKey := x } ps p :=
  g.trans ⟨fun y hy => by cases y <;> first | rfl | exact absurd (by simpa using h) hy, fun _ _ => rfl⟩

theorem Frame.on_idKey {x} (h : ps.contains .idKey = true) (g : Frame s a ps p) : Frame s { a with idKey := x } ps p :=
  g.trans ⟨fun y hy => by cases y <;> first | rfl | exact absurd (by simpa using h) hy, fun _ _ => rfl⟩

theorem Frame.on_vendorKey {x} (h : ps.contains .vendorKey = true) (g : Frame s a ps p) : Frame s { a with vendorKey := x } ps p :=
  g.trans ⟨fun y hy => by cases y <;> first | rfl | exact absurd (by simpa using h) hy, fun _ _ => rfl⟩

theorem Frame.on_dmaDone {x} (h : ps.contains .dmaDone = true) (g : Frame s a ps p) : Frame s { a with dmaDone := x } ps p :=
  g.trans ⟨fun y hy => by cases y <;> first | rfl | exact absurd (by simpa using h) hy, fun _ _ => rfl⟩

theorem Frame.on_badBursts {x} (h : ps.contains .badBursts = true) (g : Frame s a ps p) : Frame s { a with badBursts := x } ps p :=
  g.trans ⟨fun y hy => by cases y <;> first | rfl | exact absurd (by simpa using h) hy, fun _ _ => rfl⟩

theorem Frame.on_offers {x} (h : ps.contains .offers = true) (g : Frame s a ps p) : Frame s { a with offers := x } ps p :=
  g.trans ⟨fun y hy => by cases y <;> first | rfl | exact absurd (by simpa using h) hy, fun _ _ => rfl⟩

theorem Frame.on_cards {x} (h : ps.contains .cards = true) (g : Frame s a ps p) : Frame s { a with cards := x } ps p :=
  g.trans ⟨fun y hy => by cases y <;> first | rfl | exact absurd (by simpa using h) hy, fun _ _ => rfl⟩

theorem Frame.on_badCards {x} (h : ps.contains .badCards = true) (g : Frame s a ps p) : Frame s { a with badCards := x } ps p :=
  g.trans ⟨fun y hy => by cases y <;> first | rfl | exact absurd (by simpa using h) hy, fun _ _ => rfl⟩

theorem Frame.on_edges {x} (h : ps.contains .edges = true) (g : Frame s a ps p) : Frame s { a with edges := x } ps p :=
  g.trans ⟨fun y hy => by cases y <;> first | rfl | exact absurd (by simpa using h) hy, fun _ _ => rfl⟩

theorem Frame.on_pulses {x} (h : ps.contains .pulses = true) (g : Frame s a ps p) : Frame s { a with pulses := x } ps p :=
  g.trans ⟨fun y hy => by cases y <;> first | rfl | exact absurd (by simpa using h) hy, fun _ _ => rfl⟩

theorem Frame.on_triggers {x} (h : ps.contains .triggers = true) (g : Frame s a ps p) : Frame s { a with triggers := x } ps p :=
  g.trans ⟨fun y hy => by cases y <;> first | rfl | exact absurd (by simpa using h) hy, fun _ _ => rfl⟩

theorem Frame.on_alignDue {x} (h : ps.contains .alignDue = true) (g : Frame s a ps p) : Frame s { a with alignDue := x } ps p :=
  g.trans ⟨fun y hy => by cases y <;> first | rfl | exact absurd (by simpa using h) hy, fun _ _ => rfl⟩

theorem Frame.on_arcBuf {x} (h : ps.contains .arcBuf = true) (g : Frame s a ps p) : Frame s { a with arcBuf := x } ps p :=
  g.trans ⟨fun y hy => by cases y <;> first | rfl | exact absurd (by simpa using h) hy, fun _ _ => rfl⟩

theorem Frame.on_posted {x} (h : ps.contains .posted = true) (g : Frame s a ps p) : Frame s { a with posted := x } ps p :=
  g.trans ⟨fun y hy => by cases y <;> first | rfl | exact absurd (by simpa using h) hy, fun _ _ => rfl⟩

theorem Frame.on_out {x} (h : ps.contains .out = true) (g : Frame s a ps p) : Frame s { a with out := x } ps p :=
  g.trans ⟨fun y hy => by cases y <;> first | rfl | exact absurd (by simpa using h) hy, fun _ _ => rfl⟩

theorem Frame.on_pending {x} (h : ps.contains .pending = true) (g : Frame s a ps p) : Frame s { a with pending := x } ps p :=
  g.trans ⟨fun y hy => by cases y <;> first | rfl | exact absurd (by simpa using h) hy, fun _ _ => rfl⟩

theorem Frame.on_free {x} (h : ps.contains .free = true) (g : Frame s a ps p) : Frame s { a with free := x } ps p :=
  g.trans ⟨fun y hy => by cases y <;> first | rfl | exact absurd (by simpa using h) hy, fun _ _ => rfl⟩

theorem Frame.on_edges_pulses {x0 x1} (h0 : ps.contains .edges = true) (h1 : ps.contains .pulses = true) (g : Frame s a ps p) :
    Frame s { a with edges := x0, pulses := x1 } ps p :=
  g.trans ⟨fun y hy => by cases y <;> first | rfl | exact absurd (by simpa using h0) hy | exact absurd (by simpa using h1) hy, fun _ _ => rfl⟩

theorem Frame.on_cards_badCards {x0 x1} (h0 : ps.contains .cards = true) (h1 : ps.contains .badCards = true) (g : Frame s a ps p) :
    Frame s { a with cards := x0, badCards := x1 } ps p :=
  g.trans ⟨fun y hy => by cases y <;> first | rfl | exact absurd (by simpa using h0) hy | exact absurd (by simpa using h1) hy, fun _ _ => rfl⟩

theorem Frame.on_pulses_triggers {x0 x1} (h0 : ps.contains .pulses = true) (h1 : ps.contains .triggers = true) (g : Frame s a ps p) :
    Frame s { a with pulses := x0, triggers := x1 } ps p :=
  g.trans ⟨fun y hy => by cases y <;> first | rfl | exact absurd (by simpa using h0) hy | exact absurd (by simpa using h1) hy, fun _ _ => rfl⟩

theorem Frame.on_calSets_calPends {x0 x1} (h0 : ps.contains .calSets = true) (h1 : ps.contains .calPends = true) (g : Frame s a ps p) :
    Frame s { a with calSets := x0, calPends := x1 } ps p :=
  g.trans ⟨fun y hy => by cases y <;> first | rfl | exact absurd (by simpa using h0) hy | exact absurd (by simpa using h1) hy, fun _ _ => rfl⟩

theorem Frame.on_txq_txs_rxs {x0 x1 x2} (h0 : ps.contains .txq = true) (h1 : ps.contains .txs = true) (h2 : ps.contains .rxs = true) (g : Frame s a ps p) :
    Frame s { a with txq := x0, txs := x1, rxs := x2 } ps p :=
  g.trans ⟨fun y hy => by cases y <;> first | rfl | exact absurd (by simpa using h0) hy | exact absurd (by simpa using h1) hy | exact absurd (by simpa using h2) hy, fun _ _ => rfl⟩

theorem Frame.on_ovrRows_deltas {x0 x1} (h0 : ps.contains .ovrRows = true) (h1 : ps.contains .deltas = true) (g : Frame s a ps p) :
    Frame s { a with ovrRows := x0, deltas := x1 } ps p :=
  g.trans ⟨fun y hy => by cases y <;> first | rfl | exact absurd (by simpa using h0) hy | exact absurd (by simpa using h1) hy, fun _ _ => rfl⟩

theorem Frame.on_events_triggers_alignDue {x0 x1 x2} (h0 : ps.contains .events = true) (h1 : ps.contains .triggers = true) (h2 : ps.contains .alignDue = true) (g : Frame s a ps p) :
    Frame s { a with events := x0, triggers := x1, alignDue := x2 } ps p :=
  g.trans ⟨fun y hy => by cases y <;> first | rfl | exact absurd (by simpa using h0) hy | exact absurd (by simpa using h1) hy | exact absurd (by simpa using h2) hy, fun _ _ => rfl⟩

theorem Frame.on_ownerKey_idKey_free {x0 x1 x2} (h0 : ps.contains .ownerKey = true) (h1 : ps.contains .idKey = true) (h2 : ps.contains .free = true) (g : Frame s a ps p) :
    Frame s { a with ownerKey := x0, idKey := x1, free := x2 } ps p :=
  g.trans ⟨fun y hy => by cases y <;> first | rfl | exact absurd (by simpa using h0) hy | exact absurd (by simpa using h1) hy | exact absurd (by simpa using h2) hy, fun _ _ => rfl⟩

theorem Frame.on_sp_mem_badBursts {x0 x1 x2} (h0 : ps.contains .sp = true) (h1 : ps.contains .mem = true) (h2 : ps.contains .badBursts = true) (g : Frame s a ps p) :
    Frame s { a with sp := x0, mem := x1, badBursts := x2 } ps p :=
  g.trans ⟨fun y hy => by cases y <;> first | rfl | exact absurd (by simpa using h0) hy | exact absurd (by simpa using h1) hy | exact absurd (by simpa using h2) hy, fun _ _ => rfl⟩

theorem Frame.on_mem_badBursts {x0 x1} (h0 : ps.contains .mem = true) (h1 : ps.contains .badBursts = true) (g : Frame s a ps p) :
    Frame s { a with mem := x0, badBursts := x1 } ps p :=
  g.trans ⟨fun y hy => by cases y <;> first | rfl | exact absurd (by simpa using h0) hy | exact absurd (by simpa using h1) hy, fun _ _ => rfl⟩

end

/-- A meaning answers a next state within a frame. -/
def Frames (s : State) (r : Res) (ps : List Part) (p : Key → Bool) : Prop := ∃ t, r = .next t ∧ Frame s t ps p

/-! ### The shared operations by register -/

/-- The registers of the ledger and of the archive writer's losses. -/
abbrev ledgerRegs : List RName := [.IC_LDG, .IC_ARC_LOST, .IC_ARC_EVT]

theorem State.acceptFrame (s : State) (e : List Nat) : Frame s (s.accept e) [.arcBuf] (among ledgerRegs) :=
  (State.accept_frame s e).mono (fun _ h => h) (fun k hk => by simp [archiveLoss] at hk; rcases hk with rfl | rfl <;> rfl)

theorem State.archiveFrame (s : State) (a b c : Nat) (l : List Nat) (f : Bool) : Frame s (s.archive a b c l f) [.arcBuf] (among ledgerRegs) :=
  State.acceptFrame s _

theorem State.raiseFrame (s : State) (k u d : Nat) (m : List (Nat × Nat)) : Frame s (s.raise k u d m) [.arcBuf] (among ledgerRegs) :=
  (State.raise_frame s k u d m).mono (fun _ h => h) (fun x hx => by
    simp only [Bool.or_eq_true, ledgerOf, Bool.and_eq_true, beq_iff_eq, archiveLoss] at hx
    rcases hx with h | rfl | rfl
    · simp [among, h.1]
    · rfl
    · rfl)

theorem State.markFrame (s : State) (k : Nat) (m : List (Nat × Nat)) : Frame s (s.mark k m) [] (among [.IC_LDG]) :=
  (State.mark_frame s k m).mono (fun _ h => h) (fun x hx => by simp at hx; simp [among, hx.1.1])

theorem State.raiseOnceFrame (s : State) (k u d : Nat) (m : List (Nat × Nat)) : Frame s (s.raiseOnce k u d m) [.arcBuf] (among ledgerRegs) := by
  unfold State.raiseOnce
  split
  · exact (State.markFrame s k m).mono (by simp) (fun x hx => by simp [among] at hx ⊢; simp [hx])
  · exact State.raiseFrame s k u d m

theorem State.reportFrame (s : State) (r k u d : Nat) (m : List (Nat × Nat)) : Frame s (s.report r k u d m) [.arcBuf] (among ledgerRegs) := by
  unfold State.report
  split
  · exact (State.markFrame s r m).mono (by simp) (fun x hx => by simp [among] at hx ⊢; simp [hx])
  · exact State.raiseFrame s k u d m

theorem State.pulseFrame (s : State) (p : Nat) (o : Option Nat) : Frame s (s.pulse p o) [.edges] (among []) :=
  (State.pulse_frame s p o).mono (fun _ h => h) (by simp)

theorem State.postFrame (s : State) (r : RName) (i j v : Nat) : Frame s (s.post r i j v) [.posted] (among []) :=
  (State.post_frame s r i j v).mono (fun _ h => h) (by simp)

theorem State.emitFrame (s : State) (o : Output) : Frame s (s.emit o) [.out] (among []) :=
  Frame.on_out rfl (Frame.refl _ _ _)

theorem State.freshFrame (s : State) (n : Nat) : Frame s (s.fresh n).2 [.free] (among []) :=
  Frame.on_free rfl (Frame.refl _ _ _)

theorem State.segStoreFrame (s : State) (x : Nat) (l : List (BitVec 8)) : Frame s (s.segStore x l) [.mem] (among []) :=
  Frame.on_mem rfl (Frame.refl _ _ _)

theorem State.spStoreFrame (s : State) (x : Nat) (l : List (BitVec 8)) : Frame s (s.spStore x l) [.sp] (among []) :=
  Frame.on_sp rfl (Frame.refl _ _ _)

end Sys2Proof.Machine
end

