-- ==== Sys2Proof/Laws/FramesOps.lean ====
section
/-!
SUPPORT. The frames of the operations of Machine/Ops.lean: the parts and registers each may change.
-/
set_option linter.unusedTactic false
set_option linter.unreachableTactic false
set_option linter.unusedVariables false
set_option linter.unusedSimpArgs false
namespace Sys2Proof.Machine

theorem State.groupOff_touches (s : State) (g : Nat) : Frame s (State.groupOff s g) [] (among [.EV_GRP_EN, .L_EVC_LOOPS]) := by
  unfold State.groupOff
  try dsimp only
  repeat' first
    | (with_reducible exact Frame.refl _ _ _)
    | ((with_reducible refine Frame.put ?_ ?_) <;> [rfl; skip])
    | ((with_reducible refine Frame.putClr ?_ ?_) <;> [rfl; skip])
    | ((with_reducible refine Frame.steps ?_ ?_) <;> [intro _ _; skip])
    | ((with_reducible refine Frame.choose ?_ ?_) <;> intro _)
    | split

theorem State.groupEnable_touches (s : State) (g : Nat) : Frame s (State.groupEnable s g) [] (among [.EV_GRP_EN]) := by
  unfold State.groupEnable
  try dsimp only
  repeat' first
    | (with_reducible exact Frame.refl _ _ _)
    | ((with_reducible refine Frame.put ?_ ?_) <;> [rfl; skip])

end Sys2Proof.Machine
end

