-- ==== Sys2Proof/Laws/FramesParks.lean ====
section
/-!
SUPPORT. The frames of the operations of Machine/Parks.lean: the parts and registers each may change.
-/
set_option linter.unusedTactic false
set_option linter.unreachableTactic false
set_option linter.unusedVariables false
set_option linter.unusedSimpArgs false
namespace Sys2Proof.Machine

theorem State.hardStatus_touches (s : State) (n : Nat) : Frame s (State.hardStatus s n) [] (among [.CH_STATUS]) := by
  unfold State.hardStatus
  try dsimp only
  repeat' first
    | (with_reducible exact Frame.refl _ _ _)
    | ((with_reducible refine Frame.put ?_ ?_) <;> [rfl; skip])
    | ((with_reducible refine Frame.choose ?_ ?_) <;> intro _)
    | split

theorem State.chEnter_touches (s : State) (n st : Nat) : Frame s (State.chEnter s n st) [] (among [.CH_STATUS]) := by
  unfold State.chEnter
  try dsimp only
  repeat' first
    | (with_reducible exact Frame.refl _ _ _)
    | ((with_reducible refine Frame.put ?_ ?_) <;> [rfl; skip])
    | ((with_reducible eapply Frame.via) <;> [(with_reducible first | apply State.hardStatus_touches); rfl; exact among_sub rfl; skip])

theorem State.chPark_touches (s : State) (n b : Nat) (on : Bool) : Frame s (State.chPark s n b on) [] (among [.CH_EVT, .CH_PARK_SRC, .CH_STATUS]) := by
  unfold State.chPark
  try dsimp only
  repeat' first
    | (with_reducible exact Frame.refl _ _ _)
    | ((with_reducible refine Frame.put ?_ ?_) <;> [rfl; skip])
    | ((with_reducible refine Frame.puts ?_ ?_) <;> [(simp [among, anyKey]; done); skip])
    | ((with_reducible refine Frame.putsCons ?_ ?_) <;> [rfl; skip])
    | ((with_reducible eapply Frame.via) <;> [(with_reducible first | apply State.hardStatus_touches); rfl; exact among_sub rfl; skip])
    | (with_reducible refine Frame.step ?_ ?_)
    | ((with_reducible refine Frame.choose ?_ ?_) <;> intro _)
    | split

theorem State.ppPark_touches (s : State) (p b : Nat) (on : Bool) : Frame s (State.ppPark s p b on) [] (among [.PP_EVT, .PP_PARK_SRC]) := by
  unfold State.ppPark
  try dsimp only
  repeat' first
    | (with_reducible exact Frame.refl _ _ _)
    | ((with_reducible refine Frame.puts ?_ ?_) <;> [(simp [among, anyKey]; done); skip])
    | ((with_reducible refine Frame.putsCons ?_ ?_) <;> [rfl; skip])
    | ((with_reducible refine Frame.choose ?_ ?_) <;> intro _)
    | split

theorem State.outOfScope_touches (s : State) (unit detail : Nat) : Frame s (State.outOfScope s unit detail) [.arcBuf] (among [.IC_ARC_EVT, .IC_ARC_LOST, .IC_LDG]) := by
  unfold State.outOfScope
  try dsimp only
  repeat' first
    | (with_reducible exact Frame.refl _ _ _)
    | ((with_reducible eapply Frame.via) <;> [(with_reducible first | apply State.raiseOnceFrame); rfl; exact among_sub rfl; skip])

theorem State.parkAll_touches (s : State) (b : Nat) (on : Bool) : Frame s (State.parkAll s b on) [] (among [.CH_EVT, .CH_PARK_SRC, .CH_STATUS, .PP_EVT, .PP_PARK_SRC]) := by
  unfold State.parkAll
  try dsimp only
  repeat' first
    | (with_reducible exact Frame.refl _ _ _)
    | ((with_reducible eapply Frame.via) <;> [(with_reducible first | apply State.chPark_touches | apply State.ppPark_touches); rfl; exact among_sub rfl; skip])
    | ((with_reducible refine Frame.steps ?_ ?_) <;> [intro _ _; skip])

theorem State.bootClear_touches (s : State) : Frame s (State.bootClear s) [] (among [.CH_EVT, .CH_PARK_SRC, .CH_STATUS, .PP_EVT, .PP_PARK_SRC]) := by
  unfold State.bootClear
  try dsimp only
  repeat' first
    | (with_reducible exact Frame.refl _ _ _)
    | ((with_reducible eapply Frame.via) <;> [(with_reducible first | apply State.chPark_touches | apply State.ppPark_touches); rfl; exact among_sub rfl; skip])
    | ((with_reducible refine Frame.steps ?_ ?_) <;> [intro _ _; skip])
    | ((with_reducible refine Frame.choose ?_ ?_) <;> intro _)
    | split

theorem State.requestStop_touches (s : State) (r t : Nat) : Frame s (State.requestStop s r t) [] (among [.REEL]) := by
  unfold State.requestStop
  try dsimp only
  repeat' first
    | (with_reducible exact Frame.refl _ _ _)
    | ((with_reducible refine Frame.put2 ?_ ?_ ?_) <;> [rfl; rfl; skip])
    | ((with_reducible refine Frame.choose ?_ ?_) <;> intro _)
    | split

theorem State.stopReels_touches (s : State) (p : Nat → Bool) : Frame s (State.stopReels s p) [] (among [.REEL]) := by
  unfold State.stopReels
  try dsimp only
  repeat' first
    | (with_reducible exact Frame.refl _ _ _)
    | ((with_reducible eapply Frame.via) <;> [(with_reducible first | apply State.requestStop_touches); rfl; exact among_sub rfl; skip])
    | ((with_reducible refine Frame.steps ?_ ?_) <;> [intro _ _; skip])

end Sys2Proof.Machine
end

