-- ==== Sys2Proof/Laws/FramesMem.lean ====
section
/-!
SUPPORT. The frames of the operations of Machine/Mem.lean: the parts and registers each may change.
-/
set_option linter.unusedTactic false
set_option linter.unreachableTactic false
set_option linter.unusedVariables false
set_option linter.unusedSimpArgs false
namespace Sys2Proof.Machine

theorem State.slotReset_touches (s : State) (n : Nat) : Frame s (State.slotReset s n) [] (among [.L_STRM_RET, .MS_STRM_CNT, .MS_STRM_FILL, .MS_STRM_PLAY]) := by
  unfold State.slotReset
  try dsimp only
  repeat' first
    | (with_reducible exact Frame.refl _ _ _)
    | ((with_reducible refine Frame.puts ?_ ?_) <;> [(simp [among, anyKey]; done); skip])
    | ((with_reducible refine Frame.putsCons ?_ ?_) <;> [rfl; skip])

theorem State.commitSlot_touches (s : State) (n kind id seq : Nat) : Frame s (State.commitSlot s n kind id seq).2 [] (among [.MS_EVT, .MS_STRM_CNT, .MS_STRM_FILL]) := by
  unfold State.commitSlot
  try dsimp only
  repeat' first
    | (with_reducible exact Frame.refl _ _ _)
    | ((with_reducible refine Frame.put ?_ ?_) <;> [rfl; skip])
    | ((with_reducible refine Frame.putFlag ?_ ?_) <;> [rfl; skip])
    | ((with_reducible refine Frame.putBump ?_ ?_) <;> [rfl; skip])
    | ((with_reducible refine Frame.choose ?_ ?_) <;> intro _)
    | split

theorem State.dropBeat_touches (s : State) (kind id addr cause : Nat) : Frame s (State.dropBeat s kind id addr cause) [.arcBuf] (among [.IC_ARC_EVT, .IC_ARC_LOST, .IC_LDG, .L_WDROP_LATCHED, .MS_EVT, .MS_WDROP_ADDR_HI, .MS_WDROP_ADDR_LO, .MS_WDROP_CNT, .MS_WDROP_SRC]) := by
  unfold State.dropBeat
  try dsimp only
  repeat' first
    | (with_reducible exact Frame.refl _ _ _)
    | ((with_reducible refine Frame.putFlag ?_ ?_) <;> [rfl; skip])
    | ((with_reducible refine Frame.putBump ?_ ?_) <;> [rfl; skip])
    | ((with_reducible refine Frame.put2 ?_ ?_ ?_) <;> [rfl; rfl; skip])
    | ((with_reducible refine Frame.puts ?_ ?_) <;> [(simp [among, anyKey]; done); skip])
    | ((with_reducible refine Frame.putsCons ?_ ?_) <;> [rfl; skip])
    | ((with_reducible eapply Frame.via) <;> [(with_reducible first | apply State.raiseOnceFrame); rfl; exact among_sub rfl; skip])
    | ((with_reducible refine Frame.choose ?_ ?_) <;> intro _)
    | split

theorem State.burstFault_touches (s : State) (b : Nat) : Frame s (State.burstFault s b) [.arcBuf] (among [.IC_ARC_EVT, .IC_ARC_LOST, .IC_LDG, .MS_ECC_CNT]) := by
  unfold State.burstFault
  try dsimp only
  repeat' first
    | (with_reducible exact Frame.refl _ _ _)
    | ((with_reducible refine Frame.putBump ?_ ?_) <;> [rfl; skip])
    | ((with_reducible eapply Frame.via) <;> [(with_reducible first | apply State.raiseFrame); rfl; exact among_sub rfl; skip])

theorem State.storeBeat_touches (s : State) (addr : Nat) (data : List (BitVec 8)) : Frame s (State.storeBeat s addr data) [.mem, .badBursts, .arcBuf] (among [.IC_ARC_EVT, .IC_ARC_LOST, .IC_LDG, .MS_ECC_CNT]) := by
  unfold State.storeBeat
  try dsimp only
  repeat' first
    | (with_reducible exact Frame.refl _ _ _)
    | ((with_reducible eapply Frame.via) <;> [(with_reducible first | apply State.burstFault_touches | apply State.segStoreFrame); rfl; exact among_sub rfl; skip])
    | ((with_reducible refine Frame.steps ?_ ?_) <;> [intro _ _; skip])
    | (fail_if_no_progress ((with_reducible refine Frame.on_badBursts ?_ ?_) <;> [rfl; skip]))

theorem State.spoil_touches (s : State) (l : List Nat) : Frame s (State.spoil s l) [.mem, .badBursts] (among []) := by
  unfold State.spoil
  try dsimp only
  repeat' first
    | (with_reducible exact Frame.refl _ _ _)
    | ((with_reducible eapply Frame.via) <;> [(with_reducible first | apply State.segStoreFrame); rfl; exact among_sub rfl; skip])
    | ((with_reducible refine Frame.steps ?_ ?_) <;> [intro _ _; skip])
    | (fail_if_no_progress ((with_reducible refine Frame.on_badBursts ?_ ?_) <;> [rfl; skip]))

theorem State.segRead_touches (s : State) (addr n : Nat) : Frame s (State.segRead s addr n).2 [.arcBuf] (among [.IC_ARC_EVT, .IC_ARC_LOST, .IC_LDG, .MS_ECC_CNT, .MS_EVT]) := by
  unfold State.segRead
  try dsimp only
  repeat' first
    | (with_reducible exact Frame.refl _ _ _)
    | ((with_reducible refine Frame.putFlag ?_ ?_) <;> [rfl; skip])
    | ((with_reducible eapply Frame.via) <;> [(with_reducible first | apply State.burstFault_touches); rfl; exact among_sub rfl; skip])
    | ((with_reducible refine Frame.steps ?_ ?_) <;> [intro _ _; skip])
    | ((with_reducible refine Frame.choose ?_ ?_) <;> intro _)
    | split

theorem State.writeBeats_touches (s : State) (kind id fuel addr : Nat) (data : List (BitVec 8)) (acc : Nat × Nat × FirstDrop) :
    Frame s (s.writeBeats kind id fuel addr data acc).1 [.mem, .badBursts, .arcBuf] (among [.IC_ARC_EVT, .IC_ARC_LOST, .IC_LDG, .L_WDROP_LATCHED, .MS_ECC_CNT, .MS_EVT, .MS_WDROP_ADDR_HI, .MS_WDROP_ADDR_LO, .MS_WDROP_CNT, .MS_WDROP_SRC]) := by
  induction fuel generalizing s addr data acc with
  | zero => exact Frame.refl _ _ _
  | succ fuel ih =>
    unfold State.writeBeats
    dsimp only
    split
    · exact Frame.refl _ _ _
    · split
      · exact ((State.storeBeat_touches _ _ _).via rfl (among_sub rfl) (Frame.refl _ _ _)).trans (ih _ _ _ _)
      · exact ((State.dropBeat_touches _ _ _ _ _).via rfl (among_sub rfl) (Frame.refl _ _ _)).trans (ih _ _ _ _)

theorem State.writeSeg_touches (s : State) (kind id addr : Nat) (data : List (BitVec 8)) :
    Frame s (s.writeSeg kind id addr data).2 [.mem, .badBursts, .arcBuf] (among [.IC_ARC_EVT, .IC_ARC_LOST, .IC_LDG, .L_WDROP_LATCHED, .MS_ECC_CNT, .MS_EVT, .MS_WDROP_ADDR_HI, .MS_WDROP_ADDR_LO, .MS_WDROP_CNT, .MS_WDROP_SRC]) := by
  have h := State.writeBeats_touches s kind id (data.length / 64 + 2) addr data (0, 0, none)
  unfold State.writeSeg
  dsimp only
  split
  · exact h
  · exact (State.archiveFrame _ _ _ _ _ _).via rfl (among_sub rfl) h

theorem State.cardStore_touches (s : State) (k : Nat) (d : List Nat) : Frame s (State.cardStore s k d) [.mem, .cards, .badCards] (among [.L_STRM_RET, .MS_STRM_CNT, .MS_STRM_FILL, .MS_STRM_PLAY]) := by
  unfold State.cardStore
  try dsimp only
  repeat' first
    | (with_reducible exact Frame.refl _ _ _)
    | ((with_reducible eapply Frame.via) <;> [(with_reducible first | apply State.segStoreFrame | apply State.slotReset_touches); rfl; exact among_sub rfl; skip])
    | ((with_reducible refine Frame.steps ?_ ?_) <;> [intro _ _; skip])
    | (fail_if_no_progress ((with_reducible refine Frame.on_cards_badCards ?_ ?_ ?_) <;> [rfl; rfl; skip]))
    | (fail_if_no_progress ((with_reducible refine Frame.on_cards ?_ ?_) <;> [rfl; skip]))
    | (fail_if_no_progress ((with_reducible refine Frame.on_badCards ?_ ?_) <;> [rfl; skip]))

end Sys2Proof.Machine
end

