-- ==== Sys2Proof/Laws/FramesEvents.lean ====
section
/-!
SUPPORT. The frames of the operations of Machine/Events.lean: the parts and registers each may change.
-/
set_option linter.unusedTactic false
set_option linter.unreachableTactic false
set_option linter.unusedVariables false
set_option linter.unusedSimpArgs false
namespace Sys2Proof.Machine

theorem State.countLoop_touches (s : State) (c : Nat) : Frame s (State.countLoop s c) [.arcBuf] (among [.EV_EVT, .EV_GRP_EN, .EV_LOOP_STAT, .IC_ARC_EVT, .IC_ARC_LOST, .IC_LDG, .L_EVC_LOOPS, .L_EVC_LOOP_END]) := by
  unfold State.countLoop
  try dsimp only
  repeat' first
    | (with_reducible exact Frame.refl _ _ _)
    | ((with_reducible refine Frame.put ?_ ?_) <;> [rfl; skip])
    | ((with_reducible refine Frame.putFlag ?_ ?_) <;> [rfl; skip])
    | ((with_reducible refine Frame.putSetBit ?_ ?_) <;> [exact fun _ => rfl; skip])
    | ((with_reducible eapply Frame.via) <;> [(with_reducible first | apply State.groupOff_touches | apply State.raiseFrame); rfl; exact among_sub rfl; skip])
    | ((with_reducible refine Frame.choose ?_ ?_) <;> intro _)
    | split

theorem State.spread_touches (s : State) (c : Nat) (origin : Option Nat) : Frame s (State.spread s c origin) [.pulses, .triggers] (among [.EV_SLEEP_SEEN, .IC_EVC_STAT, .L_EVIO_OUT]) := by
  unfold State.spread
  try dsimp only
  repeat' first
    | (with_reducible exact Frame.refl _ _ _)
    | ((with_reducible refine Frame.put ?_ ?_) <;> [rfl; skip])
    | ((with_reducible refine Frame.putFlag ?_ ?_) <;> [rfl; skip])
    | ((with_reducible refine Frame.putSetBit ?_ ?_) <;> [exact fun _ => rfl; skip])
    | ((with_reducible refine Frame.steps ?_ ?_) <;> [intro _ _; skip])
    | (fail_if_no_progress ((with_reducible refine Frame.on_pulses_triggers ?_ ?_ ?_) <;> [rfl; rfl; skip]))
    | (fail_if_no_progress ((with_reducible refine Frame.on_pulses ?_ ?_) <;> [rfl; skip]))
    | (fail_if_no_progress ((with_reducible refine Frame.on_triggers ?_ ?_) <;> [rfl; skip]))
    | ((with_reducible refine Frame.choose ?_ ?_) <;> intro _)
    | split

theorem State.deliver_touches (s : State) (g : Trigger) : Frame s (State.deliver s g) [.triggers] (among [.EV_EVT, .EV_TASK_STAT]) := by
  unfold State.deliver
  try dsimp only
  repeat' first
    | (with_reducible exact Frame.refl _ _ _)
    | ((with_reducible refine Frame.put ?_ ?_) <;> [rfl; skip])
    | ((with_reducible refine Frame.putFlag ?_ ?_) <;> [rfl; skip])
    | ((with_reducible refine Frame.putBump ?_ ?_) <;> [rfl; skip])
    | (fail_if_no_progress ((with_reducible refine Frame.on_triggers ?_ ?_) <;> [rfl; skip]))
    | ((with_reducible refine Frame.choose ?_ ?_) <;> intro _)
    | split

theorem State.acceptTask_touches (s : State) (k : Nat) (needsS : Bool) : Frame s (State.acceptTask s k needsS).2 [.triggers] (among []) := by
  unfold State.acceptTask
  try dsimp only
  repeat' first
    | (with_reducible exact Frame.refl _ _ _)
    | (fail_if_no_progress ((with_reducible refine Frame.on_triggers ?_ ?_) <;> [rfl; skip]))
    | split

theorem Frame.onTask {s a : State} {ps : List Part} {p : Key → Bool} {k : Nat} {b : Bool} {f : Trigger → State → State} (hp : ps.contains .triggers = true)
    (h : ∀ g c, Frame c (f g c) ps p) (g : Frame s a ps p) : Frame s (a.onTask k b f) ps p := by
  have h2 : Frame s (a.acceptTask k b).2 ps p := g.trans ((State.acceptTask_touches a k b).mono (fun x hx => by simp at hx; subst hx; simpa using hp) (by simp [among]))
  unfold State.onTask
  split
  · rename_i t c e
    rw [e] at h2
    exact h2.trans (h t c)
  · rename_i c e
    rw [e] at h2
    exact h2

theorem State.timerArm_touches (s : State) (k w : Nat) : Frame s (State.timerArm s k w) [] (among [.EV_EVT, .EV_TMR_CFG, .L_TMR_NEXT, .L_TMR_RUN]) := by
  unfold State.timerArm
  try dsimp only
  repeat' first
    | (with_reducible exact Frame.refl _ _ _)
    | ((with_reducible refine Frame.put ?_ ?_) <;> [rfl; skip])
    | ((with_reducible refine Frame.putFlag ?_ ?_) <;> [rfl; skip])
    | ((with_reducible refine Frame.putClr ?_ ?_) <;> [rfl; skip])
    | ((with_reducible refine Frame.choose ?_ ?_) <;> intro _)
    | split

theorem execChannelPulse_touches (c : Fin 128) (s : State) : Frames s (execChannelPulse c s) [.edges, .pulses, .triggers, .arcBuf] (among [.EV_EVT, .EV_GRP_EN, .EV_LOOP_STAT, .EV_SLEEP_SEEN, .IC_ARC_EVT, .IC_ARC_LOST, .IC_EVC_STAT, .IC_LDG, .L_EVC_BUSY, .L_EVC_LOOPS, .L_EVC_LOOP_END, .L_EVIO_OUT]) := by
  unfold execChannelPulse
  try dsimp only
  refine ⟨_, rfl, ?_⟩
  repeat' first
    | (with_reducible exact Frame.refl _ _ _)
    | ((with_reducible refine Frame.putFlag ?_ ?_) <;> [rfl; skip])
    | ((with_reducible eapply Frame.via) <;> [(with_reducible first | apply State.countLoop_touches | apply State.spread_touches); rfl; exact among_sub rfl; skip])
    | (fail_if_no_progress ((with_reducible refine Frame.on_edges_pulses ?_ ?_ ?_) <;> [rfl; rfl; skip]))
    | (fail_if_no_progress ((with_reducible refine Frame.on_edges ?_ ?_) <;> [rfl; skip]))
    | (fail_if_no_progress ((with_reducible refine Frame.on_pulses ?_ ?_) <;> [rfl; skip]))
    | ((with_reducible refine Frame.choose ?_ ?_) <;> intro _)
    | split

theorem execChannelLockoutEnd_touches (c : Fin 128) (s : State) : Frames s (execChannelLockoutEnd c s) [] (among [.L_EVC_BUSY, .L_EVIO_OUT]) := by
  unfold execChannelLockoutEnd
  try dsimp only
  refine ⟨_, rfl, ?_⟩
  repeat' first
    | (with_reducible exact Frame.refl _ _ _)
    | ((with_reducible refine Frame.putClr ?_ ?_) <;> [rfl; skip])
    | ((with_reducible refine Frame.steps ?_ ?_) <;> [intro _ _; skip])

theorem execLoopWindowEnd_touches (c : Fin 128) (s : State) : Frames s (execLoopWindowEnd c s) [] (among [.L_EVC_LOOPS]) := by
  unfold execLoopWindowEnd
  try dsimp only
  refine ⟨_, rfl, ?_⟩
  repeat' first
    | (with_reducible exact Frame.refl _ _ _)
    | ((with_reducible refine Frame.putClr ?_ ?_) <;> [rfl; skip])
    | (with_reducible refine Frame.step ?_ ?_)

theorem execMatrixWrite_touches (pf : Fin 4) (p : Fin 512) (w : Fin 4) (v : Nat) (s : State) : Frames s (execMatrixWrite pf p w v s) [] (among [.AON_PWR_EVT, .EV_MATRIX, .SYS_HIF_EVT]) := by
  unfold execMatrixWrite
  try dsimp only
  refine ⟨_, rfl, ?_⟩
  repeat' first
    | (with_reducible exact Frame.refl _ _ _)
    | ((with_reducible refine Frame.put ?_ ?_) <;> [rfl; skip])
    | ((with_reducible refine Frame.priv ?_ ?_ ?_ ?_) <;> [rfl; rfl; skip; skip])

theorem execGroupEnableWrite_touches (v : Nat) (s : State) : Frames s (execGroupEnableWrite v s) [] (among [.AON_PWR_EVT, .EV_GRP_EN, .L_EVC_LOOPS]) := by
  unfold execGroupEnableWrite
  try dsimp only
  refine ⟨_, rfl, ?_⟩
  repeat' first
    | (with_reducible exact Frame.refl _ _ _)
    | ((with_reducible refine Frame.put ?_ ?_) <;> [rfl; skip])
    | ((with_reducible eapply Frame.via) <;> [(with_reducible first | apply State.groupOff_touches); rfl; exact among_sub rfl; skip])
    | ((with_reducible refine Frame.host ?_ ?_ ?_) <;> [rfl; skip; skip])
    | ((with_reducible refine Frame.steps ?_ ?_) <;> [intro _ _; skip])

theorem execHostFire_touches (w : Fin 4) (v : Nat) (s : State) : Frames s (execHostFire w v s) [.edges] (among [.AON_PWR_EVT, .EV_EVT, .L_EVC_LOOPS]) := by
  unfold execHostFire
  try dsimp only
  refine ⟨_, rfl, ?_⟩
  repeat' first
    | (with_reducible exact Frame.refl _ _ _)
    | ((with_reducible refine Frame.putFlag ?_ ?_) <;> [rfl; skip])
    | ((with_reducible refine Frame.putClr ?_ ?_) <;> [rfl; skip])
    | ((with_reducible refine Frame.host ?_ ?_ ?_) <;> [rfl; skip; skip])
    | ((with_reducible refine Frame.steps ?_ ?_) <;> [intro _ _; skip])
    | (fail_if_no_progress ((with_reducible refine Frame.on_edges ?_ ?_) <;> [rfl; skip]))
    | ((with_reducible refine Frame.choose ?_ ?_) <;> intro _)
    | split

theorem execTaskCfgWrite_touches (k : Fin 768) (v : Nat) (s : State) : Frames s (execTaskCfgWrite k v s) [.triggers] (among [.AON_PWR_EVT, .EV_TASK_CFG, .EV_TASK_STAT]) := by
  unfold execTaskCfgWrite
  try dsimp only
  refine ⟨_, rfl, ?_⟩
  repeat' first
    | (with_reducible exact Frame.refl _ _ _)
    | ((with_reducible refine Frame.putClr ?_ ?_) <;> [rfl; skip])
    | ((with_reducible refine Frame.puts ?_ ?_) <;> [(simp [among, anyKey]; done); skip])
    | ((with_reducible refine Frame.putsCons ?_ ?_) <;> [rfl; skip])
    | ((with_reducible refine Frame.host ?_ ?_ ?_) <;> [rfl; skip; skip])
    | (fail_if_no_progress ((with_reducible refine Frame.on_triggers ?_ ?_) <;> [rfl; skip]))
    | ((with_reducible refine Frame.choose ?_ ?_) <;> intro _)
    | split

theorem execTaskTrigger_touches (k : Fin 768) (s : State) : Frames s (execTaskTrigger k s) [.triggers] (among [.EV_EVT, .EV_TASK_STAT]) := by
  unfold execTaskTrigger
  try dsimp only
  refine ⟨_, rfl, ?_⟩
  repeat' first
    | (with_reducible exact Frame.refl _ _ _)
    | ((with_reducible eapply Frame.via) <;> [(with_reducible first | apply State.deliver_touches); rfl; exact among_sub rfl; skip])
    | (fail_if_no_progress ((with_reducible refine Frame.on_triggers ?_ ?_) <;> [rfl; skip]))
    | split

theorem execTaskFire_touches (v : Nat) (s : State) : Frames s (execTaskFire v s) [.triggers] (among [.AON_PWR_EVT, .EV_EVT, .EV_TASK_FIRE, .EV_TASK_STAT]) := by
  unfold execTaskFire
  try dsimp only
  refine ⟨_, rfl, ?_⟩
  repeat' first
    | (with_reducible exact Frame.refl _ _ _)
    | ((with_reducible refine Frame.put ?_ ?_) <;> [rfl; skip])
    | ((with_reducible refine Frame.putFlag ?_ ?_) <;> [rfl; skip])
    | ((with_reducible eapply Frame.via) <;> [(with_reducible first | apply State.deliver_touches); rfl; exact among_sub rfl; skip])
    | ((with_reducible refine Frame.host ?_ ?_ ?_) <;> [rfl; skip; skip])
    | ((with_reducible refine Frame.choose ?_ ?_) <;> intro _)
    | split

theorem execTaskDeferDeliver_touches (k : Fin 768) (s : State) : Frames s (execTaskDeferDeliver k s) [.triggers] (among [.EV_TASK_STAT]) := by
  unfold execTaskDeferDeliver
  try dsimp only
  refine ⟨_, rfl, ?_⟩
  repeat' first
    | (with_reducible exact Frame.refl _ _ _)
    | ((with_reducible refine Frame.put ?_ ?_) <;> [rfl; skip])
    | (fail_if_no_progress ((with_reducible refine Frame.on_triggers ?_ ?_) <;> [rfl; skip]))
    | ((with_reducible refine Frame.choose ?_ ?_) <;> intro _)
    | split

theorem execTaskCntClr_touches (s : State) : Frames s (execTaskCntClr s) [] (among [.AON_PWR_EVT, .EV_TASK_STAT]) := by
  unfold execTaskCntClr
  try dsimp only
  refine ⟨_, rfl, ?_⟩
  repeat' first
    | (with_reducible exact Frame.refl _ _ _)
    | ((with_reducible refine Frame.forget ?_ ?_) <;> [(intro k hk; simp at hk; first | (simp [among, hk]; done) | (simp [among]; tauto)); skip])
    | ((with_reducible refine Frame.host ?_ ?_ ?_) <;> [rfl; skip; skip])

theorem execGroupEnableTask_touches (g : Fin 16) (s : State) : Frames s (execGroupEnableTask g s) [.triggers] (among [.EV_GRP_EN]) := by
  unfold execGroupEnableTask
  try dsimp only
  refine ⟨_, rfl, ?_⟩
  repeat' first
    | (with_reducible exact Frame.refl _ _ _)
    | ((with_reducible eapply Frame.via) <;> [(with_reducible first | apply State.groupEnable_touches); rfl; exact among_sub rfl; skip])
    | ((with_reducible refine Frame.onTask ?_ ?_ ?_) <;> [rfl; intro _ _; skip])

theorem execGroupDisableTask_touches (g : Fin 16) (s : State) : Frames s (execGroupDisableTask g s) [.triggers] (among [.EV_GRP_EN, .L_EVC_LOOPS]) := by
  unfold execGroupDisableTask
  try dsimp only
  refine ⟨_, rfl, ?_⟩
  repeat' first
    | (with_reducible exact Frame.refl _ _ _)
    | ((with_reducible eapply Frame.via) <;> [(with_reducible first | apply State.groupOff_touches); rfl; exact among_sub rfl; skip])
    | ((with_reducible refine Frame.onTask ?_ ?_ ?_) <;> [rfl; intro _ _; skip])

theorem execArchiveLogTask_touches (k : Fin 8) (s : State) : Frames s (execArchiveLogTask k s) [.triggers, .arcBuf] (among [.IC_ARC_EVT, .IC_ARC_LOST, .IC_LDG]) := by
  unfold execArchiveLogTask
  try dsimp only
  refine ⟨_, rfl, ?_⟩
  repeat' first
    | (with_reducible exact Frame.refl _ _ _)
    | ((with_reducible eapply Frame.via) <;> [(with_reducible first | apply State.acceptFrame); rfl; exact among_sub rfl; skip])
    | ((with_reducible refine Frame.onTask ?_ ?_ ?_) <;> [rfl; intro _ _; skip])
    | ((with_reducible refine Frame.choose ?_ ?_) <;> intro _)
    | split

theorem execDoorbell_touches (c : Fin 8) (b : Fin 32) (s : State) : Frames s (execDoorbell c b s) [.triggers, .out] (among [.L_DOORBELL]) := by
  unfold execDoorbell
  try dsimp only
  refine ⟨_, rfl, ?_⟩
  repeat' first
    | (with_reducible exact Frame.refl _ _ _)
    | ((with_reducible refine Frame.put ?_ ?_) <;> [rfl; skip])
    | ((with_reducible eapply Frame.via) <;> [(with_reducible first | apply State.emitFrame); rfl; exact among_sub rfl; skip])
    | ((with_reducible refine Frame.onTask ?_ ?_ ?_) <;> [rfl; intro _ _; skip])

theorem execCcProducerPulse_touches (t : Fin 8) (s : State) : Frames s (execCcProducerPulse t s) [.edges] (among []) := by
  unfold execCcProducerPulse
  try dsimp only
  refine ⟨_, rfl, ?_⟩
  repeat' first
    | (with_reducible exact Frame.refl _ _ _)
    | ((with_reducible eapply Frame.via) <;> [(with_reducible first | apply State.pulseFrame); rfl; exact among_sub rfl; skip])
    | ((with_reducible refine Frame.choose ?_ ?_) <;> intro _)
    | split

theorem execTimerCfgWrite_touches (k : Fin 16) (cfg : Nat) (s : State) : Frames s (execTimerCfgWrite k cfg s) [] (among [.AON_PWR_EVT, .EV_EVT, .EV_TMR_CFG, .L_TMR_NEXT, .L_TMR_RUN]) := by
  unfold execTimerCfgWrite
  try dsimp only
  refine ⟨_, rfl, ?_⟩
  repeat' first
    | (with_reducible exact Frame.refl _ _ _)
    | ((with_reducible refine Frame.puts ?_ ?_) <;> [(simp [among, anyKey]; done); skip])
    | ((with_reducible refine Frame.putsCons ?_ ?_) <;> [rfl; skip])
    | ((with_reducible eapply Frame.via) <;> [(with_reducible first | apply State.timerArm_touches); rfl; exact among_sub rfl; skip])
    | ((with_reducible refine Frame.host ?_ ?_ ?_) <;> [rfl; skip; skip])

theorem execTimerFire_touches (k : Fin 16) (s : State) : Frames s (execTimerFire k s) [.edges] (among [.EV_TMR_CFG, .L_TMR_NEXT, .L_TMR_RUN]) := by
  unfold execTimerFire
  try dsimp only
  refine ⟨_, rfl, ?_⟩
  repeat' first
    | (with_reducible exact Frame.refl _ _ _)
    | ((with_reducible refine Frame.put ?_ ?_) <;> [rfl; skip])
    | ((with_reducible refine Frame.putClr ?_ ?_) <;> [rfl; skip])
    | ((with_reducible eapply Frame.via) <;> [(with_reducible first | apply State.pulseFrame); rfl; exact among_sub rfl; skip])
    | ((with_reducible refine Frame.choose ?_ ?_) <;> intro _)
    | split

theorem execThresholdCross_touches (k : Fin 32) (signal : Int) (s : State) : Frames s (execThresholdCross k signal s) [.edges] (among [.L_THR_ABOVE, .L_THR_WORD]) := by
  unfold execThresholdCross
  try dsimp only
  refine ⟨_, rfl, ?_⟩
  repeat' first
    | (with_reducible exact Frame.refl _ _ _)
    | ((with_reducible refine Frame.put ?_ ?_) <;> [rfl; skip])
    | ((with_reducible eapply Frame.via) <;> [(with_reducible first | apply State.pulseFrame); rfl; exact among_sub rfl; skip])
    | ((with_reducible refine Frame.choose ?_ ?_) <;> intro _)
    | split

theorem execEvioInputEdge_touches (n : Fin 16) (high : Bool) (s : State) : Frames s (execEvioInputEdge n high s) [.edges] (among [.L_EVIO_IN]) := by
  unfold execEvioInputEdge
  try dsimp only
  refine ⟨_, rfl, ?_⟩
  repeat' first
    | (with_reducible exact Frame.refl _ _ _)
    | ((with_reducible refine Frame.put ?_ ?_) <;> [rfl; skip])
    | ((with_reducible eapply Frame.via) <;> [(with_reducible first | apply State.pulseFrame); rfl; exact among_sub rfl; skip])
    | (with_reducible refine Frame.step ?_ ?_)

theorem execEvioAlignPulse_touches (n : Fin 16) (s : State) : Frames s (execEvioAlignPulse n s) [.alignDue, .out] (among [.L_EVIO_FALL_AT, .L_EVIO_OUT]) := by
  unfold execEvioAlignPulse
  try dsimp only
  refine ⟨_, rfl, ?_⟩
  repeat' first
    | (with_reducible exact Frame.refl _ _ _)
    | ((with_reducible refine Frame.put ?_ ?_) <;> [rfl; skip])
    | ((with_reducible refine Frame.putFlag ?_ ?_) <;> [rfl; skip])
    | ((with_reducible eapply Frame.via) <;> [(with_reducible first | apply State.emitFrame); rfl; exact among_sub rfl; skip])
    | (fail_if_no_progress ((with_reducible refine Frame.on_alignDue ?_ ?_) <;> [rfl; skip]))
    | ((with_reducible refine Frame.choose ?_ ?_) <;> intro _)
    | split

end Sys2Proof.Machine
end

