-- ==== Sys2Proof/Laws/FramesVoices.lean ====
section
/-!
SUPPORT. The frames of the operations of Machine/Voices.lean: the parts and registers each may change.
-/
set_option linter.unusedTactic false
set_option linter.unreachableTactic false
set_option linter.unusedVariables false
set_option linter.unusedSimpArgs false
namespace Sys2Proof.Machine

theorem State.onEng_touches (s : State) (r : Nat) (f : Engine → Engine) : Frame s (State.onEng s r f) [.engines] (among []) := by
  unfold State.onEng
  try dsimp only
  repeat' first
    | (with_reducible exact Frame.refl _ _ _)
    | (fail_if_no_progress ((with_reducible refine Frame.on_engines ?_ ?_) <;> [rfl; skip]))

theorem State.setP80_touches (s : State) (r : Nat) (v : Int) : Frame s (State.setP80 s r v) [] (among [.REEL]) := by
  unfold State.setP80
  try dsimp only
  repeat' first
    | (with_reducible exact Frame.refl _ _ _)
    | ((with_reducible refine Frame.put ?_ ?_) <;> [rfl; skip])
    | ((with_reducible refine Frame.put2 ?_ ?_ ?_) <;> [rfl; rfl; skip])

theorem State.setFtw80_touches (s : State) (r : Nat) (v : Int) : Frame s (State.setFtw80 s r v) [] (among [.REEL]) := by
  unfold State.setFtw80
  try dsimp only
  repeat' first
    | (with_reducible exact Frame.refl _ _ _)
    | ((with_reducible refine Frame.put ?_ ?_) <;> [rfl; skip])
    | ((with_reducible refine Frame.put2 ?_ ?_ ?_) <;> [rfl; rfl; skip])

theorem State.fold_touches (s : State) (r t0 te : Nat) : Frame s (State.fold s r t0 te) [] (among [.REEL]) := by
  unfold State.fold
  try dsimp only
  repeat' first
    | (with_reducible exact Frame.refl _ _ _)
    | ((with_reducible eapply Frame.via) <;> [(with_reducible first | apply State.setFtw80_touches | apply State.setP80_touches); rfl; exact among_sub rfl; skip])

theorem State.setFreq_touches (s : State) (r val : Nat) (cont : Bool) (a : Nat) : Frame s (State.setFreq s r val cont a) [] (among [.REEL]) := by
  unfold State.setFreq
  try dsimp only
  repeat' first
    | (with_reducible exact Frame.refl _ _ _)
    | ((with_reducible eapply Frame.via) <;> [(with_reducible first | apply State.setFtw80_touches | apply State.setP80_touches); rfl; exact among_sub rfl; skip])
    | (with_reducible refine Frame.step ?_ ?_)

end Sys2Proof.Machine
end

