-- ==== Sys2Proof/Laws/FramesCorBase.lean ====
section
/-!
SUPPORT. The frames of the operations of Machine/CorBase.lean: the parts and registers each may change.
-/
set_option linter.unusedTactic false
set_option linter.unreachableTactic false
set_option linter.unusedVariables false
set_option linter.unusedSimpArgs false
namespace Sys2Proof.Machine

theorem State.raisePerUnit_touches (s : State) (k unit detail : Nat) (m : List (Nat × Nat)) : Frame s (State.raisePerUnit s k unit detail m) [.arcBuf] (among [.IC_ARC_EVT, .IC_ARC_LOST, .IC_LDG]) := by
  unfold State.raisePerUnit
  try dsimp only
  repeat' first
    | (with_reducible exact Frame.refl _ _ _)
    | ((with_reducible eapply Frame.via) <;> [(with_reducible first | apply State.raiseFrame); rfl; exact among_sub rfl; skip])
    | ((with_reducible refine Frame.choose ?_ ?_) <;> intro _)
    | split

theorem State.raisePerTile_touches (s : State) (k t : Nat) (m : List (Nat × Nat)) : Frame s (State.raisePerTile s k t m) [.arcBuf] (among [.IC_ARC_EVT, .IC_ARC_LOST, .IC_LDG]) := by
  unfold State.raisePerTile
  try dsimp only
  repeat' first
    | (with_reducible exact Frame.refl _ _ _)
    | ((with_reducible eapply Frame.via) <;> [(with_reducible first | apply State.markFrame | apply State.raiseFrame); rfl; exact among_sub rfl; skip])
    | ((with_reducible refine Frame.choose ?_ ?_) <;> intro _)
    | split

theorem State.corState_touches (s : State) (g st : Nat) : Frame s (State.corState s g st) [.edges] (among [.COR_GRP_EVT, .COR_GRP_STATUS]) := by
  unfold State.corState
  try dsimp only
  repeat' first
    | (with_reducible exact Frame.refl _ _ _)
    | ((with_reducible refine Frame.put ?_ ?_) <;> [rfl; skip])
    | ((with_reducible refine Frame.putFlag ?_ ?_) <;> [rfl; skip])
    | ((with_reducible eapply Frame.via) <;> [(with_reducible first | apply State.pulseFrame); rfl; exact among_sub rfl; skip])
    | (with_reducible refine Frame.step ?_ ?_)

theorem State.corRamp_touches (s : State) (g : Nat) : Frame s (State.corRamp s g) [] (among [.L_COR_RAMP, .L_COR_W0]) := by
  unfold State.corRamp
  try dsimp only
  repeat' first
    | (with_reducible exact Frame.refl _ _ _)
    | ((with_reducible refine Frame.puts ?_ ?_) <;> [(simp [among, anyKey]; done); skip])
    | ((with_reducible refine Frame.putsCons ?_ ?_) <;> [rfl; skip])

theorem State.corAbortAt_touches (s : State) (g cause : Nat) (res : Option Nat) (unit : Nat) : Frame s (State.corAbortAt s g cause res unit) [.edges, .arcBuf] (among [.COR_GRP_EVT, .COR_GRP_STATUS, .IC_ARC_EVT, .IC_ARC_LOST, .IC_LDG, .L_COR_RAMP, .L_COR_W0, .L_COR_ZERO, .REEL]) := by
  unfold State.corAbortAt
  try dsimp only
  repeat' first
    | (with_reducible exact Frame.refl _ _ _)
    | ((with_reducible refine Frame.puts ?_ ?_) <;> [(simp [among, anyKey]; done); skip])
    | ((with_reducible refine Frame.putsCons ?_ ?_) <;> [rfl; skip])
    | ((with_reducible eapply Frame.via) <;> [(with_reducible first | apply State.corRamp_touches | apply State.corState_touches | apply State.raisePerUnit_touches | apply State.reportFrame | apply State.requestStop_touches); rfl; exact among_sub rfl; skip])
    | ((with_reducible refine Frame.steps ?_ ?_) <;> [intro _ _; skip])
    | ((with_reducible refine Frame.choose ?_ ?_) <;> intro _)
    | split

theorem State.corAbort_touches (s : State) (g cause : Nat) (res : Option Nat) : Frame s (State.corAbort s g cause res) [.edges, .arcBuf] (among [.COR_GRP_EVT, .COR_GRP_STATUS, .IC_ARC_EVT, .IC_ARC_LOST, .IC_LDG, .L_COR_RAMP, .L_COR_W0, .L_COR_ZERO, .REEL]) := by
  unfold State.corAbort
  try dsimp only
  repeat' first
    | (with_reducible exact Frame.refl _ _ _)
    | ((with_reducible eapply Frame.via) <;> [(with_reducible first | apply State.corAbortAt_touches); rfl; exact among_sub rfl; skip])

theorem State.inputLoss_touches (s : State) (l : List Nat) (res : Nat) : Frame s (State.inputLoss s l res) [.edges, .arcBuf] (among [.COR_GRP_EVT, .COR_GRP_STATUS, .COR_IN_STAT, .IC_ARC_EVT, .IC_ARC_LOST, .IC_LDG, .L_COR_RAMP, .L_COR_W0, .L_COR_ZERO, .REEL]) := by
  unfold State.inputLoss
  try dsimp only
  repeat' first
    | (with_reducible exact Frame.refl _ _ _)
    | ((with_reducible refine Frame.putFlag ?_ ?_) <;> [rfl; skip])
    | ((with_reducible eapply Frame.via) <;> [(with_reducible first | apply State.corAbort_touches); rfl; exact among_sub rfl; skip])
    | ((with_reducible refine Frame.steps ?_ ?_) <;> [intro _ _; skip])

theorem State.inputBack_touches (s : State) (l : List Nat) : Frame s (State.inputBack s l) [] (among [.COR_IN_STAT]) := by
  unfold State.inputBack
  try dsimp only
  repeat' first
    | (with_reducible exact Frame.refl _ _ _)
    | ((with_reducible refine Frame.putClr ?_ ?_) <;> [rfl; skip])
    | ((with_reducible refine Frame.steps ?_ ?_) <;> [intro _ _; skip])

theorem State.hardParkAbort_touches (s : State) (n : Nat) : Frame s (State.hardParkAbort s n) [.edges, .arcBuf] (among [.COR_GRP_EVT, .COR_GRP_STATUS, .IC_ARC_EVT, .IC_ARC_LOST, .IC_LDG, .L_COR_RAMP, .L_COR_W0, .L_COR_ZERO, .REEL]) := by
  unfold State.hardParkAbort
  try dsimp only
  repeat' first
    | (with_reducible exact Frame.refl _ _ _)
    | ((with_reducible eapply Frame.via) <;> [(with_reducible first | apply State.corAbort_touches); rfl; exact among_sub rfl; skip])
    | ((with_reducible refine Frame.steps ?_ ?_) <;> [intro _ _; skip])

theorem State.corHardCheck_touches (s : State) (g : Nat) : Frame s (State.corHardCheck s g) [.edges, .arcBuf] (among [.COR_GRP_EVT, .COR_GRP_STATUS, .IC_ARC_EVT, .IC_ARC_LOST, .IC_LDG, .L_COR_RAMP, .L_COR_W0, .L_COR_ZERO, .REEL]) := by
  unfold State.corHardCheck
  try dsimp only
  repeat' first
    | (with_reducible exact Frame.refl _ _ _)
    | ((with_reducible eapply Frame.via) <;> [(with_reducible first | apply State.corAbort_touches); rfl; exact among_sub rfl; skip])
    | ((with_reducible refine Frame.choose ?_ ?_) <;> intro _)
    | split

end Sys2Proof.Machine
end

