-- ==== Sys2Proof/Laws/FramesCalBase.lean ====
section
/-!
SUPPORT. The frames of the operations of Machine/CalBase.lean: the parts and registers each may change.
-/
set_option linter.unusedTactic false
set_option linter.unreachableTactic false
set_option linter.unusedVariables false
set_option linter.unusedSimpArgs false
namespace Sys2Proof.Machine

theorem State.loadSet_touches (s : State) (n : Nat) (c : CalInst) : Frame s (State.loadSet s n c) [] (among [.CAL_LOAD, .CH_CAL_GAIN, .CH_CAL_OFS, .CH_CAL_SKEW, .CH_CAL_TAG, .CH_INL]) := by
  unfold State.loadSet
  try dsimp only
  repeat' first
    | (with_reducible exact Frame.refl _ _ _)
    | ((with_reducible refine Frame.put ?_ ?_) <;> [rfl; skip])
    | ((with_reducible refine Frame.putSeti ?_ ?_) <;> [rfl; skip])
    | ((with_reducible refine Frame.steps ?_ ?_) <;> [intro _ _; skip])

theorem Frame.switchSet {s a : State} {ps : List Part} {p : Key → Bool} {n : Nat} {f : State → State} (hp : ps.contains .lines = true)
    (h : Frame a (f a) ps p) (g : Frame s a ps p) : Frame s (a.switchSet n f) ps p := by
  unfold State.switchSet
  dsimp only
  split
  · exact g.trans h
  · exact Frame.on_lines hp (g.trans h)

theorem State.calEntry_touches (s : State) (n kind decision tag pRec : Nat) (fx : Bool) : Frame s (State.calEntry s n kind decision tag pRec fx) [.arcBuf] (among [.IC_ARC_EVT, .IC_ARC_LOST, .IC_LDG]) := by
  unfold State.calEntry
  try dsimp only
  repeat' first
    | (with_reducible exact Frame.refl _ _ _)
    | ((with_reducible eapply Frame.via) <;> [(with_reducible first | apply State.archiveFrame); rfl; exact among_sub rfl; skip])

theorem State.pendStatus_touches (s : State) (n : Nat) : Frame s (State.pendStatus s n) [] (among [.CAL_CH_STATUS, .CAL_PEND_TAG]) := by
  unfold State.pendStatus
  try dsimp only
  repeat' first
    | (with_reducible exact Frame.refl _ _ _)
    | ((with_reducible refine Frame.puts ?_ ?_) <;> [(simp [among, anyKey]; done); skip])
    | ((with_reducible refine Frame.putsCons ?_ ?_) <;> [rfl; skip])
    | ((with_reducible refine Frame.choose ?_ ?_) <;> intro _)
    | split

theorem State.applySet_touches (s : State) (n range : Nat) : Frame s (State.applySet s n range) [.calSets, .calPends, .arcBuf] (among [.CAL_CH_STATUS, .CAL_EVT, .CAL_LOAD, .CAL_PEND_TAG, .CAL_RESID, .CH_CAL_GAIN, .CH_CAL_OFS, .CH_CAL_SKEW, .CH_CAL_TAG, .CH_INL, .IC_ARC_EVT, .IC_ARC_LOST, .IC_LDG, .L_CAL_SEQ, .L_CAL_SRES, .L_CAL_VRES]) := by
  unfold State.applySet
  try dsimp only
  repeat' first
    | (with_reducible exact Frame.refl _ _ _)
    | ((with_reducible refine Frame.put ?_ ?_) <;> [rfl; skip])
    | ((with_reducible refine Frame.puts ?_ ?_) <;> [(simp [among, anyKey]; done); skip])
    | ((with_reducible refine Frame.putsCons ?_ ?_) <;> [rfl; skip])
    | ((with_reducible eapply Frame.via) <;> [(with_reducible first | apply State.calEntry_touches | apply State.loadSet_touches | apply State.pendStatus_touches); rfl; exact among_sub rfl; skip])
    | (fail_if_no_progress ((with_reducible refine Frame.on_calSets_calPends ?_ ?_ ?_) <;> [rfl; rfl; skip]))
    | (fail_if_no_progress ((with_reducible refine Frame.on_calSets ?_ ?_) <;> [rfl; skip]))
    | (fail_if_no_progress ((with_reducible refine Frame.on_calPends ?_ ?_) <;> [rfl; skip]))
    | split

theorem State.enterRange_touches (s : State) (n range : Nat) : Frame s (State.enterRange s n range) [.lines, .calSets, .calPends, .arcBuf] (among [.CAL_CH_STATUS, .CAL_EVT, .CAL_LOAD, .CAL_PEND_TAG, .CAL_RESID, .CH_CAL_GAIN, .CH_CAL_OFS, .CH_CAL_SKEW, .CH_CAL_TAG, .CH_INL, .CH_RANGE, .IC_ARC_EVT, .IC_ARC_LOST, .IC_LDG, .L_CAL_SEQ, .L_CAL_SRES, .L_CAL_VRES]) := by
  unfold State.enterRange
  try dsimp only
  repeat' first
    | (with_reducible exact Frame.refl _ _ _)
    | ((with_reducible refine Frame.put ?_ ?_) <;> [rfl; skip])
    | ((with_reducible eapply Frame.via) <;> [(with_reducible first | apply State.applySet_touches | apply State.loadSet_touches); rfl; exact among_sub rfl; skip])
    | ((with_reducible refine Frame.switchSet ?_ ?_ ?_) <;> [rfl; skip; skip])

theorem State.pendSet_touches (s : State) (n range origin : Nat) (c : CalSet) (force : Bool) : Frame s (State.pendSet s n range origin c force) [.calPends] (among [.CAL_CH_STATUS, .CAL_EVT, .CAL_PEND_TAG, .L_CAL_HELD]) := by
  unfold State.pendSet
  try dsimp only
  repeat' first
    | (with_reducible exact Frame.refl _ _ _)
    | ((with_reducible refine Frame.putFlag ?_ ?_) <;> [rfl; skip])
    | ((with_reducible refine Frame.putClr ?_ ?_) <;> [rfl; skip])
    | ((with_reducible eapply Frame.via) <;> [(with_reducible first | apply State.pendStatus_touches); rfl; exact among_sub rfl; skip])
    | (with_reducible refine Frame.step ?_ ?_)
    | (fail_if_no_progress ((with_reducible refine Frame.on_calPends ?_ ?_) <;> [rfl; skip]))
    | ((with_reducible refine Frame.choose ?_ ?_) <;> intro _)
    | split

theorem State.retarget_touches (s : State) (n range origin : Nat) : Frame s (State.retarget s n range origin) [.calPends] (among [.CAL_CH_STATUS, .CAL_EVT, .CAL_PEND_TAG, .L_CAL_HELD]) := by
  unfold State.retarget
  try dsimp only
  repeat' first
    | (with_reducible exact Frame.refl _ _ _)
    | ((with_reducible refine Frame.put ?_ ?_) <;> [rfl; skip])
    | ((with_reducible eapply Frame.via) <;> [(with_reducible first | apply State.pendSet_touches); rfl; exact among_sub rfl; skip])
    | ((with_reducible refine Frame.choose ?_ ?_) <;> intro _)
    | split

theorem State.calTemperature_touches (s : State) (n : Nat) : Frame s (State.calTemperature s n) [.calPends] (among [.CAL_CH_STATUS, .CAL_EVT, .CAL_PEND_TAG, .CAL_TJ, .L_CAL_HELD, .L_CAL_T_LAST]) := by
  unfold State.calTemperature
  try dsimp only
  repeat' first
    | (with_reducible exact Frame.refl _ _ _)
    | ((with_reducible refine Frame.putSeti ?_ ?_) <;> [rfl; skip])
    | ((with_reducible eapply Frame.via) <;> [(with_reducible first | apply State.retarget_touches); rfl; exact among_sub rfl; skip])
    | ((with_reducible refine Frame.steps ?_ ?_) <;> [intro _ _; skip])
    | ((with_reducible refine Frame.choose ?_ ?_) <;> intro _)
    | split

theorem State.calFault_touches (s : State) (n code : Nat) : Frame s (State.calFault s n code) [.arcBuf] (among [.IC_ARC_EVT, .IC_ARC_LOST, .IC_LDG, .L_CAL_RAISED]) := by
  unfold State.calFault
  try dsimp only
  repeat' first
    | (with_reducible exact Frame.refl _ _ _)
    | ((with_reducible refine Frame.put ?_ ?_) <;> [rfl; skip])
    | ((with_reducible eapply Frame.via) <;> [(with_reducible first | apply State.raiseFrame); rfl; exact among_sub rfl; skip])
    | ((with_reducible refine Frame.forget ?_ ?_) <;> [(intro k hk; simp at hk; first | (simp [among, hk]; done) | (simp [among]; tauto)); skip])
    | ((with_reducible refine Frame.choose ?_ ?_) <;> intro _)
    | split

end Sys2Proof.Machine
end

