-- ==== Sys2Proof/Laws/FramesEngine.lean ====
section
/-!
SUPPORT. The frames of the operations of Machine/Engine.lean: the parts and registers each may change.
-/
set_option linter.unusedTactic false
set_option linter.unreachableTactic false
set_option linter.unusedVariables false
set_option linter.unusedSimpArgs false
namespace Sys2Proof.Machine

theorem State.calAbandon_touches (s : State) (r : Nat) : Frame s (State.calAbandon s r) [] (among [.CAL_CH_STATUS, .CAL_EVT, .CAL_STATUS, .L_CAL_RUN]) := by
  unfold State.calAbandon
  try dsimp only
  repeat' first
    | (with_reducible exact Frame.refl _ _ _)
    | ((with_reducible refine Frame.puts ?_ ?_) <;> [(simp [among, anyKey]; done); skip])
    | ((with_reducible refine Frame.putsCons ?_ ?_) <;> [rfl; skip])
    | ((with_reducible refine Frame.choose ?_ ?_) <;> intro _)
    | split

theorem State.enterState_touches (s : State) (r st : Nat) : Frame s (State.enterState s r st) [.edges, .arcBuf] (among [.CAL_CH_STATUS, .CAL_EVT, .CAL_STATUS, .COR_GRP_EVT, .COR_GRP_STATUS, .IC_ARC_EVT, .IC_ARC_LOST, .IC_LDG, .L_CAL_RUN, .L_COR_RAMP, .L_COR_W0, .L_COR_ZERO, .REEL, .TL_REEL_ACTIVE, .TL_REEL_FAULTED]) := by
  unfold State.enterState
  try dsimp only
  repeat' first
    | (with_reducible exact Frame.refl _ _ _)
    | ((with_reducible refine Frame.put ?_ ?_) <;> [rfl; skip])
    | ((with_reducible refine Frame.putSetBit ?_ ?_) <;> [exact fun _ => rfl; skip])
    | ((with_reducible refine Frame.putClrBit ?_ ?_) <;> [exact fun _ => rfl; skip])
    | ((with_reducible eapply Frame.via) <;> [(with_reducible first | apply State.calAbandon_touches | apply State.corAbort_touches); rfl; exact among_sub rfl; skip])
    | ((with_reducible refine Frame.choose ?_ ?_) <;> intro _)
    | split

theorem retKey_among (r i : Nat) : among [.REEL] (retKey r i) = true := by
  unfold retKey
  split <;> rfl

theorem State.setStacks_touches (s : State) (r : Nat) (k : Stacks) : Frame s (State.setStacks s r k) [.engines] (among [.REEL]) := by
  unfold State.setStacks
  dsimp only
  refine (State.onEng_touches _ _ _).via rfl (among_sub rfl) (Frame.steps (fun i a => (Frame.refl _ _ _).put (retKey_among r i)) (Frame.steps (fun i a => ?_) (Frame.refl _ _ _)))
  split <;> exact Frame.puts (by simp [among]) (Frame.refl _ _ _)

theorem State.pendFault_touches (s : State) (r code t : Nat) : Frame s (State.pendFault s r code t) [.engines] (among []) := by
  unfold State.pendFault
  try dsimp only
  repeat' first
    | (with_reducible exact Frame.refl _ _ _)
    | ((with_reducible eapply Frame.via) <;> [(with_reducible first | apply State.onEng_touches); rfl; exact among_sub rfl; skip])
    | ((with_reducible refine Frame.choose ?_ ?_) <;> intro _)
    | split

theorem State.takeLoan_touches (s : State) (r k : Nat) : Frame s (State.takeLoan s r k) [.loans, .engines] (among [.MS_EVT]) := by
  unfold State.takeLoan
  try dsimp only
  repeat' first
    | (with_reducible exact Frame.refl _ _ _)
    | ((with_reducible refine Frame.putFlag ?_ ?_) <;> [rfl; skip])
    | ((with_reducible eapply Frame.via) <;> [(with_reducible first | apply State.pendFault_touches); rfl; exact among_sub rfl; skip])
    | (fail_if_no_progress ((with_reducible refine Frame.on_loans ?_ ?_) <;> [rfl; skip]))
    | ((with_reducible refine Frame.choose ?_ ?_) <;> intro _)
    | split

theorem State.returnLoan_touches (s : State) (r k : Nat) : Frame s (State.returnLoan s r k) [.loans] (among [.L_STRM_RET]) := by
  unfold State.returnLoan
  try dsimp only
  repeat' first
    | (with_reducible exact Frame.refl _ _ _)
    | ((with_reducible refine Frame.putClr ?_ ?_) <;> [rfl; skip])
    | (fail_if_no_progress ((with_reducible refine Frame.on_loans ?_ ?_) <;> [rfl; skip]))
    | ((with_reducible refine Frame.choose ?_ ?_) <;> intro _)
    | split

theorem State.returnLoans_touches (s : State) (r : Nat) : Frame s (State.returnLoans s r) [.loans] (among [.L_STRM_RET]) := by
  unfold State.returnLoans
  try dsimp only
  repeat' first
    | (with_reducible exact Frame.refl _ _ _)
    | ((with_reducible eapply Frame.via) <;> [(with_reducible first | apply State.returnLoan_touches); rfl; exact among_sub rfl; skip])
    | ((with_reducible refine Frame.steps ?_ ?_) <;> [intro _ _; skip])

theorem State.headsUpdate_touches (s : State) (r : Nat) (was : List Nat) : Frame s (State.headsUpdate s r was) [.heads] (among [.TL_CUT_EVT, .TL_HEAD_MISS, .TL_HEAD_STATUS]) := by
  unfold State.headsUpdate
  try dsimp only
  repeat' first
    | (with_reducible exact Frame.refl _ _ _)
    | ((with_reducible refine Frame.put ?_ ?_) <;> [rfl; skip])
    | ((with_reducible refine Frame.putFlag ?_ ?_) <;> [rfl; skip])
    | ((with_reducible refine Frame.putBump ?_ ?_) <;> [rfl; skip])
    | ((with_reducible refine Frame.steps ?_ ?_) <;> [intro _ _; skip])
    | (fail_if_no_progress ((with_reducible refine Frame.on_heads ?_ ?_) <;> [rfl; skip]))
    | ((with_reducible refine Frame.choose ?_ ?_) <;> intro _)
    | split

theorem State.primedUpdate_touches (s : State) (r : Nat) : Frame s (State.primedUpdate s r) [] (among [.REEL]) := by
  unfold State.primedUpdate
  try dsimp only
  repeat' first
    | (with_reducible exact Frame.refl _ _ _)
    | ((with_reducible refine Frame.put ?_ ?_) <;> [rfl; skip])

theorem State.buildWindow_touches (s : State) (r : Nat) (cur : List WinCue) (q : Nat) (again : Bool) : Frame s (State.buildWindow s r cur q again) [.loans, .engines, .heads, .arcBuf] (among [.IC_ARC_EVT, .IC_ARC_LOST, .IC_LDG, .L_STRM_RET, .MS_EVT, .REEL, .TL_CUT_EVT, .TL_HEAD_MISS, .TL_HEAD_STATUS]) := by
  unfold State.buildWindow
  try dsimp only
  repeat' first
    | (with_reducible exact Frame.refl _ _ _)
    | ((with_reducible eapply Frame.via) <;> [(with_reducible first | apply State.headsUpdate_touches | apply State.onEng_touches | apply State.primedUpdate_touches | apply State.raiseOnceFrame | apply State.returnLoan_touches | apply State.takeLoan_touches); rfl; exact among_sub rfl; skip])
    | (with_reducible refine Frame.step ?_ ?_)
    | ((with_reducible refine Frame.steps ?_ ?_) <;> [intro _ _; skip])
    | ((with_reducible refine Frame.choose ?_ ?_) <;> intro _)
    | split

theorem State.dropWindow_touches (s : State) (r : Nat) : Frame s (State.dropWindow s r) [.loans, .engines, .heads] (among [.L_STRM_RET, .REEL, .TL_CUT_EVT, .TL_HEAD_MISS, .TL_HEAD_STATUS]) := by
  unfold State.dropWindow
  try dsimp only
  repeat' first
    | (with_reducible exact Frame.refl _ _ _)
    | ((with_reducible refine Frame.putClr ?_ ?_) <;> [rfl; skip])
    | ((with_reducible eapply Frame.via) <;> [(with_reducible first | apply State.headsUpdate_touches | apply State.onEng_touches | apply State.returnLoans_touches); rfl; exact among_sub rfl; skip])

end Sys2Proof.Machine
end

