-- ==== Sys2Proof/Laws/FramesIrq.lean ====
section
/-!
SUPPORT. The frames of the operations of Machine/Irq.lean: the parts and registers each may change.
-/
set_option linter.unusedTactic false
set_option linter.unreachableTactic false
set_option linter.unusedVariables false
set_option linter.unusedSimpArgs false
namespace Sys2Proof.Machine

theorem State.message_touches (s : State) (pf vec : Nat) : Frame s (State.message s pf vec) [.out] (among [.SYS_MSIX_PBA]) := by
  unfold State.message
  try dsimp only
  repeat' first
    | (with_reducible exact Frame.refl _ _ _)
    | ((with_reducible refine Frame.put ?_ ?_) <;> [rfl; skip])
    | ((with_reducible eapply Frame.via) <;> [(with_reducible first | apply State.emitFrame); rfl; exact among_sub rfl; skip])
    | ((with_reducible refine Frame.choose ?_ ?_) <;> intro _)
    | split

theorem State.withdraw_touches (s : State) (t : Nat) : Frame s (State.withdraw s t) [] (among [.IC_TGT_STATUS, .SYS_MSIX_PBA]) := by
  unfold State.withdraw
  try dsimp only
  repeat' first
    | (with_reducible exact Frame.refl _ _ _)
    | ((with_reducible refine Frame.put ?_ ?_) <;> [rfl; skip])
    | ((with_reducible refine Frame.putClr ?_ ?_) <;> [rfl; skip])
    | (with_reducible refine Frame.step ?_ ?_)

theorem State.wakeSource_touches (s : State) (n : Nat) : Frame s (State.wakeSource s n) [.out] (among [.IC_EVT, .L_CC_SLEEP, .L_IC_WOKEN]) := by
  unfold State.wakeSource
  try dsimp only
  repeat' first
    | (with_reducible exact Frame.refl _ _ _)
    | ((with_reducible refine Frame.putFlag ?_ ?_) <;> [rfl; skip])
    | ((with_reducible refine Frame.putClr ?_ ?_) <;> [rfl; skip])
    | ((with_reducible eapply Frame.via) <;> [(with_reducible first | apply State.emitFrame); rfl; exact among_sub rfl; skip])
    | ((with_reducible refine Frame.choose ?_ ?_) <;> intro _)
    | split

theorem State.reroute_touches (s : State) : Frame s (State.reroute s) [] (among [.IC_TGT_STATUS, .SYS_MSIX_PBA]) := by
  unfold State.reroute
  try dsimp only
  repeat' first
    | (with_reducible exact Frame.refl _ _ _)
    | ((with_reducible eapply Frame.via) <;> [(with_reducible first | apply State.withdraw_touches); rfl; exact among_sub rfl; skip])
    | ((with_reducible refine Frame.steps ?_ ?_) <;> [intro _ _; skip])
    | ((with_reducible refine Frame.choose ?_ ?_) <;> intro _)
    | split

theorem State.unmask_touches (s : State) (pf vec : Nat) : Frame s (State.unmask s pf vec) [.out] (among [.SYS_MSIX, .SYS_MSIX_PBA]) := by
  unfold State.unmask
  try dsimp only
  repeat' first
    | (with_reducible exact Frame.refl _ _ _)
    | ((with_reducible refine Frame.put ?_ ?_) <;> [rfl; skip])
    | ((with_reducible eapply Frame.via) <;> [(with_reducible first | apply State.emitFrame); rfl; exact among_sub rfl; skip])
    | (with_reducible refine Frame.step ?_ ?_)
    | ((with_reducible refine Frame.choose ?_ ?_) <;> intro _)
    | split

theorem State.deliverWake_touches (s : State) : Frame s (State.deliverWake s) [] (among [.IC_EVC_STAT, .IC_LDG, .IC_SW_STAT, .L_WAKE_SEEN, .L_WAKE_START]) := by
  unfold State.deliverWake
  try dsimp only
  repeat' first
    | (with_reducible exact Frame.refl _ _ _)
    | ((with_reducible refine Frame.put ?_ ?_) <;> [rfl; skip])
    | ((with_reducible refine Frame.putFlag ?_ ?_) <;> [rfl; skip])
    | ((with_reducible refine Frame.putClr ?_ ?_) <;> [rfl; skip])
    | (with_reducible refine Frame.step ?_ ?_)
    | ((with_reducible refine Frame.steps ?_ ?_) <;> [intro _ _; skip])

theorem execIrqPresent_touches (t : Fin 12) (s : State) : Frames s (execIrqPresent t s) [.out] (among [.IC_EVT, .IC_TGT_STATUS, .L_CC_SLEEP, .L_IC_WOKEN, .SYS_MSIX_PBA]) := by
  unfold execIrqPresent
  try dsimp only
  refine ⟨_, rfl, ?_⟩
  repeat' first
    | (with_reducible exact Frame.refl _ _ _)
    | ((with_reducible refine Frame.put ?_ ?_) <;> [rfl; skip])
    | ((with_reducible refine Frame.putFlag ?_ ?_) <;> [rfl; skip])
    | ((with_reducible eapply Frame.via) <;> [(with_reducible first | apply State.message_touches | apply State.wakeSource_touches | apply State.withdraw_touches); rfl; exact among_sub rfl; skip])
    | (with_reducible refine Frame.step ?_ ?_)
    | ((with_reducible refine Frame.steps ?_ ?_) <;> [intro _ _; skip])
    | ((with_reducible refine Frame.choose ?_ ?_) <;> intro _)
    | split

theorem execIrqClaim_touches (reader t : Fin 12) (s : State) : Frames s (execIrqClaim reader t s) [] (among [.IC_TGT_STATUS, .L_CLAIM_DATA]) := by
  unfold execIrqClaim
  try dsimp only
  refine ⟨_, rfl, ?_⟩
  repeat' first
    | (with_reducible exact Frame.refl _ _ _)
    | ((with_reducible refine Frame.put ?_ ?_) <;> [rfl; skip])
    | ((with_reducible refine Frame.puts ?_ ?_) <;> [(simp [among, anyKey]; done); skip])
    | ((with_reducible refine Frame.putsCons ?_ ?_) <;> [rfl; skip])
    | ((with_reducible refine Frame.choose ?_ ?_) <;> intro _)
    | split

theorem execIrqEoi_touches (t : Fin 12) (v : Nat) (s : State) : Frames s (execIrqEoi t v s) [] (among [.AON_PWR_EVT, .IC_EOI, .IC_EVT, .IC_TGT_STATUS]) := by
  unfold execIrqEoi
  try dsimp only
  refine ⟨_, rfl, ?_⟩
  repeat' first
    | (with_reducible exact Frame.refl _ _ _)
    | ((with_reducible refine Frame.put ?_ ?_) <;> [rfl; skip])
    | ((with_reducible refine Frame.putFlag ?_ ?_) <;> [rfl; skip])
    | ((with_reducible refine Frame.puts ?_ ?_) <;> [(simp [among, anyKey]; done); skip])
    | ((with_reducible refine Frame.putsCons ?_ ?_) <;> [rfl; skip])
    | ((with_reducible refine Frame.host ?_ ?_ ?_) <;> [rfl; skip; skip])
    | ((with_reducible refine Frame.choose ?_ ?_) <;> intro _)
    | split

theorem execIrqRouteWrite_touches (src : Fin 256) (v : Nat) (s : State) : Frames s (execIrqRouteWrite src v s) [] (among [.AON_PWR_EVT, .IC_EVT, .IC_ROUTE, .IC_TGT_STATUS, .SYS_MSIX_PBA]) := by
  unfold execIrqRouteWrite
  try dsimp only
  refine ⟨_, rfl, ?_⟩
  repeat' first
    | (with_reducible exact Frame.refl _ _ _)
    | ((with_reducible refine Frame.putFlag ?_ ?_) <;> [rfl; skip])
    | ((with_reducible refine Frame.puts ?_ ?_) <;> [(simp [among, anyKey]; done); skip])
    | ((with_reducible refine Frame.putsCons ?_ ?_) <;> [rfl; skip])
    | ((with_reducible eapply Frame.via) <;> [(with_reducible first | apply State.reroute_touches); rfl; exact among_sub rfl; skip])
    | ((with_reducible refine Frame.host ?_ ?_ ?_) <;> [rfl; skip; skip])
    | (with_reducible refine Frame.step ?_ ?_)

theorem execMsixUnmask_touches (pf : Fin 4) (vec : Fin 2) (s : State) : Frames s (execMsixUnmask pf vec s) [.out] (among [.SYS_MSIX, .SYS_MSIX_PBA]) := by
  unfold execMsixUnmask
  try dsimp only
  refine ⟨_, rfl, ?_⟩
  repeat' first
    | (with_reducible exact Frame.refl _ _ _)
    | ((with_reducible eapply Frame.via) <;> [(with_reducible first | apply State.unmask_touches); rfl; exact among_sub rfl; skip])

theorem execMsixFunctionMask_touches (pf : Fin 4) (enable fmask : Bool) (s : State) : Frames s (execMsixFunctionMask pf enable fmask s) [] (among [.IC_TGT_STATUS, .L_PF_FMASK, .SYS_MSIX_PBA, .SYS_PF_CFG]) := by
  unfold execMsixFunctionMask
  try dsimp only
  refine ⟨_, rfl, ?_⟩
  repeat' first
    | (with_reducible exact Frame.refl _ _ _)
    | ((with_reducible refine Frame.puts ?_ ?_) <;> [(simp [among, anyKey]; done); skip])
    | ((with_reducible refine Frame.putsCons ?_ ?_) <;> [rfl; skip])
    | ((with_reducible eapply Frame.via) <;> [(with_reducible first | apply State.reroute_touches); rfl; exact among_sub rfl; skip])

theorem execIcSwSet_touches (v : Nat) (s : State) : Frames s (execIcSwSet v s) [] (among [.AON_PWR_EVT, .IC_SW_STAT]) := by
  unfold execIcSwSet
  try dsimp only
  refine ⟨_, rfl, ?_⟩
  repeat' first
    | (with_reducible exact Frame.refl _ _ _)
    | ((with_reducible refine Frame.put ?_ ?_) <;> [rfl; skip])
    | ((with_reducible refine Frame.host ?_ ?_ ?_) <;> [rfl; skip; skip])

theorem execWakeWatcherAssert_touches (src : Fin 256) (s : State) : Frames s (execWakeWatcherAssert src s) [] (among [.AON_EVT, .AON_PWR_EVT, .IC_WAKE_CAUSE, .L_PWR_BUSY, .L_PWR_NEXT, .L_WAKE_SEEN, .L_WAKE_START]) := by
  unfold execWakeWatcherAssert
  try dsimp only
  refine ⟨_, rfl, ?_⟩
  repeat' first
    | (with_reducible exact Frame.refl _ _ _)
    | ((with_reducible refine Frame.putFlag ?_ ?_) <;> [rfl; skip])
    | ((with_reducible refine Frame.puts ?_ ?_) <;> [(simp [among, anyKey]; done); skip])
    | ((with_reducible refine Frame.putsCons ?_ ?_) <;> [rfl; skip])
    | ((with_reducible refine Frame.choose ?_ ?_) <;> intro _)
    | split

end Sys2Proof.Machine
end

