-- ==== Sys2Proof/Laws/FramesTiu.lean ====
section
/-!
SUPPORT. The frames of the operations of Machine/Tiu.lean: the parts and registers each may change.
-/
set_option linter.unusedTactic false
set_option linter.unreachableTactic false
set_option linter.unusedVariables false
set_option linter.unusedSimpArgs false
namespace Sys2Proof.Machine

theorem Frame.setStamp {s a : State} {ps : List Part} {p : Key → Bool} {key : Nat → Key} {v : Nat} (h : ∀ j, p (key j) = true) (g : Frame s a ps p) :
    Frame s (a.setStamp key v) ps p := ((g.put (h 0)).put (h 1)).put (h 2)

theorem State.dropMeas_touches (s : State) (k : Nat) : Frame s (State.dropMeas s k) [.measures] (among []) := by
  unfold State.dropMeas
  try dsimp only
  repeat' first
    | (with_reducible exact Frame.refl _ _ _)
    | (fail_if_no_progress ((with_reducible refine Frame.on_measures ?_ ?_) <;> [rfl; skip]))

theorem State.putMeas_touches (s : State) (m : Meas) : Frame s (State.putMeas s m) [.measures] (among []) := by
  unfold State.putMeas
  try dsimp only
  repeat' first
    | (with_reducible exact Frame.refl _ _ _)
    | (fail_if_no_progress ((with_reducible refine Frame.on_measures ?_ ?_) <;> [rfl; skip]))

theorem Frame.unreserved {s a : State} {ps : List Part} {p : Key → Bool} {k : Nat} {f : State → State} (hk : p (Fld.TIU_EVT_RSV_REFUSED k) = true)
    (h : Frame a (f a) ps p) (g : Frame s a ps p) : Frame s (a.unreserved k f) ps p := by
  unfold State.unreserved
  split
  · exact g.put hk
  · exact g.trans h

theorem State.tiuStart_touches (s : State) (k : Nat) : Frame s (State.tiuStart s k) [] (among [.TIU_STATUS]) := by
  unfold State.tiuStart
  try dsimp only
  repeat' first
    | (with_reducible exact Frame.refl _ _ _)
    | ((with_reducible refine Frame.put ?_ ?_) <;> [rfl; skip])
    | ((with_reducible refine Frame.choose ?_ ?_) <;> intro _)
    | split

theorem State.tiuStop_touches (s : State) (k : Nat) : Frame s (State.tiuStop s k) [.measures] (among [.TIU_STATUS]) := by
  unfold State.tiuStop
  try dsimp only
  repeat' first
    | (with_reducible exact Frame.refl _ _ _)
    | ((with_reducible refine Frame.put ?_ ?_) <;> [rfl; skip])
    | ((with_reducible eapply Frame.via) <;> [(with_reducible first | apply State.dropMeas_touches); rfl; exact among_sub rfl; skip])
    | ((with_reducible refine Frame.choose ?_ ?_) <;> intro _)
    | split

theorem State.uniformTable_touches (s : State) (k : Nat) : Frame s (State.uniformTable s k) [.tables] (among [.TIU_TAP]) :=
  Frame.on_tables rfl (Frame.forget (fun q hq => by simp at hq; simp [among, hq.1]) (Frame.refl _ _ _))

theorem State.installTable_touches (s : State) (k : Nat) : Frame s (State.installTable s k) [.tables] (among [.L_TIU_BOFS, .TIU_STATUS, .TIU_TAP]) := by
  unfold State.installTable
  try dsimp only
  repeat' first
    | (with_reducible exact Frame.refl _ _ _)
    | ((with_reducible refine Frame.put ?_ ?_) <;> [rfl; skip])
    | ((with_reducible refine Frame.putFlag ?_ ?_) <;> [rfl; skip])
    | ((with_reducible refine Frame.putSeti ?_ ?_) <;> [rfl; skip])
    | ((with_reducible refine Frame.steps ?_ ?_) <;> [intro _ _; skip])
    | (fail_if_no_progress ((with_reducible refine Frame.on_tables ?_ ?_) <;> [rfl; skip]))
    | split

theorem State.tiuArm_touches (s : State) (k at_ : Nat) (task : Bool) : Frame s (State.tiuArm s k at_ task) [.measures, .tables] (among [.L_TIU_BOFS, .TIU_EVT, .TIU_RUN_HI, .TIU_RUN_LO, .TIU_STATUS, .TIU_TAP]) := by
  unfold State.tiuArm
  try dsimp only
  repeat' first
    | (with_reducible exact Frame.refl _ _ _)
    | ((with_reducible refine Frame.put ?_ ?_) <;> [rfl; skip])
    | ((with_reducible refine Frame.putFlag ?_ ?_) <;> [rfl; skip])
    | ((with_reducible refine Frame.puts ?_ ?_) <;> [(simp [among, anyKey]; done); skip])
    | ((with_reducible refine Frame.putsCons ?_ ?_) <;> [rfl; skip])
    | ((with_reducible eapply Frame.via) <;> [(with_reducible first | apply State.installTable_touches | apply State.putMeas_touches); rfl; exact among_sub rfl; skip])
    | ((with_reducible refine Frame.choose ?_ ?_) <;> intro _)
    | split

theorem State.latchTiu_touches (s : State) (k : Nat) (m : Meas) (timeout broken : Bool) : Frame s (State.latchTiu s k m timeout broken) [.measures, .edges] (among [.TIU_EVT, .TIU_FREQ_EXP, .TIU_FREQ_RATIO_HI, .TIU_FREQ_RATIO_LO, .TIU_IMAX_HI, .TIU_IMAX_LO, .TIU_IMIN_HI, .TIU_IMIN_LO, .TIU_ISUM_HI, .TIU_ISUM_LO, .TIU_OVERRUN, .TIU_RSTAT, .TIU_START, .TIU_STATUS, .TIU_STOP, .TIU_SUM_IT, .TIU_SUM_T]) := by
  unfold State.latchTiu
  try dsimp only
  repeat' first
    | (with_reducible exact Frame.refl _ _ _)
    | ((with_reducible refine Frame.putFlag ?_ ?_) <;> [rfl; skip])
    | ((with_reducible refine Frame.put2 ?_ ?_ ?_) <;> [rfl; rfl; skip])
    | ((with_reducible refine Frame.putDwords ?_ ?_) <;> [exact fun _ => rfl; skip])
    | ((with_reducible refine Frame.puts ?_ ?_) <;> [(simp [among, anyKey]; done); skip])
    | ((with_reducible refine Frame.putsCons ?_ ?_) <;> [rfl; skip])
    | ((with_reducible eapply Frame.via) <;> [(with_reducible first | apply State.dropMeas_touches | apply State.pulseFrame); rfl; exact among_sub rfl; skip])
    | ((with_reducible refine Frame.setStamp ?_ ?_) <;> [exact fun _ => rfl; skip])
    | (with_reducible refine Frame.step ?_ ?_)
    | ((with_reducible refine Frame.choose ?_ ?_) <;> intro _)
    | split

theorem State.breakTius_touches (s : State) : Frame s (State.breakTius s) [.measures, .edges] (among [.TIU_EVT, .TIU_FREQ_EXP, .TIU_FREQ_RATIO_HI, .TIU_FREQ_RATIO_LO, .TIU_IMAX_HI, .TIU_IMAX_LO, .TIU_IMIN_HI, .TIU_IMIN_LO, .TIU_ISUM_HI, .TIU_ISUM_LO, .TIU_OVERRUN, .TIU_RSTAT, .TIU_START, .TIU_STATUS, .TIU_STOP, .TIU_SUM_IT, .TIU_SUM_T]) := by
  unfold State.breakTius
  try dsimp only
  repeat' first
    | (with_reducible exact Frame.refl _ _ _)
    | ((with_reducible eapply Frame.via) <;> [(with_reducible first | apply State.latchTiu_touches); rfl; exact among_sub rfl; skip])
    | ((with_reducible refine Frame.steps ?_ ?_) <;> [intro _ _; skip])
    | ((with_reducible refine Frame.choose ?_ ?_) <;> intro _)
    | split

theorem State.passedTius_touches (s : State) : Frame s (State.passedTius s) [.measures, .edges] (among [.TIU_EVT, .TIU_FREQ_EXP, .TIU_FREQ_RATIO_HI, .TIU_FREQ_RATIO_LO, .TIU_IMAX_HI, .TIU_IMAX_LO, .TIU_IMIN_HI, .TIU_IMIN_LO, .TIU_ISUM_HI, .TIU_ISUM_LO, .TIU_OVERRUN, .TIU_RSTAT, .TIU_START, .TIU_STATUS, .TIU_STOP, .TIU_SUM_IT, .TIU_SUM_T]) := by
  unfold State.passedTius
  try dsimp only
  repeat' first
    | (with_reducible exact Frame.refl _ _ _)
    | ((with_reducible eapply Frame.via) <;> [(with_reducible first | apply State.latchTiu_touches); rfl; exact among_sub rfl; skip])
    | ((with_reducible refine Frame.steps ?_ ?_) <;> [intro _ _; skip])
    | ((with_reducible refine Frame.choose ?_ ?_) <;> intro _)
    | split

theorem State.tbClaim_touches (s : State) : Frame s (State.tbClaim s) [.measures] (among [.TIU_EVT, .TIU_RSTAT, .TIU_STATUS]) := by
  unfold State.tbClaim
  try dsimp only
  repeat' first
    | (with_reducible exact Frame.refl _ _ _)
    | ((with_reducible refine Frame.put ?_ ?_) <;> [rfl; skip])
    | ((with_reducible refine Frame.putClr ?_ ?_) <;> [rfl; skip])
    | ((with_reducible refine Frame.puts ?_ ?_) <;> [(simp [among, anyKey]; done); skip])
    | ((with_reducible refine Frame.putsCons ?_ ?_) <;> [rfl; skip])
    | ((with_reducible eapply Frame.via) <;> [(with_reducible first | apply State.dropMeas_touches); rfl; exact among_sub rfl; skip])
    | ((with_reducible refine Frame.steps ?_ ?_) <;> [intro _ _; skip])
    | ((with_reducible refine Frame.choose ?_ ?_) <;> intro _)
    | split

theorem State.tiuAge_touches (s : State) (k : Nat) : Frame s (State.tiuAge s k) [] (among [.TIU_CAL_STAT]) := by
  unfold State.tiuAge
  try dsimp only
  repeat' first
    | (with_reducible exact Frame.refl _ _ _)
    | ((with_reducible refine Frame.put ?_ ?_) <;> [rfl; skip])
    | ((with_reducible refine Frame.choose ?_ ?_) <;> intro _)
    | split

theorem execTiuEnable_touches (k : Fin 24) (s : State) : Frames s (execTiuEnable k s) [] (among [.AON_PWR_EVT, .TIU_CTRL, .TIU_EVT, .TIU_STATUS]) := by
  unfold execTiuEnable
  try dsimp only
  refine ⟨_, rfl, ?_⟩
  repeat' first
    | (with_reducible exact Frame.refl _ _ _)
    | ((with_reducible refine Frame.putFlag ?_ ?_) <;> [rfl; skip])
    | ((with_reducible refine Frame.puts ?_ ?_) <;> [(simp [among, anyKey]; done); skip])
    | ((with_reducible refine Frame.putsCons ?_ ?_) <;> [rfl; skip])
    | ((with_reducible eapply Frame.via) <;> [(with_reducible first | apply State.tiuStart_touches); rfl; exact among_sub rfl; skip])
    | ((with_reducible refine Frame.unreserved ?_ ?_ ?_) <;> [rfl; skip; skip])
    | ((with_reducible refine Frame.host ?_ ?_ ?_) <;> [rfl; skip; skip])
    | ((with_reducible refine Frame.choose ?_ ?_) <;> intro _)
    | split

theorem execTiuDisable_touches (k : Fin 24) (s : State) : Frames s (execTiuDisable k s) [.measures] (among [.AON_PWR_EVT, .TIU_CTRL, .TIU_EVT, .TIU_STATUS]) := by
  unfold execTiuDisable
  try dsimp only
  refine ⟨_, rfl, ?_⟩
  repeat' first
    | (with_reducible exact Frame.refl _ _ _)
    | ((with_reducible refine Frame.putClr ?_ ?_) <;> [rfl; skip])
    | ((with_reducible eapply Frame.via) <;> [(with_reducible first | apply State.tiuStop_touches); rfl; exact among_sub rfl; skip])
    | ((with_reducible refine Frame.unreserved ?_ ?_ ?_) <;> [rfl; skip; skip])
    | ((with_reducible refine Frame.host ?_ ?_ ?_) <;> [rfl; skip; skip])

theorem execTiuDllLock_touches (k : Fin 24) (s : State) : Frames s (execTiuDllLock k s) [.tables] (among [.L_TIU_BOFS, .TIU_STATUS, .TIU_TAP]) := by
  unfold execTiuDllLock
  try dsimp only
  refine ⟨_, rfl, ?_⟩
  repeat' first
    | (with_reducible exact Frame.refl _ _ _)
    | ((with_reducible refine Frame.put ?_ ?_) <;> [rfl; skip])
    | ((with_reducible refine Frame.putFlag ?_ ?_) <;> [rfl; skip])
    | ((with_reducible refine Frame.puts ?_ ?_) <;> [(simp [among, anyKey]; done); skip])
    | ((with_reducible refine Frame.putsCons ?_ ?_) <;> [rfl; skip])
    | ((with_reducible eapply Frame.via) <;> [(with_reducible first | apply State.uniformTable_touches); rfl; exact among_sub rfl; skip])
    | ((with_reducible refine Frame.choose ?_ ?_) <;> intro _)
    | split

theorem execTiuStopDone_touches (k : Fin 24) (s : State) : Frames s (execTiuStopDone k s) [] (among [.L_TIU_CAL_BUSY, .TIU_STATUS]) := by
  unfold execTiuStopDone
  try dsimp only
  refine ⟨_, rfl, ?_⟩
  repeat' first
    | (with_reducible exact Frame.refl _ _ _)
    | ((with_reducible refine Frame.puts ?_ ?_) <;> [(simp [among, anyKey]; done); skip])
    | ((with_reducible refine Frame.putsCons ?_ ?_) <;> [rfl; skip])
    | ((with_reducible eapply Frame.via) <;> [(with_reducible first | apply State.tiuStart_touches); rfl; exact among_sub rfl; skip])
    | ((with_reducible refine Frame.choose ?_ ?_) <;> intro _)
    | split

theorem execTiuArm_touches (k : Fin 24) (s : State) : Frames s (execTiuArm k s) [.measures, .tables] (among [.AON_PWR_EVT, .L_TIU_BOFS, .TIU_EVT, .TIU_RUN_HI, .TIU_RUN_LO, .TIU_STATUS, .TIU_TAP]) := by
  unfold execTiuArm
  try dsimp only
  refine ⟨_, rfl, ?_⟩
  repeat' first
    | (with_reducible exact Frame.refl _ _ _)
    | ((with_reducible refine Frame.putFlag ?_ ?_) <;> [rfl; skip])
    | ((with_reducible eapply Frame.via) <;> [(with_reducible first | apply State.tiuArm_touches); rfl; exact among_sub rfl; skip])
    | ((with_reducible refine Frame.host ?_ ?_ ?_) <;> [rfl; skip; skip])
    | (with_reducible refine Frame.step ?_ ?_)

theorem execTiuArmTask_touches (k : Fin 24) (s : State) : Frames s (execTiuArmTask k s) [.measures, .tables, .triggers] (among [.L_TIU_BOFS, .TIU_EVT, .TIU_RUN_HI, .TIU_RUN_LO, .TIU_STATUS, .TIU_TAP]) := by
  unfold execTiuArmTask
  try dsimp only
  refine ⟨_, rfl, ?_⟩
  repeat' first
    | (with_reducible exact Frame.refl _ _ _)
    | ((with_reducible eapply Frame.via) <;> [(with_reducible first | apply State.tiuArm_touches); rfl; exact among_sub rfl; skip])
    | ((with_reducible refine Frame.onTask ?_ ?_ ?_) <;> [rfl; intro _ _; skip])

theorem execTiuAbort_touches (k : Fin 24) (s : State) : Frames s (execTiuAbort k s) [.measures] (among [.AON_PWR_EVT, .TIU_EVT, .TIU_STATUS]) := by
  unfold execTiuAbort
  try dsimp only
  refine ⟨_, rfl, ?_⟩
  repeat' first
    | (with_reducible exact Frame.refl _ _ _)
    | ((with_reducible refine Frame.put ?_ ?_) <;> [rfl; skip])
    | ((with_reducible eapply Frame.via) <;> [(with_reducible first | apply State.dropMeas_touches); rfl; exact among_sub rfl; skip])
    | ((with_reducible refine Frame.unreserved ?_ ?_ ?_) <;> [rfl; skip; skip])
    | ((with_reducible refine Frame.host ?_ ?_ ?_) <;> [rfl; skip; skip])
    | ((with_reducible refine Frame.choose ?_ ?_) <;> intro _)
    | split

theorem execTiuT0_touches (k : Fin 24) (s : State) : Frames s (execTiuT0 k s) [] (among [.TIU_STATUS]) := by
  unfold execTiuT0
  try dsimp only
  refine ⟨_, rfl, ?_⟩
  repeat' first
    | (with_reducible exact Frame.refl _ _ _)
    | ((with_reducible refine Frame.put ?_ ?_) <;> [rfl; skip])
    | ((with_reducible refine Frame.choose ?_ ?_) <;> intro _)
    | split

theorem execTiuEdge_touches (k : Fin 24) (line : Fin 2) (q : Fin 128) (s : State) : Frames s (execTiuEdge k line q s) [.measures] (among [.TIU_RUN_HI, .TIU_RUN_LO]) := by
  unfold execTiuEdge
  try dsimp only
  refine ⟨_, rfl, ?_⟩
  repeat' first
    | (with_reducible exact Frame.refl _ _ _)
    | ((with_reducible refine Frame.put2 ?_ ?_ ?_) <;> [rfl; rfl; skip])
    | ((with_reducible eapply Frame.via) <;> [(with_reducible first | apply State.putMeas_touches); rfl; exact among_sub rfl; skip])
    | ((with_reducible refine Frame.choose ?_ ?_) <;> intro _)
    | split

theorem execTiuDone_touches (k : Fin 24) (s : State) : Frames s (execTiuDone k s) [.measures, .edges] (among [.TIU_EVT, .TIU_FREQ_EXP, .TIU_FREQ_RATIO_HI, .TIU_FREQ_RATIO_LO, .TIU_IMAX_HI, .TIU_IMAX_LO, .TIU_IMIN_HI, .TIU_IMIN_LO, .TIU_ISUM_HI, .TIU_ISUM_LO, .TIU_OVERRUN, .TIU_RSTAT, .TIU_START, .TIU_STATUS, .TIU_STOP, .TIU_SUM_IT, .TIU_SUM_T]) := by
  unfold execTiuDone
  try dsimp only
  refine ⟨_, rfl, ?_⟩
  repeat' first
    | (with_reducible exact Frame.refl _ _ _)
    | ((with_reducible eapply Frame.via) <;> [(with_reducible first | apply State.latchTiu_touches); rfl; exact among_sub rfl; skip])
    | ((with_reducible refine Frame.choose ?_ ?_) <;> intro _)
    | split

theorem execTiuReservedWrite_touches (k : Fin 24) (arm : Bool) (s : State) : Frames s (execTiuReservedWrite k arm s) [] (among [.AON_PWR_EVT, .TIU_EVT, .TIU_STATUS]) := by
  unfold execTiuReservedWrite
  try dsimp only
  refine ⟨_, rfl, ?_⟩
  repeat' first
    | (with_reducible exact Frame.refl _ _ _)
    | ((with_reducible refine Frame.putFlag ?_ ?_) <;> [rfl; skip])
    | ((with_reducible refine Frame.puts ?_ ?_) <;> [(simp [among, anyKey]; done); skip])
    | ((with_reducible refine Frame.putsCons ?_ ?_) <;> [rfl; skip])
    | ((with_reducible refine Frame.host ?_ ?_ ?_) <;> [rfl; skip; skip])
    | (with_reducible refine Frame.step ?_ ?_)
    | ((with_reducible refine Frame.choose ?_ ?_) <;> intro _)
    | split

theorem execTiuCalRun_touches (k : Fin 24) (host : Bool) (s : State) : Frames s (execTiuCalRun k host s) [] (among [.L_TIU_CAL_BUSY]) := by
  unfold execTiuCalRun
  try dsimp only
  refine ⟨_, rfl, ?_⟩
  repeat' first
    | (with_reducible exact Frame.refl _ _ _)
    | ((with_reducible refine Frame.putFlag ?_ ?_) <;> [rfl; skip])
    | ((with_reducible refine Frame.choose ?_ ?_) <;> intro _)
    | split

theorem execTiuCalComplete_touches (k : Fin 24) (a b : List Nat) (offset : Int) (s : State) : Frames s (execTiuCalComplete k a b offset s) [.tables] (among [.L_TIU_BOFS, .L_TIU_CAL_AT, .L_TIU_CAL_BUSY, .SYS_TJ, .TIU_CAL_STAT, .TIU_EVT, .TIU_STATUS, .TIU_TAP]) := by
  unfold execTiuCalComplete
  try dsimp only
  refine ⟨_, rfl, ?_⟩
  repeat' first
    | (with_reducible exact Frame.refl _ _ _)
    | ((with_reducible refine Frame.puts ?_ ?_) <;> [(simp [among, anyKey]; done); skip])
    | ((with_reducible refine Frame.putsCons ?_ ?_) <;> [rfl; skip])
    | ((with_reducible eapply Frame.via) <;> [(with_reducible first | apply State.installTable_touches); rfl; exact among_sub rfl; skip])
    | (fail_if_no_progress ((with_reducible refine Frame.on_tables ?_ ?_) <;> [rfl; skip]))
    | ((with_reducible refine Frame.choose ?_ ?_) <;> intro _)
    | split

end Sys2Proof.Machine
end

