-- ==== Sys2Proof/Laws/FramesReels.lean ====
section
/-!
SUPPORT. The frames of the operations of Machine/Reels.lean: the parts and registers each may change.
-/
set_option linter.unusedTactic false
set_option linter.unreachableTactic false
set_option linter.unusedVariables false
set_option linter.unusedSimpArgs false
namespace Sys2Proof.Machine

theorem State.tilePulse_touches (s : State) (p origin : Nat) : Frame s (State.tilePulse s p origin) [.edges] (among [.L_PROD_WORD]) := by
  unfold State.tilePulse
  try dsimp only
  repeat' first
    | (with_reducible exact Frame.refl _ _ _)
    | ((with_reducible refine Frame.put ?_ ?_) <;> [rfl; skip])
    | ((with_reducible eapply Frame.via) <;> [(with_reducible first | apply State.pulseFrame); rfl; exact among_sub rfl; skip])
    | ((with_reducible refine Frame.choose ?_ ?_) <;> intro _)
    | split

theorem State.satMark_touches (s : State) (n t : Nat) : Frame s (State.satMark s n t) [.arcBuf] (among [.CH_EVT, .IC_ARC_EVT, .IC_ARC_LOST, .IC_LDG]) := by
  unfold State.satMark
  try dsimp only
  repeat' first
    | (with_reducible exact Frame.refl _ _ _)
    | ((with_reducible refine Frame.putFlag ?_ ?_) <;> [rfl; skip])
    | ((with_reducible eapply Frame.via) <;> [(with_reducible first | apply State.archiveFrame); rfl; exact among_sub rfl; skip])
    | ((with_reducible refine Frame.choose ?_ ?_) <;> intro _)
    | split

theorem State.rangeRequest_touches (s : State) (q : RangeReq) : Frame s (State.rangeRequest s q) [.ranges, .lines, .calSets, .calPends, .arcBuf] (among [.CAL_CH_STATUS, .CAL_EVT, .CAL_LOAD, .CAL_PEND_TAG, .CAL_RESID, .CH_CAL_GAIN, .CH_CAL_OFS, .CH_CAL_SKEW, .CH_CAL_TAG, .CH_EVT, .CH_INL, .CH_RANGE, .CH_STATUS, .IC_ARC_EVT, .IC_ARC_LOST, .IC_LDG, .L_CAL_SEQ, .L_CAL_SRES, .L_CAL_VRES, .TL_REEL_EVT]) := by
  unfold State.rangeRequest
  try dsimp only
  repeat' first
    | (with_reducible exact Frame.refl _ _ _)
    | ((with_reducible refine Frame.putFlag ?_ ?_) <;> [rfl; skip])
    | ((with_reducible refine Frame.puts ?_ ?_) <;> [(simp [among, anyKey]; done); skip])
    | ((with_reducible refine Frame.putsCons ?_ ?_) <;> [rfl; skip])
    | ((with_reducible eapply Frame.via) <;> [(with_reducible first | apply State.enterRange_touches); rfl; exact among_sub rfl; skip])
    | (fail_if_no_progress ((with_reducible refine Frame.on_ranges ?_ ?_) <;> [rfl; skip]))
    | ((with_reducible refine Frame.choose ?_ ?_) <;> intro _)
    | split

theorem State.foldPiece_touches (s : State) (r t : Nat) : Frame s (State.foldPiece s r t) [.engines] (among [.REEL]) := by
  unfold State.foldPiece
  try dsimp only
  repeat' first
    | (with_reducible exact Frame.refl _ _ _)
    | ((with_reducible eapply Frame.via) <;> [(with_reducible first | apply State.fold_touches | apply State.onEng_touches); rfl; exact among_sub rfl; skip])
    | split

theorem State.discardSets_touches (s : State) (r : Nat) : Frame s (State.discardSets s r) [.engines] (among [.TL_VSTG_EVT, .TL_VSTG_PEND]) := by
  unfold State.discardSets
  try dsimp only
  repeat' first
    | (with_reducible exact Frame.refl _ _ _)
    | ((with_reducible refine Frame.putFlag ?_ ?_) <;> [rfl; skip])
    | ((with_reducible refine Frame.putClrBit ?_ ?_) <;> [exact fun _ => rfl; skip])
    | ((with_reducible eapply Frame.via) <;> [(with_reducible first | apply State.onEng_touches); rfl; exact among_sub rfl; skip])
    | ((with_reducible refine Frame.choose ?_ ?_) <;> intro _)
    | split

theorem State.discardCuts_touches (s : State) (r : Nat) : Frame s (State.discardCuts s r) [.engines] (among [.REEL, .TL_CUT_EVT]) := by
  unfold State.discardCuts
  try dsimp only
  repeat' first
    | (with_reducible exact Frame.refl _ _ _)
    | ((with_reducible refine Frame.putFlag ?_ ?_) <;> [rfl; skip])
    | ((with_reducible refine Frame.putClr ?_ ?_) <;> [rfl; skip])
    | ((with_reducible eapply Frame.via) <;> [(with_reducible first | apply State.onEng_touches); rfl; exact among_sub rfl; skip])
    | (with_reducible refine Frame.step ?_ ?_)

theorem State.endEpisode_touches (s : State) (r t : Nat) : Frame s (State.endEpisode s r t) [.engines, .arcBuf] (among [.IC_ARC_EVT, .IC_ARC_LOST, .IC_LDG, .TL_CUT_EVT, .TL_LATE_CNT, .TL_LATE_LAST, .TL_LATE_WORDS_HI, .TL_LATE_WORDS_LO]) := by
  unfold State.endEpisode
  try dsimp only
  repeat' first
    | (with_reducible exact Frame.refl _ _ _)
    | ((with_reducible refine Frame.putBump ?_ ?_) <;> [rfl; skip])
    | ((with_reducible refine Frame.put2 ?_ ?_ ?_) <;> [rfl; rfl; skip])
    | ((with_reducible refine Frame.puts ?_ ?_) <;> [(simp [among, anyKey]; done); skip])
    | ((with_reducible refine Frame.putsCons ?_ ?_) <;> [rfl; skip])
    | ((with_reducible eapply Frame.via) <;> [(with_reducible first | apply State.archiveFrame | apply State.onEng_touches); rfl; exact among_sub rfl; skip])
    | split

theorem State.flushCut_touches (s : State) (r : Nat) : Frame s (State.flushCut s r) [.engines, .arcBuf] (among [.IC_ARC_EVT, .IC_ARC_LOST, .IC_LDG]) := by
  unfold State.flushCut
  try dsimp only
  repeat' first
    | (with_reducible exact Frame.refl _ _ _)
    | ((with_reducible eapply Frame.via) <;> [(with_reducible first | apply State.archiveFrame | apply State.onEng_touches); rfl; exact among_sub rfl; skip])
    | split

theorem State.quitRun_touches (s : State) (r t : Nat) : Frame s (State.quitRun s r t) [.engines, .arcBuf] (among [.IC_ARC_EVT, .IC_ARC_LOST, .IC_LDG, .REEL, .TL_CUT_EVT, .TL_LATE_CNT, .TL_LATE_LAST, .TL_LATE_WORDS_HI, .TL_LATE_WORDS_LO, .TL_VSTG_EVT, .TL_VSTG_PEND]) := by
  unfold State.quitRun
  try dsimp only
  repeat' first
    | (with_reducible exact Frame.refl _ _ _)
    | ((with_reducible refine Frame.put2 ?_ ?_ ?_) <;> [rfl; rfl; skip])
    | ((with_reducible eapply Frame.via) <;> [(with_reducible first | apply State.discardCuts_touches | apply State.discardSets_touches | apply State.endEpisode_touches | apply State.flushCut_touches | apply State.foldPiece_touches | apply State.onEng_touches); rfl; exact among_sub rfl; skip])

theorem State.enterFault_touches (s : State) (r code t : Nat) : Frame s (State.enterFault s r code t) [.loans, .engines, .heads, .edges, .arcBuf] (among [.CAL_CH_STATUS, .CAL_EVT, .CAL_STATUS, .COR_GRP_EVT, .COR_GRP_STATUS, .IC_ARC_EVT, .IC_ARC_LOST, .IC_LDG, .L_CAL_RUN, .L_COR_RAMP, .L_COR_W0, .L_COR_ZERO, .L_STRM_RET, .REEL, .TL_CUT_EVT, .TL_HEAD_MISS, .TL_HEAD_STATUS, .TL_LATE_CNT, .TL_LATE_LAST, .TL_LATE_WORDS_HI, .TL_LATE_WORDS_LO, .TL_REEL_ACTIVE, .TL_REEL_EVT, .TL_REEL_FAULTED, .TL_REEL_FLT_LAST, .TL_VSTG_EVT, .TL_VSTG_PEND]) := by
  unfold State.enterFault
  try dsimp only
  repeat' first
    | (with_reducible exact Frame.refl _ _ _)
    | ((with_reducible refine Frame.putFlag ?_ ?_) <;> [rfl; skip])
    | ((with_reducible refine Frame.putClr ?_ ?_) <;> [rfl; skip])
    | ((with_reducible refine Frame.puts ?_ ?_) <;> [(simp [among, anyKey]; done); skip])
    | ((with_reducible refine Frame.putsCons ?_ ?_) <;> [rfl; skip])
    | ((with_reducible eapply Frame.via) <;> [(with_reducible first | apply State.archiveFrame | apply State.dropWindow_touches | apply State.enterState_touches | apply State.markFrame | apply State.pulseFrame | apply State.quitRun_touches | apply State.raisePerTile_touches); rfl; exact among_sub rfl; skip])
    | (with_reducible refine Frame.step ?_ ?_)
    | ((with_reducible refine Frame.choose ?_ ?_) <;> intro _)
    | split

theorem State.enterStopping_touches (s : State) (r t : Nat) : Frame s (State.enterStopping s r t) [.engines, .edges, .arcBuf] (among [.CAL_CH_STATUS, .CAL_EVT, .CAL_STATUS, .COR_GRP_EVT, .COR_GRP_STATUS, .IC_ARC_EVT, .IC_ARC_LOST, .IC_LDG, .L_CAL_RUN, .L_COR_RAMP, .L_COR_W0, .L_COR_ZERO, .REEL, .TL_CUT_EVT, .TL_LATE_CNT, .TL_LATE_LAST, .TL_LATE_WORDS_HI, .TL_LATE_WORDS_LO, .TL_REEL_ACTIVE, .TL_REEL_FAULTED, .TL_VSTG_EVT, .TL_VSTG_PEND]) := by
  unfold State.enterStopping
  try dsimp only
  repeat' first
    | (with_reducible exact Frame.refl _ _ _)
    | ((with_reducible eapply Frame.via) <;> [(with_reducible first | apply State.enterState_touches | apply State.onEng_touches | apply State.quitRun_touches); rfl; exact among_sub rfl; skip])

theorem State.cueEffect_touches (s : State) (r a : Nat) (c : WinCue) : Frame s (State.cueEffect s r a c) [.loans, .engines, .heads, .ranges, .lines, .calSets, .calPends, .edges, .arcBuf] anyKey := by
  unfold State.cueEffect
  try dsimp only
  repeat' first
    | (with_reducible exact Frame.refl _ _ _)
    | ((with_reducible refine Frame.put ?_ ?_) <;> [rfl; skip])
    | ((with_reducible refine Frame.putClr ?_ ?_) <;> [rfl; skip])
    | ((with_reducible refine Frame.put2 ?_ ?_ ?_) <;> [rfl; rfl; skip])
    | ((with_reducible refine Frame.puts ?_ ?_) <;> [(simp [among, anyKey]; done); skip])
    | ((with_reducible refine Frame.putsCons ?_ ?_) <;> [rfl; skip])
    | ((with_reducible eapply Frame.via) <;> [(with_reducible first | apply State.archiveFrame | apply State.enterFault_touches | apply State.onEng_touches | apply State.rangeRequest_touches | apply State.setFreq_touches | apply State.tilePulse_touches); rfl; exact anyKey_sub; skip])
    | (with_reducible refine Frame.step ?_ ?_)
    | ((with_reducible refine Frame.choose ?_ ?_) <;> intro _)
    | split

theorem State.runDeferred_touches (s : State) (r a : Nat) : Frame s (State.runDeferred s r a) [.loans, .engines, .heads, .ranges, .lines, .calSets, .calPends, .edges, .arcBuf] anyKey := by
  unfold State.runDeferred
  try dsimp only
  repeat' first
    | (with_reducible exact Frame.refl _ _ _)
    | ((with_reducible eapply Frame.via) <;> [(with_reducible first | apply State.cueEffect_touches | apply State.onEng_touches); rfl; exact anyKey_sub; skip])
    | ((with_reducible refine Frame.steps ?_ ?_) <;> [intro _ _; skip])
    | ((with_reducible refine Frame.choose ?_ ?_) <;> intro _)
    | split

theorem State.applyKind_touches (s : State) (r t : Nat) (kv : Nat × Nat) : Frame s (State.applyKind s r t kv) [.engines] (among [.REEL]) := by
  unfold State.applyKind
  try dsimp only
  repeat' first
    | (with_reducible exact Frame.refl _ _ _)
    | ((with_reducible refine Frame.put ?_ ?_) <;> [rfl; skip])
    | ((with_reducible refine Frame.putClr ?_ ?_) <;> [rfl; skip])
    | ((with_reducible refine Frame.put2 ?_ ?_ ?_) <;> [rfl; rfl; skip])
    | ((with_reducible eapply Frame.via) <;> [(with_reducible first | apply State.fold_touches | apply State.onEng_touches | apply State.setFreq_touches); rfl; exact among_sub rfl; skip])
    | split

theorem State.updateLatched_touches (s : State) (r t : Nat) : Frame s (State.updateLatched s r t) [.arcBuf] (among [.COR_CNT, .COR_GRP_EVT, .IC_ARC_EVT, .IC_ARC_LOST, .IC_LDG, .L_COR_BUSY]) := by
  unfold State.updateLatched
  try dsimp only
  repeat' first
    | (with_reducible exact Frame.refl _ _ _)
    | ((with_reducible refine Frame.putFlag ?_ ?_) <;> [rfl; skip])
    | ((with_reducible refine Frame.putClr ?_ ?_) <;> [rfl; skip])
    | ((with_reducible refine Frame.putBump ?_ ?_) <;> [rfl; skip])
    | ((with_reducible eapply Frame.via) <;> [(with_reducible first | apply State.archiveFrame); rfl; exact among_sub rfl; skip])
    | ((with_reducible refine Frame.choose ?_ ?_) <;> intro _)
    | split

theorem State.applyPending_touches (s : State) (r t : Nat) : Frame s (State.applyPending s r t) [.engines, .arcBuf] (among [.COR_CNT, .COR_GRP_EVT, .IC_ARC_EVT, .IC_ARC_LOST, .IC_LDG, .L_COR_BUSY, .REEL, .TL_VSTG_EVT, .TL_VSTG_LAST, .TL_VSTG_PEND, .TL_VSTG_TICK_HI, .TL_VSTG_TICK_LO]) := by
  unfold State.applyPending
  try dsimp only
  repeat' first
    | (with_reducible exact Frame.refl _ _ _)
    | ((with_reducible refine Frame.put2 ?_ ?_ ?_) <;> [rfl; rfl; skip])
    | ((with_reducible refine Frame.putClrBit ?_ ?_) <;> [exact fun _ => rfl; skip])
    | ((with_reducible refine Frame.puts ?_ ?_) <;> [(simp [among, anyKey]; done); skip])
    | ((with_reducible refine Frame.putsCons ?_ ?_) <;> [rfl; skip])
    | ((with_reducible eapply Frame.via) <;> [(with_reducible first | apply State.applyKind_touches | apply State.archiveFrame | apply State.onEng_touches | apply State.updateLatched_touches); rfl; exact among_sub rfl; skip])
    | ((with_reducible refine Frame.steps ?_ ?_) <;> [intro _ _; skip])
    | ((with_reducible refine Frame.choose ?_ ?_) <;> intro _)
    | split

theorem State.startSweep_touches (s : State) (r i row t : Nat) : Frame s (State.startSweep s r i row t) [.loans, .engines, .heads, .edges, .arcBuf] (among [.CAL_CH_STATUS, .CAL_EVT, .CAL_STATUS, .COR_GRP_EVT, .COR_GRP_STATUS, .IC_ARC_EVT, .IC_ARC_LOST, .IC_LDG, .L_CAL_RUN, .L_COR_RAMP, .L_COR_W0, .L_COR_ZERO, .L_STRM_RET, .REEL, .TL_CUT_EVT, .TL_HEAD_MISS, .TL_HEAD_STATUS, .TL_LATE_CNT, .TL_LATE_LAST, .TL_LATE_WORDS_HI, .TL_LATE_WORDS_LO, .TL_REEL_ACTIVE, .TL_REEL_EVT, .TL_REEL_FAULTED, .TL_REEL_FLT_LAST, .TL_VSTG_EVT, .TL_VSTG_PEND]) := by
  unfold State.startSweep
  try dsimp only
  repeat' first
    | (with_reducible exact Frame.refl _ _ _)
    | ((with_reducible refine Frame.put ?_ ?_) <;> [rfl; skip])
    | ((with_reducible refine Frame.put2 ?_ ?_ ?_) <;> [rfl; rfl; skip])
    | ((with_reducible eapply Frame.via) <;> [(with_reducible first | apply State.enterFault_touches | apply State.onEng_touches); rfl; exact among_sub rfl; skip])
    | ((with_reducible refine Frame.choose ?_ ?_) <;> intro _)
    | split

theorem State.cardSlate_touches (s : State) (r n t : Nat) : Frame s (State.cardSlate s r n t) [.edges, .arcBuf] (among [.IC_ARC_EVT, .IC_ARC_LOST, .IC_LDG, .L_PROD_WORD]) := by
  unfold State.cardSlate
  try dsimp only
  repeat' first
    | (with_reducible exact Frame.refl _ _ _)
    | ((with_reducible eapply Frame.via) <;> [(with_reducible first | apply State.archiveFrame | apply State.tilePulse_touches); rfl; exact among_sub rfl; skip])
    | ((with_reducible refine Frame.choose ?_ ?_) <;> intro _)
    | split

theorem State.streamPass_touches (s : State) (r : Nat) : Frame s (State.streamPass s r) [] (among [.L_STRM_LEAF, .L_STRM_NEXT]) := by
  unfold State.streamPass
  try dsimp only
  repeat' first
    | (with_reducible exact Frame.refl _ _ _)
    | ((with_reducible refine Frame.puts ?_ ?_) <;> [(simp [among, anyKey]; done); skip])
    | ((with_reducible refine Frame.putsCons ?_ ?_) <;> [rfl; skip])
    | ((with_reducible refine Frame.choose ?_ ?_) <;> intro _)
    | split

theorem State.startActions_touches (s : State) (r a : Nat) : Frame s (State.startActions s r a) [.loans, .engines, .heads, .edges, .arcBuf] (among [.CAL_CH_STATUS, .CAL_EVT, .CAL_STATUS, .COR_GRP_EVT, .COR_GRP_STATUS, .IC_ARC_EVT, .IC_ARC_LOST, .IC_LDG, .L_CAL_RUN, .L_COR_RAMP, .L_COR_W0, .L_COR_ZERO, .L_PROD_WORD, .L_STRM_LEAF, .L_STRM_NEXT, .L_STRM_RET, .REEL, .TL_CUT_EVT, .TL_HEAD_MISS, .TL_HEAD_STATUS, .TL_LATE_CNT, .TL_LATE_LAST, .TL_LATE_WORDS_HI, .TL_LATE_WORDS_LO, .TL_REEL_ACTIVE, .TL_REEL_EVT, .TL_REEL_FAULTED, .TL_REEL_FLT_LAST, .TL_VSTG_EVT, .TL_VSTG_PEND]) := by
  unfold State.startActions
  try dsimp only
  repeat' first
    | (with_reducible exact Frame.refl _ _ _)
    | ((with_reducible eapply Frame.via) <;> [(with_reducible first | apply State.cardSlate_touches | apply State.onEng_touches | apply State.startSweep_touches | apply State.streamPass_touches); rfl; exact among_sub rfl; skip])
    | ((with_reducible refine Frame.choose ?_ ?_) <;> intro _)
    | split

theorem State.anchorActions_touches (s : State) (r a : Nat) : Frame s (State.anchorActions s r a) [.loans, .engines, .heads, .ranges, .lines, .calSets, .calPends, .edges, .arcBuf] anyKey := by
  unfold State.anchorActions
  try dsimp only
  repeat' first
    | (with_reducible exact Frame.refl _ _ _)
    | ((with_reducible eapply Frame.via) <;> [(with_reducible first | apply State.applyPending_touches | apply State.archiveFrame | apply State.flushCut_touches | apply State.runDeferred_touches | apply State.startActions_touches); rfl; exact anyKey_sub; skip])
    | (with_reducible refine Frame.step ?_ ?_)
    | ((with_reducible refine Frame.choose ?_ ?_) <;> intro _)
    | split

theorem State.startCue_touches (s : State) (r b : Nat) (c : WinCue) : Frame s (State.startCue s r b c) [.loans, .engines, .heads, .ranges, .lines, .calSets, .calPends, .edges, .arcBuf] anyKey := by
  unfold State.startCue
  try dsimp only
  repeat' first
    | (with_reducible exact Frame.refl _ _ _)
    | ((with_reducible refine Frame.put ?_ ?_) <;> [rfl; skip])
    | ((with_reducible refine Frame.puts ?_ ?_) <;> [(simp [among, anyKey]; done); skip])
    | ((with_reducible refine Frame.putsCons ?_ ?_) <;> [rfl; skip])
    | ((with_reducible eapply Frame.via) <;> [(with_reducible first | apply State.anchorActions_touches | apply State.buildWindow_touches | apply State.enterState_touches | apply State.onEng_touches | apply State.runDeferred_touches); rfl; exact anyKey_sub; skip])
    | (with_reducible refine Frame.step ?_ ?_)
    | ((with_reducible refine Frame.choose ?_ ?_) <;> intro _)
    | split

theorem State.startWait_touches (s : State) (r b : Nat) (c : WinCue) : Frame s (State.startWait s r b c) [.loans, .engines, .heads, .edges, .arcBuf] (among [.CAL_CH_STATUS, .CAL_EVT, .CAL_STATUS, .COR_GRP_EVT, .COR_GRP_STATUS, .IC_ARC_EVT, .IC_ARC_LOST, .IC_LDG, .L_CAL_RUN, .L_COR_RAMP, .L_COR_W0, .L_COR_ZERO, .L_STRM_RET, .MS_EVT, .REEL, .TL_CUT_EVT, .TL_HEAD_MISS, .TL_HEAD_STATUS, .TL_LATE_CNT, .TL_LATE_LAST, .TL_LATE_WORDS_HI, .TL_LATE_WORDS_LO, .TL_REEL_ACTIVE, .TL_REEL_EVT, .TL_REEL_FAULTED, .TL_REEL_FLT_LAST, .TL_VSTG_EVT, .TL_VSTG_PEND]) := by
  unfold State.startWait
  try dsimp only
  repeat' first
    | (with_reducible exact Frame.refl _ _ _)
    | ((with_reducible refine Frame.put ?_ ?_) <;> [rfl; skip])
    | ((with_reducible refine Frame.putFlag ?_ ?_) <;> [rfl; skip])
    | ((with_reducible refine Frame.put2 ?_ ?_ ?_) <;> [rfl; rfl; skip])
    | ((with_reducible eapply Frame.via) <;> [(with_reducible first | apply State.buildWindow_touches | apply State.enterFault_touches | apply State.enterState_touches | apply State.onEng_touches); rfl; exact among_sub rfl; skip])
    | (with_reducible refine Frame.step ?_ ?_)
    | ((with_reducible refine Frame.choose ?_ ?_) <;> intro _)
    | split

theorem State.loadCurrent_touches (s : State) (r : Nat) : Frame s (State.loadCurrent s r) [.engines] (among [.REEL]) := by
  unfold State.loadCurrent
  try dsimp only
  repeat' first
    | (with_reducible exact Frame.refl _ _ _)
    | ((with_reducible refine Frame.puts ?_ ?_) <;> [(simp [among, anyKey]; done); skip])
    | ((with_reducible refine Frame.putsCons ?_ ?_) <;> [rfl; skip])
    | ((with_reducible eapply Frame.via) <;> [(with_reducible first | apply State.onEng_touches); rfl; exact among_sub rfl; skip])

theorem State.enterArmed_touches (s : State) (r t : Nat) : Frame s (State.enterArmed s r t) [.loans, .engines, .heads, .edges, .arcBuf] (among [.CAL_CH_STATUS, .CAL_EVT, .CAL_STATUS, .COR_GRP_EVT, .COR_GRP_STATUS, .IC_ARC_EVT, .IC_ARC_LOST, .IC_LDG, .L_CAL_RUN, .L_COR_RAMP, .L_COR_W0, .L_COR_ZERO, .L_STRM_RET, .MS_EVT, .REEL, .TL_CUT_EVT, .TL_HEAD_MISS, .TL_HEAD_STATUS, .TL_REEL_ACTIVE, .TL_REEL_FAULTED]) := by
  unfold State.enterArmed
  try dsimp only
  repeat' first
    | (with_reducible exact Frame.refl _ _ _)
    | ((with_reducible refine Frame.puts ?_ ?_) <;> [(simp [among, anyKey]; done); skip])
    | ((with_reducible refine Frame.putsCons ?_ ?_) <;> [rfl; skip])
    | ((with_reducible eapply Frame.via) <;> [(with_reducible first | apply State.buildWindow_touches | apply State.enterState_touches | apply State.loadCurrent_touches | apply State.onEng_touches | apply State.setStacks_touches); rfl; exact among_sub rfl; skip])

theorem State.terminal_touches (s : State) (r b : Nat) (c : WinCue) : Frame s (State.terminal s r b c) [.loans, .engines, .heads, .edges, .arcBuf] (among [.CAL_CH_STATUS, .CAL_EVT, .CAL_STATUS, .COR_GRP_EVT, .COR_GRP_STATUS, .IC_ARC_EVT, .IC_ARC_LOST, .IC_LDG, .L_CAL_RUN, .L_COR_RAMP, .L_COR_W0, .L_COR_ZERO, .L_STRM_RET, .MS_EVT, .REEL, .TL_CUT_EVT, .TL_HEAD_MISS, .TL_HEAD_STATUS, .TL_LATE_CNT, .TL_LATE_LAST, .TL_LATE_WORDS_HI, .TL_LATE_WORDS_LO, .TL_REEL_ACTIVE, .TL_REEL_EVT, .TL_REEL_FAULTED, .TL_REEL_FLT_LAST, .TL_VSTG_EVT, .TL_VSTG_PEND]) := by
  unfold State.terminal
  try dsimp only
  repeat' first
    | (with_reducible exact Frame.refl _ _ _)
    | ((with_reducible refine Frame.put ?_ ?_) <;> [rfl; skip])
    | ((with_reducible refine Frame.putFlag ?_ ?_) <;> [rfl; skip])
    | ((with_reducible refine Frame.putBump ?_ ?_) <;> [rfl; skip])
    | ((with_reducible refine Frame.put2 ?_ ?_ ?_) <;> [rfl; rfl; skip])
    | ((with_reducible eapply Frame.via) <;> [(with_reducible first | apply State.discardCuts_touches | apply State.discardSets_touches | apply State.endEpisode_touches | apply State.enterArmed_touches | apply State.enterFault_touches | apply State.enterStopping_touches); rfl; exact among_sub rfl; skip])
    | (with_reducible refine Frame.step ?_ ?_)
    | ((with_reducible refine Frame.choose ?_ ?_) <;> intro _)
    | split

theorem State.deferCue_touches (s : State) (r : Nat) (c : WinCue) : Frame s (State.deferCue s r c) [.engines] (among []) := by
  unfold State.deferCue
  try dsimp only
  repeat' first
    | (with_reducible exact Frame.refl _ _ _)
    | ((with_reducible eapply Frame.via) <;> [(with_reducible first | apply State.onEng_touches); rfl; exact among_sub rfl; skip])

theorem State.chainFault_touches (s : State) (r b code : Nat) (c : WinCue) : Frame s (State.chainFault s r b code c) [.loans, .engines, .heads, .ranges, .lines, .calSets, .calPends, .edges, .arcBuf] anyKey := by
  unfold State.chainFault
  try dsimp only
  repeat' first
    | (with_reducible exact Frame.refl _ _ _)
    | ((with_reducible eapply Frame.via) <;> [(with_reducible first | apply State.deferCue_touches | apply State.enterState_touches | apply State.onEng_touches | apply State.runDeferred_touches); rfl; exact anyKey_sub; skip])
    | ((with_reducible refine Frame.choose ?_ ?_) <;> intro _)
    | split

theorem State.chain_touches (s : State) (r b fuel n q : Nat) (words : List WinCue) : Frame s (s.chain r b fuel n q words) [.loans, .engines, .heads, .ranges, .lines, .calSets, .calPends, .edges, .arcBuf] anyKey := by
  induction fuel generalizing s n q words with
  | zero => exact Frame.refl _ _ _
  | succ fuel ih =>
    unfold State.chain
    dsimp only
    repeat' first
      | (with_reducible exact Frame.refl _ _ _)
      | ((with_reducible refine Frame.put ?_ ?_) <;> [rfl; skip])
      | ((with_reducible eapply Frame.via) <;> [(with_reducible first | apply State.chainFault_touches | apply State.deferCue_touches | apply State.enterFault_touches | apply State.flushCut_touches | apply State.onEng_touches | apply State.runDeferred_touches | apply State.setStacks_touches | apply State.startCue_touches | apply State.startWait_touches | apply State.terminal_touches | apply ih); rfl; exact anyKey_sub; skip])
      | ((with_reducible refine Frame.choose ?_ ?_) <;> intro _)
      | split


theorem State.runChain_touches (s : State) (r b q : Nat) (words : List WinCue) : Frame s (State.runChain s r b q words) [.loans, .engines, .heads, .ranges, .lines, .calSets, .calPends, .edges, .arcBuf] anyKey := by
  unfold State.runChain
  try dsimp only
  repeat' first
    | (with_reducible exact Frame.refl _ _ _)
    | ((with_reducible eapply Frame.via) <;> [(with_reducible first | apply State.chain_touches | apply State.onEng_touches); rfl; exact anyKey_sub; skip])

theorem State.keepLast_touches (s : State) (r t : Nat) : Frame s (State.keepLast s r t) [.engines] (among []) := by
  unfold State.keepLast
  try dsimp only
  repeat' first
    | (with_reducible exact Frame.refl _ _ _)
    | ((with_reducible eapply Frame.via) <;> [(with_reducible first | apply State.onEng_touches); rfl; exact among_sub rfl; skip])
    | ((with_reducible refine Frame.choose ?_ ?_) <;> intro _)
    | split

theorem State.leaveCue_touches (s : State) (r t : Nat) : Frame s (State.leaveCue s r t) [.engines, .arcBuf] (among [.IC_ARC_EVT, .IC_ARC_LOST, .IC_LDG, .REEL, .TL_CUT_EVT, .TL_LATE_CNT, .TL_LATE_LAST, .TL_LATE_WORDS_HI, .TL_LATE_WORDS_LO]) := by
  unfold State.leaveCue
  try dsimp only
  repeat' first
    | (with_reducible exact Frame.refl _ _ _)
    | ((with_reducible refine Frame.put ?_ ?_) <;> [rfl; skip])
    | ((with_reducible eapply Frame.via) <;> [(with_reducible first | apply State.endEpisode_touches | apply State.foldPiece_touches | apply State.keepLast_touches | apply State.onEng_touches); rfl; exact among_sub rfl; skip])
    | (with_reducible refine Frame.step ?_ ?_)

theorem State.playAdvance_touches (s : State) (n : Nat) : Frame s (State.playAdvance s n) [] (among [.L_STRM_RET, .MS_STRM_CNT, .MS_STRM_FILL, .MS_STRM_PLAY]) := by
  unfold State.playAdvance
  try dsimp only
  repeat' first
    | (with_reducible exact Frame.refl _ _ _)
    | ((with_reducible refine Frame.put ?_ ?_) <;> [rfl; skip])
    | ((with_reducible refine Frame.putClr ?_ ?_) <;> [rfl; skip])
    | ((with_reducible refine Frame.putBump ?_ ?_) <;> [rfl; skip])
    | ((with_reducible refine Frame.putBumpWrap ?_ ?_) <;> [rfl; skip])
    | ((with_reducible refine Frame.choose ?_ ?_) <;> intro _)
    | split

theorem State.streamPassEnd_touches (s : State) (r : Nat) : Frame s (State.streamPassEnd s r) [] (among [.L_STRM_NEXT, .L_STRM_RET, .MS_STRM_CNT, .MS_STRM_FILL, .MS_STRM_PLAY]) := by
  unfold State.streamPassEnd
  try dsimp only
  repeat' first
    | (with_reducible exact Frame.refl _ _ _)
    | ((with_reducible refine Frame.put ?_ ?_) <;> [rfl; skip])
    | ((with_reducible eapply Frame.via) <;> [(with_reducible first | apply State.playAdvance_touches); rfl; exact among_sub rfl; skip])
    | ((with_reducible refine Frame.choose ?_ ?_) <;> intro _)
    | split

end Sys2Proof.Machine
end

