-- ==== Sys2Proof/Laws/FramesChannels.lean ====
section
/-!
SUPPORT. The frames of the operations of Machine/Channels.lean: the parts and registers each may change.
-/
set_option linter.unusedTactic false
set_option linter.unreachableTactic false
set_option linter.unusedVariables false
set_option linter.unusedSimpArgs false
namespace Sys2Proof.Machine

theorem State.channelTick_touches (s : State) (n t : Nat) : Frame s (State.channelTick s n t) [.lines, .arcBuf] (among [.CH_EVT, .IC_ARC_EVT, .IC_ARC_LOST, .IC_LDG, .L_CH_D, .L_CH_SUM]) := by
  unfold State.channelTick
  try dsimp only
  repeat' first
    | (with_reducible exact Frame.refl _ _ _)
    | ((with_reducible refine Frame.putFlag ?_ ?_) <;> [rfl; skip])
    | ((with_reducible refine Frame.putSeti ?_ ?_) <;> [rfl; skip])
    | ((with_reducible eapply Frame.via) <;> [(with_reducible first | apply State.satMark_touches); rfl; exact among_sub rfl; skip])
    | (with_reducible refine Frame.step ?_ ?_)
    | (fail_if_no_progress ((with_reducible refine Frame.on_lines ?_ ?_) <;> [rfl; skip]))
    | ((with_reducible refine Frame.choose ?_ ?_) <;> intro _)
    | split

theorem State.chStart_touches (s : State) (n : Nat) : Frame s (State.chStart s n) [] (among [.CH_STATUS]) := by
  unfold State.chStart
  try dsimp only
  repeat' first
    | (with_reducible exact Frame.refl _ _ _)
    | ((with_reducible eapply Frame.via) <;> [(with_reducible first | apply State.chEnter_touches); rfl; exact among_sub rfl; skip])
    | ((with_reducible refine Frame.choose ?_ ?_) <;> intro _)
    | split

theorem State.chStop_touches (s : State) (n : Nat) : Frame s (State.chStop s n) [] (among [.CH_STATUS]) := by
  unfold State.chStop
  try dsimp only
  repeat' first
    | (with_reducible exact Frame.refl _ _ _)
    | ((with_reducible eapply Frame.via) <;> [(with_reducible first | apply State.chEnter_touches); rfl; exact among_sub rfl; skip])
    | ((with_reducible refine Frame.choose ?_ ?_) <;> intro _)
    | split

theorem State.softPark_touches (s : State) (n : Nat) : Frame s (State.softPark s n) [] (among [.CH_STATUS]) := by
  unfold State.softPark
  try dsimp only
  repeat' first
    | (with_reducible exact Frame.refl _ _ _)
    | ((with_reducible eapply Frame.via) <;> [(with_reducible first | apply State.chEnter_touches); rfl; exact among_sub rfl; skip])
    | ((with_reducible refine Frame.choose ?_ ?_) <;> intro _)
    | split

theorem State.channelFault_touches (s : State) (n bit i j lo w : Nat) (present : Bool) :
    Frame s (State.channelFault s n bit ⟨.CH_EVT, i, j, lo, w⟩ present) [.arcBuf] (among [.CH_EVT, .CH_PARK_SRC, .CH_STATUS, .IC_ARC_EVT, .IC_ARC_LOST, .IC_LDG, .L_CH_BAD]) := by
  unfold State.channelFault
  try dsimp only
  repeat' first
    | (with_reducible exact Frame.refl _ _ _)
    | ((with_reducible refine Frame.put ?_ ?_) <;> [rfl; skip])
    | ((with_reducible refine Frame.putFlag ?_ ?_) <;> [rfl; skip])
    | ((with_reducible refine Frame.putPersist ?_ ?_) <;> [rfl; skip])
    | ((with_reducible eapply Frame.via) <;> [(with_reducible first | apply State.chPark_touches | apply State.markFrame | apply State.raisePerUnit_touches); rfl; exact among_sub rfl; skip])
    | ((with_reducible refine Frame.choose ?_ ?_) <;> intro _)
    | split

theorem State.uvPersist_touches (s : State) : Frame s (State.uvPersist s) [] (among [.IC_LDG]) := by
  unfold State.uvPersist
  try dsimp only
  repeat' first
    | (with_reducible exact Frame.refl _ _ _)
    | ((with_reducible refine Frame.putPersist ?_ ?_) <;> [rfl; skip])

theorem State.eqBoundary_touches (s : State) (n : Nat) : Frame s (State.eqBoundary s n) [] (among [.CH_EQ_CFG, .CH_EVT, .L_EQ_SRC_CUR]) := by
  unfold State.eqBoundary
  try dsimp only
  repeat' first
    | (with_reducible exact Frame.refl _ _ _)
    | ((with_reducible refine Frame.put ?_ ?_) <;> [rfl; skip])
    | ((with_reducible refine Frame.putFlag ?_ ?_) <;> [rfl; skip])
    | ((with_reducible refine Frame.puts ?_ ?_) <;> [(simp [among, anyKey]; done); skip])
    | ((with_reducible refine Frame.putsCons ?_ ?_) <;> [rfl; skip])
    | ((with_reducible refine Frame.choose ?_ ?_) <;> intro _)
    | split

theorem State.calBoundary_touches (s : State) (n : Nat) : Frame s (State.calBoundary s n) [.calSets, .calPends, .arcBuf] (among [.CAL_CH_STATUS, .CAL_EVT, .CAL_LOAD, .CAL_PEND_TAG, .CAL_RESID, .CH_CAL_GAIN, .CH_CAL_OFS, .CH_CAL_SKEW, .CH_CAL_TAG, .CH_INL, .IC_ARC_EVT, .IC_ARC_LOST, .IC_LDG, .L_CAL_SEQ, .L_CAL_SRES, .L_CAL_VRES]) := by
  unfold State.calBoundary
  try dsimp only
  repeat' first
    | (with_reducible exact Frame.refl _ _ _)
    | ((with_reducible eapply Frame.via) <;> [(with_reducible first | apply State.applySet_touches); rfl; exact among_sub rfl; skip])
    | ((with_reducible refine Frame.choose ?_ ?_) <;> intro _)
    | split

theorem State.gapStart_touches (s : State) (n t range : Nat) : Frame s (State.gapStart s n t range) [] (among [.CH_STATUS, .L_RNG_AT, .L_RNG_NEW]) := by
  unfold State.gapStart
  try dsimp only
  repeat' first
    | (with_reducible exact Frame.refl _ _ _)
    | ((with_reducible refine Frame.puts ?_ ?_) <;> [(simp [among, anyKey]; done); skip])
    | ((with_reducible refine Frame.putsCons ?_ ?_) <;> [rfl; skip])

theorem State.rangeStatus_touches (s : State) (n : Nat) : Frame s (State.rangeStatus s n) [] (among [.CH_RANGE, .CH_STATUS]) := by
  unfold State.rangeStatus
  try dsimp only
  repeat' first
    | (with_reducible exact Frame.refl _ _ _)
    | ((with_reducible refine Frame.putClr ?_ ?_) <;> [rfl; skip])
    | ((with_reducible refine Frame.puts ?_ ?_) <;> [(simp [among, anyKey]; done); skip])
    | ((with_reducible refine Frame.putsCons ?_ ?_) <;> [rfl; skip])
    | split

theorem State.skewStep_touches (s : State) (n : Nat) : Frame s (State.skewStep s n) [] (among [.CH_CAL_SKEW]) := by
  unfold State.skewStep
  try dsimp only
  repeat' first
    | (with_reducible exact Frame.refl _ _ _)
    | ((with_reducible refine Frame.putSeti ?_ ?_) <;> [rfl; skip])
    | ((with_reducible refine Frame.choose ?_ ?_) <;> intro _)
    | split

theorem execChEnable_touches (n : Fin 32) (s : State) : Frames s (execChEnable n s) [] (among [.AON_PWR_EVT, .CH_CTRL, .CH_EVT, .CH_STATUS]) := by
  unfold execChEnable
  try dsimp only
  refine ⟨_, rfl, ?_⟩
  repeat' first
    | (with_reducible exact Frame.refl _ _ _)
    | ((with_reducible refine Frame.putFlag ?_ ?_) <;> [rfl; skip])
    | ((with_reducible refine Frame.puts ?_ ?_) <;> [(simp [among, anyKey]; done); skip])
    | ((with_reducible refine Frame.putsCons ?_ ?_) <;> [rfl; skip])
    | ((with_reducible eapply Frame.via) <;> [(with_reducible first | apply State.chStart_touches); rfl; exact among_sub rfl; skip])
    | ((with_reducible refine Frame.host ?_ ?_ ?_) <;> [rfl; skip; skip])
    | ((with_reducible refine Frame.choose ?_ ?_) <;> intro _)
    | split

theorem execChDisable_touches (n : Fin 32) (s : State) : Frames s (execChDisable n s) [] (among [.AON_PWR_EVT, .CH_CTRL, .CH_STATUS]) := by
  unfold execChDisable
  try dsimp only
  refine ⟨_, rfl, ?_⟩
  repeat' first
    | (with_reducible exact Frame.refl _ _ _)
    | ((with_reducible refine Frame.putClr ?_ ?_) <;> [rfl; skip])
    | ((with_reducible eapply Frame.via) <;> [(with_reducible first | apply State.chStop_touches); rfl; exact among_sub rfl; skip])
    | ((with_reducible refine Frame.host ?_ ?_ ?_) <;> [rfl; skip; skip])

theorem execChStageReady_touches (n : Fin 32) (s : State) : Frames s (execChStageReady n s) [] (among [.CH_STATUS]) := by
  unfold execChStageReady
  try dsimp only
  refine ⟨_, rfl, ?_⟩
  repeat' first
    | (with_reducible exact Frame.refl _ _ _)
    | ((with_reducible eapply Frame.via) <;> [(with_reducible first | apply State.chEnter_touches); rfl; exact among_sub rfl; skip])
    | ((with_reducible refine Frame.choose ?_ ?_) <;> intro _)
    | split

theorem execChRampDownDone_touches (n : Fin 32) (s : State) : Frames s (execChRampDownDone n s) [] (among [.CH_STATUS]) := by
  unfold execChRampDownDone
  try dsimp only
  refine ⟨_, rfl, ?_⟩
  repeat' first
    | (with_reducible exact Frame.refl _ _ _)
    | ((with_reducible refine Frame.putClr ?_ ?_) <;> [rfl; skip])
    | ((with_reducible eapply Frame.via) <;> [(with_reducible first | apply State.chEnter_touches); rfl; exact among_sub rfl; skip])
    | ((with_reducible refine Frame.choose ?_ ?_) <;> intro _)
    | split

theorem execChParkWrite_touches (n : Fin 32) (on : Bool) (s : State) : Frames s (execChParkWrite n on s) [] (among [.AON_PWR_EVT, .CH_CTRL, .CH_EVT, .CH_PARK_SRC, .CH_STATUS]) := by
  unfold execChParkWrite
  try dsimp only
  refine ⟨_, rfl, ?_⟩
  repeat' first
    | (with_reducible exact Frame.refl _ _ _)
    | ((with_reducible refine Frame.put ?_ ?_) <;> [rfl; skip])
    | ((with_reducible eapply Frame.via) <;> [(with_reducible first | apply State.chPark_touches); rfl; exact among_sub rfl; skip])
    | ((with_reducible refine Frame.host ?_ ?_ ?_) <;> [rfl; skip; skip])

theorem execChRelease_touches (n : Fin 32) (s : State) : Frames s (execChRelease n s) [] (among [.CH_EVT, .CH_PARK_SRC, .CH_STATUS]) := by
  unfold execChRelease
  try dsimp only
  refine ⟨_, rfl, ?_⟩
  repeat' first
    | (with_reducible exact Frame.refl _ _ _)
    | ((with_reducible eapply Frame.via) <;> [(with_reducible first | apply State.chEnter_touches | apply State.chPark_touches); rfl; exact among_sub rfl; skip])
    | (with_reducible refine Frame.step ?_ ?_)
    | ((with_reducible refine Frame.choose ?_ ?_) <;> intro _)
    | split

theorem execUnpark_touches (n : Fin 32) (s : State) : Frames s (execUnpark n s) [] (among [.AON_PWR_EVT, .CH_EVT, .CH_PARK_SRC, .CH_STATUS]) := by
  unfold execUnpark
  try dsimp only
  refine ⟨_, rfl, ?_⟩
  repeat' first
    | (with_reducible exact Frame.refl _ _ _)
    | ((with_reducible eapply Frame.via) <;> [(with_reducible first | apply State.chPark_touches); rfl; exact among_sub rfl; skip])
    | ((with_reducible refine Frame.host ?_ ?_ ?_) <;> [rfl; skip; skip])
    | (with_reducible refine Frame.step ?_ ?_)

theorem execParkNFall_touches (s : State) : Frames s (execParkNFall s) [.edges, .arcBuf] (among [.CH_EVT, .CH_PARK_SRC, .CH_STATUS, .COR_GRP_EVT, .COR_GRP_STATUS, .IC_ARC_EVT, .IC_ARC_LOST, .IC_LDG, .L_COR_RAMP, .L_COR_W0, .L_COR_ZERO, .L_PARK_N_LOW, .PP_EVT, .PP_PARK_SRC, .REEL]) := by
  unfold execParkNFall
  try dsimp only
  refine ⟨_, rfl, ?_⟩
  repeat' first
    | (with_reducible exact Frame.refl _ _ _)
    | ((with_reducible refine Frame.putFlag ?_ ?_) <;> [rfl; skip])
    | ((with_reducible refine Frame.putPersist ?_ ?_) <;> [rfl; skip])
    | ((with_reducible eapply Frame.via) <;> [(with_reducible first | apply State.hardParkAbort_touches | apply State.parkAll_touches | apply State.pulseFrame | apply State.raiseFrame); rfl; exact among_sub rfl; skip])
    | ((with_reducible refine Frame.steps ?_ ?_) <;> [intro _ _; skip])
    | ((with_reducible refine Frame.choose ?_ ?_) <;> intro _)
    | split

theorem execParkNRelease_touches (held : Bool) (s : State) : Frames s (execParkNRelease held s) [] (among [.CH_EVT, .CH_PARK_SRC, .CH_STATUS, .IC_LDG, .L_PARK_N_LOW, .PP_EVT, .PP_PARK_SRC]) := by
  unfold execParkNRelease
  try dsimp only
  refine ⟨_, rfl, ?_⟩
  repeat' first
    | (with_reducible exact Frame.refl _ _ _)
    | ((with_reducible refine Frame.putClr ?_ ?_) <;> [rfl; skip])
    | ((with_reducible refine Frame.putPersist ?_ ?_) <;> [rfl; skip])
    | ((with_reducible eapply Frame.via) <;> [(with_reducible first | apply State.parkAll_touches); rfl; exact among_sub rfl; skip])
    | ((with_reducible refine Frame.choose ?_ ?_) <;> intro _)
    | split

theorem execOutShort_touches (n : Fin 32) (present : Bool) (s : State) : Frames s (execOutShort n present s) [.arcBuf] (among [.CH_EVT, .CH_PARK_SRC, .CH_STATUS, .IC_ARC_EVT, .IC_ARC_LOST, .IC_LDG, .L_CH_BAD]) := by
  unfold execOutShort
  try dsimp only
  refine ⟨_, rfl, ?_⟩
  repeat' first
    | (with_reducible exact Frame.refl _ _ _)
    | ((with_reducible eapply Frame.via) <;> [(with_reducible first | apply State.channelFault_touches); rfl; exact among_sub rfl; skip])

theorem execStageHot_touches (n : Fin 32) (present : Bool) (s : State) : Frames s (execStageHot n present s) [.arcBuf] (among [.CH_EVT, .CH_PARK_SRC, .CH_STATUS, .IC_ARC_EVT, .IC_ARC_LOST, .IC_LDG, .L_CH_BAD]) := by
  unfold execStageHot
  try dsimp only
  refine ⟨_, rfl, ?_⟩
  repeat' first
    | (with_reducible exact Frame.refl _ _ _)
    | ((with_reducible eapply Frame.via) <;> [(with_reducible first | apply State.channelFault_touches); rfl; exact among_sub rfl; skip])

theorem execFeedFault_touches (n : Fin 32) (fill : Nat) (s : State) : Frames s (execFeedFault n fill s) [.arcBuf] (among [.CH_EVT, .CH_PARK_SRC, .CH_STATUS, .IC_ARC_EVT, .IC_ARC_LOST, .IC_LDG, .L_CH_BAD]) := by
  unfold execFeedFault
  try dsimp only
  refine ⟨_, rfl, ?_⟩
  repeat' first
    | (with_reducible exact Frame.refl _ _ _)
    | ((with_reducible eapply Frame.via) <;> [(with_reducible first | apply State.channelFault_touches); rfl; exact among_sub rfl; skip])

theorem execConverterSupplyLoss_touches (d : Fin 8) (pg : Bool) (s : State) : Frames s (execConverterSupplyLoss d pg s) [.arcBuf] (among [.CH_EVT, .CH_PARK_SRC, .CH_STATUS, .IC_ARC_EVT, .IC_ARC_LOST, .IC_LDG, .L_DIE_PG, .L_DIE_UV]) := by
  unfold execConverterSupplyLoss
  try dsimp only
  refine ⟨_, rfl, ?_⟩
  repeat' first
    | (with_reducible exact Frame.refl _ _ _)
    | ((with_reducible refine Frame.putFlag ?_ ?_) <;> [rfl; skip])
    | ((with_reducible refine Frame.putClr ?_ ?_) <;> [rfl; skip])
    | ((with_reducible eapply Frame.via) <;> [(with_reducible first | apply State.chEnter_touches | apply State.chPark_touches | apply State.raiseFrame | apply State.uvPersist_touches); rfl; exact among_sub rfl; skip])
    | ((with_reducible refine Frame.steps ?_ ?_) <;> [intro _ _; skip])
    | ((with_reducible refine Frame.choose ?_ ?_) <;> intro _)
    | split

theorem execConverterSupplyGood_touches (d : Fin 8) (s : State) : Frames s (execConverterSupplyGood d s) [] (among [.CH_EVT, .CH_PARK_SRC, .CH_STATUS, .IC_LDG, .L_DIE_GOOD_AT, .L_DIE_PG, .L_DIE_UV]) := by
  unfold execConverterSupplyGood
  try dsimp only
  refine ⟨_, rfl, ?_⟩
  repeat' first
    | (with_reducible exact Frame.refl _ _ _)
    | ((with_reducible refine Frame.put ?_ ?_) <;> [rfl; skip])
    | ((with_reducible refine Frame.putFlag ?_ ?_) <;> [rfl; skip])
    | ((with_reducible refine Frame.putClr ?_ ?_) <;> [rfl; skip])
    | ((with_reducible eapply Frame.via) <;> [(with_reducible first | apply State.chPark_touches | apply State.chStart_touches | apply State.uvPersist_touches); rfl; exact among_sub rfl; skip])
    | ((with_reducible refine Frame.steps ?_ ?_) <;> [intro _ _; skip])
    | ((with_reducible refine Frame.choose ?_ ?_) <;> intro _)
    | split

theorem execRngReq_touches (n : Fin 32) (s : State) : Frames s (execRngReq n s) [.ranges, .lines, .calSets, .calPends, .arcBuf] (among [.AON_PWR_EVT, .CAL_CH_STATUS, .CAL_EVT, .CAL_LOAD, .CAL_PEND_TAG, .CAL_RESID, .CH_CAL_GAIN, .CH_CAL_OFS, .CH_CAL_SKEW, .CH_CAL_TAG, .CH_EVT, .CH_INL, .CH_RANGE, .CH_STATUS, .IC_ARC_EVT, .IC_ARC_LOST, .IC_LDG, .L_CAL_SEQ, .L_CAL_SRES, .L_CAL_VRES, .TL_REEL_EVT]) := by
  unfold execRngReq
  try dsimp only
  refine ⟨_, rfl, ?_⟩
  repeat' first
    | (with_reducible exact Frame.refl _ _ _)
    | ((with_reducible refine Frame.putFlag ?_ ?_) <;> [rfl; skip])
    | ((with_reducible eapply Frame.via) <;> [(with_reducible first | apply State.rangeRequest_touches); rfl; exact among_sub rfl; skip])
    | ((with_reducible refine Frame.host ?_ ?_ ?_) <;> [rfl; skip; skip])
    | ((with_reducible refine Frame.choose ?_ ?_) <;> intro _)
    | split

theorem execEqSwap_touches (n : Fin 32) (s : State) : Frames s (execEqSwap n s) [] (among [.AON_PWR_EVT, .CH_EQ_CFG, .L_EQ_REQ_AT]) := by
  unfold execEqSwap
  try dsimp only
  refine ⟨_, rfl, ?_⟩
  repeat' first
    | (with_reducible exact Frame.refl _ _ _)
    | ((with_reducible refine Frame.puts ?_ ?_) <;> [(simp [among, anyKey]; done); skip])
    | ((with_reducible refine Frame.putsCons ?_ ?_) <;> [rfl; skip])
    | ((with_reducible refine Frame.host ?_ ?_ ?_) <;> [rfl; skip; skip])
    | ((with_reducible refine Frame.choose ?_ ?_) <;> intro _)
    | split

theorem execChEqCoefWrite_touches (n : Fin 32) (b : Fin 2) (i : Fin 64) (v : Nat) (s : State) : Frames s (execChEqCoefWrite n b i v s) [] (among [.AON_PWR_EVT, .CH_EQ_COEF, .CH_EVT]) := by
  unfold execChEqCoefWrite
  try dsimp only
  refine ⟨_, rfl, ?_⟩
  repeat' first
    | (with_reducible exact Frame.refl _ _ _)
    | ((with_reducible refine Frame.put ?_ ?_) <;> [rfl; skip])
    | ((with_reducible refine Frame.putFlag ?_ ?_) <;> [rfl; skip])
    | ((with_reducible refine Frame.host ?_ ?_ ?_) <;> [rfl; skip; skip])
    | ((with_reducible refine Frame.choose ?_ ?_) <;> intro _)
    | split

theorem execChannelBoundary_touches (n : Fin 32) (s : State) : Frames s (execChannelBoundary n s) [.ranges, .lines, .calSets, .calPends, .arcBuf] (among [.CAL_CH_STATUS, .CAL_EVT, .CAL_LOAD, .CAL_PEND_TAG, .CAL_RESID, .CH_CAL_GAIN, .CH_CAL_OFS, .CH_CAL_SKEW, .CH_CAL_TAG, .CH_EQ_CFG, .CH_EVT, .CH_INL, .CH_RANGE, .CH_STATUS, .IC_ARC_EVT, .IC_ARC_LOST, .IC_LDG, .L_CAL_SEQ, .L_CAL_SRES, .L_CAL_VRES, .L_EQ_SRC_CUR, .L_RNG_AT, .L_RNG_NEW]) := by
  unfold execChannelBoundary
  try dsimp only
  refine ⟨_, rfl, ?_⟩
  repeat' first
    | (with_reducible exact Frame.refl _ _ _)
    | ((with_reducible eapply Frame.via) <;> [(with_reducible first | apply State.calBoundary_touches | apply State.eqBoundary_touches | apply State.gapStart_touches | apply State.rangeStatus_touches); rfl; exact among_sub rfl; skip])
    | ((with_reducible refine Frame.switchSet ?_ ?_ ?_) <;> [rfl; skip; skip])
    | (fail_if_no_progress ((with_reducible refine Frame.on_ranges ?_ ?_) <;> [rfl; skip]))
    | split

theorem execRangeGapStart_touches (n : Fin 32) (s : State) : Frames s (execRangeGapStart n s) [.ranges, .lines, .calSets, .calPends, .arcBuf] (among [.CAL_CH_STATUS, .CAL_EVT, .CAL_LOAD, .CAL_PEND_TAG, .CAL_RESID, .CH_CAL_GAIN, .CH_CAL_OFS, .CH_CAL_SKEW, .CH_CAL_TAG, .CH_INL, .CH_RANGE, .CH_STATUS, .IC_ARC_EVT, .IC_ARC_LOST, .IC_LDG, .L_CAL_SEQ, .L_CAL_SRES, .L_CAL_VRES, .L_RNG_AT, .L_RNG_NEW]) := by
  unfold execRangeGapStart
  try dsimp only
  refine ⟨_, rfl, ?_⟩
  repeat' first
    | (with_reducible exact Frame.refl _ _ _)
    | ((with_reducible eapply Frame.via) <;> [(with_reducible first | apply State.enterRange_touches | apply State.gapStart_touches | apply State.rangeStatus_touches); rfl; exact among_sub rfl; skip])
    | (fail_if_no_progress ((with_reducible refine Frame.on_ranges ?_ ?_) <;> [rfl; skip]))
    | ((with_reducible refine Frame.choose ?_ ?_) <;> intro _)
    | split

theorem execRangeGapEnd_touches (n : Fin 32) (s : State) : Frames s (execRangeGapEnd n s) [.lines, .calSets, .calPends, .arcBuf] (among [.CAL_CH_STATUS, .CAL_EVT, .CAL_LOAD, .CAL_PEND_TAG, .CAL_RESID, .CH_CAL_GAIN, .CH_CAL_OFS, .CH_CAL_SKEW, .CH_CAL_TAG, .CH_EQ_CFG, .CH_EVT, .CH_INL, .CH_RANGE, .CH_STATUS, .IC_ARC_EVT, .IC_ARC_LOST, .IC_LDG, .L_CAL_SEQ, .L_CAL_SRES, .L_CAL_VRES, .L_EQ_SRC_CUR]) := by
  unfold execRangeGapEnd
  try dsimp only
  refine ⟨_, rfl, ?_⟩
  repeat' first
    | (with_reducible exact Frame.refl _ _ _)
    | ((with_reducible refine Frame.putFlag ?_ ?_) <;> [rfl; skip])
    | ((with_reducible refine Frame.putClr ?_ ?_) <;> [rfl; skip])
    | ((with_reducible eapply Frame.via) <;> [(with_reducible first | apply State.enterRange_touches | apply State.eqBoundary_touches | apply State.rangeStatus_touches); rfl; exact among_sub rfl; skip])
    | ((with_reducible refine Frame.switchSet ?_ ?_ ?_) <;> [rfl; skip; skip])
    | ((with_reducible refine Frame.choose ?_ ?_) <;> intro _)
    | split

end Sys2Proof.Machine
end

