-- ==== Sys2Proof/Laws/FramesPorts.lean ====
section
/-!
SUPPORT. The frames of the operations of Machine/Ports.lean: the parts and registers each may change.
-/
set_option linter.unusedTactic false
set_option linter.unreachableTactic false
set_option linter.unusedVariables false
set_option linter.unusedSimpArgs false
namespace Sys2Proof.Machine

theorem Frame.onPers {s a : State} {ps : List Part} {p : Key → Bool} {q off : Nat} {ok : Bool} {f : State → State} (hp : ps.contains .arcBuf = true)
    (hk : ∀ k, among ledgerRegs k = true → p k = true) (h : Frame a (f a) ps p) (g : Frame s a ps p) : Frame s (a.onPers q off ok f) ps p := by
  unfold State.onPers
  split
  · exact g.trans h
  · exact g.trans ((State.raiseOnceFrame a _ _ _ _).mono (fun x hx => by simp at hx; subst hx; simpa using hp) hk)

theorem State.portStart_touches (s : State) (p : Nat) : Frame s (State.portStart s p) [] (among [.PP_STATUS]) := by
  unfold State.portStart
  try dsimp only
  repeat' first
    | (with_reducible exact Frame.refl _ _ _)
    | ((with_reducible refine Frame.put ?_ ?_) <;> [rfl; skip])
    | ((with_reducible refine Frame.choose ?_ ?_) <;> intro _)
    | split

theorem State.portStop_touches (s : State) (p : Nat) : Frame s (State.portStop s p) [] (among [.PP_STATUS]) := by
  unfold State.portStop
  try dsimp only
  repeat' first
    | (with_reducible exact Frame.refl _ _ _)
    | ((with_reducible refine Frame.put ?_ ?_) <;> [rfl; skip])
    | ((with_reducible refine Frame.choose ?_ ?_) <;> intro _)
    | split

theorem State.jesdWait_touches (s : State) (p : Nat) : Frame s (State.jesdWait s p) [] (among [.PP_EVT, .PP_JSTAT]) := by
  unfold State.jesdWait
  try dsimp only
  repeat' first
    | (with_reducible exact Frame.refl _ _ _)
    | ((with_reducible refine Frame.put ?_ ?_) <;> [rfl; skip])
    | ((with_reducible refine Frame.putFlag ?_ ?_) <;> [rfl; skip])
    | ((with_reducible refine Frame.choose ?_ ?_) <;> intro _)
    | split

theorem State.jesdTxStart_touches (s : State) (p : Nat) : Frame s (State.jesdTxStart s p) [] (among [.PP_EVT, .PP_JSTAT]) := by
  unfold State.jesdTxStart
  try dsimp only
  repeat' first
    | (with_reducible exact Frame.refl _ _ _)
    | ((with_reducible eapply Frame.via) <;> [(with_reducible first | apply State.jesdWait_touches); rfl; exact among_sub rfl; skip])
    | ((with_reducible refine Frame.choose ?_ ?_) <;> intro _)
    | split

theorem State.portPark_touches (s : State) (p : Nat) : Frame s (State.portPark s p) [] (among [.PP_STATUS]) := by
  unfold State.portPark
  try dsimp only
  repeat' first
    | (with_reducible exact Frame.refl _ _ _)
    | ((with_reducible refine Frame.put ?_ ?_) <;> [rfl; skip])
    | ((with_reducible refine Frame.choose ?_ ?_) <;> intro _)
    | split

theorem State.portFaultBit_touches (s : State) (p : Nat) (on : Bool) : Frame s (State.portFaultBit s p on) [] (among [.PP_EVT, .PP_PARK_SRC]) := by
  unfold State.portFaultBit
  try dsimp only
  repeat' first
    | (with_reducible exact Frame.refl _ _ _)
    | ((with_reducible refine Frame.puts ?_ ?_) <;> [(simp [among, anyKey]; done); skip])
    | ((with_reducible refine Frame.putsCons ?_ ?_) <;> [rfl; skip])
    | ((with_reducible refine Frame.choose ?_ ?_) <;> intro _)
    | split

theorem State.portFault_touches (s : State) (p : Nat) (m : List (Nat × Nat)) : Frame s (State.portFault s p m) [.arcBuf] (among [.IC_ARC_EVT, .IC_ARC_LOST, .IC_LDG, .PP_EVT, .PP_PARK_SRC]) := by
  unfold State.portFault
  try dsimp only
  repeat' first
    | (with_reducible exact Frame.refl _ _ _)
    | ((with_reducible eapply Frame.via) <;> [(with_reducible first | apply State.markFrame | apply State.portFaultBit_touches | apply State.raiseFrame); rfl; exact among_sub rfl; skip])
    | ((with_reducible refine Frame.choose ?_ ?_) <;> intro _)
    | split

theorem State.delayStep_touches (s : State) (p : Nat) : Frame s (State.delayStep s p) [] (among [.PP_FDLY, .PP_STATUS]) := by
  unfold State.delayStep
  try dsimp only
  repeat' first
    | (with_reducible exact Frame.refl _ _ _)
    | ((with_reducible refine Frame.puts ?_ ?_) <;> [(simp [among, anyKey]; done); skip])
    | ((with_reducible refine Frame.putsCons ?_ ?_) <;> [rfl; skip])
    | ((with_reducible refine Frame.choose ?_ ?_) <;> intro _)
    | split

theorem State.putCap_touches (s : State) (c : Cap) : Frame s (State.putCap s c) [.caps] (among []) := by
  unfold State.putCap
  try dsimp only
  repeat' first
    | (with_reducible exact Frame.refl _ _ _)
    | (fail_if_no_progress ((with_reducible refine Frame.on_caps ?_ ?_) <;> [rfl; skip]))

theorem State.dropCap_touches (s : State) (p : Nat) : Frame s (State.dropCap s p) [.caps] (among []) := by
  unfold State.dropCap
  try dsimp only
  repeat' first
    | (with_reducible exact Frame.refl _ _ _)
    | (fail_if_no_progress ((with_reducible refine Frame.on_caps ?_ ?_) <;> [rfl; skip]))

theorem State.captureWrite_touches (s : State) (c : Cap) (v : Nat) : Frame s (State.captureWrite s c v).2 [.mem, .badBursts, .arcBuf] (among [.IC_ARC_EVT, .IC_ARC_LOST, .IC_LDG, .L_WDROP_LATCHED, .MS_ECC_CNT, .MS_EVT, .MS_WDROP_ADDR_HI, .MS_WDROP_ADDR_LO, .MS_WDROP_CNT, .MS_WDROP_SRC, .PP_EVT]) := by
  unfold State.captureWrite
  try dsimp only
  repeat' first
    | (with_reducible exact Frame.refl _ _ _)
    | ((with_reducible refine Frame.putFlag ?_ ?_) <;> [rfl; skip])
    | ((with_reducible eapply Frame.via) <;> [(with_reducible first | apply State.dropBeat_touches | apply State.storeBeat_touches); rfl; exact among_sub rfl; skip])
    | ((with_reducible refine Frame.choose ?_ ?_) <;> intro _)
    | split

theorem State.captureEntry_touches (s : State) (c : Cap) : Frame s (State.captureEntry s c) [.arcBuf] (among [.IC_ARC_EVT, .IC_ARC_LOST, .IC_LDG]) := by
  unfold State.captureEntry
  try dsimp only
  repeat' first
    | (with_reducible exact Frame.refl _ _ _)
    | ((with_reducible eapply Frame.via) <;> [(with_reducible first | apply State.acceptFrame); rfl; exact among_sub rfl; skip])

theorem State.captureArchive_touches (s : State) (c : Cap) (v t : Nat) : Frame s (State.captureArchive s c v t).2 [.arcBuf] (among [.IC_ARC_EVT, .IC_ARC_LOST, .IC_LDG]) := by
  unfold State.captureArchive
  try dsimp only
  repeat' first
    | (with_reducible exact Frame.refl _ _ _)
    | ((with_reducible eapply Frame.via) <;> [(with_reducible first | apply State.captureEntry_touches); rfl; exact among_sub rfl; skip])
    | ((with_reducible refine Frame.choose ?_ ?_) <;> intro _)
    | split

theorem State.captureRun_touches (s : State) (t0 fuel : Nat) (c : Cap) : Frame s (s.captureRun t0 fuel c).2 [.mem, .badBursts, .arcBuf] (among [.IC_ARC_EVT, .IC_ARC_LOST, .IC_LDG, .L_WDROP_LATCHED, .MS_ECC_CNT, .MS_EVT, .MS_WDROP_ADDR_HI, .MS_WDROP_ADDR_LO, .MS_WDROP_CNT, .MS_WDROP_SRC, .PP_EVT]) := by
  induction fuel generalizing s c with
  | zero => exact Frame.refl _ _ _
  | succ fuel ih =>
    unfold State.captureRun
    dsimp only
    split
    · exact Frame.refl _ _ _
    · split
      · exact ((State.captureArchive_touches _ _ _ _).via rfl (among_sub rfl) (Frame.refl _ _ _)).trans (ih _ _)
      · exact ((State.captureWrite_touches _ _ _).via rfl (among_sub rfl) (Frame.refl _ _ _)).trans (ih _ _)

theorem State.captureStep_touches (s : State) (p : Nat) : Frame s (State.captureStep s p) [.mem, .caps, .badBursts, .arcBuf] (among [.IC_ARC_EVT, .IC_ARC_LOST, .IC_LDG, .L_WDROP_LATCHED, .MS_ECC_CNT, .MS_EVT, .MS_WDROP_ADDR_HI, .MS_WDROP_ADDR_LO, .MS_WDROP_CNT, .MS_WDROP_SRC, .PP_EVT]) := by
  unfold State.captureStep
  try dsimp only
  repeat' first
    | (with_reducible exact Frame.refl _ _ _)
    | ((with_reducible eapply Frame.via) <;> [(with_reducible first | apply State.captureRun_touches | apply State.putCap_touches); rfl; exact among_sub rfl; skip])
    | split

theorem State.captureClose_touches (s : State) (c : Cap) (t : Nat) (ovf abort : Bool) : Frame s (State.captureClose s c t ovf abort) [.caps, .edges, .arcBuf] (among [.IC_ARC_EVT, .IC_ARC_LOST, .IC_LDG, .PP_CAP_CNT_HI, .PP_CAP_CNT_LO, .PP_CAP_START_HI, .PP_CAP_START_LO, .PP_EVT, .PP_STATUS]) := by
  unfold State.captureClose
  try dsimp only
  repeat' first
    | (with_reducible exact Frame.refl _ _ _)
    | ((with_reducible refine Frame.put2 ?_ ?_ ?_) <;> [rfl; rfl; skip])
    | ((with_reducible refine Frame.puts ?_ ?_) <;> [(simp [among, anyKey]; done); skip])
    | ((with_reducible refine Frame.putsCons ?_ ?_) <;> [rfl; skip])
    | ((with_reducible eapply Frame.via) <;> [(with_reducible first | apply State.acceptFrame | apply State.captureEntry_touches | apply State.dropCap_touches | apply State.pulseFrame); rfl; exact among_sub rfl; skip])
    | ((with_reducible refine Frame.choose ?_ ?_) <;> intro _)
    | split

theorem State.passedCaptures_touches (s : State) : Frame s (State.passedCaptures s) [.caps, .edges, .arcBuf] (among [.IC_ARC_EVT, .IC_ARC_LOST, .IC_LDG, .PP_CAP_CNT_HI, .PP_CAP_CNT_LO, .PP_CAP_START_HI, .PP_CAP_START_LO, .PP_EVT, .PP_STATUS]) := by
  unfold State.passedCaptures
  try dsimp only
  repeat' first
    | (with_reducible exact Frame.refl _ _ _)
    | ((with_reducible eapply Frame.via) <;> [(with_reducible first | apply State.captureClose_touches); rfl; exact among_sub rfl; skip])
    | ((with_reducible refine Frame.steps ?_ ?_) <;> [intro _ _; skip])
    | ((with_reducible refine Frame.choose ?_ ?_) <;> intro _)
    | split

theorem Frame.onLink0 {s a : State} {ps : List Part} {p : Key → Bool} {q : Nat} {f : State → State} (hp : ps.contains .arcBuf = true)
    (hk : ∀ k, among ledgerRegs k = true → p k = true) (h : Frame a (f a) ps p) (g : Frame s a ps p) : Frame s (a.onLink0 q f) ps p := by
  unfold State.onLink0
  split
  · exact g.trans h
  · exact g.trans ((State.raiseOnceFrame a _ _ _ _).mono (fun x hx => by simp at hx; subst hx; simpa using hp) hk)

theorem State.jesdReanchor_touches (s : State) : Frame s (State.jesdReanchor s) [] (among [.PP_EVT]) := by
  unfold State.jesdReanchor
  try dsimp only
  repeat' first
    | (with_reducible exact Frame.refl _ _ _)
    | ((with_reducible refine Frame.putFlag ?_ ?_) <;> [rfl; skip])
    | ((with_reducible refine Frame.steps ?_ ?_) <;> [intro _ _; skip])

theorem State.portTick_touches (s : State) (p t : Nat) : Frame s (State.portTick s p t) [] (among [.L_PP_WORD]) := by
  unfold State.portTick
  try dsimp only
  repeat' first
    | (with_reducible exact Frame.refl _ _ _)
    | ((with_reducible refine Frame.put ?_ ?_) <;> [rfl; skip])
    | ((with_reducible refine Frame.choose ?_ ?_) <;> intro _)
    | split

theorem State.jesdTick_touches (s : State) (p t : Nat) : Frame s (State.jesdTick s p t) [.lines, .arcBuf] (among [.IC_ARC_EVT, .IC_ARC_LOST, .IC_LDG, .L_JTX_CODE, .PP_EVT]) := by
  unfold State.jesdTick
  try dsimp only
  repeat' first
    | (with_reducible exact Frame.refl _ _ _)
    | ((with_reducible refine Frame.putFlag ?_ ?_) <;> [rfl; skip])
    | ((with_reducible refine Frame.putSeti ?_ ?_) <;> [rfl; skip])
    | ((with_reducible eapply Frame.via) <;> [(with_reducible first | apply State.archiveFrame); rfl; exact among_sub rfl; skip])
    | (with_reducible refine Frame.step ?_ ?_)
    | ((with_reducible refine Frame.steps ?_ ?_) <;> [intro _ _; skip])
    | (fail_if_no_progress ((with_reducible refine Frame.on_lines ?_ ?_) <;> [rfl; skip]))
    | ((with_reducible refine Frame.choose ?_ ?_) <;> intro _)
    | split

theorem execPortEnable_touches (p : Fin 48) (s : State) : Frames s (execPortEnable p s) [] (among [.AON_PWR_EVT, .PP_CTRL, .PP_EVT, .PP_STATUS]) := by
  unfold execPortEnable
  try dsimp only
  refine ⟨_, rfl, ?_⟩
  repeat' first
    | (with_reducible exact Frame.refl _ _ _)
    | ((with_reducible refine Frame.putFlag ?_ ?_) <;> [rfl; skip])
    | ((with_reducible refine Frame.puts ?_ ?_) <;> [(simp [among, anyKey]; done); skip])
    | ((with_reducible refine Frame.putsCons ?_ ?_) <;> [rfl; skip])
    | ((with_reducible eapply Frame.via) <;> [(with_reducible first | apply State.portStart_touches); rfl; exact among_sub rfl; skip])
    | ((with_reducible refine Frame.host ?_ ?_ ?_) <;> [rfl; skip; skip])
    | ((with_reducible refine Frame.choose ?_ ?_) <;> intro _)
    | split

theorem execPortDisable_touches (p : Fin 48) (s : State) : Frames s (execPortDisable p s) [] (among [.AON_PWR_EVT, .PP_CTRL, .PP_STATUS]) := by
  unfold execPortDisable
  try dsimp only
  refine ⟨_, rfl, ?_⟩
  repeat' first
    | (with_reducible exact Frame.refl _ _ _)
    | ((with_reducible refine Frame.putClr ?_ ?_) <;> [rfl; skip])
    | ((with_reducible eapply Frame.via) <;> [(with_reducible first | apply State.portStop_touches); rfl; exact among_sub rfl; skip])
    | ((with_reducible refine Frame.host ?_ ?_ ?_) <;> [rfl; skip; skip])

theorem execPortStopDone_touches (p : Fin 48) (s : State) : Frames s (execPortStopDone p s) [] (among [.PP_STATUS]) := by
  unfold execPortStopDone
  try dsimp only
  refine ⟨_, rfl, ?_⟩
  repeat' first
    | (with_reducible exact Frame.refl _ _ _)
    | ((with_reducible refine Frame.puts ?_ ?_) <;> [(simp [among, anyKey]; done); skip])
    | ((with_reducible refine Frame.putsCons ?_ ?_) <;> [rfl; skip])
    | ((with_reducible eapply Frame.via) <;> [(with_reducible first | apply State.portStart_touches); rfl; exact among_sub rfl; skip])
    | ((with_reducible refine Frame.choose ?_ ?_) <;> intro _)
    | split

theorem execPortStartDone_touches (p : Fin 48) (s : State) : Frames s (execPortStartDone p s) [] (among [.PP_EVT, .PP_JSTAT, .PP_STATUS]) := by
  unfold execPortStartDone
  try dsimp only
  refine ⟨_, rfl, ?_⟩
  repeat' first
    | (with_reducible exact Frame.refl _ _ _)
    | ((with_reducible refine Frame.put ?_ ?_) <;> [rfl; skip])
    | ((with_reducible eapply Frame.via) <;> [(with_reducible first | apply State.jesdTxStart_touches); rfl; exact among_sub rfl; skip])
    | ((with_reducible refine Frame.steps ?_ ?_) <;> [intro _ _; skip])
    | ((with_reducible refine Frame.choose ?_ ?_) <;> intro _)
    | split

theorem execPortRelease_touches (p : Fin 48) (s : State) : Frames s (execPortRelease p s) [] (among [.PP_EVT, .PP_PARK_SRC, .PP_STATUS]) := by
  unfold execPortRelease
  try dsimp only
  refine ⟨_, rfl, ?_⟩
  repeat' first
    | (with_reducible exact Frame.refl _ _ _)
    | ((with_reducible refine Frame.put ?_ ?_) <;> [rfl; skip])
    | ((with_reducible eapply Frame.via) <;> [(with_reducible first | apply State.ppPark_touches); rfl; exact among_sub rfl; skip])
    | (with_reducible refine Frame.step ?_ ?_)
    | ((with_reducible refine Frame.choose ?_ ?_) <;> intro _)
    | split

theorem execPortUnpark_touches (p : Fin 48) (s : State) : Frames s (execPortUnpark p s) [] (among [.AON_PWR_EVT, .PP_EVT, .PP_PARK_SRC]) := by
  unfold execPortUnpark
  try dsimp only
  refine ⟨_, rfl, ?_⟩
  repeat' first
    | (with_reducible exact Frame.refl _ _ _)
    | ((with_reducible eapply Frame.via) <;> [(with_reducible first | apply State.portFaultBit_touches | apply State.ppPark_touches); rfl; exact among_sub rfl; skip])
    | ((with_reducible refine Frame.host ?_ ?_ ?_) <;> [rfl; skip; skip])
    | (with_reducible refine Frame.step ?_ ?_)

theorem execTxbufFault_touches (p : Fin 48) (present : Bool) (s : State) : Frames s (execTxbufFault p present s) [.arcBuf] (among [.IC_ARC_EVT, .IC_ARC_LOST, .IC_LDG, .L_PP_BAD, .PP_EVT, .PP_PARK_SRC]) := by
  unfold execTxbufFault
  try dsimp only
  refine ⟨_, rfl, ?_⟩
  repeat' first
    | (with_reducible exact Frame.refl _ _ _)
    | ((with_reducible refine Frame.put ?_ ?_) <;> [rfl; skip])
    | ((with_reducible refine Frame.putFlag ?_ ?_) <;> [rfl; skip])
    | ((with_reducible eapply Frame.via) <;> [(with_reducible first | apply State.portFault_touches); rfl; exact among_sub rfl; skip])
    | ((with_reducible refine Frame.choose ?_ ?_) <;> intro _)
    | split

theorem execDlyCal_touches (p : Fin 48) (s : State) : Frames s (execDlyCal p s) [] (among [.AON_PWR_EVT, .L_DLY_TIU, .PP_EVT, .TIU_STATUS]) := by
  unfold execDlyCal
  try dsimp only
  refine ⟨_, rfl, ?_⟩
  repeat' first
    | (with_reducible exact Frame.refl _ _ _)
    | ((with_reducible refine Frame.putFlag ?_ ?_) <;> [rfl; skip])
    | ((with_reducible refine Frame.puts ?_ ?_) <;> [(simp [among, anyKey]; done); skip])
    | ((with_reducible refine Frame.putsCons ?_ ?_) <;> [rfl; skip])
    | ((with_reducible refine Frame.host ?_ ?_ ?_) <;> [rfl; skip; skip])
    | split

theorem execDlyCalDone_touches (p : Fin 48) (mean : Int) (s : State) : Frames s (execDlyCalDone p mean s) [] (among [.L_DLY_TIU, .PP_DLY_ZERO, .PP_EVT, .TIU_STATUS]) := by
  unfold execDlyCalDone
  try dsimp only
  refine ⟨_, rfl, ?_⟩
  repeat' first
    | (with_reducible exact Frame.refl _ _ _)
    | ((with_reducible refine Frame.putSeti ?_ ?_) <;> [rfl; skip])
    | ((with_reducible refine Frame.puts ?_ ?_) <;> [(simp [among, anyKey]; done); skip])
    | ((with_reducible refine Frame.putsCons ?_ ?_) <;> [rfl; skip])
    | ((with_reducible refine Frame.choose ?_ ?_) <;> intro _)
    | split

theorem execRxSlip_touches (p : Fin 48) (phase : Fin 64) (s : State) : Frames s (execRxSlip p phase s) [] (among [.PP_EVT, .PP_RX_STAT]) := by
  unfold execRxSlip
  try dsimp only
  refine ⟨_, rfl, ?_⟩
  repeat' first
    | (with_reducible exact Frame.refl _ _ _)
    | ((with_reducible refine Frame.put ?_ ?_) <;> [rfl; skip])
    | ((with_reducible refine Frame.putFlag ?_ ?_) <;> [rfl; skip])
    | ((with_reducible refine Frame.putBump ?_ ?_) <;> [rfl; skip])
    | ((with_reducible refine Frame.choose ?_ ?_) <;> intro _)
    | split

theorem execCapStart_touches (p : Fin 48) (s : State) : Frames s (execCapStart p s) [.caps, .arcBuf] (among [.AON_PWR_EVT, .IC_ARC_EVT, .IC_ARC_LOST, .IC_LDG, .PP_EVT, .PP_STATUS]) := by
  unfold execCapStart
  try dsimp only
  refine ⟨_, rfl, ?_⟩
  repeat' first
    | (with_reducible exact Frame.refl _ _ _)
    | ((with_reducible refine Frame.putFlag ?_ ?_) <;> [rfl; skip])
    | ((with_reducible eapply Frame.via) <;> [(with_reducible first | apply State.putCap_touches); rfl; exact among_sub rfl; skip])
    | ((with_reducible refine Frame.onPers ?_ ?_ ?_ ?_) <;> [rfl; (first | exact among_sub rfl | exact anyKey_sub); skip; skip])
    | ((with_reducible refine Frame.host ?_ ?_ ?_) <;> [rfl; skip; skip])
    | ((with_reducible refine Frame.choose ?_ ?_) <;> intro _)
    | split

theorem execCaptureTask_touches (p : Fin 48) (s : State) : Frames s (execCaptureTask p s) [.caps, .triggers] (among []) := by
  unfold execCaptureTask
  try dsimp only
  refine ⟨_, rfl, ?_⟩
  repeat' first
    | (with_reducible exact Frame.refl _ _ _)
    | ((with_reducible eapply Frame.via) <;> [(with_reducible first | apply State.putCap_touches); rfl; exact among_sub rfl; skip])
    | ((with_reducible refine Frame.onTask ?_ ?_ ?_) <;> [rfl; intro _ _; skip])
    | ((with_reducible refine Frame.choose ?_ ?_) <;> intro _)
    | split

theorem execCaptureTrigger_touches (p : Fin 48) (samples : List Nat) (s : State) : Frames s (execCaptureTrigger p samples s) [.caps] (among []) := by
  unfold execCaptureTrigger
  try dsimp only
  refine ⟨_, rfl, ?_⟩
  repeat' first
    | (with_reducible exact Frame.refl _ _ _)
    | ((with_reducible eapply Frame.via) <;> [(with_reducible first | apply State.putCap_touches); rfl; exact among_sub rfl; skip])
    | ((with_reducible refine Frame.choose ?_ ?_) <;> intro _)
    | split

theorem execCapAbort_touches (p : Fin 48) (s : State) : Frames s (execCapAbort p s) [.caps, .arcBuf] (among [.AON_PWR_EVT, .IC_ARC_EVT, .IC_ARC_LOST, .IC_LDG]) := by
  unfold execCapAbort
  try dsimp only
  refine ⟨_, rfl, ?_⟩
  repeat' first
    | (with_reducible exact Frame.refl _ _ _)
    | ((with_reducible eapply Frame.via) <;> [(with_reducible first | apply State.putCap_touches); rfl; exact among_sub rfl; skip])
    | ((with_reducible refine Frame.onPers ?_ ?_ ?_ ?_) <;> [rfl; (first | exact among_sub rfl | exact anyKey_sub); skip; skip])
    | ((with_reducible refine Frame.host ?_ ?_ ?_) <;> [rfl; skip; skip])
    | ((with_reducible refine Frame.choose ?_ ?_) <;> intro _)
    | split

theorem execCaptureEnd_touches (p : Fin 48) (s : State) : Frames s (execCaptureEnd p s) [.mem, .caps, .badBursts, .edges, .arcBuf] (among [.IC_ARC_EVT, .IC_ARC_LOST, .IC_LDG, .L_WDROP_LATCHED, .MS_ECC_CNT, .MS_EVT, .MS_WDROP_ADDR_HI, .MS_WDROP_ADDR_LO, .MS_WDROP_CNT, .MS_WDROP_SRC, .PP_CAP_CNT_HI, .PP_CAP_CNT_LO, .PP_CAP_START_HI, .PP_CAP_START_LO, .PP_EVT, .PP_STATUS]) := by
  unfold execCaptureEnd
  try dsimp only
  refine ⟨_, rfl, ?_⟩
  repeat' first
    | (with_reducible exact Frame.refl _ _ _)
    | ((with_reducible eapply Frame.via) <;> [(with_reducible first | apply State.captureClose_touches | apply State.captureStep_touches); rfl; exact among_sub rfl; skip])
    | ((with_reducible refine Frame.choose ?_ ?_) <;> intro _)
    | split

theorem execCaptureOverflow_touches (p : Fin 48) (s : State) : Frames s (execCaptureOverflow p s) [.mem, .caps, .badBursts, .edges, .arcBuf] (among [.IC_ARC_EVT, .IC_ARC_LOST, .IC_LDG, .L_WDROP_LATCHED, .MS_ECC_CNT, .MS_EVT, .MS_WDROP_ADDR_HI, .MS_WDROP_ADDR_LO, .MS_WDROP_CNT, .MS_WDROP_SRC, .PP_CAP_CNT_HI, .PP_CAP_CNT_LO, .PP_CAP_START_HI, .PP_CAP_START_LO, .PP_EVT, .PP_STATUS]) := by
  unfold execCaptureOverflow
  try dsimp only
  refine ⟨_, rfl, ?_⟩
  repeat' first
    | (with_reducible exact Frame.refl _ _ _)
    | ((with_reducible refine Frame.putFlag ?_ ?_) <;> [rfl; skip])
    | ((with_reducible eapply Frame.via) <;> [(with_reducible first | apply State.captureClose_touches | apply State.captureStep_touches); rfl; exact among_sub rfl; skip])
    | ((with_reducible refine Frame.choose ?_ ?_) <;> intro _)
    | split

theorem execJesdEnable_touches (p : Fin 48) (rbd : Nat) (s : State) : Frames s (execJesdEnable p rbd s) [.arcBuf] (among [.AON_PWR_EVT, .IC_ARC_EVT, .IC_ARC_LOST, .IC_LDG, .PP_EVT, .PP_JCTRL, .PP_JSTAT]) := by
  unfold execJesdEnable
  try dsimp only
  refine ⟨_, rfl, ?_⟩
  repeat' first
    | (with_reducible exact Frame.refl _ _ _)
    | ((with_reducible refine Frame.put ?_ ?_) <;> [rfl; skip])
    | ((with_reducible refine Frame.puts ?_ ?_) <;> [(simp [among, anyKey]; done); skip])
    | ((with_reducible refine Frame.putsCons ?_ ?_) <;> [rfl; skip])
    | ((with_reducible eapply Frame.via) <;> [(with_reducible first | apply State.jesdTxStart_touches); rfl; exact among_sub rfl; skip])
    | ((with_reducible refine Frame.onLink0 ?_ ?_ ?_ ?_) <;> [rfl; (first | exact among_sub rfl | exact anyKey_sub); skip; skip])
    | ((with_reducible refine Frame.host ?_ ?_ ?_) <;> [rfl; skip; skip])
    | ((with_reducible refine Frame.choose ?_ ?_) <;> intro _)
    | split

theorem execJesdDisable_touches (p : Fin 48) (s : State) : Frames s (execJesdDisable p s) [.arcBuf] (among [.AON_PWR_EVT, .IC_ARC_EVT, .IC_ARC_LOST, .IC_LDG, .L_JRX_STOP, .PP_JCTRL, .PP_JSTAT]) := by
  unfold execJesdDisable
  try dsimp only
  refine ⟨_, rfl, ?_⟩
  repeat' first
    | (with_reducible exact Frame.refl _ _ _)
    | ((with_reducible refine Frame.put ?_ ?_) <;> [rfl; skip])
    | ((with_reducible refine Frame.putFlag ?_ ?_) <;> [rfl; skip])
    | ((with_reducible refine Frame.putClr ?_ ?_) <;> [rfl; skip])
    | ((with_reducible refine Frame.onLink0 ?_ ?_ ?_ ?_) <;> [rfl; (first | exact among_sub rfl | exact anyKey_sub); skip; skip])
    | ((with_reducible refine Frame.host ?_ ?_ ?_) <;> [rfl; skip; skip])
    | ((with_reducible refine Frame.choose ?_ ?_) <;> intro _)
    | split

theorem execJesdTxFramingStart_touches (p : Fin 48) (s : State) : Frames s (execJesdTxFramingStart p s) [] (among [.PP_EVT, .PP_JSTAT]) := by
  unfold execJesdTxFramingStart
  try dsimp only
  refine ⟨_, rfl, ?_⟩
  repeat' first
    | (with_reducible exact Frame.refl _ _ _)
    | ((with_reducible refine Frame.putFlag ?_ ?_) <;> [rfl; skip])
    | ((with_reducible refine Frame.puts ?_ ?_) <;> [(simp [among, anyKey]; done); skip])
    | ((with_reducible refine Frame.putsCons ?_ ?_) <;> [rfl; skip])
    | ((with_reducible refine Frame.choose ?_ ?_) <;> intro _)
    | split

theorem execJesdTxStopDone_touches (p : Fin 48) (s : State) : Frames s (execJesdTxStopDone p s) [] (among [.PP_EVT, .PP_JSTAT]) := by
  unfold execJesdTxStopDone
  try dsimp only
  refine ⟨_, rfl, ?_⟩
  repeat' first
    | (with_reducible exact Frame.refl _ _ _)
    | ((with_reducible refine Frame.put ?_ ?_) <;> [rfl; skip])
    | ((with_reducible eapply Frame.via) <;> [(with_reducible first | apply State.jesdWait_touches); rfl; exact among_sub rfl; skip])
    | ((with_reducible refine Frame.choose ?_ ?_) <;> intro _)
    | split

theorem execJesdRxBlockLock_touches (p : Fin 48) (s : State) : Frames s (execJesdRxBlockLock p s) [] (among [.PP_JSTAT]) := by
  unfold execJesdRxBlockLock
  try dsimp only
  refine ⟨_, rfl, ?_⟩
  repeat' first
    | (with_reducible exact Frame.refl _ _ _)
    | ((with_reducible refine Frame.puts ?_ ?_) <;> [(simp [among, anyKey]; done); skip])
    | ((with_reducible refine Frame.putsCons ?_ ?_) <;> [rfl; skip])
    | ((with_reducible refine Frame.choose ?_ ?_) <;> intro _)
    | split

theorem execJesdRxMblkFound_touches (p : Fin 48) (s : State) : Frames s (execJesdRxMblkFound p s) [] (among [.PP_JSTAT]) := by
  unfold execJesdRxMblkFound
  try dsimp only
  refine ⟨_, rfl, ?_⟩
  repeat' first
    | (with_reducible exact Frame.refl _ _ _)
    | ((with_reducible refine Frame.put ?_ ?_) <;> [rfl; skip])
    | ((with_reducible refine Frame.choose ?_ ?_) <;> intro _)
    | split

theorem execJesdRxRelease_touches (p : Fin 48) (late : Bool) (s : State) : Frames s (execJesdRxRelease p late s) [] (among [.COR_IN_STAT, .PP_EVT, .PP_JSTAT]) := by
  unfold execJesdRxRelease
  try dsimp only
  refine ⟨_, rfl, ?_⟩
  repeat' first
    | (with_reducible exact Frame.refl _ _ _)
    | ((with_reducible refine Frame.putFlag ?_ ?_) <;> [rfl; skip])
    | ((with_reducible refine Frame.puts ?_ ?_) <;> [(simp [among, anyKey]; done); skip])
    | ((with_reducible refine Frame.putsCons ?_ ?_) <;> [rfl; skip])
    | ((with_reducible eapply Frame.via) <;> [(with_reducible first | apply State.inputBack_touches); rfl; exact among_sub rfl; skip])
    | ((with_reducible refine Frame.choose ?_ ?_) <;> intro _)
    | split

theorem execJloss_touches (p : Fin 48) (lane : Fin 8) (s : State) : Frames s (execJloss p lane s) [.edges, .arcBuf] (among [.COR_GRP_EVT, .COR_GRP_STATUS, .COR_IN_STAT, .IC_ARC_EVT, .IC_ARC_LOST, .IC_LDG, .L_COR_RAMP, .L_COR_W0, .L_COR_ZERO, .PP_EVT, .PP_JERR, .PP_JSTAT, .PP_PARK_SRC, .REEL]) := by
  unfold execJloss
  try dsimp only
  refine ⟨_, rfl, ?_⟩
  repeat' first
    | (with_reducible exact Frame.refl _ _ _)
    | ((with_reducible refine Frame.putBump ?_ ?_) <;> [rfl; skip])
    | ((with_reducible refine Frame.puts ?_ ?_) <;> [(simp [among, anyKey]; done); skip])
    | ((with_reducible refine Frame.putsCons ?_ ?_) <;> [rfl; skip])
    | ((with_reducible eapply Frame.via) <;> [(with_reducible first | apply State.inputLoss_touches | apply State.portFault_touches); rfl; exact among_sub rfl; skip])
    | ((with_reducible refine Frame.choose ?_ ?_) <;> intro _)
    | split

theorem execJcrc_touches (p : Fin 48) (s : State) : Frames s (execJcrc p s) [] (among [.COR_IN_STAT, .PP_EVT, .PP_JERR]) := by
  unfold execJcrc
  try dsimp only
  refine ⟨_, rfl, ?_⟩
  repeat' first
    | (with_reducible exact Frame.refl _ _ _)
    | ((with_reducible refine Frame.putFlag ?_ ?_) <;> [rfl; skip])
    | ((with_reducible refine Frame.putBump ?_ ?_) <;> [rfl; skip])
    | ((with_reducible refine Frame.steps ?_ ?_) <;> [intro _ _; skip])
    | ((with_reducible refine Frame.choose ?_ ?_) <;> intro _)
    | split

theorem execJesdRxOffReached_touches (p : Fin 48) (s : State) : Frames s (execJesdRxOffReached p s) [] (among [.L_JRX_STOP, .PP_JCTRL, .PP_JSTAT]) := by
  unfold execJesdRxOffReached
  try dsimp only
  refine ⟨_, rfl, ?_⟩
  repeat' first
    | (with_reducible exact Frame.refl _ _ _)
    | ((with_reducible refine Frame.puts ?_ ?_) <;> [(simp [among, anyKey]; done); skip])
    | ((with_reducible refine Frame.putsCons ?_ ?_) <;> [rfl; skip])
    | ((with_reducible refine Frame.choose ?_ ?_) <;> intro _)
    | split

end Sys2Proof.Machine
end

