-- ==== Sys2Proof/Laws/FramesLinkBase.lean ====
section
/-!
SUPPORT. The frames of the operations of Machine/LinkBase.lean: the parts and registers each may change.
-/
set_option linter.unusedTactic false
set_option linter.unreachableTactic false
set_option linter.unusedVariables false
set_option linter.unusedSimpArgs false
namespace Sys2Proof.Machine

theorem State.linkEntry_touches (s : State) (l old st cause : Nat) (delay : Int) : Frame s (State.linkEntry s l old st cause delay) [.arcBuf] (among [.IC_ARC_EVT, .IC_ARC_LOST, .IC_LDG]) := by
  unfold State.linkEntry
  try dsimp only
  repeat' first
    | (with_reducible exact Frame.refl _ _ _)
    | ((with_reducible eapply Frame.via) <;> [(with_reducible first | apply State.archiveFrame); rfl; exact among_sub rfl; skip])

theorem State.linkPersist_touches (s : State) : Frame s (State.linkPersist s) [] (among [.IC_LDG]) := by
  unfold State.linkPersist
  try dsimp only
  repeat' first
    | (with_reducible exact Frame.refl _ _ _)
    | ((with_reducible refine Frame.putPersist ?_ ?_) <;> [rfl; skip])

theorem State.linkFault_touches (s : State) (l : Nat) : Frame s (State.linkFault s l) [.arcBuf] (among [.IC_ARC_EVT, .IC_ARC_LOST, .IC_LDG, .L_LK_FAULTED]) := by
  unfold State.linkFault
  try dsimp only
  repeat' first
    | (with_reducible exact Frame.refl _ _ _)
    | ((with_reducible refine Frame.putFlag ?_ ?_) <;> [rfl; skip])
    | ((with_reducible eapply Frame.via) <;> [(with_reducible first | apply State.linkPersist_touches | apply State.raisePerUnit_touches); rfl; exact among_sub rfl; skip])

theorem State.linkTiuBack_touches (s : State) (l : Nat) : Frame s (State.linkTiuBack s l) [] (among [.LK_STATUS, .L_LK_TIU, .TIU_STATUS]) := by
  unfold State.linkTiuBack
  try dsimp only
  repeat' first
    | (with_reducible exact Frame.refl _ _ _)
    | ((with_reducible refine Frame.putClr ?_ ?_) <;> [rfl; skip])
    | ((with_reducible refine Frame.puts ?_ ?_) <;> [(simp [among, anyKey]; done); skip])
    | ((with_reducible refine Frame.putsCons ?_ ?_) <;> [rfl; skip])
    | ((with_reducible refine Frame.choose ?_ ?_) <;> intro _)
    | split

theorem State.linkTiu_touches (s : State) (l : Nat) : Frame s (State.linkTiu s l) [] (among [.LK_STATUS, .L_LK_TIU, .TIU_STATUS]) := by
  unfold State.linkTiu
  try dsimp only
  repeat' first
    | (with_reducible exact Frame.refl _ _ _)
    | ((with_reducible refine Frame.putFlag ?_ ?_) <;> [rfl; skip])
    | ((with_reducible refine Frame.puts ?_ ?_) <;> [(simp [among, anyKey]; done); skip])
    | ((with_reducible refine Frame.putsCons ?_ ?_) <;> [rfl; skip])
    | ((with_reducible refine Frame.choose ?_ ?_) <;> intro _)
    | split

theorem State.linkAverage_touches (s : State) (l : Nat) : Frame s (State.linkAverage s l) [] (among [.L_LK_HDR, .L_LK_N, .L_LK_SUM_R, .L_LK_SUM_T]) := by
  unfold State.linkAverage
  try dsimp only
  repeat' first
    | (with_reducible exact Frame.refl _ _ _)
    | ((with_reducible refine Frame.puts ?_ ?_) <;> [(simp [among, anyKey]; done); skip])
    | ((with_reducible refine Frame.putsCons ?_ ?_) <;> [rfl; skip])

theorem State.linkEnter_touches (s : State) (l st cause : Nat) : Frame s (State.linkEnter s l st cause) [.rxs, .txq, .txs, .edges, .arcBuf] (among [.COR_GRP_EVT, .COR_GRP_STATUS, .COR_IN_STAT, .IC_ARC_EVT, .IC_ARC_LOST, .IC_LDG, .LK_EVT, .LK_RXS_STAT, .LK_STATUS, .L_COR_RAMP, .L_COR_W0, .L_COR_ZERO, .L_LK_AGAIN, .L_LK_FAULTED, .L_LK_GOOD, .L_LK_HDR, .L_LK_N, .L_LK_SUM_R, .L_LK_SUM_T, .L_LK_TIU, .REEL, .TIU_STATUS]) := by
  unfold State.linkEnter
  try dsimp only
  repeat' first
    | (with_reducible exact Frame.refl _ _ _)
    | ((with_reducible refine Frame.putFlag ?_ ?_) <;> [rfl; skip])
    | ((with_reducible refine Frame.putClr ?_ ?_) <;> [rfl; skip])
    | ((with_reducible refine Frame.puts ?_ ?_) <;> [(simp [among, anyKey]; done); skip])
    | ((with_reducible refine Frame.putsCons ?_ ?_) <;> [rfl; skip])
    | ((with_reducible eapply Frame.via) <;> [(with_reducible first | apply State.inputBack_touches | apply State.inputLoss_touches | apply State.linkAverage_touches | apply State.linkEntry_touches | apply State.linkPersist_touches | apply State.linkTiu_touches | apply State.linkTiuBack_touches); rfl; exact among_sub rfl; skip])
    | ((with_reducible refine Frame.steps ?_ ?_) <;> [intro _ _; skip])
    | (fail_if_no_progress ((with_reducible refine Frame.on_txq_txs_rxs ?_ ?_ ?_ ?_) <;> [rfl; rfl; rfl; skip]))
    | (fail_if_no_progress ((with_reducible refine Frame.on_rxs ?_ ?_) <;> [rfl; skip]))
    | (fail_if_no_progress ((with_reducible refine Frame.on_txq ?_ ?_) <;> [rfl; skip]))
    | (fail_if_no_progress ((with_reducible refine Frame.on_txs ?_ ?_) <;> [rfl; skip]))
    | ((with_reducible refine Frame.choose ?_ ?_) <;> intro _)
    | split

theorem State.linkStart_touches (s : State) (l : Nat) : Frame s (State.linkStart s l) [.rxs, .txq, .txs, .edges, .arcBuf] (among [.COR_GRP_EVT, .COR_GRP_STATUS, .COR_IN_STAT, .IC_ARC_EVT, .IC_ARC_LOST, .IC_LDG, .LK_EVT, .LK_RXS_STAT, .LK_STATUS, .L_COR_RAMP, .L_COR_W0, .L_COR_ZERO, .L_LK_AGAIN, .L_LK_FAULTED, .L_LK_GOOD, .L_LK_HDR, .L_LK_N, .L_LK_SUM_R, .L_LK_SUM_T, .L_LK_TIU, .REEL, .TIU_STATUS]) := by
  unfold State.linkStart
  try dsimp only
  repeat' first
    | (with_reducible exact Frame.refl _ _ _)
    | ((with_reducible eapply Frame.via) <;> [(with_reducible first | apply State.linkEnter_touches); rfl; exact among_sub rfl; skip])
    | ((with_reducible refine Frame.choose ?_ ?_) <;> intro _)
    | split

theorem State.linkStop_touches (s : State) (l : Nat) : Frame s (State.linkStop s l) [.rxs, .txq, .txs, .edges, .arcBuf] (among [.COR_GRP_EVT, .COR_GRP_STATUS, .COR_IN_STAT, .IC_ARC_EVT, .IC_ARC_LOST, .IC_LDG, .LK_EVT, .LK_RXS_STAT, .LK_STATUS, .L_COR_RAMP, .L_COR_W0, .L_COR_ZERO, .L_LK_AGAIN, .L_LK_FAULTED, .L_LK_GOOD, .L_LK_HDR, .L_LK_N, .L_LK_SUM_R, .L_LK_SUM_T, .L_LK_TIU, .REEL, .TIU_STATUS]) := by
  unfold State.linkStop
  try dsimp only
  repeat' first
    | (with_reducible exact Frame.refl _ _ _)
    | ((with_reducible eapply Frame.via) <;> [(with_reducible first | apply State.linkEnter_touches); rfl; exact among_sub rfl; skip])
    | ((with_reducible refine Frame.choose ?_ ?_) <;> intro _)
    | split

theorem State.linksAnchor_touches (s : State) : Frame s (State.linksAnchor s) [.rxs, .txq, .txs, .edges, .arcBuf] (among [.COR_GRP_EVT, .COR_GRP_STATUS, .COR_IN_STAT, .IC_ARC_EVT, .IC_ARC_LOST, .IC_LDG, .LK_EVT, .LK_RXS_STAT, .LK_STATUS, .L_COR_RAMP, .L_COR_W0, .L_COR_ZERO, .L_LK_AGAIN, .L_LK_FAULTED, .L_LK_GOOD, .L_LK_HDR, .L_LK_N, .L_LK_SUM_R, .L_LK_SUM_T, .L_LK_TIU, .REEL, .TIU_STATUS]) := by
  unfold State.linksAnchor
  try dsimp only
  repeat' first
    | (with_reducible exact Frame.refl _ _ _)
    | ((with_reducible eapply Frame.via) <;> [(with_reducible first | apply State.linkEnter_touches); rfl; exact among_sub rfl; skip])
    | ((with_reducible refine Frame.steps ?_ ?_) <;> [intro _ _; skip])

theorem State.misalign_touches (s : State) (l : Nat) : Frame s (State.misalign s l) [.arcBuf] (among [.IC_ARC_EVT, .IC_ARC_LOST, .IC_LDG, .LK_STATUS, .LK_STUDIO_EVT, .LK_STUDIO_STATUS, .L_LK_FAULTED]) := by
  unfold State.misalign
  try dsimp only
  repeat' first
    | (with_reducible exact Frame.refl _ _ _)
    | ((with_reducible refine Frame.put ?_ ?_) <;> [rfl; skip])
    | ((with_reducible refine Frame.putFlag ?_ ?_) <;> [rfl; skip])
    | ((with_reducible eapply Frame.via) <;> [(with_reducible first | apply State.linkEntry_touches | apply State.linkFault_touches); rfl; exact among_sub rfl; skip])

theorem State.studioMisalign_touches (s : State) : Frame s (State.studioMisalign s) [.arcBuf] (among [.IC_ARC_EVT, .IC_ARC_LOST, .IC_LDG, .LK_STATUS, .LK_STUDIO_EVT, .LK_STUDIO_STATUS, .L_LK_FAULTED]) := by
  unfold State.studioMisalign
  try dsimp only
  repeat' first
    | (with_reducible exact Frame.refl _ _ _)
    | ((with_reducible eapply Frame.via) <;> [(with_reducible first | apply State.misalign_touches); rfl; exact among_sub rfl; skip])
    | ((with_reducible refine Frame.choose ?_ ?_) <;> intro _)
    | split

end Sys2Proof.Machine
end

