-- ==== Sys2Proof/Laws/FramesJinel.lean ====
section
/-!
SUPPORT. The frames of the operations of Machine/Jinel.lean: the parts and registers each may change.
-/
set_option linter.unusedTactic false
set_option linter.unreachableTactic false
set_option linter.unusedVariables false
set_option linter.unusedSimpArgs false
namespace Sys2Proof.Machine

theorem State.applyRecord_touches (s : State) (q : Nat × Nat × Nat) : Frame s (State.applyRecord s q) [] anyKey := by
  unfold State.applyRecord
  try dsimp only
  repeat' first
    | (with_reducible exact Frame.refl _ _ _)
    | ((with_reducible refine Frame.put ?_ ?_) <;> [rfl; skip])
    | ((with_reducible refine Frame.steps ?_ ?_) <;> [intro _ _; skip])
    | ((with_reducible refine Frame.choose ?_ ?_) <;> intro _)
    | split

theorem State.imageStructure_touches (s : State) (img : List (BitVec 8)) : Frame s (State.imageStructure s img) [] anyKey := by
  unfold State.imageStructure
  try dsimp only
  repeat' first
    | (with_reducible exact Frame.refl _ _ _)
    | ((with_reducible eapply Frame.via) <;> [(with_reducible first | apply State.applyRecord_touches); rfl; exact anyKey_sub; skip])
    | ((with_reducible refine Frame.forget ?_ ?_) <;> [exact fun _ _ => rfl; skip])
    | ((with_reducible refine Frame.steps ?_ ?_) <;> [intro _ _; skip])

theorem State.afterLoad_touches (s : State) : Frame s (State.afterLoad s) [] (among [.EV_GRP_EN, .IC_ARC_FILL, .IC_ARC_RD, .IC_ARC_WR, .IC_TGT_STATUS, .LK_STUDIO_STATUS, .L_ARC_FULL, .L_EVC_LOOPS, .SYS_MSIX_PBA]) := by
  unfold State.afterLoad
  try dsimp only
  repeat' first
    | (with_reducible exact Frame.refl _ _ _)
    | ((with_reducible refine Frame.put ?_ ?_) <;> [rfl; skip])
    | ((with_reducible refine Frame.puts ?_ ?_) <;> [(simp [among, anyKey]; done); skip])
    | ((with_reducible refine Frame.putsCons ?_ ?_) <;> [rfl; skip])
    | ((with_reducible eapply Frame.via) <;> [(with_reducible first | apply State.groupOff_touches | apply State.reroute_touches); rfl; exact among_sub rfl; skip])
    | ((with_reducible refine Frame.steps ?_ ?_) <;> [intro _ _; skip])
    | ((with_reducible refine Frame.choose ?_ ?_) <;> intro _)
    | split

theorem State.applyImage_touches (s : State) (img : List (BitVec 8)) : Frame s (State.applyImage s img) [] anyKey := by
  unfold State.applyImage
  try dsimp only
  repeat' first
    | (with_reducible exact Frame.refl _ _ _)
    | ((with_reducible refine Frame.puts ?_ ?_) <;> [(simp [among, anyKey]; done); skip])
    | ((with_reducible refine Frame.putsCons ?_ ?_) <;> [rfl; skip])
    | ((with_reducible eapply Frame.via) <;> [(with_reducible first | apply State.afterLoad_touches | apply State.imageStructure_touches); rfl; exact anyKey_sub; skip])

theorem State.applyPart_touches (s : State) (img : List (BitVec 8)) : Frame s (State.applyPart s img) [] anyKey := by
  unfold State.applyPart
  try dsimp only
  repeat' first
    | (with_reducible exact Frame.refl _ _ _)
    | ((with_reducible refine Frame.puts ?_ ?_) <;> [(simp [among, anyKey]; done); skip])
    | ((with_reducible refine Frame.putsCons ?_ ?_) <;> [rfl; skip])
    | ((with_reducible eapply Frame.via) <;> [(with_reducible first | apply State.applyRecord_touches | apply State.reroute_touches); rfl; exact anyKey_sub; skip])
    | ((with_reducible refine Frame.steps ?_ ?_) <;> [intro _ _; skip])

theorem State.noImage_touches (s : State) : Frame s (State.noImage s) [] anyKey := by
  unfold State.noImage
  try dsimp only
  repeat' first
    | (with_reducible exact Frame.refl _ _ _)
    | ((with_reducible refine Frame.puts ?_ ?_) <;> [(simp [among, anyKey]; done); skip])
    | ((with_reducible refine Frame.putsCons ?_ ?_) <;> [rfl; skip])
    | ((with_reducible eapply Frame.via) <;> [(with_reducible first | apply State.afterLoad_touches); rfl; exact anyKey_sub; skip])
    | ((with_reducible refine Frame.forget ?_ ?_) <;> [exact fun _ _ => rfl; skip])

end Sys2Proof.Machine
end

