-- ==== Sys2Proof/Laws/FramesTiles.lean ====
section
/-!
SUPPORT. The frames of the operations of Machine/Tiles.lean: the parts and registers each may change.
-/
set_option linter.unusedTactic false
set_option linter.unreachableTactic false
set_option linter.unusedVariables false
set_option linter.unusedSimpArgs false
namespace Sys2Proof.Machine

theorem State.tilePark_touches (s : State) (t : Nat) (on : Bool) : Frame s (State.tilePark s t on) [] (among [.CH_EVT, .CH_PARK_SRC, .CH_STATUS, .PP_EVT, .PP_PARK_SRC]) := by
  unfold State.tilePark
  try dsimp only
  repeat' first
    | (with_reducible exact Frame.refl _ _ _)
    | ((with_reducible eapply Frame.via) <;> [(with_reducible first | apply State.chPark_touches | apply State.ppPark_touches); rfl; exact among_sub rfl; skip])
    | ((with_reducible refine Frame.steps ?_ ?_) <;> [intro _ _; skip])

theorem State.tileStop_touches (s : State) (t : Nat) : Frame s (State.tileStop s t) [.edges, .arcBuf] (among [.CH_EVT, .CH_PARK_SRC, .CH_STATUS, .COR_GRP_EVT, .COR_GRP_STATUS, .IC_ARC_EVT, .IC_ARC_LOST, .IC_LDG, .L_COR_RAMP, .L_COR_W0, .L_COR_ZERO, .PP_EVT, .PP_PARK_SRC, .REEL, .SYS_TILE_STATUS]) := by
  unfold State.tileStop
  try dsimp only
  repeat' first
    | (with_reducible exact Frame.refl _ _ _)
    | ((with_reducible refine Frame.put ?_ ?_) <;> [rfl; skip])
    | ((with_reducible eapply Frame.via) <;> [(with_reducible first | apply State.corAbort_touches | apply State.stopReels_touches | apply State.tilePark_touches); rfl; exact among_sub rfl; skip])
    | ((with_reducible refine Frame.steps ?_ ?_) <;> [intro _ _; skip])

theorem State.tileRunning_touches (s : State) (t : Nat) : Frame s (State.tileRunning s t) [] (among [.CH_EVT, .CH_PARK_SRC, .CH_STATUS, .PP_EVT, .PP_PARK_SRC, .SYS_TILE_STATUS]) := by
  unfold State.tileRunning
  try dsimp only
  repeat' first
    | (with_reducible exact Frame.refl _ _ _)
    | ((with_reducible refine Frame.puts ?_ ?_) <;> [(simp [among, anyKey]; done); skip])
    | ((with_reducible refine Frame.putsCons ?_ ?_) <;> [rfl; skip])
    | ((with_reducible eapply Frame.via) <;> [(with_reducible first | apply State.bootClear_touches); rfl; exact among_sub rfl; skip])

theorem State.tileOff_touches (s : State) (t : Nat) : Frame s (State.tileOff s t) [] (among [.L_CC_SLEEP, .SYS_TILE_STATUS]) := by
  unfold State.tileOff
  try dsimp only
  repeat' first
    | (with_reducible exact Frame.refl _ _ _)
    | ((with_reducible refine Frame.puts ?_ ?_) <;> [(simp [among, anyKey]; done); skip])
    | ((with_reducible refine Frame.putsCons ?_ ?_) <;> [rfl; skip])

theorem State.tileStart_touches (s : State) (t : Nat) : Frame s (State.tileStart s t) [] (among [.L_CC_HALTED, .L_CC_SLEEP, .SYS_TILE_STATUS]) := by
  unfold State.tileStart
  try dsimp only
  repeat' first
    | (with_reducible exact Frame.refl _ _ _)
    | ((with_reducible refine Frame.puts ?_ ?_) <;> [(simp [among, anyKey]; done); skip])
    | ((with_reducible refine Frame.putsCons ?_ ?_) <;> [rfl; skip])

theorem execImageLoad_touches (pf : Fin 4) (s : State) : Frames s (execImageLoad pf s) [] (among [.AON_PWR_EVT, .L_IMG_AT, .SYS_HIF_EVT, .SYS_IMG_STATUS]) := by
  unfold execImageLoad
  try dsimp only
  refine ⟨_, rfl, ?_⟩
  repeat' first
    | (with_reducible exact Frame.refl _ _ _)
    | ((with_reducible refine Frame.put ?_ ?_) <;> [rfl; skip])
    | ((with_reducible refine Frame.puts ?_ ?_) <;> [(simp [among, anyKey]; done); skip])
    | ((with_reducible refine Frame.putsCons ?_ ?_) <;> [rfl; skip])
    | ((with_reducible refine Frame.priv ?_ ?_ ?_ ?_) <;> [rfl; rfl; skip; skip])
    | ((with_reducible refine Frame.choose ?_ ?_) <;> intro _)
    | split

theorem execImageLoadDone_touches (data : Option (List (BitVec 8))) (s : State) : Frames s (execImageLoadDone data s) [] anyKey := by
  unfold execImageLoadDone
  try dsimp only
  refine ⟨_, rfl, ?_⟩
  repeat' first
    | (with_reducible exact Frame.refl _ _ _)
    | ((with_reducible refine Frame.puts ?_ ?_) <;> [(simp [among, anyKey]; done); skip])
    | ((with_reducible refine Frame.putsCons ?_ ?_) <;> [rfl; skip])
    | ((with_reducible eapply Frame.via) <;> [(with_reducible first | apply State.applyImage_touches); rfl; exact anyKey_sub; skip])
    | ((with_reducible refine Frame.choose ?_ ?_) <;> intro _)
    | split

theorem execReissue_touches (pf : Fin 4) (s : State) : Frames s (execReissue pf s) [.edges, .arcBuf] (among [.AON_PWR_EVT, .CH_EVT, .CH_PARK_SRC, .CH_STATUS, .COR_GRP_EVT, .COR_GRP_STATUS, .IC_ARC_EVT, .IC_ARC_LOST, .IC_LDG, .L_COR_RAMP, .L_COR_W0, .L_COR_ZERO, .L_RI_AT, .L_RI_NEXT, .PP_EVT, .PP_PARK_SRC, .REEL, .SYS_HIF_EVT, .SYS_TILE_STATUS]) := by
  unfold execReissue
  try dsimp only
  refine ⟨_, rfl, ?_⟩
  repeat' first
    | (with_reducible exact Frame.refl _ _ _)
    | ((with_reducible refine Frame.put ?_ ?_) <;> [rfl; skip])
    | ((with_reducible refine Frame.puts ?_ ?_) <;> [(simp [among, anyKey]; done); skip])
    | ((with_reducible refine Frame.putsCons ?_ ?_) <;> [rfl; skip])
    | ((with_reducible eapply Frame.via) <;> [(with_reducible first | apply State.tileStop_touches); rfl; exact among_sub rfl; skip])
    | ((with_reducible refine Frame.priv ?_ ?_ ?_ ?_) <;> [rfl; rfl; skip; skip])
    | split

theorem execTileEnable_touches (pf : Fin 4) (t : Fin 8) (s : State) : Frames s (execTileEnable pf t s) [] (among [.AON_PWR_EVT, .L_CC_HALTED, .L_CC_SLEEP, .SYS_HIF_EVT, .SYS_TILE_CTRL, .SYS_TILE_STATUS]) := by
  unfold execTileEnable
  try dsimp only
  refine ⟨_, rfl, ?_⟩
  repeat' first
    | (with_reducible exact Frame.refl _ _ _)
    | ((with_reducible refine Frame.putFlag ?_ ?_) <;> [rfl; skip])
    | ((with_reducible eapply Frame.via) <;> [(with_reducible first | apply State.tileStart_touches); rfl; exact among_sub rfl; skip])
    | ((with_reducible refine Frame.priv ?_ ?_ ?_ ?_) <;> [rfl; rfl; skip; skip])
    | ((with_reducible refine Frame.choose ?_ ?_) <;> intro _)
    | split

theorem execTileDisable_touches (pf : Fin 4) (t : Fin 8) (s : State) : Frames s (execTileDisable pf t s) [.edges, .arcBuf] (among [.AON_PWR_EVT, .CH_EVT, .CH_PARK_SRC, .CH_STATUS, .COR_GRP_EVT, .COR_GRP_STATUS, .IC_ARC_EVT, .IC_ARC_LOST, .IC_LDG, .L_COR_RAMP, .L_COR_W0, .L_COR_ZERO, .PP_EVT, .PP_PARK_SRC, .REEL, .SYS_HIF_EVT, .SYS_TILE_CTRL, .SYS_TILE_STATUS]) := by
  unfold execTileDisable
  try dsimp only
  refine ⟨_, rfl, ?_⟩
  repeat' first
    | (with_reducible exact Frame.refl _ _ _)
    | ((with_reducible refine Frame.puts ?_ ?_) <;> [(simp [among, anyKey]; done); skip])
    | ((with_reducible refine Frame.putsCons ?_ ?_) <;> [rfl; skip])
    | ((with_reducible eapply Frame.via) <;> [(with_reducible first | apply State.tileStop_touches); rfl; exact among_sub rfl; skip])
    | ((with_reducible refine Frame.priv ?_ ?_ ?_ ?_) <;> [rfl; rfl; skip; skip])
    | ((with_reducible refine Frame.choose ?_ ?_) <;> intro _)
    | split

theorem execTileStartDone_touches (t : Fin 8) (s : State) : Frames s (execTileStartDone t s) [.edges, .arcBuf] (among [.CH_EVT, .CH_PARK_SRC, .CH_STATUS, .COR_GRP_EVT, .COR_GRP_STATUS, .IC_ARC_EVT, .IC_ARC_LOST, .IC_LDG, .L_COR_RAMP, .L_COR_W0, .L_COR_ZERO, .PP_EVT, .PP_PARK_SRC, .REEL, .SYS_TILE_STATUS]) := by
  unfold execTileStartDone
  try dsimp only
  refine ⟨_, rfl, ?_⟩
  repeat' first
    | (with_reducible exact Frame.refl _ _ _)
    | ((with_reducible eapply Frame.via) <;> [(with_reducible first | apply State.tileRunning_touches | apply State.tileStop_touches); rfl; exact among_sub rfl; skip])
    | ((with_reducible refine Frame.choose ?_ ?_) <;> intro _)
    | split

theorem execTileStopDone_touches (t : Fin 8) (s : State) : Frames s (execTileStopDone t s) [.loans] (among [.CH_EVT, .CH_PARK_SRC, .CH_STATUS, .L_CC_SLEEP, .PP_EVT, .PP_PARK_SRC, .SYS_TILE_STATUS]) := by
  unfold execTileStopDone
  try dsimp only
  refine ⟨_, rfl, ?_⟩
  repeat' first
    | (with_reducible exact Frame.refl _ _ _)
    | ((with_reducible refine Frame.puts ?_ ?_) <;> [(simp [among, anyKey]; done); skip])
    | ((with_reducible refine Frame.putsCons ?_ ?_) <;> [rfl; skip])
    | ((with_reducible eapply Frame.via) <;> [(with_reducible first | apply State.tileOff_touches | apply State.tileRunning_touches); rfl; exact among_sub rfl; skip])
    | (fail_if_no_progress ((with_reducible refine Frame.on_loans ?_ ?_) <;> [rfl; skip]))
    | ((with_reducible refine Frame.choose ?_ ?_) <;> intro _)
    | split

theorem execTileLoadDone_touches (t : Fin 8) (data : Option (List (BitVec 8))) (s : State) : Frames s (execTileLoadDone t data s) [] anyKey := by
  unfold execTileLoadDone
  try dsimp only
  refine ⟨_, rfl, ?_⟩
  repeat' first
    | (with_reducible exact Frame.refl _ _ _)
    | ((with_reducible refine Frame.put ?_ ?_) <;> [rfl; skip])
    | ((with_reducible refine Frame.puts ?_ ?_) <;> [(simp [among, anyKey]; done); skip])
    | ((with_reducible refine Frame.putsCons ?_ ?_) <;> [rfl; skip])
    | ((with_reducible eapply Frame.via) <;> [(with_reducible first | apply State.applyPart_touches | apply State.tileOff_touches | apply State.tileRunning_touches); rfl; exact anyKey_sub; skip])
    | ((with_reducible refine Frame.choose ?_ ?_) <;> intro _)
    | split

end Sys2Proof.Machine
end

