-- ==== Sys2Proof/Laws/FramesStandby.lean ====
section
/-!
SUPPORT. The frames of the operations of Machine/Standby.lean: the parts and registers each may change.
-/
set_option linter.unusedTactic false
set_option linter.unreachableTactic false
set_option linter.unusedVariables false
set_option linter.unusedSimpArgs false
namespace Sys2Proof.Machine

theorem State.tbStop_touches (s : State) : Frame s (State.tbStop s) [] (among [.CH_EVT, .CH_PARK_SRC, .CH_STATUS, .PP_EVT, .PP_PARK_SRC, .TB_STATUS]) := by
  unfold State.tbStop
  try dsimp only
  repeat' first
    | (with_reducible exact Frame.refl _ _ _)
    | ((with_reducible refine Frame.puts ?_ ?_) <;> [(simp [among, anyKey]; done); skip])
    | ((with_reducible refine Frame.putsCons ?_ ?_) <;> [rfl; skip])
    | ((with_reducible eapply Frame.via) <;> [(with_reducible first | apply State.parkAll_touches); rfl; exact among_sub rfl; skip])

theorem State.standbyBegin_touches (s : State) : Frame s (State.standbyBegin s) [.measures, .rxs, .txq, .txs, .edges, .arcBuf] (among [.CH_STATUS, .COR_GRP_EVT, .COR_GRP_STATUS, .COR_IN_STAT, .IC_ARC_EVT, .IC_ARC_LOST, .IC_LDG, .LK_EVT, .LK_RXS_STAT, .LK_STATUS, .L_COR_RAMP, .L_COR_W0, .L_COR_ZERO, .L_LK_AGAIN, .L_LK_FAULTED, .L_LK_GOOD, .L_LK_HDR, .L_LK_N, .L_LK_SUM_R, .L_LK_SUM_T, .L_LK_TIU, .L_PWR_BUSY, .L_PWR_NEXT, .PP_STATUS, .REEL, .TIU_STATUS]) := by
  unfold State.standbyBegin
  try dsimp only
  repeat' first
    | (with_reducible exact Frame.refl _ _ _)
    | ((with_reducible refine Frame.puts ?_ ?_) <;> [(simp [among, anyKey]; done); skip])
    | ((with_reducible refine Frame.putsCons ?_ ?_) <;> [rfl; skip])
    | ((with_reducible eapply Frame.via) <;> [(with_reducible first | apply State.chStop_touches | apply State.linkStop_touches | apply State.portStop_touches | apply State.tiuStop_touches); rfl; exact among_sub rfl; skip])
    | ((with_reducible refine Frame.steps ?_ ?_) <;> [intro _ _; skip])

theorem State.standbyEnd_touches (s : State) : Frame s (State.standbyEnd s) [.rxs, .txq, .txs, .edges, .arcBuf] (among [.CH_STATUS, .COR_GRP_EVT, .COR_GRP_STATUS, .COR_IN_STAT, .IC_ARC_EVT, .IC_ARC_LOST, .IC_LDG, .LK_EVT, .LK_RXS_STAT, .LK_STATUS, .LK_STUDIO_EVT, .LK_STUDIO_STATUS, .L_COR_RAMP, .L_COR_W0, .L_COR_ZERO, .L_LK_AGAIN, .L_LK_FAULTED, .L_LK_GOOD, .L_LK_HDR, .L_LK_N, .L_LK_SUM_R, .L_LK_SUM_T, .L_LK_TIU, .L_PWR_BUSY, .L_PWR_NEXT, .L_STK_SR, .PP_STATUS, .REEL, .TIU_STATUS]) := by
  unfold State.standbyEnd
  try dsimp only
  repeat' first
    | (with_reducible exact Frame.refl _ _ _)
    | ((with_reducible refine Frame.puts ?_ ?_) <;> [(simp [among, anyKey]; done); skip])
    | ((with_reducible refine Frame.putsCons ?_ ?_) <;> [rfl; skip])
    | ((with_reducible eapply Frame.via) <;> [(with_reducible first | apply State.chStart_touches | apply State.linkStart_touches | apply State.portStart_touches | apply State.tiuStart_touches); rfl; exact among_sub rfl; skip])
    | (with_reducible refine Frame.step ?_ ?_)
    | ((with_reducible refine Frame.steps ?_ ?_) <;> [intro _ _; skip])

theorem State.stopMeasurements_touches (s : State) : Frame s (State.stopMeasurements s) [.measures, .rxs, .txq, .txs, .edges, .arcBuf] anyKey := by
  unfold State.stopMeasurements
  try dsimp only
  repeat' first
    | (with_reducible exact Frame.refl _ _ _)
    | ((with_reducible eapply Frame.via) <;> [(with_reducible first | apply State.breakTius_touches | apply State.linksAnchor_touches); rfl; exact anyKey_sub; skip])

theorem State.passedActions_touches (s : State) : Frame s (State.passedActions s) [.ranges, .caps, .measures, .edges, .arcBuf] (among [.CH_EVT, .CH_STATUS, .IC_ARC_EVT, .IC_ARC_LOST, .IC_LDG, .PP_CAP_CNT_HI, .PP_CAP_CNT_LO, .PP_CAP_START_HI, .PP_CAP_START_LO, .PP_EVT, .PP_STATUS, .TIU_EVT, .TIU_FREQ_EXP, .TIU_FREQ_RATIO_HI, .TIU_FREQ_RATIO_LO, .TIU_IMAX_HI, .TIU_IMAX_LO, .TIU_IMIN_HI, .TIU_IMIN_LO, .TIU_ISUM_HI, .TIU_ISUM_LO, .TIU_OVERRUN, .TIU_RSTAT, .TIU_START, .TIU_STATUS, .TIU_STOP, .TIU_SUM_IT, .TIU_SUM_T]) := by
  unfold State.passedActions
  try dsimp only
  repeat' first
    | (with_reducible exact Frame.refl _ _ _)
    | ((with_reducible refine Frame.putFlag ?_ ?_) <;> [rfl; skip])
    | ((with_reducible refine Frame.putClr ?_ ?_) <;> [rfl; skip])
    | ((with_reducible eapply Frame.via) <;> [(with_reducible first | apply State.passedCaptures_touches | apply State.passedTius_touches); rfl; exact among_sub rfl; skip])
    | (with_reducible refine Frame.step ?_ ?_)
    | ((with_reducible refine Frame.steps ?_ ?_) <;> [intro _ _; skip])
    | (fail_if_no_progress ((with_reducible refine Frame.on_ranges ?_ ?_) <;> [rfl; skip]))
    | split

end Sys2Proof.Machine
end

