-- ==== Sys2Proof/Laws/FramesTimeBase.lean ====
section
/-!
SUPPORT. The frames of the operations of Machine/TimeBase.lean: the parts and registers each may change.
-/
set_option linter.unusedTactic false
set_option linter.unreachableTactic false
set_option linter.unusedVariables false
set_option linter.unusedSimpArgs false
namespace Sys2Proof.Machine

theorem State.tbEnter_touches (s : State) (st : Nat) : Frame s (State.tbEnter s st) [] (among [.TB_STATUS]) := by
  unfold State.tbEnter
  try dsimp only
  repeat' first
    | (with_reducible exact Frame.refl _ _ _)
    | ((with_reducible refine Frame.putClr ?_ ?_) <;> [rfl; skip])
    | ((with_reducible refine Frame.puts ?_ ?_) <;> [(simp [among, anyKey]; done); skip])
    | ((with_reducible refine Frame.putsCons ?_ ?_) <;> [rfl; skip])
    | (with_reducible refine Frame.step ?_ ?_)
    | ((with_reducible refine Frame.choose ?_ ?_) <;> intro _)
    | split

theorem State.tbStart_touches (s : State) : Frame s (State.tbStart s) [] (among [.L_TB_WANT, .PLL_STATUS, .TB_EVT, .TB_STATUS]) := by
  unfold State.tbStart
  try dsimp only
  repeat' first
    | (with_reducible exact Frame.refl _ _ _)
    | ((with_reducible refine Frame.put ?_ ?_) <;> [rfl; skip])
    | ((with_reducible refine Frame.putFlag ?_ ?_) <;> [rfl; skip])
    | ((with_reducible refine Frame.putClr ?_ ?_) <;> [rfl; skip])
    | ((with_reducible refine Frame.puts ?_ ?_) <;> [(simp [among, anyKey]; done); skip])
    | ((with_reducible refine Frame.putsCons ?_ ?_) <;> [rfl; skip])
    | ((with_reducible eapply Frame.via) <;> [(with_reducible first | apply State.tbEnter_touches); rfl; exact among_sub rfl; skip])
    | ((with_reducible refine Frame.choose ?_ ?_) <;> intro _)
    | split

theorem State.lossAction_touches (s : State) : Frame s (State.lossAction s) [] (among [.CH_EVT, .CH_PARK_SRC, .CH_STATUS, .PP_EVT, .PP_PARK_SRC, .REEL]) := by
  unfold State.lossAction
  try dsimp only
  repeat' first
    | (with_reducible exact Frame.refl _ _ _)
    | ((with_reducible eapply Frame.via) <;> [(with_reducible first | apply State.parkAll_touches | apply State.stopReels_touches); rfl; exact among_sub rfl; skip])
    | split

theorem State.coastBegin_touches (s : State) (cause : Nat) : Frame s (State.coastBegin s cause) [.arcBuf] (among [.CH_EVT, .CH_PARK_SRC, .CH_STATUS, .IC_ARC_EVT, .IC_ARC_LOST, .IC_LDG, .L_TB_LOSS_TICK, .L_TB_REACQ, .L_TB_REL_CAUSE, .PP_EVT, .PP_PARK_SRC, .REEL, .TB_STATUS]) := by
  unfold State.coastBegin
  try dsimp only
  repeat' first
    | (with_reducible exact Frame.refl _ _ _)
    | ((with_reducible refine Frame.puts ?_ ?_) <;> [(simp [among, anyKey]; done); skip])
    | ((with_reducible refine Frame.putsCons ?_ ?_) <;> [rfl; skip])
    | ((with_reducible eapply Frame.via) <;> [(with_reducible first | apply State.archiveFrame | apply State.lossAction_touches | apply State.tbEnter_touches); rfl; exact among_sub rfl; skip])

theorem State.relockEntry_touches (s : State) : Frame s (State.relockEntry s) [.arcBuf] (among [.IC_ARC_EVT, .IC_ARC_LOST, .IC_LDG]) := by
  unfold State.relockEntry
  try dsimp only
  repeat' first
    | (with_reducible exact Frame.refl _ _ _)
    | ((with_reducible eapply Frame.via) <;> [(with_reducible first | apply State.acceptFrame); rfl; exact among_sub rfl; skip])
    | ((with_reducible refine Frame.choose ?_ ?_) <;> intro _)
    | split

theorem State.release_touches (s : State) (st h : Nat) (est : Bool) : Frame s (State.release s st h est) [.edges, .arcBuf] (among [.IC_ARC_EVT, .IC_ARC_LOST, .IC_LDG, .L_TB_ENTRY_DUE, .L_TB_EPIN_SEEN, .L_TB_HELD, .L_TB_MEAS_DUE, .L_TB_REL_TICK, .L_TB_UNPARK_DUE, .PP_EVT, .TB_COAST_HI, .TB_COAST_LO, .TB_DISC, .TB_EVT, .TB_STATUS]) := by
  unfold State.release
  try dsimp only
  repeat' first
    | (with_reducible exact Frame.refl _ _ _)
    | ((with_reducible refine Frame.put2 ?_ ?_ ?_) <;> [rfl; rfl; skip])
    | ((with_reducible refine Frame.puts ?_ ?_) <;> [(simp [among, anyKey]; done); skip])
    | ((with_reducible refine Frame.putsCons ?_ ?_) <;> [rfl; skip])
    | ((with_reducible eapply Frame.via) <;> [(with_reducible first | apply State.jesdReanchor_touches | apply State.pulseFrame | apply State.relockEntry_touches | apply State.tbEnter_touches); rfl; exact among_sub rfl; skip])
    | ((with_reducible refine Frame.choose ?_ ?_) <;> intro _)
    | split

theorem State.loadCheck_touches (s : State) : Frame s (State.loadCheck s) [] (among [.L_TB_LOAD_OK, .TB_EVT]) := by
  unfold State.loadCheck
  try dsimp only
  repeat' first
    | (with_reducible exact Frame.refl _ _ _)
    | ((with_reducible refine Frame.put ?_ ?_) <;> [rfl; skip])
    | ((with_reducible refine Frame.putFlag ?_ ?_) <;> [rfl; skip])
    | ((with_reducible refine Frame.putClr ?_ ?_) <;> [rfl; skip])
    | ((with_reducible refine Frame.choose ?_ ?_) <;> intro _)
    | split

theorem State.applyCount_touches (s : State) (v : Nat) : Frame s (State.applyCount s v) [.tick, .ranges, .caps, .measures, .edges, .arcBuf] anyKey := by
  unfold State.applyCount
  try dsimp only
  repeat' first
    | (with_reducible exact Frame.refl _ _ _)
    | ((with_reducible eapply Frame.via) <;> [(with_reducible first | apply State.archiveFrame | apply State.passedActions_touches | apply State.studioMisalign_touches | apply State.timerArm_touches); rfl; exact anyKey_sub; skip])
    | (with_reducible refine Frame.step ?_ ?_)
    | ((with_reducible refine Frame.steps ?_ ?_) <;> [intro _ _; skip])
    | (fail_if_no_progress ((with_reducible refine Frame.on_tick ?_ ?_) <;> [rfl; skip]))

theorem State.applyLoad_touches (s : State) : Frame s (State.applyLoad s) [.tick, .ranges, .caps, .measures, .edges, .arcBuf] anyKey := by
  unfold State.applyLoad
  try dsimp only
  repeat' first
    | (with_reducible exact Frame.refl _ _ _)
    | ((with_reducible refine Frame.puts ?_ ?_) <;> [(simp [among, anyKey]; done); skip])
    | ((with_reducible refine Frame.putsCons ?_ ?_) <;> [rfl; skip])
    | ((with_reducible eapply Frame.via) <;> [(with_reducible first | apply State.applyCount_touches); rfl; exact anyKey_sub; skip])

theorem State.alignRelease_touches (s : State) (h : Int) : Frame s (State.alignRelease s h) [.tick, .ranges, .caps, .measures, .edges, .arcBuf] anyKey := by
  unfold State.alignRelease
  try dsimp only
  repeat' first
    | (with_reducible exact Frame.refl _ _ _)
    | ((with_reducible refine Frame.put ?_ ?_) <;> [rfl; skip])
    | ((with_reducible refine Frame.putFlag ?_ ?_) <;> [rfl; skip])
    | ((with_reducible refine Frame.putSeti ?_ ?_) <;> [rfl; skip])
    | ((with_reducible refine Frame.puts ?_ ?_) <;> [(simp [among, anyKey]; done); skip])
    | ((with_reducible refine Frame.putsCons ?_ ?_) <;> [rfl; skip])
    | ((with_reducible eapply Frame.via) <;> [(with_reducible first | apply State.applyCount_touches); rfl; exact anyKey_sub; skip])
    | ((with_reducible refine Frame.choose ?_ ?_) <;> intro _)
    | split

theorem State.afterRelease_touches (s : State) : Frame s (State.afterRelease s) [.measures, .rxs, .txq, .txs, .edges, .arcBuf] (among [.COR_GRP_EVT, .COR_GRP_STATUS, .COR_IN_STAT, .IC_ARC_EVT, .IC_ARC_LOST, .IC_LDG, .LK_EVT, .LK_RXS_STAT, .LK_STATUS, .L_COR_RAMP, .L_COR_W0, .L_COR_ZERO, .L_LK_AGAIN, .L_LK_FAULTED, .L_LK_GOOD, .L_LK_HDR, .L_LK_N, .L_LK_SUM_R, .L_LK_SUM_T, .L_LK_TIU, .REEL, .TIU_EVT, .TIU_RSTAT, .TIU_STATUS]) := by
  unfold State.afterRelease
  try dsimp only
  repeat' first
    | (with_reducible exact Frame.refl _ _ _)
    | ((with_reducible eapply Frame.via) <;> [(with_reducible first | apply State.linkStart_touches | apply State.tbClaim_touches | apply State.tiuStart_touches); rfl; exact among_sub rfl; skip])
    | ((with_reducible refine Frame.steps ?_ ?_) <;> [intro _ _; skip])

theorem State.armAnchor_touches (s : State) (st : Nat) : Frame s (State.armAnchor s st) [] (among [.L_TB_ANCHOR_TICK, .TB_EVT, .TB_STATUS]) := by
  unfold State.armAnchor
  try dsimp only
  repeat' first
    | (with_reducible exact Frame.refl _ _ _)
    | ((with_reducible refine Frame.putFlag ?_ ?_) <;> [rfl; skip])
    | ((with_reducible refine Frame.puts ?_ ?_) <;> [(simp [among, anyKey]; done); skip])
    | ((with_reducible refine Frame.putsCons ?_ ?_) <;> [rfl; skip])
    | ((with_reducible refine Frame.choose ?_ ?_) <;> intro _)
    | split

theorem State.epochArm_touches (s : State) (n w : Nat) : Frame s (State.epochArm s n w) [] (among [.L_EPOCH_NEXT, .L_EPOCH_RUN, .TB_EPOCH_OFS, .TB_EVT]) := by
  unfold State.epochArm
  try dsimp only
  repeat' first
    | (with_reducible exact Frame.refl _ _ _)
    | ((with_reducible refine Frame.putFlag ?_ ?_) <;> [rfl; skip])
    | ((with_reducible refine Frame.putClr ?_ ?_) <;> [rfl; skip])
    | ((with_reducible refine Frame.puts ?_ ?_) <;> [(simp [among, anyKey]; done); skip])
    | ((with_reducible refine Frame.putsCons ?_ ?_) <;> [rfl; skip])
    | ((with_reducible refine Frame.choose ?_ ?_) <;> intro _)
    | split

theorem execPllEnable_touches (pf : Fin 4) (s : State) : Frames s (execPllEnable pf s) [.rxs, .txq, .txs, .edges, .arcBuf] anyKey := by
  unfold execPllEnable
  try dsimp only
  refine ⟨_, rfl, ?_⟩
  repeat' first
    | (with_reducible exact Frame.refl _ _ _)
    | ((with_reducible refine Frame.put ?_ ?_) <;> [rfl; skip])
    | ((with_reducible refine Frame.putFlag ?_ ?_) <;> [rfl; skip])
    | ((with_reducible refine Frame.putClr ?_ ?_) <;> [rfl; skip])
    | ((with_reducible refine Frame.puts ?_ ?_) <;> [(simp [among, anyKey]; done); skip])
    | ((with_reducible refine Frame.putsCons ?_ ?_) <;> [rfl; skip])
    | ((with_reducible eapply Frame.via) <;> [(with_reducible first | apply State.standbyEnd_touches | apply State.tbStart_touches); rfl; exact anyKey_sub; skip])
    | ((with_reducible refine Frame.priv ?_ ?_ ?_ ?_) <;> [rfl; rfl; skip; skip])
    | ((with_reducible refine Frame.choose ?_ ?_) <;> intro _)
    | split

theorem execPllDisable_touches (pf : Fin 4) (s : State) : Frames s (execPllDisable pf s) [.measures, .rxs, .txq, .txs, .edges, .arcBuf] anyKey := by
  unfold execPllDisable
  try dsimp only
  refine ⟨_, rfl, ?_⟩
  repeat' first
    | (with_reducible exact Frame.refl _ _ _)
    | ((with_reducible refine Frame.putFlag ?_ ?_) <;> [rfl; skip])
    | ((with_reducible refine Frame.putClr ?_ ?_) <;> [rfl; skip])
    | ((with_reducible eapply Frame.via) <;> [(with_reducible first | apply State.standbyBegin_touches | apply State.tbStop_touches); rfl; exact anyKey_sub; skip])
    | ((with_reducible refine Frame.priv ?_ ?_ ?_ ?_) <;> [rfl; rfl; skip; skip])
    | ((with_reducible refine Frame.choose ?_ ?_) <;> intro _)
    | split

theorem execRefCfgWrite_touches (pf : Fin 4) (v : Nat) (s : State) : Frames s (execRefCfgWrite pf v s) [.posted] (among [.AON_PWR_EVT, .SYS_HIF_EVT]) := by
  unfold execRefCfgWrite
  try dsimp only
  refine ⟨_, rfl, ?_⟩
  repeat' first
    | (with_reducible exact Frame.refl _ _ _)
    | ((with_reducible eapply Frame.via) <;> [(with_reducible first | apply State.postFrame); rfl; exact among_sub rfl; skip])
    | ((with_reducible refine Frame.priv ?_ ?_ ?_ ?_) <;> [rfl; rfl; skip; skip])

theorem execRefLost_touches (h : Nat) (s : State) : Frames s (execRefLost h s) [.edges, .arcBuf] (among [.CH_EVT, .CH_PARK_SRC, .CH_STATUS, .IC_ARC_EVT, .IC_ARC_LOST, .IC_LDG, .L_TB_ENTRY_DUE, .L_TB_EPIN_SEEN, .L_TB_HELD, .L_TB_LOSS_TICK, .L_TB_MEAS_DUE, .L_TB_REACQ, .L_TB_REL_CAUSE, .L_TB_REL_TICK, .L_TB_UNPARK_DUE, .PP_EVT, .PP_PARK_SRC, .REEL, .REF_STATUS, .TB_COAST_HI, .TB_COAST_LO, .TB_DISC, .TB_EVT, .TB_STATUS]) := by
  unfold execRefLost
  try dsimp only
  refine ⟨_, rfl, ?_⟩
  repeat' first
    | (with_reducible exact Frame.refl _ _ _)
    | ((with_reducible refine Frame.putFlag ?_ ?_) <;> [rfl; skip])
    | ((with_reducible refine Frame.putPersist ?_ ?_) <;> [rfl; skip])
    | ((with_reducible refine Frame.puts ?_ ?_) <;> [(simp [among, anyKey]; done); skip])
    | ((with_reducible refine Frame.putsCons ?_ ?_) <;> [rfl; skip])
    | ((with_reducible eapply Frame.via) <;> [(with_reducible first | apply State.coastBegin_touches | apply State.pulseFrame | apply State.raiseFrame | apply State.release_touches | apply State.tbEnter_touches); rfl; exact among_sub rfl; skip])
    | ((with_reducible refine Frame.choose ?_ ?_) <;> intro _)
    | split

theorem execRefBack_touches (s : State) : Frames s (execRefBack s) [.free] (among [.IC_LDG, .L_TB_WANT, .PLL_STATUS, .REF_STATUS, .TB_EVT, .TB_STATUS]) := by
  unfold execRefBack
  try dsimp only
  refine ⟨_, rfl, ?_⟩
  repeat' first
    | (with_reducible exact Frame.refl _ _ _)
    | ((with_reducible refine Frame.putFlag ?_ ?_) <;> [rfl; skip])
    | ((with_reducible refine Frame.putPersist ?_ ?_) <;> [rfl; skip])
    | ((with_reducible refine Frame.puts ?_ ?_) <;> [(simp [among, anyKey]; done); skip])
    | ((with_reducible refine Frame.putsCons ?_ ?_) <;> [rfl; skip])
    | ((with_reducible eapply Frame.via) <;> [(with_reducible first | apply State.freshFrame | apply State.tbStart_touches); rfl; exact among_sub rfl; skip])
    | ((with_reducible refine Frame.choose ?_ ?_) <;> intro _)
    | split

theorem execLockDetect_touches (band : Nat) (s : State) : Frames s (execLockDetect band s) [] (among [.L_TB_HELD, .L_TB_LOAD_OK, .PLL_STATUS, .TB_EVT, .TB_STATUS]) := by
  unfold execLockDetect
  try dsimp only
  refine ⟨_, rfl, ?_⟩
  repeat' first
    | (with_reducible exact Frame.refl _ _ _)
    | ((with_reducible refine Frame.putFlag ?_ ?_) <;> [rfl; skip])
    | ((with_reducible refine Frame.putClr ?_ ?_) <;> [rfl; skip])
    | ((with_reducible refine Frame.puts ?_ ?_) <;> [(simp [among, anyKey]; done); skip])
    | ((with_reducible refine Frame.putsCons ?_ ?_) <;> [rfl; skip])
    | ((with_reducible eapply Frame.via) <;> [(with_reducible first | apply State.loadCheck_touches | apply State.tbEnter_touches); rfl; exact among_sub rfl; skip])
    | split

theorem execPllUnlock_touches (s : State) : Frames s (execPllUnlock s) [.arcBuf] (among [.CH_EVT, .CH_PARK_SRC, .CH_STATUS, .IC_ARC_EVT, .IC_ARC_LOST, .IC_LDG, .L_TB_LOSS_TICK, .L_TB_REACQ, .L_TB_REL_CAUSE, .PLL_STATUS, .PP_EVT, .PP_PARK_SRC, .REEL, .TB_EVT, .TB_STATUS]) := by
  unfold execPllUnlock
  try dsimp only
  refine ⟨_, rfl, ?_⟩
  repeat' first
    | (with_reducible exact Frame.refl _ _ _)
    | ((with_reducible refine Frame.putFlag ?_ ?_) <;> [rfl; skip])
    | ((with_reducible refine Frame.putClr ?_ ?_) <;> [rfl; skip])
    | ((with_reducible eapply Frame.via) <;> [(with_reducible first | apply State.coastBegin_touches | apply State.raiseFrame); rfl; exact among_sub rfl; skip])
    | ((with_reducible refine Frame.choose ?_ ?_) <;> intro _)
    | split

theorem execReacquireStart_touches (s : State) : Frames s (execReacquireStart s) [] (among [.PLL_STATUS, .TB_STATUS]) := by
  unfold execReacquireStart
  try dsimp only
  refine ⟨_, rfl, ?_⟩
  repeat' first
    | (with_reducible exact Frame.refl _ _ _)
    | ((with_reducible refine Frame.putClr ?_ ?_) <;> [rfl; skip])
    | ((with_reducible eapply Frame.via) <;> [(with_reducible first | apply State.tbEnter_touches); rfl; exact among_sub rfl; skip])
    | ((with_reducible refine Frame.choose ?_ ?_) <;> intro _)
    | split

theorem execReacqTimeout_touches (s : State) : Frames s (execReacqTimeout s) [.arcBuf] (among [.IC_ARC_EVT, .IC_ARC_LOST, .IC_LDG, .L_TB_REACQ, .PLL_STATUS]) := by
  unfold execReacqTimeout
  try dsimp only
  refine ⟨_, rfl, ?_⟩
  repeat' first
    | (with_reducible exact Frame.refl _ _ _)
    | ((with_reducible refine Frame.putClr ?_ ?_) <;> [rfl; skip])
    | ((with_reducible refine Frame.putBumpWrap ?_ ?_) <;> [rfl; skip])
    | ((with_reducible eapply Frame.via) <;> [(with_reducible first | apply State.archiveFrame); rfl; exact among_sub rfl; skip])
    | ((with_reducible refine Frame.choose ?_ ?_) <;> intro _)
    | split

theorem execReanchorStop_touches (s : State) : Frames s (execReanchorStop s) [.measures, .rxs, .txq, .txs, .edges, .arcBuf] anyKey := by
  unfold execReanchorStop
  try dsimp only
  refine ⟨_, rfl, ?_⟩
  repeat' first
    | (with_reducible exact Frame.refl _ _ _)
    | ((with_reducible refine Frame.put ?_ ?_) <;> [rfl; skip])
    | ((with_reducible refine Frame.putFlag ?_ ?_) <;> [rfl; skip])
    | ((with_reducible eapply Frame.via) <;> [(with_reducible first | apply State.chPark_touches | apply State.loadCheck_touches | apply State.stopMeasurements_touches | apply State.tbEnter_touches); rfl; exact anyKey_sub; skip])
    | ((with_reducible refine Frame.steps ?_ ?_) <;> [intro _ _; skip])
    | ((with_reducible refine Frame.choose ?_ ?_) <;> intro _)
    | split

theorem execAnchorRelease_touches (d j : Nat) (s : State) : Frames s (execAnchorRelease d j s) [.tick, .ranges, .caps, .measures, .rxs, .txq, .txs, .edges, .arcBuf] anyKey := by
  unfold execAnchorRelease
  try dsimp only
  refine ⟨_, rfl, ?_⟩
  repeat' first
    | (with_reducible exact Frame.refl _ _ _)
    | ((with_reducible refine Frame.put ?_ ?_) <;> [rfl; skip])
    | ((with_reducible refine Frame.putFlag ?_ ?_) <;> [rfl; skip])
    | ((with_reducible refine Frame.putClr ?_ ?_) <;> [rfl; skip])
    | ((with_reducible refine Frame.puts ?_ ?_) <;> [(simp [among, anyKey]; done); skip])
    | ((with_reducible refine Frame.putsCons ?_ ?_) <;> [rfl; skip])
    | ((with_reducible eapply Frame.via) <;> [(with_reducible first | apply State.afterRelease_touches | apply State.alignRelease_touches | apply State.applyLoad_touches | apply State.bootClear_touches | apply State.release_touches | apply State.tbEnter_touches | apply State.tbStop_touches); rfl; exact anyKey_sub; skip])
    | ((with_reducible refine Frame.choose ?_ ?_) <;> intro _)
    | split

theorem execReanchorParkRelease_touches (s : State) : Frames s (execReanchorParkRelease s) [] (among [.CH_EVT, .CH_PARK_SRC, .CH_STATUS, .L_TB_UNPARK_DUE, .PP_EVT, .PP_PARK_SRC]) := by
  unfold execReanchorParkRelease
  try dsimp only
  refine ⟨_, rfl, ?_⟩
  repeat' first
    | (with_reducible exact Frame.refl _ _ _)
    | ((with_reducible refine Frame.putClr ?_ ?_) <;> [rfl; skip])
    | ((with_reducible eapply Frame.via) <;> [(with_reducible first | apply State.chPark_touches | apply State.parkAll_touches); rfl; exact among_sub rfl; skip])
    | ((with_reducible refine Frame.steps ?_ ?_) <;> [intro _ _; skip])
    | ((with_reducible refine Frame.choose ?_ ?_) <;> intro _)
    | split

theorem execAnchorMeasDone_touches (mean : Int) (s : State) : Frames s (execAnchorMeasDone mean s) [.arcBuf] (among [.IC_ARC_EVT, .IC_ARC_LOST, .IC_LDG, .L_TB_ENTRY_DUE, .L_TB_MEAS_DUE, .TB_ANCHOR_RES, .TB_FTRIM]) := by
  unfold execAnchorMeasDone
  try dsimp only
  refine ⟨_, rfl, ?_⟩
  repeat' first
    | (with_reducible exact Frame.refl _ _ _)
    | ((with_reducible refine Frame.putClr ?_ ?_) <;> [rfl; skip])
    | ((with_reducible refine Frame.putSeti ?_ ?_) <;> [rfl; skip])
    | ((with_reducible eapply Frame.via) <;> [(with_reducible first | apply State.relockEntry_touches); rfl; exact among_sub rfl; skip])
    | ((with_reducible refine Frame.choose ?_ ?_) <;> intro _)
    | split

theorem execTbStopDone_touches (s : State) : Frames s (execTbStopDone s) [] (among [.L_STK_SR, .L_TB_WANT, .PLL_STATUS, .TB_EVT, .TB_STATUS]) := by
  unfold execTbStopDone
  try dsimp only
  refine ⟨_, rfl, ?_⟩
  repeat' first
    | (with_reducible exact Frame.refl _ _ _)
    | ((with_reducible refine Frame.puts ?_ ?_) <;> [(simp [among, anyKey]; done); skip])
    | ((with_reducible refine Frame.putsCons ?_ ?_) <;> [rfl; skip])
    | ((with_reducible eapply Frame.via) <;> [(with_reducible first | apply State.tbEnter_touches | apply State.tbStart_touches); rfl; exact among_sub rfl; skip])
    | ((with_reducible refine Frame.choose ?_ ?_) <;> intro _)
    | split

theorem execTbAnchor_touches (pf : Fin 4) (s : State) : Frames s (execTbAnchor pf s) [] (among [.AON_PWR_EVT, .L_TB_ANCHOR_TICK, .SYS_HIF_EVT, .TB_EVT, .TB_STATUS]) := by
  unfold execTbAnchor
  try dsimp only
  refine ⟨_, rfl, ?_⟩
  repeat' first
    | (with_reducible exact Frame.refl _ _ _)
    | ((with_reducible eapply Frame.via) <;> [(with_reducible first | apply State.armAnchor_touches); rfl; exact among_sub rfl; skip])
    | ((with_reducible refine Frame.priv ?_ ?_ ?_ ?_) <;> [rfl; rfl; skip; skip])

theorem execTbRelock_touches (pf : Fin 4) (s : State) : Frames s (execTbRelock pf s) [] (among [.AON_PWR_EVT, .L_TB_ANCHOR_TICK, .SYS_HIF_EVT, .TB_EVT, .TB_STATUS]) := by
  unfold execTbRelock
  try dsimp only
  refine ⟨_, rfl, ?_⟩
  repeat' first
    | (with_reducible exact Frame.refl _ _ _)
    | ((with_reducible eapply Frame.via) <;> [(with_reducible first | apply State.armAnchor_touches); rfl; exact among_sub rfl; skip])
    | ((with_reducible refine Frame.priv ?_ ?_ ?_ ?_) <;> [rfl; rfl; skip; skip])

theorem execLoadArm_touches (pf : Fin 4) (withDisarm : Bool) (s : State) : Frames s (execLoadArm pf withDisarm s) [] (among [.AON_PWR_EVT, .SYS_HIF_EVT, .TB_EVT, .TB_STATUS]) := by
  unfold execLoadArm
  try dsimp only
  refine ⟨_, rfl, ?_⟩
  repeat' first
    | (with_reducible exact Frame.refl _ _ _)
    | ((with_reducible refine Frame.putFlag ?_ ?_) <;> [rfl; skip])
    | ((with_reducible refine Frame.priv ?_ ?_ ?_ ?_) <;> [rfl; rfl; skip; skip])
    | ((with_reducible refine Frame.choose ?_ ?_) <;> intro _)
    | split

theorem execLoadDisarm_touches (pf : Fin 4) (s : State) : Frames s (execLoadDisarm pf s) [] (among [.AON_PWR_EVT, .L_TB_LOAD_OK, .SYS_HIF_EVT, .TB_STATUS]) := by
  unfold execLoadDisarm
  try dsimp only
  refine ⟨_, rfl, ?_⟩
  repeat' first
    | (with_reducible exact Frame.refl _ _ _)
    | ((with_reducible refine Frame.puts ?_ ?_) <;> [(simp [among, anyKey]; done); skip])
    | ((with_reducible refine Frame.putsCons ?_ ?_) <;> [rfl; skip])
    | ((with_reducible refine Frame.priv ?_ ?_ ?_ ?_) <;> [rfl; rfl; skip; skip])

theorem execTodCommit_touches (pf : Fin 4) (s : State) : Frames s (execTodCommit pf s) [.arcBuf] (among [.AON_PWR_EVT, .IC_ARC_EVT, .IC_ARC_LOST, .IC_LDG, .L_TOD_NS, .L_TOD_SEC, .L_TOD_TICK, .L_TOD_VALID, .SYS_HIF_EVT]) := by
  unfold execTodCommit
  try dsimp only
  refine ⟨_, rfl, ?_⟩
  repeat' first
    | (with_reducible exact Frame.refl _ _ _)
    | ((with_reducible refine Frame.puts ?_ ?_) <;> [(simp [among, anyKey]; done); skip])
    | ((with_reducible refine Frame.putsCons ?_ ?_) <;> [rfl; skip])
    | ((with_reducible eapply Frame.via) <;> [(with_reducible first | apply State.archiveFrame); rfl; exact among_sub rfl; skip])
    | ((with_reducible refine Frame.priv ?_ ?_ ?_ ?_) <;> [rfl; rfl; skip; skip])

theorem execEpochCfgWrite_touches (pf : Fin 4) (n : Fin 2) (reg : Fin 4) (v : Nat) (s : State) : Frames s (execEpochCfgWrite pf n reg v s) [] (among [.AON_PWR_EVT, .L_EPOCH_NEXT, .L_EPOCH_OLD, .L_EPOCH_OLD_TICK, .L_EPOCH_OLD_WIDTH, .L_EPOCH_RUN, .SYS_HIF_EVT, .TB_EPOCH_CFG, .TB_EPOCH_OFS, .TB_EPOCH_PER_HI, .TB_EPOCH_PER_LO, .TB_EVT]) := by
  unfold execEpochCfgWrite
  try dsimp only
  refine ⟨_, rfl, ?_⟩
  repeat' first
    | (with_reducible exact Frame.refl _ _ _)
    | ((with_reducible refine Frame.put ?_ ?_) <;> [rfl; skip])
    | ((with_reducible refine Frame.puts ?_ ?_) <;> [(simp [among, anyKey]; done); skip])
    | ((with_reducible refine Frame.putsCons ?_ ?_) <;> [rfl; skip])
    | ((with_reducible eapply Frame.via) <;> [(with_reducible first | apply State.epochArm_touches); rfl; exact among_sub rfl; skip])
    | ((with_reducible refine Frame.priv ?_ ?_ ?_ ?_) <;> [rfl; rfl; skip; skip])
    | (with_reducible refine Frame.step ?_ ?_)
    | split

theorem execEpochPulse_touches (n : Fin 2) (s : State) : Frames s (execEpochPulse n s) [.edges, .out] (among [.L_EPOCH_NEXT, .L_EPOCH_OLD]) := by
  unfold execEpochPulse
  try dsimp only
  refine ⟨_, rfl, ?_⟩
  repeat' first
    | (with_reducible exact Frame.refl _ _ _)
    | ((with_reducible refine Frame.put ?_ ?_) <;> [rfl; skip])
    | ((with_reducible refine Frame.putClr ?_ ?_) <;> [rfl; skip])
    | ((with_reducible eapply Frame.via) <;> [(with_reducible first | apply State.emitFrame | apply State.pulseFrame); rfl; exact among_sub rfl; skip])
    | ((with_reducible refine Frame.choose ?_ ?_) <;> intro _)
    | split

theorem execEpochInEdge_touches (s : State) : Frames s (execEpochInEdge s) [.edges] (among [.L_TB_EPIN_SEEN, .TB_EPIN_STAMP_HI, .TB_EPIN_STAMP_LO, .TB_STATUS]) := by
  unfold execEpochInEdge
  try dsimp only
  refine ⟨_, rfl, ?_⟩
  repeat' first
    | (with_reducible exact Frame.refl _ _ _)
    | ((with_reducible refine Frame.put ?_ ?_) <;> [rfl; skip])
    | ((with_reducible refine Frame.putFlag ?_ ?_) <;> [rfl; skip])
    | ((with_reducible refine Frame.put2 ?_ ?_ ?_) <;> [rfl; rfl; skip])
    | ((with_reducible eapply Frame.via) <;> [(with_reducible first | apply State.pulseFrame); rfl; exact among_sub rfl; skip])
    | (with_reducible refine Frame.step ?_ ?_)
    | ((with_reducible refine Frame.choose ?_ ?_) <;> intro _)
    | split

theorem execSysrefCfgWrite_touches (pf : Fin 4) (n : Fin 8) (reg : Fin 3) (v : Nat) (s : State) : Frames s (execSysrefCfgWrite pf n reg v s) [] (among [.AON_PWR_EVT, .L_SYSREF_LEFT, .L_SYSREF_NEXT, .L_SYSREF_RUN, .SYS_HIF_EVT, .TB_EVT, .TB_SYSREF_CFG, .TB_SYSREF_OFS, .TB_SYSREF_PER]) := by
  unfold execSysrefCfgWrite
  try dsimp only
  refine ⟨_, rfl, ?_⟩
  repeat' first
    | (with_reducible exact Frame.refl _ _ _)
    | ((with_reducible refine Frame.put ?_ ?_) <;> [rfl; skip])
    | ((with_reducible refine Frame.putFlag ?_ ?_) <;> [rfl; skip])
    | ((with_reducible refine Frame.putClr ?_ ?_) <;> [rfl; skip])
    | ((with_reducible refine Frame.puts ?_ ?_) <;> [(simp [among, anyKey]; done); skip])
    | ((with_reducible refine Frame.putsCons ?_ ?_) <;> [rfl; skip])
    | ((with_reducible refine Frame.priv ?_ ?_ ?_ ?_) <;> [rfl; rfl; skip; skip])
    | ((with_reducible refine Frame.choose ?_ ?_) <;> intro _)
    | split

theorem execSysrefPulse_touches (n : Fin 8) (s : State) : Frames s (execSysrefPulse n s) [.out] (among [.L_SYSREF_LEFT, .L_SYSREF_NEXT]) := by
  unfold execSysrefPulse
  try dsimp only
  refine ⟨_, rfl, ?_⟩
  repeat' first
    | (with_reducible exact Frame.refl _ _ _)
    | ((with_reducible refine Frame.put ?_ ?_) <;> [rfl; skip])
    | ((with_reducible eapply Frame.via) <;> [(with_reducible first | apply State.emitFrame); rfl; exact among_sub rfl; skip])
    | (with_reducible refine Frame.step ?_ ?_)
    | ((with_reducible refine Frame.choose ?_ ?_) <;> intro _)
    | split

theorem execSysrefBurst_touches (n : Fin 8) (s : State) : Frames s (execSysrefBurst n s) [.triggers] (among [.L_SYSREF_LEFT, .L_SYSREF_NEXT, .TB_SYSREF_CFG, .TB_SYSREF_OFS, .TB_SYSREF_PER]) := by
  unfold execSysrefBurst
  try dsimp only
  refine ⟨_, rfl, ?_⟩
  repeat' first
    | (with_reducible exact Frame.refl _ _ _)
    | ((with_reducible refine Frame.puts ?_ ?_) <;> [(simp [among, anyKey]; done); skip])
    | ((with_reducible refine Frame.putsCons ?_ ?_) <;> [rfl; skip])
    | ((with_reducible refine Frame.onTask ?_ ?_ ?_) <;> [rfl; intro _ _; skip])
    | ((with_reducible refine Frame.choose ?_ ?_) <;> intro _)
    | split

theorem execCcFault_touches (t : Fin 8) (s : State) : Frames s (execCcFault t s) [.edges, .arcBuf] (among [.CAL_STATUS, .COR_GRP_EVT, .COR_GRP_STATUS, .IC_ARC_EVT, .IC_ARC_LOST, .IC_LDG, .L_CC_HALTED, .L_COR_RAMP, .L_COR_W0, .L_COR_ZERO, .REEL]) := by
  unfold execCcFault
  try dsimp only
  refine ⟨_, rfl, ?_⟩
  repeat' first
    | (with_reducible exact Frame.refl _ _ _)
    | ((with_reducible refine Frame.putFlag ?_ ?_) <;> [rfl; skip])
    | ((with_reducible refine Frame.putPersist ?_ ?_) <;> [rfl; skip])
    | ((with_reducible eapply Frame.via) <;> [(with_reducible first | apply State.corAbort_touches | apply State.raiseFrame); rfl; exact among_sub rfl; skip])
    | ((with_reducible refine Frame.steps ?_ ?_) <;> [intro _ _; skip])

end Sys2Proof.Machine
end

