-- ==== Sys2Proof/Laws/FramesReset.lean ====
section
/-!
SUPPORT. The frames of the operations of Machine/Reset.lean: the parts and registers each may change.
-/
set_option linter.unusedTactic false
set_option linter.unreachableTactic false
set_option linter.unusedVariables false
set_option linter.unusedSimpArgs false
namespace Sys2Proof.Machine

theorem State.keepOnly_touches (s : State) (keep : Key → Bool) : Frame s (State.keepOnly s keep) [.tick, .mem, .sp, .loans, .engines, .events, .heads, .ranges, .caps, .measures, .tables, .lines, .factory, .ovrRows, .deltas, .calSets, .calPends, .rxs, .txq, .txs, .bootRx, .ownerKey, .idKey, .vendorKey, .dmaDone, .badBursts, .offers, .cards, .badCards, .edges, .pulses, .triggers, .alignDue, .arcBuf, .posted, .out, .pending, .free] anyKey :=
  ⟨fun x hx => by cases x <;> first | rfl | exact absurd (by decide) hx, fun k hk => by simp at hk⟩

theorem State.resetMain_touches (s : State) : Frame s (State.resetMain s) [.tick, .mem, .sp, .loans, .engines, .events, .heads, .ranges, .caps, .measures, .tables, .lines, .factory, .ovrRows, .deltas, .calSets, .calPends, .rxs, .txq, .txs, .bootRx, .ownerKey, .idKey, .vendorKey, .dmaDone, .badBursts, .offers, .cards, .badCards, .edges, .pulses, .triggers, .alignDue, .arcBuf, .posted, .out, .pending, .free] anyKey := by
  unfold State.resetMain
  try dsimp only
  repeat' first
    | (with_reducible exact Frame.refl _ _ _)
    | ((with_reducible refine Frame.puts ?_ ?_) <;> [(simp [among, anyKey]; done); skip])
    | ((with_reducible refine Frame.putsCons ?_ ?_) <;> [rfl; skip])
    | ((with_reducible eapply Frame.via) <;> [(with_reducible first | apply State.keepOnly_touches); rfl; exact anyKey_sub; skip])

theorem State.wearShow_touches (s : State) (d : Nat) : Frame s (State.wearShow s d) [] (among [.SYS_WEAR, .SYS_WEAR_USED]) := by
  unfold State.wearShow
  try dsimp only
  repeat' first
    | (with_reducible exact Frame.refl _ _ _)
    | ((with_reducible refine Frame.put ?_ ?_) <;> [rfl; skip])
    | ((with_reducible refine Frame.steps ?_ ?_) <;> [intro _ _; skip])

theorem State.wearCommit_touches (s : State) : Frame s (State.wearCommit s) [] (among [.L_WEAR_AGE, .L_WEAR_C]) := by
  unfold State.wearCommit
  try dsimp only
  repeat' first
    | (with_reducible exact Frame.refl _ _ _)
    | ((with_reducible refine Frame.put ?_ ?_) <;> [rfl; skip])
    | ((with_reducible refine Frame.putClr ?_ ?_) <;> [rfl; skip])
    | ((with_reducible refine Frame.steps ?_ ?_) <;> [intro _ _; skip])

theorem execSysReset_touches (pf : Fin 4) (key : Fin 65536) (s : State) : Frames s (execSysReset pf key s) [.tick, .mem, .sp, .loans, .engines, .events, .heads, .ranges, .caps, .measures, .tables, .lines, .factory, .ovrRows, .deltas, .calSets, .calPends, .rxs, .txq, .txs, .bootRx, .ownerKey, .idKey, .vendorKey, .dmaDone, .badBursts, .offers, .cards, .badCards, .edges, .pulses, .triggers, .alignDue, .arcBuf, .posted, .out, .pending, .free] anyKey := by
  unfold execSysReset
  try dsimp only
  refine ⟨_, rfl, ?_⟩
  repeat' first
    | (with_reducible exact Frame.refl _ _ _)
    | ((with_reducible refine Frame.putFlag ?_ ?_) <;> [rfl; skip])
    | ((with_reducible eapply Frame.via) <;> [(with_reducible first | apply State.resetMain_touches); rfl; exact anyKey_sub; skip])
    | ((with_reducible refine Frame.choose ?_ ?_) <;> intro _)
    | split

theorem execAonPowerOn_touches (s : State) : Frames s (execAonPowerOn s) [.tick, .mem, .sp, .loans, .engines, .events, .heads, .ranges, .caps, .measures, .tables, .lines, .factory, .ovrRows, .deltas, .calSets, .calPends, .rxs, .txq, .txs, .bootRx, .ownerKey, .idKey, .vendorKey, .dmaDone, .badBursts, .offers, .cards, .badCards, .edges, .pulses, .triggers, .alignDue, .arcBuf, .posted, .out, .pending, .free] anyKey := by
  unfold execAonPowerOn
  try dsimp only
  refine ⟨_, rfl, ?_⟩
  repeat' first
    | (with_reducible exact Frame.refl _ _ _)
    | ((with_reducible refine Frame.put ?_ ?_) <;> [rfl; skip])
    | ((with_reducible eapply Frame.via) <;> [(with_reducible first | apply State.keepOnly_touches | apply State.wearShow_touches); rfl; exact anyKey_sub; skip])
    | ((with_reducible refine Frame.steps ?_ ?_) <;> [intro _ _; skip])

end Sys2Proof.Machine
end

