-- ==== Sys2Proof/Laws/FramesPower.lean ====
section
/-!
SUPPORT. The frames of the operations of Machine/Power.lean: the parts and registers each may change.
-/
set_option linter.unusedTactic false
set_option linter.unreachableTactic false
set_option linter.unusedVariables false
set_option linter.unusedSimpArgs false
namespace Sys2Proof.Machine

theorem State.pwrResult_touches (s : State) (n : Nat) : Frame s (State.pwrResult s n) [] (among [.SYS_PWR_STATUS]) := by
  unfold State.pwrResult
  try dsimp only
  repeat' first
    | (with_reducible exact Frame.refl _ _ _)
    | ((with_reducible refine Frame.put ?_ ?_) <;> [rfl; skip])

theorem State.toStandby_touches (s : State) : Frame s (State.toStandby s) [.measures, .rxs, .txq, .txs, .edges, .arcBuf] anyKey := by
  unfold State.toStandby
  try dsimp only
  repeat' first
    | (with_reducible exact Frame.refl _ _ _)
    | ((with_reducible refine Frame.putClr ?_ ?_) <;> [rfl; skip])
    | ((with_reducible eapply Frame.via) <;> [(with_reducible first | apply State.standbyBegin_touches | apply State.tbStop_touches); rfl; exact anyKey_sub; skip])

theorem State.pwrApply_touches (s : State) (c : Nat) : Frame s (State.pwrApply s c) [.measures, .rxs, .txq, .txs, .edges, .arcBuf] anyKey := by
  unfold State.pwrApply
  try dsimp only
  repeat' first
    | (with_reducible exact Frame.refl _ _ _)
    | ((with_reducible refine Frame.putFlag ?_ ?_) <;> [rfl; skip])
    | ((with_reducible refine Frame.puts ?_ ?_) <;> [(simp [among, anyKey]; done); skip])
    | ((with_reducible refine Frame.putsCons ?_ ?_) <;> [rfl; skip])
    | ((with_reducible eapply Frame.via) <;> [(with_reducible first | apply State.pwrResult_touches | apply State.standbyEnd_touches | apply State.tbStart_touches | apply State.toStandby_touches); rfl; exact anyKey_sub; skip])
    | ((with_reducible refine Frame.choose ?_ ?_) <;> intro _)
    | split

theorem State.pwrCommand_touches (s : State) (c : Nat) : Frame s (State.pwrCommand s c) [.measures, .rxs, .txq, .txs, .edges, .arcBuf] anyKey := by
  unfold State.pwrCommand
  try dsimp only
  repeat' first
    | (with_reducible exact Frame.refl _ _ _)
    | ((with_reducible refine Frame.puts ?_ ?_) <;> [(simp [among, anyKey]; done); skip])
    | ((with_reducible refine Frame.putsCons ?_ ?_) <;> [rfl; skip])
    | ((with_reducible eapply Frame.via) <;> [(with_reducible first | apply State.pwrApply_touches); rfl; exact anyKey_sub; skip])
    | ((with_reducible refine Frame.choose ?_ ?_) <;> intro _)
    | split

theorem State.pwrNext_touches (s : State) : Frame s (State.pwrNext s) [.measures, .rxs, .txq, .txs, .edges, .arcBuf] anyKey := by
  unfold State.pwrNext
  try dsimp only
  repeat' first
    | (with_reducible exact Frame.refl _ _ _)
    | ((with_reducible refine Frame.puts ?_ ?_) <;> [(simp [among, anyKey]; done); skip])
    | ((with_reducible refine Frame.putsCons ?_ ?_) <;> [rfl; skip])
    | ((with_reducible eapply Frame.via) <;> [(with_reducible first | apply State.pwrApply_touches); rfl; exact anyKey_sub; skip])
    | (with_reducible refine Frame.step ?_ ?_)

theorem execStandby_touches (pf : Fin 4) (s : State) : Frames s (execStandby pf s) [.measures, .rxs, .txq, .txs, .edges, .arcBuf] anyKey := by
  unfold execStandby
  try dsimp only
  refine ⟨_, rfl, ?_⟩
  repeat' first
    | (with_reducible exact Frame.refl _ _ _)
    | ((with_reducible eapply Frame.via) <;> [(with_reducible first | apply State.pwrCommand_touches); rfl; exact anyKey_sub; skip])
    | ((with_reducible refine Frame.priv ?_ ?_ ?_ ?_) <;> [rfl; rfl; skip; skip])

theorem execPwrResume_touches (pf : Fin 4) (s : State) : Frames s (execPwrResume pf s) [.measures, .rxs, .txq, .txs, .edges, .arcBuf] anyKey := by
  unfold execPwrResume
  try dsimp only
  refine ⟨_, rfl, ?_⟩
  repeat' first
    | (with_reducible exact Frame.refl _ _ _)
    | ((with_reducible eapply Frame.via) <;> [(with_reducible first | apply State.pwrCommand_touches); rfl; exact anyKey_sub; skip])
    | ((with_reducible refine Frame.priv ?_ ?_ ?_ ?_) <;> [rfl; rfl; skip; skip])

theorem execSleep_touches (pf : Fin 4) (s : State) : Frames s (execSleep pf s) [.measures, .rxs, .txq, .txs, .edges, .arcBuf] anyKey := by
  unfold execSleep
  try dsimp only
  refine ⟨_, rfl, ?_⟩
  repeat' first
    | (with_reducible exact Frame.refl _ _ _)
    | ((with_reducible eapply Frame.via) <;> [(with_reducible first | apply State.pwrCommand_touches); rfl; exact anyKey_sub; skip])
    | ((with_reducible refine Frame.priv ?_ ?_ ?_ ?_) <;> [rfl; rfl; skip; skip])

theorem execWake_touches (pf : Fin 4) (s : State) : Frames s (execWake pf s) [.measures, .rxs, .txq, .txs, .edges, .arcBuf] anyKey := by
  unfold execWake
  try dsimp only
  refine ⟨_, rfl, ?_⟩
  repeat' first
    | (with_reducible exact Frame.refl _ _ _)
    | ((with_reducible eapply Frame.via) <;> [(with_reducible first | apply State.pwrCommand_touches); rfl; exact anyKey_sub; skip])
    | ((with_reducible refine Frame.privAon ?_ ?_ ?_) <;> [rfl; skip; skip])

theorem execPowerTransitionDone_touches (s : State) : Frames s (execPowerTransitionDone s) [.measures, .rxs, .txq, .txs, .edges, .arcBuf] anyKey := by
  unfold execPowerTransitionDone
  try dsimp only
  refine ⟨_, rfl, ?_⟩
  repeat' first
    | (with_reducible exact Frame.refl _ _ _)
    | ((with_reducible refine Frame.putFlag ?_ ?_) <;> [rfl; skip])
    | ((with_reducible refine Frame.putClr ?_ ?_) <;> [rfl; skip])
    | ((with_reducible refine Frame.puts ?_ ?_) <;> [(simp [among, anyKey]; done); skip])
    | ((with_reducible refine Frame.putsCons ?_ ?_) <;> [rfl; skip])
    | ((with_reducible eapply Frame.via) <;> [(with_reducible first | apply State.deliverWake_touches | apply State.pwrApply_touches | apply State.pwrNext_touches | apply State.standbyEnd_touches | apply State.wearCommit_touches); rfl; exact anyKey_sub; skip])
    | (with_reducible refine Frame.step ?_ ?_)
    | ((with_reducible refine Frame.steps ?_ ?_) <;> [intro _ _; skip])
    | ((with_reducible refine Frame.choose ?_ ?_) <;> intro _)
    | split

theorem execRunIdleChange_touches (s : State) : Frames s (execRunIdleChange s) [.measures, .rxs, .txq, .txs, .edges, .arcBuf] anyKey := by
  unfold execRunIdleChange
  try dsimp only
  refine ⟨_, rfl, ?_⟩
  repeat' first
    | (with_reducible exact Frame.refl _ _ _)
    | ((with_reducible refine Frame.put ?_ ?_) <;> [rfl; skip])
    | ((with_reducible refine Frame.putClr ?_ ?_) <;> [rfl; skip])
    | ((with_reducible eapply Frame.via) <;> [(with_reducible first | apply State.toStandby_touches); rfl; exact anyKey_sub; skip])
    | ((with_reducible refine Frame.choose ?_ ?_) <;> intro _)
    | split

theorem execMainRailPgLoss_touches (rail : Fin 11) (lost : Bool) (s : State) : Frames s (execMainRailPgLoss rail lost s) [.tick, .mem, .sp, .loans, .engines, .events, .heads, .ranges, .caps, .measures, .tables, .lines, .factory, .ovrRows, .deltas, .calSets, .calPends, .rxs, .txq, .txs, .bootRx, .ownerKey, .idKey, .vendorKey, .dmaDone, .badBursts, .offers, .cards, .badCards, .edges, .pulses, .triggers, .alignDue, .arcBuf, .posted, .out, .pending, .free] anyKey := by
  unfold execMainRailPgLoss
  try dsimp only
  refine ⟨_, rfl, ?_⟩
  repeat' first
    | (with_reducible exact Frame.refl _ _ _)
    | ((with_reducible refine Frame.putClr ?_ ?_) <;> [rfl; skip])
    | ((with_reducible refine Frame.puts ?_ ?_) <;> [(simp [among, anyKey]; done); skip])
    | ((with_reducible refine Frame.putsCons ?_ ?_) <;> [rfl; skip])
    | ((with_reducible eapply Frame.via) <;> [(with_reducible first | apply State.resetMain_touches); rfl; exact anyKey_sub; skip])
    | ((with_reducible refine Frame.forget ?_ ?_) <;> [exact fun _ _ => rfl; skip])
    | (with_reducible refine Frame.step ?_ ?_)
    | ((with_reducible refine Frame.choose ?_ ?_) <;> intro _)
    | split

theorem execSupplyUv_touches (rail : Fin 11) (low : Bool) (s : State) : Frames s (execSupplyUv rail low s) [.arcBuf, .free] (among [.IC_ARC_EVT, .IC_ARC_LOST, .IC_LDG, .SYS_RAIL]) := by
  unfold execSupplyUv
  try dsimp only
  refine ⟨_, rfl, ?_⟩
  repeat' first
    | (with_reducible exact Frame.refl _ _ _)
    | ((with_reducible refine Frame.put ?_ ?_) <;> [rfl; skip])
    | ((with_reducible eapply Frame.via) <;> [(with_reducible first | apply State.freshFrame | apply State.raiseFrame | apply State.uvPersist_touches); rfl; exact among_sub rfl; skip])
    | ((with_reducible refine Frame.choose ?_ ?_) <;> intro _)
    | split

end Sys2Proof.Machine
end

