-- ==== Sys2Proof/Laws/FramesCalibration.lean ====
section
/-!
SUPPORT. The frames of the operations of Machine/Calibration.lean: the parts and registers each may change.
-/
set_option linter.unusedTactic false
set_option linter.unreachableTactic false
set_option linter.unusedVariables false
set_option linter.unusedSimpArgs false
namespace Sys2Proof.Machine

theorem State.putDelta_touches (s : State) (d : CalDelta) : Frame s (State.putDelta s d) [.deltas] (among []) := by
  unfold State.putDelta
  try dsimp only
  repeat' first
    | (with_reducible exact Frame.refl _ _ _)
    | (fail_if_no_progress ((with_reducible refine Frame.on_deltas ?_ ?_) <;> [rfl; skip]))

theorem State.takeResult_touches (s : State) (n range kind : Nat) (vals : List Int) (p : Nat) : Frame s (State.takeResult s n range kind vals p) [.deltas, .arcBuf] (among [.CAL_EVT, .IC_ARC_EVT, .IC_ARC_LOST, .IC_LDG, .L_CAL_RAISED]) := by
  unfold State.takeResult
  try dsimp only
  repeat' first
    | (with_reducible exact Frame.refl _ _ _)
    | ((with_reducible refine Frame.putFlag ?_ ?_) <;> [rfl; skip])
    | ((with_reducible eapply Frame.via) <;> [(with_reducible first | apply State.calEntry_touches | apply State.calFault_touches | apply State.putDelta_touches); rfl; exact among_sub rfl; skip])
    | ((with_reducible refine Frame.choose ?_ ?_) <;> intro _)
    | split

theorem Frame.decide_ {s a : State} {ps : List Part} {p : Key → Bool} {n : Nat} {m : Bool} {d : Nat} {f : State → State} (hp : ps.contains .arcBuf = true)
    (hk : ∀ k, (among [.CAL_CH_STATUS, .CAL_EVT, .CAL_PEND_TAG, .IC_ARC_EVT, .IC_ARC_LOST, .IC_LDG]) k = true → p k = true) (h : Frame a (f a) ps p) (g : Frame s a ps p) : Frame s (a.decide_ n m d f) ps p := by
  unfold State.decide_
  dsimp only
  split
  · exact g.put (hk _ rfl)
  · have hc : ∀ (b : State) (x y z w v : Nat) (c : Bool), Frame b (b.calEntry x y z w v c) ps p := fun b x y z w v c =>
      (State.calEntry_touches b x y z w v c).mono (fun x hx => by simp at hx; subst hx; simpa using hp) (fun k e => hk k (among_sub rfl k e))
    have hq : ∀ (b : State) (x : Nat), Frame b (b.pendStatus x) ps p := fun b x => (State.pendStatus_touches b x).mono (by simp) (fun k e => hk k (among_sub rfl k e))
    exact ((g.trans h).trans (hc _ _ _ _ _ _ _)).trans (hq _ _)

theorem State.dropWaiting_touches (s : State) (n : Nat) : Frame s (State.dropWaiting s n) [.calPends] (among []) := by
  unfold State.dropWaiting
  try dsimp only
  repeat' first
    | (with_reducible exact Frame.refl _ _ _)
    | (fail_if_no_progress ((with_reducible refine Frame.on_calPends ?_ ?_) <;> [rfl; skip]))

theorem State.calRefuse_touches (s : State) (res : Nat) : Frame s (State.calRefuse s res) [] (among [.CAL_EVT, .CAL_STATUS]) := by
  unfold State.calRefuse
  try dsimp only
  repeat' first
    | (with_reducible exact Frame.refl _ _ _)
    | ((with_reducible refine Frame.put ?_ ?_) <;> [rfl; skip])
    | ((with_reducible refine Frame.putFlag ?_ ?_) <;> [rfl; skip])

theorem State.calRunEnd_touches (s : State) : Frame s (State.calRunEnd s) [] (among [.CAL_CH_STATUS, .CAL_STATUS, .L_CAL_RUN]) := by
  unfold State.calRunEnd
  try dsimp only
  repeat' first
    | (with_reducible exact Frame.refl _ _ _)
    | ((with_reducible refine Frame.puts ?_ ?_) <;> [(simp [among, anyKey]; done); skip])
    | ((with_reducible refine Frame.putsCons ?_ ?_) <;> [rfl; skip])

theorem State.acceptOverride_touches (s : State) (rec : OvrRecord) : Frame s (State.acceptOverride s rec) [.ovrRows, .deltas] (among [.CAL_OVR_CNT, .L_M_OVR, .L_OVR_CNT]) := by
  unfold State.acceptOverride
  try dsimp only
  repeat' first
    | (with_reducible exact Frame.refl _ _ _)
    | ((with_reducible refine Frame.puts ?_ ?_) <;> [(simp [among, anyKey]; done); skip])
    | ((with_reducible refine Frame.putsCons ?_ ?_) <;> [rfl; skip])
    | (fail_if_no_progress ((with_reducible refine Frame.on_ovrRows_deltas ?_ ?_ ?_) <;> [rfl; rfl; skip]))
    | (fail_if_no_progress ((with_reducible refine Frame.on_ovrRows ?_ ?_) <;> [rfl; skip]))
    | (fail_if_no_progress ((with_reducible refine Frame.on_deltas ?_ ?_) <;> [rfl; skip]))
    | ((with_reducible refine Frame.choose ?_ ?_) <;> intro _)
    | split

theorem State.overrideLoaded_touches (s : State) (rec : OvrRecord) : Frame s (State.overrideLoaded s rec) [.ovrRows, .deltas, .calPends, .arcBuf] (among [.CAL_CH_STATUS, .CAL_EVT, .CAL_OVR_CNT, .CAL_PEND_TAG, .CAL_STATUS, .IC_ARC_EVT, .IC_ARC_LOST, .IC_LDG, .L_CAL_HELD, .L_M_OVR, .L_OVR_CNT]) := by
  unfold State.overrideLoaded
  try dsimp only
  repeat' first
    | (with_reducible exact Frame.refl _ _ _)
    | ((with_reducible refine Frame.put ?_ ?_) <;> [rfl; skip])
    | ((with_reducible refine Frame.putFlag ?_ ?_) <;> [rfl; skip])
    | ((with_reducible eapply Frame.via) <;> [(with_reducible first | apply State.acceptOverride_touches | apply State.calEntry_touches | apply State.calRefuse_touches | apply State.pendSet_touches); rfl; exact among_sub rfl; skip])
    | ((with_reducible refine Frame.steps ?_ ?_) <;> [intro _ _; skip])
    | ((with_reducible refine Frame.choose ?_ ?_) <;> intro _)
    | split

theorem State.takeFactory_touches (s : State) (f : CalRecord) : Frame s (State.takeFactory s f) [.factory, .calPends] (among [.CAL_CH_STATUS, .CAL_EVT, .CAL_PEND_TAG, .CAL_REC_ID, .CAL_STATUS, .CAL_TJ, .L_CAL_HELD, .L_CAL_T_LAST, .PP_DLY_ZERO, .TB_ANCHOR_TGT]) := by
  unfold State.takeFactory
  try dsimp only
  repeat' first
    | (with_reducible exact Frame.refl _ _ _)
    | ((with_reducible refine Frame.put ?_ ?_) <;> [rfl; skip])
    | ((with_reducible refine Frame.putSeti ?_ ?_) <;> [rfl; skip])
    | ((with_reducible refine Frame.puts ?_ ?_) <;> [(simp [among, anyKey]; done); skip])
    | ((with_reducible refine Frame.putsCons ?_ ?_) <;> [rfl; skip])
    | ((with_reducible eapply Frame.via) <;> [(with_reducible first | apply State.calTemperature_touches); rfl; exact among_sub rfl; skip])
    | ((with_reducible refine Frame.steps ?_ ?_) <;> [intro _ _; skip])
    | (fail_if_no_progress ((with_reducible refine Frame.on_factory ?_ ?_) <;> [rfl; skip]))

theorem State.loadFactory_touches (s : State) (f : Option CalRecord) : Frame s (State.loadFactory s f) [.factory, .calPends, .arcBuf] (among [.CAL_CH_STATUS, .CAL_EVT, .CAL_PEND_TAG, .CAL_REC_ID, .CAL_STATUS, .CAL_TJ, .IC_ARC_EVT, .IC_ARC_LOST, .IC_LDG, .L_CAL_HELD, .L_CAL_RAISED, .L_CAL_T_LAST, .PP_DLY_ZERO, .TB_ANCHOR_TGT]) := by
  unfold State.loadFactory
  try dsimp only
  repeat' first
    | (with_reducible exact Frame.refl _ _ _)
    | ((with_reducible refine Frame.putFlag ?_ ?_) <;> [rfl; skip])
    | ((with_reducible eapply Frame.via) <;> [(with_reducible first | apply State.calFault_touches | apply State.takeFactory_touches); rfl; exact among_sub rfl; skip])
    | ((with_reducible refine Frame.choose ?_ ?_) <;> intro _)
    | split

theorem execRcalCheck_touches (mohm : Nat) (s : State) : Frames s (execRcalCheck mohm s) [.arcBuf] (among [.CAL_RCAL, .CAL_STATUS, .IC_ARC_EVT, .IC_ARC_LOST, .IC_LDG, .L_CAL_RAISED]) := by
  unfold execRcalCheck
  try dsimp only
  refine ⟨_, rfl, ?_⟩
  repeat' first
    | (with_reducible exact Frame.refl _ _ _)
    | ((with_reducible refine Frame.put ?_ ?_) <;> [rfl; skip])
    | ((with_reducible eapply Frame.via) <;> [(with_reducible first | apply State.calFault_touches); rfl; exact among_sub rfl; skip])
    | (with_reducible refine Frame.step ?_ ?_)

theorem execCalMeasComplete_touches (n : Fin 32) (kind : Fin 3) (delta : Int) (p res : Nat) (s : State) : Frames s (execCalMeasComplete n kind delta p res s) [.deltas, .calPends, .arcBuf] (among [.CAL_CH_STATUS, .CAL_EVT, .CAL_LOAD, .CAL_PEND_TAG, .IC_ARC_EVT, .IC_ARC_LOST, .IC_LDG, .L_CAL_HELD, .L_CAL_RAISED, .L_CAL_SRES, .L_CAL_VRES]) := by
  unfold execCalMeasComplete
  try dsimp only
  refine ⟨_, rfl, ?_⟩
  repeat' first
    | (with_reducible exact Frame.refl _ _ _)
    | ((with_reducible refine Frame.put ?_ ?_) <;> [rfl; skip])
    | ((with_reducible refine Frame.putClr ?_ ?_) <;> [rfl; skip])
    | ((with_reducible eapply Frame.via) <;> [(with_reducible first | apply State.retarget_touches | apply State.takeResult_touches); rfl; exact among_sub rfl; skip])
    | ((with_reducible refine Frame.choose ?_ ?_) <;> intro _)
    | split

theorem execCalMeasTimeout_touches (n : Fin 32) (s : State) : Frames s (execCalMeasTimeout n s) [] (among [.CAL_CH_STATUS]) := by
  unfold execCalMeasTimeout
  try dsimp only
  refine ⟨_, rfl, ?_⟩
  repeat' first
    | (with_reducible exact Frame.refl _ _ _)
    | ((with_reducible refine Frame.putFlag ?_ ?_) <;> [rfl; skip])
    | ((with_reducible refine Frame.putBump ?_ ?_) <;> [rfl; skip])
    | ((with_reducible refine Frame.choose ?_ ?_) <;> intro _)
    | split

theorem execCalLoadExtrap_touches (n : Fin 32) (p : Nat) (s : State) : Frames s (execCalLoadExtrap n p s) [.calPends] (among [.CAL_CH_STATUS, .CAL_EVT, .CAL_LOAD, .CAL_PEND_TAG, .L_CAL_HELD]) := by
  unfold execCalLoadExtrap
  try dsimp only
  refine ⟨_, rfl, ?_⟩
  repeat' first
    | (with_reducible exact Frame.refl _ _ _)
    | ((with_reducible refine Frame.put ?_ ?_) <;> [rfl; skip])
    | ((with_reducible eapply Frame.via) <;> [(with_reducible first | apply State.pendSet_touches); rfl; exact among_sub rfl; skip])
    | ((with_reducible refine Frame.choose ?_ ?_) <;> intro _)
    | split

theorem execCalAccept_touches (n : Fin 32) (multi : Bool) (s : State) : Frames s (execCalAccept n multi s) [.calPends, .arcBuf] (among [.AON_PWR_EVT, .CAL_CH_STATUS, .CAL_EVT, .CAL_PEND_TAG, .IC_ARC_EVT, .IC_ARC_LOST, .IC_LDG]) := by
  unfold execCalAccept
  try dsimp only
  refine ⟨_, rfl, ?_⟩
  repeat' first
    | (with_reducible exact Frame.refl _ _ _)
    | ((with_reducible refine Frame.decide_ ?_ ?_ ?_ ?_) <;> [rfl; (first | exact among_sub rfl | exact anyKey_sub); skip; skip])
    | ((with_reducible refine Frame.host ?_ ?_ ?_) <;> [rfl; skip; skip])
    | (fail_if_no_progress ((with_reducible refine Frame.on_calPends ?_ ?_) <;> [rfl; skip]))
    | ((with_reducible refine Frame.choose ?_ ?_) <;> intro _)
    | split

theorem execCalRemeasure_touches (n : Fin 32) (multi : Bool) (s : State) : Frames s (execCalRemeasure n multi s) [.calPends, .arcBuf] (among [.AON_PWR_EVT, .CAL_CH_STATUS, .CAL_EVT, .CAL_PEND_TAG, .IC_ARC_EVT, .IC_ARC_LOST, .IC_LDG]) := by
  unfold execCalRemeasure
  try dsimp only
  refine ⟨_, rfl, ?_⟩
  repeat' first
    | (with_reducible exact Frame.refl _ _ _)
    | ((with_reducible refine Frame.putFlag ?_ ?_) <;> [rfl; skip])
    | ((with_reducible eapply Frame.via) <;> [(with_reducible first | apply State.dropWaiting_touches); rfl; exact among_sub rfl; skip])
    | ((with_reducible refine Frame.decide_ ?_ ?_ ?_ ?_) <;> [rfl; (first | exact among_sub rfl | exact anyKey_sub); skip; skip])
    | ((with_reducible refine Frame.host ?_ ?_ ?_) <;> [rfl; skip; skip])

theorem execCalHold_touches (n : Fin 32) (multi : Bool) (s : State) : Frames s (execCalHold n multi s) [.calPends, .arcBuf] (among [.AON_PWR_EVT, .CAL_CH_STATUS, .CAL_EVT, .CAL_LOAD, .CAL_PEND_TAG, .IC_ARC_EVT, .IC_ARC_LOST, .IC_LDG, .L_CAL_HELD, .L_CAL_HELD_P, .L_CAL_HELD_T]) := by
  unfold execCalHold
  try dsimp only
  refine ⟨_, rfl, ?_⟩
  repeat' first
    | (with_reducible exact Frame.refl _ _ _)
    | ((with_reducible refine Frame.putSeti ?_ ?_) <;> [rfl; skip])
    | ((with_reducible refine Frame.puts ?_ ?_) <;> [(simp [among, anyKey]; done); skip])
    | ((with_reducible refine Frame.putsCons ?_ ?_) <;> [rfl; skip])
    | ((with_reducible eapply Frame.via) <;> [(with_reducible first | apply State.dropWaiting_touches); rfl; exact among_sub rfl; skip])
    | ((with_reducible refine Frame.decide_ ?_ ?_ ?_ ?_) <;> [rfl; (first | exact among_sub rfl | exact anyKey_sub); skip; skip])
    | ((with_reducible refine Frame.host ?_ ?_ ?_) <;> [rfl; skip; skip])

theorem execCalRun_touches (multi : Bool) (s : State) : Frames s (execCalRun multi s) [] (among [.AON_PWR_EVT, .CAL_CH_STATUS, .CAL_EVT, .CAL_STATUS, .L_CAL_RUN, .L_CAL_RUN_CH, .L_CAL_RUN_KINDS, .L_CAL_RUN_RANGE]) := by
  unfold execCalRun
  try dsimp only
  refine ⟨_, rfl, ?_⟩
  repeat' first
    | (with_reducible exact Frame.refl _ _ _)
    | ((with_reducible refine Frame.puts ?_ ?_) <;> [(simp [among, anyKey]; done); skip])
    | ((with_reducible refine Frame.putsCons ?_ ?_) <;> [rfl; skip])
    | ((with_reducible eapply Frame.via) <;> [(with_reducible first | apply State.calRefuse_touches); rfl; exact among_sub rfl; skip])
    | ((with_reducible refine Frame.host ?_ ?_ ?_) <;> [rfl; skip; skip])
    | ((with_reducible refine Frame.choose ?_ ?_) <;> intro _)
    | split

theorem execCalAbort_touches (multi : Bool) (s : State) : Frames s (execCalAbort multi s) [] (among [.AON_PWR_EVT, .CAL_CH_STATUS, .CAL_EVT, .CAL_STATUS, .L_CAL_RUN]) := by
  unfold execCalAbort
  try dsimp only
  refine ⟨_, rfl, ?_⟩
  repeat' first
    | (with_reducible exact Frame.refl _ _ _)
    | ((with_reducible eapply Frame.via) <;> [(with_reducible first | apply State.calRefuse_touches | apply State.calRunEnd_touches); rfl; exact among_sub rfl; skip])
    | ((with_reducible refine Frame.host ?_ ?_ ?_) <;> [rfl; skip; skip])
    | ((with_reducible refine Frame.choose ?_ ?_) <;> intro _)
    | split

theorem execCalHostRunDone_touches (ofs gain : Int) (inl : List Int) (skew : Int) (p vres sres : Nat) (s : State) : Frames s (execCalHostRunDone ofs gain inl skew p vres sres s) [.deltas, .calPends, .arcBuf] (among [.CAL_CH_STATUS, .CAL_EVT, .CAL_LOAD, .CAL_PEND_TAG, .CAL_STATUS, .IC_ARC_EVT, .IC_ARC_LOST, .IC_LDG, .L_CAL_HELD, .L_CAL_RAISED, .L_CAL_RUN, .L_CAL_SRES, .L_CAL_VRES]) := by
  unfold execCalHostRunDone
  try dsimp only
  refine ⟨_, rfl, ?_⟩
  repeat' first
    | (with_reducible exact Frame.refl _ _ _)
    | ((with_reducible refine Frame.put ?_ ?_) <;> [rfl; skip])
    | ((with_reducible eapply Frame.via) <;> [(with_reducible first | apply State.calRunEnd_touches | apply State.pendSet_touches | apply State.takeResult_touches); rfl; exact among_sub rfl; skip])
    | (with_reducible refine Frame.step ?_ ?_)
    | ((with_reducible refine Frame.choose ?_ ?_) <;> intro _)
    | split

theorem execOvrLoad_touches (multi : Bool) (s : State) : Frames s (execOvrLoad multi s) [] (among [.AON_PWR_EVT, .CAL_EVT, .CAL_STATUS, .L_OVR_BUSY]) := by
  unfold execOvrLoad
  try dsimp only
  refine ⟨_, rfl, ?_⟩
  repeat' first
    | (with_reducible exact Frame.refl _ _ _)
    | ((with_reducible refine Frame.puts ?_ ?_) <;> [(simp [among, anyKey]; done); skip])
    | ((with_reducible refine Frame.putsCons ?_ ?_) <;> [rfl; skip])
    | ((with_reducible eapply Frame.via) <;> [(with_reducible first | apply State.calRefuse_touches); rfl; exact among_sub rfl; skip])
    | ((with_reducible refine Frame.host ?_ ?_ ?_) <;> [rfl; skip; skip])
    | ((with_reducible refine Frame.choose ?_ ?_) <;> intro _)
    | split

theorem execOvrLoadDone_touches (rec : OvrRecord) (s : State) : Frames s (execOvrLoadDone rec s) [.ovrRows, .deltas, .calPends, .arcBuf] (among [.CAL_CH_STATUS, .CAL_EVT, .CAL_OVR_CNT, .CAL_PEND_TAG, .CAL_STATUS, .IC_ARC_EVT, .IC_ARC_LOST, .IC_LDG, .L_CAL_HELD, .L_M_OVR, .L_OVR_BUSY, .L_OVR_CNT]) := by
  unfold execOvrLoadDone
  try dsimp only
  refine ⟨_, rfl, ?_⟩
  repeat' first
    | (with_reducible exact Frame.refl _ _ _)
    | ((with_reducible refine Frame.puts ?_ ?_) <;> [(simp [among, anyKey]; done); skip])
    | ((with_reducible refine Frame.putsCons ?_ ?_) <;> [rfl; skip])
    | ((with_reducible eapply Frame.via) <;> [(with_reducible first | apply State.overrideLoaded_touches); rfl; exact among_sub rfl; skip])
    | ((with_reducible refine Frame.choose ?_ ?_) <;> intro _)
    | split

end Sys2Proof.Machine
end

