-- ==== Sys2Proof/Laws/FramesBoot.lean ====
section
/-!
SUPPORT. The frames of the operations of Machine/Boot.lean: the parts and registers each may change.
-/
set_option linter.unusedTactic false
set_option linter.unreachableTactic false
set_option linter.unusedVariables false
set_option linter.unusedSimpArgs false
namespace Sys2Proof.Machine

theorem State.putWord_touches (s : State) (r : RName) (i j v : Nat) : Frame s (State.putWord s r i j v) [] anyKey := by
  unfold State.putWord
  try dsimp only
  repeat' first
    | (with_reducible exact Frame.refl _ _ _)
    | ((with_reducible refine Frame.put ?_ ?_) <;> [rfl; skip])
    | ((with_reducible refine Frame.steps ?_ ?_) <;> [intro _ _; skip])

theorem State.shiftRecords_touches (s : State) : Frame s s.shiftRecords [] (among [.AON_BREC]) := by
  refine Frame.steps (fun i a => Frame.sets _ _ (fun q hq => ?_)) (Frame.refl _ _ _)
  have h := (List.of_mem_zip hq).1
  simp only [recordKeys, keysOf, List.mem_flatMap, List.mem_map] at h
  obtain ⟨j, _, f, _, e⟩ := h
  rw [← e]
  rfl

theorem State.newRecord_touches (s : State) (outcome cause stage us : Nat) : Frame s (State.newRecord s outcome cause stage us) [] (among [.AON_BREC]) := by
  unfold State.newRecord
  try dsimp only
  repeat' first
    | (with_reducible exact Frame.refl _ _ _)
    | ((with_reducible refine Frame.puts ?_ ?_) <;> [(simp [among, anyKey]; done); skip])
    | ((with_reducible refine Frame.putsCons ?_ ?_) <;> [rfl; skip])
    | ((with_reducible eapply Frame.via) <;> [(with_reducible first | apply State.shiftRecords_touches); rfl; exact among_sub rfl; skip])

theorem State.endRecord_touches (s : State) (outcome cause stage us : Nat) : Frame s (State.endRecord s outcome cause stage us) [] (among [.AON_BREC]) := by
  unfold State.endRecord
  try dsimp only
  repeat' first
    | (with_reducible exact Frame.refl _ _ _)
    | ((with_reducible refine Frame.puts ?_ ?_) <;> [(simp [among, anyKey]; done); skip])
    | ((with_reducible refine Frame.putsCons ?_ ?_) <;> [rfl; skip])

theorem State.resetBoot_touches (s : State) : Frame s (State.resetBoot s) [.tick, .mem, .sp, .loans, .engines, .events, .heads, .ranges, .caps, .measures, .tables, .lines, .factory, .ovrRows, .deltas, .calSets, .calPends, .rxs, .txq, .txs, .bootRx, .ownerKey, .idKey, .vendorKey, .dmaDone, .badBursts, .offers, .cards, .badCards, .edges, .pulses, .triggers, .alignDue, .arcBuf, .posted, .out, .pending, .free] anyKey := by
  unfold State.resetBoot
  try dsimp only
  repeat' first
    | (with_reducible exact Frame.refl _ _ _)
    | ((with_reducible refine Frame.puts ?_ ?_) <;> [(simp [among, anyKey]; done); skip])
    | ((with_reducible refine Frame.putsCons ?_ ?_) <;> [rfl; skip])
    | ((with_reducible eapply Frame.via) <;> [(with_reducible first | apply State.resetMain_touches); rfl; exact anyKey_sub; skip])

theorem State.readingRoom_touches (s : State) : Frame s (State.readingRoom s) [.tick, .mem, .sp, .loans, .engines, .events, .heads, .ranges, .caps, .measures, .tables, .lines, .factory, .ovrRows, .deltas, .calSets, .calPends, .rxs, .txq, .txs, .bootRx, .ownerKey, .idKey, .vendorKey, .dmaDone, .badBursts, .offers, .cards, .badCards, .edges, .pulses, .triggers, .alignDue, .arcBuf, .posted, .out, .pending, .free] anyKey := by
  unfold State.readingRoom
  try dsimp only
  repeat' first
    | (with_reducible exact Frame.refl _ _ _)
    | ((with_reducible refine Frame.puts ?_ ?_) <;> [(simp [among, anyKey]; done); skip])
    | ((with_reducible refine Frame.putsCons ?_ ?_) <;> [rfl; skip])
    | ((with_reducible eapply Frame.via) <;> [(with_reducible first | apply State.parkAll_touches | apply State.resetBoot_touches); rfl; exact anyKey_sub; skip])

theorem State.bootFail_touches (s : State) (cause us : Nat) : Frame s (State.bootFail s cause us) [.tick, .mem, .sp, .loans, .engines, .events, .heads, .ranges, .caps, .measures, .tables, .lines, .factory, .ovrRows, .deltas, .calSets, .calPends, .rxs, .txq, .txs, .bootRx, .ownerKey, .idKey, .vendorKey, .dmaDone, .badBursts, .offers, .cards, .badCards, .edges, .pulses, .triggers, .alignDue, .arcBuf, .posted, .out, .pending, .free] anyKey := by
  unfold State.bootFail
  try dsimp only
  repeat' first
    | (with_reducible exact Frame.refl _ _ _)
    | ((with_reducible refine Frame.puts ?_ ?_) <;> [(simp [among, anyKey]; done); skip])
    | ((with_reducible refine Frame.putsCons ?_ ?_) <;> [rfl; skip])
    | ((with_reducible eapply Frame.via) <;> [(with_reducible first | apply State.endRecord_touches | apply State.newRecord_touches | apply State.readingRoom_touches | apply State.resetBoot_touches); rfl; exact anyKey_sub; skip])
    | ((with_reducible refine Frame.choose ?_ ?_) <;> intro _)
    | split

theorem State.cellRise_touches (s : State) (i : Nat) (key : Key) (v : Nat) : Frame s (State.cellRise s i key v) [] anyKey := by
  unfold State.cellRise
  try dsimp only
  repeat' first
    | (with_reducible exact Frame.refl _ _ _)
    | ((with_reducible refine Frame.put ?_ ?_) <;> [rfl; skip])
    | ((with_reducible refine Frame.putFlag ?_ ?_) <;> [rfl; skip])
    | ((with_reducible refine Frame.putBump ?_ ?_) <;> [rfl; skip])
    | (with_reducible refine Frame.step ?_ ?_)
    | ((with_reducible refine Frame.choose ?_ ?_) <;> intro _)
    | split

theorem State.eraseOwner_touches (s : State) : Frame s (State.eraseOwner s) [.ownerKey] (among [.SEC_OKEY_DIG]) := by
  unfold State.eraseOwner
  try dsimp only
  repeat' first
    | (with_reducible exact Frame.refl _ _ _)
    | ((with_reducible refine Frame.forget ?_ ?_) <;> [(intro k hk; simp at hk; first | (simp [among, hk]; done) | (simp [among]; tauto)); skip])
    | (fail_if_no_progress ((with_reducible refine Frame.on_ownerKey ?_ ?_) <;> [rfl; skip]))

theorem State.stage2_touches (s : State) (us : Nat) : Frame s (State.stage2 s us) [.tick, .mem, .sp, .loans, .engines, .events, .heads, .ranges, .caps, .measures, .tables, .lines, .factory, .ovrRows, .deltas, .calSets, .calPends, .rxs, .txq, .txs, .bootRx, .ownerKey, .idKey, .vendorKey, .dmaDone, .badBursts, .offers, .cards, .badCards, .edges, .pulses, .triggers, .alignDue, .arcBuf, .posted, .out, .pending, .free] anyKey := by
  unfold State.stage2
  try dsimp only
  repeat' first
    | (with_reducible exact Frame.refl _ _ _)
    | ((with_reducible refine Frame.put ?_ ?_) <;> [rfl; skip])
    | ((with_reducible refine Frame.putBump ?_ ?_) <;> [rfl; skip])
    | ((with_reducible eapply Frame.via) <;> [(with_reducible first | apply State.cellRise_touches | apply State.eraseOwner_touches | apply State.newRecord_touches | apply State.readingRoom_touches); rfl; exact anyKey_sub; skip])
    | (with_reducible refine Frame.step ?_ ?_)
    | (fail_if_no_progress ((with_reducible refine Frame.on_idKey ?_ ?_) <;> [rfl; skip]))
    | ((with_reducible refine Frame.choose ?_ ?_) <;> intro _)
    | split

theorem State.waitHost_touches (s : State) (item : Nat) : Frame s (State.waitHost s item) [] (among [.AON_BOOT_STATUS, .AON_EVT]) := by
  unfold State.waitHost
  try dsimp only
  repeat' first
    | (with_reducible exact Frame.refl _ _ _)
    | ((with_reducible refine Frame.puts ?_ ?_) <;> [(simp [among, anyKey]; done); skip])
    | ((with_reducible refine Frame.putsCons ?_ ?_) <;> [rfl; skip])
    | ((with_reducible refine Frame.choose ?_ ?_) <;> intro _)
    | split

theorem State.takeBlock_touches (s : State) (b : List (BitVec 8)) : Frame s (State.takeBlock s b) [] (among [.L_BPB_MODE, .L_BPB_OK, .L_BPB_PLL, .L_BPB_REF, .L_PAY_ADDR, .L_PAY_LEN]) := by
  unfold State.takeBlock
  try dsimp only
  repeat' first
    | (with_reducible exact Frame.refl _ _ _)
    | ((with_reducible refine Frame.puts ?_ ?_) <;> [(simp [among, anyKey]; done); skip])
    | ((with_reducible refine Frame.putsCons ?_ ?_) <;> [rfl; skip])
    | ((with_reducible refine Frame.steps ?_ ?_) <;> [intro _ _; skip])

theorem State.stage6_touches (s : State) : Frame s (State.stage6 s) [] anyKey := by
  unfold State.stage6
  try dsimp only
  repeat' first
    | (with_reducible exact Frame.refl _ _ _)
    | ((with_reducible refine Frame.putFlag ?_ ?_) <;> [rfl; skip])
    | ((with_reducible eapply Frame.via) <;> [(with_reducible first | apply State.putWord_touches | apply State.tbStart_touches); rfl; exact anyKey_sub; skip])
    | (with_reducible refine Frame.step ?_ ?_)

theorem State.takeFirmware_touches (s : State) (fw : List (BitVec 8)) : Frame s (State.takeFirmware s fw) [.vendorKey] (among [.L_CC_HALTED, .L_CC_SLEEP, .L_FW_CNT, .L_M_FW, .SYS_TILE_STATUS]) := by
  unfold State.takeFirmware
  try dsimp only
  repeat' first
    | (with_reducible exact Frame.refl _ _ _)
    | ((with_reducible refine Frame.puts ?_ ?_) <;> [(simp [among, anyKey]; done); skip])
    | ((with_reducible refine Frame.putsCons ?_ ?_) <;> [rfl; skip])
    | ((with_reducible eapply Frame.via) <;> [(with_reducible first | apply State.tileStart_touches); rfl; exact among_sub rfl; skip])
    | ((with_reducible refine Frame.steps ?_ ?_) <;> [intro _ _; skip])
    | (fail_if_no_progress ((with_reducible refine Frame.on_vendorKey ?_ ?_) <;> [rfl; skip]))

theorem State.stage10_touches (s : State) (fac : Option CalRecord) (ovr : Option OvrRecord) : Frame s (State.stage10 s fac ovr) [.factory, .ovrRows, .deltas, .calPends, .arcBuf] (among [.CAL_CH_STATUS, .CAL_EVT, .CAL_OVR_CNT, .CAL_PEND_TAG, .CAL_REC_ID, .CAL_STATUS, .CAL_TJ, .IC_ARC_EVT, .IC_ARC_LOST, .IC_LDG, .L_CAL_HELD, .L_CAL_RAISED, .L_CAL_T_LAST, .L_M_OVR, .L_OVR_CNT, .PP_DLY_ZERO, .TB_ANCHOR_TGT]) := by
  unfold State.stage10
  try dsimp only
  repeat' first
    | (with_reducible exact Frame.refl _ _ _)
    | ((with_reducible refine Frame.put ?_ ?_) <;> [rfl; skip])
    | ((with_reducible eapply Frame.via) <;> [(with_reducible first | apply State.calRefuse_touches | apply State.loadFactory_touches | apply State.overrideLoaded_touches); rfl; exact among_sub rfl; skip])
    | ((with_reducible refine Frame.choose ?_ ?_) <;> intro _)
    | split

theorem State.nextStage_touches (s : State) (k us : Nat) : Frame s (State.nextStage s k us) [.tick, .mem, .sp, .loans, .engines, .events, .heads, .ranges, .caps, .measures, .tables, .lines, .factory, .ovrRows, .deltas, .calSets, .calPends, .rxs, .txq, .txs, .bootRx, .ownerKey, .idKey, .vendorKey, .dmaDone, .badBursts, .offers, .cards, .badCards, .edges, .pulses, .triggers, .alignDue, .arcBuf, .posted, .out, .pending, .free] anyKey := by
  unfold State.nextStage
  try dsimp only
  repeat' first
    | (with_reducible exact Frame.refl _ _ _)
    | ((with_reducible refine Frame.puts ?_ ?_) <;> [(simp [among, anyKey]; done); skip])
    | ((with_reducible refine Frame.putsCons ?_ ?_) <;> [rfl; skip])
    | ((with_reducible eapply Frame.via) <;> [(with_reducible first | apply State.bootFail_touches | apply State.stage2_touches | apply State.stage6_touches | apply State.waitHost_touches); rfl; exact anyKey_sub; skip])
    | ((with_reducible refine Frame.choose ?_ ?_) <;> intro _)
    | split

theorem State.itemGiven_touches (s : State) (addr len : Nat) : Frame s (State.itemGiven s addr len) [] (among [.AON_BOOT_STATUS, .AON_EVT, .L_PAY_ADDR, .L_PAY_LEN]) := by
  unfold State.itemGiven
  try dsimp only
  repeat' first
    | (with_reducible exact Frame.refl _ _ _)
    | ((with_reducible refine Frame.putClr ?_ ?_) <;> [rfl; skip])
    | ((with_reducible refine Frame.puts ?_ ?_) <;> [(simp [among, anyKey]; done); skip])
    | ((with_reducible refine Frame.putsCons ?_ ?_) <;> [rfl; skip])
    | ((with_reducible eapply Frame.via) <;> [(with_reducible first | apply State.waitHost_touches); rfl; exact among_sub rfl; skip])
    | (with_reducible refine Frame.step ?_ ?_)
    | ((with_reducible refine Frame.choose ?_ ?_) <;> intro _)
    | split

theorem Frame.loaderStart {s a : State} {ps : List Part} {p : Key → Bool} {c res : Nat} {flash : Bool} {f : State → State}
    (hk : ∀ k, among [.AON_LDR_CMD, .AON_LDR_STATUS, .L_LDR_RES] k = true → p k = true) (h : ∀ b, Frame b (f b) ps p) (g : Frame s a ps p) :
    Frame s (a.loaderStart c res flash f) ps p := by
  have hc := Frame.put (k := Fld.AON_LDR_CMD) (v := c) (hk _ rfl) g
  unfold State.loaderStart
  dsimp only
  split
  · exact g
  · split
    · exact hc.put (hk _ rfl)
    · split
      · exact hc.put (hk _ rfl)
      · split
        · exact hc.put (hk _ rfl)
        · exact (((hc.put (hk _ rfl)).put (hk _ rfl)).put (hk _ rfl)).trans (h _)

theorem execBootAttemptStart_touches (src : Fin 4) (s : State) : Frames s (execBootAttemptStart src s) [] (among [.AON_BOOT_STATUS, .L_BOOT_DUE, .L_BPB_OK]) := by
  unfold execBootAttemptStart
  try dsimp only
  refine ⟨_, rfl, ?_⟩
  repeat' first
    | (with_reducible exact Frame.refl _ _ _)
    | ((with_reducible refine Frame.puts ?_ ?_) <;> [(simp [among, anyKey]; done); skip])
    | ((with_reducible refine Frame.putsCons ?_ ?_) <;> [rfl; skip])
    | ((with_reducible refine Frame.choose ?_ ?_) <;> intro _)
    | split

theorem State.stage3_touches (s : State) (b : List (BitVec 8)) (t : State) (h : s.stage3 b = some t) : Frame s t [] anyKey := by
  unfold State.stage3 at h
  split at h
  · cases h
    exact Frame.puts (fun _ _ => rfl) (Frame.refl _ _ _)
  · split at h
    · cases h
      exact Frame.refl _ _ _
    · split at h
      · cases h
        exact (State.takeBlock_touches _ _).via rfl anyKey_sub (Frame.refl _ _ _)
      · split at h
        · cases h
          exact Frame.refl _ _ _
        · cases h

theorem execBootStageDone_touches (us : Nat) (data : List (BitVec 8)) (fac : Option CalRecord) (ovr : Option OvrRecord) (s : State) : Frames s (execBootStageDone us data fac ovr s) [.tick, .mem, .sp, .loans, .engines, .events, .heads, .ranges, .caps, .measures, .tables, .lines, .factory, .ovrRows, .deltas, .calSets, .calPends, .rxs, .txq, .txs, .bootRx, .ownerKey, .idKey, .vendorKey, .dmaDone, .badBursts, .offers, .cards, .badCards, .edges, .pulses, .triggers, .alignDue, .arcBuf, .posted, .out, .pending, .free] anyKey := by
  unfold execBootStageDone
  try dsimp only
  refine ⟨_, rfl, ?_⟩
  repeat' first
    | (with_reducible exact Frame.refl _ _ _)
    | ((with_reducible refine Frame.putFlag ?_ ?_) <;> [rfl; skip])
    | ((with_reducible eapply Frame.via) <;> [(with_reducible first | apply State.applyImage_touches | apply State.bootFail_touches | apply State.nextStage_touches | apply State.noImage_touches | apply State.stage10_touches | apply State.takeFirmware_touches | apply State.stage3_touches _ _ _ (by assumption)); rfl; exact anyKey_sub; skip])
    | (with_reducible refine Frame.step ?_ ?_)
    | (fail_if_no_progress ((with_reducible refine Frame.on_sp_mem_badBursts ?_ ?_ ?_ ?_) <;> [rfl; rfl; rfl; skip]))
    | (fail_if_no_progress ((with_reducible refine Frame.on_mem_badBursts ?_ ?_ ?_) <;> [rfl; rfl; skip]))
    | (fail_if_no_progress ((with_reducible refine Frame.on_mem ?_ ?_) <;> [rfl; skip]))
    | (fail_if_no_progress ((with_reducible refine Frame.on_sp ?_ ?_) <;> [rfl; skip]))
    | (fail_if_no_progress ((with_reducible refine Frame.on_bootRx ?_ ?_) <;> [rfl; skip]))
    | (fail_if_no_progress ((with_reducible refine Frame.on_badBursts ?_ ?_) <;> [rfl; skip]))
    | ((with_reducible refine Frame.choose ?_ ?_) <;> intro _)
    | split

theorem execBootGo_touches (pf : Fin 4) (s : State) : Frames s (execBootGo pf s) [] (among [.AON_BOOT_STATUS, .AON_EVT, .L_PAY_ADDR, .L_PAY_LEN, .SYS_HIF_EVT]) := by
  unfold execBootGo
  try dsimp only
  refine ⟨_, rfl, ?_⟩
  repeat' first
    | (with_reducible exact Frame.refl _ _ _)
    | ((with_reducible eapply Frame.via) <;> [(with_reducible first | apply State.itemGiven_touches); rfl; exact among_sub rfl; skip])
    | ((with_reducible refine Frame.privAon ?_ ?_ ?_) <;> [rfl; skip; skip])
    | ((with_reducible refine Frame.choose ?_ ?_) <;> intro _)
    | split

theorem execHostTimeout_touches (us : Nat) (s : State) : Frames s (execHostTimeout us s) [.tick, .mem, .sp, .loans, .engines, .events, .heads, .ranges, .caps, .measures, .tables, .lines, .factory, .ovrRows, .deltas, .calSets, .calPends, .rxs, .txq, .txs, .bootRx, .ownerKey, .idKey, .vendorKey, .dmaDone, .badBursts, .offers, .cards, .badCards, .edges, .pulses, .triggers, .alignDue, .arcBuf, .posted, .out, .pending, .free] anyKey := by
  unfold execHostTimeout
  try dsimp only
  refine ⟨_, rfl, ?_⟩
  repeat' first
    | (with_reducible exact Frame.refl _ _ _)
    | ((with_reducible eapply Frame.via) <;> [(with_reducible first | apply State.bootFail_touches | apply State.itemGiven_touches); rfl; exact anyKey_sub; skip])
    | ((with_reducible refine Frame.choose ?_ ?_) <;> intro _)
    | split

theorem execBootStageFail_touches (cause : Fin 256) (us : Nat) (s : State) : Frames s (execBootStageFail cause us s) [.tick, .mem, .sp, .loans, .engines, .events, .heads, .ranges, .caps, .measures, .tables, .lines, .factory, .ovrRows, .deltas, .calSets, .calPends, .rxs, .txq, .txs, .bootRx, .ownerKey, .idKey, .vendorKey, .dmaDone, .badBursts, .offers, .cards, .badCards, .edges, .pulses, .triggers, .alignDue, .arcBuf, .posted, .out, .pending, .free] anyKey := by
  unfold execBootStageFail
  try dsimp only
  refine ⟨_, rfl, ?_⟩
  repeat' first
    | (with_reducible exact Frame.refl _ _ _)
    | ((with_reducible eapply Frame.via) <;> [(with_reducible first | apply State.bootFail_touches); rfl; exact anyKey_sub; skip])
    | ((with_reducible refine Frame.choose ?_ ?_) <;> intro _)
    | split

theorem execBootRetryDelay_touches (s : State) : Frames s (execBootRetryDelay s) [] (among [.L_BOOT_DUE, .L_BOOT_RETRY]) := by
  unfold execBootRetryDelay
  try dsimp only
  refine ⟨_, rfl, ?_⟩
  repeat' first
    | (with_reducible exact Frame.refl _ _ _)
    | ((with_reducible refine Frame.puts ?_ ?_) <;> [(simp [among, anyKey]; done); skip])
    | ((with_reducible refine Frame.putsCons ?_ ?_) <;> [rfl; skip])
    | ((with_reducible refine Frame.choose ?_ ?_) <;> intro _)
    | split

theorem execBootReady_touches (us : Nat) (s : State) : Frames s (execBootReady us s) [.rxs, .txq, .txs, .edges, .arcBuf] anyKey := by
  unfold execBootReady
  try dsimp only
  refine ⟨_, rfl, ?_⟩
  repeat' first
    | (with_reducible exact Frame.refl _ _ _)
    | ((with_reducible refine Frame.put ?_ ?_) <;> [rfl; skip])
    | ((with_reducible refine Frame.puts ?_ ?_) <;> [(simp [among, anyKey]; done); skip])
    | ((with_reducible refine Frame.putsCons ?_ ?_) <;> [rfl; skip])
    | ((with_reducible eapply Frame.via) <;> [(with_reducible first | apply State.bootClear_touches | apply State.endRecord_touches | apply State.linkStart_touches); rfl; exact anyKey_sub; skip])
    | (with_reducible refine Frame.step ?_ ?_)
    | ((with_reducible refine Frame.choose ?_ ?_) <;> intro _)
    | split

theorem execBootRetry_touches (pf : Fin 4) (s : State) : Frames s (execBootRetry pf s) [.tick, .mem, .sp, .loans, .engines, .events, .heads, .ranges, .caps, .measures, .tables, .lines, .factory, .ovrRows, .deltas, .calSets, .calPends, .rxs, .txq, .txs, .bootRx, .ownerKey, .idKey, .vendorKey, .dmaDone, .badBursts, .offers, .cards, .badCards, .edges, .pulses, .triggers, .alignDue, .arcBuf, .posted, .out, .pending, .free] anyKey := by
  unfold execBootRetry
  try dsimp only
  refine ⟨_, rfl, ?_⟩
  repeat' first
    | (with_reducible exact Frame.refl _ _ _)
    | ((with_reducible refine Frame.put ?_ ?_) <;> [rfl; skip])
    | ((with_reducible eapply Frame.via) <;> [(with_reducible first | apply State.resetBoot_touches); rfl; exact anyKey_sub; skip])
    | ((with_reducible refine Frame.privAon ?_ ?_ ?_) <;> [rfl; skip; skip])
    | ((with_reducible refine Frame.choose ?_ ?_) <;> intro _)
    | split

theorem execLoaderWrite_touches (pf : Fin 4) (flash : Bool) (data : List (BitVec 8)) (s : State) : Frames s (execLoaderWrite pf flash data s) [.out] (among [.AON_LDR_CMD, .AON_LDR_STATUS, .L_LDR_RES, .SYS_HIF_EVT]) := by
  unfold execLoaderWrite
  try dsimp only
  refine ⟨_, rfl, ?_⟩
  repeat' first
    | (with_reducible exact Frame.refl _ _ _)
    | ((with_reducible eapply Frame.via) <;> [(with_reducible first | apply State.emitFrame); rfl; exact among_sub rfl; skip])
    | ((with_reducible refine Frame.loaderStart ?_ ?_ ?_) <;> [(first | exact among_sub rfl | exact anyKey_sub); intro _; skip])
    | ((with_reducible refine Frame.privAon ?_ ?_ ?_) <;> [rfl; skip; skip])

theorem execLoaderVerify_touches (pf : Fin 4) (flash same : Bool) (s : State) : Frames s (execLoaderVerify pf flash same s) [] (among [.AON_LDR_CMD, .AON_LDR_STATUS, .L_LDR_RES, .SYS_HIF_EVT]) := by
  unfold execLoaderVerify
  try dsimp only
  refine ⟨_, rfl, ?_⟩
  repeat' first
    | (with_reducible exact Frame.refl _ _ _)
    | ((with_reducible refine Frame.loaderStart ?_ ?_ ?_) <;> [(first | exact among_sub rfl | exact anyKey_sub); intro _; skip])
    | ((with_reducible refine Frame.privAon ?_ ?_ ?_) <;> [rfl; skip; skip])
    | ((with_reducible refine Frame.choose ?_ ?_) <;> intro _)
    | split

theorem execLoaderRead_touches (pf : Fin 4) (flash : Bool) (data : List (BitVec 8)) (s : State) : Frames s (execLoaderRead pf flash data s) [.out] (among [.AON_LDR_CMD, .AON_LDR_STATUS, .L_LDR_RES, .SYS_HIF_EVT]) := by
  unfold execLoaderRead
  try dsimp only
  refine ⟨_, rfl, ?_⟩
  repeat' first
    | (with_reducible exact Frame.refl _ _ _)
    | ((with_reducible eapply Frame.via) <;> [(with_reducible first | apply State.emitFrame); rfl; exact among_sub rfl; skip])
    | ((with_reducible refine Frame.loaderStart ?_ ?_ ?_) <;> [(first | exact among_sub rfl | exact anyKey_sub); intro _; skip])
    | ((with_reducible refine Frame.privAon ?_ ?_ ?_) <;> [rfl; skip; skip])

theorem execLoaderDone_touches (s : State) : Frames s (execLoaderDone s) [] (among [.AON_EVT, .AON_LDR_STATUS]) := by
  unfold execLoaderDone
  try dsimp only
  refine ⟨_, rfl, ?_⟩
  repeat' first
    | (with_reducible exact Frame.refl _ _ _)
    | ((with_reducible refine Frame.puts ?_ ?_) <;> [(simp [among, anyKey]; done); skip])
    | ((with_reducible refine Frame.putsCons ?_ ?_) <;> [rfl; skip])
    | ((with_reducible refine Frame.choose ?_ ?_) <;> intro _)
    | split

end Sys2Proof.Machine
end

