-- ==== Sys2Proof/Laws/FramesReelCmds.lean ====
section
/-!
SUPPORT. The frames of the operations of Machine/ReelCmds.lean: the parts and registers each may change.
-/
set_option linter.unusedTactic false
set_option linter.unreachableTactic false
set_option linter.unusedVariables false
set_option linter.unusedSimpArgs false
namespace Sys2Proof.Machine

theorem State.arm_touches (s : State) (r : Nat) : Frame s (State.arm s r) [.loans, .engines, .heads, .edges, .arcBuf] (among [.CAL_CH_STATUS, .CAL_EVT, .CAL_STATUS, .COR_GRP_EVT, .COR_GRP_STATUS, .IC_ARC_EVT, .IC_ARC_LOST, .IC_LDG, .L_CAL_RUN, .L_COR_RAMP, .L_COR_W0, .L_COR_ZERO, .L_STRM_RET, .MS_EVT, .REEL, .TL_CUT_EVT, .TL_HEAD_MISS, .TL_HEAD_STATUS, .TL_REEL_ACTIVE, .TL_REEL_FAULTED]) := by
  unfold State.arm
  try dsimp only
  repeat' first
    | (with_reducible exact Frame.refl _ _ _)
    | ((with_reducible refine Frame.putClr ?_ ?_) <;> [rfl; skip])
    | ((with_reducible refine Frame.put2 ?_ ?_ ?_) <;> [rfl; rfl; skip])
    | ((with_reducible eapply Frame.via) <;> [(with_reducible first | apply State.enterArmed_touches); rfl; exact among_sub rfl; skip])

theorem State.armRequest_touches (s : State) (r : Nat) : Frame s (State.armRequest s r).2 [.loans, .engines, .heads, .edges, .arcBuf] (among [.CAL_CH_STATUS, .CAL_EVT, .CAL_STATUS, .COR_GRP_EVT, .COR_GRP_STATUS, .IC_ARC_EVT, .IC_ARC_LOST, .IC_LDG, .L_CAL_RUN, .L_COR_RAMP, .L_COR_W0, .L_COR_ZERO, .L_STRM_RET, .MS_EVT, .REEL, .TL_CUT_EVT, .TL_HEAD_MISS, .TL_HEAD_STATUS, .TL_REEL_ACTIVE, .TL_REEL_EVT, .TL_REEL_FAULTED]) := by
  unfold State.armRequest
  try dsimp only
  repeat' first
    | (with_reducible exact Frame.refl _ _ _)
    | ((with_reducible refine Frame.putFlag ?_ ?_) <;> [rfl; skip])
    | ((with_reducible eapply Frame.via) <;> [(with_reducible first | apply State.arm_touches); rfl; exact among_sub rfl; skip])
    | ((with_reducible refine Frame.choose ?_ ?_) <;> intro _)
    | split

theorem State.reelDone_touches (s : State) (t res : Nat) : Frame s (State.reelDone s t res) [] (among [.TL_REEL_CMD, .TL_REEL_EVT]) := by
  unfold State.reelDone
  try dsimp only
  repeat' first
    | (with_reducible exact Frame.refl _ _ _)
    | ((with_reducible refine Frame.puts ?_ ?_) <;> [(simp [among, anyKey]; done); skip])
    | ((with_reducible refine Frame.putsCons ?_ ?_) <;> [rfl; skip])

theorem Frame.reelCommand {s a : State} {ps : List Part} {p : Key → Bool} {t : Nat} {o : Bool} {f : State → Nat × State} (hk : ∀ k, among [.TL_REEL_CMD, .TL_REEL_EVT] k = true → p k = true)
    (h : Frame a (f a).2 ps p) (g : Frame s a ps p) : Frame s (a.reelCommand t o f) ps p := by
  unfold State.reelCommand
  dsimp only
  split
  · exact g.trans ((State.reelDone_touches a t 5).mono (by simp) hk)
  · exact (g.trans h).trans ((State.reelDone_touches _ t _).mono (by simp) hk)

theorem State.resolveCut_touches (s : State) (r : Nat) : Frame s (State.resolveCut s r) [.engines] (among []) := by
  unfold State.resolveCut
  try dsimp only
  repeat' first
    | (with_reducible exact Frame.refl _ _ _)
    | ((with_reducible eapply Frame.via) <;> [(with_reducible first | apply State.onEng_touches); rfl; exact among_sub rfl; skip])
    | ((with_reducible refine Frame.choose ?_ ?_) <;> intro _)
    | split

theorem State.loopCutHere_touches (s : State) (r b last q : Nat) (words : List WinCue) : Frame s (State.loopCutHere s r b last q words) [.engines] (among []) := by
  unfold State.loopCutHere
  try dsimp only
  repeat' first
    | (with_reducible exact Frame.refl _ _ _)
    | ((with_reducible eapply Frame.via) <;> [(with_reducible first | apply State.onEng_touches); rfl; exact among_sub rfl; skip])
    | ((with_reducible refine Frame.choose ?_ ?_) <;> intro _)
    | split

theorem State.resolveBefore_touches (s : State) (r b : Nat) : Frame s (State.resolveBefore s r b) [.engines] (among []) := by
  unfold State.resolveBefore
  try dsimp only
  repeat' first
    | (with_reducible exact Frame.refl _ _ _)
    | ((with_reducible eapply Frame.via) <;> [(with_reducible first | apply State.resolveCut_touches); rfl; exact among_sub rfl; skip])
    | ((with_reducible refine Frame.choose ?_ ?_) <;> intro _)
    | split

theorem State.passEnd_touches (s : State) (r p : Nat) : Frame s (State.passEnd s r p) [.engines, .edges, .arcBuf] (among [.IC_ARC_EVT, .IC_ARC_LOST, .IC_LDG, .L_PROD_WORD, .L_STRM_LEAF, .L_STRM_NEXT, .L_STRM_RET, .MS_STRM_CNT, .MS_STRM_FILL, .MS_STRM_PLAY, .REEL]) := by
  unfold State.passEnd
  try dsimp only
  repeat' first
    | (with_reducible exact Frame.refl _ _ _)
    | ((with_reducible refine Frame.put ?_ ?_) <;> [rfl; skip])
    | ((with_reducible eapply Frame.via) <;> [(with_reducible first | apply State.cardSlate_touches | apply State.onEng_touches | apply State.streamPass_touches | apply State.streamPassEnd_touches); rfl; exact among_sub rfl; skip])

theorem State.afterWait_touches (s : State) (r b q : Nat) (words : List WinCue) : Frame s (State.afterWait s r b q words) [.loans, .engines, .heads, .ranges, .lines, .calSets, .calPends, .edges, .arcBuf] anyKey := by
  unfold State.afterWait
  try dsimp only
  repeat' first
    | (with_reducible exact Frame.refl _ _ _)
    | ((with_reducible eapply Frame.via) <;> [(with_reducible first | apply State.keepLast_touches | apply State.loopCutHere_touches | apply State.resolveBefore_touches | apply State.runChain_touches); rfl; exact anyKey_sub; skip])
    | ((with_reducible refine Frame.choose ?_ ?_) <;> intro _)
    | split

theorem execReelArm_touches (t : Fin 8) (others : Bool) (s : State) : Frames s (execReelArm t others s) [.loans, .engines, .heads, .edges, .arcBuf] (among [.AON_PWR_EVT, .CAL_CH_STATUS, .CAL_EVT, .CAL_STATUS, .COR_GRP_EVT, .COR_GRP_STATUS, .IC_ARC_EVT, .IC_ARC_LOST, .IC_LDG, .L_CAL_RUN, .L_COR_RAMP, .L_COR_W0, .L_COR_ZERO, .L_STRM_RET, .MS_EVT, .REEL, .TL_CUT_EVT, .TL_HEAD_MISS, .TL_HEAD_STATUS, .TL_REEL_ACTIVE, .TL_REEL_CMD, .TL_REEL_EVT, .TL_REEL_FAULTED]) := by
  unfold execReelArm
  try dsimp only
  refine ⟨_, rfl, ?_⟩
  repeat' first
    | (with_reducible exact Frame.refl _ _ _)
    | ((with_reducible eapply Frame.via) <;> [(with_reducible first | apply State.armRequest_touches); rfl; exact among_sub rfl; skip])
    | ((with_reducible refine Frame.reelCommand ?_ ?_ ?_) <;> [(first | exact among_sub rfl | exact anyKey_sub); skip; skip])
    | ((with_reducible refine Frame.host ?_ ?_ ?_) <;> [rfl; skip; skip])

theorem execReelDisarm_touches (t : Fin 8) (others : Bool) (s : State) : Frames s (execReelDisarm t others s) [.loans, .engines, .heads, .edges, .arcBuf] (among [.AON_PWR_EVT, .CAL_CH_STATUS, .CAL_EVT, .CAL_STATUS, .COR_GRP_EVT, .COR_GRP_STATUS, .IC_ARC_EVT, .IC_ARC_LOST, .IC_LDG, .L_CAL_RUN, .L_COR_RAMP, .L_COR_W0, .L_COR_ZERO, .L_STRM_RET, .REEL, .TL_CUT_EVT, .TL_HEAD_MISS, .TL_HEAD_STATUS, .TL_LATE_CNT, .TL_LATE_LAST, .TL_LATE_WORDS_HI, .TL_LATE_WORDS_LO, .TL_REEL_ACTIVE, .TL_REEL_CMD, .TL_REEL_EVT, .TL_REEL_FAULTED, .TL_VSTG_EVT, .TL_VSTG_PEND]) := by
  unfold execReelDisarm
  try dsimp only
  refine ⟨_, rfl, ?_⟩
  repeat' first
    | (with_reducible exact Frame.refl _ _ _)
    | ((with_reducible refine Frame.putClr ?_ ?_) <;> [rfl; skip])
    | ((with_reducible eapply Frame.via) <;> [(with_reducible first | apply State.dropWindow_touches | apply State.enterState_touches | apply State.quitRun_touches); rfl; exact among_sub rfl; skip])
    | ((with_reducible refine Frame.reelCommand ?_ ?_ ?_) <;> [(first | exact among_sub rfl | exact anyKey_sub); skip; skip])
    | ((with_reducible refine Frame.host ?_ ?_ ?_) <;> [rfl; skip; skip])
    | split

theorem execReelStopAt_touches (t : Fin 8) (others : Bool) (s : State) : Frames s (execReelStopAt t others s) [] (among [.AON_PWR_EVT, .REEL, .TL_REEL_CMD, .TL_REEL_EVT]) := by
  unfold execReelStopAt
  try dsimp only
  refine ⟨_, rfl, ?_⟩
  repeat' first
    | (with_reducible exact Frame.refl _ _ _)
    | ((with_reducible eapply Frame.via) <;> [(with_reducible first | apply State.requestStop_touches); rfl; exact among_sub rfl; skip])
    | ((with_reducible refine Frame.reelCommand ?_ ?_ ?_) <;> [(first | exact among_sub rfl | exact anyKey_sub); skip; skip])
    | ((with_reducible refine Frame.host ?_ ?_ ?_) <;> [rfl; skip; skip])
    | ((with_reducible refine Frame.choose ?_ ?_) <;> intro _)
    | split

theorem execReelClear_touches (t : Fin 8) (others : Bool) (s : State) : Frames s (execReelClear t others s) [.edges, .arcBuf] (among [.AON_PWR_EVT, .CAL_CH_STATUS, .CAL_EVT, .CAL_STATUS, .COR_GRP_EVT, .COR_GRP_STATUS, .IC_ARC_EVT, .IC_ARC_LOST, .IC_LDG, .L_CAL_RUN, .L_COR_RAMP, .L_COR_W0, .L_COR_ZERO, .REEL, .TL_REEL_ACTIVE, .TL_REEL_CMD, .TL_REEL_EVT, .TL_REEL_FAULTED]) := by
  unfold execReelClear
  try dsimp only
  refine ⟨_, rfl, ?_⟩
  repeat' first
    | (with_reducible exact Frame.refl _ _ _)
    | ((with_reducible refine Frame.puts ?_ ?_) <;> [(simp [among, anyKey]; done); skip])
    | ((with_reducible refine Frame.putsCons ?_ ?_) <;> [rfl; skip])
    | ((with_reducible eapply Frame.via) <;> [(with_reducible first | apply State.enterState_touches); rfl; exact among_sub rfl; skip])
    | ((with_reducible refine Frame.reelCommand ?_ ?_ ?_) <;> [(first | exact among_sub rfl | exact anyKey_sub); skip; skip])
    | ((with_reducible refine Frame.host ?_ ?_ ?_) <;> [rfl; skip; skip])
    | ((with_reducible refine Frame.choose ?_ ?_) <;> intro _)
    | split

theorem execArmGroup_touches (t : Fin 8) (g : Fin 8) (s : State) : Frames s (execArmGroup t g s) [.loans, .engines, .heads, .edges, .triggers, .arcBuf] (among [.CAL_CH_STATUS, .CAL_EVT, .CAL_STATUS, .COR_GRP_EVT, .COR_GRP_STATUS, .IC_ARC_EVT, .IC_ARC_LOST, .IC_LDG, .L_CAL_RUN, .L_COR_RAMP, .L_COR_W0, .L_COR_ZERO, .L_STRM_RET, .MS_EVT, .REEL, .TL_CUT_EVT, .TL_HEAD_MISS, .TL_HEAD_STATUS, .TL_REEL_ACTIVE, .TL_REEL_EVT, .TL_REEL_FAULTED]) := by
  unfold execArmGroup
  try dsimp only
  refine ⟨_, rfl, ?_⟩
  repeat' first
    | (with_reducible exact Frame.refl _ _ _)
    | ((with_reducible refine Frame.putFlag ?_ ?_) <;> [rfl; skip])
    | ((with_reducible eapply Frame.via) <;> [(with_reducible first | apply State.armRequest_touches); rfl; exact among_sub rfl; skip])
    | ((with_reducible refine Frame.onTask ?_ ?_ ?_) <;> [rfl; intro _ _; skip])
    | ((with_reducible refine Frame.steps ?_ ?_) <;> [intro _ _; skip])
    | ((with_reducible refine Frame.choose ?_ ?_) <;> intro _)
    | split

theorem execStopGroup_touches (t : Fin 8) (g : Fin 8) (s : State) : Frames s (execStopGroup t g s) [.triggers] (among [.REEL]) := by
  unfold execStopGroup
  try dsimp only
  refine ⟨_, rfl, ?_⟩
  repeat' first
    | (with_reducible exact Frame.refl _ _ _)
    | ((with_reducible eapply Frame.via) <;> [(with_reducible first | apply State.requestStop_touches); rfl; exact among_sub rfl; skip])
    | ((with_reducible refine Frame.onTask ?_ ?_ ?_) <;> [rfl; intro _ _; skip])
    | ((with_reducible refine Frame.steps ?_ ?_) <;> [intro _ _; skip])
    | ((with_reducible refine Frame.choose ?_ ?_) <;> intro _)
    | split

theorem execReelStart_touches (r : Fin 1024) (s : State) : Frames s (execReelStart r s) [.loans, .engines, .heads, .ranges, .lines, .calSets, .calPends, .edges, .arcBuf] anyKey := by
  unfold execReelStart
  try dsimp only
  refine ⟨_, rfl, ?_⟩
  repeat' first
    | (with_reducible exact Frame.refl _ _ _)
    | ((with_reducible eapply Frame.via) <;> [(with_reducible first | apply State.runChain_touches); rfl; exact anyKey_sub; skip])
    | ((with_reducible refine Frame.choose ?_ ?_) <;> intro _)
    | split

theorem execCueBoundary_touches (r : Fin 1024) (s : State) : Frames s (execCueBoundary r s) [.loans, .engines, .heads, .ranges, .lines, .calSets, .calPends, .edges, .arcBuf] anyKey := by
  unfold execCueBoundary
  try dsimp only
  refine ⟨_, rfl, ?_⟩
  repeat' first
    | (with_reducible exact Frame.refl _ _ _)
    | ((with_reducible eapply Frame.via) <;> [(with_reducible first | apply State.leaveCue_touches | apply State.loopCutHere_touches | apply State.passEnd_touches | apply State.resolveBefore_touches | apply State.runChain_touches | apply State.streamPassEnd_touches); rfl; exact anyKey_sub; skip])
    | ((with_reducible refine Frame.choose ?_ ?_) <;> intro _)
    | split

theorem execWaitEnd_touches (r : Fin 1024) (s : State) : Frames s (execWaitEnd r s) [.loans, .engines, .heads, .ranges, .lines, .calSets, .calPends, .edges, .arcBuf] anyKey := by
  unfold execWaitEnd
  try dsimp only
  refine ⟨_, rfl, ?_⟩
  repeat' first
    | (with_reducible exact Frame.refl _ _ _)
    | ((with_reducible eapply Frame.via) <;> [(with_reducible first | apply State.afterWait_touches); rfl; exact anyKey_sub; skip])
    | ((with_reducible refine Frame.choose ?_ ?_) <;> intro _)
    | split

theorem execWaitTimeout_touches (r : Fin 1024) (s : State) : Frames s (execWaitTimeout r s) [.loans, .engines, .heads, .ranges, .lines, .calSets, .calPends, .edges, .arcBuf] anyKey := by
  unfold execWaitTimeout
  try dsimp only
  refine ⟨_, rfl, ?_⟩
  repeat' first
    | (with_reducible exact Frame.refl _ _ _)
    | ((with_reducible eapply Frame.via) <;> [(with_reducible first | apply State.afterWait_touches); rfl; exact anyKey_sub; skip])
    | ((with_reducible refine Frame.choose ?_ ?_) <;> intro _)
    | split

theorem execStopTakeEffect_touches (r : Fin 1024) (s : State) : Frames s (execStopTakeEffect r s) [.engines, .edges, .arcBuf] (among [.CAL_CH_STATUS, .CAL_EVT, .CAL_STATUS, .COR_GRP_EVT, .COR_GRP_STATUS, .IC_ARC_EVT, .IC_ARC_LOST, .IC_LDG, .L_CAL_RUN, .L_COR_RAMP, .L_COR_W0, .L_COR_ZERO, .REEL, .TL_CUT_EVT, .TL_LATE_CNT, .TL_LATE_LAST, .TL_LATE_WORDS_HI, .TL_LATE_WORDS_LO, .TL_REEL_ACTIVE, .TL_REEL_FAULTED, .TL_VSTG_EVT, .TL_VSTG_PEND]) := by
  unfold execStopTakeEffect
  try dsimp only
  refine ⟨_, rfl, ?_⟩
  repeat' first
    | (with_reducible exact Frame.refl _ _ _)
    | ((with_reducible eapply Frame.via) <;> [(with_reducible first | apply State.enterStopping_touches); rfl; exact among_sub rfl; skip])
    | ((with_reducible refine Frame.choose ?_ ?_) <;> intro _)
    | split

theorem execReelStopDone_touches (r : Fin 1024) (s : State) : Frames s (execReelStopDone r s) [.loans, .engines, .heads, .edges, .arcBuf] (among [.CAL_CH_STATUS, .CAL_EVT, .CAL_STATUS, .COR_GRP_EVT, .COR_GRP_STATUS, .IC_ARC_EVT, .IC_ARC_LOST, .IC_LDG, .L_CAL_RUN, .L_COR_RAMP, .L_COR_W0, .L_COR_ZERO, .L_STRM_RET, .MS_EVT, .REEL, .TL_CUT_EVT, .TL_HEAD_MISS, .TL_HEAD_STATUS, .TL_REEL_ACTIVE, .TL_REEL_EVT, .TL_REEL_FAULTED]) := by
  unfold execReelStopDone
  try dsimp only
  refine ⟨_, rfl, ?_⟩
  repeat' first
    | (with_reducible exact Frame.refl _ _ _)
    | ((with_reducible refine Frame.putFlag ?_ ?_) <;> [rfl; skip])
    | ((with_reducible refine Frame.putClr ?_ ?_) <;> [rfl; skip])
    | ((with_reducible eapply Frame.via) <;> [(with_reducible first | apply State.arm_touches | apply State.dropWindow_touches | apply State.enterState_touches); rfl; exact among_sub rfl; skip])
    | ((with_reducible refine Frame.choose ?_ ?_) <;> intro _)
    | split

theorem execReelFault_touches (r : Fin 1024) (recordEcc : Bool) (s : State) : Frames s (execReelFault r recordEcc s) [.loans, .engines, .heads, .edges, .arcBuf] (among [.CAL_CH_STATUS, .CAL_EVT, .CAL_STATUS, .COR_GRP_EVT, .COR_GRP_STATUS, .IC_ARC_EVT, .IC_ARC_LOST, .IC_LDG, .L_CAL_RUN, .L_COR_RAMP, .L_COR_W0, .L_COR_ZERO, .L_STRM_RET, .REEL, .TL_CUT_EVT, .TL_HEAD_MISS, .TL_HEAD_STATUS, .TL_LATE_CNT, .TL_LATE_LAST, .TL_LATE_WORDS_HI, .TL_LATE_WORDS_LO, .TL_REEL_ACTIVE, .TL_REEL_EVT, .TL_REEL_FAULTED, .TL_REEL_FLT_LAST, .TL_SP_ECC, .TL_SP_EVT, .TL_VSTG_EVT, .TL_VSTG_PEND]) := by
  unfold execReelFault
  try dsimp only
  refine ⟨_, rfl, ?_⟩
  repeat' first
    | (with_reducible exact Frame.refl _ _ _)
    | ((with_reducible refine Frame.putFlag ?_ ?_) <;> [rfl; skip])
    | ((with_reducible refine Frame.putBump ?_ ?_) <;> [rfl; skip])
    | ((with_reducible eapply Frame.via) <;> [(with_reducible first | apply State.enterFault_touches | apply State.pendFault_touches | apply State.raiseFrame); rfl; exact among_sub rfl; skip])
    | ((with_reducible refine Frame.choose ?_ ?_) <;> intro _)
    | split

theorem execCueEventPulse_touches (r : Fin 1024) (s : State) : Frames s (execCueEventPulse r s) [.engines, .edges] (among [.L_PROD_WORD]) := by
  unfold execCueEventPulse
  try dsimp only
  refine ⟨_, rfl, ?_⟩
  repeat' first
    | (with_reducible exact Frame.refl _ _ _)
    | ((with_reducible eapply Frame.via) <;> [(with_reducible first | apply State.onEng_touches | apply State.tilePulse_touches); rfl; exact among_sub rfl; skip])
    | ((with_reducible refine Frame.steps ?_ ?_) <;> [intro _ _; skip])

end Sys2Proof.Machine
end

