-- ==== Sys2Proof/Laws/FramesVoiceCmds.lean ====
section
/-!
SUPPORT. The frames of the operations of Machine/VoiceCmds.lean: the parts and registers each may change.
-/
set_option linter.unusedTactic false
set_option linter.unreachableTactic false
set_option linter.unusedVariables false
set_option linter.unusedSimpArgs false
namespace Sys2Proof.Machine

theorem State.stageVoice_touches (s : State) (r kind v : Nat) : Frame s (State.stageVoice s r kind v) [.engines] (among []) := by
  unfold State.stageVoice
  try dsimp only
  repeat' first
    | (with_reducible exact Frame.refl _ _ _)
    | ((with_reducible eapply Frame.via) <;> [(with_reducible first | apply State.onEng_touches); rfl; exact among_sub rfl; skip])

theorem State.commitSet_touches (s : State) (r : Nat) : Frame s (State.commitSet s r) [.engines] (among [.TL_VSTG_EVT, .TL_VSTG_PEND]) := by
  unfold State.commitSet
  try dsimp only
  repeat' first
    | (with_reducible exact Frame.refl _ _ _)
    | ((with_reducible refine Frame.putFlag ?_ ?_) <;> [rfl; skip])
    | ((with_reducible refine Frame.putSetBit ?_ ?_) <;> [exact fun _ => rfl; skip])
    | ((with_reducible eapply Frame.via) <;> [(with_reducible first | apply State.onEng_touches); rfl; exact among_sub rfl; skip])
    | (with_reducible refine Frame.step ?_ ?_)
    | ((with_reducible refine Frame.choose ?_ ?_) <;> intro _)
    | split

theorem State.stgDone_touches (s : State) (t res : Nat) : Frame s (State.stgDone s t res) [] (among [.TL_VSTG_CMD]) := by
  unfold State.stgDone
  try dsimp only
  repeat' first
    | (with_reducible exact Frame.refl _ _ _)
    | ((with_reducible refine Frame.puts ?_ ?_) <;> [(simp [among, anyKey]; done); skip])
    | ((with_reducible refine Frame.putsCons ?_ ?_) <;> [rfl; skip])

theorem execVoiceStage_touches (t : Fin 8) (both : Bool) (s : State) : Frames s (execVoiceStage t both s) [.engines] (among [.AON_PWR_EVT, .TL_VSTG_CMD]) := by
  unfold execVoiceStage
  try dsimp only
  refine ⟨_, rfl, ?_⟩
  repeat' first
    | (with_reducible exact Frame.refl _ _ _)
    | ((with_reducible eapply Frame.via) <;> [(with_reducible first | apply State.stageVoice_touches | apply State.stgDone_touches); rfl; exact among_sub rfl; skip])
    | ((with_reducible refine Frame.host ?_ ?_ ?_) <;> [rfl; skip; skip])
    | ((with_reducible refine Frame.choose ?_ ?_) <;> intro _)
    | split

theorem execVoiceCommit_touches (t : Fin 8) (both : Bool) (s : State) : Frames s (execVoiceCommit t both s) [.engines] (among [.AON_PWR_EVT, .TL_VSTG_CMD, .TL_VSTG_EVT, .TL_VSTG_PEND]) := by
  unfold execVoiceCommit
  try dsimp only
  refine ⟨_, rfl, ?_⟩
  repeat' first
    | (with_reducible exact Frame.refl _ _ _)
    | ((with_reducible eapply Frame.via) <;> [(with_reducible first | apply State.commitSet_touches | apply State.stgDone_touches); rfl; exact among_sub rfl; skip])
    | ((with_reducible refine Frame.host ?_ ?_ ?_) <;> [rfl; skip; skip])
    | ((with_reducible refine Frame.choose ?_ ?_) <;> intro _)
    | split

theorem execVoiceUpdateApply_touches (r : Fin 1024) (s : State) : Frames s (execVoiceUpdateApply r s) [.engines, .arcBuf] (among [.COR_CNT, .COR_GRP_EVT, .IC_ARC_EVT, .IC_ARC_LOST, .IC_LDG, .L_COR_BUSY, .REEL, .TL_VSTG_EVT, .TL_VSTG_LAST, .TL_VSTG_PEND, .TL_VSTG_TICK_HI, .TL_VSTG_TICK_LO]) := by
  unfold execVoiceUpdateApply
  try dsimp only
  refine ⟨_, rfl, ?_⟩
  repeat' first
    | (with_reducible exact Frame.refl _ _ _)
    | ((with_reducible eapply Frame.via) <;> [(with_reducible first | apply State.applyPending_touches); rfl; exact among_sub rfl; skip])
    | ((with_reducible refine Frame.choose ?_ ?_) <;> intro _)
    | split

theorem execSweepPieceStart_touches (r : Fin 1024) (s : State) : Frames s (execSweepPieceStart r s) [.loans, .engines, .heads, .edges, .arcBuf] (among [.CAL_CH_STATUS, .CAL_EVT, .CAL_STATUS, .COR_GRP_EVT, .COR_GRP_STATUS, .IC_ARC_EVT, .IC_ARC_LOST, .IC_LDG, .L_CAL_RUN, .L_COR_RAMP, .L_COR_W0, .L_COR_ZERO, .L_STRM_RET, .REEL, .TL_CUT_EVT, .TL_HEAD_MISS, .TL_HEAD_STATUS, .TL_LATE_CNT, .TL_LATE_LAST, .TL_LATE_WORDS_HI, .TL_LATE_WORDS_LO, .TL_REEL_ACTIVE, .TL_REEL_EVT, .TL_REEL_FAULTED, .TL_REEL_FLT_LAST, .TL_VSTG_EVT, .TL_VSTG_PEND]) := by
  unfold execSweepPieceStart
  try dsimp only
  refine ⟨_, rfl, ?_⟩
  repeat' first
    | (with_reducible exact Frame.refl _ _ _)
    | ((with_reducible eapply Frame.via) <;> [(with_reducible first | apply State.foldPiece_touches | apply State.startSweep_touches); rfl; exact among_sub rfl; skip])
    | ((with_reducible refine Frame.choose ?_ ?_) <;> intro _)
    | split

end Sys2Proof.Machine
end

