-- ==== Sys2Proof/Laws/FramesCorrector.lean ====
section
/-!
SUPPORT. The frames of the operations of Machine/Corrector.lean: the parts and registers each may change.
-/
set_option linter.unusedTactic false
set_option linter.unreachableTactic false
set_option linter.unusedVariables false
set_option linter.unusedSimpArgs false
namespace Sys2Proof.Machine

theorem Frame.corCmd {s a : State} {ps : List Part} {p : Key → Bool} {g : Nat} {m : Bool} {f : State → State} (hp : [Part.edges, .arcBuf].all ps.contains = true)
    (hk : ∀ k, among [.COR_GRP_EVT, .COR_GRP_STATUS, .IC_ARC_EVT, .IC_ARC_LOST, .IC_LDG, .L_COR_RAMP, .L_COR_W0, .L_COR_ZERO, .REEL] k = true → p k = true) (h : Frame a (f a) ps p) (e : Frame s a ps p) : Frame s (a.corCmd g m f) ps p := by
  unfold State.corCmd
  split
  · exact e.put (hk _ rfl)
  · split
    · exact e.trans ((State.raiseOnceFrame a _ _ _ _).mono (fun x hx => by simp at hx hp; subst hx; simp [hp]) (fun k x => hk k (among_sub rfl k x)))
    · exact (e.trans h).trans ((State.corHardCheck_touches _ _).mono (fun x hx => by simp at hx hp; rcases hx with rfl | rfl <;> simp [hp]) (fun k x => hk k (among_sub rfl k x)))

theorem State.setHValid_touches (s : State) (g : Nat) (v : Bool) : Frame s (State.setHValid s g v) [.mem] (among [.COR_GRP_STATUS]) := by
  unfold State.setHValid
  try dsimp only
  repeat' first
    | (with_reducible exact Frame.refl _ _ _)
    | ((with_reducible refine Frame.put ?_ ?_) <;> [rfl; skip])
    | ((with_reducible eapply Frame.via) <;> [(with_reducible first | apply State.segStoreFrame); rfl; exact among_sub rfl; skip])

theorem State.corBegin_touches (s : State) (g : Nat) : Frame s (State.corBegin s g) [.mem, .edges] (among [.COR_CNT, .COR_GRP_EVT, .COR_GRP_STATUS, .L_COR_BUSY, .L_COR_CTL, .L_COR_DUE, .L_COR_FRAMES, .L_COR_RAMP, .L_COR_ZERO]) := by
  unfold State.corBegin
  try dsimp only
  repeat' first
    | (with_reducible exact Frame.refl _ _ _)
    | ((with_reducible refine Frame.put ?_ ?_) <;> [rfl; skip])
    | ((with_reducible refine Frame.putFlag ?_ ?_) <;> [rfl; skip])
    | ((with_reducible refine Frame.putClr ?_ ?_) <;> [rfl; skip])
    | ((with_reducible refine Frame.puts ?_ ?_) <;> [(simp [among, anyKey]; done); skip])
    | ((with_reducible refine Frame.putsCons ?_ ?_) <;> [rfl; skip])
    | ((with_reducible eapply Frame.via) <;> [(with_reducible first | apply State.corState_touches | apply State.setHValid_touches); rfl; exact among_sub rfl; skip])
    | ((with_reducible refine Frame.choose ?_ ?_) <;> intro _)
    | split

theorem State.corPending_touches (s : State) (g : Nat) : Frame s (State.corPending s g) [.mem, .edges, .arcBuf] (among [.COR_CNT, .COR_GRP_EVT, .COR_GRP_STATUS, .IC_ARC_EVT, .IC_ARC_LOST, .IC_LDG, .L_COR_BUSY, .L_COR_CTL, .L_COR_DUE, .L_COR_FRAMES, .L_COR_RAMP, .L_COR_W0, .L_COR_ZERO, .REEL]) := by
  unfold State.corPending
  try dsimp only
  repeat' first
    | (with_reducible exact Frame.refl _ _ _)
    | ((with_reducible eapply Frame.via) <;> [(with_reducible first | apply State.corBegin_touches | apply State.corHardCheck_touches); rfl; exact among_sub rfl; skip])
    | ((with_reducible refine Frame.choose ?_ ?_) <;> intro _)
    | split

theorem State.dropUpdates_touches (s : State) (g : Nat) : Frame s (State.dropUpdates s g) [.engines] (among [.L_COR_BUSY, .TL_VSTG_PEND]) := by
  unfold State.dropUpdates
  try dsimp only
  repeat' first
    | (with_reducible exact Frame.refl _ _ _)
    | ((with_reducible refine Frame.putClr ?_ ?_) <;> [rfl; skip])
    | ((with_reducible refine Frame.putClrBit ?_ ?_) <;> [exact fun _ => rfl; skip])
    | ((with_reducible eapply Frame.via) <;> [(with_reducible first | apply State.onEng_touches); rfl; exact among_sub rfl; skip])
    | ((with_reducible refine Frame.steps ?_ ?_) <;> [intro _ _; skip])

theorem State.corStopCmd_touches (s : State) (g : Nat) : Frame s (State.corStopCmd s g) [.edges] (among [.COR_GRP_EVT, .COR_GRP_STATUS, .L_COR_RAMP, .L_COR_W0]) := by
  unfold State.corStopCmd
  try dsimp only
  repeat' first
    | (with_reducible exact Frame.refl _ _ _)
    | ((with_reducible refine Frame.putClr ?_ ?_) <;> [rfl; skip])
    | ((with_reducible eapply Frame.via) <;> [(with_reducible first | apply State.corRamp_touches | apply State.corState_touches); rfl; exact among_sub rfl; skip])
    | ((with_reducible refine Frame.choose ?_ ?_) <;> intro _)
    | split

theorem State.corAbortCmd_touches (s : State) (g : Nat) : Frame s (State.corAbortCmd s g) [.edges, .arcBuf] (among [.COR_GRP_EVT, .COR_GRP_STATUS, .IC_ARC_EVT, .IC_ARC_LOST, .IC_LDG, .L_COR_RAMP, .L_COR_W0, .L_COR_ZERO, .REEL]) := by
  unfold State.corAbortCmd
  try dsimp only
  repeat' first
    | (with_reducible exact Frame.refl _ _ _)
    | ((with_reducible refine Frame.putClr ?_ ?_) <;> [rfl; skip])
    | ((with_reducible eapply Frame.via) <;> [(with_reducible first | apply State.corAbort_touches); rfl; exact among_sub rfl; skip])
    | ((with_reducible refine Frame.choose ?_ ?_) <;> intro _)
    | split

theorem State.swapBanks_touches (s : State) (g : Nat) : Frame s (State.swapBanks s g) [] (among [.COR_GRP_EVT, .COR_GRP_STATUS, .L_COR_SWAP]) := by
  unfold State.swapBanks
  try dsimp only
  repeat' first
    | (with_reducible exact Frame.refl _ _ _)
    | ((with_reducible refine Frame.puts ?_ ?_) <;> [(simp [among, anyKey]; done); skip])
    | ((with_reducible refine Frame.putsCons ?_ ?_) <;> [rfl; skip])

theorem State.corDiscard_touches (s : State) (g : Nat) : Frame s (State.corDiscard s g) [] (among [.COR_CNT, .COR_GRP_EVT]) := by
  unfold State.corDiscard
  try dsimp only
  repeat' first
    | (with_reducible exact Frame.refl _ _ _)
    | ((with_reducible refine Frame.putFlag ?_ ?_) <;> [rfl; skip])
    | ((with_reducible refine Frame.putBump ?_ ?_) <;> [rfl; skip])

theorem State.storeWrites_touches (s : State) (g : Nat) (l : List (Nat × List (BitVec 8))) : Frame s (State.storeWrites s g l) [.mem] (among []) := by
  unfold State.storeWrites
  try dsimp only
  repeat' first
    | (with_reducible exact Frame.refl _ _ _)
    | ((with_reducible eapply Frame.via) <;> [(with_reducible first | apply State.segStoreFrame); rfl; exact among_sub rfl; skip])
    | ((with_reducible refine Frame.steps ?_ ?_) <;> [intro _ _; skip])

theorem State.corLevels_touches (s : State) (g : Nat) (cur tag : Int) : Frame s (State.corLevels s g cur tag) [.arcBuf] (among [.COR_DRV_LVL, .COR_GRP_EVT, .COR_GRP_STATUS, .IC_ARC_EVT, .IC_ARC_LOST, .IC_LDG]) := by
  unfold State.corLevels
  try dsimp only
  repeat' first
    | (with_reducible exact Frame.refl _ _ _)
    | ((with_reducible refine Frame.put ?_ ?_) <;> [rfl; skip])
    | ((with_reducible refine Frame.putFlag ?_ ?_) <;> [rfl; skip])
    | ((with_reducible refine Frame.putSeti ?_ ?_) <;> [rfl; skip])
    | ((with_reducible eapply Frame.via) <;> [(with_reducible first | apply State.archiveFrame); rfl; exact among_sub rfl; skip])
    | ((with_reducible refine Frame.choose ?_ ?_) <;> intro _)
    | split

theorem State.corQual_touches (s : State) (g : Nat) (errs : List (List Int)) : Frame s (State.corQual s g errs) [] (among [.COR_QUAL]) := by
  unfold State.corQual
  try dsimp only
  repeat' first
    | (with_reducible exact Frame.refl _ _ _)
    | ((with_reducible refine Frame.put ?_ ?_) <;> [rfl; skip])
    | ((with_reducible refine Frame.choose ?_ ?_) <;> intro _)
    | split

theorem State.corChecks_touches (s : State) (g : Nat) (errs : List (List Int)) (rms : List Int) : Frame s (State.corChecks s g errs rms) [.edges, .arcBuf] (among [.COR_GRP_EVT, .COR_GRP_STATUS, .COR_QUAL, .IC_ARC_EVT, .IC_ARC_LOST, .IC_LDG, .L_COR_RAMP, .L_COR_W0, .L_COR_ZERO, .REEL]) := by
  unfold State.corChecks
  try dsimp only
  repeat' first
    | (with_reducible exact Frame.refl _ _ _)
    | ((with_reducible refine Frame.put ?_ ?_) <;> [rfl; skip])
    | ((with_reducible refine Frame.putFlag ?_ ?_) <;> [rfl; skip])
    | ((with_reducible eapply Frame.via) <;> [(with_reducible first | apply State.corAbort_touches | apply State.corQual_touches); rfl; exact among_sub rfl; skip])
    | (with_reducible refine Frame.step ?_ ?_)
    | split

theorem State.corCount_touches (s : State) (g : Nat) : Frame s (State.corCount s g) [.mem] (among [.COR_GRP_STATUS, .L_COR_CTL, .L_COR_FRAMES]) := by
  unfold State.corCount
  try dsimp only
  repeat' first
    | (with_reducible exact Frame.refl _ _ _)
    | ((with_reducible refine Frame.putFlag ?_ ?_) <;> [rfl; skip])
    | ((with_reducible refine Frame.putBump ?_ ?_) <;> [rfl; skip])
    | ((with_reducible eapply Frame.via) <;> [(with_reducible first | apply State.segStoreFrame | apply State.setHValid_touches); rfl; exact among_sub rfl; skip])
    | (with_reducible refine Frame.step ?_ ?_)
    | ((with_reducible refine Frame.choose ?_ ?_) <;> intro _)
    | split

theorem State.corAccept_touches (s : State) (g : Nat) (errs : List (List Int)) (rms : List Int) (cur tag : Int) (tag32 : Nat) (store : List (Nat × List (BitVec 8))) : Frame s (State.corAccept s g errs rms cur tag tag32 store) [.mem, .edges, .arcBuf] (among [.COR_DRV_LVL, .COR_GRP_EVT, .COR_GRP_STATUS, .COR_QUAL, .IC_ARC_EVT, .IC_ARC_LOST, .IC_LDG, .L_COR_CTL, .L_COR_FRAMES, .L_COR_RAMP, .L_COR_W0, .L_COR_ZERO, .REEL]) := by
  unfold State.corAccept
  try dsimp only
  repeat' first
    | (with_reducible exact Frame.refl _ _ _)
    | ((with_reducible eapply Frame.via) <;> [(with_reducible first | apply State.corChecks_touches | apply State.corCount_touches | apply State.corLevels_touches | apply State.segStoreFrame | apply State.storeWrites_touches); rfl; exact among_sub rfl; skip])

theorem State.corInputFlags_touches (s : State) (g sat flagged : Nat) : Frame s (State.corInputFlags s g sat flagged) [] (among [.COR_IN_STAT]) := by
  unfold State.corInputFlags
  try dsimp only
  repeat' first
    | (with_reducible exact Frame.refl _ _ _)
    | ((with_reducible refine Frame.putFlag ?_ ?_) <;> [rfl; skip])
    | ((with_reducible refine Frame.steps ?_ ?_) <;> [intro _ _; skip])

theorem State.sineUpdate_touches (s : State) (g : Nat) (upd : List (Nat × Nat × Int)) : Frame s (State.sineUpdate s g upd) [.engines] (among [.COR_GRP_EVT, .COR_GRP_STATUS, .L_COR_BUSY, .L_COR_SWAP, .TL_VSTG_EVT, .TL_VSTG_PEND]) := by
  unfold State.sineUpdate
  try dsimp only
  repeat' first
    | (with_reducible exact Frame.refl _ _ _)
    | ((with_reducible refine Frame.putFlag ?_ ?_) <;> [rfl; skip])
    | ((with_reducible eapply Frame.via) <;> [(with_reducible first | apply State.commitSet_touches | apply State.stageVoice_touches | apply State.swapBanks_touches); rfl; exact among_sub rfl; skip])
    | (with_reducible refine Frame.step ?_ ?_)
    | ((with_reducible refine Frame.steps ?_ ?_) <;> [intro _ _; skip])
    | ((with_reducible refine Frame.choose ?_ ?_) <;> intro _)
    | split

theorem execCorStart_touches (g : Fin 4) (multi : Bool) (s : State) : Frames s (execCorStart g multi s) [.mem, .edges, .arcBuf] (among [.AON_PWR_EVT, .COR_CNT, .COR_GRP_EVT, .COR_GRP_STATUS, .IC_ARC_EVT, .IC_ARC_LOST, .IC_LDG, .L_COR_BUSY, .L_COR_CTL, .L_COR_DUE, .L_COR_FRAMES, .L_COR_RAMP, .L_COR_W0, .L_COR_ZERO, .REEL]) := by
  unfold execCorStart
  try dsimp only
  refine ⟨_, rfl, ?_⟩
  repeat' first
    | (with_reducible exact Frame.refl _ _ _)
    | ((with_reducible refine Frame.putFlag ?_ ?_) <;> [rfl; skip])
    | ((with_reducible refine Frame.puts ?_ ?_) <;> [(simp [among, anyKey]; done); skip])
    | ((with_reducible refine Frame.putsCons ?_ ?_) <;> [rfl; skip])
    | ((with_reducible eapply Frame.via) <;> [(with_reducible first | apply State.corBegin_touches); rfl; exact among_sub rfl; skip])
    | ((with_reducible refine Frame.corCmd ?_ ?_ ?_ ?_) <;> [rfl; (first | exact among_sub rfl | exact anyKey_sub); skip; skip])
    | ((with_reducible refine Frame.host ?_ ?_ ?_) <;> [rfl; skip; skip])
    | ((with_reducible refine Frame.choose ?_ ?_) <;> intro _)
    | split

theorem execCorClose_touches (g : Fin 4) (multi : Bool) (s : State) : Frames s (execCorClose g multi s) [.edges, .arcBuf] (among [.AON_PWR_EVT, .COR_GRP_EVT, .COR_GRP_STATUS, .IC_ARC_EVT, .IC_ARC_LOST, .IC_LDG, .L_COR_CTL, .L_COR_DUE, .L_COR_RAMP, .L_COR_W0, .L_COR_ZERO, .REEL]) := by
  unfold execCorClose
  try dsimp only
  refine ⟨_, rfl, ?_⟩
  repeat' first
    | (with_reducible exact Frame.refl _ _ _)
    | ((with_reducible refine Frame.putFlag ?_ ?_) <;> [rfl; skip])
    | ((with_reducible refine Frame.puts ?_ ?_) <;> [(simp [among, anyKey]; done); skip])
    | ((with_reducible refine Frame.putsCons ?_ ?_) <;> [rfl; skip])
    | ((with_reducible eapply Frame.via) <;> [(with_reducible first | apply State.corState_touches); rfl; exact among_sub rfl; skip])
    | ((with_reducible refine Frame.corCmd ?_ ?_ ?_ ?_) <;> [rfl; (first | exact among_sub rfl | exact anyKey_sub); skip; skip])
    | ((with_reducible refine Frame.host ?_ ?_ ?_) <;> [rfl; skip; skip])
    | ((with_reducible refine Frame.choose ?_ ?_) <;> intro _)
    | split

theorem execCorHold_touches (g : Fin 4) (multi : Bool) (s : State) : Frames s (execCorHold g multi s) [.engines, .edges, .arcBuf] (among [.AON_PWR_EVT, .COR_GRP_EVT, .COR_GRP_STATUS, .IC_ARC_EVT, .IC_ARC_LOST, .IC_LDG, .L_COR_BUSY, .L_COR_DUE, .L_COR_RAMP, .L_COR_W0, .L_COR_ZERO, .REEL, .TL_VSTG_PEND]) := by
  unfold execCorHold
  try dsimp only
  refine ⟨_, rfl, ?_⟩
  repeat' first
    | (with_reducible exact Frame.refl _ _ _)
    | ((with_reducible refine Frame.putClr ?_ ?_) <;> [rfl; skip])
    | ((with_reducible eapply Frame.via) <;> [(with_reducible first | apply State.corState_touches | apply State.dropUpdates_touches); rfl; exact among_sub rfl; skip])
    | ((with_reducible refine Frame.corCmd ?_ ?_ ?_ ?_) <;> [rfl; (first | exact among_sub rfl | exact anyKey_sub); skip; skip])
    | ((with_reducible refine Frame.host ?_ ?_ ?_) <;> [rfl; skip; skip])
    | ((with_reducible refine Frame.choose ?_ ?_) <;> intro _)
    | split

theorem execCorResume_touches (g : Fin 4) (multi : Bool) (s : State) : Frames s (execCorResume g multi s) [.edges, .arcBuf] (among [.AON_PWR_EVT, .COR_GRP_EVT, .COR_GRP_STATUS, .IC_ARC_EVT, .IC_ARC_LOST, .IC_LDG, .L_COR_RAMP, .L_COR_W0, .L_COR_ZERO, .REEL]) := by
  unfold execCorResume
  try dsimp only
  refine ⟨_, rfl, ?_⟩
  repeat' first
    | (with_reducible exact Frame.refl _ _ _)
    | ((with_reducible eapply Frame.via) <;> [(with_reducible first | apply State.corState_touches); rfl; exact among_sub rfl; skip])
    | ((with_reducible refine Frame.corCmd ?_ ?_ ?_ ?_) <;> [rfl; (first | exact among_sub rfl | exact anyKey_sub); skip; skip])
    | ((with_reducible refine Frame.host ?_ ?_ ?_) <;> [rfl; skip; skip])
    | ((with_reducible refine Frame.choose ?_ ?_) <;> intro _)
    | split

theorem execCorStop_touches (g : Fin 4) (multi : Bool) (s : State) : Frames s (execCorStop g multi s) [.edges, .arcBuf] (among [.AON_PWR_EVT, .COR_GRP_EVT, .COR_GRP_STATUS, .IC_ARC_EVT, .IC_ARC_LOST, .IC_LDG, .L_COR_RAMP, .L_COR_W0, .L_COR_ZERO, .REEL]) := by
  unfold execCorStop
  try dsimp only
  refine ⟨_, rfl, ?_⟩
  repeat' first
    | (with_reducible exact Frame.refl _ _ _)
    | ((with_reducible eapply Frame.via) <;> [(with_reducible first | apply State.corStopCmd_touches); rfl; exact among_sub rfl; skip])
    | ((with_reducible refine Frame.corCmd ?_ ?_ ?_ ?_) <;> [rfl; (first | exact among_sub rfl | exact anyKey_sub); skip; skip])
    | ((with_reducible refine Frame.host ?_ ?_ ?_) <;> [rfl; skip; skip])

theorem execCorAbort_touches (g : Fin 4) (multi : Bool) (s : State) : Frames s (execCorAbort g multi s) [.edges, .arcBuf] (among [.AON_PWR_EVT, .COR_GRP_EVT, .COR_GRP_STATUS, .IC_ARC_EVT, .IC_ARC_LOST, .IC_LDG, .L_COR_RAMP, .L_COR_W0, .L_COR_ZERO, .REEL]) := by
  unfold execCorAbort
  try dsimp only
  refine ⟨_, rfl, ?_⟩
  repeat' first
    | (with_reducible exact Frame.refl _ _ _)
    | ((with_reducible eapply Frame.via) <;> [(with_reducible first | apply State.corAbortCmd_touches); rfl; exact among_sub rfl; skip])
    | ((with_reducible refine Frame.corCmd ?_ ?_ ?_ ?_) <;> [rfl; (first | exact among_sub rfl | exact anyKey_sub); skip; skip])
    | ((with_reducible refine Frame.host ?_ ?_ ?_) <;> [rfl; skip; skip])

theorem execCorClear_touches (g : Fin 4) (multi : Bool) (s : State) : Frames s (execCorClear g multi s) [.edges, .arcBuf] (among [.AON_PWR_EVT, .COR_GRP_EVT, .COR_GRP_STATUS, .IC_ARC_EVT, .IC_ARC_LOST, .IC_LDG, .L_COR_RAMP, .L_COR_W0, .L_COR_ZERO, .REEL]) := by
  unfold execCorClear
  try dsimp only
  refine ⟨_, rfl, ?_⟩
  repeat' first
    | (with_reducible exact Frame.refl _ _ _)
    | ((with_reducible refine Frame.puts ?_ ?_) <;> [(simp [among, anyKey]; done); skip])
    | ((with_reducible refine Frame.putsCons ?_ ?_) <;> [rfl; skip])
    | ((with_reducible eapply Frame.via) <;> [(with_reducible first | apply State.corState_touches); rfl; exact among_sub rfl; skip])
    | ((with_reducible refine Frame.corCmd ?_ ?_ ?_ ?_) <;> [rfl; (first | exact among_sub rfl | exact anyKey_sub); skip; skip])
    | ((with_reducible refine Frame.host ?_ ?_ ?_) <;> [rfl; skip; skip])
    | ((with_reducible refine Frame.choose ?_ ?_) <;> intro _)
    | split

theorem execCorRefSwap_touches (g : Fin 4) (multi : Bool) (s : State) : Frames s (execCorRefSwap g multi s) [.edges, .arcBuf] (among [.AON_PWR_EVT, .COR_GRP_EVT, .COR_GRP_STATUS, .IC_ARC_EVT, .IC_ARC_LOST, .IC_LDG, .L_COR_RAMP, .L_COR_SWAP, .L_COR_W0, .L_COR_ZERO, .REEL]) := by
  unfold execCorRefSwap
  try dsimp only
  refine ⟨_, rfl, ?_⟩
  repeat' first
    | (with_reducible exact Frame.refl _ _ _)
    | ((with_reducible refine Frame.putFlag ?_ ?_) <;> [rfl; skip])
    | ((with_reducible eapply Frame.via) <;> [(with_reducible first | apply State.swapBanks_touches); rfl; exact among_sub rfl; skip])
    | ((with_reducible refine Frame.corCmd ?_ ?_ ?_ ?_) <;> [rfl; (first | exact among_sub rfl | exact anyKey_sub); skip; skip])
    | ((with_reducible refine Frame.host ?_ ?_ ?_) <;> [rfl; skip; skip])
    | ((with_reducible refine Frame.choose ?_ ?_) <;> intro _)
    | split

theorem execCorLevelWrite_touches (g : Fin 4) (v : Nat) (s : State) : Frames s (execCorLevelWrite g v s) [] (among [.AON_PWR_EVT, .COR_GRP_STATUS, .COR_LEVEL, .L_COR_CTL]) := by
  unfold execCorLevelWrite
  try dsimp only
  refine ⟨_, rfl, ?_⟩
  repeat' first
    | (with_reducible exact Frame.refl _ _ _)
    | ((with_reducible refine Frame.puts ?_ ?_) <;> [(simp [among, anyKey]; done); skip])
    | ((with_reducible refine Frame.putsCons ?_ ?_) <;> [rfl; skip])
    | ((with_reducible refine Frame.host ?_ ?_ ?_) <;> [rfl; skip; skip])

theorem execCorAbortTask_touches (g : Fin 4) (s : State) : Frames s (execCorAbortTask g s) [.edges, .triggers, .arcBuf] (among [.COR_GRP_EVT, .COR_GRP_STATUS, .IC_ARC_EVT, .IC_ARC_LOST, .IC_LDG, .L_COR_RAMP, .L_COR_W0, .L_COR_ZERO, .REEL]) := by
  unfold execCorAbortTask
  try dsimp only
  refine ⟨_, rfl, ?_⟩
  repeat' first
    | (with_reducible exact Frame.refl _ _ _)
    | ((with_reducible eapply Frame.via) <;> [(with_reducible first | apply State.corAbortCmd_touches); rfl; exact among_sub rfl; skip])
    | ((with_reducible refine Frame.onTask ?_ ?_ ?_) <;> [rfl; intro _ _; skip])
    | ((with_reducible refine Frame.corCmd ?_ ?_ ?_ ?_) <;> [rfl; (first | exact among_sub rfl | exact anyKey_sub); skip; skip])

theorem execCorStopTask_touches (g : Fin 4) (s : State) : Frames s (execCorStopTask g s) [.edges, .triggers, .arcBuf] (among [.COR_GRP_EVT, .COR_GRP_STATUS, .IC_ARC_EVT, .IC_ARC_LOST, .IC_LDG, .L_COR_RAMP, .L_COR_W0, .L_COR_ZERO, .REEL]) := by
  unfold execCorStopTask
  try dsimp only
  refine ⟨_, rfl, ?_⟩
  repeat' first
    | (with_reducible exact Frame.refl _ _ _)
    | ((with_reducible eapply Frame.via) <;> [(with_reducible first | apply State.corStopCmd_touches); rfl; exact among_sub rfl; skip])
    | ((with_reducible refine Frame.onTask ?_ ?_ ?_) <;> [rfl; intro _ _; skip])
    | ((with_reducible refine Frame.corCmd ?_ ?_ ?_ ?_) <;> [rfl; (first | exact among_sub rfl | exact anyKey_sub); skip; skip])

theorem execCorFrameClose_touches (g : Fin 4) (sat flagged : Nat) (gap ecc : Bool) (errs : List (List Int)) (rms : List Int) (cur tag : Int) (tag32 : Nat)
    (store : List (Nat × List (BitVec 8))) (s : State) : Frames s (execCorFrameClose g sat flagged gap ecc errs rms cur tag tag32 store s) [.mem, .edges, .arcBuf] (among [.COR_CNT, .COR_CNT2, .COR_DRV_LVL, .COR_GRP_EVT, .COR_GRP_STATUS, .COR_IN_STAT, .COR_QUAL, .IC_ARC_EVT, .IC_ARC_LOST, .IC_LDG, .L_COR_CTL, .L_COR_DUE, .L_COR_FRAMES, .L_COR_RAMP, .L_COR_W0, .L_COR_ZERO, .REEL]) := by
  unfold execCorFrameClose
  try dsimp only
  refine ⟨_, rfl, ?_⟩
  repeat' first
    | (with_reducible exact Frame.refl _ _ _)
    | ((with_reducible refine Frame.putFlag ?_ ?_) <;> [rfl; skip])
    | ((with_reducible refine Frame.putClr ?_ ?_) <;> [rfl; skip])
    | ((with_reducible refine Frame.putBump ?_ ?_) <;> [rfl; skip])
    | ((with_reducible eapply Frame.via) <;> [(with_reducible first | apply State.corAbort_touches | apply State.corAccept_touches | apply State.corDiscard_touches | apply State.corInputFlags_touches); rfl; exact among_sub rfl; skip])
    | ((with_reducible refine Frame.choose ?_ ?_) <;> intro _)
    | split

theorem execCorUpdate_touches (g : Fin 4) (held : List Bool) (rho : List (List (Nat × Nat))) (s : State) : Frames s (execCorUpdate g held rho s) [.sp, .engines, .edges, .arcBuf] (among [.COR_CNT2, .COR_GRP_EVT, .COR_GRP_STATUS, .IC_ARC_EVT, .IC_ARC_LOST, .IC_LDG, .L_COR_BUSY, .L_COR_DUE, .L_COR_RAMP, .L_COR_SWAP, .L_COR_W0, .L_COR_ZERO, .REEL, .TL_VSTG_EVT, .TL_VSTG_PEND]) := by
  unfold execCorUpdate
  try dsimp only
  refine ⟨_, rfl, ?_⟩
  repeat' first
    | (with_reducible exact Frame.refl _ _ _)
    | ((with_reducible refine Frame.putFlag ?_ ?_) <;> [rfl; skip])
    | ((with_reducible refine Frame.puts ?_ ?_) <;> [(simp [among, anyKey]; done); skip])
    | ((with_reducible refine Frame.putsCons ?_ ?_) <;> [rfl; skip])
    | ((with_reducible eapply Frame.via) <;> [(with_reducible first | apply State.commitSet_touches | apply State.corHardCheck_touches | apply State.spStoreFrame | apply State.stageVoice_touches | apply State.swapBanks_touches); rfl; exact among_sub rfl; skip])
    | (with_reducible refine Frame.step ?_ ?_)
    | ((with_reducible refine Frame.steps ?_ ?_) <;> [intro _ _; skip])
    | ((with_reducible refine Frame.choose ?_ ?_) <;> intro _)
    | split

theorem execCorBlockEnd_touches (g : Fin 4) (sat flagged : Nat) (gap ecc : Bool) (errs : List (List Int)) (rms : List Int) (cur tag : Int) (tag32 : Nat)
    (store : List (Nat × List (BitVec 8))) (upd : List (Nat × Nat × Int)) (s : State) : Frames s (execCorBlockEnd g sat flagged gap ecc errs rms cur tag tag32 store upd s) [.mem, .engines, .edges, .arcBuf] (among [.COR_CNT, .COR_CNT2, .COR_DRV_LVL, .COR_GRP_EVT, .COR_GRP_STATUS, .COR_IN_STAT, .COR_QUAL, .IC_ARC_EVT, .IC_ARC_LOST, .IC_LDG, .L_COR_BUSY, .L_COR_CTL, .L_COR_FRAMES, .L_COR_RAMP, .L_COR_SWAP, .L_COR_W0, .L_COR_ZERO, .REEL, .TL_VSTG_EVT, .TL_VSTG_PEND]) := by
  unfold execCorBlockEnd
  try dsimp only
  refine ⟨_, rfl, ?_⟩
  repeat' first
    | (with_reducible exact Frame.refl _ _ _)
    | ((with_reducible refine Frame.putFlag ?_ ?_) <;> [rfl; skip])
    | ((with_reducible refine Frame.putBump ?_ ?_) <;> [rfl; skip])
    | ((with_reducible eapply Frame.via) <;> [(with_reducible first | apply State.corAbort_touches | apply State.corAccept_touches | apply State.corDiscard_touches | apply State.corInputFlags_touches | apply State.sineUpdate_touches); rfl; exact among_sub rfl; skip])
    | ((with_reducible refine Frame.choose ?_ ?_) <;> intro _)
    | split

theorem execRampStart_touches (g : Fin 4) (s : State) : Frames s (execRampStart g s) [.engines] (among [.L_COR_BUSY, .L_COR_RAMP, .TL_VSTG_PEND]) := by
  unfold execRampStart
  try dsimp only
  refine ⟨_, rfl, ?_⟩
  repeat' first
    | (with_reducible exact Frame.refl _ _ _)
    | ((with_reducible refine Frame.put ?_ ?_) <;> [rfl; skip])
    | ((with_reducible eapply Frame.via) <;> [(with_reducible first | apply State.dropUpdates_touches); rfl; exact among_sub rfl; skip])
    | ((with_reducible refine Frame.choose ?_ ?_) <;> intro _)
    | split

theorem execRampEnd_touches (g : Fin 4) (s : State) : Frames s (execRampEnd g s) [.mem, .edges, .arcBuf] (among [.COR_CNT, .COR_GRP_EVT, .COR_GRP_STATUS, .IC_ARC_EVT, .IC_ARC_LOST, .IC_LDG, .L_COR_BUSY, .L_COR_CTL, .L_COR_DUE, .L_COR_FRAMES, .L_COR_RAMP, .L_COR_W0, .L_COR_ZERO, .REEL]) := by
  unfold execRampEnd
  try dsimp only
  refine ⟨_, rfl, ?_⟩
  repeat' first
    | (with_reducible exact Frame.refl _ _ _)
    | ((with_reducible refine Frame.putClr ?_ ?_) <;> [rfl; skip])
    | ((with_reducible eapply Frame.via) <;> [(with_reducible first | apply State.corPending_touches | apply State.corState_touches | apply State.requestStop_touches); rfl; exact among_sub rfl; skip])
    | ((with_reducible refine Frame.steps ?_ ?_) <;> [intro _ _; skip])
    | ((with_reducible refine Frame.choose ?_ ?_) <;> intro _)
    | split

theorem execFftSliceFault_touches (k : Fin 16) (s : State) : Frames s (execFftSliceFault k s) [.edges, .arcBuf] (among [.COR_GRP_EVT, .COR_GRP_STATUS, .IC_ARC_EVT, .IC_ARC_LOST, .IC_LDG, .L_COR_RAMP, .L_COR_SLICE_BAD, .L_COR_W0, .L_COR_ZERO, .REEL]) := by
  unfold execFftSliceFault
  try dsimp only
  refine ⟨_, rfl, ?_⟩
  repeat' first
    | (with_reducible exact Frame.refl _ _ _)
    | ((with_reducible refine Frame.putFlag ?_ ?_) <;> [rfl; skip])
    | ((with_reducible eapply Frame.via) <;> [(with_reducible first | apply State.corAbortAt_touches); rfl; exact among_sub rfl; skip])
    | ((with_reducible refine Frame.steps ?_ ?_) <;> [intro _ _; skip])

end Sys2Proof.Machine
end

