-- ==== Sys2Proof/Laws/FramesCues.lean ====
section
/-!
SUPPORT. The frames of the operations of Machine/Cues.lean: the parts and registers each may change.
-/
set_option linter.unusedTactic false
set_option linter.unreachableTactic false
set_option linter.unusedVariables false
set_option linter.unusedSimpArgs false
namespace Sys2Proof.Machine

theorem State.cueStep_touches (s : State) (r op w : Nat) : Frame s (State.cueStep s r op w) [.loans, .engines, .heads, .ranges, .lines, .calSets, .calPends, .edges, .arcBuf] anyKey := by
  unfold State.cueStep
  try dsimp only
  repeat' first
    | (with_reducible exact Frame.refl _ _ _)
    | ((with_reducible refine Frame.put ?_ ?_) <;> [rfl; skip])
    | ((with_reducible eapply Frame.via) <;> [(with_reducible first | apply State.chainFault_touches | apply State.deferCue_touches | apply State.enterFault_touches | apply State.leaveCue_touches | apply State.onEng_touches | apply State.runDeferred_touches | apply State.setStacks_touches | apply State.startCue_touches | apply State.startWait_touches | apply State.streamPassEnd_touches | apply State.terminal_touches); rfl; exact anyKey_sub; skip])
    | ((with_reducible refine Frame.choose ?_ ?_) <;> intro _)
    | split

theorem execCueNop_touches (r : Fin 1024) (w : Nat) (s : State) : Frames s (execCueNop r w s) [.loans, .engines, .heads, .ranges, .lines, .calSets, .calPends, .edges, .arcBuf] anyKey := by
  unfold execCueNop
  try dsimp only
  refine ⟨_, rfl, ?_⟩
  repeat' first
    | (with_reducible exact Frame.refl _ _ _)
    | ((with_reducible eapply Frame.via) <;> [(with_reducible first | apply State.cueStep_touches); rfl; exact anyKey_sub; skip])

theorem execCuePlay_touches (r : Fin 1024) (w : Nat) (s : State) : Frames s (execCuePlay r w s) [.loans, .engines, .heads, .ranges, .lines, .calSets, .calPends, .edges, .arcBuf] anyKey := by
  unfold execCuePlay
  try dsimp only
  refine ⟨_, rfl, ?_⟩
  repeat' first
    | (with_reducible exact Frame.refl _ _ _)
    | ((with_reducible eapply Frame.via) <;> [(with_reducible first | apply State.cueStep_touches); rfl; exact anyKey_sub; skip])

theorem execCuePlayn_touches (r : Fin 1024) (w : Nat) (s : State) : Frames s (execCuePlayn r w s) [.loans, .engines, .heads, .ranges, .lines, .calSets, .calPends, .edges, .arcBuf] anyKey := by
  unfold execCuePlayn
  try dsimp only
  refine ⟨_, rfl, ?_⟩
  repeat' first
    | (with_reducible exact Frame.refl _ _ _)
    | ((with_reducible eapply Frame.via) <;> [(with_reducible first | apply State.cueStep_touches); rfl; exact anyKey_sub; skip])

theorem execCueLoop_touches (r : Fin 1024) (w : Nat) (s : State) : Frames s (execCueLoop r w s) [.loans, .engines, .heads, .ranges, .lines, .calSets, .calPends, .edges, .arcBuf] anyKey := by
  unfold execCueLoop
  try dsimp only
  refine ⟨_, rfl, ?_⟩
  repeat' first
    | (with_reducible exact Frame.refl _ _ _)
    | ((with_reducible eapply Frame.via) <;> [(with_reducible first | apply State.cueStep_touches); rfl; exact anyKey_sub; skip])

theorem execCueNext_touches (r : Fin 1024) (w : Nat) (s : State) : Frames s (execCueNext r w s) [.loans, .engines, .heads, .ranges, .lines, .calSets, .calPends, .edges, .arcBuf] anyKey := by
  unfold execCueNext
  try dsimp only
  refine ⟨_, rfl, ?_⟩
  repeat' first
    | (with_reducible exact Frame.refl _ _ _)
    | ((with_reducible eapply Frame.via) <;> [(with_reducible first | apply State.cueStep_touches); rfl; exact anyKey_sub; skip])

theorem execCueCall_touches (r : Fin 1024) (w : Nat) (s : State) : Frames s (execCueCall r w s) [.loans, .engines, .heads, .ranges, .lines, .calSets, .calPends, .edges, .arcBuf] anyKey := by
  unfold execCueCall
  try dsimp only
  refine ⟨_, rfl, ?_⟩
  repeat' first
    | (with_reducible exact Frame.refl _ _ _)
    | ((with_reducible eapply Frame.via) <;> [(with_reducible first | apply State.cueStep_touches); rfl; exact anyKey_sub; skip])

theorem execCueRet_touches (r : Fin 1024) (w : Nat) (s : State) : Frames s (execCueRet r w s) [.loans, .engines, .heads, .ranges, .lines, .calSets, .calPends, .edges, .arcBuf] anyKey := by
  unfold execCueRet
  try dsimp only
  refine ⟨_, rfl, ?_⟩
  repeat' first
    | (with_reducible exact Frame.refl _ _ _)
    | ((with_reducible eapply Frame.via) <;> [(with_reducible first | apply State.cueStep_touches); rfl; exact anyKey_sub; skip])

theorem execCueWaitEv_touches (r : Fin 1024) (w : Nat) (s : State) : Frames s (execCueWaitEv r w s) [.loans, .engines, .heads, .ranges, .lines, .calSets, .calPends, .edges, .arcBuf] anyKey := by
  unfold execCueWaitEv
  try dsimp only
  refine ⟨_, rfl, ?_⟩
  repeat' first
    | (with_reducible exact Frame.refl _ _ _)
    | ((with_reducible eapply Frame.via) <;> [(with_reducible first | apply State.cueStep_touches); rfl; exact anyKey_sub; skip])

theorem execCueWaitTick_touches (r : Fin 1024) (w : Nat) (s : State) : Frames s (execCueWaitTick r w s) [.loans, .engines, .heads, .ranges, .lines, .calSets, .calPends, .edges, .arcBuf] anyKey := by
  unfold execCueWaitTick
  try dsimp only
  refine ⟨_, rfl, ?_⟩
  repeat' first
    | (with_reducible exact Frame.refl _ _ _)
    | ((with_reducible eapply Frame.via) <;> [(with_reducible first | apply State.cueStep_touches); rfl; exact anyKey_sub; skip])

theorem execCueSync_touches (r : Fin 1024) (w : Nat) (s : State) : Frames s (execCueSync r w s) [.loans, .engines, .heads, .ranges, .lines, .calSets, .calPends, .edges, .arcBuf] anyKey := by
  unfold execCueSync
  try dsimp only
  refine ⟨_, rfl, ?_⟩
  repeat' first
    | (with_reducible exact Frame.refl _ _ _)
    | ((with_reducible eapply Frame.via) <;> [(with_reducible first | apply State.cueStep_touches); rfl; exact anyKey_sub; skip])

theorem execCueCutif_touches (r : Fin 1024) (w : Nat) (s : State) : Frames s (execCueCutif r w s) [.loans, .engines, .heads, .ranges, .lines, .calSets, .calPends, .edges, .arcBuf] anyKey := by
  unfold execCueCutif
  try dsimp only
  refine ⟨_, rfl, ?_⟩
  repeat' first
    | (with_reducible exact Frame.refl _ _ _)
    | ((with_reducible eapply Frame.via) <;> [(with_reducible first | apply State.cueStep_touches); rfl; exact anyKey_sub; skip])

theorem execCueSetF_touches (r : Fin 1024) (w : Nat) (s : State) : Frames s (execCueSetF r w s) [.loans, .engines, .heads, .ranges, .lines, .calSets, .calPends, .edges, .arcBuf] anyKey := by
  unfold execCueSetF
  try dsimp only
  refine ⟨_, rfl, ?_⟩
  repeat' first
    | (with_reducible exact Frame.refl _ _ _)
    | ((with_reducible eapply Frame.via) <;> [(with_reducible first | apply State.cueStep_touches); rfl; exact anyKey_sub; skip])

theorem execCueSetP_touches (r : Fin 1024) (w : Nat) (s : State) : Frames s (execCueSetP r w s) [.loans, .engines, .heads, .ranges, .lines, .calSets, .calPends, .edges, .arcBuf] anyKey := by
  unfold execCueSetP
  try dsimp only
  refine ⟨_, rfl, ?_⟩
  repeat' first
    | (with_reducible exact Frame.refl _ _ _)
    | ((with_reducible eapply Frame.via) <;> [(with_reducible first | apply State.cueStep_touches); rfl; exact anyKey_sub; skip])

theorem execCueSetG_touches (r : Fin 1024) (w : Nat) (s : State) : Frames s (execCueSetG r w s) [.loans, .engines, .heads, .ranges, .lines, .calSets, .calPends, .edges, .arcBuf] anyKey := by
  unfold execCueSetG
  try dsimp only
  refine ⟨_, rfl, ?_⟩
  repeat' first
    | (with_reducible exact Frame.refl _ _ _)
    | ((with_reducible eapply Frame.via) <;> [(with_reducible first | apply State.cueStep_touches); rfl; exact anyKey_sub; skip])

theorem execCueSetRng_touches (r : Fin 1024) (w : Nat) (s : State) : Frames s (execCueSetRng r w s) [.loans, .engines, .heads, .ranges, .lines, .calSets, .calPends, .edges, .arcBuf] anyKey := by
  unfold execCueSetRng
  try dsimp only
  refine ⟨_, rfl, ?_⟩
  repeat' first
    | (with_reducible exact Frame.refl _ _ _)
    | ((with_reducible eapply Frame.via) <;> [(with_reducible first | apply State.cueStep_touches); rfl; exact anyKey_sub; skip])

theorem execCueSlate_touches (r : Fin 1024) (w : Nat) (s : State) : Frames s (execCueSlate r w s) [.loans, .engines, .heads, .ranges, .lines, .calSets, .calPends, .edges, .arcBuf] anyKey := by
  unfold execCueSlate
  try dsimp only
  refine ⟨_, rfl, ?_⟩
  repeat' first
    | (with_reducible exact Frame.refl _ _ _)
    | ((with_reducible eapply Frame.via) <;> [(with_reducible first | apply State.cueStep_touches); rfl; exact anyKey_sub; skip])

theorem execCueMark_touches (r : Fin 1024) (w : Nat) (s : State) : Frames s (execCueMark r w s) [.loans, .engines, .heads, .ranges, .lines, .calSets, .calPends, .edges, .arcBuf] anyKey := by
  unfold execCueMark
  try dsimp only
  refine ⟨_, rfl, ?_⟩
  repeat' first
    | (with_reducible exact Frame.refl _ _ _)
    | ((with_reducible eapply Frame.via) <;> [(with_reducible first | apply State.cueStep_touches); rfl; exact anyKey_sub; skip])

theorem execCueFire_touches (r : Fin 1024) (w : Nat) (s : State) : Frames s (execCueFire r w s) [.loans, .engines, .heads, .ranges, .lines, .calSets, .calPends, .edges, .arcBuf] anyKey := by
  unfold execCueFire
  try dsimp only
  refine ⟨_, rfl, ?_⟩
  repeat' first
    | (with_reducible exact Frame.refl _ _ _)
    | ((with_reducible eapply Frame.via) <;> [(with_reducible first | apply State.cueStep_touches); rfl; exact anyKey_sub; skip])

theorem execCueCalGap_touches (r : Fin 1024) (w : Nat) (s : State) : Frames s (execCueCalGap r w s) [.loans, .engines, .heads, .ranges, .lines, .calSets, .calPends, .edges, .arcBuf] anyKey := by
  unfold execCueCalGap
  try dsimp only
  refine ⟨_, rfl, ?_⟩
  repeat' first
    | (with_reducible exact Frame.refl _ _ _)
    | ((with_reducible eapply Frame.via) <;> [(with_reducible first | apply State.cueStep_touches); rfl; exact anyKey_sub; skip])

theorem execCueStop_touches (r : Fin 1024) (w : Nat) (s : State) : Frames s (execCueStop r w s) [.loans, .engines, .heads, .ranges, .lines, .calSets, .calPends, .edges, .arcBuf] anyKey := by
  unfold execCueStop
  try dsimp only
  refine ⟨_, rfl, ?_⟩
  repeat' first
    | (with_reducible exact Frame.refl _ _ _)
    | ((with_reducible eapply Frame.via) <;> [(with_reducible first | apply State.cueStep_touches); rfl; exact anyKey_sub; skip])

theorem execCueEnd_touches (r : Fin 1024) (w : Nat) (s : State) : Frames s (execCueEnd r w s) [.loans, .engines, .heads, .ranges, .lines, .calSets, .calPends, .edges, .arcBuf] anyKey := by
  unfold execCueEnd
  try dsimp only
  refine ⟨_, rfl, ?_⟩
  repeat' first
    | (with_reducible exact Frame.refl _ _ _)
    | ((with_reducible eapply Frame.via) <;> [(with_reducible first | apply State.cueStep_touches); rfl; exact anyKey_sub; skip])

end Sys2Proof.Machine
end

