-- ==== Sys2Proof/Laws/FramesCuts.lean ====
section
/-!
SUPPORT. The frames of the operations of Machine/Cuts.lean: the parts and registers each may change.
-/
set_option linter.unusedTactic false
set_option linter.unreachableTactic false
set_option linter.unusedVariables false
set_option linter.unusedSimpArgs false
namespace Sys2Proof.Machine

theorem State.agree_touches (s : State) (p : Pulse) (st : Nat) : Frame s (State.agree s p st) [.events, .triggers, .alignDue] (among [.REEL, .TL_CUT_EVT, .TL_EVR_LOCAL_HI, .TL_EVR_LOCAL_LO, .TL_EVR_STAMP_HI, .TL_EVR_STAMP_LO, .TL_EVR_STATUS]) := by
  unfold State.agree
  try dsimp only
  repeat' first
    | (with_reducible exact Frame.refl _ _ _)
    | ((with_reducible refine Frame.putFlag ?_ ?_) <;> [rfl; skip])
    | ((with_reducible refine Frame.putBump ?_ ?_) <;> [rfl; skip])
    | ((with_reducible refine Frame.put2 ?_ ?_ ?_) <;> [rfl; rfl; skip])
    | ((with_reducible refine Frame.puts ?_ ?_) <;> [(simp [among, anyKey]; done); skip])
    | ((with_reducible refine Frame.putsCons ?_ ?_) <;> [rfl; skip])
    | ((with_reducible eapply Frame.via) <;> [(with_reducible first | apply State.requestStop_touches); rfl; exact among_sub rfl; skip])
    | (with_reducible refine Frame.step ?_ ?_)
    | ((with_reducible refine Frame.steps ?_ ?_) <;> [intro _ _; skip])
    | (fail_if_no_progress ((with_reducible refine Frame.on_events_triggers_alignDue ?_ ?_ ?_ ?_) <;> [rfl; rfl; rfl; skip]))
    | (fail_if_no_progress ((with_reducible refine Frame.on_events ?_ ?_) <;> [rfl; skip]))
    | (fail_if_no_progress ((with_reducible refine Frame.on_triggers ?_ ?_) <;> [rfl; skip]))
    | (fail_if_no_progress ((with_reducible refine Frame.on_alignDue ?_ ?_) <;> [rfl; skip]))
    | ((with_reducible refine Frame.choose ?_ ?_) <;> intro _)
    | split

theorem State.takeCut_touches (s : State) (r : Nat) (c : Commit) (late : Bool) : Frame s (State.takeCut s r c late) [.loans, .engines, .heads, .ranges, .lines, .calSets, .calPends, .edges, .arcBuf] anyKey := by
  unfold State.takeCut
  try dsimp only
  repeat' first
    | (with_reducible exact Frame.refl _ _ _)
    | ((with_reducible refine Frame.putFlag ?_ ?_) <;> [rfl; skip])
    | ((with_reducible refine Frame.putClr ?_ ?_) <;> [rfl; skip])
    | ((with_reducible refine Frame.putBump ?_ ?_) <;> [rfl; skip])
    | ((with_reducible eapply Frame.via) <;> [(with_reducible first | apply State.leaveCue_touches | apply State.onEng_touches | apply State.runChain_touches | apply State.setStacks_touches | apply State.streamPassEnd_touches); rfl; exact anyKey_sub; skip])
    | (with_reducible refine Frame.step ?_ ?_)
    | ((with_reducible refine Frame.choose ?_ ?_) <;> intro _)
    | split

theorem execEventStamp_touches (t : Fin 8) (c : Fin 128) (s : State) : Frames s (execEventStamp t c s) [.pulses] (among []) := by
  unfold execEventStamp
  try dsimp only
  refine ⟨_, rfl, ?_⟩
  repeat' first
    | (with_reducible exact Frame.refl _ _ _)
    | (fail_if_no_progress ((with_reducible refine Frame.on_pulses ?_ ?_) <;> [rfl; skip]))

theorem execStampAgreed_touches (c : Fin 128) (s : State) : Frames s (execStampAgreed c s) [.events, .pulses, .triggers, .alignDue] (among [.REEL, .TL_CUT_EVT, .TL_EVR_LOCAL_HI, .TL_EVR_LOCAL_LO, .TL_EVR_STAMP_HI, .TL_EVR_STAMP_LO, .TL_EVR_STATUS]) := by
  unfold execStampAgreed
  try dsimp only
  refine ⟨_, rfl, ?_⟩
  repeat' first
    | (with_reducible exact Frame.refl _ _ _)
    | ((with_reducible eapply Frame.via) <;> [(with_reducible first | apply State.agree_touches); rfl; exact among_sub rfl; skip])
    | (fail_if_no_progress ((with_reducible refine Frame.on_pulses ?_ ?_) <;> [rfl; skip]))
    | split

theorem execCutCommit_touches (r : Fin 1024) (s : State) : Frames s (execCutCommit r s) [.engines] (among []) := by
  unfold execCutCommit
  try dsimp only
  refine ⟨_, rfl, ?_⟩
  repeat' first
    | (with_reducible exact Frame.refl _ _ _)
    | ((with_reducible eapply Frame.via) <;> [(with_reducible first | apply State.onEng_touches); rfl; exact among_sub rfl; skip])
    | ((with_reducible refine Frame.choose ?_ ?_) <;> intro _)
    | split

theorem execCutTake_touches (r : Fin 1024) (late : Bool) (s : State) : Frames s (execCutTake r late s) [.loans, .engines, .heads, .ranges, .lines, .calSets, .calPends, .edges, .arcBuf] anyKey := by
  unfold execCutTake
  try dsimp only
  refine ⟨_, rfl, ?_⟩
  repeat' first
    | (with_reducible exact Frame.refl _ _ _)
    | ((with_reducible eapply Frame.via) <;> [(with_reducible first | apply State.resolveCut_touches | apply State.takeCut_touches); rfl; exact anyKey_sub; skip])
    | ((with_reducible refine Frame.choose ?_ ?_) <;> intro _)
    | split

theorem execHeadFill_touches (t : Fin 8) (k : Fin 262144) (s : State) : Frames s (execHeadFill t k s) [.heads] (among [.REEL]) := by
  unfold execHeadFill
  try dsimp only
  refine ⟨_, rfl, ?_⟩
  repeat' first
    | (with_reducible exact Frame.refl _ _ _)
    | ((with_reducible eapply Frame.via) <;> [(with_reducible first | apply State.primedUpdate_touches); rfl; exact among_sub rfl; skip])
    | ((with_reducible refine Frame.steps ?_ ?_) <;> [intro _ _; skip])
    | (fail_if_no_progress ((with_reducible refine Frame.on_heads ?_ ?_) <;> [rfl; skip]))
    | ((with_reducible refine Frame.choose ?_ ?_) <;> intro _)
    | split

theorem execLateLeaf_touches (r : Fin 1024) (cause : Fin 4) (s : State) : Frames s (execLateLeaf r cause s) [.engines, .edges, .arcBuf] (among [.CAL_CH_STATUS, .CAL_EVT, .CAL_STATUS, .COR_GRP_EVT, .COR_GRP_STATUS, .IC_ARC_EVT, .IC_ARC_LOST, .IC_LDG, .L_CAL_RUN, .L_COR_RAMP, .L_COR_W0, .L_COR_ZERO, .L_PROD_WORD, .REEL, .TL_REEL_ACTIVE, .TL_REEL_FAULTED]) := by
  unfold execLateLeaf
  try dsimp only
  refine ⟨_, rfl, ?_⟩
  repeat' first
    | (with_reducible exact Frame.refl _ _ _)
    | ((with_reducible refine Frame.putBump ?_ ?_) <;> [rfl; skip])
    | ((with_reducible eapply Frame.via) <;> [(with_reducible first | apply State.enterState_touches | apply State.markFrame | apply State.onEng_touches | apply State.raisePerTile_touches | apply State.tilePulse_touches); rfl; exact among_sub rfl; skip])
    | ((with_reducible refine Frame.choose ?_ ?_) <;> intro _)
    | split

theorem execLateResume_touches (r : Fin 1024) (s : State) : Frames s (execLateResume r s) [.engines, .edges, .arcBuf] (among [.CAL_CH_STATUS, .CAL_EVT, .CAL_STATUS, .COR_GRP_EVT, .COR_GRP_STATUS, .IC_ARC_EVT, .IC_ARC_LOST, .IC_LDG, .L_CAL_RUN, .L_COR_RAMP, .L_COR_W0, .L_COR_ZERO, .REEL, .TL_CUT_EVT, .TL_LATE_CNT, .TL_LATE_LAST, .TL_LATE_WORDS_HI, .TL_LATE_WORDS_LO, .TL_REEL_ACTIVE, .TL_REEL_FAULTED]) := by
  unfold execLateResume
  try dsimp only
  refine ⟨_, rfl, ?_⟩
  repeat' first
    | (with_reducible exact Frame.refl _ _ _)
    | ((with_reducible eapply Frame.via) <;> [(with_reducible first | apply State.endEpisode_touches | apply State.enterState_touches); rfl; exact among_sub rfl; skip])
    | ((with_reducible refine Frame.choose ?_ ?_) <;> intro _)
    | split

theorem execRecoveryCut_touches (r : Fin 1024) (s : State) : Frames s (execRecoveryCut r s) [.loans, .engines, .heads, .ranges, .lines, .calSets, .calPends, .edges, .arcBuf] anyKey := by
  unfold execRecoveryCut
  try dsimp only
  refine ⟨_, rfl, ?_⟩
  repeat' first
    | (with_reducible exact Frame.refl _ _ _)
    | ((with_reducible refine Frame.putFlag ?_ ?_) <;> [rfl; skip])
    | ((with_reducible refine Frame.putBump ?_ ?_) <;> [rfl; skip])
    | ((with_reducible eapply Frame.via) <;> [(with_reducible first | apply State.discardCuts_touches | apply State.leaveCue_touches | apply State.onEng_touches | apply State.runChain_touches | apply State.setStacks_touches); rfl; exact anyKey_sub; skip])
    | ((with_reducible refine Frame.choose ?_ ?_) <;> intro _)
    | split

end Sys2Proof.Machine
end

