-- ==== Sys2Proof/Laws/FramesSegMem.lean ====
section
/-!
SUPPORT. The frames of the operations of Machine/SegMem.lean: the parts and registers each may change.
-/
set_option linter.unusedTactic false
set_option linter.unreachableTactic false
set_option linter.unusedVariables false
set_option linter.unusedSimpArgs false
namespace Sys2Proof.Machine

theorem State.recWrite_touches (s : State) (r j v : Nat) (raw : Bool) : Frame s (State.recWrite s r j v raw) [] (among [.REEL]) := by
  unfold State.recWrite
  try dsimp only
  repeat' first
    | (with_reducible exact Frame.refl _ _ _)
    | ((with_reducible refine Frame.put ?_ ?_) <;> [rfl; skip])
    | ((with_reducible refine Frame.steps ?_ ?_) <;> [intro _ _; skip])
    | ((with_reducible refine Frame.choose ?_ ?_) <;> intro _)
    | split

theorem State.spPut_touches (s : State) (a : Nat) (v : BitVec 8) : Frame s (State.spPut s a v) [.sp] (among [.REEL, .TL_REEL_EVT]) := by
  unfold State.spPut
  try dsimp only
  repeat' first
    | (with_reducible exact Frame.refl _ _ _)
    | ((with_reducible refine Frame.putFlag ?_ ?_) <;> [rfl; skip])
    | ((with_reducible eapply Frame.via) <;> [(with_reducible first | apply State.recWrite_touches | apply State.spStoreFrame); rfl; exact among_sub rfl; skip])
    | ((with_reducible refine Frame.choose ?_ ?_) <;> intro _)
    | split

theorem State.spWrite_touches (s : State) (x : Nat) (l : List (BitVec 8)) : Frame s (s.spWrite x l) [.sp] (among [.REEL, .TL_REEL_EVT, .TL_SP_EVT]) := by
  induction l generalizing s x with
  | nil => exact Frame.refl _ _ _
  | cons b l ih =>
    unfold State.spWrite
    refine Frame.trans ?_ (ih _ _)
    repeat' first
      | (with_reducible exact Frame.refl _ _ _)
      | ((with_reducible refine Frame.putFlag ?_ ?_) <;> [rfl; skip])
      | ((with_reducible eapply Frame.via) <;> [(with_reducible first | apply State.spPut_touches); rfl; exact among_sub rfl; skip])
      | ((with_reducible refine Frame.choose ?_ ?_) <;> intro _)
      | split


theorem State.spRead_touches (s : State) (a n : Nat) : Frame s (State.spRead s a n).2 [] (among [.TL_SP_EVT]) := by
  unfold State.spRead
  try dsimp only
  repeat' first
    | (with_reducible exact Frame.refl _ _ _)
    | ((with_reducible refine Frame.putFlag ?_ ?_) <;> [rfl; skip])
    | ((with_reducible refine Frame.steps ?_ ?_) <;> [intro _ _; skip])
    | ((with_reducible refine Frame.choose ?_ ?_) <;> intro _)
    | split

theorem State.bankClear_touches (s : State) (t b : Nat) : Frame s (State.bankClear s t b) [.sp] (among [.REEL]) := by
  unfold State.bankClear
  try dsimp only
  repeat' first
    | (with_reducible exact Frame.refl _ _ _)
    | ((with_reducible refine Frame.putClr ?_ ?_) <;> [rfl; skip])
    | ((with_reducible refine Frame.steps ?_ ?_) <;> [intro _ _; skip])
    | (fail_if_no_progress ((with_reducible refine Frame.on_sp ?_ ?_) <;> [rfl; skip]))
    | ((with_reducible refine Frame.choose ?_ ?_) <;> intro _)
    | split

theorem execBar2Write_touches (pf : Fin 4) (addr : Nat) (data : List (BitVec 8)) (uncorr : List Nat) (s : State) : Frames s (execBar2Write pf addr data uncorr s) [.mem, .badBursts, .arcBuf] (among [.AON_PWR_EVT, .IC_ARC_EVT, .IC_ARC_LOST, .IC_LDG, .L_WDROP_LATCHED, .MS_ECC_CNT, .MS_EVT, .MS_WDROP_ADDR_HI, .MS_WDROP_ADDR_LO, .MS_WDROP_CNT, .MS_WDROP_SRC]) := by
  unfold execBar2Write
  try dsimp only
  refine ⟨_, rfl, ?_⟩
  repeat' first
    | (with_reducible exact Frame.refl _ _ _)
    | ((with_reducible refine Frame.putFlag ?_ ?_) <;> [rfl; skip])
    | ((with_reducible eapply Frame.via) <;> [(with_reducible first | apply State.spoil_touches | apply State.writeSeg_touches); rfl; exact among_sub rfl; skip])
    | ((with_reducible refine Frame.host ?_ ?_ ?_) <;> [rfl; skip; skip])
    | (with_reducible refine Frame.step ?_ ?_)

theorem execBar2Read_touches (pf : Fin 4) (addr len : Nat) (uncorr : List Nat) (s : State) : Frames s (execBar2Read pf addr len uncorr s) [.mem, .badBursts, .arcBuf, .out] (among [.AON_PWR_EVT, .IC_ARC_EVT, .IC_ARC_LOST, .IC_LDG, .MS_ECC_CNT, .MS_EVT, .SYS_HIF_EVT]) := by
  unfold execBar2Read
  try dsimp only
  refine ⟨_, rfl, ?_⟩
  repeat' first
    | (with_reducible exact Frame.refl _ _ _)
    | ((with_reducible refine Frame.putFlag ?_ ?_) <;> [rfl; skip])
    | ((with_reducible eapply Frame.via) <;> [(with_reducible first | apply State.emitFrame | apply State.segRead_touches | apply State.spoil_touches); rfl; exact among_sub rfl; skip])
    | ((with_reducible refine Frame.choose ?_ ?_) <;> intro _)
    | split

theorem execCardWrite_touches (withRead : Bool) (s : State) : Frames s (execCardWrite withRead s) [.mem, .cards, .badCards] (among [.AON_PWR_EVT, .L_CARD_RES, .L_CARD_WR, .L_STRM_RET, .MS_CARD_CMD, .MS_STRM_CNT, .MS_STRM_FILL, .MS_STRM_PLAY]) := by
  unfold execCardWrite
  try dsimp only
  refine ⟨_, rfl, ?_⟩
  repeat' first
    | (with_reducible exact Frame.refl _ _ _)
    | ((with_reducible refine Frame.put ?_ ?_) <;> [rfl; skip])
    | ((with_reducible refine Frame.puts ?_ ?_) <;> [(simp [among, anyKey]; done); skip])
    | ((with_reducible refine Frame.putsCons ?_ ?_) <;> [rfl; skip])
    | ((with_reducible eapply Frame.via) <;> [(with_reducible first | apply State.cardStore_touches); rfl; exact among_sub rfl; skip])
    | ((with_reducible refine Frame.host ?_ ?_ ?_) <;> [rfl; skip; skip])
    | ((with_reducible refine Frame.choose ?_ ?_) <;> intro _)
    | split

theorem execCardRead_touches (withWrite : Bool) (s : State) : Frames s (execCardRead withWrite s) [] (among [.AON_PWR_EVT, .L_CARD_RES, .L_CARD_WR, .MS_CARD_CMD]) := by
  unfold execCardRead
  try dsimp only
  refine ⟨_, rfl, ?_⟩
  repeat' first
    | (with_reducible exact Frame.refl _ _ _)
    | ((with_reducible refine Frame.put ?_ ?_) <;> [rfl; skip])
    | ((with_reducible refine Frame.puts ?_ ?_) <;> [(simp [among, anyKey]; done); skip])
    | ((with_reducible refine Frame.putsCons ?_ ?_) <;> [rfl; skip])
    | ((with_reducible refine Frame.host ?_ ?_ ?_) <;> [rfl; skip; skip])
    | ((with_reducible refine Frame.choose ?_ ?_) <;> intro _)
    | split

theorem execCardCmdComplete_touches (s : State) : Frames s (execCardCmdComplete s) [] (among [.MS_CARD_CMD, .MS_CARD_DATA, .MS_EVT]) := by
  unfold execCardCmdComplete
  try dsimp only
  refine ⟨_, rfl, ?_⟩
  repeat' first
    | (with_reducible exact Frame.refl _ _ _)
    | ((with_reducible refine Frame.put ?_ ?_) <;> [rfl; skip])
    | ((with_reducible refine Frame.putFlag ?_ ?_) <;> [rfl; skip])
    | ((with_reducible refine Frame.puts ?_ ?_) <;> [(simp [among, anyKey]; done); skip])
    | ((with_reducible refine Frame.putsCons ?_ ?_) <;> [rfl; skip])
    | (with_reducible refine Frame.step ?_ ?_)
    | ((with_reducible refine Frame.steps ?_ ?_) <;> [intro _ _; skip])
    | ((with_reducible refine Frame.choose ?_ ?_) <;> intro _)
    | split

theorem execCardCacheFill_touches (t : Fin 8) (k : Fin 262144) (s : State) : Frames s (execCardCacheFill t k s) [.engines, .cards, .arcBuf] (among [.IC_ARC_EVT, .IC_ARC_LOST, .IC_LDG]) := by
  unfold execCardCacheFill
  try dsimp only
  refine ⟨_, rfl, ?_⟩
  repeat' first
    | (with_reducible exact Frame.refl _ _ _)
    | ((with_reducible eapply Frame.via) <;> [(with_reducible first | apply State.onEng_touches | apply State.raiseOnceFrame); rfl; exact among_sub rfl; skip])
    | ((with_reducible refine Frame.steps ?_ ?_) <;> [intro _ _; skip])
    | (fail_if_no_progress ((with_reducible refine Frame.on_cards ?_ ?_) <;> [rfl; skip]))
    | ((with_reducible refine Frame.choose ?_ ?_) <;> intro _)
    | split

theorem execCueWindowEnter_touches (r : Fin 1024) (q : Fin 65536) (ecc : Fin 3) (s : State) : Frames s (execCueWindowEnter r q ecc s) [.loans, .engines, .heads, .arcBuf] (among [.IC_ARC_EVT, .IC_ARC_LOST, .IC_LDG, .L_STRM_RET, .MS_EVT, .REEL, .TL_CUT_EVT, .TL_HEAD_MISS, .TL_HEAD_STATUS, .TL_SP_ECC, .TL_SP_EVT]) := by
  unfold execCueWindowEnter
  try dsimp only
  refine ⟨_, rfl, ?_⟩
  repeat' first
    | (with_reducible exact Frame.refl _ _ _)
    | ((with_reducible refine Frame.putFlag ?_ ?_) <;> [rfl; skip])
    | ((with_reducible refine Frame.putBump ?_ ?_) <;> [rfl; skip])
    | ((with_reducible eapply Frame.via) <;> [(with_reducible first | apply State.buildWindow_touches | apply State.onEng_touches | apply State.raiseFrame); rfl; exact among_sub rfl; skip])
    | ((with_reducible refine Frame.choose ?_ ?_) <;> intro _)
    | split

theorem execLoanInForce_touches (k : Fin 262144) (s : State) : Frames s (execLoanInForce k s) [.loans] (among [.REEL]) := by
  unfold execLoanInForce
  try dsimp only
  refine ⟨_, rfl, ?_⟩
  repeat' first
    | (with_reducible exact Frame.refl _ _ _)
    | ((with_reducible eapply Frame.via) <;> [(with_reducible first | apply State.primedUpdate_touches); rfl; exact among_sub rfl; skip])
    | ((with_reducible refine Frame.steps ?_ ?_) <;> [intro _ _; skip])
    | (fail_if_no_progress ((with_reducible refine Frame.on_loans ?_ ?_) <;> [rfl; skip]))
    | ((with_reducible refine Frame.choose ?_ ?_) <;> intro _)
    | split

theorem execWdropClr_touches (s : State) : Frames s (execWdropClr s) [] (among [.AON_PWR_EVT, .L_WDROP_LATCHED, .MS_WDROP_CNT]) := by
  unfold execWdropClr
  try dsimp only
  refine ⟨_, rfl, ?_⟩
  repeat' first
    | (with_reducible exact Frame.refl _ _ _)
    | ((with_reducible refine Frame.puts ?_ ?_) <;> [(simp [among, anyKey]; done); skip])
    | ((with_reducible refine Frame.putsCons ?_ ?_) <;> [rfl; skip])
    | ((with_reducible refine Frame.host ?_ ?_ ?_) <;> [rfl; skip; skip])

theorem execStreamBind_touches (n : Fin 1024) (v : Nat) (s : State) : Frames s (execStreamBind n v s) [] (among [.AON_PWR_EVT, .L_STRM_RET, .MS_EVT, .MS_STRM_CARD, .MS_STRM_CNT, .MS_STRM_FILL, .MS_STRM_PLAY]) := by
  unfold execStreamBind
  try dsimp only
  refine ⟨_, rfl, ?_⟩
  repeat' first
    | (with_reducible exact Frame.refl _ _ _)
    | ((with_reducible refine Frame.putFlag ?_ ?_) <;> [rfl; skip])
    | ((with_reducible refine Frame.puts ?_ ?_) <;> [(simp [among, anyKey]; done); skip])
    | ((with_reducible refine Frame.putsCons ?_ ?_) <;> [rfl; skip])
    | ((with_reducible eapply Frame.via) <;> [(with_reducible first | apply State.slotReset_touches); rfl; exact among_sub rfl; skip])
    | ((with_reducible refine Frame.host ?_ ?_ ?_) <;> [rfl; skip; skip])
    | ((with_reducible refine Frame.choose ?_ ?_) <;> intro _)
    | split

theorem execStreamReset_touches (n : Fin 1024) (s : State) : Frames s (execStreamReset n s) [] (among [.AON_PWR_EVT, .L_STRM_RET, .MS_STRM_CNT, .MS_STRM_FILL, .MS_STRM_PLAY]) := by
  unfold execStreamReset
  try dsimp only
  refine ⟨_, rfl, ?_⟩
  repeat' first
    | (with_reducible exact Frame.refl _ _ _)
    | ((with_reducible eapply Frame.via) <;> [(with_reducible first | apply State.slotReset_touches); rfl; exact among_sub rfl; skip])
    | ((with_reducible refine Frame.host ?_ ?_ ?_) <;> [rfl; skip; skip])
    | ((with_reducible refine Frame.choose ?_ ?_) <;> intro _)
    | split

theorem execHostCommitWrite_touches (pf : Fin 4) (n : Fin 1024) (seq : Nat) (s : State) : Frames s (execHostCommitWrite pf n seq s) [.offers] (among [.AON_PWR_EVT, .MS_STRM_COMMIT]) := by
  unfold execHostCommitWrite
  try dsimp only
  refine ⟨_, rfl, ?_⟩
  repeat' first
    | (with_reducible exact Frame.refl _ _ _)
    | ((with_reducible refine Frame.put ?_ ?_) <;> [rfl; skip])
    | ((with_reducible refine Frame.host ?_ ?_ ?_) <;> [rfl; skip; skip])
    | (fail_if_no_progress ((with_reducible refine Frame.on_offers ?_ ?_) <;> [rfl; skip]))

theorem execStreamCommit_touches (n : Fin 1024) (s : State) : Frames s (execStreamCommit n s) [.offers] (among [.MS_EVT, .MS_STRM_CNT, .MS_STRM_FILL]) := by
  unfold execStreamCommit
  try dsimp only
  refine ⟨_, rfl, ?_⟩
  repeat' first
    | (with_reducible exact Frame.refl _ _ _)
    | ((with_reducible eapply Frame.via) <;> [(with_reducible first | apply State.commitSlot_touches); rfl; exact among_sub rfl; skip])
    | (fail_if_no_progress ((with_reducible refine Frame.on_offers ?_ ?_) <;> [rfl; skip]))
    | split

theorem execPlayPointerAdvance_touches (n : Fin 1024) (s : State) : Frames s (execPlayPointerAdvance n s) [] (among [.L_STRM_LEAF, .L_STRM_NEXT, .L_STRM_RET, .MS_STRM_CNT, .MS_STRM_FILL, .MS_STRM_PLAY]) := by
  unfold execPlayPointerAdvance
  try dsimp only
  refine ⟨_, rfl, ?_⟩
  repeat' first
    | (with_reducible exact Frame.refl _ _ _)
    | ((with_reducible refine Frame.put ?_ ?_) <;> [rfl; skip])
    | ((with_reducible refine Frame.putBumpWrap ?_ ?_) <;> [rfl; skip])
    | ((with_reducible eapply Frame.via) <;> [(with_reducible first | apply State.playAdvance_touches); rfl; exact among_sub rfl; skip])
    | ((with_reducible refine Frame.choose ?_ ?_) <;> intro _)
    | split

theorem execRefreshStepDown_touches (k : Fin 4) (s : State) : Frames s (execRefreshStepDown k s) [] (among [.L_STK_COLD_SINCE, .MS_STK_STATUS]) := by
  unfold execRefreshStepDown
  try dsimp only
  refine ⟨_, rfl, ?_⟩
  repeat' first
    | (with_reducible exact Frame.refl _ _ _)
    | ((with_reducible refine Frame.put ?_ ?_) <;> [rfl; skip])
    | ((with_reducible refine Frame.putClr ?_ ?_) <;> [rfl; skip])
    | ((with_reducible refine Frame.choose ?_ ?_) <;> intro _)
    | split

theorem execBookingThermalClear_touches (k : Fin 4) (s : State) : Frames s (execBookingThermalClear k s) [.arcBuf] (among [.CH_EVT, .CH_PARK_SRC, .CH_STATUS, .IC_ARC_EVT, .IC_ARC_LOST, .IC_LDG, .MS_EVT, .MS_STK_STATUS, .PP_EVT, .PP_PARK_SRC]) := by
  unfold execBookingThermalClear
  try dsimp only
  refine ⟨_, rfl, ?_⟩
  repeat' first
    | (with_reducible exact Frame.refl _ _ _)
    | ((with_reducible refine Frame.putPersist ?_ ?_) <;> [rfl; skip])
    | ((with_reducible refine Frame.puts ?_ ?_) <;> [(simp [among, anyKey]; done); skip])
    | ((with_reducible refine Frame.putsCons ?_ ?_) <;> [rfl; skip])
    | ((with_reducible eapply Frame.via) <;> [(with_reducible first | apply State.archiveFrame | apply State.parkAll_touches); rfl; exact among_sub rfl; skip])
    | ((with_reducible refine Frame.choose ?_ ?_) <;> intro _)
    | split

theorem execReelRecordWrite_touches (r : Fin 1024) (j : Fin 64) (v : Nat) (s : State) : Frames s (execReelRecordWrite r j v s) [] (among [.AON_PWR_EVT, .REEL, .TL_REEL_EVT]) := by
  unfold execReelRecordWrite
  try dsimp only
  refine ⟨_, rfl, ?_⟩
  repeat' first
    | (with_reducible exact Frame.refl _ _ _)
    | ((with_reducible refine Frame.putFlag ?_ ?_) <;> [rfl; skip])
    | ((with_reducible eapply Frame.via) <;> [(with_reducible first | apply State.recWrite_touches); rfl; exact among_sub rfl; skip])
    | ((with_reducible refine Frame.host ?_ ?_ ?_) <;> [rfl; skip; skip])
    | ((with_reducible refine Frame.choose ?_ ?_) <;> intro _)
    | split

theorem execScratchpadWrite_touches (pf : Fin 4) (addr : Nat) (data : List (BitVec 8)) (ecc : Fin 3) (s : State) : Frames s (execScratchpadWrite pf addr data ecc s) [.sp, .arcBuf, .out] (among [.AON_PWR_EVT, .IC_ARC_EVT, .IC_ARC_LOST, .IC_LDG, .REEL, .TL_REEL_EVT, .TL_SP_ECC, .TL_SP_EVT]) := by
  unfold execScratchpadWrite
  try dsimp only
  refine ⟨_, rfl, ?_⟩
  repeat' first
    | (with_reducible exact Frame.refl _ _ _)
    | ((with_reducible refine Frame.putFlag ?_ ?_) <;> [rfl; skip])
    | ((with_reducible refine Frame.putBump ?_ ?_) <;> [rfl; skip])
    | ((with_reducible eapply Frame.via) <;> [(with_reducible first | apply State.emitFrame | apply State.raiseFrame | apply State.spWrite_touches); rfl; exact among_sub rfl; skip])
    | ((with_reducible refine Frame.host ?_ ?_ ?_) <;> [rfl; skip; skip])
    | ((with_reducible refine Frame.choose ?_ ?_) <;> intro _)
    | split

theorem execMarchStart_touches (t : Fin 8) (v : Nat) (s : State) : Frames s (execMarchStart t v s) [.sp] (among [.AON_PWR_EVT, .L_MARCH_MODE, .REEL, .TL_MARCH_CTRL, .TL_MARCH_STATUS, .TL_SP_OFFLINE]) := by
  unfold execMarchStart
  try dsimp only
  refine ⟨_, rfl, ?_⟩
  repeat' first
    | (with_reducible exact Frame.refl _ _ _)
    | ((with_reducible refine Frame.put ?_ ?_) <;> [rfl; skip])
    | ((with_reducible refine Frame.puts ?_ ?_) <;> [(simp [among, anyKey]; done); skip])
    | ((with_reducible refine Frame.putsCons ?_ ?_) <;> [rfl; skip])
    | ((with_reducible eapply Frame.via) <;> [(with_reducible first | apply State.bankClear_touches | apply State.spStoreFrame); rfl; exact among_sub rfl; skip])
    | ((with_reducible refine Frame.host ?_ ?_ ?_) <;> [rfl; skip; skip])
    | ((with_reducible refine Frame.choose ?_ ?_) <;> intro _)
    | split

theorem execMarchDone_touches (t : Fin 8) (fails addr : Nat) (s : State) : Frames s (execMarchDone t fails addr s) [.sp, .arcBuf] (among [.IC_ARC_EVT, .IC_ARC_LOST, .IC_LDG, .REEL, .TL_MARCH_ADDR, .TL_MARCH_STATUS, .TL_SP_EVT, .TL_SP_OFFLINE]) := by
  unfold execMarchDone
  try dsimp only
  refine ⟨_, rfl, ?_⟩
  repeat' first
    | (with_reducible exact Frame.refl _ _ _)
    | ((with_reducible refine Frame.puts ?_ ?_) <;> [(simp [among, anyKey]; done); skip])
    | ((with_reducible refine Frame.putsCons ?_ ?_) <;> [rfl; skip])
    | ((with_reducible eapply Frame.via) <;> [(with_reducible first | apply State.bankClear_touches | apply State.raiseFrame); rfl; exact among_sub rfl; skip])
    | ((with_reducible refine Frame.choose ?_ ?_) <;> intro _)
    | split

end Sys2Proof.Machine
end

