-- ==== Sys2Proof/Laws/FramesDma.lean ====
section
/-!
SUPPORT. The frames of the operations of Machine/Dma.lean: the parts and registers each may change.
-/
set_option linter.unusedTactic false
set_option linter.unreachableTactic false
set_option linter.unusedVariables false
set_option linter.unusedSimpArgs false
namespace Sys2Proof.Machine

theorem Frame.asOwner {s a : State} {ps : List Part} {p : Key → Bool} {f q : Nat} {e : State → State} (h1 : p Fld.AON_PWR_EVT_SLEEP_ACCESS = true) (h2 : p Fld.SYS_HIF_EVT_PRIV_DENIED = true)
    (h : Frame a (e a) ps p) (g : Frame s a ps p) : Frame s (a.asOwner f q e) ps p := by
  refine Frame.host h1 ?_ g
  split
  · exact h
  · exact (Frame.refl _ _ _).put h2

theorem State.dmaEnd_touches (s : State) (q status count n : Nat) (irq : Bool) : Frame s (State.dmaEnd s q status count n irq) [.dmaDone] (among [.DMA_Q_BYTES_HI, .DMA_Q_BYTES_LO, .L_DMA_ENDING]) := by
  unfold State.dmaEnd
  try dsimp only
  repeat' first
    | (with_reducible exact Frame.refl _ _ _)
    | ((with_reducible refine Frame.putClr ?_ ?_) <;> [rfl; skip])
    | ((with_reducible refine Frame.put2 ?_ ?_ ?_) <;> [rfl; rfl; skip])
    | (fail_if_no_progress ((with_reducible refine Frame.on_dmaDone ?_ ?_) <;> [rfl; skip]))

theorem Frame.runDesc {s a : State} {ps : List Part} {p : Key → Bool} {q op : Nat} {seg : Bool} {words : List Nat} {moved : Nat} {err : Bool}
    {move : Desc → Nat → State → Option (Nat × Nat) × State} (hp : ([.dmaDone]).all ps.contains = true) (hk : ∀ k, (among [.DMA_Q_BYTES_HI, .DMA_Q_BYTES_LO, .L_DMA_ENDING, .MS_EVT, .MS_STRM_CNT, .MS_STRM_FILL]) k = true → p k = true)
    (h : ∀ d n b, Frame b (move d n b).2 ps p) (g : Frame s a ps p) : Frame s (a.runDesc q op seg words moved err move) ps p := by
  have he : ∀ (b : State) (x y z w : Nat) (i : Bool), Frame b (b.dmaEnd x y z w i) ps p := fun b x y z w i =>
    (State.dmaEnd_touches b x y z w i).mono (fun y hy => by simpa using List.all_eq_true.mp hp y (by revert hy; decide +revert)) (fun k e => hk k (among_sub rfl k e))
  have hc : ∀ (b : State) (x y z w : Nat), Frame b (b.commitSlot x y z w).2 ps p := fun b x y z w =>
    (State.commitSlot_touches b x y z w).mono (fun y hy => by simpa using List.all_eq_true.mp hp y (by revert hy; decide +revert)) (fun k e => hk k (among_sub rfl k e))
  unfold State.runDesc
  dsimp only
  split
  · exact g
  · split
    · exact g.trans (he _ _ _ _ _ _)
    · split
      · exact (g.trans (h _ _ _)).trans (he _ _ _ _ _ _)
      · split
        · split
          · exact (g.trans (h _ _ _)).trans (he _ _ _ _ _ _)
          · exact g
        · have hx : Frame s (if (descOf words).commit = true then ((move (descOf words) (descOf words).len a).2.commitSlot (descOf words).slot 1 q (descOf words).seq)
              else (true, (move (descOf words) (descOf words).len a).2)).2 ps p := by
            split
            · exact (g.trans (h _ _ _)).trans (hc _ _ _ _ _)
            · exact g.trans (h _ _ _)
          split
          · exact hx.trans (he _ _ _ _ _ _)
          · generalize (if (descOf words).commit = true then ((move (descOf words) (descOf words).len a).2.commitSlot (descOf words).slot 1 q (descOf words).seq)
              else (true, (move (descOf words) (descOf words).len a).2)) = z at hx ⊢
            split <;> exact hx.trans (he _ _ _ _ _ _)

theorem State.dmaCards_touches (s : State) (k : Nat) (data : List (BitVec 8)) (fuel n : Nat) : Frame s (s.dmaCards k data fuel n).2.2 [.mem, .cards, .badCards] (among [.L_STRM_RET, .MS_STRM_CNT, .MS_STRM_FILL, .MS_STRM_PLAY]) := by
  induction fuel generalizing s n with
  | zero => exact Frame.refl _ _ _
  | succ fuel ih =>
    unfold State.dmaCards
    dsimp only
    split
    · exact Frame.refl _ _ _
    · exact ((State.cardStore_touches _ _ _).via rfl (among_sub rfl) (Frame.refl _ _ _)).trans (ih _ _)

theorem State.dmaFault_touches (s : State) (q : Nat) : Frame s (State.dmaFault s q) [.arcBuf] (among [.DMA_EVT, .DMA_Q_EVT, .DMA_Q_STATUS, .IC_ARC_EVT, .IC_ARC_LOST, .IC_LDG, .L_DMA_RAISED]) := by
  unfold State.dmaFault
  try dsimp only
  repeat' first
    | (with_reducible exact Frame.refl _ _ _)
    | ((with_reducible refine Frame.put ?_ ?_) <;> [rfl; skip])
    | ((with_reducible refine Frame.putFlag ?_ ?_) <;> [rfl; skip])
    | ((with_reducible refine Frame.puts ?_ ?_) <;> [(simp [among, anyKey]; done); skip])
    | ((with_reducible refine Frame.putsCons ?_ ?_) <;> [rfl; skip])
    | ((with_reducible eapply Frame.via) <;> [(with_reducible first | apply State.raiseFrame); rfl; exact among_sub rfl; skip])
    | ((with_reducible refine Frame.forget ?_ ?_) <;> [(intro k hk; simp at hk; first | (simp [among, hk]; done) | (simp [among]; tauto)); skip])
    | (with_reducible refine Frame.step ?_ ?_)
    | ((with_reducible refine Frame.choose ?_ ?_) <;> intro _)
    | split

theorem State.writeBack_touches (s : State) (x : DmaDone) : Frame s (State.writeBack s x) [.arcBuf, .out] (among [.DMA_EVT, .DMA_Q_EVT, .DMA_Q_HEAD, .DMA_Q_STATUS, .IC_ARC_EVT, .IC_ARC_LOST, .IC_LDG, .L_DMA_RAISED]) := by
  unfold State.writeBack
  try dsimp only
  repeat' first
    | (with_reducible exact Frame.refl _ _ _)
    | ((with_reducible refine Frame.put ?_ ?_) <;> [rfl; skip])
    | ((with_reducible refine Frame.putFlag ?_ ?_) <;> [rfl; skip])
    | ((with_reducible eapply Frame.via) <;> [(with_reducible first | apply State.dmaFault_touches | apply State.emitFrame); rfl; exact among_sub rfl; skip])
    | (with_reducible refine Frame.step ?_ ?_)
    | ((with_reducible refine Frame.choose ?_ ?_) <;> intro _)
    | split

theorem execDmaQueueEnable_touches (pf : Fin 4) (q : Fin 64) (s : State) : Frames s (execDmaQueueEnable pf q s) [] (among [.AON_PWR_EVT, .DMA_Q_BYTES_HI, .DMA_Q_BYTES_LO, .DMA_Q_CTRL, .DMA_Q_EVT, .DMA_Q_STATUS, .L_DMA_ENDING, .SYS_HIF_EVT]) := by
  unfold execDmaQueueEnable
  try dsimp only
  refine ⟨_, rfl, ?_⟩
  repeat' first
    | (with_reducible exact Frame.refl _ _ _)
    | ((with_reducible refine Frame.putFlag ?_ ?_) <;> [rfl; skip])
    | ((with_reducible refine Frame.puts ?_ ?_) <;> [(simp [among, anyKey]; done); skip])
    | ((with_reducible refine Frame.putsCons ?_ ?_) <;> [rfl; skip])
    | ((with_reducible refine Frame.asOwner ?_ ?_ ?_ ?_) <;> [rfl; rfl; skip; skip])
    | ((with_reducible refine Frame.choose ?_ ?_) <;> intro _)
    | split

theorem execDmaQueueDisable_touches (pf : Fin 4) (q : Fin 64) (s : State) : Frames s (execDmaQueueDisable pf q s) [] (among [.AON_PWR_EVT, .DMA_Q_CTRL, .DMA_Q_STATUS, .L_DMA_ENDING, .SYS_HIF_EVT]) := by
  unfold execDmaQueueDisable
  try dsimp only
  refine ⟨_, rfl, ?_⟩
  repeat' first
    | (with_reducible exact Frame.refl _ _ _)
    | ((with_reducible refine Frame.putClr ?_ ?_) <;> [rfl; skip])
    | ((with_reducible refine Frame.puts ?_ ?_) <;> [(simp [among, anyKey]; done); skip])
    | ((with_reducible refine Frame.putsCons ?_ ?_) <;> [rfl; skip])
    | ((with_reducible refine Frame.asOwner ?_ ?_ ?_ ?_) <;> [rfl; rfl; skip; skip])
    | ((with_reducible refine Frame.choose ?_ ?_) <;> intro _)
    | split

theorem execDmaStopDone_touches (q : Fin 64) (s : State) : Frames s (execDmaStopDone q s) [] (among [.DMA_Q_STATUS, .L_DMA_ENDING]) := by
  unfold execDmaStopDone
  try dsimp only
  refine ⟨_, rfl, ?_⟩
  repeat' first
    | (with_reducible exact Frame.refl _ _ _)
    | ((with_reducible refine Frame.puts ?_ ?_) <;> [(simp [among, anyKey]; done); skip])
    | ((with_reducible refine Frame.putsCons ?_ ?_) <;> [rfl; skip])
    | ((with_reducible refine Frame.choose ?_ ?_) <;> intro _)
    | split

theorem execDmaTailWrite_touches (pf : Fin 4) (q : Fin 64) (v : Nat) (s : State) : Frames s (execDmaTailWrite pf q v s) [] (among [.AON_PWR_EVT, .DMA_Q_EVT, .DMA_Q_TAIL, .SYS_HIF_EVT]) := by
  unfold execDmaTailWrite
  try dsimp only
  refine ⟨_, rfl, ?_⟩
  repeat' first
    | (with_reducible exact Frame.refl _ _ _)
    | ((with_reducible refine Frame.put ?_ ?_) <;> [rfl; skip])
    | ((with_reducible refine Frame.putFlag ?_ ?_) <;> [rfl; skip])
    | ((with_reducible refine Frame.asOwner ?_ ?_ ?_ ?_) <;> [rfl; rfl; skip; skip])
    | ((with_reducible refine Frame.choose ?_ ?_) <;> intro _)
    | split

theorem execWriteSeg_touches (q : Fin 64) (d : List Nat) (moved : Nat) (data : List (BitVec 8)) (uncorr : List Nat) (err : Bool) (s : State) : Frames s (execWriteSeg q d moved data uncorr err s) [.mem, .dmaDone, .badBursts, .arcBuf] (among [.DMA_Q_BYTES_HI, .DMA_Q_BYTES_LO, .IC_ARC_EVT, .IC_ARC_LOST, .IC_LDG, .L_DMA_ENDING, .L_WDROP_LATCHED, .MS_ECC_CNT, .MS_EVT, .MS_STRM_CNT, .MS_STRM_FILL, .MS_WDROP_ADDR_HI, .MS_WDROP_ADDR_LO, .MS_WDROP_CNT, .MS_WDROP_SRC]) := by
  unfold execWriteSeg
  try dsimp only
  refine ⟨_, rfl, ?_⟩
  repeat' first
    | (with_reducible exact Frame.refl _ _ _)
    | ((with_reducible eapply Frame.via) <;> [(with_reducible first | apply State.spoil_touches | apply State.writeSeg_touches); rfl; exact among_sub rfl; skip])
    | ((with_reducible refine Frame.runDesc ?_ ?_ ?_ ?_) <;> [rfl; (first | exact among_sub rfl | exact anyKey_sub); intro _ _ _; skip])
    | ((with_reducible refine Frame.choose ?_ ?_) <;> intro _)
    | split

theorem execReadSeg_touches (q : Fin 64) (d : List Nat) (moved : Nat) (uncorr : List Nat) (err : Bool) (s : State) : Frames s (execReadSeg q d moved uncorr err s) [.mem, .dmaDone, .badBursts, .arcBuf, .out] (among [.DMA_Q_BYTES_HI, .DMA_Q_BYTES_LO, .IC_ARC_EVT, .IC_ARC_LOST, .IC_LDG, .L_DMA_ENDING, .MS_ECC_CNT, .MS_EVT, .MS_STRM_CNT, .MS_STRM_FILL]) := by
  unfold execReadSeg
  try dsimp only
  refine ⟨_, rfl, ?_⟩
  repeat' first
    | (with_reducible exact Frame.refl _ _ _)
    | ((with_reducible eapply Frame.via) <;> [(with_reducible first | apply State.emitFrame | apply State.segRead_touches | apply State.spoil_touches); rfl; exact among_sub rfl; skip])
    | ((with_reducible refine Frame.runDesc ?_ ?_ ?_ ?_) <;> [rfl; (first | exact among_sub rfl | exact anyKey_sub); intro _ _ _; skip])

theorem execWriteSp_touches (q : Fin 64) (d : List Nat) (moved : Nat) (data : List (BitVec 8)) (err : Bool) (s : State) : Frames s (execWriteSp q d moved data err s) [.sp, .dmaDone] (among [.DMA_Q_BYTES_HI, .DMA_Q_BYTES_LO, .L_DMA_ENDING, .MS_EVT, .MS_STRM_CNT, .MS_STRM_FILL, .REEL, .TL_REEL_EVT, .TL_SP_EVT]) := by
  unfold execWriteSp
  try dsimp only
  refine ⟨_, rfl, ?_⟩
  repeat' first
    | (with_reducible exact Frame.refl _ _ _)
    | ((with_reducible eapply Frame.via) <;> [(with_reducible first | apply State.spWrite_touches); rfl; exact among_sub rfl; skip])
    | ((with_reducible refine Frame.runDesc ?_ ?_ ?_ ?_) <;> [rfl; (first | exact among_sub rfl | exact anyKey_sub); intro _ _ _; skip])

theorem execReadSp_touches (q : Fin 64) (d : List Nat) (moved : Nat) (err : Bool) (s : State) : Frames s (execReadSp q d moved err s) [.dmaDone, .out] (among [.DMA_Q_BYTES_HI, .DMA_Q_BYTES_LO, .L_DMA_ENDING, .MS_EVT, .MS_STRM_CNT, .MS_STRM_FILL, .TL_SP_EVT]) := by
  unfold execReadSp
  try dsimp only
  refine ⟨_, rfl, ?_⟩
  repeat' first
    | (with_reducible exact Frame.refl _ _ _)
    | ((with_reducible eapply Frame.via) <;> [(with_reducible first | apply State.emitFrame | apply State.spRead_touches); rfl; exact among_sub rfl; skip])
    | ((with_reducible refine Frame.runDesc ?_ ?_ ?_ ?_) <;> [rfl; (first | exact among_sub rfl | exact anyKey_sub); intro _ _ _; skip])

theorem execDmaCard_touches (q : Fin 64) (d : List Nat) (moved : Nat) (data : List (BitVec 8)) (err : Bool) (s : State) : Frames s (execDmaCard q d moved data err s) [.mem, .dmaDone, .cards, .badCards] (among [.DMA_Q_BYTES_HI, .DMA_Q_BYTES_LO, .L_DMA_ENDING, .L_STRM_RET, .MS_EVT, .MS_STRM_CNT, .MS_STRM_FILL, .MS_STRM_PLAY]) := by
  unfold execDmaCard
  try dsimp only
  refine ⟨_, rfl, ?_⟩
  repeat' first
    | (with_reducible exact Frame.refl _ _ _)
    | ((with_reducible eapply Frame.via) <;> [(with_reducible first | apply State.dmaCards_touches); rfl; exact among_sub rfl; skip])
    | ((with_reducible refine Frame.runDesc ?_ ?_ ?_ ?_) <;> [rfl; (first | exact among_sub rfl | exact anyKey_sub); intro _ _ _; skip])
    | ((with_reducible refine Frame.choose ?_ ?_) <;> intro _)
    | split

theorem execDescWriteback_touches (q : Fin 64) (d : List Nat) (err : Bool) (s : State) : Frames s (execDescWriteback q d err s) [.dmaDone, .arcBuf, .out] (among [.DMA_EVT, .DMA_Q_EVT, .DMA_Q_HEAD, .DMA_Q_STATUS, .IC_ARC_EVT, .IC_ARC_LOST, .IC_LDG, .L_DMA_ENDING, .L_DMA_RAISED]) := by
  unfold execDescWriteback
  try dsimp only
  refine ⟨_, rfl, ?_⟩
  repeat' first
    | (with_reducible exact Frame.refl _ _ _)
    | ((with_reducible refine Frame.putClr ?_ ?_) <;> [rfl; skip])
    | ((with_reducible eapply Frame.via) <;> [(with_reducible first | apply State.writeBack_touches); rfl; exact among_sub rfl; skip])
    | (fail_if_no_progress ((with_reducible refine Frame.on_dmaDone ?_ ?_) <;> [rfl; skip]))
    | ((with_reducible refine Frame.choose ?_ ?_) <;> intro _)
    | split

end Sys2Proof.Machine
end

