-- ==== Sys2Proof/Laws/FramesHostIf.lean ====
section
/-!
SUPPORT. The frames of the operations of Machine/HostIf.lean: the parts and registers each may change.
-/
set_option linter.unusedTactic false
set_option linter.unreachableTactic false
set_option linter.unusedVariables false
set_option linter.unusedSimpArgs false
namespace Sys2Proof.Machine

theorem State.targetReset_touches (s : State) (t : Nat) : Frame s (State.targetReset s t) [] (among [.IC_TGT_STATUS, .SYS_MSIX_PBA]) := by
  unfold State.targetReset
  try dsimp only
  repeat' first
    | (with_reducible exact Frame.refl _ _ _)
    | ((with_reducible refine Frame.puts ?_ ?_) <;> [(simp [among, anyKey]; done); skip])
    | ((with_reducible refine Frame.putsCons ?_ ?_) <;> [rfl; skip])
    | ((with_reducible eapply Frame.via) <;> [(with_reducible first | apply State.withdraw_touches); rfl; exact among_sub rfl; skip])

theorem State.functionReset_touches (s : State) (f : Nat) (priv : Bool) : Frame s (State.functionReset s f priv) [] (among [.IC_TGT_STATUS, .L_PF_FMASK, .L_PF_PME_EN, .SYS_MSIX, .SYS_MSIX_PBA, .SYS_PF_CFG]) := by
  unfold State.functionReset
  try dsimp only
  repeat' first
    | (with_reducible exact Frame.refl _ _ _)
    | ((with_reducible eapply Frame.via) <;> [(with_reducible first | apply State.targetReset_touches); rfl; exact among_sub rfl; skip])
    | ((with_reducible refine Frame.forget ?_ ?_) <;> [(intro k hk; simp at hk; first | (simp [among, hk]; done) | (simp [among]; tauto)); skip])

theorem State.queueReset_touches (s : State) (q : Nat) : Frame s (State.queueReset s q) [.dmaDone] (among [.DMA_Q_CTRL, .DMA_Q_STATUS, .L_DMA_ENDING]) := by
  unfold State.queueReset
  try dsimp only
  repeat' first
    | (with_reducible exact Frame.refl _ _ _)
    | ((with_reducible refine Frame.puts ?_ ?_) <;> [(simp [among, anyKey]; done); skip])
    | ((with_reducible refine Frame.putsCons ?_ ?_) <;> [rfl; skip])
    | (fail_if_no_progress ((with_reducible refine Frame.on_dmaDone ?_ ?_) <;> [rfl; skip]))

theorem State.hostLinkDown_touches (s : State) (link : Nat) : Frame s (State.hostLinkDown s link) [.dmaDone, .arcBuf] (among [.DMA_Q_CTRL, .DMA_Q_STATUS, .IC_ARC_EVT, .IC_ARC_LOST, .IC_LDG, .IC_TGT_STATUS, .L_DMA_ENDING, .L_PF_FMASK, .L_PF_PME_EN, .SYS_HIF_EVT, .SYS_HIF_STATUS, .SYS_MSIX, .SYS_MSIX_PBA, .SYS_PF_CFG]) := by
  unfold State.hostLinkDown
  try dsimp only
  repeat' first
    | (with_reducible exact Frame.refl _ _ _)
    | ((with_reducible refine Frame.putPersist ?_ ?_) <;> [rfl; skip])
    | ((with_reducible refine Frame.puts ?_ ?_) <;> [(simp [among, anyKey]; done); skip])
    | ((with_reducible refine Frame.putsCons ?_ ?_) <;> [rfl; skip])
    | ((with_reducible eapply Frame.via) <;> [(with_reducible first | apply State.functionReset_touches | apply State.queueReset_touches | apply State.raiseFrame | apply State.reroute_touches); rfl; exact among_sub rfl; skip])
    | ((with_reducible refine Frame.steps ?_ ?_) <;> [intro _ _; skip])

theorem State.putRw_touches (s : State) (r : RName) (i j v : Nat) : Frame s (State.putRw s r i j v) [] anyKey := by
  unfold State.putRw
  try dsimp only
  repeat' first
    | (with_reducible exact Frame.refl _ _ _)
    | ((with_reducible refine Frame.put ?_ ?_) <;> [rfl; skip])
    | ((with_reducible refine Frame.steps ?_ ?_) <;> [intro _ _; skip])
    | ((with_reducible refine Frame.choose ?_ ?_) <;> intro _)
    | split

theorem State.afterWrite_touches (s old : State) (r : RName) (i j : Nat) : Frame s (State.afterWrite s old r i j) [.measures, .out] (among [.L_EQ_SRC_AT, .L_LK_TXS_N, .L_THR_ABOVE, .PP_EVT, .PP_PARK_SRC, .SYS_MSIX, .SYS_MSIX_PBA, .TIU_EVT, .TIU_RSTAT, .TIU_STATUS]) := by
  unfold State.afterWrite
  try dsimp only
  repeat' first
    | (with_reducible exact Frame.refl _ _ _)
    | ((with_reducible refine Frame.put ?_ ?_) <;> [rfl; skip])
    | ((with_reducible refine Frame.putClr ?_ ?_) <;> [rfl; skip])
    | ((with_reducible eapply Frame.via) <;> [(with_reducible first | apply State.ppPark_touches | apply State.tbClaim_touches | apply State.unmask_touches); rfl; exact among_sub rfl; skip])
    | (with_reducible refine Frame.step ?_ ?_)
    | split

theorem State.storeReg_touches (s : State) (r : RName) (i j v : Nat) : Frame s (State.storeReg s r i j v) [.measures, .posted, .out] anyKey := by
  unfold State.storeReg
  try dsimp only
  repeat' first
    | (with_reducible exact Frame.refl _ _ _)
    | ((with_reducible eapply Frame.via) <;> [(with_reducible first | apply State.afterWrite_touches | apply State.postFrame | apply State.putRw_touches | apply State.reroute_touches); rfl; exact anyKey_sub; skip])
    | ((with_reducible refine Frame.choose ?_ ?_) <;> intro _)
    | split

theorem State.regWrite_touches (s : State) (pf addr : Nat) (r : RName) (i j v : Nat) : Frame s (State.regWrite s pf addr r i j v) [.measures, .arcBuf, .posted, .out] anyKey := by
  unfold State.regWrite
  try dsimp only
  repeat' first
    | (with_reducible exact Frame.refl _ _ _)
    | ((with_reducible refine Frame.putFlag ?_ ?_) <;> [rfl; skip])
    | ((with_reducible eapply Frame.via) <;> [(with_reducible first | apply State.storeReg_touches); rfl; exact anyKey_sub; skip])
    | ((with_reducible refine Frame.unreserved ?_ ?_ ?_) <;> [rfl; skip; skip])
    | ((with_reducible refine Frame.onPers ?_ ?_ ?_ ?_) <;> [rfl; (first | exact among_sub rfl | exact anyKey_sub); skip; skip])
    | ((with_reducible refine Frame.choose ?_ ?_) <;> intro _)
    | split

theorem State.clearSticky_touches (s : State) (r : RName) (i j : Nat) : Frame s (State.clearSticky s r i j) [] anyKey := by
  unfold State.clearSticky
  try dsimp only
  repeat' first
    | (with_reducible exact Frame.refl _ _ _)
    | ((with_reducible refine Frame.putClr ?_ ?_) <;> [rfl; skip])
    | ((with_reducible refine Frame.steps ?_ ?_) <;> [intro _ _; skip])
    | ((with_reducible refine Frame.choose ?_ ?_) <;> intro _)
    | split

theorem execHostLinkReset_touches (link : Nat) (s : State) : Frames s (execHostLinkReset link s) [.dmaDone, .arcBuf] (among [.DMA_Q_CTRL, .DMA_Q_STATUS, .IC_ARC_EVT, .IC_ARC_LOST, .IC_LDG, .IC_TGT_STATUS, .L_DMA_ENDING, .L_PF_FMASK, .L_PF_PME_EN, .SYS_HIF_EVT, .SYS_HIF_STATUS, .SYS_MSIX, .SYS_MSIX_PBA, .SYS_PF_CFG]) := by
  unfold execHostLinkReset
  try dsimp only
  refine ⟨_, rfl, ?_⟩
  repeat' first
    | (with_reducible exact Frame.refl _ _ _)
    | ((with_reducible eapply Frame.via) <;> [(with_reducible first | apply State.hostLinkDown_touches); rfl; exact among_sub rfl; skip])

theorem execHostLinkUp_touches (flit : Bool) (width : Fin 64) (speed : Fin 16) (s : State) : Frames s (execHostLinkUp flit width speed s) [.arcBuf, .free] (among [.IC_ARC_EVT, .IC_ARC_LOST, .IC_LDG, .SYS_HIF_STATUS]) := by
  unfold execHostLinkUp
  try dsimp only
  refine ⟨_, rfl, ?_⟩
  repeat' first
    | (with_reducible exact Frame.refl _ _ _)
    | ((with_reducible refine Frame.putPersist ?_ ?_) <;> [rfl; skip])
    | ((with_reducible refine Frame.puts ?_ ?_) <;> [(simp [among, anyKey]; done); skip])
    | ((with_reducible refine Frame.putsCons ?_ ?_) <;> [rfl; skip])
    | ((with_reducible eapply Frame.via) <;> [(with_reducible first | apply State.freshFrame | apply State.raiseFrame); rfl; exact among_sub rfl; skip])
    | ((with_reducible refine Frame.choose ?_ ?_) <;> intro _)
    | split

theorem execFlr_touches (pf : Fin 4) (s : State) : Frames s (execFlr pf s) [.dmaDone] (among [.DMA_Q_CTRL, .DMA_Q_STATUS, .IC_TGT_STATUS, .L_DMA_ENDING, .L_PF_FMASK, .L_PF_PME_EN, .SYS_HIF_EVT, .SYS_MSIX, .SYS_MSIX_PBA, .SYS_PF_CFG]) := by
  unfold execFlr
  try dsimp only
  refine ⟨_, rfl, ?_⟩
  repeat' first
    | (with_reducible exact Frame.refl _ _ _)
    | ((with_reducible refine Frame.putFlag ?_ ?_) <;> [rfl; skip])
    | ((with_reducible eapply Frame.via) <;> [(with_reducible first | apply State.functionReset_touches | apply State.queueReset_touches | apply State.reroute_touches); rfl; exact among_sub rfl; skip])
    | ((with_reducible refine Frame.steps ?_ ?_) <;> [intro _ _; skip])

theorem execPfD3hot_touches (pf : Fin 4) (s : State) : Frames s (execPfD3hot pf s) [] (among [.IC_TGT_STATUS, .SYS_MSIX_PBA, .SYS_PF_CFG]) := by
  unfold execPfD3hot
  try dsimp only
  refine ⟨_, rfl, ?_⟩
  repeat' first
    | (with_reducible exact Frame.refl _ _ _)
    | ((with_reducible refine Frame.putFlag ?_ ?_) <;> [rfl; skip])
    | ((with_reducible eapply Frame.via) <;> [(with_reducible first | apply State.reroute_touches); rfl; exact among_sub rfl; skip])

theorem execPfD0Entry_touches (pf : Fin 4) (s : State) : Frames s (execPfD0Entry pf s) [] (among [.IC_TGT_STATUS, .SYS_MSIX_PBA, .SYS_PF_CFG]) := by
  unfold execPfD0Entry
  try dsimp only
  refine ⟨_, rfl, ?_⟩
  repeat' first
    | (with_reducible exact Frame.refl _ _ _)
    | ((with_reducible refine Frame.putClr ?_ ?_) <;> [rfl; skip])
    | ((with_reducible eapply Frame.via) <;> [(with_reducible first | apply State.reroute_touches); rfl; exact among_sub rfl; skip])

theorem execBmeClear_touches (pf : Fin 4) (s : State) : Frames s (execBmeClear pf s) [] (among [.DMA_EVT, .SYS_PF_CFG]) := by
  unfold execBmeClear
  try dsimp only
  refine ⟨_, rfl, ?_⟩
  repeat' first
    | (with_reducible exact Frame.refl _ _ _)
    | ((with_reducible refine Frame.putFlag ?_ ?_) <;> [rfl; skip])
    | ((with_reducible refine Frame.putClr ?_ ?_) <;> [rfl; skip])

theorem execBmeSet_touches (pf : Fin 4) (s : State) : Frames s (execBmeSet pf s) [] (among [.SYS_PF_CFG]) := by
  unfold execBmeSet
  try dsimp only
  refine ⟨_, rfl, ?_⟩
  repeat' first
    | (with_reducible exact Frame.refl _ _ _)
    | ((with_reducible refine Frame.putFlag ?_ ?_) <;> [rfl; skip])

theorem execRegisterWrite_touches (pf : Fin 4) (addr : Nat) (be : Fin 16) (v : Nat) (s : State) : Frames s (execRegisterWrite pf addr be v s) [.measures, .arcBuf, .posted, .out] anyKey := by
  unfold execRegisterWrite
  try dsimp only
  refine ⟨_, rfl, ?_⟩
  repeat' first
    | (with_reducible exact Frame.refl _ _ _)
    | ((with_reducible refine Frame.putFlag ?_ ?_) <;> [rfl; skip])
    | ((with_reducible eapply Frame.via) <;> [(with_reducible first | apply State.regWrite_touches); rfl; exact anyKey_sub; skip])
    | ((with_reducible refine Frame.host ?_ ?_ ?_) <;> [rfl; skip; skip])
    | ((with_reducible refine Frame.choose ?_ ?_) <;> intro _)
    | split

theorem execWsWriteEffect_touches (s : State) : Frames s (execWsWriteEffect s) [.posted] anyKey := by
  unfold execWsWriteEffect
  try dsimp only
  refine ⟨_, rfl, ?_⟩
  repeat' first
    | (with_reducible exact Frame.refl _ _ _)
    | ((with_reducible refine Frame.put ?_ ?_) <;> [rfl; skip])
    | (with_reducible refine Frame.step ?_ ?_)
    | ((with_reducible refine Frame.steps ?_ ?_) <;> [intro _ _; skip])
    | (fail_if_no_progress ((with_reducible refine Frame.on_posted ?_ ?_) <;> [rfl; skip]))
    | ((with_reducible refine Frame.choose ?_ ?_) <;> intro _)
    | split

theorem execStickyReadClear_touches (pf : Fin 4) (addr : Nat) (s : State) : Frames s (execStickyReadClear pf addr s) [.out] anyKey := by
  unfold execStickyReadClear
  try dsimp only
  refine ⟨_, rfl, ?_⟩
  repeat' first
    | (with_reducible exact Frame.refl _ _ _)
    | ((with_reducible refine Frame.putFlag ?_ ?_) <;> [rfl; skip])
    | ((with_reducible eapply Frame.via) <;> [(with_reducible first | apply State.clearSticky_touches | apply State.emitFrame | apply State.reroute_touches); rfl; exact anyKey_sub; skip])
    | ((with_reducible refine Frame.choose ?_ ?_) <;> intro _)
    | split

end Sys2Proof.Machine
end

