-- ==== Sys2Proof/Laws/FramesLinks.lean ====
section
/-!
SUPPORT. The frames of the operations of Machine/Links.lean: the parts and registers each may change.
-/
set_option linter.unusedTactic false
set_option linter.unreachableTactic false
set_option linter.unusedVariables false
set_option linter.unusedSimpArgs false
namespace Sys2Proof.Machine

theorem State.sendStreams_touches (s : State) (l fuel room : Nat) : Frame s (s.sendStreams l fuel room) [.txs, .out] (among []) := by
  induction fuel generalizing s room with
  | zero => exact Frame.refl _ _ _
  | succ fuel ih =>
    unfold State.sendStreams
    dsimp only
    repeat' first
      | (with_reducible exact Frame.refl _ _ _)
      | ((with_reducible eapply Frame.via) <;> [(with_reducible first | apply State.emitFrame | apply ih); rfl; exact among_sub rfl; skip])
      | (fail_if_no_progress ((with_reducible refine Frame.on_txs ?_ ?_) <;> [rfl; skip]))
      | ((with_reducible refine Frame.choose ?_ ?_) <;> intro _)
      | split


theorem State.crcError_touches (s : State) (l : Nat) : Frame s (State.crcError s l) [] (among [.LK_CNT, .LK_EVT]) := by
  unfold State.crcError
  try dsimp only
  repeat' first
    | (with_reducible exact Frame.refl _ _ _)
    | ((with_reducible refine Frame.putFlag ?_ ?_) <;> [rfl; skip])
    | ((with_reducible refine Frame.putBump ?_ ?_) <;> [rfl; skip])

theorem State.follow_touches (s : State) (l : Nat) : Frame s (State.follow s l) [.arcBuf] (among [.IC_ARC_EVT, .IC_ARC_LOST, .IC_LDG, .LK_STATUS, .LK_STUDIO_EVT, .LK_STUDIO_STATUS, .L_LK_FAULTED, .TB_FTRIM]) := by
  unfold State.follow
  try dsimp only
  repeat' first
    | (with_reducible exact Frame.refl _ _ _)
    | ((with_reducible refine Frame.putFlag ?_ ?_) <;> [rfl; skip])
    | ((with_reducible refine Frame.putSeti ?_ ?_) <;> [rfl; skip])
    | ((with_reducible eapply Frame.via) <;> [(with_reducible first | apply State.misalign_touches); rfl; exact among_sub rfl; skip])
    | ((with_reducible refine Frame.choose ?_ ?_) <;> intro _)
    | split

theorem State.alignStart_touches (s : State) : Frame s (State.alignStart s) [] (among [.LK_STUDIO_STATUS, .L_ST_FRESH, .L_ST_OUT]) := by
  unfold State.alignStart
  try dsimp only
  repeat' first
    | (with_reducible exact Frame.refl _ _ _)
    | ((with_reducible refine Frame.puts ?_ ?_) <;> [(simp [among, anyKey]; done); skip])
    | ((with_reducible refine Frame.putsCons ?_ ?_) <;> [rfl; skip])

theorem State.alignFail_touches (s : State) : Frame s (State.alignFail s) [] (among [.LK_STUDIO_EVT, .LK_STUDIO_STATUS, .L_ST_OUT]) := by
  unfold State.alignFail
  try dsimp only
  repeat' first
    | (with_reducible exact Frame.refl _ _ _)
    | ((with_reducible refine Frame.puts ?_ ?_) <;> [(simp [among, anyKey]; done); skip])
    | ((with_reducible refine Frame.putsCons ?_ ?_) <;> [rfl; skip])

theorem State.ringSample_touches (s : State) (l j pos : Nat) (d : Int) : Frame s (State.ringSample s l j pos d) [.mem, .badBursts, .arcBuf] (among [.IC_ARC_EVT, .IC_ARC_LOST, .IC_LDG, .LK_EVT, .L_WDROP_LATCHED, .MS_ECC_CNT, .MS_EVT, .MS_WDROP_ADDR_HI, .MS_WDROP_ADDR_LO, .MS_WDROP_CNT, .MS_WDROP_SRC]) := by
  unfold State.ringSample
  try dsimp only
  repeat' first
    | (with_reducible exact Frame.refl _ _ _)
    | ((with_reducible refine Frame.putFlag ?_ ?_) <;> [rfl; skip])
    | ((with_reducible eapply Frame.via) <;> [(with_reducible first | apply State.writeSeg_touches); rfl; exact among_sub rfl; skip])
    | (with_reducible refine Frame.step ?_ ?_)
    | split

theorem State.segmentCommit_touches (s : State) (l j : Nat) : Frame s (State.segmentCommit s l j) [] (among [.MS_EVT, .MS_STRM_CNT, .MS_STRM_FILL]) := by
  unfold State.segmentCommit
  try dsimp only
  repeat' first
    | (with_reducible exact Frame.refl _ _ _)
    | ((with_reducible eapply Frame.via) <;> [(with_reducible first | apply State.commitSlot_touches); rfl; exact among_sub rfl; skip])
    | split

theorem State.linkTick_touches (s : State) (l t : Nat) : Frame s (State.linkTick s l t) [.rxs, .txs] (among [.LK_RXS_STAT, .L_LK_TXS_N]) := by
  unfold State.linkTick
  try dsimp only
  repeat' first
    | (with_reducible exact Frame.refl _ _ _)
    | ((with_reducible refine Frame.put ?_ ?_) <;> [rfl; skip])
    | ((with_reducible refine Frame.putBump ?_ ?_) <;> [rfl; skip])
    | ((with_reducible refine Frame.steps ?_ ?_) <;> [intro _ _; skip])
    | (fail_if_no_progress ((with_reducible refine Frame.on_rxs ?_ ?_) <;> [rfl; skip]))
    | (fail_if_no_progress ((with_reducible refine Frame.on_txs ?_ ?_) <;> [rfl; skip]))
    | ((with_reducible refine Frame.choose ?_ ?_) <;> intro _)
    | split

theorem execLinkEnable_touches (l : Fin 16) (s : State) : Frames s (execLinkEnable l s) [.rxs, .txq, .txs, .edges, .arcBuf] (among [.AON_PWR_EVT, .COR_GRP_EVT, .COR_GRP_STATUS, .COR_IN_STAT, .IC_ARC_EVT, .IC_ARC_LOST, .IC_LDG, .LK_CTRL, .LK_EVT, .LK_RXS_STAT, .LK_STATUS, .L_COR_RAMP, .L_COR_W0, .L_COR_ZERO, .L_LK_AGAIN, .L_LK_FAULTED, .L_LK_GOOD, .L_LK_HDR, .L_LK_N, .L_LK_SUM_R, .L_LK_SUM_T, .L_LK_TIU, .REEL, .TIU_STATUS]) := by
  unfold execLinkEnable
  try dsimp only
  refine ⟨_, rfl, ?_⟩
  repeat' first
    | (with_reducible exact Frame.refl _ _ _)
    | ((with_reducible refine Frame.putFlag ?_ ?_) <;> [rfl; skip])
    | ((with_reducible refine Frame.puts ?_ ?_) <;> [(simp [among, anyKey]; done); skip])
    | ((with_reducible refine Frame.putsCons ?_ ?_) <;> [rfl; skip])
    | ((with_reducible eapply Frame.via) <;> [(with_reducible first | apply State.linkStart_touches); rfl; exact among_sub rfl; skip])
    | ((with_reducible refine Frame.host ?_ ?_ ?_) <;> [rfl; skip; skip])
    | ((with_reducible refine Frame.choose ?_ ?_) <;> intro _)
    | split

theorem execLinkDisable_touches (l : Fin 16) (s : State) : Frames s (execLinkDisable l s) [.rxs, .txq, .txs, .edges, .arcBuf] (among [.AON_PWR_EVT, .COR_GRP_EVT, .COR_GRP_STATUS, .COR_IN_STAT, .IC_ARC_EVT, .IC_ARC_LOST, .IC_LDG, .LK_CTRL, .LK_EVT, .LK_RXS_STAT, .LK_STATUS, .L_COR_RAMP, .L_COR_W0, .L_COR_ZERO, .L_LK_AGAIN, .L_LK_FAULTED, .L_LK_GOOD, .L_LK_HDR, .L_LK_N, .L_LK_SUM_R, .L_LK_SUM_T, .L_LK_TIU, .REEL, .TIU_STATUS]) := by
  unfold execLinkDisable
  try dsimp only
  refine ⟨_, rfl, ?_⟩
  repeat' first
    | (with_reducible exact Frame.refl _ _ _)
    | ((with_reducible refine Frame.putClr ?_ ?_) <;> [rfl; skip])
    | ((with_reducible eapply Frame.via) <;> [(with_reducible first | apply State.linkStop_touches); rfl; exact among_sub rfl; skip])
    | ((with_reducible refine Frame.host ?_ ?_ ?_) <;> [rfl; skip; skip])

theorem execLinkStopDone_touches (l : Fin 16) (s : State) : Frames s (execLinkStopDone l s) [.rxs, .txq, .txs, .edges, .arcBuf] (among [.COR_GRP_EVT, .COR_GRP_STATUS, .COR_IN_STAT, .IC_ARC_EVT, .IC_ARC_LOST, .IC_LDG, .LK_EVT, .LK_RXS_STAT, .LK_STATUS, .L_COR_RAMP, .L_COR_W0, .L_COR_ZERO, .L_LK_AGAIN, .L_LK_FAULTED, .L_LK_GOOD, .L_LK_HDR, .L_LK_N, .L_LK_SUM_R, .L_LK_SUM_T, .L_LK_TIU, .REEL, .TIU_STATUS]) := by
  unfold execLinkStopDone
  try dsimp only
  refine ⟨_, rfl, ?_⟩
  repeat' first
    | (with_reducible exact Frame.refl _ _ _)
    | ((with_reducible refine Frame.putClr ?_ ?_) <;> [rfl; skip])
    | ((with_reducible eapply Frame.via) <;> [(with_reducible first | apply State.linkEnter_touches); rfl; exact among_sub rfl; skip])
    | ((with_reducible refine Frame.choose ?_ ?_) <;> intro _)
    | split

theorem execLinkTrained_touches (l : Fin 16) (s : State) : Frames s (execLinkTrained l s) [.rxs, .txq, .txs, .edges, .arcBuf] (among [.COR_GRP_EVT, .COR_GRP_STATUS, .COR_IN_STAT, .IC_ARC_EVT, .IC_ARC_LOST, .IC_LDG, .LK_EVT, .LK_RXS_STAT, .LK_STATUS, .L_COR_RAMP, .L_COR_W0, .L_COR_ZERO, .L_LK_AGAIN, .L_LK_FAULTED, .L_LK_GOOD, .L_LK_HDR, .L_LK_N, .L_LK_SUM_R, .L_LK_SUM_T, .L_LK_TIU, .REEL, .TIU_STATUS]) := by
  unfold execLinkTrained
  try dsimp only
  refine ⟨_, rfl, ?_⟩
  repeat' first
    | (with_reducible exact Frame.refl _ _ _)
    | ((with_reducible eapply Frame.via) <;> [(with_reducible first | apply State.linkEnter_touches); rfl; exact among_sub rfl; skip])
    | ((with_reducible refine Frame.choose ?_ ?_) <;> intro _)
    | split

theorem execLinkTrainTimeout_touches (l : Fin 16) (s : State) : Frames s (execLinkTrainTimeout l s) [.rxs, .txq, .txs, .edges, .arcBuf] (among [.COR_GRP_EVT, .COR_GRP_STATUS, .COR_IN_STAT, .IC_ARC_EVT, .IC_ARC_LOST, .IC_LDG, .LK_EVT, .LK_RXS_STAT, .LK_STATUS, .L_COR_RAMP, .L_COR_W0, .L_COR_ZERO, .L_LK_AGAIN, .L_LK_FAULTED, .L_LK_GOOD, .L_LK_HDR, .L_LK_N, .L_LK_SUM_R, .L_LK_SUM_T, .L_LK_TIU, .REEL, .TIU_STATUS]) := by
  unfold execLinkTrainTimeout
  try dsimp only
  refine ⟨_, rfl, ?_⟩
  repeat' first
    | (with_reducible exact Frame.refl _ _ _)
    | ((with_reducible eapply Frame.via) <;> [(with_reducible first | apply State.linkEnter_touches); rfl; exact among_sub rfl; skip])
    | ((with_reducible refine Frame.choose ?_ ?_) <;> intro _)
    | split

theorem execLinkSyncLoss_touches (l : Fin 16) (cause : Fin 4) (s : State) : Frames s (execLinkSyncLoss l cause s) [.rxs, .txq, .txs, .edges, .arcBuf] (among [.COR_GRP_EVT, .COR_GRP_STATUS, .COR_IN_STAT, .IC_ARC_EVT, .IC_ARC_LOST, .IC_LDG, .LK_EVT, .LK_RXS_STAT, .LK_STATUS, .L_COR_RAMP, .L_COR_W0, .L_COR_ZERO, .L_LK_AGAIN, .L_LK_FAULTED, .L_LK_GOOD, .L_LK_HDR, .L_LK_N, .L_LK_SUM_R, .L_LK_SUM_T, .L_LK_TIU, .REEL, .TIU_STATUS]) := by
  unfold execLinkSyncLoss
  try dsimp only
  refine ⟨_, rfl, ?_⟩
  repeat' first
    | (with_reducible exact Frame.refl _ _ _)
    | ((with_reducible eapply Frame.via) <;> [(with_reducible first | apply State.linkEnter_touches | apply State.linkFault_touches); rfl; exact among_sub rfl; skip])
    | ((with_reducible refine Frame.choose ?_ ?_) <;> intro _)
    | split

theorem execLinkRetrainLock_touches (l : Fin 16) (s : State) : Frames s (execLinkRetrainLock l s) [.rxs, .txq, .txs, .edges, .arcBuf] (among [.COR_GRP_EVT, .COR_GRP_STATUS, .COR_IN_STAT, .IC_ARC_EVT, .IC_ARC_LOST, .IC_LDG, .LK_EVT, .LK_RXS_STAT, .LK_STATUS, .L_COR_RAMP, .L_COR_W0, .L_COR_ZERO, .L_LK_AGAIN, .L_LK_FAULTED, .L_LK_GOOD, .L_LK_HDR, .L_LK_N, .L_LK_SUM_R, .L_LK_SUM_T, .L_LK_TIU, .REEL, .TIU_STATUS]) := by
  unfold execLinkRetrainLock
  try dsimp only
  refine ⟨_, rfl, ?_⟩
  repeat' first
    | (with_reducible exact Frame.refl _ _ _)
    | ((with_reducible eapply Frame.via) <;> [(with_reducible first | apply State.linkEnter_touches); rfl; exact among_sub rfl; skip])
    | ((with_reducible refine Frame.choose ?_ ?_) <;> intro _)
    | split

theorem execLinkRetrainTimeout_touches (l : Fin 16) (s : State) : Frames s (execLinkRetrainTimeout l s) [.rxs, .txq, .txs, .edges, .arcBuf] (among [.COR_GRP_EVT, .COR_GRP_STATUS, .COR_IN_STAT, .IC_ARC_EVT, .IC_ARC_LOST, .IC_LDG, .LK_EVT, .LK_RXS_STAT, .LK_STATUS, .L_COR_RAMP, .L_COR_W0, .L_COR_ZERO, .L_LK_AGAIN, .L_LK_FAULTED, .L_LK_GOOD, .L_LK_HDR, .L_LK_N, .L_LK_SUM_R, .L_LK_SUM_T, .L_LK_TIU, .REEL, .TIU_STATUS]) := by
  unfold execLinkRetrainTimeout
  try dsimp only
  refine ⟨_, rfl, ?_⟩
  repeat' first
    | (with_reducible exact Frame.refl _ _ _)
    | ((with_reducible eapply Frame.via) <;> [(with_reducible first | apply State.linkEnter_touches | apply State.linkFault_touches); rfl; exact among_sub rfl; skip])
    | ((with_reducible refine Frame.choose ?_ ?_) <;> intro _)
    | split

theorem execLinkDownTimeout_touches (l : Fin 16) (s : State) : Frames s (execLinkDownTimeout l s) [.rxs, .txq, .txs, .edges, .arcBuf] (among [.COR_GRP_EVT, .COR_GRP_STATUS, .COR_IN_STAT, .IC_ARC_EVT, .IC_ARC_LOST, .IC_LDG, .LK_EVT, .LK_RXS_STAT, .LK_STATUS, .L_COR_RAMP, .L_COR_W0, .L_COR_ZERO, .L_LK_AGAIN, .L_LK_FAULTED, .L_LK_GOOD, .L_LK_HDR, .L_LK_N, .L_LK_SUM_R, .L_LK_SUM_T, .L_LK_TIU, .REEL, .TIU_STATUS]) := by
  unfold execLinkDownTimeout
  try dsimp only
  refine ⟨_, rfl, ?_⟩
  repeat' first
    | (with_reducible exact Frame.refl _ _ _)
    | ((with_reducible eapply Frame.via) <;> [(with_reducible first | apply State.linkEnter_touches); rfl; exact among_sub rfl; skip])
    | ((with_reducible refine Frame.choose ?_ ?_) <;> intro _)
    | split

theorem execLinkFrameTx_touches (l : Fin 16) (s : State) : Frames s (execLinkFrameTx l s) [.txq, .txs, .out] (among [.L_LK_SENT]) := by
  unfold execLinkFrameTx
  try dsimp only
  refine ⟨_, rfl, ?_⟩
  repeat' first
    | (with_reducible exact Frame.refl _ _ _)
    | ((with_reducible refine Frame.put ?_ ?_) <;> [rfl; skip])
    | ((with_reducible eapply Frame.via) <;> [(with_reducible first | apply State.emitFrame | apply State.sendStreams_touches); rfl; exact among_sub rfl; skip])
    | (with_reducible refine Frame.step ?_ ?_)
    | ((with_reducible refine Frame.steps ?_ ?_) <;> [intro _ _; skip])
    | (fail_if_no_progress ((with_reducible refine Frame.on_txq ?_ ?_) <;> [rfl; skip]))
    | ((with_reducible refine Frame.choose ?_ ?_) <;> intro _)
    | split

theorem execHeaderRx_touches (l : Fin 16) (w stamp : Nat) (s : State) : Frames s (execHeaderRx l w stamp s) [] (among [.LK_CNT, .LK_EVT, .LK_STATUS, .L_LK_GOOD, .L_LK_HDR, .L_LK_HDR_A, .L_LK_HDR_F, .L_LK_PROLE, .L_LK_PSTATE, .L_LK_PUNREF, .L_LK_TIU, .TIU_STATUS]) := by
  unfold execHeaderRx
  try dsimp only
  refine ⟨_, rfl, ?_⟩
  repeat' first
    | (with_reducible exact Frame.refl _ _ _)
    | ((with_reducible refine Frame.putClr ?_ ?_) <;> [rfl; skip])
    | ((with_reducible refine Frame.puts ?_ ?_) <;> [(simp [among, anyKey]; done); skip])
    | ((with_reducible refine Frame.putsCons ?_ ?_) <;> [rfl; skip])
    | ((with_reducible eapply Frame.via) <;> [(with_reducible first | apply State.crcError_touches | apply State.linkTiu_touches); rfl; exact among_sub rfl; skip])
    | ((with_reducible refine Frame.choose ?_ ?_) <;> intro _)
    | split

theorem execMsgTime_touches (l : Fin 16) (w0 w1 w2 : Nat) (s : State) : Frames s (execMsgTime l w0 w1 w2 s) [] (among [.LK_CNT, .LK_EVT, .L_LK_N, .L_LK_SUM_R, .L_LK_SUM_T, .L_LK_T0, .L_LK_T1]) := by
  unfold execMsgTime
  try dsimp only
  refine ⟨_, rfl, ?_⟩
  repeat' first
    | (with_reducible exact Frame.refl _ _ _)
    | ((with_reducible refine Frame.putBump ?_ ?_) <;> [rfl; skip])
    | ((with_reducible refine Frame.putSeti ?_ ?_) <;> [rfl; skip])
    | ((with_reducible eapply Frame.via) <;> [(with_reducible first | apply State.crcError_touches); rfl; exact among_sub rfl; skip])
    | ((with_reducible refine Frame.choose ?_ ?_) <;> intro _)
    | split

theorem execLinkMeasureDone_touches (l : Fin 16) (evMeas strmMeas : Nat) (s : State) : Frames s (execLinkMeasureDone l evMeas strmMeas s) [.rxs, .txq, .txs, .edges, .arcBuf] anyKey := by
  unfold execLinkMeasureDone
  try dsimp only
  refine ⟨_, rfl, ?_⟩
  repeat' first
    | (with_reducible exact Frame.refl _ _ _)
    | ((with_reducible refine Frame.put ?_ ?_) <;> [rfl; skip])
    | ((with_reducible refine Frame.putFlag ?_ ?_) <;> [rfl; skip])
    | ((with_reducible refine Frame.putSeti ?_ ?_) <;> [rfl; skip])
    | ((with_reducible refine Frame.put2 ?_ ?_ ?_) <;> [rfl; rfl; skip])
    | ((with_reducible refine Frame.puts ?_ ?_) <;> [(simp [among, anyKey]; done); skip])
    | ((with_reducible refine Frame.putsCons ?_ ?_) <;> [rfl; skip])
    | ((with_reducible eapply Frame.via) <;> [(with_reducible first | apply State.follow_touches | apply State.linkAverage_touches | apply State.linkEnter_touches | apply State.linkFault_touches); rfl; exact anyKey_sub; skip])
    | (with_reducible refine Frame.step ?_ ?_)
    | ((with_reducible refine Frame.choose ?_ ?_) <;> intro _)
    | split

theorem execLinkAlign_touches (s : State) : Frames s (execLinkAlign s) [] (among [.AON_PWR_EVT, .LK_STUDIO_STATUS, .L_ST_FRESH, .L_ST_OUT]) := by
  unfold execLinkAlign
  try dsimp only
  refine ⟨_, rfl, ?_⟩
  repeat' first
    | (with_reducible exact Frame.refl _ _ _)
    | ((with_reducible refine Frame.put ?_ ?_) <;> [rfl; skip])
    | ((with_reducible eapply Frame.via) <;> [(with_reducible first | apply State.alignStart_touches); rfl; exact among_sub rfl; skip])
    | ((with_reducible refine Frame.host ?_ ?_ ?_) <;> [rfl; skip; skip])
    | ((with_reducible refine Frame.choose ?_ ?_) <;> intro _)
    | split

theorem execAlignParentReady_touches (s : State) : Frames s (execAlignParentReady s) [] (among [.LK_STUDIO_STATUS, .L_LK_HDR, .L_LK_N, .L_LK_SUM_R, .L_LK_SUM_T, .L_ST_FRESH]) := by
  unfold execAlignParentReady
  try dsimp only
  refine ⟨_, rfl, ?_⟩
  repeat' first
    | (with_reducible exact Frame.refl _ _ _)
    | ((with_reducible refine Frame.puts ?_ ?_) <;> [(simp [among, anyKey]; done); skip])
    | ((with_reducible refine Frame.putsCons ?_ ?_) <;> [rfl; skip])
    | ((with_reducible eapply Frame.via) <;> [(with_reducible first | apply State.linkAverage_touches); rfl; exact among_sub rfl; skip])
    | ((with_reducible refine Frame.choose ?_ ?_) <;> intro _)
    | split

theorem execAlignAnchorArm_touches (s : State) : Frames s (execAlignAnchorArm s) [] (among [.LK_STUDIO_EVT, .LK_STUDIO_STATUS, .L_ST_FRESH, .L_ST_OUT, .L_TB_ANCHOR_TICK, .TB_STATUS]) := by
  unfold execAlignAnchorArm
  try dsimp only
  refine ⟨_, rfl, ?_⟩
  repeat' first
    | (with_reducible exact Frame.refl _ _ _)
    | ((with_reducible refine Frame.puts ?_ ?_) <;> [(simp [among, anyKey]; done); skip])
    | ((with_reducible refine Frame.putsCons ?_ ?_) <;> [rfl; skip])
    | ((with_reducible eapply Frame.via) <;> [(with_reducible first | apply State.alignFail_touches); rfl; exact among_sub rfl; skip])
    | ((with_reducible refine Frame.choose ?_ ?_) <;> intro _)
    | split

theorem execAlignVerify_touches (s : State) : Frames s (execAlignVerify s) [] (among [.LK_STUDIO_EVT, .LK_STUDIO_STATUS, .L_ST_OUT]) := by
  unfold execAlignVerify
  try dsimp only
  refine ⟨_, rfl, ?_⟩
  repeat' first
    | (with_reducible exact Frame.refl _ _ _)
    | ((with_reducible refine Frame.puts ?_ ?_) <;> [(simp [among, anyKey]; done); skip])
    | ((with_reducible refine Frame.putsCons ?_ ?_) <;> [rfl; skip])
    | ((with_reducible eapply Frame.via) <;> [(with_reducible first | apply State.alignFail_touches); rfl; exact among_sub rfl; skip])
    | ((with_reducible refine Frame.choose ?_ ?_) <;> intro _)
    | split

theorem execAutoAlignStart_touches (s : State) : Frames s (execAutoAlignStart s) [] (among [.LK_STUDIO_STATUS, .L_ST_FRESH, .L_ST_OUT]) := by
  unfold execAutoAlignStart
  try dsimp only
  refine ⟨_, rfl, ?_⟩
  repeat' first
    | (with_reducible exact Frame.refl _ _ _)
    | ((with_reducible eapply Frame.via) <;> [(with_reducible first | apply State.alignStart_touches); rfl; exact among_sub rfl; skip])
    | ((with_reducible refine Frame.choose ?_ ?_) <;> intro _)
    | split

theorem execRemoteEventSend_touches (l : Fin 16) (m : Fin 8) (s : State) : Frames s (execRemoteEventSend l m s) [.txq, .edges, .triggers] (among [.LK_CNT, .LK_EVT]) := by
  unfold execRemoteEventSend
  try dsimp only
  refine ⟨_, rfl, ?_⟩
  repeat' first
    | (with_reducible exact Frame.refl _ _ _)
    | ((with_reducible refine Frame.putFlag ?_ ?_) <;> [rfl; skip])
    | ((with_reducible refine Frame.putBump ?_ ?_) <;> [rfl; skip])
    | ((with_reducible eapply Frame.via) <;> [(with_reducible first | apply State.pulseFrame); rfl; exact among_sub rfl; skip])
    | ((with_reducible refine Frame.onTask ?_ ?_ ?_) <;> [rfl; intro _ _; skip])
    | (fail_if_no_progress ((with_reducible refine Frame.on_txq ?_ ?_) <;> [rfl; skip]))
    | ((with_reducible refine Frame.choose ?_ ?_) <;> intro _)
    | split

theorem execMsgEvent_touches (l : Fin 16) (w : Nat) (s : State) : Frames s (execMsgEvent l w s) [.edges] (among [.LK_CNT, .LK_EVT]) := by
  unfold execMsgEvent
  try dsimp only
  refine ⟨_, rfl, ?_⟩
  repeat' first
    | (with_reducible exact Frame.refl _ _ _)
    | ((with_reducible eapply Frame.via) <;> [(with_reducible first | apply State.crcError_touches | apply State.pulseFrame); rfl; exact among_sub rfl; skip])
    | ((with_reducible refine Frame.choose ?_ ?_) <;> intro _)
    | split

theorem execMsgStream_touches (l : Fin 16) (c : Fin 32) (w : Nat) (data : List Nat) (s : State) : Frames s (execMsgStream l c w data s) [.mem, .rxs, .badBursts, .arcBuf] (among [.IC_ARC_EVT, .IC_ARC_LOST, .IC_LDG, .LK_CNT, .LK_EVT, .L_LK_RXS_LOG2, .L_LK_RXS_PH, .L_LK_RXS_POS, .L_LK_RXS_T, .L_WDROP_LATCHED, .MS_ECC_CNT, .MS_EVT, .MS_STRM_CNT, .MS_STRM_FILL, .MS_WDROP_ADDR_HI, .MS_WDROP_ADDR_LO, .MS_WDROP_CNT, .MS_WDROP_SRC]) := by
  unfold execMsgStream
  try dsimp only
  refine ⟨_, rfl, ?_⟩
  repeat' first
    | (with_reducible exact Frame.refl _ _ _)
    | ((with_reducible refine Frame.put ?_ ?_) <;> [rfl; skip])
    | ((with_reducible refine Frame.puts ?_ ?_) <;> [(simp [among, anyKey]; done); skip])
    | ((with_reducible refine Frame.putsCons ?_ ?_) <;> [rfl; skip])
    | ((with_reducible eapply Frame.via) <;> [(with_reducible first | apply State.crcError_touches | apply State.ringSample_touches | apply State.segmentCommit_touches); rfl; exact among_sub rfl; skip])
    | (with_reducible refine Frame.step ?_ ?_)
    | ((with_reducible refine Frame.steps ?_ ?_) <;> [intro _ _; skip])
    | (fail_if_no_progress ((with_reducible refine Frame.on_rxs ?_ ?_) <;> [rfl; skip]))
    | ((with_reducible refine Frame.choose ?_ ?_) <;> intro _)
    | split

theorem execMsgMgmt_touches (l : Fin 16) (kind : Fin 4) (data : List (BitVec 8)) (s : State) : Frames s (execMsgMgmt l kind data s) [.bootRx, .out] (among [.LK_STATUS]) := by
  unfold execMsgMgmt
  try dsimp only
  refine ⟨_, rfl, ?_⟩
  repeat' first
    | (with_reducible exact Frame.refl _ _ _)
    | ((with_reducible refine Frame.put ?_ ?_) <;> [rfl; skip])
    | ((with_reducible eapply Frame.via) <;> [(with_reducible first | apply State.emitFrame); rfl; exact among_sub rfl; skip])
    | (fail_if_no_progress ((with_reducible refine Frame.on_bootRx ?_ ?_) <;> [rfl; skip]))
    | ((with_reducible refine Frame.choose ?_ ?_) <;> intro _)
    | split

end Sys2Proof.Machine
end

