-- ==== Sys2Proof/Laws/FramesSecurity.lean ====
section
/-!
SUPPORT. The frames of the operations of Machine/Security.lean: the parts and registers each may change.
-/
set_option linter.unusedTactic false
set_option linter.unreachableTactic false
set_option linter.unusedVariables false
set_option linter.unusedSimpArgs false
namespace Sys2Proof.Machine

theorem State.secRefuse_touches (s : State) (n : Nat) : Frame s (State.secRefuse s n) [] (among [.SEC_EVT, .SEC_STATUS]) := by
  unfold State.secRefuse
  try dsimp only
  repeat' first
    | (with_reducible exact Frame.refl _ _ _)
    | ((with_reducible refine Frame.put ?_ ?_) <;> [rfl; skip])
    | ((with_reducible refine Frame.putFlag ?_ ?_) <;> [rfl; skip])

theorem State.secStart_touches (s : State) (code res : Nat) : Frame s (State.secStart s code res) [] (among [.L_SEC_RES, .L_SEC_RUN, .SEC_STATUS]) := by
  unfold State.secStart
  try dsimp only
  repeat' first
    | (with_reducible exact Frame.refl _ _ _)
    | ((with_reducible refine Frame.puts ?_ ?_) <;> [(simp [among, anyKey]; done); skip])
    | ((with_reducible refine Frame.putsCons ?_ ?_) <;> [rfl; skip])

theorem Frame.secCommand {s a : State} {ps : List Part} {p : Key → Bool} {pf code key : Nat} {ok : State → Bool} {f : State → State} (hk : ∀ k, (among [.AON_PWR_EVT, .L_SEC_RES, .L_SEC_RUN, .SEC_CMD, .SEC_EVT, .SEC_STATUS, .SYS_HIF_EVT]) k = true → p k = true)
    (h : ∀ b, Frame b (f b) ps p) (g : Frame s a ps p) : Frame s (a.secCommand pf code key ok f) ps p := by
  have hr : ∀ (b : State) (n : Nat), Frame b (b.secRefuse n) ps p := fun b n => (State.secRefuse_touches b n).mono (by simp) (fun k e => hk k (among_sub rfl k e))
  have hs : ∀ (b : State) (m n : Nat), Frame b (b.secStart m n) ps p := fun b m n => (State.secStart_touches b m n).mono (by simp) (fun k e => hk k (among_sub rfl k e))
  refine Frame.priv (hk _ rfl) (hk _ rfl) ?_ g
  have h2 : Frame a (a.sets [(Fld.SEC_CMD_KEY, key), (Fld.SEC_CMD_CMD, code)]) ps p := ((Frame.refl a ps p).put (hk _ rfl)).put (hk _ rfl)
  dsimp only
  split
  · exact h2.trans (hr _ _)
  · split
    · exact h2.trans (hr _ _)
    · split
      · exact h2.trans (hr _ _)
      · split
        · exact h2.trans (hr _ _)
        · exact (h2.trans (hs _ _ _)).trans (h _)

theorem State.stopAll_touches (s : State) : Frame s (State.stopAll s) [] (among [.REEL]) := by
  unfold State.stopAll
  try dsimp only
  repeat' first
    | (with_reducible exact Frame.refl _ _ _)
    | ((with_reducible eapply Frame.via) <;> [(with_reducible first | apply State.stopReels_touches); rfl; exact among_sub rfl; skip])

theorem State.zeroize_touches (s : State) (pf code key : Nat) : Frame s (State.zeroize s pf code key) [] (among [.AON_PWR_EVT, .L_SEC_NEXT, .L_SEC_RES, .L_SEC_RUN, .REEL, .SEC_ATT, .SEC_CMD, .SEC_EVT, .SEC_STATUS, .SEC_XFER, .SYS_HIF_EVT]) := by
  unfold State.zeroize
  try dsimp only
  repeat' first
    | (with_reducible exact Frame.refl _ _ _)
    | ((with_reducible refine Frame.puts ?_ ?_) <;> [(simp [among, anyKey]; done); skip])
    | ((with_reducible refine Frame.putsCons ?_ ?_) <;> [rfl; skip])
    | ((with_reducible eapply Frame.via) <;> [(with_reducible first | apply State.stopAll_touches); rfl; exact among_sub rfl; skip])
    | ((with_reducible refine Frame.secCommand ?_ ?_ ?_) <;> [(first | exact among_sub rfl | exact anyKey_sub); intro _; skip])
    | ((with_reducible refine Frame.forget ?_ ?_) <;> [(intro k hk; simp at hk; first | (simp [among, hk]; done) | (simp [among]; tauto)); skip])
    | ((with_reducible refine Frame.priv ?_ ?_ ?_ ?_) <;> [rfl; rfl; skip; skip])
    | ((with_reducible refine Frame.choose ?_ ?_) <;> intro _)
    | split

theorem State.advance_touches (s : State) (pf code key i : Nat) (floor : Key) (v : Nat) : Frame s (State.advance s pf code key i floor v) [] (among [.AON_PWR_EVT, .L_SEC_RES, .L_SEC_RUN, .SEC_CMD, .SEC_EVT, .SEC_STATUS, .SYS_HIF_EVT]) := by
  unfold State.advance
  try dsimp only
  repeat' first
    | (with_reducible exact Frame.refl _ _ _)
    | ((with_reducible refine Frame.puts ?_ ?_) <;> [(simp [among, anyKey]; done); skip])
    | ((with_reducible refine Frame.putsCons ?_ ?_) <;> [rfl; skip])
    | ((with_reducible eapply Frame.via) <;> [(with_reducible first | apply State.secRefuse_touches); rfl; exact among_sub rfl; skip])
    | ((with_reducible refine Frame.secCommand ?_ ?_ ?_) <;> [(first | exact among_sub rfl | exact anyKey_sub); intro _; skip])
    | ((with_reducible refine Frame.choose ?_ ?_) <;> intro _)
    | split

theorem Frame.setWindow {s a : State} {ps : List Part} {p : Key → Bool} {key : Nat → Key} {l : List (BitVec 8)} (h : ∀ j, p (key j) = true) (g : Frame s a ps p) :
    Frame s (a.setWindow key l) ps p := Frame.steps (fun j b => (Frame.refl b ps p).put (h j)) g

theorem State.attestDone_touches (s : State) : Frame s (State.attestDone s) [.free] anyKey := by
  unfold State.attestDone
  try dsimp only
  repeat' first
    | (with_reducible exact Frame.refl _ _ _)
    | ((with_reducible refine Frame.setWindow ?_ ?_) <;> [exact fun _ => rfl; skip])
    | ((with_reducible refine Frame.forget ?_ ?_) <;> [exact fun _ _ => rfl; skip])
    | (fail_if_no_progress ((with_reducible refine Frame.on_free ?_ ?_) <;> [rfl; skip]))

theorem State.lifeCycle_touches (s : State) (n : Nat) : Frame s (State.lifeCycle s n) [] (among [.L_LC_FUSED, .SEC_EVT, .SEC_STATUS]) := by
  unfold State.lifeCycle
  try dsimp only
  repeat' first
    | (with_reducible exact Frame.refl _ _ _)
    | ((with_reducible refine Frame.puts ?_ ?_) <;> [(simp [among, anyKey]; done); skip])
    | ((with_reducible refine Frame.putsCons ?_ ?_) <;> [rfl; skip])

theorem State.provisionDone_touches (s : State) : Frame s (State.provisionDone s) [.ownerKey, .idKey, .free] anyKey := by
  unfold State.provisionDone
  try dsimp only
  repeat' first
    | (with_reducible exact Frame.refl _ _ _)
    | ((with_reducible refine Frame.putClr ?_ ?_) <;> [rfl; skip])
    | ((with_reducible refine Frame.putDwords ?_ ?_) <;> [exact fun _ => rfl; skip])
    | ((with_reducible refine Frame.puts ?_ ?_) <;> [(simp [among, anyKey]; done); skip])
    | ((with_reducible refine Frame.putsCons ?_ ?_) <;> [rfl; skip])
    | ((with_reducible eapply Frame.via) <;> [(with_reducible first | apply State.lifeCycle_touches); rfl; exact anyKey_sub; skip])
    | ((with_reducible refine Frame.setWindow ?_ ?_) <;> [exact fun _ => rfl; skip])
    | (fail_if_no_progress ((with_reducible refine Frame.on_ownerKey_idKey_free ?_ ?_ ?_ ?_) <;> [rfl; rfl; rfl; skip]))
    | (fail_if_no_progress ((with_reducible refine Frame.on_ownerKey ?_ ?_) <;> [rfl; skip]))
    | (fail_if_no_progress ((with_reducible refine Frame.on_idKey ?_ ?_) <;> [rfl; skip]))
    | (fail_if_no_progress ((with_reducible refine Frame.on_free ?_ ?_) <;> [rfl; skip]))
    | ((with_reducible refine Frame.choose ?_ ?_) <;> intro _)
    | split

theorem State.nonceDone_touches (s : State) : Frame s (State.nonceDone s) [.free] (among [.SEC_DNONCE]) := by
  unfold State.nonceDone
  try dsimp only
  repeat' first
    | (with_reducible exact Frame.refl _ _ _)
    | ((with_reducible refine Frame.put ?_ ?_) <;> [rfl; skip])
    | ((with_reducible eapply Frame.via) <;> [(with_reducible first | apply State.freshFrame); rfl; exact among_sub rfl; skip])
    | ((with_reducible refine Frame.steps ?_ ?_) <;> [intro _ _; skip])

theorem State.wipe_touches (s : State) : Frame s (State.wipe s) [.mem, .sp, .badBursts] (among [.REEL]) := by
  unfold State.wipe
  try dsimp only
  repeat' first
    | (with_reducible exact Frame.refl _ _ _)
    | ((with_reducible eapply Frame.via) <;> [(with_reducible first | apply State.bankClear_touches); rfl; exact among_sub rfl; skip])
    | ((with_reducible refine Frame.steps ?_ ?_) <;> [intro _ _; skip])
    | (fail_if_no_progress ((with_reducible refine Frame.on_sp_mem_badBursts ?_ ?_ ?_ ?_) <;> [rfl; rfl; rfl; skip]))
    | (fail_if_no_progress ((with_reducible refine Frame.on_mem_badBursts ?_ ?_ ?_) <;> [rfl; rfl; skip]))
    | (fail_if_no_progress ((with_reducible refine Frame.on_mem ?_ ?_) <;> [rfl; skip]))
    | (fail_if_no_progress ((with_reducible refine Frame.on_sp ?_ ?_) <;> [rfl; skip]))
    | (fail_if_no_progress ((with_reducible refine Frame.on_badBursts ?_ ?_) <;> [rfl; skip]))

theorem State.rmaDone_touches (s : State) : Frame s (State.rmaDone s) [.mem, .sp, .ownerKey, .badBursts] (among [.L_LC_FUSED, .REEL, .SEC_DNONCE, .SEC_EVT, .SEC_OKEY_DIG, .SEC_STATUS]) := by
  unfold State.rmaDone
  try dsimp only
  repeat' first
    | (with_reducible exact Frame.refl _ _ _)
    | ((with_reducible refine Frame.putFlag ?_ ?_) <;> [rfl; skip])
    | ((with_reducible eapply Frame.via) <;> [(with_reducible first | apply State.eraseOwner_touches | apply State.lifeCycle_touches | apply State.wipe_touches); rfl; exact among_sub rfl; skip])
    | ((with_reducible refine Frame.forget ?_ ?_) <;> [(intro k hk; simp at hk; first | (simp [among, hk]; done) | (simp [among]; tauto)); skip])
    | ((with_reducible refine Frame.choose ?_ ?_) <;> intro _)
    | split

theorem State.zeroizeDone_touches (s : State) (wipes : Bool) : Frame s (State.zeroizeDone s wipes) [.mem, .sp, .ownerKey, .idKey, .badBursts] (among [.REEL, .SEC_EVT, .SEC_OKEY_DIG, .SEC_STATUS]) := by
  unfold State.zeroizeDone
  try dsimp only
  repeat' first
    | (with_reducible exact Frame.refl _ _ _)
    | ((with_reducible refine Frame.puts ?_ ?_) <;> [(simp [among, anyKey]; done); skip])
    | ((with_reducible refine Frame.putsCons ?_ ?_) <;> [rfl; skip])
    | ((with_reducible eapply Frame.via) <;> [(with_reducible first | apply State.eraseOwner_touches | apply State.wipe_touches); rfl; exact among_sub rfl; skip])
    | (fail_if_no_progress ((with_reducible refine Frame.on_idKey ?_ ?_) <;> [rfl; skip]))
    | ((with_reducible refine Frame.choose ?_ ?_) <;> intro _)
    | split

theorem State.secEffect_touches (s : State) (code : Nat) : Frame s (State.secEffect s code) [.mem, .sp, .ownerKey, .idKey, .badBursts, .free] anyKey := by
  unfold State.secEffect
  try dsimp only
  repeat' first
    | (with_reducible exact Frame.refl _ _ _)
    | ((with_reducible eapply Frame.via) <;> [(with_reducible first | apply State.attestDone_touches | apply State.cellRise_touches | apply State.eraseOwner_touches | apply State.lifeCycle_touches | apply State.nonceDone_touches | apply State.provisionDone_touches | apply State.rmaDone_touches | apply State.zeroizeDone_touches); rfl; exact anyKey_sub; skip])
    | (fail_if_no_progress ((with_reducible refine Frame.on_idKey ?_ ?_) <;> [rfl; skip]))
    | split

theorem State.secEnd_touches (s : State) (res : Nat) : Frame s (State.secEnd s res) [] (among [.L_SEC_NEXT, .L_SEC_RES, .L_SEC_RUN, .REEL, .SEC_EVT, .SEC_STATUS, .SEC_XFER]) := by
  unfold State.secEnd
  try dsimp only
  repeat' first
    | (with_reducible exact Frame.refl _ _ _)
    | ((with_reducible refine Frame.puts ?_ ?_) <;> [(simp [among, anyKey]; done); skip])
    | ((with_reducible refine Frame.putsCons ?_ ?_) <;> [rfl; skip])
    | ((with_reducible eapply Frame.via) <;> [(with_reducible first | apply State.stopAll_touches); rfl; exact among_sub rfl; skip])
    | ((with_reducible refine Frame.forget ?_ ?_) <;> [(intro k hk; simp at hk; first | (simp [among, hk]; done) | (simp [among]; tauto)); skip])
    | ((with_reducible refine Frame.choose ?_ ?_) <;> intro _)
    | split

theorem execAttest_touches (pf : Fin 4) (key : Fin 65536) (s : State) : Frames s (execAttest pf key s) [] (among [.AON_PWR_EVT, .L_ATT_FLAGS, .L_ATT_TICK, .L_SEC_RES, .L_SEC_RUN, .SEC_CMD, .SEC_EVT, .SEC_STATUS, .SYS_HIF_EVT]) := by
  unfold execAttest
  try dsimp only
  refine ⟨_, rfl, ?_⟩
  repeat' first
    | (with_reducible exact Frame.refl _ _ _)
    | ((with_reducible refine Frame.puts ?_ ?_) <;> [(simp [among, anyKey]; done); skip])
    | ((with_reducible refine Frame.putsCons ?_ ?_) <;> [rfl; skip])
    | ((with_reducible refine Frame.secCommand ?_ ?_ ?_) <;> [(first | exact among_sub rfl | exact anyKey_sub); intro _; skip])

theorem execSelftest_touches (pf : Fin 4) (key : Fin 65536) (s : State) : Frames s (execSelftest pf key s) [] (among [.AON_PWR_EVT, .L_SEC_RES, .L_SEC_RUN, .SEC_CMD, .SEC_EVT, .SEC_STATUS, .SYS_HIF_EVT]) := by
  unfold execSelftest
  try dsimp only
  refine ⟨_, rfl, ?_⟩
  repeat' first
    | (with_reducible exact Frame.refl _ _ _)
    | ((with_reducible refine Frame.secCommand ?_ ?_ ?_) <;> [(first | exact among_sub rfl | exact anyKey_sub); intro _; skip])

theorem execProvision_touches (pf : Fin 4) (key : Fin 65536) (s : State) : Frames s (execProvision pf key s) [] (among [.AON_PWR_EVT, .L_SEC_RES, .L_SEC_RUN, .SEC_CMD, .SEC_EVT, .SEC_STATUS, .SYS_HIF_EVT]) := by
  unfold execProvision
  try dsimp only
  refine ⟨_, rfl, ?_⟩
  repeat' first
    | (with_reducible exact Frame.refl _ _ _)
    | ((with_reducible refine Frame.secCommand ?_ ?_ ?_) <;> [(first | exact among_sub rfl | exact anyKey_sub); intro _; skip])

theorem execSecField_touches (pf : Fin 4) (key : Fin 65536) (s : State) : Frames s (execSecField pf key s) [] (among [.AON_PWR_EVT, .L_SEC_RES, .L_SEC_RUN, .SEC_CMD, .SEC_EVT, .SEC_STATUS, .SYS_HIF_EVT]) := by
  unfold execSecField
  try dsimp only
  refine ⟨_, rfl, ?_⟩
  repeat' first
    | (with_reducible exact Frame.refl _ _ _)
    | ((with_reducible refine Frame.secCommand ?_ ?_ ?_) <;> [(first | exact among_sub rfl | exact anyKey_sub); intro _; skip])

theorem execRmaNonce_touches (pf : Fin 4) (key : Fin 65536) (s : State) : Frames s (execRmaNonce pf key s) [] (among [.AON_PWR_EVT, .L_SEC_RES, .L_SEC_RUN, .SEC_CMD, .SEC_EVT, .SEC_STATUS, .SYS_HIF_EVT]) := by
  unfold execRmaNonce
  try dsimp only
  refine ⟨_, rfl, ?_⟩
  repeat' first
    | (with_reducible exact Frame.refl _ _ _)
    | ((with_reducible refine Frame.secCommand ?_ ?_ ?_) <;> [(first | exact among_sub rfl | exact anyKey_sub); intro _; skip])

theorem execRmaApply_touches (pf : Fin 4) (key : Fin 65536) (s : State) : Frames s (execRmaApply pf key s) [] (among [.AON_PWR_EVT, .L_SEC_RES, .L_SEC_RUN, .REEL, .SEC_CMD, .SEC_EVT, .SEC_STATUS, .SYS_HIF_EVT]) := by
  unfold execRmaApply
  try dsimp only
  refine ⟨_, rfl, ?_⟩
  repeat' first
    | (with_reducible exact Frame.refl _ _ _)
    | ((with_reducible refine Frame.put ?_ ?_) <;> [rfl; skip])
    | ((with_reducible eapply Frame.via) <;> [(with_reducible first | apply State.stopAll_touches); rfl; exact among_sub rfl; skip])
    | ((with_reducible refine Frame.secCommand ?_ ?_ ?_) <;> [(first | exact among_sub rfl | exact anyKey_sub); intro _; skip])
    | (with_reducible refine Frame.step ?_ ?_)

theorem execRetire_touches (pf : Fin 4) (key : Fin 65536) (s : State) : Frames s (execRetire pf key s) [] (among [.AON_PWR_EVT, .L_SEC_RES, .L_SEC_RUN, .REEL, .SEC_CMD, .SEC_EVT, .SEC_STATUS, .SYS_HIF_EVT]) := by
  unfold execRetire
  try dsimp only
  refine ⟨_, rfl, ?_⟩
  repeat' first
    | (with_reducible exact Frame.refl _ _ _)
    | ((with_reducible eapply Frame.via) <;> [(with_reducible first | apply State.stopAll_touches); rfl; exact among_sub rfl; skip])
    | ((with_reducible refine Frame.secCommand ?_ ?_ ?_) <;> [(first | exact among_sub rfl | exact anyKey_sub); intro _; skip])

theorem execZeroize_touches (pf : Fin 4) (key : Fin 65536) (s : State) : Frames s (execZeroize pf key s) [] (among [.AON_PWR_EVT, .L_SEC_NEXT, .L_SEC_RES, .L_SEC_RUN, .REEL, .SEC_ATT, .SEC_CMD, .SEC_EVT, .SEC_STATUS, .SEC_XFER, .SYS_HIF_EVT]) := by
  unfold execZeroize
  try dsimp only
  refine ⟨_, rfl, ?_⟩
  repeat' first
    | (with_reducible exact Frame.refl _ _ _)
    | ((with_reducible eapply Frame.via) <;> [(with_reducible first | apply State.zeroize_touches); rfl; exact among_sub rfl; skip])

theorem execZeroizeData_touches (pf : Fin 4) (key : Fin 65536) (s : State) : Frames s (execZeroizeData pf key s) [] (among [.AON_PWR_EVT, .L_SEC_NEXT, .L_SEC_RES, .L_SEC_RUN, .REEL, .SEC_ATT, .SEC_CMD, .SEC_EVT, .SEC_STATUS, .SEC_XFER, .SYS_HIF_EVT]) := by
  unfold execZeroizeData
  try dsimp only
  refine ⟨_, rfl, ?_⟩
  repeat' first
    | (with_reducible exact Frame.refl _ _ _)
    | ((with_reducible eapply Frame.via) <;> [(with_reducible first | apply State.zeroize_touches); rfl; exact among_sub rfl; skip])

theorem execAdvFw_touches (pf : Fin 4) (key : Fin 65536) (s : State) : Frames s (execAdvFw pf key s) [] (among [.AON_PWR_EVT, .L_SEC_RES, .L_SEC_RUN, .SEC_CMD, .SEC_EVT, .SEC_STATUS, .SYS_HIF_EVT]) := by
  unfold execAdvFw
  try dsimp only
  refine ⟨_, rfl, ?_⟩
  repeat' first
    | (with_reducible exact Frame.refl _ _ _)
    | ((with_reducible eapply Frame.via) <;> [(with_reducible first | apply State.advance_touches); rfl; exact among_sub rfl; skip])

theorem execAdvImg_touches (pf : Fin 4) (key : Fin 65536) (s : State) : Frames s (execAdvImg pf key s) [] (among [.AON_PWR_EVT, .L_SEC_RES, .L_SEC_RUN, .SEC_CMD, .SEC_EVT, .SEC_STATUS, .SYS_HIF_EVT]) := by
  unfold execAdvImg
  try dsimp only
  refine ⟨_, rfl, ?_⟩
  repeat' first
    | (with_reducible exact Frame.refl _ _ _)
    | ((with_reducible eapply Frame.via) <;> [(with_reducible first | apply State.advance_touches); rfl; exact among_sub rfl; skip])

theorem execAdvOvr_touches (pf : Fin 4) (key : Fin 65536) (s : State) : Frames s (execAdvOvr pf key s) [] (among [.AON_PWR_EVT, .L_SEC_RES, .L_SEC_RUN, .SEC_CMD, .SEC_EVT, .SEC_STATUS, .SYS_HIF_EVT]) := by
  unfold execAdvOvr
  try dsimp only
  refine ⟨_, rfl, ?_⟩
  repeat' first
    | (with_reducible exact Frame.refl _ _ _)
    | ((with_reducible eapply Frame.via) <;> [(with_reducible first | apply State.advance_touches); rfl; exact among_sub rfl; skip])

theorem execSecCmdInvalid_touches (pf : Fin 4) (code : Fin 32) (key : Fin 65536) (s : State) : Frames s (execSecCmdInvalid pf code key s) [] (among [.AON_PWR_EVT, .SEC_CMD, .SEC_EVT, .SEC_STATUS, .SYS_HIF_EVT]) := by
  unfold execSecCmdInvalid
  try dsimp only
  refine ⟨_, rfl, ?_⟩
  repeat' first
    | (with_reducible exact Frame.refl _ _ _)
    | ((with_reducible refine Frame.puts ?_ ?_) <;> [(simp [among, anyKey]; done); skip])
    | ((with_reducible refine Frame.putsCons ?_ ?_) <;> [rfl; skip])
    | ((with_reducible eapply Frame.via) <;> [(with_reducible first | apply State.secRefuse_touches); rfl; exact among_sub rfl; skip])
    | ((with_reducible refine Frame.priv ?_ ?_ ?_ ?_) <;> [rfl; rfl; skip; skip])
    | ((with_reducible refine Frame.choose ?_ ?_) <;> intro _)
    | split

theorem execSecCmdDone_touches (s : State) : Frames s (execSecCmdDone s) [.tick, .mem, .sp, .loans, .engines, .events, .heads, .ranges, .caps, .measures, .tables, .lines, .factory, .ovrRows, .deltas, .calSets, .calPends, .rxs, .txq, .txs, .bootRx, .ownerKey, .idKey, .vendorKey, .dmaDone, .badBursts, .offers, .cards, .badCards, .edges, .pulses, .triggers, .alignDue, .arcBuf, .posted, .out, .pending, .free] anyKey := by
  unfold execSecCmdDone
  try dsimp only
  refine ⟨_, rfl, ?_⟩
  repeat' first
    | (with_reducible exact Frame.refl _ _ _)
    | ((with_reducible eapply Frame.via) <;> [(with_reducible first | apply State.resetMain_touches | apply State.secEffect_touches | apply State.secEnd_touches); rfl; exact anyKey_sub; skip])
    | ((with_reducible refine Frame.choose ?_ ?_) <;> intro _)
    | split

theorem execSecErrorEnter_touches (code : Fin 8) (us : Nat) (s : State) : Frames s (execSecErrorEnter code us s) [.tick, .mem, .sp, .loans, .engines, .events, .heads, .ranges, .caps, .measures, .tables, .lines, .factory, .ovrRows, .deltas, .calSets, .calPends, .rxs, .txq, .txs, .bootRx, .ownerKey, .idKey, .vendorKey, .dmaDone, .badBursts, .offers, .cards, .badCards, .edges, .pulses, .triggers, .alignDue, .arcBuf, .posted, .out, .pending, .free] anyKey := by
  unfold execSecErrorEnter
  try dsimp only
  refine ⟨_, rfl, ?_⟩
  repeat' first
    | (with_reducible exact Frame.refl _ _ _)
    | ((with_reducible refine Frame.put ?_ ?_) <;> [rfl; skip])
    | ((with_reducible refine Frame.putFlag ?_ ?_) <;> [rfl; skip])
    | ((with_reducible refine Frame.putPersist ?_ ?_) <;> [rfl; skip])
    | ((with_reducible eapply Frame.via) <;> [(with_reducible first | apply State.bootFail_touches | apply State.raiseFrame | apply State.secEnd_touches); rfl; exact anyKey_sub; skip])
    | (with_reducible refine Frame.step ?_ ?_)
    | ((with_reducible refine Frame.choose ?_ ?_) <;> intro _)
    | split

end Sys2Proof.Machine
end

