-- ==== Sys2Proof/Laws/FramesTestAccess.lean ====
section
/-!
SUPPORT. The frames of the operations of Machine/TestAccess.lean: the parts and registers each may change.
-/
set_option linter.unusedTactic false
set_option linter.unreachableTactic false
set_option linter.unusedVariables false
set_option linter.unusedSimpArgs false
namespace Sys2Proof.Machine

theorem State.leaveExtest_touches (s : State) : Frame s (State.leaveExtest s) [] (among [.CH_EVT, .CH_PARK_SRC, .CH_STATUS, .PP_EVT, .PP_PARK_SRC]) := by
  unfold State.leaveExtest
  try dsimp only
  repeat' first
    | (with_reducible exact Frame.refl _ _ _)
    | ((with_reducible eapply Frame.via) <;> [(with_reducible first | apply State.parkAll_touches); rfl; exact among_sub rfl; skip])
    | (with_reducible refine Frame.step ?_ ?_)

theorem State.tapSelect_touches (s : State) (code : Nat) : Frame s (State.tapSelect s code) [] (among [.CH_EVT, .CH_PARK_SRC, .CH_STATUS, .L_TAP_IR, .PP_EVT, .PP_PARK_SRC]) := by
  unfold State.tapSelect
  try dsimp only
  repeat' first
    | (with_reducible exact Frame.refl _ _ _)
    | ((with_reducible refine Frame.put ?_ ?_) <;> [rfl; skip])
    | ((with_reducible eapply Frame.via) <;> [(with_reducible first | apply State.leaveExtest_touches); rfl; exact among_sub rfl; skip])

theorem State.extest_touches (s : State) (code : Nat) : Frame s (State.extest s code) [.dmaDone, .edges, .arcBuf, .free] (among [.CH_EVT, .CH_PARK_SRC, .CH_STATUS, .COR_GRP_EVT, .COR_GRP_STATUS, .DMA_Q_CTRL, .DMA_Q_STATUS, .IC_ARC_EVT, .IC_ARC_LOST, .IC_LDG, .IC_TGT_STATUS, .L_COR_RAMP, .L_COR_W0, .L_COR_ZERO, .L_DMA_ENDING, .L_PF_FMASK, .L_PF_PME_EN, .L_TAP_IR, .PP_EVT, .PP_PARK_SRC, .REEL, .SYS_HIF_EVT, .SYS_HIF_STATUS, .SYS_MSIX, .SYS_MSIX_PBA, .SYS_PF_CFG]) := by
  unfold State.extest
  try dsimp only
  repeat' first
    | (with_reducible exact Frame.refl _ _ _)
    | ((with_reducible refine Frame.put ?_ ?_) <;> [rfl; skip])
    | ((with_reducible eapply Frame.via) <;> [(with_reducible first | apply State.freshFrame | apply State.hardParkAbort_touches | apply State.hostLinkDown_touches | apply State.parkAll_touches | apply State.stopAll_touches); rfl; exact among_sub rfl; skip])
    | ((with_reducible refine Frame.steps ?_ ?_) <;> [intro _ _; skip])
    | ((with_reducible refine Frame.choose ?_ ?_) <;> intro _)
    | split

theorem execExtest_touches (s : State) : Frames s (execExtest s) [.dmaDone, .edges, .arcBuf, .free] (among [.CH_EVT, .CH_PARK_SRC, .CH_STATUS, .COR_GRP_EVT, .COR_GRP_STATUS, .DMA_Q_CTRL, .DMA_Q_STATUS, .IC_ARC_EVT, .IC_ARC_LOST, .IC_LDG, .IC_TGT_STATUS, .L_COR_RAMP, .L_COR_W0, .L_COR_ZERO, .L_DMA_ENDING, .L_PF_FMASK, .L_PF_PME_EN, .L_TAP_IR, .PP_EVT, .PP_PARK_SRC, .REEL, .SYS_HIF_EVT, .SYS_HIF_STATUS, .SYS_MSIX, .SYS_MSIX_PBA, .SYS_PF_CFG]) := by
  unfold execExtest
  try dsimp only
  refine ⟨_, rfl, ?_⟩
  repeat' first
    | (with_reducible exact Frame.refl _ _ _)
    | ((with_reducible eapply Frame.via) <;> [(with_reducible first | apply State.extest_touches); rfl; exact among_sub rfl; skip])

theorem execExtestPulse_touches (s : State) : Frames s (execExtestPulse s) [.dmaDone, .edges, .arcBuf, .free] (among [.CH_EVT, .CH_PARK_SRC, .CH_STATUS, .COR_GRP_EVT, .COR_GRP_STATUS, .DMA_Q_CTRL, .DMA_Q_STATUS, .IC_ARC_EVT, .IC_ARC_LOST, .IC_LDG, .IC_TGT_STATUS, .L_COR_RAMP, .L_COR_W0, .L_COR_ZERO, .L_DMA_ENDING, .L_PF_FMASK, .L_PF_PME_EN, .L_TAP_IR, .PP_EVT, .PP_PARK_SRC, .REEL, .SYS_HIF_EVT, .SYS_HIF_STATUS, .SYS_MSIX, .SYS_MSIX_PBA, .SYS_PF_CFG]) := by
  unfold execExtestPulse
  try dsimp only
  refine ⟨_, rfl, ?_⟩
  repeat' first
    | (with_reducible exact Frame.refl _ _ _)
    | ((with_reducible eapply Frame.via) <;> [(with_reducible first | apply State.extest_touches); rfl; exact among_sub rfl; skip])

theorem execExtestTrain_touches (s : State) : Frames s (execExtestTrain s) [.dmaDone, .edges, .arcBuf, .free] (among [.CH_EVT, .CH_PARK_SRC, .CH_STATUS, .COR_GRP_EVT, .COR_GRP_STATUS, .DMA_Q_CTRL, .DMA_Q_STATUS, .IC_ARC_EVT, .IC_ARC_LOST, .IC_LDG, .IC_TGT_STATUS, .L_COR_RAMP, .L_COR_W0, .L_COR_ZERO, .L_DMA_ENDING, .L_PF_FMASK, .L_PF_PME_EN, .L_TAP_IR, .PP_EVT, .PP_PARK_SRC, .REEL, .SYS_HIF_EVT, .SYS_HIF_STATUS, .SYS_MSIX, .SYS_MSIX_PBA, .SYS_PF_CFG]) := by
  unfold execExtestTrain
  try dsimp only
  refine ⟨_, rfl, ?_⟩
  repeat' first
    | (with_reducible exact Frame.refl _ _ _)
    | ((with_reducible eapply Frame.via) <;> [(with_reducible first | apply State.extest_touches); rfl; exact among_sub rfl; skip])

theorem execExtestDeselect_touches (s : State) : Frames s (execExtestDeselect s) [] (among [.CH_EVT, .CH_PARK_SRC, .CH_STATUS, .L_TAP_IR, .PP_EVT, .PP_PARK_SRC]) := by
  unfold execExtestDeselect
  try dsimp only
  refine ⟨_, rfl, ?_⟩
  repeat' first
    | (with_reducible exact Frame.refl _ _ _)
    | ((with_reducible eapply Frame.via) <;> [(with_reducible first | apply State.tapSelect_touches); rfl; exact among_sub rfl; skip])
    | ((with_reducible refine Frame.choose ?_ ?_) <;> intro _)
    | split

theorem execIdcode_touches (s : State) : Frames s (execIdcode s) [.out] (among [.CH_EVT, .CH_PARK_SRC, .CH_STATUS, .L_TAP_IR, .PP_EVT, .PP_PARK_SRC]) := by
  unfold execIdcode
  try dsimp only
  refine ⟨_, rfl, ?_⟩
  repeat' first
    | (with_reducible exact Frame.refl _ _ _)
    | ((with_reducible eapply Frame.via) <;> [(with_reducible first | apply State.emitFrame | apply State.tapSelect_touches); rfl; exact among_sub rfl; skip])

theorem execSamplePreload_touches (sample load : Nat) (s : State) : Frames s (execSamplePreload sample load s) [.out] (among [.CH_EVT, .CH_PARK_SRC, .CH_STATUS, .L_BSR, .L_TAP_IR, .PP_EVT, .PP_PARK_SRC]) := by
  unfold execSamplePreload
  try dsimp only
  refine ⟨_, rfl, ?_⟩
  repeat' first
    | (with_reducible exact Frame.refl _ _ _)
    | ((with_reducible refine Frame.put ?_ ?_) <;> [rfl; skip])
    | ((with_reducible eapply Frame.via) <;> [(with_reducible first | apply State.emitFrame | apply State.tapSelect_touches); rfl; exact among_sub rfl; skip])

theorem execBypass_touches (code : Fin 256) (s : State) : Frames s (execBypass code s) [] (among [.CH_EVT, .CH_PARK_SRC, .CH_STATUS, .L_TAP_IR, .PP_EVT, .PP_PARK_SRC]) := by
  unfold execBypass
  try dsimp only
  refine ⟨_, rfl, ?_⟩
  repeat' first
    | (with_reducible exact Frame.refl _ _ _)
    | ((with_reducible eapply Frame.via) <;> [(with_reducible first | apply State.tapSelect_touches); rfl; exact among_sub rfl; skip])
    | ((with_reducible refine Frame.choose ?_ ?_) <;> intro _)
    | split

theorem execFuseInit_touches (uid digest : Nat) (s : State) : Frames s (execFuseInit uid digest s) [] (among [.CH_EVT, .CH_PARK_SRC, .CH_STATUS, .L_LC_FUSED, .L_TAP_IR, .PP_EVT, .PP_PARK_SRC, .SEC_UID, .SEC_VKEY_DIG]) := by
  unfold execFuseInit
  try dsimp only
  refine ⟨_, rfl, ?_⟩
  repeat' first
    | (with_reducible exact Frame.refl _ _ _)
    | ((with_reducible refine Frame.put ?_ ?_) <;> [rfl; skip])
    | ((with_reducible refine Frame.putDwords ?_ ?_) <;> [exact fun _ => rfl; skip])
    | ((with_reducible eapply Frame.via) <;> [(with_reducible first | apply State.tapSelect_touches); rfl; exact among_sub rfl; skip])
    | ((with_reducible refine Frame.choose ?_ ?_) <;> intro _)
    | split

end Sys2Proof.Machine
end

