-- ==== Sys2Proof/Laws/FramesThermal.lean ====
section
/-!
SUPPORT. The frames of the operations of Machine/Thermal.lean: the parts and registers each may change.
-/
set_option linter.unusedTactic false
set_option linter.unreachableTactic false
set_option linter.unusedVariables false
set_option linter.unusedSimpArgs false
namespace Sys2Proof.Machine

theorem State.thermShow_touches (s : State) : Frame s (State.thermShow s) [] (among [.SYS_THERM]) := by
  unfold State.thermShow
  try dsimp only
  repeat' first
    | (with_reducible exact Frame.refl _ _ _)
    | ((with_reducible refine Frame.put ?_ ?_) <;> [rfl; skip])
    | ((with_reducible refine Frame.putSeti ?_ ?_) <;> [rfl; skip])
    | split

theorem State.sensorFault_touches (s : State) (k : Nat) : Frame s (State.sensorFault s k) [.arcBuf] (among [.IC_ARC_EVT, .IC_ARC_LOST, .IC_LDG, .L_HOT155, .L_HOT160, .L_STK_COLD_SINCE, .MS_STK_STATUS, .SYS_THERM, .SYS_TJ]) := by
  unfold State.sensorFault
  try dsimp only
  repeat' first
    | (with_reducible exact Frame.refl _ _ _)
    | ((with_reducible refine Frame.puts ?_ ?_) <;> [(simp [among, anyKey]; done); skip])
    | ((with_reducible refine Frame.putsCons ?_ ?_) <;> [rfl; skip])
    | ((with_reducible eapply Frame.via) <;> [(with_reducible first | apply State.raiseFrame | apply State.thermShow_touches); rfl; exact among_sub rfl; skip])
    | (with_reducible refine Frame.step ?_ ?_)
    | ((with_reducible refine Frame.choose ?_ ?_) <;> intro _)
    | split

theorem State.refreshReading_touches (s : State) (k : Nat) (tj : Int) : Frame s (State.refreshReading s k tj) [] (among [.L_STK_COLD_SINCE, .MS_STK_STATUS]) := by
  unfold State.refreshReading
  try dsimp only
  repeat' first
    | (with_reducible exact Frame.refl _ _ _)
    | ((with_reducible refine Frame.putClr ?_ ?_) <;> [rfl; skip])
    | ((with_reducible refine Frame.putBump ?_ ?_) <;> [rfl; skip])
    | ((with_reducible refine Frame.puts ?_ ?_) <;> [(simp [among, anyKey]; done); skip])
    | ((with_reducible refine Frame.putsCons ?_ ?_) <;> [rfl; skip])
    | ((with_reducible refine Frame.choose ?_ ?_) <;> intro _)
    | split

theorem State.classAction_touches (s : State) (k : Nat) : Frame s (State.classAction s k) [] (among [.CH_EVT, .CH_PARK_SRC, .CH_STATUS, .PP_EVT, .PP_PARK_SRC, .REEL]) := by
  unfold State.classAction
  try dsimp only
  repeat' first
    | (with_reducible exact Frame.refl _ _ _)
    | ((with_reducible eapply Frame.via) <;> [(with_reducible first | apply State.chPark_touches | apply State.ppPark_touches | apply State.requestStop_touches); rfl; exact among_sub rfl; skip])
    | ((with_reducible refine Frame.steps ?_ ?_) <;> [intro _ _; skip])
    | ((with_reducible refine Frame.choose ?_ ?_) <;> intro _)
    | split

theorem State.classReading_touches (s : State) (k : Nat) (tj : Int) : Frame s (State.classReading s k tj) [.arcBuf] (among [.CH_EVT, .CH_PARK_SRC, .CH_STATUS, .IC_ARC_EVT, .IC_ARC_LOST, .IC_LDG, .L_STK_BOOK_COLD, .MS_EVT, .MS_STK_STATUS, .PP_EVT, .PP_PARK_SRC, .REEL]) := by
  unfold State.classReading
  try dsimp only
  repeat' first
    | (with_reducible exact Frame.refl _ _ _)
    | ((with_reducible refine Frame.putClr ?_ ?_) <;> [rfl; skip])
    | ((with_reducible refine Frame.putBump ?_ ?_) <;> [rfl; skip])
    | ((with_reducible refine Frame.putPersist ?_ ?_) <;> [rfl; skip])
    | ((with_reducible refine Frame.puts ?_ ?_) <;> [(simp [among, anyKey]; done); skip])
    | ((with_reducible refine Frame.putsCons ?_ ?_) <;> [rfl; skip])
    | ((with_reducible eapply Frame.via) <;> [(with_reducible first | apply State.archiveFrame | apply State.classAction_touches | apply State.raiseFrame); rfl; exact among_sub rfl; skip])
    | ((with_reducible refine Frame.choose ?_ ?_) <;> intro _)
    | split

theorem State.stackReading_touches (s : State) (k : Nat) (tj : Int) : Frame s (State.stackReading s k tj) [.arcBuf] (among [.CH_EVT, .CH_PARK_SRC, .CH_STATUS, .IC_ARC_EVT, .IC_ARC_LOST, .IC_LDG, .L_STK_BOOK_COLD, .L_STK_COLD_SINCE, .MS_EVT, .MS_STK_STATUS, .PP_EVT, .PP_PARK_SRC, .REEL]) := by
  unfold State.stackReading
  try dsimp only
  repeat' first
    | (with_reducible exact Frame.refl _ _ _)
    | ((with_reducible refine Frame.putSeti ?_ ?_) <;> [rfl; skip])
    | ((with_reducible eapply Frame.via) <;> [(with_reducible first | apply State.classReading_touches | apply State.refreshReading_touches); rfl; exact among_sub rfl; skip])

theorem State.trip_touches (s : State) (k : Nat) : Frame s (State.trip s k) [.edges, .arcBuf] (among [.CH_EVT, .CH_PARK_SRC, .CH_STATUS, .COR_GRP_EVT, .COR_GRP_STATUS, .IC_ARC_EVT, .IC_ARC_LOST, .IC_LDG, .L_COR_RAMP, .L_COR_W0, .L_COR_ZERO, .L_TRIP, .L_TRIP_FOR, .PP_EVT, .PP_PARK_SRC, .REEL, .SYS_THERM]) := by
  unfold State.trip
  try dsimp only
  repeat' first
    | (with_reducible exact Frame.refl _ _ _)
    | ((with_reducible refine Frame.putPersist ?_ ?_) <;> [rfl; skip])
    | ((with_reducible refine Frame.puts ?_ ?_) <;> [(simp [among, anyKey]; done); skip])
    | ((with_reducible refine Frame.putsCons ?_ ?_) <;> [rfl; skip])
    | ((with_reducible eapply Frame.via) <;> [(with_reducible first | apply State.hardParkAbort_touches | apply State.parkAll_touches | apply State.raiseFrame); rfl; exact among_sub rfl; skip])
    | ((with_reducible refine Frame.steps ?_ ?_) <;> [intro _ _; skip])
    | ((with_reducible refine Frame.choose ?_ ?_) <;> intro _)
    | split

theorem State.tripReading_touches (s : State) (k : Nat) (tj : Int) : Frame s (State.tripReading s k tj) [.edges, .arcBuf] (among [.CH_EVT, .CH_PARK_SRC, .CH_STATUS, .COR_GRP_EVT, .COR_GRP_STATUS, .IC_ARC_EVT, .IC_ARC_LOST, .IC_LDG, .L_COR_RAMP, .L_COR_W0, .L_COR_ZERO, .L_HOT155, .L_HOT160, .L_TRIP, .L_TRIP_FOR, .PP_EVT, .PP_PARK_SRC, .REEL, .SYS_THERM]) := by
  unfold State.tripReading
  try dsimp only
  repeat' first
    | (with_reducible exact Frame.refl _ _ _)
    | ((with_reducible refine Frame.puts ?_ ?_) <;> [(simp [among, anyKey]; done); skip])
    | ((with_reducible refine Frame.putsCons ?_ ?_) <;> [rfl; skip])
    | ((with_reducible eapply Frame.via) <;> [(with_reducible first | apply State.trip_touches); rfl; exact among_sub rfl; skip])
    | ((with_reducible refine Frame.choose ?_ ?_) <;> intro _)
    | split

theorem State.tripClock_touches (s : State) : Frame s (State.tripClock s) [] (among [.L_COOL_FOR, .L_TRIP_FOR]) := by
  unfold State.tripClock
  try dsimp only
  repeat' first
    | (with_reducible exact Frame.refl _ _ _)
    | ((with_reducible refine Frame.puts ?_ ?_) <;> [(simp [among, anyKey]; done); skip])
    | ((with_reducible refine Frame.putsCons ?_ ?_) <;> [rfl; skip])
    | ((with_reducible refine Frame.choose ?_ ?_) <;> intro _)
    | split

theorem execSensorReading_touches (k : Fin 21) (tj : Int) (s : State) : Frames s (execSensorReading k tj s) [.calPends, .edges, .arcBuf] anyKey := by
  unfold execSensorReading
  try dsimp only
  refine ⟨_, rfl, ?_⟩
  repeat' first
    | (with_reducible exact Frame.refl _ _ _)
    | ((with_reducible refine Frame.putFlag ?_ ?_) <;> [rfl; skip])
    | ((with_reducible refine Frame.putSeti ?_ ?_) <;> [rfl; skip])
    | ((with_reducible eapply Frame.via) <;> [(with_reducible first | apply State.calTemperature_touches | apply State.sensorFault_touches | apply State.stackReading_touches | apply State.thermShow_touches | apply State.tripClock_touches | apply State.tripReading_touches); rfl; exact anyKey_sub; skip])
    | (with_reducible refine Frame.step ?_ ?_)
    | ((with_reducible refine Frame.steps ?_ ?_) <;> [intro _ _; skip])
    | ((with_reducible refine Frame.choose ?_ ?_) <;> intro _)
    | split

theorem execThermalForcedStandby_touches (s : State) : Frames s (execThermalForcedStandby s) [.measures, .rxs, .txq, .txs, .edges, .arcBuf] anyKey := by
  unfold execThermalForcedStandby
  try dsimp only
  refine ⟨_, rfl, ?_⟩
  repeat' first
    | (with_reducible exact Frame.refl _ _ _)
    | ((with_reducible refine Frame.putFlag ?_ ?_) <;> [rfl; skip])
    | ((with_reducible eapply Frame.via) <;> [(with_reducible first | apply State.stopAll_touches | apply State.toStandby_touches); rfl; exact anyKey_sub; skip])
    | ((with_reducible refine Frame.choose ?_ ?_) <;> intro _)
    | split

theorem execThermalTripClear_touches (s : State) : Frames s (execThermalTripClear s) [] (among [.IC_LDG, .L_COOL_FOR, .L_TRIP, .L_TRIP_FOR, .SYS_THERM]) := by
  unfold execThermalTripClear
  try dsimp only
  refine ⟨_, rfl, ?_⟩
  repeat' first
    | (with_reducible exact Frame.refl _ _ _)
    | ((with_reducible refine Frame.putPersist ?_ ?_) <;> [rfl; skip])
    | ((with_reducible refine Frame.puts ?_ ?_) <;> [(simp [among, anyKey]; done); skip])
    | ((with_reducible refine Frame.putsCons ?_ ?_) <;> [rfl; skip])
    | ((with_reducible refine Frame.choose ?_ ?_) <;> intro _)
    | split

theorem execWearSecond_touches (s : State) : Frames s (execWearSecond s) [.free] (among [.L_WEAR_AGE, .L_WEAR_T, .SYS_WEAR, .SYS_WEAR_USED]) := by
  unfold execWearSecond
  try dsimp only
  refine ⟨_, rfl, ?_⟩
  repeat' first
    | (with_reducible exact Frame.refl _ _ _)
    | ((with_reducible refine Frame.putBump ?_ ?_) <;> [rfl; skip])
    | ((with_reducible eapply Frame.via) <;> [(with_reducible first | apply State.freshFrame | apply State.wearShow_touches); rfl; exact among_sub rfl; skip])
    | ((with_reducible refine Frame.steps ?_ ?_) <;> [intro _ _; skip])
    | ((with_reducible refine Frame.choose ?_ ?_) <;> intro _)
    | split

theorem execWearCommit_touches (s : State) : Frames s (execWearCommit s) [] (among [.L_WEAR_AGE, .L_WEAR_C]) := by
  unfold execWearCommit
  try dsimp only
  refine ⟨_, rfl, ?_⟩
  repeat' first
    | (with_reducible exact Frame.refl _ _ _)
    | ((with_reducible eapply Frame.via) <;> [(with_reducible first | apply State.wearCommit_touches); rfl; exact among_sub rfl; skip])
    | ((with_reducible refine Frame.choose ?_ ?_) <;> intro _)
    | split

end Sys2Proof.Machine
end

