-- ==== Sys2Proof/Laws/FramesTick.lean ====
section
/-!
SUPPORT. The frames of the operations of Machine/Tick.lean: the parts and registers each may change.
-/
set_option linter.unusedTactic false
set_option linter.unreachableTactic false
set_option linter.unusedVariables false
set_option linter.unusedSimpArgs false
namespace Sys2Proof.Machine

theorem State.outputs_touches (s : State) : Frame s (State.outputs s) [.mem, .caps, .lines, .rxs, .txs, .badBursts, .arcBuf] (among [.CH_EVT, .IC_ARC_EVT, .IC_ARC_LOST, .IC_LDG, .LK_RXS_STAT, .L_CH_D, .L_CH_SUM, .L_JTX_CODE, .L_LK_TXS_N, .L_PP_WORD, .L_WDROP_LATCHED, .MS_ECC_CNT, .MS_EVT, .MS_WDROP_ADDR_HI, .MS_WDROP_ADDR_LO, .MS_WDROP_CNT, .MS_WDROP_SRC, .PP_EVT]) := by
  unfold State.outputs
  try dsimp only
  repeat' first
    | (with_reducible exact Frame.refl _ _ _)
    | ((with_reducible eapply Frame.via) <;> [(with_reducible first | apply State.captureStep_touches | apply State.channelTick_touches | apply State.jesdTick_touches | apply State.linkTick_touches | apply State.portTick_touches); rfl; exact among_sub rfl; skip])
    | ((with_reducible refine Frame.steps ?_ ?_) <;> [intro _ _; skip])

theorem State.reelTick_touches (s : State) (r : Nat) : Frame s (State.reelTick s r) [.loans, .engines, .heads, .ranges, .lines, .calSets, .calPends, .edges, .arcBuf] anyKey := by
  unfold State.reelTick
  try dsimp only
  repeat' first
    | (with_reducible exact Frame.refl _ _ _)
    | ((with_reducible refine Frame.put2 ?_ ?_ ?_) <;> [rfl; rfl; skip])
    | ((with_reducible eapply Frame.via) <;> [(with_reducible first | apply State.anchorActions_touches | apply State.onEng_touches | apply State.runDeferred_touches); rfl; exact anyKey_sub; skip])
    | (with_reducible refine Frame.step ?_ ?_)
    | ((with_reducible refine Frame.choose ?_ ?_) <;> intro _)
    | split

theorem State.evioFall_touches (s : State) (n : Nat) : Frame s (State.evioFall s n) [] (among [.L_EVIO_OUT]) := by
  unfold State.evioFall
  try dsimp only
  repeat' first
    | (with_reducible exact Frame.refl _ _ _)
    | ((with_reducible refine Frame.putClr ?_ ?_) <;> [rfl; skip])
    | (with_reducible refine Frame.step ?_ ?_)

theorem State.trimStep_touches (s : State) : Frame s (State.trimStep s) [] (among [.TB_FTRIM]) := by
  unfold State.trimStep
  try dsimp only
  repeat' first
    | (with_reducible exact Frame.refl _ _ _)
    | ((with_reducible refine Frame.putSeti ?_ ?_) <;> [rfl; skip])
    | ((with_reducible refine Frame.choose ?_ ?_) <;> intro _)
    | split

theorem State.wordStart_touches (s : State) : Frame s (State.wordStart s) [.mem, .edges, .arcBuf] (among [.CH_CAL_SKEW, .CH_STATUS, .COR_CNT, .COR_GRP_EVT, .COR_GRP_STATUS, .IC_ARC_EVT, .IC_ARC_LOST, .IC_LDG, .L_COR_BUSY, .L_COR_CTL, .L_COR_DUE, .L_COR_FRAMES, .L_COR_RAMP, .L_COR_W0, .L_COR_ZERO, .PP_FDLY, .PP_STATUS, .REEL, .TB_FTRIM, .TIU_CAL_STAT]) := by
  unfold State.wordStart
  try dsimp only
  repeat' first
    | (with_reducible exact Frame.refl _ _ _)
    | ((with_reducible eapply Frame.via) <;> [(with_reducible first | apply State.corPending_touches | apply State.delayStep_touches | apply State.portPark_touches | apply State.skewStep_touches | apply State.softPark_touches | apply State.tiuAge_touches | apply State.trimStep_touches); rfl; exact among_sub rfl; skip])
    | ((with_reducible refine Frame.steps ?_ ?_) <;> [intro _ _; skip])

theorem State.tickOnce_touches (s : State) : Frame s (State.tickOnce s) [.tick, .mem, .loans, .engines, .heads, .ranges, .caps, .lines, .calSets, .calPends, .rxs, .txs, .badBursts, .edges, .arcBuf] anyKey := by
  unfold State.tickOnce
  try dsimp only
  repeat' first
    | (with_reducible exact Frame.refl _ _ _)
    | ((with_reducible eapply Frame.via) <;> [(with_reducible first | apply State.evioFall_touches | apply State.outputs_touches | apply State.reelTick_touches | apply State.wordStart_touches); rfl; exact anyKey_sub; skip])
    | (with_reducible refine Frame.step ?_ ?_)
    | ((with_reducible refine Frame.steps ?_ ?_) <;> [intro _ _; skip])
    | (fail_if_no_progress ((with_reducible refine Frame.on_tick ?_ ?_) <;> [rfl; skip]))
    | ((with_reducible refine Frame.choose ?_ ?_) <;> intro _)
    | split

end Sys2Proof.Machine
end

