-- ==== Sys2Proof/Laws/Gets.lean ====
section
/-!
SUPPORT. What a helper leaves in a field outside its frame, as an equation.
-/
set_option linter.unusedVariables false
namespace Sys2Proof.Machine

theorem State.groupOff_get (s : State) (g : Nat) (fld : Key) (hf : (among [.EV_GRP_EN, .L_EVC_LOOPS]) fld = false) : ((State.groupOff s g)).get fld = s.get fld :=
  Frame.get (State.groupOff_touches ..) hf

theorem State.groupEnable_get (s : State) (g : Nat) (fld : Key) (hf : (among [.EV_GRP_EN]) fld = false) : ((State.groupEnable s g)).get fld = s.get fld :=
  Frame.get (State.groupEnable_touches ..) hf

theorem State.hardStatus_get (s : State) (n : Nat) (fld : Key) (hf : (among [.CH_STATUS]) fld = false) : ((State.hardStatus s n)).get fld = s.get fld :=
  Frame.get (State.hardStatus_touches ..) hf

theorem State.chEnter_get (s : State) (n st : Nat) (fld : Key) (hf : (among [.CH_STATUS]) fld = false) : ((State.chEnter s n st)).get fld = s.get fld :=
  Frame.get (State.chEnter_touches ..) hf

theorem State.chPark_get (s : State) (n b : Nat) (on : Bool) (fld : Key) (hf : (among [.CH_EVT, .CH_PARK_SRC, .CH_STATUS]) fld = false) : ((State.chPark s n b on)).get fld = s.get fld :=
  Frame.get (State.chPark_touches ..) hf

theorem State.ppPark_get (s : State) (p b : Nat) (on : Bool) (fld : Key) (hf : (among [.PP_EVT, .PP_PARK_SRC]) fld = false) : ((State.ppPark s p b on)).get fld = s.get fld :=
  Frame.get (State.ppPark_touches ..) hf

theorem State.outOfScope_get (s : State) (unit detail : Nat) (fld : Key) (hf : (among [.IC_ARC_EVT, .IC_ARC_LOST, .IC_LDG]) fld = false) : ((State.outOfScope s unit detail)).get fld = s.get fld :=
  Frame.get (State.outOfScope_touches ..) hf

theorem State.parkAll_get (s : State) (b : Nat) (on : Bool) (fld : Key) (hf : (among [.CH_EVT, .CH_PARK_SRC, .CH_STATUS, .PP_EVT, .PP_PARK_SRC]) fld = false) : ((State.parkAll s b on)).get fld = s.get fld :=
  Frame.get (State.parkAll_touches ..) hf

theorem State.bootClear_get (s : State) (fld : Key) (hf : (among [.CH_EVT, .CH_PARK_SRC, .CH_STATUS, .PP_EVT, .PP_PARK_SRC]) fld = false) : ((State.bootClear s)).get fld = s.get fld :=
  Frame.get (State.bootClear_touches ..) hf

theorem State.requestStop_get (s : State) (r t : Nat) (fld : Key) (hf : (among [.REEL]) fld = false) : ((State.requestStop s r t)).get fld = s.get fld :=
  Frame.get (State.requestStop_touches ..) hf

theorem State.stopReels_get (s : State) (p : Nat → Bool) (fld : Key) (hf : (among [.REEL]) fld = false) : ((State.stopReels s p)).get fld = s.get fld :=
  Frame.get (State.stopReels_touches ..) hf

theorem State.slotReset_get (s : State) (n : Nat) (fld : Key) (hf : (among [.L_STRM_RET, .MS_STRM_CNT, .MS_STRM_FILL, .MS_STRM_PLAY]) fld = false) : ((State.slotReset s n)).get fld = s.get fld :=
  Frame.get (State.slotReset_touches ..) hf

theorem State.commitSlot_get (s : State) (n kind id seq : Nat) (fld : Key) (hf : (among [.MS_EVT, .MS_STRM_CNT, .MS_STRM_FILL]) fld = false) : ((State.commitSlot s n kind id seq).2).get fld = s.get fld :=
  Frame.get (State.commitSlot_touches ..) hf

theorem State.dropBeat_get (s : State) (kind id addr cause : Nat) (fld : Key) (hf : (among [.IC_ARC_EVT, .IC_ARC_LOST, .IC_LDG, .L_WDROP_LATCHED, .MS_EVT, .MS_WDROP_ADDR_HI, .MS_WDROP_ADDR_LO, .MS_WDROP_CNT, .MS_WDROP_SRC]) fld = false) : ((State.dropBeat s kind id addr cause)).get fld = s.get fld :=
  Frame.get (State.dropBeat_touches ..) hf

theorem State.burstFault_get (s : State) (b : Nat) (fld : Key) (hf : (among [.IC_ARC_EVT, .IC_ARC_LOST, .IC_LDG, .MS_ECC_CNT]) fld = false) : ((State.burstFault s b)).get fld = s.get fld :=
  Frame.get (State.burstFault_touches ..) hf

theorem State.storeBeat_get (s : State) (addr : Nat) (data : List (BitVec 8)) (fld : Key) (hf : (among [.IC_ARC_EVT, .IC_ARC_LOST, .IC_LDG, .MS_ECC_CNT]) fld = false) : ((State.storeBeat s addr data)).get fld = s.get fld :=
  Frame.get (State.storeBeat_touches ..) hf

theorem State.spoil_get (s : State) (l : List Nat) (fld : Key) : ((State.spoil s l)).get fld = s.get fld :=
  Frame.get (State.spoil_touches ..) rfl

theorem State.segRead_get (s : State) (addr n : Nat) (fld : Key) (hf : (among [.IC_ARC_EVT, .IC_ARC_LOST, .IC_LDG, .MS_ECC_CNT, .MS_EVT]) fld = false) : ((State.segRead s addr n).2).get fld = s.get fld :=
  Frame.get (State.segRead_touches ..) hf

theorem State.writeBeats_get (s : State) (kind id fuel addr : Nat) (data : List (BitVec 8)) (acc : Nat × Nat × FirstDrop) (fld : Key) (hf : (among [.IC_ARC_EVT, .IC_ARC_LOST, .IC_LDG, .L_WDROP_LATCHED, .MS_ECC_CNT, .MS_EVT, .MS_WDROP_ADDR_HI, .MS_WDROP_ADDR_LO, .MS_WDROP_CNT, .MS_WDROP_SRC]) fld = false) : ((s.writeBeats kind id fuel addr data acc).1).get fld = s.get fld :=
  Frame.get (State.writeBeats_touches ..) hf

theorem State.writeSeg_get (s : State) (kind id addr : Nat) (data : List (BitVec 8)) (fld : Key) (hf : (among [.IC_ARC_EVT, .IC_ARC_LOST, .IC_LDG, .L_WDROP_LATCHED, .MS_ECC_CNT, .MS_EVT, .MS_WDROP_ADDR_HI, .MS_WDROP_ADDR_LO, .MS_WDROP_CNT, .MS_WDROP_SRC]) fld = false) : ((s.writeSeg kind id addr data).2).get fld = s.get fld :=
  Frame.get (State.writeSeg_touches ..) hf

theorem State.cardStore_get (s : State) (k : Nat) (d : List Nat) (fld : Key) (hf : (among [.L_STRM_RET, .MS_STRM_CNT, .MS_STRM_FILL, .MS_STRM_PLAY]) fld = false) : ((State.cardStore s k d)).get fld = s.get fld :=
  Frame.get (State.cardStore_touches ..) hf

theorem State.countLoop_get (s : State) (c : Nat) (fld : Key) (hf : (among [.EV_EVT, .EV_GRP_EN, .EV_LOOP_STAT, .IC_ARC_EVT, .IC_ARC_LOST, .IC_LDG, .L_EVC_LOOPS, .L_EVC_LOOP_END]) fld = false) : ((State.countLoop s c)).get fld = s.get fld :=
  Frame.get (State.countLoop_touches ..) hf

theorem State.spread_get (s : State) (c : Nat) (origin : Option Nat) (fld : Key) (hf : (among [.EV_SLEEP_SEEN, .IC_EVC_STAT, .L_EVIO_OUT]) fld = false) : ((State.spread s c origin)).get fld = s.get fld :=
  Frame.get (State.spread_touches ..) hf

theorem State.deliver_get (s : State) (g : Trigger) (fld : Key) (hf : (among [.EV_EVT, .EV_TASK_STAT]) fld = false) : ((State.deliver s g)).get fld = s.get fld :=
  Frame.get (State.deliver_touches ..) hf

theorem State.acceptTask_get (s : State) (k : Nat) (needsS : Bool) (fld : Key) : ((State.acceptTask s k needsS).2).get fld = s.get fld :=
  Frame.get (State.acceptTask_touches ..) rfl

theorem State.timerArm_get (s : State) (k w : Nat) (fld : Key) (hf : (among [.EV_EVT, .EV_TMR_CFG, .L_TMR_NEXT, .L_TMR_RUN]) fld = false) : ((State.timerArm s k w)).get fld = s.get fld :=
  Frame.get (State.timerArm_touches ..) hf

theorem State.onEng_get (s : State) (r : Nat) (f : Engine → Engine) (fld : Key) : ((State.onEng s r f)).get fld = s.get fld :=
  Frame.get (State.onEng_touches ..) rfl

theorem State.setP80_get (s : State) (r : Nat) (v : Int) (fld : Key) (hf : (among [.REEL]) fld = false) : ((State.setP80 s r v)).get fld = s.get fld :=
  Frame.get (State.setP80_touches ..) hf

theorem State.setFtw80_get (s : State) (r : Nat) (v : Int) (fld : Key) (hf : (among [.REEL]) fld = false) : ((State.setFtw80 s r v)).get fld = s.get fld :=
  Frame.get (State.setFtw80_touches ..) hf

theorem State.fold_get (s : State) (r t0 te : Nat) (fld : Key) (hf : (among [.REEL]) fld = false) : ((State.fold s r t0 te)).get fld = s.get fld :=
  Frame.get (State.fold_touches ..) hf

theorem State.setFreq_get (s : State) (r val : Nat) (cont : Bool) (a : Nat) (fld : Key) (hf : (among [.REEL]) fld = false) : ((State.setFreq s r val cont a)).get fld = s.get fld :=
  Frame.get (State.setFreq_touches ..) hf

theorem State.raisePerUnit_get (s : State) (k unit detail : Nat) (m : List (Nat × Nat)) (fld : Key) (hf : (among [.IC_ARC_EVT, .IC_ARC_LOST, .IC_LDG]) fld = false) : ((State.raisePerUnit s k unit detail m)).get fld = s.get fld :=
  Frame.get (State.raisePerUnit_touches ..) hf

theorem State.raisePerTile_get (s : State) (k t : Nat) (m : List (Nat × Nat)) (fld : Key) (hf : (among [.IC_ARC_EVT, .IC_ARC_LOST, .IC_LDG]) fld = false) : ((State.raisePerTile s k t m)).get fld = s.get fld :=
  Frame.get (State.raisePerTile_touches ..) hf

theorem State.corState_get (s : State) (g st : Nat) (fld : Key) (hf : (among [.COR_GRP_EVT, .COR_GRP_STATUS]) fld = false) : ((State.corState s g st)).get fld = s.get fld :=
  Frame.get (State.corState_touches ..) hf

theorem State.corRamp_get (s : State) (g : Nat) (fld : Key) (hf : (among [.L_COR_RAMP, .L_COR_W0]) fld = false) : ((State.corRamp s g)).get fld = s.get fld :=
  Frame.get (State.corRamp_touches ..) hf

theorem State.corAbortAt_get (s : State) (g cause : Nat) (res : Option Nat) (unit : Nat) (fld : Key) (hf : (among [.COR_GRP_EVT, .COR_GRP_STATUS, .IC_ARC_EVT, .IC_ARC_LOST, .IC_LDG, .L_COR_RAMP, .L_COR_W0, .L_COR_ZERO, .REEL]) fld = false) : ((State.corAbortAt s g cause res unit)).get fld = s.get fld :=
  Frame.get (State.corAbortAt_touches ..) hf

theorem State.corAbort_get (s : State) (g cause : Nat) (res : Option Nat) (fld : Key) (hf : (among [.COR_GRP_EVT, .COR_GRP_STATUS, .IC_ARC_EVT, .IC_ARC_LOST, .IC_LDG, .L_COR_RAMP, .L_COR_W0, .L_COR_ZERO, .REEL]) fld = false) : ((State.corAbort s g cause res)).get fld = s.get fld :=
  Frame.get (State.corAbort_touches ..) hf

theorem State.inputLoss_get (s : State) (l : List Nat) (res : Nat) (fld : Key) (hf : (among [.COR_GRP_EVT, .COR_GRP_STATUS, .COR_IN_STAT, .IC_ARC_EVT, .IC_ARC_LOST, .IC_LDG, .L_COR_RAMP, .L_COR_W0, .L_COR_ZERO, .REEL]) fld = false) : ((State.inputLoss s l res)).get fld = s.get fld :=
  Frame.get (State.inputLoss_touches ..) hf

theorem State.inputBack_get (s : State) (l : List Nat) (fld : Key) (hf : (among [.COR_IN_STAT]) fld = false) : ((State.inputBack s l)).get fld = s.get fld :=
  Frame.get (State.inputBack_touches ..) hf

theorem State.hardParkAbort_get (s : State) (n : Nat) (fld : Key) (hf : (among [.COR_GRP_EVT, .COR_GRP_STATUS, .IC_ARC_EVT, .IC_ARC_LOST, .IC_LDG, .L_COR_RAMP, .L_COR_W0, .L_COR_ZERO, .REEL]) fld = false) : ((State.hardParkAbort s n)).get fld = s.get fld :=
  Frame.get (State.hardParkAbort_touches ..) hf

theorem State.corHardCheck_get (s : State) (g : Nat) (fld : Key) (hf : (among [.COR_GRP_EVT, .COR_GRP_STATUS, .IC_ARC_EVT, .IC_ARC_LOST, .IC_LDG, .L_COR_RAMP, .L_COR_W0, .L_COR_ZERO, .REEL]) fld = false) : ((State.corHardCheck s g)).get fld = s.get fld :=
  Frame.get (State.corHardCheck_touches ..) hf

theorem State.loadSet_get (s : State) (n : Nat) (c : CalInst) (fld : Key) (hf : (among [.CAL_LOAD, .CH_CAL_GAIN, .CH_CAL_OFS, .CH_CAL_SKEW, .CH_CAL_TAG, .CH_INL]) fld = false) : ((State.loadSet s n c)).get fld = s.get fld :=
  Frame.get (State.loadSet_touches ..) hf

theorem State.calEntry_get (s : State) (n kind decision tag pRec : Nat) (fx : Bool) (fld : Key) (hf : (among [.IC_ARC_EVT, .IC_ARC_LOST, .IC_LDG]) fld = false) : ((State.calEntry s n kind decision tag pRec fx)).get fld = s.get fld :=
  Frame.get (State.calEntry_touches ..) hf

theorem State.pendStatus_get (s : State) (n : Nat) (fld : Key) (hf : (among [.CAL_CH_STATUS, .CAL_PEND_TAG]) fld = false) : ((State.pendStatus s n)).get fld = s.get fld :=
  Frame.get (State.pendStatus_touches ..) hf

theorem State.applySet_get (s : State) (n range : Nat) (fld : Key) (hf : (among [.CAL_CH_STATUS, .CAL_EVT, .CAL_LOAD, .CAL_PEND_TAG, .CAL_RESID, .CH_CAL_GAIN, .CH_CAL_OFS, .CH_CAL_SKEW, .CH_CAL_TAG, .CH_INL, .IC_ARC_EVT, .IC_ARC_LOST, .IC_LDG, .L_CAL_SEQ, .L_CAL_SRES, .L_CAL_VRES]) fld = false) : ((State.applySet s n range)).get fld = s.get fld :=
  Frame.get (State.applySet_touches ..) hf

theorem State.enterRange_get (s : State) (n range : Nat) (fld : Key) (hf : (among [.CAL_CH_STATUS, .CAL_EVT, .CAL_LOAD, .CAL_PEND_TAG, .CAL_RESID, .CH_CAL_GAIN, .CH_CAL_OFS, .CH_CAL_SKEW, .CH_CAL_TAG, .CH_INL, .CH_RANGE, .IC_ARC_EVT, .IC_ARC_LOST, .IC_LDG, .L_CAL_SEQ, .L_CAL_SRES, .L_CAL_VRES]) fld = false) : ((State.enterRange s n range)).get fld = s.get fld :=
  Frame.get (State.enterRange_touches ..) hf

theorem State.pendSet_get (s : State) (n range origin : Nat) (c : CalSet) (force : Bool) (fld : Key) (hf : (among [.CAL_CH_STATUS, .CAL_EVT, .CAL_PEND_TAG, .L_CAL_HELD]) fld = false) : ((State.pendSet s n range origin c force)).get fld = s.get fld :=
  Frame.get (State.pendSet_touches ..) hf

theorem State.retarget_get (s : State) (n range origin : Nat) (fld : Key) (hf : (among [.CAL_CH_STATUS, .CAL_EVT, .CAL_PEND_TAG, .L_CAL_HELD]) fld = false) : ((State.retarget s n range origin)).get fld = s.get fld :=
  Frame.get (State.retarget_touches ..) hf

theorem State.calTemperature_get (s : State) (n : Nat) (fld : Key) (hf : (among [.CAL_CH_STATUS, .CAL_EVT, .CAL_PEND_TAG, .CAL_TJ, .L_CAL_HELD, .L_CAL_T_LAST]) fld = false) : ((State.calTemperature s n)).get fld = s.get fld :=
  Frame.get (State.calTemperature_touches ..) hf

theorem State.calFault_get (s : State) (n code : Nat) (fld : Key) (hf : (among [.IC_ARC_EVT, .IC_ARC_LOST, .IC_LDG, .L_CAL_RAISED]) fld = false) : ((State.calFault s n code)).get fld = s.get fld :=
  Frame.get (State.calFault_touches ..) hf

theorem State.calAbandon_get (s : State) (r : Nat) (fld : Key) (hf : (among [.CAL_CH_STATUS, .CAL_EVT, .CAL_STATUS, .L_CAL_RUN]) fld = false) : ((State.calAbandon s r)).get fld = s.get fld :=
  Frame.get (State.calAbandon_touches ..) hf

theorem State.enterState_get (s : State) (r st : Nat) (fld : Key) (hf : (among [.CAL_CH_STATUS, .CAL_EVT, .CAL_STATUS, .COR_GRP_EVT, .COR_GRP_STATUS, .IC_ARC_EVT, .IC_ARC_LOST, .IC_LDG, .L_CAL_RUN, .L_COR_RAMP, .L_COR_W0, .L_COR_ZERO, .REEL, .TL_REEL_ACTIVE, .TL_REEL_FAULTED]) fld = false) : ((State.enterState s r st)).get fld = s.get fld :=
  Frame.get (State.enterState_touches ..) hf

theorem State.setStacks_get (s : State) (r : Nat) (k : Stacks) (fld : Key) (hf : (among [.REEL]) fld = false) : ((State.setStacks s r k)).get fld = s.get fld :=
  Frame.get (State.setStacks_touches ..) hf

theorem State.pendFault_get (s : State) (r code t : Nat) (fld : Key) : ((State.pendFault s r code t)).get fld = s.get fld :=
  Frame.get (State.pendFault_touches ..) rfl

theorem State.takeLoan_get (s : State) (r k : Nat) (fld : Key) (hf : (among [.MS_EVT]) fld = false) : ((State.takeLoan s r k)).get fld = s.get fld :=
  Frame.get (State.takeLoan_touches ..) hf

theorem State.returnLoan_get (s : State) (r k : Nat) (fld : Key) (hf : (among [.L_STRM_RET]) fld = false) : ((State.returnLoan s r k)).get fld = s.get fld :=
  Frame.get (State.returnLoan_touches ..) hf

theorem State.returnLoans_get (s : State) (r : Nat) (fld : Key) (hf : (among [.L_STRM_RET]) fld = false) : ((State.returnLoans s r)).get fld = s.get fld :=
  Frame.get (State.returnLoans_touches ..) hf

theorem State.headsUpdate_get (s : State) (r : Nat) (was : List Nat) (fld : Key) (hf : (among [.TL_CUT_EVT, .TL_HEAD_MISS, .TL_HEAD_STATUS]) fld = false) : ((State.headsUpdate s r was)).get fld = s.get fld :=
  Frame.get (State.headsUpdate_touches ..) hf

theorem State.primedUpdate_get (s : State) (r : Nat) (fld : Key) (hf : (among [.REEL]) fld = false) : ((State.primedUpdate s r)).get fld = s.get fld :=
  Frame.get (State.primedUpdate_touches ..) hf

theorem State.buildWindow_get (s : State) (r : Nat) (cur : List WinCue) (q : Nat) (again : Bool) (fld : Key) (hf : (among [.IC_ARC_EVT, .IC_ARC_LOST, .IC_LDG, .L_STRM_RET, .MS_EVT, .REEL, .TL_CUT_EVT, .TL_HEAD_MISS, .TL_HEAD_STATUS]) fld = false) : ((State.buildWindow s r cur q again)).get fld = s.get fld :=
  Frame.get (State.buildWindow_touches ..) hf

theorem State.dropWindow_get (s : State) (r : Nat) (fld : Key) (hf : (among [.L_STRM_RET, .REEL, .TL_CUT_EVT, .TL_HEAD_MISS, .TL_HEAD_STATUS]) fld = false) : ((State.dropWindow s r)).get fld = s.get fld :=
  Frame.get (State.dropWindow_touches ..) hf

theorem State.message_get (s : State) (pf vec : Nat) (fld : Key) (hf : (among [.SYS_MSIX_PBA]) fld = false) : ((State.message s pf vec)).get fld = s.get fld :=
  Frame.get (State.message_touches ..) hf

theorem State.withdraw_get (s : State) (t : Nat) (fld : Key) (hf : (among [.IC_TGT_STATUS, .SYS_MSIX_PBA]) fld = false) : ((State.withdraw s t)).get fld = s.get fld :=
  Frame.get (State.withdraw_touches ..) hf

theorem State.wakeSource_get (s : State) (n : Nat) (fld : Key) (hf : (among [.IC_EVT, .L_CC_SLEEP, .L_IC_WOKEN]) fld = false) : ((State.wakeSource s n)).get fld = s.get fld :=
  Frame.get (State.wakeSource_touches ..) hf

theorem State.reroute_get (s : State) (fld : Key) (hf : (among [.IC_TGT_STATUS, .SYS_MSIX_PBA]) fld = false) : ((State.reroute s)).get fld = s.get fld :=
  Frame.get (State.reroute_touches ..) hf

theorem State.unmask_get (s : State) (pf vec : Nat) (fld : Key) (hf : (among [.SYS_MSIX, .SYS_MSIX_PBA]) fld = false) : ((State.unmask s pf vec)).get fld = s.get fld :=
  Frame.get (State.unmask_touches ..) hf

theorem State.deliverWake_get (s : State) (fld : Key) (hf : (among [.IC_EVC_STAT, .IC_LDG, .IC_SW_STAT, .L_WAKE_SEEN, .L_WAKE_START]) fld = false) : ((State.deliverWake s)).get fld = s.get fld :=
  Frame.get (State.deliverWake_touches ..) hf

theorem State.dropMeas_get (s : State) (k : Nat) (fld : Key) : ((State.dropMeas s k)).get fld = s.get fld :=
  Frame.get (State.dropMeas_touches ..) rfl

theorem State.putMeas_get (s : State) (m : Meas) (fld : Key) : ((State.putMeas s m)).get fld = s.get fld :=
  Frame.get (State.putMeas_touches ..) rfl

theorem State.tiuStart_get (s : State) (k : Nat) (fld : Key) (hf : (among [.TIU_STATUS]) fld = false) : ((State.tiuStart s k)).get fld = s.get fld :=
  Frame.get (State.tiuStart_touches ..) hf

theorem State.tiuStop_get (s : State) (k : Nat) (fld : Key) (hf : (among [.TIU_STATUS]) fld = false) : ((State.tiuStop s k)).get fld = s.get fld :=
  Frame.get (State.tiuStop_touches ..) hf

theorem State.tiuArm_get (s : State) (k at_ : Nat) (task : Bool) (fld : Key) (hf : (among [.L_TIU_BOFS, .TIU_EVT, .TIU_RUN_HI, .TIU_RUN_LO, .TIU_STATUS, .TIU_TAP]) fld = false) : ((State.tiuArm s k at_ task)).get fld = s.get fld :=
  Frame.get (State.tiuArm_touches ..) hf

theorem State.latchTiu_get (s : State) (k : Nat) (m : Meas) (timeout broken : Bool) (fld : Key) (hf : (among [.TIU_EVT, .TIU_FREQ_EXP, .TIU_FREQ_RATIO_HI, .TIU_FREQ_RATIO_LO, .TIU_IMAX_HI, .TIU_IMAX_LO, .TIU_IMIN_HI, .TIU_IMIN_LO, .TIU_ISUM_HI, .TIU_ISUM_LO, .TIU_OVERRUN, .TIU_RSTAT, .TIU_START, .TIU_STATUS, .TIU_STOP, .TIU_SUM_IT, .TIU_SUM_T]) fld = false) : ((State.latchTiu s k m timeout broken)).get fld = s.get fld :=
  Frame.get (State.latchTiu_touches ..) hf

theorem State.breakTius_get (s : State) (fld : Key) (hf : (among [.TIU_EVT, .TIU_FREQ_EXP, .TIU_FREQ_RATIO_HI, .TIU_FREQ_RATIO_LO, .TIU_IMAX_HI, .TIU_IMAX_LO, .TIU_IMIN_HI, .TIU_IMIN_LO, .TIU_ISUM_HI, .TIU_ISUM_LO, .TIU_OVERRUN, .TIU_RSTAT, .TIU_START, .TIU_STATUS, .TIU_STOP, .TIU_SUM_IT, .TIU_SUM_T]) fld = false) : ((State.breakTius s)).get fld = s.get fld :=
  Frame.get (State.breakTius_touches ..) hf

theorem State.passedTius_get (s : State) (fld : Key) (hf : (among [.TIU_EVT, .TIU_FREQ_EXP, .TIU_FREQ_RATIO_HI, .TIU_FREQ_RATIO_LO, .TIU_IMAX_HI, .TIU_IMAX_LO, .TIU_IMIN_HI, .TIU_IMIN_LO, .TIU_ISUM_HI, .TIU_ISUM_LO, .TIU_OVERRUN, .TIU_RSTAT, .TIU_START, .TIU_STATUS, .TIU_STOP, .TIU_SUM_IT, .TIU_SUM_T]) fld = false) : ((State.passedTius s)).get fld = s.get fld :=
  Frame.get (State.passedTius_touches ..) hf

theorem State.tbClaim_get (s : State) (fld : Key) (hf : (among [.TIU_EVT, .TIU_RSTAT, .TIU_STATUS]) fld = false) : ((State.tbClaim s)).get fld = s.get fld :=
  Frame.get (State.tbClaim_touches ..) hf

theorem State.tiuAge_get (s : State) (k : Nat) (fld : Key) (hf : (among [.TIU_CAL_STAT]) fld = false) : ((State.tiuAge s k)).get fld = s.get fld :=
  Frame.get (State.tiuAge_touches ..) hf

theorem State.tilePulse_get (s : State) (p origin : Nat) (fld : Key) (hf : (among [.L_PROD_WORD]) fld = false) : ((State.tilePulse s p origin)).get fld = s.get fld :=
  Frame.get (State.tilePulse_touches ..) hf

theorem State.satMark_get (s : State) (n t : Nat) (fld : Key) (hf : (among [.CH_EVT, .IC_ARC_EVT, .IC_ARC_LOST, .IC_LDG]) fld = false) : ((State.satMark s n t)).get fld = s.get fld :=
  Frame.get (State.satMark_touches ..) hf

theorem State.rangeRequest_get (s : State) (q : RangeReq) (fld : Key) (hf : (among [.CAL_CH_STATUS, .CAL_EVT, .CAL_LOAD, .CAL_PEND_TAG, .CAL_RESID, .CH_CAL_GAIN, .CH_CAL_OFS, .CH_CAL_SKEW, .CH_CAL_TAG, .CH_EVT, .CH_INL, .CH_RANGE, .CH_STATUS, .IC_ARC_EVT, .IC_ARC_LOST, .IC_LDG, .L_CAL_SEQ, .L_CAL_SRES, .L_CAL_VRES, .TL_REEL_EVT]) fld = false) : ((State.rangeRequest s q)).get fld = s.get fld :=
  Frame.get (State.rangeRequest_touches ..) hf

theorem State.foldPiece_get (s : State) (r t : Nat) (fld : Key) (hf : (among [.REEL]) fld = false) : ((State.foldPiece s r t)).get fld = s.get fld :=
  Frame.get (State.foldPiece_touches ..) hf

theorem State.discardSets_get (s : State) (r : Nat) (fld : Key) (hf : (among [.TL_VSTG_EVT, .TL_VSTG_PEND]) fld = false) : ((State.discardSets s r)).get fld = s.get fld :=
  Frame.get (State.discardSets_touches ..) hf

theorem State.discardCuts_get (s : State) (r : Nat) (fld : Key) (hf : (among [.REEL, .TL_CUT_EVT]) fld = false) : ((State.discardCuts s r)).get fld = s.get fld :=
  Frame.get (State.discardCuts_touches ..) hf

theorem State.endEpisode_get (s : State) (r t : Nat) (fld : Key) (hf : (among [.IC_ARC_EVT, .IC_ARC_LOST, .IC_LDG, .TL_CUT_EVT, .TL_LATE_CNT, .TL_LATE_LAST, .TL_LATE_WORDS_HI, .TL_LATE_WORDS_LO]) fld = false) : ((State.endEpisode s r t)).get fld = s.get fld :=
  Frame.get (State.endEpisode_touches ..) hf

theorem State.flushCut_get (s : State) (r : Nat) (fld : Key) (hf : (among [.IC_ARC_EVT, .IC_ARC_LOST, .IC_LDG]) fld = false) : ((State.flushCut s r)).get fld = s.get fld :=
  Frame.get (State.flushCut_touches ..) hf

theorem State.quitRun_get (s : State) (r t : Nat) (fld : Key) (hf : (among [.IC_ARC_EVT, .IC_ARC_LOST, .IC_LDG, .REEL, .TL_CUT_EVT, .TL_LATE_CNT, .TL_LATE_LAST, .TL_LATE_WORDS_HI, .TL_LATE_WORDS_LO, .TL_VSTG_EVT, .TL_VSTG_PEND]) fld = false) : ((State.quitRun s r t)).get fld = s.get fld :=
  Frame.get (State.quitRun_touches ..) hf

theorem State.enterFault_get (s : State) (r code t : Nat) (fld : Key) (hf : (among [.CAL_CH_STATUS, .CAL_EVT, .CAL_STATUS, .COR_GRP_EVT, .COR_GRP_STATUS, .IC_ARC_EVT, .IC_ARC_LOST, .IC_LDG, .L_CAL_RUN, .L_COR_RAMP, .L_COR_W0, .L_COR_ZERO, .L_STRM_RET, .REEL, .TL_CUT_EVT, .TL_HEAD_MISS, .TL_HEAD_STATUS, .TL_LATE_CNT, .TL_LATE_LAST, .TL_LATE_WORDS_HI, .TL_LATE_WORDS_LO, .TL_REEL_ACTIVE, .TL_REEL_EVT, .TL_REEL_FAULTED, .TL_REEL_FLT_LAST, .TL_VSTG_EVT, .TL_VSTG_PEND]) fld = false) : ((State.enterFault s r code t)).get fld = s.get fld :=
  Frame.get (State.enterFault_touches ..) hf

theorem State.enterStopping_get (s : State) (r t : Nat) (fld : Key) (hf : (among [.CAL_CH_STATUS, .CAL_EVT, .CAL_STATUS, .COR_GRP_EVT, .COR_GRP_STATUS, .IC_ARC_EVT, .IC_ARC_LOST, .IC_LDG, .L_CAL_RUN, .L_COR_RAMP, .L_COR_W0, .L_COR_ZERO, .REEL, .TL_CUT_EVT, .TL_LATE_CNT, .TL_LATE_LAST, .TL_LATE_WORDS_HI, .TL_LATE_WORDS_LO, .TL_REEL_ACTIVE, .TL_REEL_FAULTED, .TL_VSTG_EVT, .TL_VSTG_PEND]) fld = false) : ((State.enterStopping s r t)).get fld = s.get fld :=
  Frame.get (State.enterStopping_touches ..) hf

theorem State.applyKind_get (s : State) (r t : Nat) (kv : Nat × Nat) (fld : Key) (hf : (among [.REEL]) fld = false) : ((State.applyKind s r t kv)).get fld = s.get fld :=
  Frame.get (State.applyKind_touches ..) hf

theorem State.updateLatched_get (s : State) (r t : Nat) (fld : Key) (hf : (among [.COR_CNT, .COR_GRP_EVT, .IC_ARC_EVT, .IC_ARC_LOST, .IC_LDG, .L_COR_BUSY]) fld = false) : ((State.updateLatched s r t)).get fld = s.get fld :=
  Frame.get (State.updateLatched_touches ..) hf

theorem State.applyPending_get (s : State) (r t : Nat) (fld : Key) (hf : (among [.COR_CNT, .COR_GRP_EVT, .IC_ARC_EVT, .IC_ARC_LOST, .IC_LDG, .L_COR_BUSY, .REEL, .TL_VSTG_EVT, .TL_VSTG_LAST, .TL_VSTG_PEND, .TL_VSTG_TICK_HI, .TL_VSTG_TICK_LO]) fld = false) : ((State.applyPending s r t)).get fld = s.get fld :=
  Frame.get (State.applyPending_touches ..) hf

theorem State.startSweep_get (s : State) (r i row t : Nat) (fld : Key) (hf : (among [.CAL_CH_STATUS, .CAL_EVT, .CAL_STATUS, .COR_GRP_EVT, .COR_GRP_STATUS, .IC_ARC_EVT, .IC_ARC_LOST, .IC_LDG, .L_CAL_RUN, .L_COR_RAMP, .L_COR_W0, .L_COR_ZERO, .L_STRM_RET, .REEL, .TL_CUT_EVT, .TL_HEAD_MISS, .TL_HEAD_STATUS, .TL_LATE_CNT, .TL_LATE_LAST, .TL_LATE_WORDS_HI, .TL_LATE_WORDS_LO, .TL_REEL_ACTIVE, .TL_REEL_EVT, .TL_REEL_FAULTED, .TL_REEL_FLT_LAST, .TL_VSTG_EVT, .TL_VSTG_PEND]) fld = false) : ((State.startSweep s r i row t)).get fld = s.get fld :=
  Frame.get (State.startSweep_touches ..) hf

theorem State.cardSlate_get (s : State) (r n t : Nat) (fld : Key) (hf : (among [.IC_ARC_EVT, .IC_ARC_LOST, .IC_LDG, .L_PROD_WORD]) fld = false) : ((State.cardSlate s r n t)).get fld = s.get fld :=
  Frame.get (State.cardSlate_touches ..) hf

theorem State.streamPass_get (s : State) (r : Nat) (fld : Key) (hf : (among [.L_STRM_LEAF, .L_STRM_NEXT]) fld = false) : ((State.streamPass s r)).get fld = s.get fld :=
  Frame.get (State.streamPass_touches ..) hf

theorem State.startActions_get (s : State) (r a : Nat) (fld : Key) (hf : (among [.CAL_CH_STATUS, .CAL_EVT, .CAL_STATUS, .COR_GRP_EVT, .COR_GRP_STATUS, .IC_ARC_EVT, .IC_ARC_LOST, .IC_LDG, .L_CAL_RUN, .L_COR_RAMP, .L_COR_W0, .L_COR_ZERO, .L_PROD_WORD, .L_STRM_LEAF, .L_STRM_NEXT, .L_STRM_RET, .REEL, .TL_CUT_EVT, .TL_HEAD_MISS, .TL_HEAD_STATUS, .TL_LATE_CNT, .TL_LATE_LAST, .TL_LATE_WORDS_HI, .TL_LATE_WORDS_LO, .TL_REEL_ACTIVE, .TL_REEL_EVT, .TL_REEL_FAULTED, .TL_REEL_FLT_LAST, .TL_VSTG_EVT, .TL_VSTG_PEND]) fld = false) : ((State.startActions s r a)).get fld = s.get fld :=
  Frame.get (State.startActions_touches ..) hf

theorem State.startWait_get (s : State) (r b : Nat) (c : WinCue) (fld : Key) (hf : (among [.CAL_CH_STATUS, .CAL_EVT, .CAL_STATUS, .COR_GRP_EVT, .COR_GRP_STATUS, .IC_ARC_EVT, .IC_ARC_LOST, .IC_LDG, .L_CAL_RUN, .L_COR_RAMP, .L_COR_W0, .L_COR_ZERO, .L_STRM_RET, .MS_EVT, .REEL, .TL_CUT_EVT, .TL_HEAD_MISS, .TL_HEAD_STATUS, .TL_LATE_CNT, .TL_LATE_LAST, .TL_LATE_WORDS_HI, .TL_LATE_WORDS_LO, .TL_REEL_ACTIVE, .TL_REEL_EVT, .TL_REEL_FAULTED, .TL_REEL_FLT_LAST, .TL_VSTG_EVT, .TL_VSTG_PEND]) fld = false) : ((State.startWait s r b c)).get fld = s.get fld :=
  Frame.get (State.startWait_touches ..) hf

theorem State.loadCurrent_get (s : State) (r : Nat) (fld : Key) (hf : (among [.REEL]) fld = false) : ((State.loadCurrent s r)).get fld = s.get fld :=
  Frame.get (State.loadCurrent_touches ..) hf

theorem State.enterArmed_get (s : State) (r t : Nat) (fld : Key) (hf : (among [.CAL_CH_STATUS, .CAL_EVT, .CAL_STATUS, .COR_GRP_EVT, .COR_GRP_STATUS, .IC_ARC_EVT, .IC_ARC_LOST, .IC_LDG, .L_CAL_RUN, .L_COR_RAMP, .L_COR_W0, .L_COR_ZERO, .L_STRM_RET, .MS_EVT, .REEL, .TL_CUT_EVT, .TL_HEAD_MISS, .TL_HEAD_STATUS, .TL_REEL_ACTIVE, .TL_REEL_FAULTED]) fld = false) : ((State.enterArmed s r t)).get fld = s.get fld :=
  Frame.get (State.enterArmed_touches ..) hf

theorem State.terminal_get (s : State) (r b : Nat) (c : WinCue) (fld : Key) (hf : (among [.CAL_CH_STATUS, .CAL_EVT, .CAL_STATUS, .COR_GRP_EVT, .COR_GRP_STATUS, .IC_ARC_EVT, .IC_ARC_LOST, .IC_LDG, .L_CAL_RUN, .L_COR_RAMP, .L_COR_W0, .L_COR_ZERO, .L_STRM_RET, .MS_EVT, .REEL, .TL_CUT_EVT, .TL_HEAD_MISS, .TL_HEAD_STATUS, .TL_LATE_CNT, .TL_LATE_LAST, .TL_LATE_WORDS_HI, .TL_LATE_WORDS_LO, .TL_REEL_ACTIVE, .TL_REEL_EVT, .TL_REEL_FAULTED, .TL_REEL_FLT_LAST, .TL_VSTG_EVT, .TL_VSTG_PEND]) fld = false) : ((State.terminal s r b c)).get fld = s.get fld :=
  Frame.get (State.terminal_touches ..) hf

theorem State.deferCue_get (s : State) (r : Nat) (c : WinCue) (fld : Key) : ((State.deferCue s r c)).get fld = s.get fld :=
  Frame.get (State.deferCue_touches ..) rfl

theorem State.keepLast_get (s : State) (r t : Nat) (fld : Key) : ((State.keepLast s r t)).get fld = s.get fld :=
  Frame.get (State.keepLast_touches ..) rfl

theorem State.leaveCue_get (s : State) (r t : Nat) (fld : Key) (hf : (among [.IC_ARC_EVT, .IC_ARC_LOST, .IC_LDG, .REEL, .TL_CUT_EVT, .TL_LATE_CNT, .TL_LATE_LAST, .TL_LATE_WORDS_HI, .TL_LATE_WORDS_LO]) fld = false) : ((State.leaveCue s r t)).get fld = s.get fld :=
  Frame.get (State.leaveCue_touches ..) hf

theorem State.playAdvance_get (s : State) (n : Nat) (fld : Key) (hf : (among [.L_STRM_RET, .MS_STRM_CNT, .MS_STRM_FILL, .MS_STRM_PLAY]) fld = false) : ((State.playAdvance s n)).get fld = s.get fld :=
  Frame.get (State.playAdvance_touches ..) hf

theorem State.streamPassEnd_get (s : State) (r : Nat) (fld : Key) (hf : (among [.L_STRM_NEXT, .L_STRM_RET, .MS_STRM_CNT, .MS_STRM_FILL, .MS_STRM_PLAY]) fld = false) : ((State.streamPassEnd s r)).get fld = s.get fld :=
  Frame.get (State.streamPassEnd_touches ..) hf

theorem State.channelTick_get (s : State) (n t : Nat) (fld : Key) (hf : (among [.CH_EVT, .IC_ARC_EVT, .IC_ARC_LOST, .IC_LDG, .L_CH_D, .L_CH_SUM]) fld = false) : ((State.channelTick s n t)).get fld = s.get fld :=
  Frame.get (State.channelTick_touches ..) hf

theorem State.chStart_get (s : State) (n : Nat) (fld : Key) (hf : (among [.CH_STATUS]) fld = false) : ((State.chStart s n)).get fld = s.get fld :=
  Frame.get (State.chStart_touches ..) hf

theorem State.chStop_get (s : State) (n : Nat) (fld : Key) (hf : (among [.CH_STATUS]) fld = false) : ((State.chStop s n)).get fld = s.get fld :=
  Frame.get (State.chStop_touches ..) hf

theorem State.softPark_get (s : State) (n : Nat) (fld : Key) (hf : (among [.CH_STATUS]) fld = false) : ((State.softPark s n)).get fld = s.get fld :=
  Frame.get (State.softPark_touches ..) hf

theorem State.channelFault_get (s : State) (n bit i j lo w : Nat) (present : Bool) (fld : Key) (hf : (among [.CH_EVT, .CH_PARK_SRC, .CH_STATUS, .IC_ARC_EVT, .IC_ARC_LOST, .IC_LDG, .L_CH_BAD]) fld = false) : ((State.channelFault s n bit ⟨.CH_EVT, i, j, lo, w⟩ present)).get fld = s.get fld :=
  Frame.get (State.channelFault_touches ..) hf

theorem State.uvPersist_get (s : State) (fld : Key) (hf : (among [.IC_LDG]) fld = false) : ((State.uvPersist s)).get fld = s.get fld :=
  Frame.get (State.uvPersist_touches ..) hf

theorem State.eqBoundary_get (s : State) (n : Nat) (fld : Key) (hf : (among [.CH_EQ_CFG, .CH_EVT, .L_EQ_SRC_CUR]) fld = false) : ((State.eqBoundary s n)).get fld = s.get fld :=
  Frame.get (State.eqBoundary_touches ..) hf

theorem State.calBoundary_get (s : State) (n : Nat) (fld : Key) (hf : (among [.CAL_CH_STATUS, .CAL_EVT, .CAL_LOAD, .CAL_PEND_TAG, .CAL_RESID, .CH_CAL_GAIN, .CH_CAL_OFS, .CH_CAL_SKEW, .CH_CAL_TAG, .CH_INL, .IC_ARC_EVT, .IC_ARC_LOST, .IC_LDG, .L_CAL_SEQ, .L_CAL_SRES, .L_CAL_VRES]) fld = false) : ((State.calBoundary s n)).get fld = s.get fld :=
  Frame.get (State.calBoundary_touches ..) hf

theorem State.gapStart_get (s : State) (n t range : Nat) (fld : Key) (hf : (among [.CH_STATUS, .L_RNG_AT, .L_RNG_NEW]) fld = false) : ((State.gapStart s n t range)).get fld = s.get fld :=
  Frame.get (State.gapStart_touches ..) hf

theorem State.rangeStatus_get (s : State) (n : Nat) (fld : Key) (hf : (among [.CH_RANGE, .CH_STATUS]) fld = false) : ((State.rangeStatus s n)).get fld = s.get fld :=
  Frame.get (State.rangeStatus_touches ..) hf

theorem State.skewStep_get (s : State) (n : Nat) (fld : Key) (hf : (among [.CH_CAL_SKEW]) fld = false) : ((State.skewStep s n)).get fld = s.get fld :=
  Frame.get (State.skewStep_touches ..) hf

theorem State.portStart_get (s : State) (p : Nat) (fld : Key) (hf : (among [.PP_STATUS]) fld = false) : ((State.portStart s p)).get fld = s.get fld :=
  Frame.get (State.portStart_touches ..) hf

theorem State.portStop_get (s : State) (p : Nat) (fld : Key) (hf : (among [.PP_STATUS]) fld = false) : ((State.portStop s p)).get fld = s.get fld :=
  Frame.get (State.portStop_touches ..) hf

theorem State.jesdWait_get (s : State) (p : Nat) (fld : Key) (hf : (among [.PP_EVT, .PP_JSTAT]) fld = false) : ((State.jesdWait s p)).get fld = s.get fld :=
  Frame.get (State.jesdWait_touches ..) hf

theorem State.jesdTxStart_get (s : State) (p : Nat) (fld : Key) (hf : (among [.PP_EVT, .PP_JSTAT]) fld = false) : ((State.jesdTxStart s p)).get fld = s.get fld :=
  Frame.get (State.jesdTxStart_touches ..) hf

theorem State.portPark_get (s : State) (p : Nat) (fld : Key) (hf : (among [.PP_STATUS]) fld = false) : ((State.portPark s p)).get fld = s.get fld :=
  Frame.get (State.portPark_touches ..) hf

theorem State.portFaultBit_get (s : State) (p : Nat) (on : Bool) (fld : Key) (hf : (among [.PP_EVT, .PP_PARK_SRC]) fld = false) : ((State.portFaultBit s p on)).get fld = s.get fld :=
  Frame.get (State.portFaultBit_touches ..) hf

theorem State.portFault_get (s : State) (p : Nat) (m : List (Nat × Nat)) (fld : Key) (hf : (among [.IC_ARC_EVT, .IC_ARC_LOST, .IC_LDG, .PP_EVT, .PP_PARK_SRC]) fld = false) : ((State.portFault s p m)).get fld = s.get fld :=
  Frame.get (State.portFault_touches ..) hf

theorem State.delayStep_get (s : State) (p : Nat) (fld : Key) (hf : (among [.PP_FDLY, .PP_STATUS]) fld = false) : ((State.delayStep s p)).get fld = s.get fld :=
  Frame.get (State.delayStep_touches ..) hf

theorem State.putCap_get (s : State) (c : Cap) (fld : Key) : ((State.putCap s c)).get fld = s.get fld :=
  Frame.get (State.putCap_touches ..) rfl

theorem State.dropCap_get (s : State) (p : Nat) (fld : Key) : ((State.dropCap s p)).get fld = s.get fld :=
  Frame.get (State.dropCap_touches ..) rfl

theorem State.captureWrite_get (s : State) (c : Cap) (v : Nat) (fld : Key) (hf : (among [.IC_ARC_EVT, .IC_ARC_LOST, .IC_LDG, .L_WDROP_LATCHED, .MS_ECC_CNT, .MS_EVT, .MS_WDROP_ADDR_HI, .MS_WDROP_ADDR_LO, .MS_WDROP_CNT, .MS_WDROP_SRC, .PP_EVT]) fld = false) : ((State.captureWrite s c v).2).get fld = s.get fld :=
  Frame.get (State.captureWrite_touches ..) hf

theorem State.captureEntry_get (s : State) (c : Cap) (fld : Key) (hf : (among [.IC_ARC_EVT, .IC_ARC_LOST, .IC_LDG]) fld = false) : ((State.captureEntry s c)).get fld = s.get fld :=
  Frame.get (State.captureEntry_touches ..) hf

theorem State.captureArchive_get (s : State) (c : Cap) (v t : Nat) (fld : Key) (hf : (among [.IC_ARC_EVT, .IC_ARC_LOST, .IC_LDG]) fld = false) : ((State.captureArchive s c v t).2).get fld = s.get fld :=
  Frame.get (State.captureArchive_touches ..) hf

theorem State.captureRun_get (s : State) (t0 fuel : Nat) (c : Cap) (fld : Key) (hf : (among [.IC_ARC_EVT, .IC_ARC_LOST, .IC_LDG, .L_WDROP_LATCHED, .MS_ECC_CNT, .MS_EVT, .MS_WDROP_ADDR_HI, .MS_WDROP_ADDR_LO, .MS_WDROP_CNT, .MS_WDROP_SRC, .PP_EVT]) fld = false) : ((s.captureRun t0 fuel c).2).get fld = s.get fld :=
  Frame.get (State.captureRun_touches ..) hf

theorem State.captureStep_get (s : State) (p : Nat) (fld : Key) (hf : (among [.IC_ARC_EVT, .IC_ARC_LOST, .IC_LDG, .L_WDROP_LATCHED, .MS_ECC_CNT, .MS_EVT, .MS_WDROP_ADDR_HI, .MS_WDROP_ADDR_LO, .MS_WDROP_CNT, .MS_WDROP_SRC, .PP_EVT]) fld = false) : ((State.captureStep s p)).get fld = s.get fld :=
  Frame.get (State.captureStep_touches ..) hf

theorem State.captureClose_get (s : State) (c : Cap) (t : Nat) (ovf abort : Bool) (fld : Key) (hf : (among [.IC_ARC_EVT, .IC_ARC_LOST, .IC_LDG, .PP_CAP_CNT_HI, .PP_CAP_CNT_LO, .PP_CAP_START_HI, .PP_CAP_START_LO, .PP_EVT, .PP_STATUS]) fld = false) : ((State.captureClose s c t ovf abort)).get fld = s.get fld :=
  Frame.get (State.captureClose_touches ..) hf

theorem State.passedCaptures_get (s : State) (fld : Key) (hf : (among [.IC_ARC_EVT, .IC_ARC_LOST, .IC_LDG, .PP_CAP_CNT_HI, .PP_CAP_CNT_LO, .PP_CAP_START_HI, .PP_CAP_START_LO, .PP_EVT, .PP_STATUS]) fld = false) : ((State.passedCaptures s)).get fld = s.get fld :=
  Frame.get (State.passedCaptures_touches ..) hf

theorem State.jesdReanchor_get (s : State) (fld : Key) (hf : (among [.PP_EVT]) fld = false) : ((State.jesdReanchor s)).get fld = s.get fld :=
  Frame.get (State.jesdReanchor_touches ..) hf

theorem State.portTick_get (s : State) (p t : Nat) (fld : Key) (hf : (among [.L_PP_WORD]) fld = false) : ((State.portTick s p t)).get fld = s.get fld :=
  Frame.get (State.portTick_touches ..) hf

theorem State.jesdTick_get (s : State) (p t : Nat) (fld : Key) (hf : (among [.IC_ARC_EVT, .IC_ARC_LOST, .IC_LDG, .L_JTX_CODE, .PP_EVT]) fld = false) : ((State.jesdTick s p t)).get fld = s.get fld :=
  Frame.get (State.jesdTick_touches ..) hf

theorem State.linkEntry_get (s : State) (l old st cause : Nat) (delay : Int) (fld : Key) (hf : (among [.IC_ARC_EVT, .IC_ARC_LOST, .IC_LDG]) fld = false) : ((State.linkEntry s l old st cause delay)).get fld = s.get fld :=
  Frame.get (State.linkEntry_touches ..) hf

theorem State.linkPersist_get (s : State) (fld : Key) (hf : (among [.IC_LDG]) fld = false) : ((State.linkPersist s)).get fld = s.get fld :=
  Frame.get (State.linkPersist_touches ..) hf

theorem State.linkFault_get (s : State) (l : Nat) (fld : Key) (hf : (among [.IC_ARC_EVT, .IC_ARC_LOST, .IC_LDG, .L_LK_FAULTED]) fld = false) : ((State.linkFault s l)).get fld = s.get fld :=
  Frame.get (State.linkFault_touches ..) hf

theorem State.linkTiuBack_get (s : State) (l : Nat) (fld : Key) (hf : (among [.LK_STATUS, .L_LK_TIU, .TIU_STATUS]) fld = false) : ((State.linkTiuBack s l)).get fld = s.get fld :=
  Frame.get (State.linkTiuBack_touches ..) hf

theorem State.linkTiu_get (s : State) (l : Nat) (fld : Key) (hf : (among [.LK_STATUS, .L_LK_TIU, .TIU_STATUS]) fld = false) : ((State.linkTiu s l)).get fld = s.get fld :=
  Frame.get (State.linkTiu_touches ..) hf

theorem State.linkAverage_get (s : State) (l : Nat) (fld : Key) (hf : (among [.L_LK_HDR, .L_LK_N, .L_LK_SUM_R, .L_LK_SUM_T]) fld = false) : ((State.linkAverage s l)).get fld = s.get fld :=
  Frame.get (State.linkAverage_touches ..) hf

theorem State.linkEnter_get (s : State) (l st cause : Nat) (fld : Key) (hf : (among [.COR_GRP_EVT, .COR_GRP_STATUS, .COR_IN_STAT, .IC_ARC_EVT, .IC_ARC_LOST, .IC_LDG, .LK_EVT, .LK_RXS_STAT, .LK_STATUS, .L_COR_RAMP, .L_COR_W0, .L_COR_ZERO, .L_LK_AGAIN, .L_LK_FAULTED, .L_LK_GOOD, .L_LK_HDR, .L_LK_N, .L_LK_SUM_R, .L_LK_SUM_T, .L_LK_TIU, .REEL, .TIU_STATUS]) fld = false) : ((State.linkEnter s l st cause)).get fld = s.get fld :=
  Frame.get (State.linkEnter_touches ..) hf

theorem State.linkStart_get (s : State) (l : Nat) (fld : Key) (hf : (among [.COR_GRP_EVT, .COR_GRP_STATUS, .COR_IN_STAT, .IC_ARC_EVT, .IC_ARC_LOST, .IC_LDG, .LK_EVT, .LK_RXS_STAT, .LK_STATUS, .L_COR_RAMP, .L_COR_W0, .L_COR_ZERO, .L_LK_AGAIN, .L_LK_FAULTED, .L_LK_GOOD, .L_LK_HDR, .L_LK_N, .L_LK_SUM_R, .L_LK_SUM_T, .L_LK_TIU, .REEL, .TIU_STATUS]) fld = false) : ((State.linkStart s l)).get fld = s.get fld :=
  Frame.get (State.linkStart_touches ..) hf

theorem State.linkStop_get (s : State) (l : Nat) (fld : Key) (hf : (among [.COR_GRP_EVT, .COR_GRP_STATUS, .COR_IN_STAT, .IC_ARC_EVT, .IC_ARC_LOST, .IC_LDG, .LK_EVT, .LK_RXS_STAT, .LK_STATUS, .L_COR_RAMP, .L_COR_W0, .L_COR_ZERO, .L_LK_AGAIN, .L_LK_FAULTED, .L_LK_GOOD, .L_LK_HDR, .L_LK_N, .L_LK_SUM_R, .L_LK_SUM_T, .L_LK_TIU, .REEL, .TIU_STATUS]) fld = false) : ((State.linkStop s l)).get fld = s.get fld :=
  Frame.get (State.linkStop_touches ..) hf

theorem State.linksAnchor_get (s : State) (fld : Key) (hf : (among [.COR_GRP_EVT, .COR_GRP_STATUS, .COR_IN_STAT, .IC_ARC_EVT, .IC_ARC_LOST, .IC_LDG, .LK_EVT, .LK_RXS_STAT, .LK_STATUS, .L_COR_RAMP, .L_COR_W0, .L_COR_ZERO, .L_LK_AGAIN, .L_LK_FAULTED, .L_LK_GOOD, .L_LK_HDR, .L_LK_N, .L_LK_SUM_R, .L_LK_SUM_T, .L_LK_TIU, .REEL, .TIU_STATUS]) fld = false) : ((State.linksAnchor s)).get fld = s.get fld :=
  Frame.get (State.linksAnchor_touches ..) hf

theorem State.misalign_get (s : State) (l : Nat) (fld : Key) (hf : (among [.IC_ARC_EVT, .IC_ARC_LOST, .IC_LDG, .LK_STATUS, .LK_STUDIO_EVT, .LK_STUDIO_STATUS, .L_LK_FAULTED]) fld = false) : ((State.misalign s l)).get fld = s.get fld :=
  Frame.get (State.misalign_touches ..) hf

theorem State.studioMisalign_get (s : State) (fld : Key) (hf : (among [.IC_ARC_EVT, .IC_ARC_LOST, .IC_LDG, .LK_STATUS, .LK_STUDIO_EVT, .LK_STUDIO_STATUS, .L_LK_FAULTED]) fld = false) : ((State.studioMisalign s)).get fld = s.get fld :=
  Frame.get (State.studioMisalign_touches ..) hf

theorem State.afterLoad_get (s : State) (fld : Key) (hf : (among [.EV_GRP_EN, .IC_ARC_FILL, .IC_ARC_RD, .IC_ARC_WR, .IC_TGT_STATUS, .LK_STUDIO_STATUS, .L_ARC_FULL, .L_EVC_LOOPS, .SYS_MSIX_PBA]) fld = false) : ((State.afterLoad s)).get fld = s.get fld :=
  Frame.get (State.afterLoad_touches ..) hf

theorem State.tilePark_get (s : State) (t : Nat) (on : Bool) (fld : Key) (hf : (among [.CH_EVT, .CH_PARK_SRC, .CH_STATUS, .PP_EVT, .PP_PARK_SRC]) fld = false) : ((State.tilePark s t on)).get fld = s.get fld :=
  Frame.get (State.tilePark_touches ..) hf

theorem State.tileStop_get (s : State) (t : Nat) (fld : Key) (hf : (among [.CH_EVT, .CH_PARK_SRC, .CH_STATUS, .COR_GRP_EVT, .COR_GRP_STATUS, .IC_ARC_EVT, .IC_ARC_LOST, .IC_LDG, .L_COR_RAMP, .L_COR_W0, .L_COR_ZERO, .PP_EVT, .PP_PARK_SRC, .REEL, .SYS_TILE_STATUS]) fld = false) : ((State.tileStop s t)).get fld = s.get fld :=
  Frame.get (State.tileStop_touches ..) hf

theorem State.tileRunning_get (s : State) (t : Nat) (fld : Key) (hf : (among [.CH_EVT, .CH_PARK_SRC, .CH_STATUS, .PP_EVT, .PP_PARK_SRC, .SYS_TILE_STATUS]) fld = false) : ((State.tileRunning s t)).get fld = s.get fld :=
  Frame.get (State.tileRunning_touches ..) hf

theorem State.tileOff_get (s : State) (t : Nat) (fld : Key) (hf : (among [.L_CC_SLEEP, .SYS_TILE_STATUS]) fld = false) : ((State.tileOff s t)).get fld = s.get fld :=
  Frame.get (State.tileOff_touches ..) hf

theorem State.tileStart_get (s : State) (t : Nat) (fld : Key) (hf : (among [.L_CC_HALTED, .L_CC_SLEEP, .SYS_TILE_STATUS]) fld = false) : ((State.tileStart s t)).get fld = s.get fld :=
  Frame.get (State.tileStart_touches ..) hf

theorem State.tbStop_get (s : State) (fld : Key) (hf : (among [.CH_EVT, .CH_PARK_SRC, .CH_STATUS, .PP_EVT, .PP_PARK_SRC, .TB_STATUS]) fld = false) : ((State.tbStop s)).get fld = s.get fld :=
  Frame.get (State.tbStop_touches ..) hf

theorem State.standbyBegin_get (s : State) (fld : Key) (hf : (among [.CH_STATUS, .COR_GRP_EVT, .COR_GRP_STATUS, .COR_IN_STAT, .IC_ARC_EVT, .IC_ARC_LOST, .IC_LDG, .LK_EVT, .LK_RXS_STAT, .LK_STATUS, .L_COR_RAMP, .L_COR_W0, .L_COR_ZERO, .L_LK_AGAIN, .L_LK_FAULTED, .L_LK_GOOD, .L_LK_HDR, .L_LK_N, .L_LK_SUM_R, .L_LK_SUM_T, .L_LK_TIU, .L_PWR_BUSY, .L_PWR_NEXT, .PP_STATUS, .REEL, .TIU_STATUS]) fld = false) : ((State.standbyBegin s)).get fld = s.get fld :=
  Frame.get (State.standbyBegin_touches ..) hf

theorem State.standbyEnd_get (s : State) (fld : Key) (hf : (among [.CH_STATUS, .COR_GRP_EVT, .COR_GRP_STATUS, .COR_IN_STAT, .IC_ARC_EVT, .IC_ARC_LOST, .IC_LDG, .LK_EVT, .LK_RXS_STAT, .LK_STATUS, .LK_STUDIO_EVT, .LK_STUDIO_STATUS, .L_COR_RAMP, .L_COR_W0, .L_COR_ZERO, .L_LK_AGAIN, .L_LK_FAULTED, .L_LK_GOOD, .L_LK_HDR, .L_LK_N, .L_LK_SUM_R, .L_LK_SUM_T, .L_LK_TIU, .L_PWR_BUSY, .L_PWR_NEXT, .L_STK_SR, .PP_STATUS, .REEL, .TIU_STATUS]) fld = false) : ((State.standbyEnd s)).get fld = s.get fld :=
  Frame.get (State.standbyEnd_touches ..) hf

theorem State.passedActions_get (s : State) (fld : Key) (hf : (among [.CH_EVT, .CH_STATUS, .IC_ARC_EVT, .IC_ARC_LOST, .IC_LDG, .PP_CAP_CNT_HI, .PP_CAP_CNT_LO, .PP_CAP_START_HI, .PP_CAP_START_LO, .PP_EVT, .PP_STATUS, .TIU_EVT, .TIU_FREQ_EXP, .TIU_FREQ_RATIO_HI, .TIU_FREQ_RATIO_LO, .TIU_IMAX_HI, .TIU_IMAX_LO, .TIU_IMIN_HI, .TIU_IMIN_LO, .TIU_ISUM_HI, .TIU_ISUM_LO, .TIU_OVERRUN, .TIU_RSTAT, .TIU_START, .TIU_STATUS, .TIU_STOP, .TIU_SUM_IT, .TIU_SUM_T]) fld = false) : ((State.passedActions s)).get fld = s.get fld :=
  Frame.get (State.passedActions_touches ..) hf

theorem State.tbEnter_get (s : State) (st : Nat) (fld : Key) (hf : (among [.TB_STATUS]) fld = false) : ((State.tbEnter s st)).get fld = s.get fld :=
  Frame.get (State.tbEnter_touches ..) hf

theorem State.tbStart_get (s : State) (fld : Key) (hf : (among [.L_TB_WANT, .PLL_STATUS, .TB_EVT, .TB_STATUS]) fld = false) : ((State.tbStart s)).get fld = s.get fld :=
  Frame.get (State.tbStart_touches ..) hf

theorem State.lossAction_get (s : State) (fld : Key) (hf : (among [.CH_EVT, .CH_PARK_SRC, .CH_STATUS, .PP_EVT, .PP_PARK_SRC, .REEL]) fld = false) : ((State.lossAction s)).get fld = s.get fld :=
  Frame.get (State.lossAction_touches ..) hf

theorem State.coastBegin_get (s : State) (cause : Nat) (fld : Key) (hf : (among [.CH_EVT, .CH_PARK_SRC, .CH_STATUS, .IC_ARC_EVT, .IC_ARC_LOST, .IC_LDG, .L_TB_LOSS_TICK, .L_TB_REACQ, .L_TB_REL_CAUSE, .PP_EVT, .PP_PARK_SRC, .REEL, .TB_STATUS]) fld = false) : ((State.coastBegin s cause)).get fld = s.get fld :=
  Frame.get (State.coastBegin_touches ..) hf

theorem State.relockEntry_get (s : State) (fld : Key) (hf : (among [.IC_ARC_EVT, .IC_ARC_LOST, .IC_LDG]) fld = false) : ((State.relockEntry s)).get fld = s.get fld :=
  Frame.get (State.relockEntry_touches ..) hf

theorem State.release_get (s : State) (st h : Nat) (est : Bool) (fld : Key) (hf : (among [.IC_ARC_EVT, .IC_ARC_LOST, .IC_LDG, .L_TB_ENTRY_DUE, .L_TB_EPIN_SEEN, .L_TB_HELD, .L_TB_MEAS_DUE, .L_TB_REL_TICK, .L_TB_UNPARK_DUE, .PP_EVT, .TB_COAST_HI, .TB_COAST_LO, .TB_DISC, .TB_EVT, .TB_STATUS]) fld = false) : ((State.release s st h est)).get fld = s.get fld :=
  Frame.get (State.release_touches ..) hf

theorem State.loadCheck_get (s : State) (fld : Key) (hf : (among [.L_TB_LOAD_OK, .TB_EVT]) fld = false) : ((State.loadCheck s)).get fld = s.get fld :=
  Frame.get (State.loadCheck_touches ..) hf

theorem State.afterRelease_get (s : State) (fld : Key) (hf : (among [.COR_GRP_EVT, .COR_GRP_STATUS, .COR_IN_STAT, .IC_ARC_EVT, .IC_ARC_LOST, .IC_LDG, .LK_EVT, .LK_RXS_STAT, .LK_STATUS, .L_COR_RAMP, .L_COR_W0, .L_COR_ZERO, .L_LK_AGAIN, .L_LK_FAULTED, .L_LK_GOOD, .L_LK_HDR, .L_LK_N, .L_LK_SUM_R, .L_LK_SUM_T, .L_LK_TIU, .REEL, .TIU_EVT, .TIU_RSTAT, .TIU_STATUS]) fld = false) : ((State.afterRelease s)).get fld = s.get fld :=
  Frame.get (State.afterRelease_touches ..) hf

theorem State.armAnchor_get (s : State) (st : Nat) (fld : Key) (hf : (among [.L_TB_ANCHOR_TICK, .TB_EVT, .TB_STATUS]) fld = false) : ((State.armAnchor s st)).get fld = s.get fld :=
  Frame.get (State.armAnchor_touches ..) hf

theorem State.epochArm_get (s : State) (n w : Nat) (fld : Key) (hf : (among [.L_EPOCH_NEXT, .L_EPOCH_RUN, .TB_EPOCH_OFS, .TB_EVT]) fld = false) : ((State.epochArm s n w)).get fld = s.get fld :=
  Frame.get (State.epochArm_touches ..) hf

theorem State.wearShow_get (s : State) (d : Nat) (fld : Key) (hf : (among [.SYS_WEAR, .SYS_WEAR_USED]) fld = false) : ((State.wearShow s d)).get fld = s.get fld :=
  Frame.get (State.wearShow_touches ..) hf

theorem State.wearCommit_get (s : State) (fld : Key) (hf : (among [.L_WEAR_AGE, .L_WEAR_C]) fld = false) : ((State.wearCommit s)).get fld = s.get fld :=
  Frame.get (State.wearCommit_touches ..) hf

theorem State.pwrResult_get (s : State) (n : Nat) (fld : Key) (hf : (among [.SYS_PWR_STATUS]) fld = false) : ((State.pwrResult s n)).get fld = s.get fld :=
  Frame.get (State.pwrResult_touches ..) hf

theorem State.putDelta_get (s : State) (d : CalDelta) (fld : Key) : ((State.putDelta s d)).get fld = s.get fld :=
  Frame.get (State.putDelta_touches ..) rfl

theorem State.takeResult_get (s : State) (n range kind : Nat) (vals : List Int) (p : Nat) (fld : Key) (hf : (among [.CAL_EVT, .IC_ARC_EVT, .IC_ARC_LOST, .IC_LDG, .L_CAL_RAISED]) fld = false) : ((State.takeResult s n range kind vals p)).get fld = s.get fld :=
  Frame.get (State.takeResult_touches ..) hf

theorem State.dropWaiting_get (s : State) (n : Nat) (fld : Key) : ((State.dropWaiting s n)).get fld = s.get fld :=
  Frame.get (State.dropWaiting_touches ..) rfl

theorem State.calRefuse_get (s : State) (res : Nat) (fld : Key) (hf : (among [.CAL_EVT, .CAL_STATUS]) fld = false) : ((State.calRefuse s res)).get fld = s.get fld :=
  Frame.get (State.calRefuse_touches ..) hf

theorem State.calRunEnd_get (s : State) (fld : Key) (hf : (among [.CAL_CH_STATUS, .CAL_STATUS, .L_CAL_RUN]) fld = false) : ((State.calRunEnd s)).get fld = s.get fld :=
  Frame.get (State.calRunEnd_touches ..) hf

theorem State.acceptOverride_get (s : State) (rec : OvrRecord) (fld : Key) (hf : (among [.CAL_OVR_CNT, .L_M_OVR, .L_OVR_CNT]) fld = false) : ((State.acceptOverride s rec)).get fld = s.get fld :=
  Frame.get (State.acceptOverride_touches ..) hf

theorem State.overrideLoaded_get (s : State) (rec : OvrRecord) (fld : Key) (hf : (among [.CAL_CH_STATUS, .CAL_EVT, .CAL_OVR_CNT, .CAL_PEND_TAG, .CAL_STATUS, .IC_ARC_EVT, .IC_ARC_LOST, .IC_LDG, .L_CAL_HELD, .L_M_OVR, .L_OVR_CNT]) fld = false) : ((State.overrideLoaded s rec)).get fld = s.get fld :=
  Frame.get (State.overrideLoaded_touches ..) hf

theorem State.takeFactory_get (s : State) (f : CalRecord) (fld : Key) (hf : (among [.CAL_CH_STATUS, .CAL_EVT, .CAL_PEND_TAG, .CAL_REC_ID, .CAL_STATUS, .CAL_TJ, .L_CAL_HELD, .L_CAL_T_LAST, .PP_DLY_ZERO, .TB_ANCHOR_TGT]) fld = false) : ((State.takeFactory s f)).get fld = s.get fld :=
  Frame.get (State.takeFactory_touches ..) hf

theorem State.loadFactory_get (s : State) (f : Option CalRecord) (fld : Key) (hf : (among [.CAL_CH_STATUS, .CAL_EVT, .CAL_PEND_TAG, .CAL_REC_ID, .CAL_STATUS, .CAL_TJ, .IC_ARC_EVT, .IC_ARC_LOST, .IC_LDG, .L_CAL_HELD, .L_CAL_RAISED, .L_CAL_T_LAST, .PP_DLY_ZERO, .TB_ANCHOR_TGT]) fld = false) : ((State.loadFactory s f)).get fld = s.get fld :=
  Frame.get (State.loadFactory_touches ..) hf

theorem State.shiftRecords_get (s : State) (fld : Key) (hf : (among [.AON_BREC]) fld = false) : (s.shiftRecords).get fld = s.get fld :=
  Frame.get (State.shiftRecords_touches ..) hf

theorem State.newRecord_get (s : State) (outcome cause stage us : Nat) (fld : Key) (hf : (among [.AON_BREC]) fld = false) : ((State.newRecord s outcome cause stage us)).get fld = s.get fld :=
  Frame.get (State.newRecord_touches ..) hf

theorem State.endRecord_get (s : State) (outcome cause stage us : Nat) (fld : Key) (hf : (among [.AON_BREC]) fld = false) : ((State.endRecord s outcome cause stage us)).get fld = s.get fld :=
  Frame.get (State.endRecord_touches ..) hf

theorem State.eraseOwner_get (s : State) (fld : Key) (hf : (among [.SEC_OKEY_DIG]) fld = false) : ((State.eraseOwner s)).get fld = s.get fld :=
  Frame.get (State.eraseOwner_touches ..) hf

theorem State.waitHost_get (s : State) (item : Nat) (fld : Key) (hf : (among [.AON_BOOT_STATUS, .AON_EVT]) fld = false) : ((State.waitHost s item)).get fld = s.get fld :=
  Frame.get (State.waitHost_touches ..) hf

theorem State.takeBlock_get (s : State) (b : List (BitVec 8)) (fld : Key) (hf : (among [.L_BPB_MODE, .L_BPB_OK, .L_BPB_PLL, .L_BPB_REF, .L_PAY_ADDR, .L_PAY_LEN]) fld = false) : ((State.takeBlock s b)).get fld = s.get fld :=
  Frame.get (State.takeBlock_touches ..) hf

theorem State.takeFirmware_get (s : State) (fw : List (BitVec 8)) (fld : Key) (hf : (among [.L_CC_HALTED, .L_CC_SLEEP, .L_FW_CNT, .L_M_FW, .SYS_TILE_STATUS]) fld = false) : ((State.takeFirmware s fw)).get fld = s.get fld :=
  Frame.get (State.takeFirmware_touches ..) hf

theorem State.stage10_get (s : State) (fac : Option CalRecord) (ovr : Option OvrRecord) (fld : Key) (hf : (among [.CAL_CH_STATUS, .CAL_EVT, .CAL_OVR_CNT, .CAL_PEND_TAG, .CAL_REC_ID, .CAL_STATUS, .CAL_TJ, .IC_ARC_EVT, .IC_ARC_LOST, .IC_LDG, .L_CAL_HELD, .L_CAL_RAISED, .L_CAL_T_LAST, .L_M_OVR, .L_OVR_CNT, .PP_DLY_ZERO, .TB_ANCHOR_TGT]) fld = false) : ((State.stage10 s fac ovr)).get fld = s.get fld :=
  Frame.get (State.stage10_touches ..) hf

theorem State.itemGiven_get (s : State) (addr len : Nat) (fld : Key) (hf : (among [.AON_BOOT_STATUS, .AON_EVT, .L_PAY_ADDR, .L_PAY_LEN]) fld = false) : ((State.itemGiven s addr len)).get fld = s.get fld :=
  Frame.get (State.itemGiven_touches ..) hf

theorem State.arm_get (s : State) (r : Nat) (fld : Key) (hf : (among [.CAL_CH_STATUS, .CAL_EVT, .CAL_STATUS, .COR_GRP_EVT, .COR_GRP_STATUS, .IC_ARC_EVT, .IC_ARC_LOST, .IC_LDG, .L_CAL_RUN, .L_COR_RAMP, .L_COR_W0, .L_COR_ZERO, .L_STRM_RET, .MS_EVT, .REEL, .TL_CUT_EVT, .TL_HEAD_MISS, .TL_HEAD_STATUS, .TL_REEL_ACTIVE, .TL_REEL_FAULTED]) fld = false) : ((State.arm s r)).get fld = s.get fld :=
  Frame.get (State.arm_touches ..) hf

theorem State.armRequest_get (s : State) (r : Nat) (fld : Key) (hf : (among [.CAL_CH_STATUS, .CAL_EVT, .CAL_STATUS, .COR_GRP_EVT, .COR_GRP_STATUS, .IC_ARC_EVT, .IC_ARC_LOST, .IC_LDG, .L_CAL_RUN, .L_COR_RAMP, .L_COR_W0, .L_COR_ZERO, .L_STRM_RET, .MS_EVT, .REEL, .TL_CUT_EVT, .TL_HEAD_MISS, .TL_HEAD_STATUS, .TL_REEL_ACTIVE, .TL_REEL_EVT, .TL_REEL_FAULTED]) fld = false) : ((State.armRequest s r).2).get fld = s.get fld :=
  Frame.get (State.armRequest_touches ..) hf

theorem State.reelDone_get (s : State) (t res : Nat) (fld : Key) (hf : (among [.TL_REEL_CMD, .TL_REEL_EVT]) fld = false) : ((State.reelDone s t res)).get fld = s.get fld :=
  Frame.get (State.reelDone_touches ..) hf

theorem State.resolveCut_get (s : State) (r : Nat) (fld : Key) : ((State.resolveCut s r)).get fld = s.get fld :=
  Frame.get (State.resolveCut_touches ..) rfl

theorem State.loopCutHere_get (s : State) (r b last q : Nat) (words : List WinCue) (fld : Key) : ((State.loopCutHere s r b last q words)).get fld = s.get fld :=
  Frame.get (State.loopCutHere_touches ..) rfl

theorem State.resolveBefore_get (s : State) (r b : Nat) (fld : Key) : ((State.resolveBefore s r b)).get fld = s.get fld :=
  Frame.get (State.resolveBefore_touches ..) rfl

theorem State.passEnd_get (s : State) (r p : Nat) (fld : Key) (hf : (among [.IC_ARC_EVT, .IC_ARC_LOST, .IC_LDG, .L_PROD_WORD, .L_STRM_LEAF, .L_STRM_NEXT, .L_STRM_RET, .MS_STRM_CNT, .MS_STRM_FILL, .MS_STRM_PLAY, .REEL]) fld = false) : ((State.passEnd s r p)).get fld = s.get fld :=
  Frame.get (State.passEnd_touches ..) hf

theorem State.stageVoice_get (s : State) (r kind v : Nat) (fld : Key) : ((State.stageVoice s r kind v)).get fld = s.get fld :=
  Frame.get (State.stageVoice_touches ..) rfl

theorem State.commitSet_get (s : State) (r : Nat) (fld : Key) (hf : (among [.TL_VSTG_EVT, .TL_VSTG_PEND]) fld = false) : ((State.commitSet s r)).get fld = s.get fld :=
  Frame.get (State.commitSet_touches ..) hf

theorem State.stgDone_get (s : State) (t res : Nat) (fld : Key) (hf : (among [.TL_VSTG_CMD]) fld = false) : ((State.stgDone s t res)).get fld = s.get fld :=
  Frame.get (State.stgDone_touches ..) hf

theorem State.setHValid_get (s : State) (g : Nat) (v : Bool) (fld : Key) (hf : (among [.COR_GRP_STATUS]) fld = false) : ((State.setHValid s g v)).get fld = s.get fld :=
  Frame.get (State.setHValid_touches ..) hf

theorem State.corBegin_get (s : State) (g : Nat) (fld : Key) (hf : (among [.COR_CNT, .COR_GRP_EVT, .COR_GRP_STATUS, .L_COR_BUSY, .L_COR_CTL, .L_COR_DUE, .L_COR_FRAMES, .L_COR_RAMP, .L_COR_ZERO]) fld = false) : ((State.corBegin s g)).get fld = s.get fld :=
  Frame.get (State.corBegin_touches ..) hf

theorem State.corPending_get (s : State) (g : Nat) (fld : Key) (hf : (among [.COR_CNT, .COR_GRP_EVT, .COR_GRP_STATUS, .IC_ARC_EVT, .IC_ARC_LOST, .IC_LDG, .L_COR_BUSY, .L_COR_CTL, .L_COR_DUE, .L_COR_FRAMES, .L_COR_RAMP, .L_COR_W0, .L_COR_ZERO, .REEL]) fld = false) : ((State.corPending s g)).get fld = s.get fld :=
  Frame.get (State.corPending_touches ..) hf

theorem State.dropUpdates_get (s : State) (g : Nat) (fld : Key) (hf : (among [.L_COR_BUSY, .TL_VSTG_PEND]) fld = false) : ((State.dropUpdates s g)).get fld = s.get fld :=
  Frame.get (State.dropUpdates_touches ..) hf

theorem State.corStopCmd_get (s : State) (g : Nat) (fld : Key) (hf : (among [.COR_GRP_EVT, .COR_GRP_STATUS, .L_COR_RAMP, .L_COR_W0]) fld = false) : ((State.corStopCmd s g)).get fld = s.get fld :=
  Frame.get (State.corStopCmd_touches ..) hf

theorem State.corAbortCmd_get (s : State) (g : Nat) (fld : Key) (hf : (among [.COR_GRP_EVT, .COR_GRP_STATUS, .IC_ARC_EVT, .IC_ARC_LOST, .IC_LDG, .L_COR_RAMP, .L_COR_W0, .L_COR_ZERO, .REEL]) fld = false) : ((State.corAbortCmd s g)).get fld = s.get fld :=
  Frame.get (State.corAbortCmd_touches ..) hf

theorem State.swapBanks_get (s : State) (g : Nat) (fld : Key) (hf : (among [.COR_GRP_EVT, .COR_GRP_STATUS, .L_COR_SWAP]) fld = false) : ((State.swapBanks s g)).get fld = s.get fld :=
  Frame.get (State.swapBanks_touches ..) hf

theorem State.corDiscard_get (s : State) (g : Nat) (fld : Key) (hf : (among [.COR_CNT, .COR_GRP_EVT]) fld = false) : ((State.corDiscard s g)).get fld = s.get fld :=
  Frame.get (State.corDiscard_touches ..) hf

theorem State.storeWrites_get (s : State) (g : Nat) (l : List (Nat × List (BitVec 8))) (fld : Key) : ((State.storeWrites s g l)).get fld = s.get fld :=
  Frame.get (State.storeWrites_touches ..) rfl

theorem State.corLevels_get (s : State) (g : Nat) (cur tag : Int) (fld : Key) (hf : (among [.COR_DRV_LVL, .COR_GRP_EVT, .COR_GRP_STATUS, .IC_ARC_EVT, .IC_ARC_LOST, .IC_LDG]) fld = false) : ((State.corLevels s g cur tag)).get fld = s.get fld :=
  Frame.get (State.corLevels_touches ..) hf

theorem State.corQual_get (s : State) (g : Nat) (errs : List (List Int)) (fld : Key) (hf : (among [.COR_QUAL]) fld = false) : ((State.corQual s g errs)).get fld = s.get fld :=
  Frame.get (State.corQual_touches ..) hf

theorem State.corChecks_get (s : State) (g : Nat) (errs : List (List Int)) (rms : List Int) (fld : Key) (hf : (among [.COR_GRP_EVT, .COR_GRP_STATUS, .COR_QUAL, .IC_ARC_EVT, .IC_ARC_LOST, .IC_LDG, .L_COR_RAMP, .L_COR_W0, .L_COR_ZERO, .REEL]) fld = false) : ((State.corChecks s g errs rms)).get fld = s.get fld :=
  Frame.get (State.corChecks_touches ..) hf

theorem State.corCount_get (s : State) (g : Nat) (fld : Key) (hf : (among [.COR_GRP_STATUS, .L_COR_CTL, .L_COR_FRAMES]) fld = false) : ((State.corCount s g)).get fld = s.get fld :=
  Frame.get (State.corCount_touches ..) hf

theorem State.corAccept_get (s : State) (g : Nat) (errs : List (List Int)) (rms : List Int) (cur tag : Int) (tag32 : Nat) (store : List (Nat × List (BitVec 8))) (fld : Key) (hf : (among [.COR_DRV_LVL, .COR_GRP_EVT, .COR_GRP_STATUS, .COR_QUAL, .IC_ARC_EVT, .IC_ARC_LOST, .IC_LDG, .L_COR_CTL, .L_COR_FRAMES, .L_COR_RAMP, .L_COR_W0, .L_COR_ZERO, .REEL]) fld = false) : ((State.corAccept s g errs rms cur tag tag32 store)).get fld = s.get fld :=
  Frame.get (State.corAccept_touches ..) hf

theorem State.corInputFlags_get (s : State) (g sat flagged : Nat) (fld : Key) (hf : (among [.COR_IN_STAT]) fld = false) : ((State.corInputFlags s g sat flagged)).get fld = s.get fld :=
  Frame.get (State.corInputFlags_touches ..) hf

theorem State.sineUpdate_get (s : State) (g : Nat) (upd : List (Nat × Nat × Int)) (fld : Key) (hf : (among [.COR_GRP_EVT, .COR_GRP_STATUS, .L_COR_BUSY, .L_COR_SWAP, .TL_VSTG_EVT, .TL_VSTG_PEND]) fld = false) : ((State.sineUpdate s g upd)).get fld = s.get fld :=
  Frame.get (State.sineUpdate_touches ..) hf

theorem State.agree_get (s : State) (p : Pulse) (st : Nat) (fld : Key) (hf : (among [.REEL, .TL_CUT_EVT, .TL_EVR_LOCAL_HI, .TL_EVR_LOCAL_LO, .TL_EVR_STAMP_HI, .TL_EVR_STAMP_LO, .TL_EVR_STATUS]) fld = false) : ((State.agree s p st)).get fld = s.get fld :=
  Frame.get (State.agree_touches ..) hf

theorem State.recWrite_get (s : State) (r j v : Nat) (raw : Bool) (fld : Key) (hf : (among [.REEL]) fld = false) : ((State.recWrite s r j v raw)).get fld = s.get fld :=
  Frame.get (State.recWrite_touches ..) hf

theorem State.spPut_get (s : State) (a : Nat) (v : BitVec 8) (fld : Key) (hf : (among [.REEL, .TL_REEL_EVT]) fld = false) : ((State.spPut s a v)).get fld = s.get fld :=
  Frame.get (State.spPut_touches ..) hf

theorem State.spWrite_get (s : State) (x : Nat) (l : List (BitVec 8)) (fld : Key) (hf : (among [.REEL, .TL_REEL_EVT, .TL_SP_EVT]) fld = false) : ((s.spWrite x l)).get fld = s.get fld :=
  Frame.get (State.spWrite_touches ..) hf

theorem State.spRead_get (s : State) (a n : Nat) (fld : Key) (hf : (among [.TL_SP_EVT]) fld = false) : ((State.spRead s a n).2).get fld = s.get fld :=
  Frame.get (State.spRead_touches ..) hf

theorem State.bankClear_get (s : State) (t b : Nat) (fld : Key) (hf : (among [.REEL]) fld = false) : ((State.bankClear s t b)).get fld = s.get fld :=
  Frame.get (State.bankClear_touches ..) hf

theorem State.dmaEnd_get (s : State) (q status count n : Nat) (irq : Bool) (fld : Key) (hf : (among [.DMA_Q_BYTES_HI, .DMA_Q_BYTES_LO, .L_DMA_ENDING]) fld = false) : ((State.dmaEnd s q status count n irq)).get fld = s.get fld :=
  Frame.get (State.dmaEnd_touches ..) hf

theorem State.dmaCards_get (s : State) (k : Nat) (data : List (BitVec 8)) (fuel n : Nat) (fld : Key) (hf : (among [.L_STRM_RET, .MS_STRM_CNT, .MS_STRM_FILL, .MS_STRM_PLAY]) fld = false) : ((s.dmaCards k data fuel n).2.2).get fld = s.get fld :=
  Frame.get (State.dmaCards_touches ..) hf

theorem State.dmaFault_get (s : State) (q : Nat) (fld : Key) (hf : (among [.DMA_EVT, .DMA_Q_EVT, .DMA_Q_STATUS, .IC_ARC_EVT, .IC_ARC_LOST, .IC_LDG, .L_DMA_RAISED]) fld = false) : ((State.dmaFault s q)).get fld = s.get fld :=
  Frame.get (State.dmaFault_touches ..) hf

theorem State.writeBack_get (s : State) (x : DmaDone) (fld : Key) (hf : (among [.DMA_EVT, .DMA_Q_EVT, .DMA_Q_HEAD, .DMA_Q_STATUS, .IC_ARC_EVT, .IC_ARC_LOST, .IC_LDG, .L_DMA_RAISED]) fld = false) : ((State.writeBack s x)).get fld = s.get fld :=
  Frame.get (State.writeBack_touches ..) hf

theorem State.targetReset_get (s : State) (t : Nat) (fld : Key) (hf : (among [.IC_TGT_STATUS, .SYS_MSIX_PBA]) fld = false) : ((State.targetReset s t)).get fld = s.get fld :=
  Frame.get (State.targetReset_touches ..) hf

theorem State.functionReset_get (s : State) (f : Nat) (priv : Bool) (fld : Key) (hf : (among [.IC_TGT_STATUS, .L_PF_FMASK, .L_PF_PME_EN, .SYS_MSIX, .SYS_MSIX_PBA, .SYS_PF_CFG]) fld = false) : ((State.functionReset s f priv)).get fld = s.get fld :=
  Frame.get (State.functionReset_touches ..) hf

theorem State.queueReset_get (s : State) (q : Nat) (fld : Key) (hf : (among [.DMA_Q_CTRL, .DMA_Q_STATUS, .L_DMA_ENDING]) fld = false) : ((State.queueReset s q)).get fld = s.get fld :=
  Frame.get (State.queueReset_touches ..) hf

theorem State.hostLinkDown_get (s : State) (link : Nat) (fld : Key) (hf : (among [.DMA_Q_CTRL, .DMA_Q_STATUS, .IC_ARC_EVT, .IC_ARC_LOST, .IC_LDG, .IC_TGT_STATUS, .L_DMA_ENDING, .L_PF_FMASK, .L_PF_PME_EN, .SYS_HIF_EVT, .SYS_HIF_STATUS, .SYS_MSIX, .SYS_MSIX_PBA, .SYS_PF_CFG]) fld = false) : ((State.hostLinkDown s link)).get fld = s.get fld :=
  Frame.get (State.hostLinkDown_touches ..) hf

theorem State.afterWrite_get (s old : State) (r : RName) (i j : Nat) (fld : Key) (hf : (among [.L_EQ_SRC_AT, .L_LK_TXS_N, .L_THR_ABOVE, .PP_EVT, .PP_PARK_SRC, .SYS_MSIX, .SYS_MSIX_PBA, .TIU_EVT, .TIU_RSTAT, .TIU_STATUS]) fld = false) : ((State.afterWrite s old r i j)).get fld = s.get fld :=
  Frame.get (State.afterWrite_touches ..) hf

theorem State.ledgerClear_get (s : State) (k : Nat) (fld : Key) (hf : (among [.IC_ARC_EVT, .IC_ARC_LOST, .IC_LDG]) fld = false) : ((State.ledgerClear s k)).get fld = s.get fld :=
  Frame.get (State.ledgerClear_touches ..) hf

theorem State.ringUpdate_get (s : State) (fld : Key) (hf : (among [.IC_ARC_EVT, .IC_ARC_FILL]) fld = false) : ((State.ringUpdate s)).get fld = s.get fld :=
  Frame.get (State.ringUpdate_touches ..) hf

theorem State.ringStore_get (s : State) (e : List Nat) (fld : Key) (hf : (among [.IC_ARC_WR]) fld = false) : ((State.ringStore s e)).get fld = s.get fld :=
  Frame.get (State.ringStore_touches ..) hf

theorem State.sendStreams_get (s : State) (l fuel room : Nat) (fld : Key) : ((s.sendStreams l fuel room)).get fld = s.get fld :=
  Frame.get (State.sendStreams_touches ..) rfl

theorem State.crcError_get (s : State) (l : Nat) (fld : Key) (hf : (among [.LK_CNT, .LK_EVT]) fld = false) : ((State.crcError s l)).get fld = s.get fld :=
  Frame.get (State.crcError_touches ..) hf

theorem State.follow_get (s : State) (l : Nat) (fld : Key) (hf : (among [.IC_ARC_EVT, .IC_ARC_LOST, .IC_LDG, .LK_STATUS, .LK_STUDIO_EVT, .LK_STUDIO_STATUS, .L_LK_FAULTED, .TB_FTRIM]) fld = false) : ((State.follow s l)).get fld = s.get fld :=
  Frame.get (State.follow_touches ..) hf

theorem State.alignStart_get (s : State) (fld : Key) (hf : (among [.LK_STUDIO_STATUS, .L_ST_FRESH, .L_ST_OUT]) fld = false) : ((State.alignStart s)).get fld = s.get fld :=
  Frame.get (State.alignStart_touches ..) hf

theorem State.alignFail_get (s : State) (fld : Key) (hf : (among [.LK_STUDIO_EVT, .LK_STUDIO_STATUS, .L_ST_OUT]) fld = false) : ((State.alignFail s)).get fld = s.get fld :=
  Frame.get (State.alignFail_touches ..) hf

theorem State.ringSample_get (s : State) (l j pos : Nat) (d : Int) (fld : Key) (hf : (among [.IC_ARC_EVT, .IC_ARC_LOST, .IC_LDG, .LK_EVT, .L_WDROP_LATCHED, .MS_ECC_CNT, .MS_EVT, .MS_WDROP_ADDR_HI, .MS_WDROP_ADDR_LO, .MS_WDROP_CNT, .MS_WDROP_SRC]) fld = false) : ((State.ringSample s l j pos d)).get fld = s.get fld :=
  Frame.get (State.ringSample_touches ..) hf

theorem State.segmentCommit_get (s : State) (l j : Nat) (fld : Key) (hf : (among [.MS_EVT, .MS_STRM_CNT, .MS_STRM_FILL]) fld = false) : ((State.segmentCommit s l j)).get fld = s.get fld :=
  Frame.get (State.segmentCommit_touches ..) hf

theorem State.linkTick_get (s : State) (l t : Nat) (fld : Key) (hf : (among [.LK_RXS_STAT, .L_LK_TXS_N]) fld = false) : ((State.linkTick s l t)).get fld = s.get fld :=
  Frame.get (State.linkTick_touches ..) hf

theorem State.secRefuse_get (s : State) (n : Nat) (fld : Key) (hf : (among [.SEC_EVT, .SEC_STATUS]) fld = false) : ((State.secRefuse s n)).get fld = s.get fld :=
  Frame.get (State.secRefuse_touches ..) hf

theorem State.secStart_get (s : State) (code res : Nat) (fld : Key) (hf : (among [.L_SEC_RES, .L_SEC_RUN, .SEC_STATUS]) fld = false) : ((State.secStart s code res)).get fld = s.get fld :=
  Frame.get (State.secStart_touches ..) hf

theorem State.stopAll_get (s : State) (fld : Key) (hf : (among [.REEL]) fld = false) : ((State.stopAll s)).get fld = s.get fld :=
  Frame.get (State.stopAll_touches ..) hf

theorem State.zeroize_get (s : State) (pf code key : Nat) (fld : Key) (hf : (among [.AON_PWR_EVT, .L_SEC_NEXT, .L_SEC_RES, .L_SEC_RUN, .REEL, .SEC_ATT, .SEC_CMD, .SEC_EVT, .SEC_STATUS, .SEC_XFER, .SYS_HIF_EVT]) fld = false) : ((State.zeroize s pf code key)).get fld = s.get fld :=
  Frame.get (State.zeroize_touches ..) hf

theorem State.advance_get (s : State) (pf code key i : Nat) (floor : Key) (v : Nat) (fld : Key) (hf : (among [.AON_PWR_EVT, .L_SEC_RES, .L_SEC_RUN, .SEC_CMD, .SEC_EVT, .SEC_STATUS, .SYS_HIF_EVT]) fld = false) : ((State.advance s pf code key i floor v)).get fld = s.get fld :=
  Frame.get (State.advance_touches ..) hf

theorem State.lifeCycle_get (s : State) (n : Nat) (fld : Key) (hf : (among [.L_LC_FUSED, .SEC_EVT, .SEC_STATUS]) fld = false) : ((State.lifeCycle s n)).get fld = s.get fld :=
  Frame.get (State.lifeCycle_touches ..) hf

theorem State.nonceDone_get (s : State) (fld : Key) (hf : (among [.SEC_DNONCE]) fld = false) : ((State.nonceDone s)).get fld = s.get fld :=
  Frame.get (State.nonceDone_touches ..) hf

theorem State.wipe_get (s : State) (fld : Key) (hf : (among [.REEL]) fld = false) : ((State.wipe s)).get fld = s.get fld :=
  Frame.get (State.wipe_touches ..) hf

theorem State.rmaDone_get (s : State) (fld : Key) (hf : (among [.L_LC_FUSED, .REEL, .SEC_DNONCE, .SEC_EVT, .SEC_OKEY_DIG, .SEC_STATUS]) fld = false) : ((State.rmaDone s)).get fld = s.get fld :=
  Frame.get (State.rmaDone_touches ..) hf

theorem State.zeroizeDone_get (s : State) (wipes : Bool) (fld : Key) (hf : (among [.REEL, .SEC_EVT, .SEC_OKEY_DIG, .SEC_STATUS]) fld = false) : ((State.zeroizeDone s wipes)).get fld = s.get fld :=
  Frame.get (State.zeroizeDone_touches ..) hf

theorem State.secEnd_get (s : State) (res : Nat) (fld : Key) (hf : (among [.L_SEC_NEXT, .L_SEC_RES, .L_SEC_RUN, .REEL, .SEC_EVT, .SEC_STATUS, .SEC_XFER]) fld = false) : ((State.secEnd s res)).get fld = s.get fld :=
  Frame.get (State.secEnd_touches ..) hf

theorem State.leaveExtest_get (s : State) (fld : Key) (hf : (among [.CH_EVT, .CH_PARK_SRC, .CH_STATUS, .PP_EVT, .PP_PARK_SRC]) fld = false) : ((State.leaveExtest s)).get fld = s.get fld :=
  Frame.get (State.leaveExtest_touches ..) hf

theorem State.tapSelect_get (s : State) (code : Nat) (fld : Key) (hf : (among [.CH_EVT, .CH_PARK_SRC, .CH_STATUS, .L_TAP_IR, .PP_EVT, .PP_PARK_SRC]) fld = false) : ((State.tapSelect s code)).get fld = s.get fld :=
  Frame.get (State.tapSelect_touches ..) hf

theorem State.extest_get (s : State) (code : Nat) (fld : Key) (hf : (among [.CH_EVT, .CH_PARK_SRC, .CH_STATUS, .COR_GRP_EVT, .COR_GRP_STATUS, .DMA_Q_CTRL, .DMA_Q_STATUS, .IC_ARC_EVT, .IC_ARC_LOST, .IC_LDG, .IC_TGT_STATUS, .L_COR_RAMP, .L_COR_W0, .L_COR_ZERO, .L_DMA_ENDING, .L_PF_FMASK, .L_PF_PME_EN, .L_TAP_IR, .PP_EVT, .PP_PARK_SRC, .REEL, .SYS_HIF_EVT, .SYS_HIF_STATUS, .SYS_MSIX, .SYS_MSIX_PBA, .SYS_PF_CFG]) fld = false) : ((State.extest s code)).get fld = s.get fld :=
  Frame.get (State.extest_touches ..) hf

theorem State.thermShow_get (s : State) (fld : Key) (hf : (among [.SYS_THERM]) fld = false) : ((State.thermShow s)).get fld = s.get fld :=
  Frame.get (State.thermShow_touches ..) hf

theorem State.sensorFault_get (s : State) (k : Nat) (fld : Key) (hf : (among [.IC_ARC_EVT, .IC_ARC_LOST, .IC_LDG, .L_HOT155, .L_HOT160, .L_STK_COLD_SINCE, .MS_STK_STATUS, .SYS_THERM, .SYS_TJ]) fld = false) : ((State.sensorFault s k)).get fld = s.get fld :=
  Frame.get (State.sensorFault_touches ..) hf

theorem State.refreshReading_get (s : State) (k : Nat) (tj : Int) (fld : Key) (hf : (among [.L_STK_COLD_SINCE, .MS_STK_STATUS]) fld = false) : ((State.refreshReading s k tj)).get fld = s.get fld :=
  Frame.get (State.refreshReading_touches ..) hf

theorem State.classAction_get (s : State) (k : Nat) (fld : Key) (hf : (among [.CH_EVT, .CH_PARK_SRC, .CH_STATUS, .PP_EVT, .PP_PARK_SRC, .REEL]) fld = false) : ((State.classAction s k)).get fld = s.get fld :=
  Frame.get (State.classAction_touches ..) hf

theorem State.classReading_get (s : State) (k : Nat) (tj : Int) (fld : Key) (hf : (among [.CH_EVT, .CH_PARK_SRC, .CH_STATUS, .IC_ARC_EVT, .IC_ARC_LOST, .IC_LDG, .L_STK_BOOK_COLD, .MS_EVT, .MS_STK_STATUS, .PP_EVT, .PP_PARK_SRC, .REEL]) fld = false) : ((State.classReading s k tj)).get fld = s.get fld :=
  Frame.get (State.classReading_touches ..) hf

theorem State.stackReading_get (s : State) (k : Nat) (tj : Int) (fld : Key) (hf : (among [.CH_EVT, .CH_PARK_SRC, .CH_STATUS, .IC_ARC_EVT, .IC_ARC_LOST, .IC_LDG, .L_STK_BOOK_COLD, .L_STK_COLD_SINCE, .MS_EVT, .MS_STK_STATUS, .PP_EVT, .PP_PARK_SRC, .REEL]) fld = false) : ((State.stackReading s k tj)).get fld = s.get fld :=
  Frame.get (State.stackReading_touches ..) hf

theorem State.trip_get (s : State) (k : Nat) (fld : Key) (hf : (among [.CH_EVT, .CH_PARK_SRC, .CH_STATUS, .COR_GRP_EVT, .COR_GRP_STATUS, .IC_ARC_EVT, .IC_ARC_LOST, .IC_LDG, .L_COR_RAMP, .L_COR_W0, .L_COR_ZERO, .L_TRIP, .L_TRIP_FOR, .PP_EVT, .PP_PARK_SRC, .REEL, .SYS_THERM]) fld = false) : ((State.trip s k)).get fld = s.get fld :=
  Frame.get (State.trip_touches ..) hf

theorem State.tripReading_get (s : State) (k : Nat) (tj : Int) (fld : Key) (hf : (among [.CH_EVT, .CH_PARK_SRC, .CH_STATUS, .COR_GRP_EVT, .COR_GRP_STATUS, .IC_ARC_EVT, .IC_ARC_LOST, .IC_LDG, .L_COR_RAMP, .L_COR_W0, .L_COR_ZERO, .L_HOT155, .L_HOT160, .L_TRIP, .L_TRIP_FOR, .PP_EVT, .PP_PARK_SRC, .REEL, .SYS_THERM]) fld = false) : ((State.tripReading s k tj)).get fld = s.get fld :=
  Frame.get (State.tripReading_touches ..) hf

theorem State.tripClock_get (s : State) (fld : Key) (hf : (among [.L_COOL_FOR, .L_TRIP_FOR]) fld = false) : ((State.tripClock s)).get fld = s.get fld :=
  Frame.get (State.tripClock_touches ..) hf

theorem State.outputs_get (s : State) (fld : Key) (hf : (among [.CH_EVT, .IC_ARC_EVT, .IC_ARC_LOST, .IC_LDG, .LK_RXS_STAT, .L_CH_D, .L_CH_SUM, .L_JTX_CODE, .L_LK_TXS_N, .L_PP_WORD, .L_WDROP_LATCHED, .MS_ECC_CNT, .MS_EVT, .MS_WDROP_ADDR_HI, .MS_WDROP_ADDR_LO, .MS_WDROP_CNT, .MS_WDROP_SRC, .PP_EVT]) fld = false) : ((State.outputs s)).get fld = s.get fld :=
  Frame.get (State.outputs_touches ..) hf

theorem State.evioFall_get (s : State) (n : Nat) (fld : Key) (hf : (among [.L_EVIO_OUT]) fld = false) : ((State.evioFall s n)).get fld = s.get fld :=
  Frame.get (State.evioFall_touches ..) hf

theorem State.trimStep_get (s : State) (fld : Key) (hf : (among [.TB_FTRIM]) fld = false) : ((State.trimStep s)).get fld = s.get fld :=
  Frame.get (State.trimStep_touches ..) hf

theorem State.wordStart_get (s : State) (fld : Key) (hf : (among [.CH_CAL_SKEW, .CH_STATUS, .COR_CNT, .COR_GRP_EVT, .COR_GRP_STATUS, .IC_ARC_EVT, .IC_ARC_LOST, .IC_LDG, .L_COR_BUSY, .L_COR_CTL, .L_COR_DUE, .L_COR_FRAMES, .L_COR_RAMP, .L_COR_W0, .L_COR_ZERO, .PP_FDLY, .PP_STATUS, .REEL, .TB_FTRIM, .TIU_CAL_STAT]) fld = false) : ((State.wordStart s)).get fld = s.get fld :=
  Frame.get (State.wordStart_touches ..) hf

end Sys2Proof.Machine
end

