-- ==== Sys2Proof/Laws/Memory.lean ====
section
/-!
SUPPORT. The two memories: a read after a write, bytes a write leaves alone, and the canonical form.
-/
namespace Sys2Proof.Machine

theorem Memory.wfAbove_mono {lo lo' : Nat} (h : lo' ≤ lo) : ∀ {m : List Host.Cell}, Memory.wfAbove lo m = true → Memory.wfAbove lo' m = true
  | [], _ => rfl
  | (a, b) :: l, e => by
    simp only [Memory.wfAbove, Bool.and_eq_true, decide_eq_true_eq] at e ⊢
    exact ⟨⟨le_trans h e.1.1, e.1.2⟩, e.2⟩

/-- A write keeps every listed address above a bound that lies at or below its own. -/
theorem Memory.write_wfAbove (x : Nat) (v : BitVec 8) : ∀ (m : List Host.Cell) (lo : Nat), lo ≤ x → Memory.wfAbove lo m = true →
    Memory.wfAbove lo (Memory.write m x v) = true
  | [], lo, hx, _ => by
    unfold Memory.write
    split
    · rfl
    · rename_i h
      simp only [Memory.wfAbove, Bool.and_true, Bool.and_eq_true, decide_eq_true_eq]
      exact ⟨hx, h⟩
  | (a, b) :: l, lo, hx, e => by
    have e' := e
    simp only [Memory.wfAbove, Bool.and_eq_true, decide_eq_true_eq] at e'
    obtain ⟨⟨ha, hb⟩, hl⟩ := e'
    unfold Memory.write
    split
    · rename_i hlt
      split
      · exact e
      · rename_i h
        simp only [Memory.wfAbove, Bool.and_eq_true, decide_eq_true_eq]
        exact ⟨⟨hx, h⟩, ⟨by omega, hb⟩, hl⟩
    · split
      · rename_i heq
        subst heq
        split
        · exact Memory.wfAbove_mono (by omega) hl
        · rename_i h
          simp only [Memory.wfAbove, Bool.and_eq_true, decide_eq_true_eq]
          exact ⟨⟨hx, h⟩, hl⟩
      · simp only [Memory.wfAbove, Bool.and_eq_true, decide_eq_true_eq]
        exact ⟨⟨ha, hb⟩, Memory.write_wfAbove x v l (a + 1) (by omega) hl⟩

/-- A write keeps the canonical form. -/
theorem Memory.write_wf {m : List Host.Cell} (x : Nat) (v : BitVec 8) (h : Memory.wf m = true) : Memory.wf (Memory.write m x v) = true :=
  Memory.write_wfAbove x v m 0 (Nat.zero_le x) h

/-- So does a write of several bytes. -/
theorem Memory.writes_wf {m : List Host.Cell} (x : Nat) (l : List (BitVec 8)) (h : Memory.wf m = true) : Memory.wf (Memory.writes m x l) = true := by
  induction l generalizing m x with
  | nil => exact h
  | cons v l ih => exact ih (x + 1) (Memory.write_wf x v h)

theorem Memory.read_of_wfAbove {lo x : Nat} (hx : x < lo) : ∀ {m : List Host.Cell}, Memory.wfAbove lo m = true → Memory.read m x = 0
  | [], _ => rfl
  | (a, b) :: l, e => by
    simp only [Memory.wfAbove, Bool.and_eq_true, decide_eq_true_eq] at e
    have hne : a ≠ x := by omega
    simp only [Memory.read, hne, if_false]
    exact Memory.read_of_wfAbove (by omega) e.2

/-- A read after a write of one byte: that byte at its address, every other address as before. -/
theorem Memory.read_write (x y : Nat) (v : BitVec 8) : ∀ (m : List Host.Cell) (lo : Nat), Memory.wfAbove lo m = true →
    Memory.read (Memory.write m x v) y = if y = x then v else Memory.read m y
  | [], _, _ => by
    unfold Memory.write
    split
    · rename_i h
      simp [Memory.read, h]
    · by_cases hy : y = x
      · simp [Memory.read, hy]
      · simp [Memory.read, hy, Ne.symm hy]
  | (a, b) :: l, lo, e => by
    simp only [Memory.wfAbove, Bool.and_eq_true, decide_eq_true_eq] at e
    have ih := Memory.read_write x y v l (a + 1) e.2
    unfold Memory.write
    split
    · rename_i hlt
      split
      · rename_i hv
        by_cases hy : y = x
        · subst hy
          have hne : a ≠ y := by omega
          simp only [Memory.read, hne, if_false, if_true, hv]
          by_cases hlt' : y < a + 1
          · exact Memory.read_of_wfAbove hlt' e.2
          · omega
        · simp [hy]
      · by_cases hy : y = x
        · simp [Memory.read, hy]
        · simp [Memory.read, hy, Ne.symm hy]
    · split
      · rename_i heq
        subst heq
        by_cases hy : y = x
        · subst hy
          split
          · rename_i hv
            simp only [if_true, hv]
            exact Memory.read_of_wfAbove (by omega) e.2
          · simp [Memory.read]
        · split
          · simp [Memory.read, Ne.symm hy]
          · simp [Memory.read, Ne.symm hy]
      · rename_i hne
        by_cases ha : a = y
        · subst ha
          simp [Memory.read, Ne.symm hne]
        · simp only [Memory.read, ha, if_false, ih]

/-- A read after a write of several bytes. -/
theorem Memory.read_writes (y : Nat) (l : List (BitVec 8)) : ∀ (m : List Host.Cell) (x : Nat), Memory.wf m = true →
    Memory.read (Memory.writes m x l) y = if x ≤ y ∧ y < x + l.length then l.getD (y - x) 0 else Memory.read m y := by
  induction l with
  | nil =>
    intro m x _
    have : ¬ (x ≤ y ∧ y < x + ([] : List (BitVec 8)).length) := by simp
    simp [Memory.writes]
  | cons v l ih =>
    intro m x h
    rw [Memory.writes, ih _ _ (Memory.write_wf x v h), Memory.read_write x y v m 0 h]
    rcases Nat.lt_trichotomy y x with hy | rfl | hy
    · rw [if_neg (by omega), if_neg (by omega), if_neg (by omega)]
    · rw [if_neg (by omega), if_pos rfl, if_pos (by simp)]
      simp
    · obtain ⟨d, rfl⟩ := Nat.exists_eq_add_of_lt hy
      by_cases hd : d < l.length
      · rw [if_pos (by omega), if_pos (by simp; omega)]
        have h1 : x + d + 1 - (x + 1) = d := by omega
        have h2 : x + d + 1 - x = d + 1 := by omega
        rw [h1, h2]
        simp
      · rw [if_neg (by omega), if_neg (by omega), if_neg (by simp; omega)]

theorem State.reset_memWf : State.reset.memWf := ⟨rfl, rfl⟩

/-- What leaves both memories alone keeps their form. -/
theorem Frame.memWf {s t : State} {ps : List Part} {p : Key → Bool} (h : Frame s t ps p) (h1 : Part.mem ∉ ps) (h2 : Part.sp ∉ ps) (w : s.memWf) : t.memWf := by
  have e1 : t.mem = s.mem := h.1 .mem h1
  have e2 : t.sp = s.sp := h.1 .sp h2
  exact ⟨e1 ▸ w.1, e2 ▸ w.2⟩

theorem State.segStore_memWf {s : State} (x : Nat) (l : List (BitVec 8)) (w : s.memWf) : (s.segStore x l).memWf := ⟨Memory.writes_wf x l w.1, w.2⟩

theorem State.spStore_memWf {s : State} (x : Nat) (l : List (BitVec 8)) (w : s.memWf) : (s.spStore x l).memWf := ⟨w.1, Memory.writes_wf x l w.2⟩

end Sys2Proof.Machine
end

