-- ==== Sys2Proof/Tests/Base.lean ====
section
/-!
SUPPORT. Small states for the tests.
-/
namespace Sys2Proof.Machine

/-- The state after reset with some fields written. -/
def Tests.st (l : List (Key × Nat)) : State := State.reset.sets l

/-- Card `k` of the catalogue written from its first dwords, with its CRC. -/
def Tests.withCard (s : State) (k : Nat) (d : List Nat) : State :=
  let b := ((List.range 15).map (fun i => d.getD i 0)).flatMap (leBytes 4)
  s.segStore (64 * k) (b ++ leBytes 4 (crc32 b))

end Sys2Proof.Machine
end

