-- ==== Sys2Proof/WellFormed.lean ====
section
/-!
DEFINITION. Which commands a sender can give: register values of 32 bits, addresses inside their window (R26, R80, R115), cue words
of 128 bits (R140), descriptors of 8 dwords (R439), and fields of the widths that their registers have.
-/
namespace Sys2Proof

/-- A value of 32 bits. -/
def isDword (v : Nat) : Bool := decide (v < 2 ^ 32)

/-- A value of `n` bits. -/
def hasBits (n v : Nat) : Bool := decide (v < 2 ^ n)

/-- A signed value of `n` bits. -/
def hasSigned (n : Nat) (v : Int) : Bool := decide (-(2 ^ (n - 1) : Nat) ≤ v) && decide (v < (2 ^ (n - 1) : Nat))

/-- A BAR0 dword address (R26). -/
def isRegAddr (a : Nat) : Bool := decide (a < 2 ^ 24) && a % 4 == 0

/-- Numbers of bursts of segment memory (R79, R83). -/
def areBursts (l : List Nat) : Bool := l.all (fun b => decide (b < 2 ^ 31))

/-- The 8 dwords of a descriptor (R439). -/
def isDesc (d : List Nat) : Bool := d.length == 8 && d.all isDword

/-- The command is one that a sender can give. -/
def Instr.wf (i : Instr) : Bool :=
  match i with
  | .registerWrite _ addr _ v => isRegAddr addr && isDword v
  | .stickyReadClear _ addr => hasBits 24 addr
  | .wsWriteEffect => true
  | .tickSkew _ => true
  | .ccFault _ => true
  | .refCfgWrite _ v => isDword v
  | .refLost _ => true
  | .refBack => true
  | .pllEnable _ => true
  | .pllDisable _ => true
  | .lockDetect _ => true
  | .pllUnlock => true
  | .reacquireStart => true
  | .reacqTimeout => true
  | .reanchorStop => true
  | .anchorRelease _ _ => true
  | .reanchorParkRelease => true
  | .anchorMeasDone _ => true
  | .tbStopDone => true
  | .tbAnchor _ => true
  | .tbRelock _ => true
  | .loadArm _ _ => true
  | .loadDisarm _ => true
  | .todCommit _ => true
  | .epochCfgWrite _ _ _ v => isDword v
  | .epochPulse _ => true
  | .epochInEdge => true
  | .sysrefCfgWrite _ _ _ v => isDword v
  | .sysrefPulse _ => true
  | .bar2Write _ addr data uncorr => hasBits 36 addr && decide (data.length ≤ 4096) && areBursts uncorr
  | .bar2Read _ addr _ uncorr => hasBits 36 addr && areBursts uncorr
  | .cardWrite _ => true
  | .cardRead _ => true
  | .cardCmdComplete => true
  | .cardCacheFill _ _ => true
  | .cueWindowEnter _ _ _ => true
  | .loanInForce _ => true
  | .wdropClr => true
  | .streamBind _ v => isDword v
  | .streamReset _ => true
  | .hostCommitWrite _ _ seq => isDword seq
  | .streamCommit _ => true
  | .playPointerAdvance _ => true
  | .refreshStepDown _ => true
  | .bookingThermalClear _ => true
  | .marchStart _ v => isDword v
  | .marchDone _ _ addr => isDword addr
  | .scratchpadWrite _ addr data _ => hasBits 25 addr && decide (data.length ≤ 4096)
  | .reelRecordWrite _ _ v => isDword v
  | .reelArm _ _ => true
  | .reelDisarm _ _ => true
  | .reelStopAt _ _ => true
  | .reelClear _ _ => true
  | .reelStart _ => true
  | .cueBoundary _ => true
  | .cueNop _ w => hasBits 128 w
  | .cuePlay _ w => hasBits 128 w
  | .cuePlayn _ w => hasBits 128 w
  | .cueLoop _ w => hasBits 128 w
  | .cueNext _ w => hasBits 128 w
  | .cueCall _ w => hasBits 128 w
  | .cueRet _ w => hasBits 128 w
  | .cueWaitEv _ w => hasBits 128 w
  | .cueWaitTick _ w => hasBits 128 w
  | .cueSync _ w => hasBits 128 w
  | .cueCutif _ w => hasBits 128 w
  | .cueSetF _ w => hasBits 128 w
  | .cueSetP _ w => hasBits 128 w
  | .cueSetG _ w => hasBits 128 w
  | .cueSetRng _ w => hasBits 128 w
  | .cueSlate _ w => hasBits 128 w
  | .cueMark _ w => hasBits 128 w
  | .cueFire _ w => hasBits 128 w
  | .cueEventPulse _ => true
  | .cueCalGap _ w => hasBits 128 w
  | .cueStop _ w => hasBits 128 w
  | .cueEnd _ w => hasBits 128 w
  | .waitEnd _ => true
  | .waitTimeout _ => true
  | .stopTakeEffect _ => true
  | .reelStopDone _ => true
  | .reelFault _ _ => true
  | .eventStamp _ _ => true
  | .stampAgreed _ => true
  | .cutCommit _ => true
  | .cutTake _ _ => true
  | .headFill _ _ => true
  | .lateLeaf _ _ => true
  | .lateResume _ => true
  | .recoveryCut _ => true
  | .voiceStage _ _ => true
  | .voiceCommit _ _ => true
  | .voiceUpdateApply _ => true
  | .sweepPieceStart _ => true
  | .chEnable _ => true
  | .chDisable _ => true
  | .chStageReady _ => true
  | .chRampDownDone _ => true
  | .chParkWrite _ _ => true
  | .chRelease _ => true
  | .unpark _ => true
  | .rngReq _ => true
  | .eqSwap _ => true
  | .chEqCoefWrite _ _ _ v => isDword v
  | .channelBoundary _ => true
  | .rangeGapStart _ => true
  | .rangeGapEnd _ => true
  | .parkNFall => true
  | .parkNRelease _ => true
  | .outShort _ _ => true
  | .stageHot _ _ => true
  | .feedFault _ _ => true
  | .converterSupplyLoss _ _ => true
  | .portEnable _ => true
  | .portDisable _ => true
  | .portStopDone _ => true
  | .portStartDone _ => true
  | .portUnpark _ => true
  | .dlyCal _ => true
  | .dlyCalDone _ _ => true
  | .capStart _ => true
  | .capAbort _ => true
  | .captureTrigger _ _ => true
  | .captureEnd _ => true
  | .captureOverflow _ => true
  | .rxSlip _ _ => true
  | .txbufFault _ _ => true
  | .jesdEnable _ rbd => hasBits 16 rbd
  | .jesdDisable _ => true
  | .jesdTxFramingStart _ => true
  | .jesdTxStopDone _ => true
  | .jesdRxBlockLock _ => true
  | .jesdRxMblkFound _ => true
  | .jesdRxRelease _ _ => true
  | .jloss _ _ => true
  | .jcrc _ => true
  | .corStart _ _ => true
  | .corClose _ _ => true
  | .corHold _ _ => true
  | .corResume _ _ => true
  | .corStop _ _ => true
  | .corAbort _ _ => true
  | .corClear _ _ => true
  | .corRefSwap _ _ => true
  | .corLevelWrite _ v => isDword v
  | .corFrameClose _ _ _ _ _ _ _ _ _ _ _ => true
  | .corBlockEnd _ _ _ _ _ _ _ _ _ _ _ _ => true
  | .corUpdate _ _ _ => true
  | .rampStart _ => true
  | .rampEnd _ => true
  | .tiuEnable _ => true
  | .tiuDisable _ => true
  | .tiuDllLock _ => true
  | .tiuStopDone _ => true
  | .tiuArm _ => true
  | .tiuAbort _ => true
  | .tiuT0 _ => true
  | .tiuEdge _ _ _ => true
  | .tiuDone _ => true
  | .tiuCalRun _ _ => true
  | .tiuCalComplete _ a b _ => a.length == 256 && b.length == 256
  | .tiuReservedWrite _ _ => true
  | .channelPulse _ => true
  | .channelLockoutEnd _ => true
  | .loopWindowEnd _ => true
  | .matrixWrite _ _ _ v => isDword v
  | .groupEnableWrite v => isDword v
  | .hostFire _ v => isDword v
  | .taskCfgWrite _ v => isDword v
  | .taskTrigger _ => true
  | .taskFire v => isDword v
  | .taskDeferDeliver _ => true
  | .taskCntClr => true
  | .armGroup _ _ => true
  | .stopGroup _ _ => true
  | .captureTask _ => true
  | .sysrefBurst _ => true
  | .groupEnableTask _ => true
  | .groupDisableTask _ => true
  | .tiuArmTask _ => true
  | .corAbortTask _ => true
  | .corStopTask _ => true
  | .archiveLogTask _ => true
  | .remoteEventSend _ _ => true
  | .doorbell _ _ => true
  | .ccProducerPulse _ => true
  | .timerCfgWrite _ cfg => isDword cfg
  | .timerFire _ => true
  | .thresholdCross _ _ => true
  | .evioInputEdge _ _ => true
  | .evioAlignPulse _ => true
  | .irqPresent _ => true
  | .irqClaim _ _ => true
  | .irqEoi _ v => isDword v
  | .irqRouteWrite _ v => isDword v
  | .msixUnmask _ _ => true
  | .icSwSet v => isDword v
  | .wakeWatcherAssert _ => true
  | .ledgerClear v => isDword v
  | .ledgerPersistReraise _ => true
  | .archiveWriteEntry => true
  | .archiveRdWrite v => isDword v
  | .archiveTempPeriodic => true
  | .linkEnable _ => true
  | .linkDisable _ => true
  | .linkStopDone _ => true
  | .linkTrained _ => true
  | .linkTrainTimeout _ => true
  | .linkMeasureDone _ _ _ => true
  | .linkSyncLoss _ _ => true
  | .linkRetrainLock _ => true
  | .linkRetrainTimeout _ => true
  | .linkDownTimeout _ => true
  | .linkFrameTx _ => true
  | .headerRx _ _ _ => true
  | .msgTime _ _ _ _ => true
  | .msgEvent _ _ => true
  | .msgStream _ _ _ _ => true
  | .msgMgmt _ _ _ => true
  | .linkAlign => true
  | .alignParentReady => true
  | .alignAnchorArm => true
  | .alignVerify => true
  | .autoAlignStart => true
  | .rcalCheck _ => true
  | .calMeasComplete _ _ _ _ _ => true
  | .calMeasTimeout _ => true
  | .calLoadExtrap _ _ => true
  | .calAccept _ _ => true
  | .calRemeasure _ _ => true
  | .calHold _ _ => true
  | .calRun _ => true
  | .calAbort _ => true
  | .calHostRunDone _ _ _ _ _ _ _ => true
  | .ovrLoad _ => true
  | .ovrLoadDone _ => true
  | .imageLoad _ => true
  | .imageLoadDone _ => true
  | .reissue _ => true
  | .tileEnable _ _ => true
  | .tileDisable _ _ => true
  | .tileStartDone _ => true
  | .tileStopDone _ => true
  | .tileLoadDone _ _ => true
  | .bootAttemptStart _ => true
  | .bootStageDone us _ _ _ => isDword us
  | .bootGo _ => true
  | .hostTimeout us => isDword us
  | .bootStageFail _ us => isDword us
  | .bootRetryDelay => true
  | .bootReady us => isDword us
  | .bootRetry _ => true
  | .loaderWrite _ _ _ => true
  | .loaderVerify _ _ _ => true
  | .loaderRead _ _ _ => true
  | .loaderDone => true
  | .sysReset _ _ => true
  | .aonPowerOn => true
  | .standby _ => true
  | .pwrResume _ => true
  | .sleep _ => true
  | .wake _ => true
  | .powerTransitionDone => true
  | .runIdleChange => true
  | .mainRailPgLoss _ _ => true
  | .supplyUv _ _ => true
  | .attest _ _ => true
  | .selftest _ _ => true
  | .provision _ _ => true
  | .secField _ _ => true
  | .rmaNonce _ _ => true
  | .rmaApply _ _ => true
  | .retire _ _ => true
  | .zeroize _ _ => true
  | .zeroizeData _ _ => true
  | .advFw _ _ => true
  | .advImg _ _ => true
  | .advOvr _ _ => true
  | .secCmdInvalid _ _ _ => true
  | .secErrorEnter _ us => isDword us
  | .fuseInit uid digest => hasBits 128 uid && hasBits 512 digest
  | .extest => true
  | .extestPulse => true
  | .extestTrain => true
  | .extestDeselect => true
  | .idcode => true
  | .samplePreload sample load => hasBits 356 sample && hasBits 356 load
  | .bypass _ => true
  | .hostLinkReset link => isDword link
  | .hostLinkUp _ _ _ => true
  | .flr _ => true
  | .pfD3hot _ => true
  | .bmeClear _ => true
  | .dmaQueueEnable _ _ => true
  | .dmaQueueDisable _ _ => true
  | .dmaStopDone _ => true
  | .dmaTailWrite _ _ v => isDword v
  | .writeSeg _ d moved _ uncorr _ => isDesc d && hasBits 26 moved && areBursts uncorr
  | .readSeg _ d moved uncorr _ => isDesc d && hasBits 26 moved && areBursts uncorr
  | .writeSp _ d moved _ _ => isDesc d && hasBits 26 moved
  | .readSp _ d moved _ => isDesc d && hasBits 26 moved
  | .dmaCard _ d moved _ _ => isDesc d && hasBits 26 moved
  | .descWriteback _ d _ => isDesc d
  | .sensorReading _ tj => hasSigned 16 tj
  | .thermalForcedStandby => true
  | .thermalTripClear => true
  | .wearSecond => true
  | .wearCommit => true
  | .converterSupplyGood _ => true
  | .portRelease _ => true
  | .tiuDllLockLoss _ => true
  | .jesdRxOffReached _ => true
  | .secCmdDone => true
  | .pfD0Entry _ => true
  | .bmeSet _ => true
  | .msixFunctionMask _ _ _ => true
  | .crossbarFault _ => true
  | .fftSliceFault _ => true
  | .stackTrainingLoss _ _ => true

end Sys2Proof
end

