-- ==== Sys2Proof/Tests/Slice0.lean ====
section
/-!
SUPPORT. Tests: terms that WellFormed refuses, small checks with results worked out by hand from the manual's rules, and for each
statement a state that meets its hypotheses.
-/
set_option maxRecDepth 8000
namespace Sys2Proof.Machine

/-! ### WellFormed refuses ill-formed terms -/

theorem test_wf_address_alignment : (Instr.registerWrite 0 2 15 0).wf = false := by decide
theorem test_wf_address_range : (Instr.registerWrite 0 0x1000000 15 0).wf = false := by decide
theorem test_wf_dword : (Instr.registerWrite 0 4 15 0x100000000).wf = false := by decide
theorem test_wf_register_write : (Instr.registerWrite 0 0xFFFFFC 15 0xFFFFFFFF).wf = true := by decide
theorem test_wf_cue_bits : (Instr.cuePlay 0 (2 ^ 128)).wf = false := by decide
theorem test_wf_window_bits : (Instr.bar2Read 0 (2 ^ 36) 4 []).wf = false := by decide
theorem test_wf_bursts : (Instr.bar2Read 0 0 4 [2 ^ 31]).wf = false := by decide
theorem test_wf_desc_length : (Instr.descWriteback 0 [0, 0] false).wf = false := by decide
theorem test_wf_desc_dword : (Instr.descWriteback 0 [0, 0, 0, 0, 0, 0, 0, 2 ^ 32] false).wf = false := by decide
theorem test_wf_signed : (Instr.sensorReading 0 32768).wf = false := by decide
theorem test_wf_signed_low : (Instr.sensorReading 0 (-32768)).wf = true := by decide
theorem test_wf_store_length (l : List (BitVec 8)) (h : 4096 < l.length) : (Instr.scratchpadWrite 0 0 l 0).wf = false := by
  simp [Instr.wf, h]
theorem test_wf_table_length : (Instr.tiuCalComplete 0 [] [] 0).wf = false := by decide

/-! ### Hand calculations -/

/-- The check value of CRC-32 over the digits 1 to 9. -/
theorem test_crc32 : crc32 [0x31, 0x32, 0x33, 0x34, 0x35, 0x36, 0x37, 0x38, 0x39] = 0xCBF43926 := by decide

/-- A tick on the grid of its class stays; the next one goes up to the following grid tick (R126). -/
theorem test_grid : gridUp 16 4 = 16 ∧ gridUp 17 4 = 32 := by decide

/-- A sine starts at 0 and is odd about half a period (R199). -/
theorem test_sine : sine 0 = 0 ∧ sine (2 ^ 19) = 0 ∧ sine (2 ^ 18) = - sine (3 * 2 ^ 18) := by decide

/-- A field keeps the bits of its width (R20). -/
theorem test_field_width : (Tests.st [(Fld.REEL_AMP_CUR 3, 2 ^ 17 + 5)]).get (Fld.REEL_AMP_CUR 3) = 5 := by decide

/-- A byte written reads back, and 0 leaves no entry. -/
theorem test_memory : Memory.read (Memory.writes [] 7 [1, 0, 3]) 9 = 3 ∧ Memory.writes [] 7 [1, 0, 3] = [(7, 1), (9, 3)] := by decide

/-- Sequence numbers count on from 2^32 - 1 to 0 (R100). -/
theorem test_seq : seqDiff (2 ^ 32 - 1) 1 = 2 := by decide

/-! ### States that meet the hypotheses of each statement -/

theorem Tests.wit_QueueFirstInFirstOut :
  (({ State.reset with pending := [.linkAlign, .pllUnlock] } : State).pending = [.linkAlign, .pllUnlock] ∧ State.reset.pending = []) := by
  decide

theorem Tests.wit_StepKeepsMemoryAndCount :
  (State.reset.memWf ∧ State.reset.tickWf ∧ State.reset.counting = false ∧ ({ Tests.st [(Fld.TB_STATUS_STATE, 3)] with mem := [⟨5, 1⟩], tick := 2 ^ 64 - 1 } : State).memWf) := by
  decide

theorem Tests.wit_StreamReset :
  (let s := Tests.withCard (Tests.st [(Fld.MS_STRM_CARD_BOUND 1023, 1), (Fld.MS_STRM_CARD_CARD 1023, 3)]) 3 [0x80000000, 64, 0, 0x8000]; State.reset.hostOpen = true ∧ State.reset.slotFree 1023 = true ∧ ({ s with loans := [⟨5, 3, 0, true⟩] } : State).slotFree 1023 = false) := by
  decide

theorem Tests.wit_ArmingAnchorRelockAndLoad :
  (let s := Tests.st [(Fld.TB_STATUS_STATE, 3), (Fld.TB_ANCHOR_AT_LO, 8)]; s.hostOpen ∧ s.privileged 0 = true ∧ s.get Fld.TB_STATUS_STATE = 3 ∧ s.get2 Fld.TB_ANCHOR_AT_LO Fld.TB_ANCHOR_AT_HI % 8 = 0 ∧ s.tick ≤ s.get2 Fld.TB_ANCHOR_AT_LO Fld.TB_ANCHOR_AT_HI ∧ s.get Fld.TB_STATUS_STATE ≠ 4) := by
  decide

theorem Tests.wit_PllCommands :
  (let plan := [(Fld.PLL_CFG_N, 256), (Fld.REF_CFG_NOM_KHZ, 100000), (Fld.REF_CFG_K_SLK, 4), (Fld.REF_STATUS_PRESENT, 1)]; let s := Tests.st plan;
    s.hostOpen = true ∧ s.privileged 0 = true ∧ s.is Fld.SYS_THERM_FORCED = false ∧ s.get Fld.TB_STATUS_STATE = 0 ∧ s.get Fld.AON_PWR_STATUS_STATE ≠ 2 ∧ s.pllError = 0 ∧
    s.is Fld.REF_STATUS_PRESENT = true ∧ (Tests.st [(Fld.PLL_CFG_N, 47)]).pllError ≠ 0 ∧
    (let r := Tests.st [(Fld.REEL_STATE 1023, 1)]; r.hostOpen = true ∧ r.privileged 0 = true ∧ r.allIdle = false) ∧
    (let r := Tests.st [(Fld.TB_STATUS_STATE, 3)]; r.hostOpen = true ∧ r.privileged 0 = true ∧ r.allIdle = true ∧ r.get Fld.TB_STATUS_STATE = 3 ∧ r.get Fld.AON_PWR_STATUS_STATE ≠ 1) ∧
    (let r := Tests.st [(Fld.TB_STATUS_STATE, 7)]; r.hostOpen = true ∧ r.privileged 0 = true ∧ r.is Fld.SYS_THERM_FORCED = false ∧ r.allIdle = true ∧ r.get Fld.TB_STATUS_STATE = 7)) := by
  decide

theorem Tests.wit_ReferenceLossAndReturn :
  (let s := Tests.st [(Fld.REF_STATUS_PRESENT, 1), (Fld.TB_STATUS_STATE, 3), (Fld.TB_STATUS_LOCKED, 1), (Fld.TB_STATUS_ANCHOR_ARMED, 1), (Fld.TB_REFLOSS_ACT_ACT, 0)];
    s.is Fld.REF_STATUS_PRESENT = true ∧ s.get Fld.TB_STATUS_STATE = 3 ∧ s.is Fld.TB_STATUS_LOCKED = true ∧ s.is Fld.TB_STATUS_ANCHOR_ARMED = true ∧ s.get Fld.TB_REFLOSS_ACT_ACT = 0) ∧
  (let s := Tests.st [(Fld.REF_STATUS_PRESENT, 1), (Fld.TB_STATUS_STATE, 6), (Lat.TB_HELD, 1)]; s.is Fld.REF_STATUS_PRESENT = true ∧ s.get Fld.TB_STATUS_STATE = 6 ∧ s.is Lat.TB_HELD = true) ∧
  (let s := Tests.st [(Fld.PLL_CTRL_EN, 1), (Lat.TB_WANT, 1), (Fld.PLL_CFG_N, 256), (Fld.REF_CFG_NOM_KHZ, 100000), (Fld.REF_CFG_K_SLK, 4)];
    s.is Fld.REF_STATUS_PRESENT = false ∧ s.get Fld.TB_STATUS_STATE = 0 ∧ s.is Fld.PLL_CTRL_EN = true ∧ s.is Lat.TB_WANT = true ∧ s.pllError = 0) ∧
  (let s := Tests.st [(Fld.TB_STATUS_STATE, 4)]; s.is Fld.REF_STATUS_PRESENT = false ∧ s.get Fld.TB_STATUS_STATE = 4) := by
  decide

theorem Tests.wit_Acquisition :
  ((Tests.st [(Fld.TB_STATUS_STATE, 1)]).get Fld.TB_STATUS_STATE = 1 ∧ (Tests.st [(Fld.TB_STATUS_STATE, 1)]).is Fld.TB_STATUS_LOAD_ARMED = false ∧
    (Tests.st [(Fld.TB_STATUS_STATE, 5)]).get Fld.TB_STATUS_STATE = 5 ∧ State.reset.get Fld.TB_STATUS_STATE = 0 ∧ (Tests.st [(Fld.TB_STATUS_STATE, 3)]).get Fld.TB_STATUS_STATE = 3 ∧
    (let s := Tests.st [(Fld.TB_STATUS_STATE, 1), (Fld.TB_STATUS_LOAD_ARMED, 1), (Fld.TB_LOAD_LO, 9)]; s.get Fld.TB_STATUS_STATE = 1 ∧ s.is Fld.TB_STATUS_LOAD_ARMED = true ∧ s.loadOk = false) ∧
    (let s := Tests.st [(Fld.TB_STATUS_STATE, 4), (Fld.REF_STATUS_PRESENT, 1)]; s.get Fld.TB_STATUS_STATE = 4 ∧ s.is Fld.REF_STATUS_PRESENT = true ∧ s.tick % 8 = 0 ∧ s.is Fld.TB_RELOCK_AUTO_EN = true) ∧
    (let s := Tests.st [(Fld.TB_STATUS_STATE, 4), (Fld.REF_STATUS_PRESENT, 1), (Fld.TB_RELOCK_AUTO_EN, 0)]; s.is Fld.TB_RELOCK_AUTO_EN = false ∧ s.is Fld.TB_STATUS_ANCHOR_ARMED = false) ∧
    (let s := Tests.st [(Fld.TB_STATUS_STATE, 7)]; s.get Fld.TB_STATUS_STATE = 7 ∧ s.tick % 8 = 0 ∧ s.is Fld.PLL_STATUS_RESTART_PENDING = false) ∧
    (let s := Tests.st [(Fld.TB_STATUS_STATE, 7), (Fld.PLL_STATUS_RESTART_PENDING, 1), (Fld.REF_STATUS_PRESENT, 1)]; s.get Fld.TB_STATUS_STATE = 7 ∧ s.tick % 8 = 0 ∧
      s.is Fld.PLL_STATUS_RESTART_PENDING = true ∧ s.pllError = 0 ∧ s.is Fld.REF_STATUS_PRESENT = true)) := by
  decide

theorem Tests.wit_StopAndRelease :
  ((let s := Tests.st [(Fld.TB_STATUS_STATE, 3), (Fld.TB_STATUS_ANCHOR_ARMED, 1)]; s.get Fld.TB_STATUS_STATE = 3 ∧ s.is Fld.TB_STATUS_ANCHOR_ARMED = true ∧ s.get Lat.TB_ANCHOR_TICK ≤ s.tick ∧ s.tick % 8 = 0) ∧
    (let s := { State.reset with tick := 3 }; s.tick % 8 ≠ 0) ∧
    (let s := Tests.st [(Fld.TB_STATUS_STATE, 6), (Lat.TB_HELD, 1)]; s.get Fld.TB_EPIN_CFG_MODE ≠ 2 ∧ s.is Lat.TB_LOAD_OK = false ∧ s.is Lat.TB_CLEAR_HELD = false ∧ s.get Fld.LK_STUDIO_STATUS_STATE ≠ 4 ∧
      s.get Fld.TB_STATUS_STATE = 6 ∧ s.is Lat.TB_HELD = true) ∧
    (let s := Tests.st [(Fld.TB_STATUS_STATE, 2)]; s.get Fld.TB_EPIN_CFG_MODE ≠ 2 ∧ s.is Lat.TB_LOAD_OK = false ∧ s.is Lat.TB_CLEAR_HELD = false ∧ s.get Fld.LK_STUDIO_STATUS_STATE ≠ 4 ∧ s.get Fld.TB_STATUS_STATE = 2) ∧
    (let s := Tests.st [(Fld.TB_EPIN_CFG_MODE, 2)]; s.get Fld.TB_EPIN_CFG_MODE = 2 ∧ s.is Lat.TB_EPIN_SEEN = false) ∧
    (let s := { Tests.st [(Lat.TB_UNPARK_DUE, 1), (Fld.TB_STATUS_STATE, 3)] with tick := 64 }; s.is Lat.TB_UNPARK_DUE = true ∧ 64 ≤ tickAfter (s.get Lat.TB_REL_TICK) s.tick ∧ s.locked = true) ∧
    (State.reset.is Lat.TB_UNPARK_DUE = false) ∧
    (let s := { Tests.st [(Lat.TB_MEAS_DUE, 1), (Fld.TB_CTRL_AUTO_TRIM, 1)] with tick := 1024 }; s.is Lat.TB_MEAS_DUE = true ∧ 1024 ≤ tickAfter (s.get Lat.TB_REL_TICK) s.tick ∧
      s.is Lat.TB_ENTRY_DUE = false ∧ s.is Fld.TB_CTRL_AUTO_TRIM = true)) := by
  decide

theorem Tests.wit_EpochAndSysrefOutputs :
  ((let v := 0x80000000 + 5 * 2 ^ 23; let s := State.reset; s.hostOpen = true ∧ s.privileged 0 = true ∧ s.is (Lat.EPOCH_RUN 0) = false ∧ v < 2 ^ 32 ∧ v.testBit 31 = true ∧ bitsOf v 29 2 = 0 ∧
      3 ≤ bitsOf v 23 6 ∧ bitsOf v 23 6 ≤ 48 ∧ s.get (Fld.TB_EPOCH_OFS 0) < 2 ^ bitsOf v 23 6) ∧
    (let v := 0x80000000; v.testBit 31 = true ∧ bitsOf v 29 2 = 0 ∧ bitsOf v 23 6 < 3 ∧ (0 : Nat).testBit 31 = false) ∧
    (let s := Tests.st [(Lat.EPOCH_RUN 1, 1), (Fld.TB_EPOCH_CFG_K 1, 3)]; s.is (Lat.EPOCH_OLD 1) = false ∧ s.is (Lat.EPOCH_RUN 1) = true ∧ s.get (Lat.EPOCH_NEXT 1) ≤ s.tick ∧ s.countHeld = false ∧ s.epochPeriod 1 = some 8) ∧
    (let s := Tests.st [(Fld.TB_SYSREF_CFG_EN 7, 1)]; s.hostOpen = true ∧ s.privileged 0 = true ∧ s.is (Fld.TB_SYSREF_CFG_EN 7) = true ∧ s.is (Fld.TB_SYSREF_CFG_EN 6) = false) ∧
    (let s := Tests.st [(Lat.SYSREF_RUN 7, 1), (Fld.TB_SYSREF_CFG_WIDTH 7, 4), (Fld.TB_SYSREF_CFG_MODE 7, 1), (Lat.SYSREF_LEFT 7, 2)]; s.is (Lat.SYSREF_RUN 7) = true ∧ s.get (Lat.SYSREF_NEXT 7) ≤ s.tick ∧
      s.countHeld = false ∧ s.get (Fld.TB_SYSREF_CFG_WIDTH 7) ≠ 0 ∧ s.is (Fld.TB_SYSREF_CFG_MODE 7) = true ∧ s.get (Lat.SYSREF_LEFT 7) ≠ 0) ∧
    (let s := Tests.st [(Lat.SYSREF_RUN 7, 1), (Fld.TB_SYSREF_CFG_WIDTH 7, 4)]; s.is (Lat.SYSREF_RUN 7) = true ∧ s.is (Fld.TB_SYSREF_CFG_MODE 7) = false ∧ s.get (Lat.SYSREF_LEFT 7) = 0) ∧
    (let g : Trigger := ⟨160, 0, 0, none, false, false, 1⟩; let s := { Tests.st [(Lat.SYSREF_RUN 0, 1), (Fld.TB_SYSREF_CFG_MODE 0, 1)] with triggers := [g] }; s.is (Lat.SYSREF_RUN 0) = true ∧
      s.is (Fld.TB_SYSREF_CFG_MODE 0) = true ∧ s.waiting 160 false = some g)) := by
  decide

theorem Tests.wit_TimeStampsAndCoreFaults :
  (State.reset.get Fld.TB_EPIN_CFG_MODE = 0 ∧ (Tests.st [(Fld.TB_EPIN_CFG_MODE, 3)]).get Fld.TB_EPIN_CFG_MODE = 3 ∧
    (let s := Tests.st [(Fld.TB_EPIN_CFG_MODE, 1)]; s.tick < 2 ^ 64 ∧ s.get Fld.TB_EPIN_CFG_MODE = 1) ∧
    (let s := Tests.st [(Fld.TB_EPIN_CFG_MODE, 2), (Fld.TB_STATUS_STATE, 6), (Lat.TB_HELD, 1)]; s.tick < 2 ^ 64 ∧ s.get Fld.TB_EPIN_CFG_MODE = 2 ∧ s.get Fld.TB_STATUS_STATE = 6 ∧ s.is Lat.TB_HELD = true) ∧
    State.reset.hostOpen = true ∧ State.reset.privileged 0 = true ∧ (∀ g < 4, State.reset.get (Fld.COR_GRP_CFG_CC g) ≠ (7 : Fin 8))) := by
  decide

theorem Tests.wit_ChannelPulsesAndGroups :
  (State.reset.hostOpen = true ∧ State.reset.privileged 0 = true ∧ State.reset.edges.find? (fun e => e.ch == 127) = none ∧
    (let e : ChanEdge := ⟨3, 7, none⟩; let s := { Tests.st [(Fld.EV_GRP_EN_EN, 0xffff)] with edges := [e] }; s.edges.find? (fun e => e.ch == 3) = some e ∧ s.is (Lat.EVC_BUSY 3) = false ∧ s.groupOn 3 = true ∧
      s.asleep = false ∧ s.get (Lat.EVC_LOOPS 3) + 1 < 1024) ∧
    (let e : ChanEdge := ⟨3, 7, none⟩; let s := { Tests.st [(Fld.EV_GRP_EN_EN, 0)] with edges := [e] }; s.edges.find? (fun e => e.ch == 3) = some e ∧ s.is (Lat.EVC_BUSY 3) = false ∧ s.groupOn 3 = false) ∧
    (let e : ChanEdge := ⟨3, 7, none⟩; let s := { Tests.st [(Lat.EVC_BUSY 3, 1)] with edges := [e] }; s.edges.find? (fun e => e.ch == 3) = some e ∧ s.is (Lat.EVC_BUSY 3) = true) ∧
    State.reset.get (Lat.EVC_LOOP_END 127) ≤ State.reset.tick ∧ (let s := Tests.st [(Lat.EVC_LOOP_END 0, 5)]; s.tick < s.get (Lat.EVC_LOOP_END 0) ∧ s.asleep = false) ∧
    (Tests.st [(Fld.EV_GRP_EN_EN, 0xffff)]).groupOn 127 = true ∧ (Tests.st [(Fld.EV_GRP_EN_EN, 0)]).groupOn 127 = false) := by
  decide

theorem Tests.wit_TaskInputs :
  (let g : Trigger := ⟨0, 1, 2, none, false, false, 0⟩; let b : Trigger := { g with phase := 1 }; let d : Trigger := { g with phase := 2 };
    State.reset.hostOpen = true ∧ taskExists 240 = false ∧ taskExists 0 = true ∧ (2 ^ 31).testBit 31 = true ∧ (0 : Nat).testBit 31 = false ∧
    State.reset.triggers.find? (fun g => g.task == 0 && g.phase == 0) = none ∧
    (let s := { State.reset with triggers := [g] }; s.triggers.find? (fun g => g.task == 0 && g.phase == 0) = some g ∧ s.taskBusy 0 = false) ∧
    (let s := { State.reset with triggers := [b, g] }; s.triggers.find? (fun g => g.task == 0 && g.phase == 0) = some g ∧ s.taskBusy 0 = true ∧ s.is (Fld.EV_TASK_CFG_POL 0) = false) ∧
    (let s := { Tests.st [(Fld.EV_TASK_CFG_POL 0, 1)] with triggers := [b, d, d, d, g] }; s.triggers.find? (fun g => g.task == 0 && g.phase == 0) = some g ∧ s.taskBusy 0 = true ∧
      s.is (Fld.EV_TASK_CFG_POL 0) = true ∧ s.taskDepth 0 < 4) ∧
    (let s := { Tests.st [(Fld.EV_TASK_CFG_POL 0, 1)] with triggers := [b, d, d, d, d, g] }; s.taskBusy 0 = true ∧ 4 ≤ s.taskDepth 0) ∧
    (let s := Tests.st [(Fld.EV_TASK_CFG_EN 639, 1)]; taskExists (639 % 1024) = true ∧ 639 % 1024 < 768 ∧ s.is (Fld.EV_TASK_CFG_EN (639 % 1024)) = true ∧ s.taskBusy (639 % 1024) = false) ∧
    (let s := { State.reset with triggers := [d] }; s.taskBusy 0 = false ∧ 0 < s.taskDepth 0 ∧ s.taskDepth 0 < 8)) := by
  decide

theorem Tests.wit_TaskActions :
  (let q : Nat → Trigger := fun k => ⟨k, 3, 9, some 16, false, false, 1⟩;
    ({ State.reset with triggers := [q 183] }).waiting 183 false = some (q 183) ∧ ({ State.reset with triggers := [q 184] }).waiting 184 false = some (q 184) ∧
    ({ State.reset with triggers := [q 239] }).waiting 239 true = some (q 239) ∧ ({ State.reset with triggers := [q 639] }).waiting (639) false = some (q 639) ∧
    State.reset.waiting (384) false = none ∧ (Tests.st [(Lat.CC_HALTED 7, 1)]).is (Lat.CC_HALTED 7) = true ∧
    State.reset.is (Lat.CC_HALTED 7) = false ∧ State.reset.asleep = false) := by
  decide

theorem Tests.wit_TimersThresholdsAndPins :
  (let s := Tests.st [(Fld.EV_TMR_OFS_LO 15, 8), (Fld.EV_TMR_PER_LO 15, 64)]; s.hostOpen = true ∧ (2 ^ 31 + 2 ^ 30).testBit 30 = true ∧ (2 ^ 31).testBit 31 = true ∧ (2 ^ 31).testBit 30 = false ∧ (0 : Nat).testBit 31 = false ∧
      wordNext s.tick ≤ s.get2 (Fld.EV_TMR_OFS_LO 15) (Fld.EV_TMR_OFS_HI 15) ∧ State.reset.get2 (Fld.EV_TMR_OFS_LO 15) (Fld.EV_TMR_OFS_HI 15) < wordNext State.reset.tick ∧
      s.get2 (Fld.EV_TMR_PER_LO 15) (Fld.EV_TMR_PER_HI 15) % 8 = 0 ∧ 64 ≤ s.get2 (Fld.EV_TMR_PER_LO 15) (Fld.EV_TMR_PER_HI 15)) ∧
  ((Tests.st [(Fld.EV_TMR_PER_LO 15, 56)]).get2 (Fld.EV_TMR_PER_LO 15) (Fld.EV_TMR_PER_HI 15) < 64 ∧ State.reset.is (Lat.TMR_RUN 15) = false) ∧
  (let s := Tests.st [(Lat.TMR_RUN 15, 1), (Fld.EV_TMR_CFG_MODE 15, 1)]; s.is (Lat.TMR_RUN 15) = true ∧ s.get (Lat.TMR_NEXT 15) ≤ s.tick ∧ s.asleep = false ∧ s.is (Fld.EV_TMR_CFG_MODE 15) = true) ∧
  (let s := Tests.st [(Lat.TMR_RUN 15, 1), (Fld.EV_TMR_PER_LO 15, 64)]; s.is (Lat.TMR_RUN 15) = true ∧ s.get (Lat.TMR_NEXT 15) ≤ s.tick ∧ s.asleep = false ∧ s.is (Fld.EV_TMR_CFG_MODE 15) = false) ∧
  (let s := Tests.st [(Fld.EV_THR_CFG_EN 31, 1), (Fld.EV_THR_CFG_SRC_KIND 31, 1), (Fld.EV_THR_LVL_LEVEL 31, 4), (Lat.THR_ABOVE 31, 1)]; s.is (Fld.EV_THR_CFG_EN 31) = true ∧ s.is (Fld.EV_THR_CFG_SRC_KIND 31) = true ∧
    s.tick < 2 ^ 60 ∧ s.is (Lat.THR_ABOVE 31) = true ∧ (0 : Int) < (s.geti (Fld.EV_THR_LVL_LEVEL 31) - s.get (Fld.EV_THR_LVL_HYST 31)) * 256) ∧
  (let s := Tests.st [(Fld.EV_THR_CFG_EN 31, 1), (Fld.EV_THR_CFG_SRC_KIND 31, 1), (Fld.EV_THR_LVL_LEVEL 31, 4)]; s.is (Lat.THR_ABOVE 31) = false ∧ s.geti (Fld.EV_THR_LVL_LEVEL 31) * 256 ≤ 1024 ∧
    (1023 : Int) < s.geti (Fld.EV_THR_LVL_LEVEL 31) * 256 ∧ s.get (Fld.EV_THR_CFG_DIR 31) ≠ 1 ∧ s.asleep = false ∧ s.get (Lat.THR_WORD 31) ≠ s.tick / 8 + 1) ∧
  (let s := State.reset; s.is (Lat.EVIO_IN 14) = false ∧ s.is (Lat.EVIO_IN 14) ≠ true ∧ s.is (Fld.EV_EVIO_CFG_DIR 14) = false ∧ s.is (Fld.EV_EVIO_CFG_FALL 14) ≠ true ∧ s.evioUsable 14 = true) ∧
  (let s := { Tests.st [(Fld.EV_EVIO_CFG_DIR 15, 1), (Fld.EV_EVIO_CFG_MODE 15, 1)] with alignDue := [(15, 0)] }; s.alignDue.find? (fun p => p.1 == 15 && p.2 ≤ s.tick) = some (15, 0) ∧
    s.is (Fld.EV_EVIO_CFG_DIR 15) = true ∧ s.is (Fld.EV_EVIO_CFG_MODE 15) = true ∧ s.asleep = false ∧ s.countHeld = false ∧ (s.set Lat.TB_HELD 1).countHeld = true) := by
  decide

theorem Tests.wit_InterruptPresentation :
  (let req := [(Fld.IC_ROUTE_EN 255, 1), (Fld.IC_ROUTE_PRI 255, 4), (Fld.IC_SW_STAT, 0x80)]; let s := Tests.st req
    (∀ n < 256, s.is (Fld.IC_ROUTE_WAKE n) = false) ∧ s.is (Fld.IC_TGT_STATUS_INSVC 4) = false ∧ s.candidate 4 = some (255, false) ∧ s.get (Fld.IC_TGT_STATUS_PRESENTED 4) ≠ 255 ∧ s.candidate 11 = none ∧
    (s.set (Fld.IC_TGT_STATUS_INSVC 11) 1).is (Fld.IC_TGT_STATUS_INSVC 11) = true) := by
  decide

theorem Tests.wit_InterruptPresentation_2 :
  (let req := [(Fld.IC_TGT_CFG_CRIT_VEC 3, 0), (Fld.IC_ROUTE_EN 0, 1), (Fld.IC_ROUTE_PRI 0, 3), (Fld.LDG_NOTIFY 0, 1), (Fld.SYS_PF_CFG_MSIX_EN 3, 1)]; let s := Tests.st req; let u := Tests.st ((Fld.SYS_MSIX 3 3, 0) :: req)
    s.is (Fld.IC_TGT_STATUS_INSVC 3) = false ∧ s.candidate 3 = some (0, false) ∧ s.get (Fld.IC_TGT_STATUS_PRESENTED 3) = 0x3FF ∧ (s.get (vectorMask 3 (s.vectorOf 3 0))).testBit 0 = true ∧
    u.candidate 3 = some (0, false) ∧ u.get (Fld.IC_TGT_STATUS_PRESENTED 3) = 0x3FF ∧ (u.get (vectorMask 3 (u.vectorOf 3 0))).testBit 0 = false) := by
  decide

theorem Tests.wit_InterruptService :
  (let s := Tests.st [(Fld.IC_TGT_STATUS_PRESENTED 11, 255), (Fld.IC_ROUTE_EN 255, 1), (Fld.IC_SW_STAT, 0x80)]; s.is (Fld.IC_TGT_STATUS_INSVC 11) = false ∧ s.get (Fld.IC_TGT_STATUS_PRESENTED 11) ≠ 0x3FF ∧
    s.requesting (s.get (Fld.IC_TGT_STATUS_PRESENTED 11)) = true ∧ s.hostOpen = true ∧ State.reset.get (Fld.IC_TGT_STATUS_PRESENTED 11) = 0x3FF) ∧
  (let s := Tests.st [(Fld.IC_TGT_STATUS_INSVC 11, 1), (Fld.IC_TGT_STATUS_INSVC_SRC 11, 255)]; s.is (Fld.IC_TGT_STATUS_INSVC 11) = true ∧ s.get (Fld.IC_TGT_STATUS_INSVC_SRC 11) = 255 % 2 ^ 10 ∧ State.reset.is (Fld.IC_TGT_STATUS_INSVC 11) = false) ∧
  (let s := Tests.st [(Fld.SYS_MSIX_PBA 3, 2), (Fld.IC_TGT_STATUS_PRESENTED 3, 4)]; (s.get (Fld.SYS_MSIX_PBA 3)).testBit 1 = true ∧ (s.get (Fld.SYS_MSIX_PBA 3)).testBit 0 = false ∧ s.get (Fld.IC_TGT_STATUS_PRESENTED 3) ≠ 0x3FF) ∧
  (let s := Tests.st [(Fld.AON_PWR_STATUS_STATE, 3), (Fld.IC_WAKE_SEL_EN 31, 1), (Fld.IC_WAKE_SEL_SRC 31, 255)]; s.asleep = true ∧ watchable 255 = true ∧ s.watched 255 = true ∧ s.is Lat.WAKE_START = false ∧
    (s.set Lat.WAKE_START 1).is Lat.WAKE_START = true ∧ State.reset.asleep = false) := by
  decide

theorem Tests.wit_FaultLedger :
  (let s := Tests.st [(Fld.LDG_ACTIVE 63, 1), (Fld.LDG_PERSIST 63, 1)]; s.hostOpen = true ∧ s.is (Fld.LDG_ACTIVE (127 % 64)) = true ∧ State.reset.is (Fld.LDG_ACTIVE 63) = false) ∧
  (let s := Tests.st [(Lat.LDG_AGAIN 63, 1), (Fld.LDG_PERSIST 63, 1)]; s.is (Lat.LDG_AGAIN 63) = true ∧ s.is (Fld.LDG_PERSIST 63) = true ∧ State.reset.is (Lat.LDG_AGAIN 63) = false) ∧
  ((Tests.st [(Lat.LDG_AGAIN 63, 1)]).is (Fld.LDG_PERSIST 63) = false ∧ (Tests.st [(Fld.TIU_STATUS_STATE 23, 4)]).get (Fld.TIU_STATUS_STATE 23) = 4 ∧ State.reset.get (Fld.TIU_STATUS_STATE 23) ≠ 4) := by
  decide

theorem Tests.wit_ArchiveRing :
  (State.reset.arcBuf = [] ∧
  (let s := { Tests.st [(Fld.MS_CFG_ARCH_LEAVES, 1)] with arcBuf := [[1]] }; s.arcBuf.head? = some [1] ∧ s.ringFill + 1 < s.ringLen ∧ s.hostOpen = true ∧ s.ringLen ≠ 0 ∧ 0 < s.ringLen ∧
    (0 + s.ringLen - s.get Fld.IC_ARC_RD) % s.ringLen ≤ s.ringFill ∧ s.ringFill < (2047 + s.ringLen - s.get Fld.IC_ARC_RD) % s.ringLen) ∧
  (let s := { Tests.st [(Fld.MS_CFG_ARCH_LEAVES, 1), (Fld.IC_ARC_WR, 2047), (Fld.IC_ARC_CFG_POL, 1)] with arcBuf := [[1]] }; s.arcBuf.head? = some [1] ∧ s.ringLen ≤ s.ringFill + 1 ∧ s.is Fld.IC_ARC_CFG_POL = true ∧
    s.is Lat.ARC_FULL = false ∧ (s.set Lat.ARC_FULL 1).is Lat.ARC_FULL = true) ∧
  (let s := { Tests.st [(Fld.MS_CFG_ARCH_LEAVES, 1), (Fld.IC_ARC_WR, 2047), (Fld.IC_ARC_CFG_POL, 0)] with arcBuf := [[1]] }; s.ringLen ≤ s.ringFill + 1 ∧ s.is Fld.IC_ARC_CFG_POL = false ∧ s.ringLen ≠ 0) ∧
  (Tests.st [(Fld.IC_ARC_TEMP_EN, 0)]).is Fld.IC_ARC_TEMP_EN = false ∧ (let s := Tests.st [(Fld.IC_ARC_TEMP_EN, 1)]; s.is Fld.IC_ARC_TEMP_EN = true ∧ s.arcBuf.length + 21 ≤ 1024)) := by
  decide

theorem Tests.wit_ChannelPower :
  (let st := fun v => Tests.st [(Fld.CH_STATUS_STATE 31, v), (Lat.DIE_PG 7, 1), (Fld.CH_STATUS_RESTART_PENDING 31, 1)]; State.reset.hostOpen = true ∧ (st 0).hostOpen = true ∧ (st 0).get (Fld.CH_STATUS_STATE 31) = 0 ∧
    (st 0).channelPower 31 = true ∧ State.reset.channelPower 31 = false ∧ (st 4).get (Fld.CH_STATUS_STATE 31) = 4 ∧ (st 4).is (Fld.CH_STATUS_RESTART_PENDING 31) = true ∧ (st 4).channelPower 31 = true ∧
    (st 1).get (Fld.CH_STATUS_STATE 31) = 1 ∧ (st 3).get (Fld.CH_STATUS_STATE 31) = 3) := by
  decide

theorem Tests.wit_ChannelParking :
  (State.reset.hostOpen = true ∧ (let s := { State.reset with tick := 1 }; s.tick % 8 ≠ 0) ∧
  (let s := Tests.st [(Fld.CH_STATUS_STATE 31, 2), (Fld.CH_PARK_SRC_REASON 31, 0)]; s.tick % 8 = 0 ∧ s.get (Fld.CH_STATUS_STATE 31) = 2 ∧ s.get (Fld.CH_PARK_SRC_REASON 31) = 0) ∧
  (let s := Tests.st [(Fld.CH_STATUS_STATE 31, 2), (Fld.CH_PARK_SRC_REASON 31, 1), (Lat.BOOT_READY, 1), (Fld.TB_STATUS_STATE, 3), (Fld.SYS_TILE_STATUS_STATE 7, 2)]; s.tick % 8 = 0 ∧ s.get (Fld.CH_STATUS_STATE 31) = 2 ∧
    s.get (Fld.CH_PARK_SRC_REASON 31) = 1 ∧ s.bootOver (tileOfChannel 31) = true) ∧
  (let s := Tests.st [(Fld.CH_PARK_SRC_REASON 31, 2)]; s.bootOver (tileOfChannel 31) = false ∧ s.get (Fld.CH_PARK_SRC_REASON 31) ≠ 0) ∧
  State.reset.is Lat.PARK_N_LOW = false ∧ (Tests.st [(Lat.PARK_N_LOW, 1)]).is Lat.PARK_N_LOW = true) := by
  decide

theorem Tests.wit_ChannelFaults :
  (State.reset.is (Fld.LDG_ACTIVE 6) = false ∧ (State.reset.get (Fld.CH_PARK_SRC_REASON 31)).testBit pkFault = false ∧ State.reset.get (Lat.CH_BAD 31) = 0 ∧ State.reset.is (Fld.LDG_ACTIVE 0) = false ∧
    State.reset.is (Fld.LDG_ACTIVE 1) = false ∧ State.reset.is (Lat.DIE_UV 7) = false ∧ (Tests.st [(Lat.DIE_UV 7, 1)]).is (Lat.DIE_UV 7) = true ∧ (Tests.st [(Lat.DIE_PG 7, 1)]).is (Lat.DIE_PG 7) = true ∧
    State.reset.is (Lat.DIE_PG 7) = false) := by
  decide

theorem Tests.wit_ChannelRangesAndBanks :
  (let q : RangeReq := ⟨31, 3, some 0, none, 0⟩; let s := Tests.st [(Fld.CH_STATUS_STATE 31, 3), (Fld.CH_RNG_AT_LO 31, 512), (Fld.CH_RANGE_REQ 31, 1)]; s.hostOpen = true ∧ s.get (Fld.CH_RANGE_REQ 31) ≠ s.get (Fld.CH_RANGE_CUR 31) ∧ State.reset.get (Fld.CH_RANGE_REQ 31) = State.reset.get (Fld.CH_RANGE_CUR 31) ∧ s.get2 (Fld.CH_RNG_AT_LO 31) (Fld.CH_RNG_AT_HI 31) % 8 = 0 ∧
    s.tick + 512 ≤ s.get2 (Fld.CH_RNG_AT_LO 31) (Fld.CH_RNG_AT_HI 31) ∧ s.get (Fld.CH_STATUS_STATE 31) = 3 ∧ s.is (Fld.CH_STATUS_RNG_GAP 31) = false ∧ s.ranges.all (fun q => q.ch != 31) = true ∧
    (let u := Tests.st [(Fld.CH_RNG_AT_LO 31, 504)]; u.get2 (Fld.CH_RNG_AT_LO 31) (Fld.CH_RNG_AT_HI 31) ≠ 0 ∧ u.get2 (Fld.CH_RNG_AT_LO 31) (Fld.CH_RNG_AT_HI 31) < u.tick + 512) ∧
    s.is (Fld.CH_EQ_CFG_SWAP_PEND 31) = false ∧ s.get (Fld.CH_EQ_CFG_ACTIVE 31) ≠ (1 : Fin 2) ∧ s.get (Fld.CH_EQ_CFG_ACTIVE 31) = (0 : Fin 2) ∧
    (let u := { Tests.st [(Fld.CH_EQ_CFG_SWAP_PEND 31, 1)] with tick := 64 }; u.calPends = [] ∧ u.get (Fld.CH_EQ_CFG_SRC 31) = u.get (Lat.EQ_SRC_CUR 31) ∧ u.ranges = [] ∧ u.is (Fld.CH_EQ_CFG_SWAP_PEND 31) = true ∧
      u.boundary 31 (u.get (Lat.EQ_REQ_AT 31)) = true) ∧
    (let u := { s with ranges := [q] }; u.ranges.head? = some q ∧ u.ranges.length = 1 ∧ q.ch = (31 : Fin 32) ∧ 0 ≤ u.tick) ∧
    (let u := { Tests.st [(Fld.CH_STATUS_RNG_GAP 31, 1)] with tick := 256 }; u.is (Fld.CH_STATUS_RNG_GAP 31) = true ∧ u.get (Lat.RNG_AT 31) + 256 ≤ u.tick) ∧ State.reset.tick < State.reset.get (Lat.RNG_AT 31) + 256) := by
  decide

theorem Tests.wit_PortStates :
  (let st := fun v => Tests.st [(Fld.PP_STATUS_STATE 47, v), (Fld.PP_CFG_USED 47, 1), (Fld.PP_CTRL_EN 47, 1), (Fld.PP_STATUS_RESTART_PENDING 47, 1)]; let r := Tests.st [(Fld.PP_STATUS_STATE 47, 1), (Fld.PP_CFG_PERS 47, 1), (Fld.PP_PARK_SRC_REASON 47, 0)];
    State.reset.hostOpen = true ∧ (st 0).get (Fld.PP_STATUS_STATE 47) = 0 ∧ (st 0).is (Fld.PP_CFG_USED 47) = true ∧ (st 0).unitsPowered = true ∧ State.reset.is (Fld.PP_CFG_USED 47) = false ∧
    (st 4).get (Fld.PP_STATUS_STATE 47) = 4 ∧ (st 3).get (Fld.PP_STATUS_STATE 47) = 3 ∧ (st 1).get (Fld.PP_STATUS_STATE 47) = 1 ∧ (st 1).pers 47 = 0 ∧
    r.get (Fld.PP_STATUS_STATE 47) = 1 ∧ r.pers 47 = 1 ∧ r.ppReasons 47 = 0 ∧ ((st 1).set (Fld.PP_CFG_PERS 47) 2).pers 47 = 2 ∧ ({ State.reset with tick := 1 } : State).tick % 8 ≠ 0 ∧
    (let u := Tests.st [(Fld.PP_STATUS_STATE 47, 2), (Fld.PP_PARK_SRC_REASON 47, 0)]; u.tick % 8 = 0 ∧ u.get (Fld.PP_STATUS_STATE 47) = 2 ∧ u.ppReasons 47 = 0 ∧ (u.get (Fld.PP_PARK_SRC_REASON 47)).testBit pkBoot = false) ∧
    (let u := Tests.st [(Fld.PP_STATUS_STATE 47, 2), (Fld.PP_PARK_SRC_REASON 47, 1), (Lat.BOOT_READY, 1), (Fld.TB_STATUS_STATE, 3), (Fld.SYS_TILE_STATUS_STATE 7, 2)]; u.get (Fld.PP_PARK_SRC_REASON 47) = 1 ∧ u.bootOver (tileOfPort 47) = true) ∧
    (let u := Tests.st [(Fld.PP_PARK_SRC_REASON 47, 2)]; u.bootOver (tileOfPort 47) = false ∧ u.ppReasons 47 ≠ 0)) := by
  decide

theorem Tests.wit_PortSignals :
  (State.reset.is (Fld.LDG_ACTIVE 0) = false ∧ State.reset.is (Fld.LDG_ACTIVE 1) = false ∧ State.reset.is (Fld.LDG_ACTIVE 24) = false ∧ (Tests.st [(Fld.LDG_ACTIVE 0, 1)]).is (Fld.LDG_ACTIVE 0) = true ∧
  (let s := Tests.st [(Fld.PP_CFG_USED 47, 1), (Fld.PP_CFG_PERS 47, 0), (Fld.PP_STATUS_STATE 47, 2), (Fld.PP_PARK_SRC_REASON 47, 2), (Fld.TIU_STATUS_STATE 21, 2), (Fld.TIU_STATUS_STATE 22, 2), (Fld.TIU_STATUS_STATE 23, 2)]; s.hostOpen = true ∧
    s.is (Fld.PP_CFG_USED 47) = true ∧ s.pers 47 = 0 ∧ s.get (Fld.PP_STATUS_STATE 47) = 2 ∧ (s.get (Fld.PP_PARK_SRC_REASON 47)).testBit pkSoft = true ∧ s.get (Lat.DLY_TIU 47) = 0 ∧ s.freeTiu (tileOfPort 47) = some 21) ∧
  State.reset.is (Fld.PP_CFG_USED 47) = false ∧ State.reset.get (Lat.DLY_TIU 47) = 0 ∧ (Tests.st [(Lat.DLY_TIU 47, 24)]).get (Lat.DLY_TIU 47) ≠ 0 ∧ State.reset.factory = none ∧
  (let s := Tests.st [(Fld.PP_CFG_USED 47, 1), (Fld.PP_CFG_PERS 47, 1), (Fld.PP_STATUS_STATE 47, 3)]; s.is (Fld.PP_CFG_USED 47) = true ∧ s.pers 47 = 1 ∧ s.get (Fld.PP_STATUS_STATE 47) ≠ 0)) := by
  decide

theorem Tests.wit_PatternCaptures :
  (let base := [(Fld.PP_CFG_USED 47, 1), (Fld.PP_CFG_PERS 47, 1), (Fld.PP_CAP_CFG_MODE 47, 1)]; let s := Tests.st ((Fld.PP_CAP_AT_LO 47, 512) :: base); s.hostOpen = true ∧ (s.is (Fld.PP_CFG_USED 47) && s.pers 47 == 1) = true ∧
    s.is (Fld.PP_STATUS_CAP_BUSY 47) = false ∧ s.is (Fld.PP_CAP_CFG_MODE 47) = true ∧ s.tick + 512 ≤ s.get2 (Fld.PP_CAP_AT_LO 47) (Fld.PP_CAP_AT_HI 47) ∧
    (Tests.st ((Fld.PP_STATUS_CAP_BUSY 47, 1) :: base)).is (Fld.PP_STATUS_CAP_BUSY 47) = true ∧ (State.reset.is (Fld.PP_CFG_USED 47) && State.reset.pers 47 == 1) = false ∧ State.reset.is (Fld.LDG_ACTIVE 16) = false ∧ State.reset.cap 47 = none) ∧
  (let g : Trigger := ⟨159, 0, 0, some 8, false, false, 1⟩; let c : Cap := { port := 47, trig := none, byTask := true, len := 0, mode := true, card := 0 }; let d : Cap := { c with trig := some 0 }; let e : Cap := { c with stopAt := some 0 }
    let f : Cap := { d with start := some 0 }; let on := fun (c : Cap) => { Tests.st [(Fld.PP_CFG_USED 47, 1), (Fld.PP_CFG_PERS 47, 1)] with caps := [c], triggers := [g] }
    (on c).cap 47 = some c ∧ c.port = (47 : Fin 48) ∧ c.stopAt = none ∧ (on c).waiting 159 true = some g ∧ c.byTask = true ∧ c.trig = none ∧ (on d).cap 47 = some d ∧ d.trig = some 0 ∧ d.start = none ∧ (on d).capGrid 47 0 ≤ (on d).tick ∧
    (on e).cap 47 = some e ∧ e.start = none ∧ e.accBits = 0 ∧ e.stopAt = some 0 ∧ 0 ≤ (on e).tick ∧ (on f).cap 47 = some f ∧ f.start = some 0 ∧ f.accBits = 0 ∧ f.len ≤ f.taken) := by
  decide

theorem Tests.wit_JesdTransmitters :
  (let tx := [(Fld.PP_CFG_USED 47, 1), (Fld.PP_CFG_PERS 47, 2), (Fld.PP_STATUS_STATE 47, 2), (Fld.PP_JCFG0_E 47, 1), (Fld.TB_SYSREF_CFG_EN 0, 1), (Fld.TB_SYSREF_PER 0, 2112)]; let rx := [(Fld.PP_CFG_USED 47, 1), (Fld.PP_CFG_PERS 47, 3)];
    let s := Tests.st tx; let r := Tests.st rx; State.reset.hostOpen = true ∧ State.reset.lane0 47 = false ∧ State.reset.is (Fld.LDG_ACTIVE 16) = false ∧
    r.lane0 47 = true ∧ r.pers 47 = 3 ∧ r.get (Fld.PP_JSTAT_STATE 47) = 0 ∧ r.is (Lat.JRX_STOP 47) = false ∧ (Tests.st ((Fld.PP_JSTAT_STATE 47, 7) :: rx)).get (Fld.PP_JSTAT_STATE 47) ≠ 0 ∧
    s.lane0 47 = true ∧ s.pers 47 = 2 ∧ (s.lanes 47).all (fun q => s.get (Fld.PP_STATUS_STATE q) != 0) = true ∧ s.jesdSysref 47 = true ∧ s.lemc 47 s.tick 0 = true ∧ ({ s with tick := 1 } : State).lemc 47 1 0 = false ∧
    (let u := Tests.st [(Fld.PP_CFG_USED 47, 1), (Fld.PP_CFG_PERS 47, 2)]; (u.lanes 47).all (fun q => u.get (Fld.PP_STATUS_STATE q) != 0) = false ∧ u.jesdSysref 47 = false) ∧
    (Tests.st ((Fld.PP_JSTAT_STATE 47, 1) :: tx)).get (Fld.PP_JSTAT_STATE 47) = 1 ∧ (let u := Tests.st ((Fld.PP_JSTAT_STATE 47, 3) :: (Fld.PP_JCTRL_EN 47, 1) :: tx); u.get (Fld.PP_JSTAT_STATE 47) = 3 ∧ u.is (Fld.PP_JCTRL_EN 47) = true) ∧
    s.is (Fld.PP_JCTRL_EN 47) = false) := by
  decide

theorem Tests.wit_JesdReceivers :
  (let rx := fun v => Tests.st [(Fld.PP_CFG_USED 47, 1), (Fld.PP_CFG_PERS 47, 3), (Fld.PP_JSTAT_STATE 47, v), (Fld.PP_JCFG0_E 47, 1), (Fld.TB_SYSREF_CFG_EN 0, 1), (Fld.TB_SYSREF_PER 0, 2112), (Fld.PP_JCTRL_RBD 47, 0)];
    (rx 4).jrx 47 [4] = true ∧ State.reset.jrx 47 [4] = false ∧ (rx 5).jrx 47 [5] = true ∧ (rx 6).jrx 47 [6] = true ∧ (rx 6).jesdSysref 47 = true ∧ (rx 6).lemc 47 (rx 6).tick (8 * (rx 6).get (Fld.PP_JCTRL_RBD 47)) = true ∧
    ((rx 6).set (Fld.PP_JCFG0_E 47) 0).jesdSysref 47 = false ∧ (rx 7).jrx 47 [7] = true ∧ (rx 7).jrx 47 [5, 6, 7] = true ∧ State.reset.jrx 47 [5, 6, 7] = false ∧
    (let u := (rx 7).set (Lat.JRX_STOP 47) 1; u.lane0 47 = true ∧ u.pers 47 = 3 ∧ u.is (Lat.JRX_STOP 47) = true) ∧ State.reset.is (Lat.JRX_STOP 47) = false) := by
  decide

theorem Tests.wit_TiuStates :
  (let st := fun v => Tests.st [(Fld.TIU_STATUS_STATE 23, v), (Lat.TB_EVER, 1)]; State.reset.hostOpen = true ∧ (Tests.st [(Fld.TIU_STATUS_RSV 23, 3)]).reserved 23 = true ∧ (st 0).reserved 23 = false ∧
    (st 0).get (Fld.TIU_STATUS_STATE 23) = 0 ∧ (st 0).is Lat.TB_EVER = true ∧ (st 0).unitsPowered = true ∧ State.reset.is Lat.TB_EVER = false ∧ (st 6).get (Fld.TIU_STATUS_STATE 23) = 6 ∧ (st 5).get (Fld.TIU_STATUS_STATE 23) = 5 ∧
    (st 1).get (Fld.TIU_STATUS_STATE 23) = 1) := by
  decide

theorem Tests.wit_TiuArming :
  (let arm := [(Fld.TIU_STATUS_STATE 23, 2), (Fld.TIU_STATUS_DLL_LOCK 23, 1), (Fld.TIU_SRC_START_SEL 23, 288), (Fld.TIU_SRC_STOP_SEL 23, 287)]; let s := Tests.st arm; let g : Trigger := ⟨223, 0, 0, none, false, false, 1⟩;
    let m : Meas := { tiu := 23, t0 := 0, est := false, stale := false }; let late : Meas := { m with t0 := 1 };
    s.hostOpen = true ∧ s.armRefusal 23 (s.get2 (Fld.TIU_AT_LO 23) (Fld.TIU_AT_HI 23)) = 0 ∧ s.tables.all (fun t => t.tiu != 23) = true ∧ State.reset.armRefusal 23 0 ≠ 0 ∧ s.reserved 23 = false ∧
    (s.set (Fld.TIU_STATUS_RSV 23) 1).reserved 23 = true ∧ (let u := { s with triggers := [g] }; u.waiting 223 false = some g ∧ u.armRefusal 23 0 = 0) ∧
    (let u := { Tests.st [(Fld.TIU_STATUS_STATE 23, 3)] with measures := [m] }; u.meas 23 = some m ∧ u.get (Fld.TIU_STATUS_STATE 23) = 3 ∧ m.t0 ≤ u.tick) ∧ ({ State.reset with measures := [late] } : State).meas 23 = some late ∧ State.reset.tick < late.t0) := by
  decide

theorem Tests.wit_TiuStampsAndTable :
  (let m : Meas := { tiu := 23, t0 := 0, est := false, stale := false }; let fields := [(Fld.TIU_STATUS_STATE 23, 4), (Fld.TIU_STATUS_DLL_LOCK 23, 1), (Fld.TIU_SRC_STOP_SEL 23, 1)]; let on := fun (m : Meas) => { Tests.st fields with measures := [m] };
    (on m).meas 23 = some m ∧ m.tiu = (23 : Fin 24) ∧ (on m).get (Fld.TIU_STATUS_STATE 23) = 4 ∧ (on m).stamps 23 = true ∧ m.rate = false ∧ m.n < (on m).tiuWanted 23 ∧ (on m).tiuLimit 23 m.t0 = none ∧
    (on m).get (Fld.TIU_SRC_START_SEL 23) ≠ (on m).get (Fld.TIU_SRC_STOP_SEL 23) ∧ (on m).is (Fld.TIU_CFG_MODE 23) = false ∧ m.t0 * 65536 ≤ (on m).stampOf 23 0 0 0 ∧ m.lastA = none ∧ m.opened = none ∧ m.lastStop = none ∧ m.lastStart = none ∧
    m.first = none ∧ 0 ≤ (on m).stampOf 23 1 0 1 ∧ m.lastB = none ∧ m.edges < 2 ^ 40 ∧ ((on m).set (Fld.TIU_CFG_MODE 23) 1).is (Fld.TIU_CFG_MODE 23) = true ∧ ({ m with opened := some 0 } : Meas).opened = some 0 ∧
    (let d : Meas := { m with n := 1 }; (on d).meas 23 = some d ∧ (on d).tiuWanted 23 ≤ d.n) ∧
    State.reset.get (Fld.TIU_STATUS_STATE 23) ≠ 4 ∧ (on m).is (Fld.TIU_STATUS_DLL_LOCK 23) = true ∧ State.reset.is (Fld.TIU_STATUS_DLL_LOCK 23) = false ∧ State.reset.is (Fld.TIU_STATUS_CAL_VALID 23) = false ∧
    (Tests.st [(Lat.TIU_CAL_BUSY 23, 1)]).is (Lat.TIU_CAL_BUSY 23) = true ∧ [2 ^ 20].foldl (· + ·) 0 = 2 ^ 20 ∧ State.reset.meas 23 = none ∧ (on m).meas 23 ≠ none ∧ State.reset.is (Lat.TIU_CAL_BUSY 23) = false) := by
  decide

theorem Tests.wit_CorrectorCommands :
  (let on := fun l => Tests.st ([(Fld.COR_GRP_CFG_VALID 3, 1)] ++ l); let st := fun v => on [(Fld.COR_GRP_STATUS_STATE 3, v)]; State.reset.hostOpen = true ∧ State.reset.is (Fld.COR_GRP_CFG_VALID 3) = false ∧ State.reset.is (Fld.LDG_ACTIVE 16) = false ∧ (5 : Nat) < 2 ^ 32 ∧ (on []).is (Fld.COR_GRP_CFG_VALID 3) = true ∧
    (on []).corHardParked 3 = false ∧ (on []).get (Fld.COR_GRP_STATUS_STATE 3) = 0 ∧ (on []).is (Fld.COR_GRP_STATUS_RESTART_PENDING 3) = false ∧ (on [(Fld.COR_STORE_LEAF 3, 0x8000)]).corReady 3 = true ∧ (on []).hostEstimate 3 = false ∧
    (on [(Fld.COR_GRP_CFG_MODE 3, 1), (Fld.COR_GRP_CFG_DM1 3, 1)]).hostEstimate 3 = true ∧ (on [(Fld.COR_GRP_DRV_VALID 3 0, 1)]).corReady 3 = false ∧ (on [(Fld.COR_GRP_STATUS_RESTART_PENDING 3, 1)]).is (Fld.COR_GRP_STATUS_RESTART_PENDING 3) = true) := by
  decide

theorem Tests.wit_CorrectorCommands_2 :
  (let on := fun l => Tests.st ([(Fld.COR_GRP_CFG_VALID 3, 1)] ++ l); let st := fun v => on [(Fld.COR_GRP_STATUS_STATE 3, v)]; (st 4).get (Fld.COR_GRP_STATUS_STATE 3) = 4 ∧ (st 5).get (Fld.COR_GRP_STATUS_STATE 3) = 5 ∧ (st 6).get (Fld.COR_GRP_STATUS_STATE 3) = 6 ∧ (st 1).get (Fld.COR_GRP_STATUS_STATE 3) = 1 ∧
    (on [(Fld.COR_GRP_STATUS_H_VALID 3, 1)]).is (Fld.COR_GRP_STATUS_H_VALID 3) = true ∧ (st 1).is (Fld.COR_GRP_STATUS_H_VALID 3) = false ∧ (st 2).get (Fld.COR_GRP_STATUS_STATE 3) = 2 ∧ (st 3).get (Fld.COR_GRP_STATUS_STATE 3) = 3 ∧ (st 2).corRunning 3 = true ∧ (st 2).corHardParked 3 = false ∧
    (on [(Fld.COR_GRP_STATUS_STATE 3, 2), (Fld.COR_GRP_DRV_VALID 3 0, 1), (Fld.REEL_DEST0 0, 512), (Fld.CH_PARK_SRC_REASON 0, 0xFFFF)]).corHardParked 3 = true ∧
    (let x : Trigger := ⟨227, 0, 0, none, false, false, 1⟩; ({ st 2 with triggers := [x] } : State).waiting 227 false = some x) ∧ (let x : Trigger := ⟨231, 0, 0, none, false, false, 1⟩; ({ st 2 with triggers := [x] } : State).waiting 231 false = some x)) := by
  decide

theorem Tests.wit_CorrectorFrames :
  (let st := fun (v : Nat) l => Tests.st ([(Fld.COR_GRP_STATUS_STATE 3, v)] ++ l); State.reset.get (Fld.COR_GRP_STATUS_STATE 3) = 0 ∧ (st 4 []).get (Fld.COR_GRP_STATUS_STATE 3) = 4 ∧ (st 3 []).get (Fld.COR_GRP_STATUS_STATE 3) = 3 ∧ (st 1 []).is (Fld.COR_GRP_CFG_MODE 3) = false ∧
    (st 1 [(Fld.COR_GRP_CFG_MODE 3, 1)]).is (Fld.COR_GRP_CFG_MODE 3) = true ∧ (st 1 []).corDiscards 3 1 0 false = true ∧ (st 1 []).sineUnequal 3 = true ∧ (st 1 []).is (Fld.LDG_ACTIVE 25) = false ∧ (st 1 []).get (Fld.COR_GRP_STATUS_STATE 3) = 1 ∧
    (st 1 []).corDiscards 3 0 0 false = false ∧ (5 : Int) ≤ (st 1 []).geti (Fld.COR_DRV_MAX 3) ∧ (st 1 [(Fld.COR_GRP_DRV_VALID 3 0, 1)]).sineUnequal 3 = false ∧ (st 1 [(Fld.COR_GRP_CTRL_AVG_SH 3, 0)]).avgCount 3 ≤ 1 ∧ (st 1 []).hostEstimate 3 = false) := by
  decide

theorem Tests.wit_CorrectorFrames_2 :
  (let s := Tests.st [(Fld.COR_GRP_STATUS_STATE 3, 2), (Lat.COR_DUE 3, 1)]; s.get (Fld.COR_GRP_STATUS_STATE 3) = 2 ∧ s.is (Fld.COR_GRP_CFG_MODE 3) = false ∧ s.is (Lat.COR_BUSY 3) = false ∧ max 1 (s.get (Fld.COR_GRP_CTRL_UPD_FRAMES 3)) ≤ s.get (Lat.COR_DUE 3) ∧ s.corHardParked 3 = false ∧ s.is (Lat.COR_SWAP 3) = false) := by
  decide

theorem Tests.wit_CorrectorFrames_3 :
  (let s := fun (v st n : Nat) => { Tests.st [(Fld.COR_GRP_STATUS_STATE 3, st), (Lat.COR_RAMP 3, v)] with tick := n }; (s 1 2 0).get (Lat.COR_RAMP 3) = 1 ∧ (s 1 2 0).get (Lat.COR_W0 3) ≤ 0 ∧ (s 2 4 0).get (Lat.COR_RAMP 3) ≠ 1 ∧ (s 1 4 0).get (Lat.COR_RAMP 3) ≠ 2 ∧ (s 2 4 0).get (Lat.COR_RAMP 3) = 2 ∧
    (s 2 5 0).get (Fld.COR_GRP_STATUS_STATE 3) = 5 ∧ (s 2 4 0).get (Fld.COR_GRP_STATUS_STATE 3) = 4 ∧ (s 2 4 0).is (Fld.COR_GRP_STATUS_RESTART_PENDING 3) = false ∧
    (s 2 4 0).get (Lat.COR_W0 3) + 8 * (max 50 (min 10000 ((s 2 4 0).get (Fld.COR_ABT_TIME 3))) * 800000) ≤ 2 ^ 40 ∧ (s 1 2 0).corRunning 3 = true ∧ (s 1 2 0).stoppable 5 = false ∧ (Tests.st [(Fld.COR_GRP_SLICE_SLICES 3, 1)]).get (Fld.COR_GRP_SLICE_SLICES 3) = 1) := by
  decide

theorem Tests.wit_CuesOfFlow :
  (let on := fun l => Tests.st ([(Fld.REEL_STATE 1023, 2)] ++ l); let e := fun (n : Nat) => { on [(Fld.REEL_L_VALID 1023 0, 1), (Fld.REEL_L_DEPTH 1023 0, n)] with engines := [{ reel := 1023, callDepth := n }] };
    (on []).cueNow 1023 0 0 = true ∧ (on []).cueNow 1023 8 (8 + 5 * 2 ^ 32) = true ∧ ((on []).stacks 1023).loops.length < 4 ∧ (on []).get (Fld.REEL_SP 1023) < 65535 ∧ (on []).cueNow 1023 9 9 = true ∧ ((e 0).stacks 1023).loops.head? = some ⟨false, 0, 0, 0⟩ ∧
    (e 0).cueNow 1023 9 9 = true ∧ ((e 0).stacks 1023).calls.length = 0 ∧ ((on [(Fld.REEL_L_VALID 1023 0, 1), (Fld.REEL_L_INF 1023 0, 1)]).stacks 1023).loops.head? = some ⟨true, 0, 0, 0⟩ ∧
    ((on [(Fld.REEL_L_VALID 1023 0, 1), (Fld.REEL_L_REMAIN 1023 0, 1)]).stacks 1023).loops.head? = some ⟨false, 0, 0, 1⟩ ∧ (on []).cueNow 1023 10 10 = true ∧ ((on []).stacks 1023).calls.length < 4 ∧ (on []).cueNow 1023 11 11 = true ∧ ((on []).stacks 1023).loops = [] ∧
    ((on []).stacks 1023).calls = []) := by
  decide

theorem Tests.wit_CuesOfFlow_2 :
  (let on := fun (n : Nat) l => { Tests.st ([(Fld.REEL_STATE 1023, 2)] ++ l) with engines := [{ reel := 1023, callDepth := n }] }; (on 1 []).cueNow 1023 11 11 = true ∧ ((on 1 []).stacks 1023).loops = [] ∧ ((on 1 []).stacks 1023).calls.head? = some 0 ∧
    4 ≤ ((on 4 []).stacks 1023).calls.length ∧ (on 4 []).cueNow 1023 10 10 = true ∧
    (let f := on 0 [(Fld.REEL_L_VALID 1023 0, 1), (Fld.REEL_L_VALID 1023 1, 1), (Fld.REEL_L_VALID 1023 2, 1), (Fld.REEL_L_VALID 1023 3, 1)]; 4 ≤ (f.stacks 1023).loops.length ∧ f.cueNow 1023 8 8 = true)) := by
  decide

theorem Tests.wit_CuesOfEffect :
  (let on := fun l => Tests.st ([(Fld.REEL_STATE 1023, 2)] ++ l); let v := fun (n : Nat) => on [(Fld.REEL_VOICE 1023, n), (Fld.REEL_RS_EN 1023, 1)]; (on []).cueNow 1023 0x18 0x118 = true ∧ cueBits 0x118 8 1 = 1 ∧ (on []).cueNow 1023 0x18 0x18 = true ∧ cueBits 0x18 8 1 = 0 ∧
    (v 1).cueNow 1023 0x20 0x20 = true ∧ cueBits 0x20 8 3 = 0 ∧ (v 1).cueNow 1023 0x20 0x120 = true ∧ cueBits 0x120 8 3 = 1 ∧ (v 2).cueNow 1023 0x20 0x220 = true ∧ cueBits 0x220 9 2 = 1 ∧ (v 0).cueNow 1023 0x20 (0x420 + 2 ^ 64) = true ∧ cueBits (0x420 + 2 ^ 64) 9 2 = 2 ∧
    (v 1).cueNow 1023 0x21 0x21 = true ∧ (v 1).voice 1023 = 1 ∧ cueBits 0x21 8 1 = 0 ∧ cueBits 0x121 8 1 = 1 ∧ (v 2).cueNow 1023 0x21 0x121 = true ∧ (v 3).cueNow 1023 0x21 0x21 = true ∧ (v 3).voice 1023 = 3 ∧ (v 1).cueNow 1023 0x22 (0x122 + 2 ^ 32) = true ∧
    (on []).cueNow 1023 0x28 0x28 = true ∧ (on []).cueNow 1023 0x29 0x29 = true ∧ (on []).cueNow 1023 0x2A 0x2A = true ∧ State.reset.reelState 1023 = 0) := by
  decide

theorem Tests.wit_CuesOfEffect_2 :
  (let s := Tests.st [(Fld.REEL_STATE 1023, 2), (Fld.REEL_DEST0 1023, 512 + 31), (Fld.CH_STATUS_STATE 31, 3)]; s.cueNow 1023 0x23 (0x23 + 2 ^ 32) = true ∧ destKind (s.get (Fld.REEL_DEST0 1023)) = 1 ∧ s.get (Fld.CH_STATUS_STATE 31) = 3 ∧ s.is (Fld.CH_STATUS_RNG_GAP 31) = false ∧
    s.ranges.all (fun p => p.ch != 31) = true ∧ s.get (Fld.CH_RANGE_CUR 31) ≠ 1) := by
  decide

theorem Tests.wit_CuesThatTakeTime :
  (let on := fun (v : Nat) l => Tests.st ([(Fld.REEL_STATE 1023, 2), (Fld.REEL_VOICE 1023, v)] ++ l); let w := 0x1F0001 + 2 ^ 70; (on 1 []).cueNow 1023 1 w = true ∧ ((on 1 []).eng 1023).pendingSet = [] ∧ ((on 1 []).eng 1023).cutEntry = none ∧ cueRate w = 31 ∧ gridUp 0 ((on 1 []).rate 1023) = 0 ∧
    (on 1 []).playFault 1023 w 0 = 0 ∧ (on 1 []).voice 1023 = 1 ∧ (on 1 []).cueNow 1023 2 (0x1F0002 + 2 ^ 70 + 2 ^ 104) = true ∧ (on 1 []).cueNow 1023 0x30 (0x1F0030 + 2 ^ 70) = true ∧ (on 1 []).playFault 1023 (0x1F0030 + 2 ^ 70) 0 = 0 ∧ (on 1 []).playFault 1023 (0x1F0002 + 2 ^ 70 + 2 ^ 104) 0 = 0) := by
  decide

theorem Tests.wit_CuesThatTakeTime_2 :
  (let on := fun l => Tests.st ([(Fld.REEL_STATE 1023, 2)] ++ l); (on []).cueNow 1023 0x10 0x10 = true ∧ (on []).cueNow 1023 0x11 (0x411 + 2 ^ 64) = true ∧ (on []).tick < cueVal (0x411 + 2 ^ 64) ∧ (on []).cueNow 1023 0x11 0x11 = true ∧ cueVal 0x11 ≤ (on []).tick ∧ cueBits (0x411 + 2 ^ 64) 10 1 = 1 ∧
    (on []).cueNow 1023 0x12 (0x12 + 48 * 2 ^ 32) = true ∧ cueBits (0x12 + 48 * 2 ^ 32) 10 2 = 0 ∧ (on []).groupOfDrive 1023 = none ∧ (on []).cueNow 1023 0x3E (0x3E + 7 * 2 ^ 32) = true ∧ (on []).cueNow 1023 0x3F 0x3F = true ∧ (on []).is (Fld.REEL_START_KIND 1023) = false ∧
    (on []).get2 (Fld.REEL_START_PER_LO 1023) (Fld.REEL_START_PER_HI 1023) = 0 ∧ (on [(Fld.REEL_START_KIND 1023, 1)]).is (Fld.REEL_START_KIND 1023) = true ∧ (on [(Fld.REEL_START_KIND 1023, 1)]).cueNow 1023 0x3F 0x3F = true) := by
  decide

theorem Tests.wit_CuesThatTakeTime_3 :
  (let s := Tests.withCard (Tests.st [(Fld.REEL_STATE 1023, 2), (Fld.REEL_DEST0 1023, 512)]) 0 [0x80000000, 64, 0, 0x8000]; let w := 0x1F0001; s.cueNow 1023 1 w = true ∧ s.playFault 1023 w 0 = 0 ∧ s.voice 1023 = 0 ∧ (s.card (cueCard w)).slate = false ∧ (s.card (cueCard w)).streamed = false) := by
  decide

theorem Tests.wit_ReelCommands :
  (let on := fun l => Tests.st ([(Fld.TL_REEL_IDX_REEL 7, 127)] ++ l); let st := fun (n : Nat) l => on ([(Fld.REEL_STATE 1023, n)] ++ l); State.reset.hostOpen = true ∧ (on []).cmdReel 7 = 1023 ∧ (st 0 []).reelState 1023 = 0 ∧ (on []).armCheck 1023 ≠ 0 ∧
    (on [(Fld.REEL_BOOKED 1023, 2), (Fld.TB_STATUS_STATE, 3), (Fld.REEL_START_KIND 1023, 1), (Fld.REEL_STOP_EN 1023, 0)]).armCheck 1023 = 0 ∧ (st 5 []).reelState 1023 = 5 ∧ (st 1 []).reelState 1023 = 1 ∧ (st 1 []).groupOfDrive 1023 = none ∧
    (st 2 [(Fld.TL_REEL_ARG_LO 7, 512)]).tick + 512 ≤ (st 2 [(Fld.TL_REEL_ARG_LO 7, 512)]).get2 (Fld.TL_REEL_ARG_LO 7) (Fld.TL_REEL_ARG_HI 7) ∧ (st 2 []).get2 (Fld.TL_REEL_ARG_LO 7) (Fld.TL_REEL_ARG_HI 7) < (st 2 []).tick + 512 ∧ (st 6 []).reelState 1023 = 6) := by
  decide

theorem Tests.wit_ReelCommands_2 :
  (let x : Trigger := ⟨55, 0, 0, none, false, false, 1⟩; let y : Trigger := ⟨111, 0, 0, some 8, false, false, 1⟩; let s := { Tests.st [(Fld.REEL_ARM_GRP 1023, 7), (Fld.REEL_STATE 1023, 5)] with triggers := [x, y] }; s.waiting 55 false = some x ∧ s.groupReels 7 7 = [1023] ∧ s.reelState 1023 = 5 ∧
    s.waiting 111 true = some y ∧ ({ State.reset with triggers := [x] } : State).groupReels 7 7 = [] ∧ ({ State.reset with triggers := [x] } : State).waiting 55 false = some x ∧ 8 + dCut < 2 ^ 64 ∧ (Tests.st [(Fld.REEL_STATE 1023, 2)]).stoppable 1023 = true) := by
  decide

theorem Tests.wit_ReelRun :
  (let gap : WinCue := ⟨0, 0x1F0030 + 2 ^ 70, 0, []⟩; let on := fun (n : Nat) (e : Engine) => { Tests.st [(Fld.REEL_STATE 1023, n), (Fld.REEL_VOICE 1023, 1)] with engines := [e] }; let armed : Engine := { reel := 1023, window := [gap] }; let run : Engine := { reel := 1023, run := true, started := true, window := [{ gap with q := 0 }, { gap with q := 1 }] };
    (on 1 armed).voice 1023 = 1 ∧ (on 1 armed).reelState 1023 = 1 ∧ (on 1 armed).startTick 1023 = some 0 ∧ (on 1 armed).displaced 1023 0 = false ∧ ((on 1 armed).eng 1023).window.head? = some gap ∧ gap.q = (on 1 armed).get (Fld.REEL_SP 1023) ∧ (on 1 armed).nextGap 1023 gap = true ∧
    ((on 1 armed).set2 (Fld.REEL_STOP_TICK_LO 1023) (Fld.REEL_STOP_TICK_HI 1023) 0).displaced 1023 0 = true ∧ (on 2 run).reelState 1023 = 2 ∧ ((on 2 run).eng 1023).endB = 0 ∧ (on 2 run).displaced 1023 0 = false ∧ cueOp ((on 2 run).curCue 1023).w = 0x30 ∧
    ((on 2 run).eng 1023).window.tail.head? = some { gap with q := 1 } ∧ (on 2 run).nextGap 1023 { gap with q := 1 } = true ∧ ((on 2 run).curCue 1023).q = 0 ∧ (on 2 { run with endB := 2 }).displaced 1023 0 = false ∧ ((on 2 { run with endB := 2 }).eng 1023).passStart + ((on 2 { run with endB := 2 }).eng 1023).passLen < 2) := by
  decide

theorem Tests.wit_ReelRun_2 :
  (let gap : WinCue := ⟨1, 0x1F0030 + 2 ^ 70, 0, []⟩; let on := fun (e : Engine) => { Tests.st [(Fld.REEL_STATE 1023, 3), (Fld.REEL_VOICE 1023, 1), (Fld.REEL_WAIT_END_LO 1023, 3)] with engines := [e], tick := 5 }; let tick : Engine := { reel := 1023, window := [⟨0, 0x11, 0, []⟩, gap] }; let w : WinCue := ⟨0, 0x10 + 2 ^ 48 + 2 ^ 64, 0, []⟩;
    let tmo : Engine := { reel := 1023, window := [w], targets := [(1, [gap])] };
    (on tick).reelState 1023 = 3 ∧ (on tick).waitDone 1023 = some 3 ∧ (on tick).displaced 1023 3 = false ∧ ((on tick).eng 1023).window.tail.head? = some gap ∧ gap.q = ((on tick).curCue 1023).q + 1 ∧ (on tick).nextGap 1023 gap = true ∧ cueOp ((on tmo).curCue 1023).w = 0x10 ∧
    cueDw ((on tmo).curCue 1023).w 2 = 1 ∧ (on tmo).firstEvent (cueDw ((on tmo).curCue 1023).w 1 % 128) 0 1 = none ∧ (on tmo).displaced 1023 1 = false ∧ ((on tmo).eng 1023).targets.find? (fun x => x.1 == 1) = some (1, [gap]) ∧ (on tmo).nextGap 1023 gap = true ∧ bitsOf (cueDw w.w 1) 16 16 = 1) := by
  decide

theorem Tests.wit_ReelRun_3 :
  (let s := Tests.st [(Fld.REEL_STATE 1023, 2), (Fld.REEL_STOP_TICK_LO 1023, 0), (Fld.REEL_STOP_TICK_HI 1023, 0)]; s.reelState 1023 = 2 ∧ s.get2 (Fld.REEL_STOP_TICK_LO 1023) (Fld.REEL_STOP_TICK_HI 1023) ≤ s.tick ∧ s.faultBy 1023 0 = false ∧ s.groupOfDrive 1023 = none ∧ State.reset.stoppable 1023 = false) := by
  decide

theorem Tests.wit_ReelRun_4 :
  (let s := fun l => { Tests.st ([(Fld.REEL_STATE 1023, 5)] ++ l) with tick := 32 }; let again := s [(Fld.REEL_RESTART_PENDING 1023, 1), (Fld.TB_STATUS_STATE, 3), (Fld.REEL_START_KIND 1023, 1), (Fld.REEL_BOOKED 1023, 2), (Fld.REEL_STOP_EN 1023, 0)]; (s []).reelState 1023 = 5 ∧ ((s []).eng 1023).stopAt / 8 + 4 ≤ 32 / 8 ∧
    (s []).is (Fld.REEL_RESTART_PENDING 1023) = false ∧ again.is (Fld.REEL_RESTART_PENDING 1023) = true ∧ again.timeRunning = true ∧ again.is (Fld.REEL_START_KIND 1023) = true ∧ again.get (Fld.REEL_BOOKED 1023) ≠ 31 ∧ again.recordBad 1023 = false ∧ again.is Lat.CAL_RUN = false ∧
    (let f := { s [] with engines := [{ reel := 1023, fault := some (14, 0) }] }; (f.eng 1023).fault = some (14, 0) ∧ f.reelState 1023 = 5 ∧ f.groupOfDrive 1023 = none) ∧ ((s []).eng 1023).fault = none) := by
  decide

theorem Tests.wit_EventStampsAndCuts :
  (let p : Pulse := ⟨127, 0, none, none, false, []⟩; let q : Pulse := { p with stamp := some 5 }; let s := fun (l : List Pulse) => { State.reset with pulses := l }; (s []).pulses.all (fun p => p.ch != 127 || p.tiles.any (fun x => x.1 == 7)) = true ∧ (s [p]).pulses.head? = some p ∧ p.ch = 127 ∧ p.tiles.all (fun x => x.1 != 7) = true ∧
    p.origin = none ∧ p.stamp = none ∧ minTick q.origin q.stamp = some 5 ∧ (s [q]).tick ≤ 5 + 384 ∧ 5 + 384 < ({ s [q] with tick := 500 } : State).tick ∧ (s [q]).get (Fld.TL_EVR_SEL_EVC 7) ≠ 127 ∧ (Tests.st [(Fld.TL_EVR_SEL_EVC 7, 127)]).get (Fld.TL_EVR_SEL_EVC 7) = 127) := by
  decide

theorem Tests.wit_EventStampsAndCuts_2 :
  (let s := fun (ev : List Ev) => { Tests.st [(Fld.REEL_STATE 1023, 2), (Fld.REEL_CUT_ARMED 1023, 1), (Fld.REEL_CUT_EVC 1023, 127)] with events := ev }; State.reset.is (Fld.REEL_CUT_ARMED 1023) = false ∧ (s []).is (Fld.REEL_CUT_ARMED 1023) = true ∧ ((s []).eng 1023).commit = none ∧ (s []).reelState 1023 = 2 ∧
    (s []).firstEvent ((s []).get (Fld.REEL_CUT_EVC 1023)) 0 (2 ^ 65) = none ∧ (s [⟨127, 3, 4, false⟩]).firstEvent 127 0 (2 ^ 65) = some ⟨127, 3, 4, false⟩) := by
  decide

theorem Tests.wit_EventStampsAndCuts_3 :
  (let k : Commit := ⟨9, 0, false, 3, 4, false, 0, 0, 1, 4, 0⟩; let c : WinCue := ⟨9, 0x1F0030 + 2 ^ 70, 0, []⟩; let s := fun (n : Nat) => { Tests.st [(Fld.REEL_STATE 1023, 2), (Fld.REEL_VOICE 1023, 1)] with tick := n, engines := [{ reel := 1023, commit := some k, targets := [(9, [c])] }] };
    ((s 4).eng 1023).commit = some k ∧ k.kind = 1 ∧ k.e ≤ (s 4).tick ∧ (s 3).tick < k.e ∧ k.x ≤ (s 4).tick ∧ (s 4).displaced 1023 k.x = false ∧ (s 4).reelState 1023 = 2 ∧ (s 4).voice 1023 = 1 ∧ ((s 4).eng 1023).pendingSet = [] ∧ ((s 4).eng 1023).targets.find? (fun x => x.1 == 9) = some (9, [c]) ∧
    ((s 4).set2 (Fld.REEL_STOP_TICK_LO 1023) (Fld.REEL_STOP_TICK_HI 1023) 0).displaced 1023 k.x = true) := by
  decide

theorem Tests.wit_HeadsAndLateData :
  (let s := { State.reset with loans := [⟨1023, 262143, 0, true⟩] }; s.loans.any (fun l => l.card == 262143 && tileOfReel l.reel == 7 && l.inForce) = true ∧ State.reset.loans.any (fun l => l.card == 262143 && tileOfReel l.reel == 7 && l.inForce) = false) := by
  decide

theorem Tests.wit_HeadsAndLateData_2 :
  (let s := fun l => { Tests.st ([(Fld.REEL_STATE 1023, 2)] ++ l) with engines := [{ reel := 1023, run := true, started := true, window := [⟨0, 1, 0, []⟩] }] }; State.reset.reelState 1023 ≠ 2 ∧ (s []).reelState 1023 = 2 ∧ (s []).playsData 1023 = true ∧ ((s []).eng 1023).late = none ∧ (s []).lateShadow 1023 2 = none ∧
    (s []).is (Fld.LDG_ACTIVE 22) = false ∧ (s []).get (Fld.REEL_LATE_POL 1023) ≠ 3 ∧ (s [(Fld.REEL_LATE_POL 1023, 3)]).get (Fld.REEL_LATE_POL 1023) = 3 ∧ ((s []).eng 1023).guard ≤ 0 ∧ ((s []).card ((s []).get (Fld.REEL_CARD 1023))).streamed = false ∧
    (s [(Fld.REEL_LATE_POL 1023, 3)]).playsData 1023 = true ∧ (s [(Fld.REEL_LATE_POL 1023, 3)]).lateShadow 1023 2 = none) := by
  decide

theorem Tests.wit_HeadsAndLateData_3 :
  (let s := { Tests.st [(Fld.REEL_STATE 1023, 4)] with engines := [{ reel := 1023, late := some (0, 3) }] }; s.reelState 1023 = 4 ∧ s.tick % 8 = 0 ∧ (s.eng 1023).late = some (0, 3) ∧
    (let c : WinCue := ⟨9, 0x1F0030 + 2 ^ 70, 0, []⟩; let u := { Tests.st [(Fld.REEL_STATE 1023, 2), (Fld.REEL_RECOVER 1023, 9)] with engines := [{ reel := 1023, recAt := some 0, targets := [(9, [c])] }] }; (u.eng 1023).recAt = some 0 ∧ u.displaced 1023 0 = false ∧ u.reelState 1023 = 2 ∧ u.voice 1023 = 0 ∧
      (u.eng 1023).pendingSet = [] ∧ (u.eng 1023).targets.find? (fun y => y.1 == u.get (Fld.REEL_RECOVER 1023)) = some (9, [c]) ∧ s.reelState 1023 ≠ 2)) := by
  decide

theorem Tests.wit_SegmentWindowAndCards :
  (State.reset.hostOpen = true ∧ State.reset.is Lat.STK_SR = false ∧ State.reset.badBursts = [] ∧ 0x1000000 % 64 + 1 ≤ 64 ∧ State.reset.dropCause 0x8000 = none ∧ State.reset.dropCause 0 = some 1 ∧ State.reset.is Lat.WDROP_LATCHED = false ∧ State.reset.is (Fld.LDG_ACTIVE 18) = false ∧
    (Tests.st [(Fld.LDG_ACTIVE 18, 1)]).is (Fld.LDG_ACTIVE 18) = true ∧ 4096 + 0 ≤ 2 ^ 36 ∧ (Tests.st [(Fld.AON_PWR_STATUS_STATE, 3)]).get Fld.AON_PWR_STATUS_STATE = 3 ∧ (Tests.st [(Fld.AON_PWR_STATUS_STATE, 5)]).get Fld.AON_PWR_STATUS_STATE = 5 ∧
    (Tests.st [(Fld.MS_CARD_CMD_BUSY, 1)]).is Fld.MS_CARD_CMD_BUSY = true ∧ State.reset.is Fld.MS_CARD_CMD_BUSY = false ∧ State.reset.cardCheck 0 State.reset.stagedCard = 0 ∧
    (let s := Tests.st [(Fld.MS_CARD_DATA 0, 0x80000000)]; s.cardCheck 0 s.stagedCard ≠ 0) ∧ (Tests.st [(Lat.CARD_WR, 1)]).is Lat.CARD_WR = true ∧ State.reset.is Lat.CARD_WR = false ∧ State.reset.cards.length < 2048 ∧
    State.reset.cards.contains (7, 262143) = false ∧ State.reset.cardInvalid 262143 = true ∧ State.reset.is (Fld.LDG_ACTIVE 17) = false) := by
  decide

theorem Tests.wit_SegmentWindowAndCards_2 :
  (Tests.withCard State.reset 3 [0x80000000, 64, 0, 0x8000]).cardInvalid 3 = false := by
  decide

theorem Tests.wit_StreamSlots :
  (let bound := Tests.withCard (Tests.st [(Fld.MS_STRM_CARD_BOUND 1023, 1), (Fld.MS_STRM_CARD_CARD 1023, 3), (Fld.MS_STRM_CFG_SRC_KIND 1023, 3)]) 3 [0xC4000000, 64, 0, 0x8000, 2, 0, 1023]; let o : Nat × Nat × Nat := (1023, 0, 0); ({ bound with offers := [o] } : State).offers.find? (fun o => o.1 == 1023) = some o ∧
    (bound.boundCard 1023).map (·.1) = some 3 ∧ (bound.boundCard 1023).map (·.2.listLen) = some 2 ∧ bound.get (Fld.MS_STRM_CFG_SRC_KIND 1023) = 3 ∧ bound.get (Fld.MS_STRM_CFG_SRC 1023) = o.2.1 ∧ o.2.2 % 2 ^ 32 = bound.get (Fld.MS_STRM_FILL 1023) ∧ seqDiff (bound.retained 1023) 0 < 2 ∧
    State.reset.boundCard 1023 = none ∧ (bound.commitSlot 1023 3 0 0).1 = true ∧ State.reset.offers.all (fun o => o.1 != 1023) = true ∧ State.reset.hostOpen = true ∧ State.reset.slotFree 1023 = true) := by
  decide

theorem Tests.wit_StreamSlots_2 :
  (let s := { Tests.st [(Fld.MS_STRM_CARD_BOUND 1023, 1), (Fld.MS_STRM_CARD_CARD 1023, 3)] with loans := [⟨5, 3, 0, true⟩] }; s.slotFree 1023 = false ∧ State.reset.get (Lat.STRM_NEXT 1023) = 0 ∧
    (let p := { Tests.st [(Lat.STRM_NEXT 1023, 5), (Fld.MS_STRM_FILL 1023, 1)] with tick := 5 }; p.get (Lat.STRM_NEXT 1023) ≠ 0 ∧ p.get (Lat.STRM_NEXT 1023) ≤ p.tick ∧ p.boundCard 1023 = none ∧ p.get (Fld.MS_STRM_FILL 1023) ≠ p.get (Fld.MS_STRM_PLAY 1023)) ∧
    s.loans.find? (fun l => l.card == 3) = some ⟨5, 3, 0, true⟩) := by
  decide

theorem Tests.wit_WindowLoans :
  (State.reset.reelState 1023 = 0 ∧ (Tests.st [(Fld.REEL_STATE 1023, 1)]).reelState 1023 = 1 ∧ (State.reset.eng 1023).window = [] ∧ State.reset.is (Fld.LDG_ACTIVE 20) = false ∧ State.reset.loans.all (fun l => l.card != 262143) = true ∧
    (let s := { State.reset with tick := 8, loans := [⟨1023, 262143, 0, false⟩] }; s.firstTaken 262143 = some 0 ∧ forceTick (s.coveredLeaves (s.card 262143)) 0 ≤ s.tick ∧ ({ s with tick := 0 } : State).tick < forceTick (s.coveredLeaves (s.card 262143)) 0)) := by
  decide

theorem Tests.wit_StacksAndScratchpads :
  (let s := Tests.st [(Fld.MS_STK_STATUS_REFRESH 3, 1), (Lat.STK_COLD_SINCE 3, 100), (Fld.MS_STK_STATUS_OVER_CLASS 3, 1), (Lat.STK_BOOK_COLD 3, 100)]; s.get (Fld.MS_STK_STATUS_REFRESH 3) ≠ 0 ∧ 100 ≤ s.get (Lat.STK_COLD_SINCE 3) ∧ State.reset.get (Fld.MS_STK_STATUS_REFRESH 3) = 0 ∧ State.reset.is (Fld.MS_STK_STATUS_OVER_CLASS 3) = false ∧
    s.is (Fld.MS_STK_STATUS_OVER_CLASS 3) = true ∧ 100 ≤ s.get (Lat.STK_BOOK_COLD 3) ∧ (∀ i ∈ [0, 1, 2, 3], i ≠ 3 → s.is (Fld.MS_STK_STATUS_OVER_CLASS i) = false) ∧ (∃ i ∈ [0, 1, 2, 3], i ≠ 3 ∧ (s.set (Fld.MS_STK_STATUS_OVER_CLASS 0) 1).is (Fld.MS_STK_STATUS_OVER_CLASS i) = true) ∧
    State.reset.hostOpen = true ∧ State.reset.recOpen 1023 = true ∧ (Tests.st [(Fld.REEL_STATE 1023, 1)]).recOpen 1023 = false ∧ 2 ^ 25 ≤ 2 ^ 25 ∧ (0x40000 : Nat) < 2 ^ 25 ∧ 0x40000 % 0x400000 / 0x20000 = (0x40000 + 1) % 0x400000 / 0x20000 ∧ 0x40000 % 0x400000 / 0x20000 ≠ 1 ∧
    State.reset.offline 0x40000 = false ∧ (Tests.st [(Fld.TL_SP_OFFLINE 0, 4)]).offline 0x40000 = true) := by
  decide

theorem Tests.wit_StacksAndScratchpads_2 :
  ((5 : Nat).testBit 31 = false ∧ (0x80000005 : Nat).testBit 31 = true ∧ (0x80000000 : Nat) % 32 = 0 ∧ (Tests.st [(Fld.TL_MARCH_STATUS_BUSY 7, 1)]).is (Fld.TL_MARCH_STATUS_BUSY 7) = true ∧ State.reset.is (Fld.TL_MARCH_STATUS_BUSY 7) = false ∧ (Tests.st [(Fld.TL_REEL_ACTIVE 7 0, 1), (Fld.REEL_STATE 896, 2)]).tileIdle 7 = false ∧
    State.reset.tileIdle 7 = true ∧ (Tests.st [(Lat.MARCH_MODE 7, 1)]).is (Lat.MARCH_MODE 7) = true ∧ State.reset.is (Lat.MARCH_MODE 7) = false ∧ State.reset.get (Fld.TL_MARCH_STATUS_BANK 7) ≠ 1 ∧ (3 : Nat) ≠ 0) := by
  decide

theorem Tests.wit_DmaQueues :
  (let st := fun (n : Nat) l => Tests.st ([(Fld.DMA_Q_STATUS_STATE 63, n)] ++ l); State.reset.hostOpen = true ∧ (2 : Fin 4) ≠ 0 ∧ ((2 : Fin 4) : Nat) ≠ ((63 : Fin 64) : Nat) / 16 ∧ ((3 : Fin 4) : Nat) = ((63 : Fin 64) : Nat) / 16 ∧ (st 0 []).get (Fld.DMA_Q_STATUS_STATE 63) = 0 ∧ (st 0 []).ringBase 63 % 64 = 0 ∧
    (st 0 [(Fld.DMA_Q_BASE_LO 63, 64)]).ringBase 63 % 64 = 0 ∧ (st 1 []).get (Fld.DMA_Q_STATUS_STATE 63) = 1 ∧ (st 2 []).get (Fld.DMA_Q_STATUS_STATE 63) = 2 ∧ (st 3 []).get (Fld.DMA_Q_STATUS_STATE 63) = 3 ∧ (st 1 []).unprocessed 63 ≤ (st 1 []).ahead 63 5 ∧
    (st 1 [(Fld.DMA_Q_TAIL 63, 5)]).ahead 63 2 < (st 1 [(Fld.DMA_Q_TAIL 63, 5)]).unprocessed 63 ∧ (st 2 []).ended 63 = [] ∧ ({ st 2 [] with dmaDone := [⟨63, 0, 0, false⟩] } : State).ended 63 ≠ [] ∧ (st 0 []).dmaReady 63 false true = false) := by
  decide

theorem Tests.wit_DmaQueues_2 :
  (let s := Tests.st [(Fld.DMA_Q_STATUS_STATE 63, 1), (Fld.DMA_Q_TAIL 63, 5), (Fld.SYS_PF_CFG_BME 3, 1)]; let w := fun (op dev : Nat) => descOf [op, 8, 0, 0, dev, 0, 0, 0]; s.dmaReady 63 false true = true ∧ s.dmaReady 63 false false = true ∧ (descOf [1, 0]).bad = true ∧ (descOf [1, 0]).op = 1 ∧ (w 1 0x80000000).bad = false ∧
    (w 1 0x80000000).op = 1 ∧ (w 1 0x80000000).fence = false ∧ (w 1 0x80000000).len = 8 ∧ s.badBursts = [] ∧ (w 1 0x80000000).dev % 64 + 8 ≤ 64 ∧ s.dropCause ((w 1 0x80000000).dev / 65536) = none ∧ s.dropCause ((w 1 0).dev / 65536) ≠ none ∧ (w 1 0).commit = false ∧ (w 0x101 0x80000000).commit = true ∧
    (w 0x101 0x80000000).bad = false ∧ s.boundCard 0 = none ∧ (w 2 0).op = 2 ∧ (w 2 0).bad = false ∧ (w 3 0x40000).op = 3 ∧ s.offline (w 3 0x40000).dev = false ∧ (w 3 0x40000).bad = false ∧ (w 4 0x40000).bad = false ∧ (w 4 0x40000).op = 4 ∧ (descOf [5, 64]).op = 5 ∧ (descOf [5, 64]).bad = false ∧
    s.cardCheck 0 (List.replicate 16 0) = 0 ∧ s.cardCheck 0 [0x80000000] ≠ 0 ∧ (s.ended 63).head? = none ∧ ({ s with dmaDone := [⟨63, 3, 0, true⟩] } : State).ended 63 = [⟨63, 3, 0, true⟩] ∧ ({ s with dmaDone := [⟨63, 1, 4, true⟩] } : State).ended 63 = [⟨63, 1, 4, true⟩] ∧ s.is (Fld.LDG_ACTIVE 28) = false ∧ (descOf [6]).op = 6) := by
  decide

theorem Tests.wit_LinkStates :
  (let st := fun (n : Nat) l => Tests.st ([(Fld.LK_STATUS_STATE 15, n)] ++ l); State.reset.hostOpen = true ∧ (st 0 []).linkState 15 = 0 ∧ (st 0 [(Fld.LK_CFG_ROLE 15, 1)]).linkRole 15 ≠ 0 ∧ (st 0 [(Lat.TB_EVER, 1)]).is Lat.TB_EVER = true ∧ State.reset.unitsPowered = true ∧ (st 0 []).linkRole 15 = 0 ∧ (st 6 []).linkState 15 = 6 ∧
    (st 5 []).linkState 15 = 5 ∧ (st 3 []).linkState 15 = 3 ∧ (st 3 []).linkInputs 15 = [] ∧ (st 3 []).get (Lat.LK_TIU 15) = 0 ∧ (st 6 [(Fld.LK_STATUS_RESTART_PENDING 15, 1)]).is (Fld.LK_STATUS_RESTART_PENDING 15) = true ∧ (st 1 [(Lat.LK_GOOD 15, 4)]).get (Lat.LK_GOOD 15) = 4 ∧ (st 1 []).linkState 15 = 1 ∧
    (st 1 []).get (Lat.LK_PROLE 15) + (st 1 []).linkRole 15 ≠ 3 ∧ (let a := st 1 [(Lat.LK_PROLE 15, 2), (Fld.LK_CFG_ROLE 15, 1)]; a.get (Lat.LK_PROLE 15) + a.linkRole 15 = 3 ∧ a.get (Fld.LK_STATUS_PARTNER_DEV 15) = a.get Fld.LK_STUDIO_DEV ∧ (a.set (Fld.LK_STATUS_PARTNER_DEV 15) 5).get (Fld.LK_STATUS_PARTNER_DEV 15) ≠ (a.set (Fld.LK_STATUS_PARTNER_DEV 15) 5).get Fld.LK_STUDIO_DEV) ∧
    (st 1 [(Fld.TIU_STATUS_RSV 21, 3), (Fld.TIU_STATUS_RSV 22, 3), (Fld.TIU_STATUS_RSV 23, 3)]).freeTiu 7 = none ∧ (st 1 []).freeTiu 7 = some 21 ∧ (3 : Fin 4) ≠ 0 ∧ State.reset.is (Fld.LDG_ACTIVE 27) = false ∧ (st 4 []).linkState 15 = 4) := by
  decide

theorem Tests.wit_LinkStates_2 :
  (let m := fun (r : Nat) => Tests.st [(Fld.LK_STATUS_STATE 15, 2), (Lat.LK_N 15, 1024), (Lat.LK_SUM_R 15, r), (Fld.LK_STUDIO_LEAD, 1)]; (m 0).linkState 15 = 2 ∧ 1024 ≤ (m 0).get (Lat.LK_N 15) ∧ divRound ((m 0).geti (Lat.LK_SUM_R 15)) 1024 ≤ 2 * 1600 * 65536 ∧ 0 ≤ divRound ((m 0).geti (Lat.LK_SUM_R 15)) 1024 ∧ (m 0).linkInputs 15 = [] ∧ (m 0).is Fld.LK_STUDIO_LEAD = true ∧
    2 * 1600 * 65536 < divRound ((m (2 ^ 40)).geti (Lat.LK_SUM_R 15)) 1024 ∧ State.reset.get (Lat.LK_N 15) < 1024 ∧ crc8 1 56 0 ≠ bitsOf 1 56 8 ∧ crc8 0 56 0 = bitsOf 0 56 8 ∧ (Tests.st [(Lat.LK_TIU 15, 22)]).get (Lat.LK_TIU 15) ≠ 0) := by
  decide

theorem Tests.wit_LinkFramesAndMessages :
  (let st := fun (n : Nat) l => Tests.st ([(Fld.LK_STATUS_STATE 15, n)] ++ l); let q := { st 3 [] with txq := [(15, 7, 5, true)] }; State.reset.linkState 15 = 0 ∧ (st 1 []).linkState 15 = 1 ∧ (st 3 []).tick % 528 = 0 ∧ (st 3 []).get (Lat.LK_SENT 15) ≠ (st 3 []).tick / 528 + 1 ∧ (st 3 []).linkState 15 = 3 ∧
    (st 3 []).txs.all (fun x => x.link != 15) = true ∧ (st 3 []).is (Lat.LK_HDR 15) = false ∧ (st 3 []).txq.all (fun m => m.1 != 15) = true ∧ q.txq.head? = some (15, 7, 5, true) ∧ q.txq.tail.all (fun m => m.1 != 15) = true ∧
    crcBlocks [0, 0, 0] = bitsOf 0 56 8 ∧ crcBlocks [1, 0, 0] ≠ bitsOf 1 56 8 ∧ (st 3 [(Lat.LK_HDR 15, 1)]).is (Lat.LK_HDR 15) = true ∧ (st 3 []).get (Lat.LK_HDR_F 15) = 0 / 528 % 2 ^ 40 ∧ (st 3 [(Lat.LK_HDR_F 15, 1)]).get (Lat.LK_HDR_F 15) ≠ 0 / 528 % 2 ^ 40 ∧ crc8 1 56 0 ≠ bitsOf 1 56 8 ∧ crc8 0 56 0 = bitsOf 0 56 8 ∧ (st 3 []).asleep = false) := by
  decide

theorem Tests.wit_LinkFramesAndMessages_2 :
  (crcBlocks [0] = bitsOf 0 56 8 ∧ crcBlocks [1] ≠ bitsOf 1 56 8 ∧ State.reset.get (Fld.LK_RXS_CFG_MODE 15 3) = 0 ∧ (Tests.st [(Fld.LK_RXS_CFG_MODE 15 3, 1)]).get (Fld.LK_RXS_CFG_MODE 15 3) = 1 ∧ (Tests.st [(Fld.LK_RXS_CFG_MODE 15 3, 2)]).get (Fld.LK_RXS_CFG_MODE 15 3) = 2 ∧ (64 : Nat).testBit 6 = true ∧ State.reset.get (Fld.MS_STRM_CFG_SRC_KIND 1023) ≠ 2 ∧
    (15 : Fin 16) ≠ 0 ∧ (Tests.st [(Fld.AON_PWR_STATUS_STATE, 4)]).get Fld.AON_PWR_STATUS_STATE = 4 ∧ State.reset.is (Fld.LK_TXEV_ECHO 15 7) = false ∧ (Tests.st [(Fld.LK_TXEV_ECHO 15 7, 1)]).is (Fld.LK_TXEV_ECHO 15 7) = true ∧
    (let x : Trigger := ⟨383, 0, 0, some 8, false, false, 1⟩; let s := { Tests.st [(Fld.LK_STATUS_STATE 15, 3)] with triggers := [x] }; s.waiting 383 true = some x ∧ s.linkState 15 = 3 ∧ (s.txq.filter (fun y => y.1 == 15)).length < 32 ∧ ({ s with txq := List.replicate 32 (15, 0, 0, false) } : State).txq.length = 32)) := by
  decide

theorem Tests.wit_StudioAlignment :
  (let st := fun (n : Nat) l => Tests.st ([(Fld.LK_STUDIO_STATUS_STATE, n), (Fld.LK_CFG_ROLE 15, 1)] ++ l); State.reset.hostOpen = true ∧ (Tests.st [(Fld.LK_STUDIO_LEAD, 1)]).is Fld.LK_STUDIO_LEAD = true ∧ State.reset.is Fld.LK_STUDIO_LEAD = false ∧ State.reset.upLink = none ∧ (st 0 []).upLink = some 15 ∧ (st 2 []).get Fld.LK_STUDIO_STATUS_STATE = 2 ∧
    (st 1 [(Fld.LK_STATUS_CAUSE 15, 10)]).get (Fld.LK_STATUS_CAUSE 15) = 10 ∧ (st 1 []).get (Fld.LK_STATUS_CAUSE 15) ≠ 10 ∧ (st 1 []).allIdle = true ∧ (st 1 [(Fld.REEL_STATE 5, 1), (Fld.TL_REEL_ACTIVE 0 0, 32)]).allIdle = false ∧ (st 2 [(Fld.LK_STATUS_STATE 15, 3)]).linkState 15 = 3 ∧
    (st 2 [(Fld.LK_STATUS_PARTNER_ALIGNED 15, 1)]).is (Fld.LK_STATUS_PARTNER_ALIGNED 15) = true ∧ (let v := st 4 [(Lat.ST_OUT, 1), (Lat.ST_FRESH, 1)]; v.get Fld.LK_STUDIO_STATUS_STATE = 4 ∧ v.is Lat.ST_OUT = true ∧ v.is Lat.ST_FRESH = true ∧ v.withinTenths (v.theta 15) (v.get Fld.LK_STUDIO_CFG_TOL) = true ∧
      (v.set (Fld.LK_THETA_LO 15) 1).withinTenths ((v.set (Fld.LK_THETA_LO 15) (2 ^ 30)).theta 15) 0 = false) ∧ (st 6 [(Fld.LK_STUDIO_CFG_AUTO_ALIGN, 1)]).is Fld.LK_STUDIO_CFG_AUTO_ALIGN = true ∧ (st 3 [(Fld.TB_STATUS_STATE, 3)]).locked = true ∧ State.reset.locked = false) := by
  decide

theorem Tests.wit_StagedVoiceUpdates :
  (let st := fun (n k v : Nat) l => Tests.st ([(Fld.TL_VSTG_REEL 7, 127), (Fld.REEL_STATE 1023, n), (Fld.TL_VSTG_KIND 7, k), (Fld.TL_VSTG_VAL_LO 7, v), (Fld.REEL_VOICE 1023, 1)] ++ l); State.reset.hostOpen = true ∧ (st 2 3 1 []).stgReel 7 = 1023 ∧ (st 0 3 1 []).reelState 1023 = 0 ∧ (st 2 3 1 []).reelState 1023 = 2 ∧
    (st 2 3 1 []).groupOfDrive 1023 = none ∧ (st 2 0 0 [(Fld.COR_GRP_DRV_VALID 3 15, 1), (Fld.COR_GRP_DRV_REEL 3 15, 1023)]).groupOfDrive 1023 = some 3 ∧ kindFits 4 1 = false ∧ kindFits 3 1 = true ∧ (st 2 3 1 []).voice 1023 = 1 ∧ kindInRange 3 0x10001 = false ∧ kindInRange 3 0x10000 = true ∧
    (State.reset.eng 1023).staged = [] ∧ (({ State.reset with engines := [{ reel := 1023, staged := [(3, 7)] }] } : State).eng 1023).staged ≠ []) := by
  decide

theorem Tests.wit_StagedVoiceUpdates_2 :
  (let st := fun (k : Nat) => ({ Tests.st [(Fld.REEL_STATE 1023, 2), (Fld.REEL_VOICE 1023, 2), (Fld.REEL_FTW_CUR_HI 1023, 2 ^ 30), (Fld.REEL_RATE 1023, 0)] with tick := 68, engines := [{ reel := 1023, pendingSet := [(k, 5)], pendingAt := 4 }] } : State); ((st 3).eng 1023).pendingSet.head? = some (3, 5) ∧ ((st 3).eng 1023).pendingSet.length = 1 ∧ (st 3).stoppable 1023 = true ∧ (st 3).voiceBoundary 1023 68 = true ∧ (st 3).groupOfDrive 1023 = none ∧
    ((st 0).eng 1023).piece = none ∧ ({ st 1 with tick := 69 } : State).voiceBoundary 1023 69 = false) := by
  decide

theorem Tests.wit_StagedVoiceUpdates_3 :
  (let st := fun (n : Nat) row => ({ Tests.st [(Fld.REEL_STATE 1023, 2), (Fld.REEL_RATE 1023, 0), (Fld.REEL_SWP_CNT 1023, n), (Fld.REEL_STOP_TICK_HI 1023, 9)] with tick := 64, engines := [{ reel := 1023, run := true, endB := 90, piece := some 0, sweepEnd := some 64, sweepEntry := some row }] } : State); let s := st 1 0; (s.eng 1023).sweepEnd = some 64 ∧ (s.eng 1023).run = true ∧ 64 < (s.eng 1023).endB ∧ s.displaced 1023 64 = false ∧ s.cutBy 1023 64 = false ∧ (s.eng 1023).piece = some 0 ∧
    s.get (Fld.REEL_SWP_CNT 1023) ≤ s.get (Fld.REEL_SWP_IDX 1023) + 1 ∧ (st 2 (64 * 2 ^ 64)).get (Fld.REEL_SWP_IDX 1023) + 1 < (st 2 (64 * 2 ^ 64)).get (Fld.REEL_SWP_CNT 1023) ∧ bitsOf (64 * 2 ^ 64) 64 40 % 2 ^ (st 2 (64 * 2 ^ 64)).rate 1023 = 0 ∧ bitsOf (64 * 2 ^ 64) 104 24 = 0 ∧ (st 2 0).reelState 1023 = 2) := by
  decide

end Sys2Proof.Machine
end

section
/-!
PROOFS. The host's commands of the PLL and of REF_CFG (O7): what a run of writes gives its fields, the time base's start and stop as
runs of writes, and the commands assembled from them.
-/
namespace Sys2Proof.Machine

/-! ### Runs of writes -/

/-- Each field of a run of writes that writes no field twice reads its own value, where that fits the field. -/
theorem State.get_sets_of_mem (s : State) (l : List (Key × Nat)) (hn : (l.map Prod.fst).Nodup) (hw : ∀ q ∈ l, q.2 < 2 ^ q.1.w) :
    ∀ q ∈ l, (s.sets l).get q.1 = q.2 := by
  induction l generalizing s with
  | nil => simp
  | cons p l ih =>
    obtain ⟨k, v⟩ := p
    simp only [List.map_cons, List.nodup_cons] at hn
    obtain ⟨hk, hn⟩ := hn
    have hkept : named l k = false := by
      simpa [named] using fun a v h (e : a = k) => hk (List.mem_map.mpr ⟨(a, v), h, e⟩)
    intro q hq
    rcases List.mem_cons.mp hq with rfl | hq
    · rw [State.sets_cons, State.get_sets_of_not_named _ _ _ hkept, State.get_set_self, Nat.mod_eq_of_lt (hw _ List.mem_cons_self)]
    · exact ih (s.set k v) hn (fun p hp => hw p (List.mem_cons_of_mem _ hp)) q hq

/-- A command that writes the fields of `l` and then changes only what lies in a frame outside them. -/
theorem Does.of_sets {c : Instr} {s t : State} {ps : List Part} {p : Key → Bool} {l : List (Key × Nat)} {P : State → Prop}
    (he : exec c s = .next t) (hn : (l.map Prod.fst).Nodup) (hw : ∀ q ∈ l, q.2 < 2 ^ q.1.w) (hf : Frame (s.sets l) t ps p)
    (hp : ∀ q ∈ l, p q.1 = false) (hP : P t) : Does c s ps p l P := by
  have hl : Frame s (s.sets l) ps (fun k => p k || named l k) :=
    Frame.sets s l fun q hq => by simpa [named] using Or.inr ⟨q.2, hq⟩
  exact ⟨t, he, fun q hq => (hf.get (hp q hq)).trans (State.get_sets_of_mem s l hn hw q hq),
    hl.trans (hf.mono (fun _ h => h) fun k hk => by simp [hk]), hP⟩

/-- A command that does nothing but write the fields of `l`. -/
theorem Gives.of_sets {c : Instr} {s : State} {l : List (Key × Nat)} (he : exec c s = .next (s.sets l)) (hn : (l.map Prod.fst).Nodup)
    (hw : ∀ q ∈ l, q.2 < 2 ^ q.1.w) : Gives c s l :=
  Does.of_sets he hn hw (Frame.refl _ _ _) (fun _ _ => rfl) trivial

/-! ### The frequency plan and the start of an acquisition (R53, R58) -/

/-- The code of a failing check fits PLL_STATUS.ERR. -/
theorem State.pllError_lt (s : State) : s.pllError < 2 ^ Fld.PLL_STATUS_ERR.w := by
  unfold State.pllError
  dsimp only
  split_ifs <;> decide

/-- A failing check is reported and starts nothing. -/
theorem State.tbStart_of_error {s : State} (h : s.pllError ≠ 0) :
    s.tbStart = s.sets [(Fld.PLL_STATUS_ERR, s.pllError), (Fld.TB_EVT_CFG_ERR, 1), (Lat.TB_WANT, 0)] := by
  simp [State.tbStart, h]

/-- In OFF, with a good plan and REFIN present, the time base enters ACQUIRE. -/
theorem State.tbStart_of_present {s : State} (he : s.pllError = 0) (hp : s.is Fld.REF_STATUS_PRESENT = true) (h0 : s.get Fld.TB_STATUS_STATE = 0) :
    s.tbStart = s.sets [(Fld.PLL_STATUS_ERR, 0), (Lat.TB_WANT, 1), (Fld.TB_STATUS_STATE, 1), (Fld.TB_STATUS_LOCKED, 0), (Fld.TB_STATUS_UNREF, 0),
      (Fld.PLL_STATUS_BAND_CAL_DONE, 0), (Fld.PLL_STATUS_LD, 0)] := by
  simp [State.tbStart, State.tbEnter, he, hp, h0, State.get_set]

/-- STOPPING parks every channel with BOOT (R58). -/
theorem State.tbStop_reason (s : State) (n : Nat) (hn : n < 32) : (s.tbStop.get (Fld.CH_PARK_SRC_REASON n)).testBit pkBoot = true :=
  State.parkAll_reason _ pkBoot true (by decide) n hn

/-! ### Posted writes (R23) -/

/-- The first write posted to a register waits behind those posted before it. -/
theorem State.post_first {s : State} {r : RName} {i j : Nat} (v : Nat) (h : s.posted.any (fun p => p.r == r && p.i == i && p.j == j) = false) :
    (s.post r i j v).posted = s.posted ++ [⟨r, i, j, v % 2 ^ 32, 0⟩] := by
  simp only [State.post, h, Bool.false_eq_true, if_false]

/-! ### EN = 1 (R53, R60) -/

section
variable {pf : Fin 4} {s : State}

/-- The writes of an accepted EN = 1: EN, and the end of a clear that was held. -/
abbrev State.pllEnabled (s : State) : State := s.sets [(Fld.PLL_CTRL_EN, 1), (Lat.TB_CLEAR_HELD, 0)]

/-- The checks of R53 read none of them. -/
theorem State.pllEnabled_pllError (s : State) : s.pllEnabled.pllError = s.pllError := by
  simp [State.pllError, State.q2, State.get_set]

/-- EN = 1 in OFF starts an acquisition, but in a STANDBY that can resume. -/
theorem exec_pllEnable_off (ho : s.hostOpen = true) (hp : s.privileged pf = true) (hf : s.is Fld.SYS_THERM_FORCED = false)
    (h0 : s.get Fld.TB_STATUS_STATE = 0) (hr : s.get Fld.AON_PWR_STATUS_STATE ≠ 2 ∨ s.pllError ≠ 0) :
    exec (.pllEnable pf) s = .next s.pllEnabled.tbStart := by
  change execPllEnable pf s = _
  rw [execPllEnable, State.asPriv_open _ _ _ ho hp]
  rcases hr with hr | hr <;> simp [hf, h0, hr]

theorem exec_pllEnable_stopping (ho : s.hostOpen = true) (hp : s.privileged pf = true) (hf : s.is Fld.SYS_THERM_FORCED = false)
    (h7 : s.get Fld.TB_STATUS_STATE = 7) :
    exec (.pllEnable pf) s = .next (s.pllEnabled.sets [(Fld.PLL_STATUS_RESTART_PENDING, 1), (Fld.TB_EVT_RESTART_QUEUED, 1)]) := by
  change execPllEnable pf s = _
  rw [execPllEnable, State.asPriv_open _ _ _ ho hp]
  simp [hf, h7]

/-! ### EN = 0 (R58 to R60) -/

theorem exec_pllDisable_busy (ho : s.hostOpen = true) (hp : s.privileged pf = true) (hi : s.allIdle = false) :
    exec (.pllDisable pf) s = .next (s.sets [(Fld.TB_EVT_EN_REFUSED, 1)]) := by
  change execPllDisable pf s = _
  rw [execPllDisable, State.asPriv_open _ _ _ ho hp]
  simp [hi]

theorem exec_pllDisable_stopping (ho : s.hostOpen = true) (hp : s.privileged pf = true) (hi : s.allIdle = true) (h7 : s.get Fld.TB_STATUS_STATE = 7) :
    exec (.pllDisable pf) s = .next (s.sets [(Fld.PLL_CTRL_EN, 0), (Fld.PLL_STATUS_RESTART_PENDING, 0)]) := by
  change execPllDisable pf s = _
  rw [execPllDisable, State.asPriv_open _ _ _ ho hp]
  simp [hi, h7]

theorem exec_pllDisable_locked (ho : s.hostOpen = true) (hp : s.privileged pf = true) (hi : s.allIdle = true) (h3 : s.get Fld.TB_STATUS_STATE = 3)
    (hw : s.get Fld.AON_PWR_STATUS_STATE ≠ 1) : exec (.pllDisable pf) s = .next (s.set Fld.PLL_CTRL_EN 0).tbStop := by
  change execPllDisable pf s = _
  rw [execPllDisable, State.asPriv_open _ _ _ ho hp]
  simp [hi, h3, hw]

/-! ### REF_CFG (R20, R23) -/

theorem exec_refCfgWrite (v : Nat) (ho : s.hostOpen = true) (hp : s.privileged pf = true) :
    exec (.refCfgWrite pf v) s = .next (s.post .REF_CFG 0 0 v) := by
  change execRefCfgWrite pf v s = _
  rw [execRefCfgWrite, State.asPriv_open _ _ _ ho hp]

/-! ### The clauses -/

theorem pllEnable_gives_acquire (ho : s.hostOpen = true) (hp : s.privileged pf = true) (hf : s.is Fld.SYS_THERM_FORCED = false)
    (h0 : s.get Fld.TB_STATUS_STATE = 0) (hw : s.get Fld.AON_PWR_STATUS_STATE ≠ 2) (he : s.pllError = 0) (hr : s.is Fld.REF_STATUS_PRESENT = true) :
    Gives (.pllEnable pf) s [(Fld.PLL_CTRL_EN, 1), (Lat.TB_CLEAR_HELD, 0), (Fld.PLL_STATUS_ERR, 0), (Lat.TB_WANT, 1), (Fld.TB_STATUS_STATE, 1),
      (Fld.TB_STATUS_LOCKED, 0), (Fld.TB_STATUS_UNREF, 0), (Fld.PLL_STATUS_BAND_CAL_DONE, 0), (Fld.PLL_STATUS_LD, 0)] := by
  have hr' : s.pllEnabled.is Fld.REF_STATUS_PRESENT = true := by simpa using hr
  have h0' : s.pllEnabled.get Fld.TB_STATUS_STATE = 0 := by simpa [State.get_set] using h0
  refine Gives.of_sets ?_ (by decide) (by decide)
  rw [exec_pllEnable_off ho hp hf h0 (Or.inl hw), State.tbStart_of_present (s.pllEnabled_pllError.trans he) hr' h0']
  rfl

theorem pllEnable_gives_error (ho : s.hostOpen = true) (hp : s.privileged pf = true) (hf : s.is Fld.SYS_THERM_FORCED = false)
    (h0 : s.get Fld.TB_STATUS_STATE = 0) (he : s.pllError ≠ 0) :
    Gives (.pllEnable pf) s [(Fld.PLL_CTRL_EN, 1), (Lat.TB_CLEAR_HELD, 0), (Fld.PLL_STATUS_ERR, s.pllError), (Fld.TB_EVT_CFG_ERR, 1), (Lat.TB_WANT, 0)] := by
  refine Gives.of_sets ?_ (by simp) (by simpa using s.pllError_lt)
  rw [exec_pllEnable_off ho hp hf h0 (Or.inr he), State.tbStart_of_error (s.pllEnabled_pllError.trans_ne he), s.pllEnabled_pllError]
  rfl

theorem pllEnable_gives_restart (ho : s.hostOpen = true) (hp : s.privileged pf = true) (hf : s.is Fld.SYS_THERM_FORCED = false)
    (h7 : s.get Fld.TB_STATUS_STATE = 7) :
    Gives (.pllEnable pf) s [(Fld.PLL_CTRL_EN, 1), (Lat.TB_CLEAR_HELD, 0), (Fld.PLL_STATUS_RESTART_PENDING, 1), (Fld.TB_EVT_RESTART_QUEUED, 1)] :=
  Gives.of_sets (exec_pllEnable_stopping ho hp hf h7) (by decide) (by decide)

theorem pllDisable_does_stop (ho : s.hostOpen = true) (hp : s.privileged pf = true) (hi : s.allIdle = true) (h3 : s.get Fld.TB_STATUS_STATE = 3)
    (hw : s.get Fld.AON_PWR_STATUS_STATE ≠ 1) :
    Does (.pllDisable pf) s [] (among [.CH_EVT, .CH_PARK_SRC, .CH_STATUS, .PP_EVT, .PP_PARK_SRC])
      [(Fld.PLL_CTRL_EN, 0), (Fld.TB_STATUS_STATE, 7), (Fld.TB_STATUS_LOCKED, 0), (Fld.TB_STATUS_UNREF, 0), (Fld.TB_STATUS_ANCHOR_ARMED, 0)]
      (fun t => ∀ n < 32, (t.get (Fld.CH_PARK_SRC_REASON n)).testBit 0 = true) :=
  Does.of_sets (exec_pllDisable_locked ho hp hi h3 hw) (by decide) (by decide) (State.parkAll_touches _ pkBoot true) (by decide)
    (State.tbStop_reason _)

theorem refCfgWrite_does_post (v : Nat) (ho : s.hostOpen = true) (hp : s.privileged pf = true)
    (hq : s.posted.any (fun p => p.r == .REF_CFG && p.i == 0 && p.j == 0) = false) :
    Does (.refCfgWrite pf v) s [.posted] (fun _ => false) [] (fun t => t.posted = s.posted ++ [⟨.REF_CFG, 0, 0, v % 2 ^ 32, 0⟩]) :=
  Does.of_sets (exec_refCfgWrite v ho hp) List.nodup_nil (by simp) (State.post_frame ..) (by simp) (State.post_first v hq)

end

/-- Settles O7: each command is a run of writes in the case its clause names, followed in LOCKED by the parking of every output. -/
theorem pllCommands : Obligations.PllCommands := by
  refine ⟨fun pf s ho hp hf => ⟨?acquire, ?error, ?restart⟩, fun pf s ho hp => ⟨?refused, ?cancel, ?stop, ?post⟩⟩
  case acquire => exact pllEnable_gives_acquire ho hp hf
  case error => exact pllEnable_gives_error ho hp hf
  case restart => exact pllEnable_gives_restart ho hp hf
  case refused => exact fun hi => Gives.of_sets (exec_pllDisable_busy ho hp hi) (by decide) (by decide)
  case cancel => exact fun hi h7 => Gives.of_sets (exec_pllDisable_stopping ho hp hi h7) (by decide) (by decide)
  case stop => exact pllDisable_does_stop ho hp
  case post => exact fun v => refCfgWrite_does_post v ho hp

end Sys2Proof.Machine
end

section
/-!
PROOFS. What frames carry over: the same writes after two states, a report seen from the state before it, and the commands that an
unloaded structure ignores (R34).
-/
namespace Sys2Proof.Machine

/-! ### Frames under the same writes -/

section
variable {s t a : State} {ps : List Part} {p : Key → Bool} {e : List Nat}

/-- The same write on both sides of a frame. -/
theorem Frame.set_both (h : Frame s t ps p) (k : Key) (v : Nat) : Frame (s.set k v) (t.set k v) ps p := by
  refine ⟨fun x hx => ?_, fun q hq => ?_⟩
  · have := h.1 x hx
    cases x <;> exact this
  · rw [State.get_set, State.get_set, h.get hq]

theorem Frame.sets_both (h : Frame s t ps p) (l : List (Key × Nat)) : Frame (s.sets l) (t.sets l) ps p := by
  induction l generalizing s t with
  | nil => exact h
  | cons q l ih => exact ih (h.set_both q.1 q.2)

/-- A field that reads the same may be left out of what may change. -/
theorem Frame.except {k : Key} (h : Frame s t ps p) (hk : t.get k = s.get k) : Frame s t ps (fun x => p x && x != k) := by
  refine ⟨h.1, fun x hx => ?_⟩
  by_cases e : x = k
  · rw [e, hk]
  · exact h.get (by simpa [e] using hx)

/-- More may be allowed to change. -/
theorem Does.mono {c : Instr} {q : Key → Bool} {l : List (Key × Nat)} {P : State → Prop} (h : Does c s ps p l P)
    (hk : ∀ k, p k = true → q k = true) : Does c s ps q l P := by
  obtain ⟨t, he, hl, hf, hP⟩ := h
  refine ⟨t, he, hl, hf.mono (fun _ h => h) fun k h => ?_, hP⟩
  rcases Bool.or_eq_true_iff.mp h with h | h
  · simp [hk k h]
  · simp [h]

/-- A written value is cut to its field. -/
theorem State.set_mod (s : State) (k : Key) (v : Nat) : s.set k (v % 2 ^ k.w) = s.set k v := by simp [State.set]

/-! ### Reports -/

/-- An entry given after changes that leave the archive writer alone. -/
theorem Archived.of_before (f : Frame s a ps p) (h : Archived a t e) (hb : Part.arcBuf ∉ ps) (hl : p Fld.IC_ARC_LOST = false) : Archived s t e := by
  have hbuf : a.arcBuf = s.arcBuf := f.1 .arcBuf hb
  simpa only [Archived, hbuf, f.get hl] using h

/-- An entry given before changes that leave the archive writer alone. -/
theorem Archived.of_after (h : Archived s a e) (f : Frame a t ps p) (hb : Part.arcBuf ∉ ps) (hl : p Fld.IC_ARC_LOST = false)
    (ho : p Fld.IC_ARC_EVT_BUF_OVF = false) : Archived s t e := by
  have hbuf : t.arcBuf = a.arcBuf := f.1 .arcBuf hb
  simpa only [Archived, State.is, hbuf, f.get hl, f.get ho] using h

/-- A cause raised after changes that leave its entry and the count alone. -/
theorem Raised.of_before {k u d : Nat} (f : Frame s a ps p) (h : Raised a t k u d) (ht : Part.tick ∉ ps) (ha : p (Fld.LDG_ACTIVE k) = false)
    (hc : p (Fld.LDG_COUNT k) = false) : Raised s t k u d := by
  have htick : a.tick = s.tick := f.1 .tick ht
  have hactive : a.is (Fld.LDG_ACTIVE k) = s.is (Fld.LDG_ACTIVE k) := by rw [State.is, State.is, f.get ha]
  unfold Raised at h ⊢
  rwa [htick, hactive, f.get hc] at h

/-- No raise changes whether a condition persists. -/
theorem State.mark_persist (s : State) (k : Nat) (m : List (Nat × Nat)) (j : Nat) : (s.mark k m).get (Fld.LDG_PERSIST j) = s.get (Fld.LDG_PERSIST j) :=
  (State.mark_frame s k m).get (by simp)

theorem State.raise_persist (s : State) (k u d : Nat) (m : List (Nat × Nat)) (j : Nat) :
    (s.raise k u d m).get (Fld.LDG_PERSIST j) = s.get (Fld.LDG_PERSIST j) := by
  have ha : ∀ (b : State) (p : List Nat), (b.archive 5 u s.now p).get (Fld.LDG_PERSIST j) = b.get (Fld.LDG_PERSIST j) := fun b p =>
    (State.archive_frame b 5 u s.now p false).get (by simp [archiveLoss])
  unfold State.raise
  split
  · rw [State.mark_persist, State.when_keeps (fun b => b.get (Fld.LDG_PERSIST j)) _ _ _ (by simp [State.get_set])]
    simp [State.get_set2]
  · rw [ha, State.mark_persist]
    simp [State.get_set2, State.get_set]

theorem State.raisePerUnit_persist (s : State) (k u d : Nat) (m : List (Nat × Nat)) (j : Nat) :
    (s.raisePerUnit k u d m).get (Fld.LDG_PERSIST j) = s.get (Fld.LDG_PERSIST j) := by
  unfold State.raisePerUnit
  split
  · rfl
  · exact State.raise_persist ..

theorem State.report_persist (s : State) (res k u d : Nat) (m : List (Nat × Nat)) (j : Nat) :
    (s.report res k u d m).get (Fld.LDG_PERSIST j) = s.get (Fld.LDG_PERSIST j) := by
  unfold State.report
  split
  · exact State.mark_persist ..
  · exact State.raise_persist ..

/-- A command that an unloaded structure ignores records it (R34). -/
theorem Does.of_outOfScope {c : Instr} {u d : Nat} (he : exec c s = .next (s.outOfScope u d)) (ha : s.is (Fld.LDG_ACTIVE 16) = false) :
    Does c s [.arcBuf] (fun k => ledgerOf 16 k || archiveLoss k) [] (fun t => Raised s t 16 u d) := by
  have hr : s.outOfScope u d = s.raise 16 u d [] := by simp [State.outOfScope, State.raiseOnce, ha]
  rw [hr] at he
  exact Does.of_sets he List.nodup_nil (by simp) (State.raise_frame ..) (by simp) (State.raise_raised ..)

end

end Sys2Proof.Machine
end

section
/-!
PROOFS. Time stamps and core faults (O12): the edge of EPOCH_IN, the time-of-day commit, a tick skew and the halt of a control core.
-/
namespace Sys2Proof.Machine

/-! ### EPOCH_IN (R67, R75) -/

/-- What an edge of EPOCH_IN writes. -/
abbrev State.epochStamp (s : State) : List (Key × Nat) :=
  [(Fld.TB_EPIN_STAMP_LO, s.tick % 2 ^ 32), (Fld.TB_EPIN_STAMP_HI, s.tick / 2 ^ 32), (Fld.TB_STATUS_EPIN_UNREF, s.unref.toNat)]

section
variable {s : State}

theorem State.epochStamp_lt (ht : s.tick < 2 ^ 64) : ∀ q ∈ s.epochStamp, q.2 < 2 ^ q.1.w := by
  simpa using ⟨by omega, by omega, Bool.toNat_le _⟩

theorem exec_epochInEdge_off (h : s.get Fld.TB_EPIN_CFG_MODE = 0 ∨ s.get Fld.TB_EPIN_CFG_MODE = 3) : exec .epochInEdge s = .next s := by
  change execEpochInEdge s = _
  rcases h with h | h <;> simp [execEpochInEdge, h]

theorem exec_epochInEdge_event (h : s.get Fld.TB_EPIN_CFG_MODE = 1 ∨ s.get Fld.TB_EPIN_CFG_MODE = 2 ∧ s.get Fld.TB_STATUS_STATE = 3) :
    exec .epochInEdge s = .next ((s.sets s.epochStamp).pulse 402 (some s.tick)) := by
  change execEpochInEdge s = _
  rcases h with h | ⟨h, hs⟩
  · simp [execEpochInEdge, h, State.set2, State.now]
  · simp [execEpochInEdge, h, hs, State.set2, State.now]

theorem exec_epochInEdge_anchor (h : s.get Fld.TB_EPIN_CFG_MODE = 2)
    (hs : s.get Fld.TB_STATUS_STATE = 2 ∨ s.get Fld.TB_STATUS_STATE = 6 ∧ s.is Lat.TB_HELD = true) :
    exec .epochInEdge s = .next (((s.sets s.epochStamp).pulse 402 (some s.tick)).set Lat.TB_EPIN_SEEN 1) := by
  change execEpochInEdge s = _
  rcases hs with hs | ⟨hs, hh⟩
  · simp [execEpochInEdge, h, hs, State.set2, State.now]
  · simp [execEpochInEdge, h, hs, hh, State.set2, State.now]

theorem epochInEdge_does_event (ht : s.tick < 2 ^ 64)
    (h : s.get Fld.TB_EPIN_CFG_MODE = 1 ∨ s.get Fld.TB_EPIN_CFG_MODE = 2 ∧ s.get Fld.TB_STATUS_STATE = 3) :
    Does .epochInEdge s [.edges] (fun _ => false) s.epochStamp (fun _ => True) :=
  Does.of_sets (exec_epochInEdge_event h) (by simp) (State.epochStamp_lt ht) (State.pulse_frame ..) (by simp) trivial

theorem epochInEdge_does_anchor (ht : s.tick < 2 ^ 64) (h : s.get Fld.TB_EPIN_CFG_MODE = 2)
    (hs : s.get Fld.TB_STATUS_STATE = 2 ∨ s.get Fld.TB_STATUS_STATE = 6 ∧ s.is Lat.TB_HELD = true) :
    Does .epochInEdge s [.edges] (fun _ => false) (s.epochStamp ++ [(Lat.TB_EPIN_SEEN, 1)]) (fun _ => True) := by
  refine Does.of_sets (exec_epochInEdge_anchor h hs) (by simp) (fun q hq => ?_) ((State.pulse_frame (s.sets s.epochStamp) _ _).set_both _ _) (by simp) trivial
  rcases List.mem_append.mp hq with hq | hq
  · exact State.epochStamp_lt ht q hq
  · obtain rfl := List.mem_singleton.mp hq
    decide

/-! ### Time of day (R78) -/

/-- What a TOD_COMMIT latches. -/
abbrev State.todLatched (s : State) : List (Key × Nat) :=
  [(Lat.TOD_SEC, s.get2 Fld.TB_TOD_SEC_LO Fld.TB_TOD_SEC_HI), (Lat.TOD_NS, s.get Fld.TB_TOD_NS),
    (Lat.TOD_TICK, s.get2 Fld.TB_TOD_TICK_LO Fld.TB_TOD_TICK_HI), (Lat.TOD_VALID, 1)]

theorem State.todLatched_lt (s : State) : ∀ q ∈ s.todLatched, q.2 < 2 ^ q.1.w := by
  simpa using ⟨s.get2_lt Fld.TB_TOD_SEC_LO Fld.TB_TOD_SEC_HI, s.get_lt Fld.TB_TOD_NS, s.get2_lt Fld.TB_TOD_TICK_LO Fld.TB_TOD_TICK_HI⟩

theorem exec_todCommit {pf : Fin 4} (ho : s.hostOpen = true) (hp : s.privileged pf = true) :
    exec (.todCommit pf) s = .next ((s.sets s.todLatched).archive 15 (unitBlock 0) (s.get2 Fld.TB_TOD_TICK_LO Fld.TB_TOD_TICK_HI)
      [lo32 (s.get2 Fld.TB_TOD_SEC_LO Fld.TB_TOD_SEC_HI), hi32 (s.get2 Fld.TB_TOD_SEC_LO Fld.TB_TOD_SEC_HI), s.get Fld.TB_TOD_NS]) := by
  change execTodCommit pf s = _
  rw [execTodCommit, State.asPriv_open _ _ _ ho hp]

theorem todCommit_does_archive {pf : Fin 4} (ho : s.hostOpen = true) (hp : s.privileged pf = true) :
    Does (.todCommit pf) s [.arcBuf] archiveLoss s.todLatched (fun t => Archived s t (archiveEntry 15 false s.unref false false (unitBlock 0)
      (s.get2 Fld.TB_TOD_TICK_LO Fld.TB_TOD_TICK_HI) 0 [s.get2 Fld.TB_TOD_SEC_LO Fld.TB_TOD_SEC_HI % 2 ^ 32,
        s.get2 Fld.TB_TOD_SEC_LO Fld.TB_TOD_SEC_HI / 2 ^ 32 % 2 ^ 32, s.get Fld.TB_TOD_NS])) := by
  refine Does.of_sets (exec_todCommit ho hp) (by simp) s.todLatched_lt (State.archive_frame ..) (by simp [archiveLoss]) ?_
  have hu : (s.sets s.todLatched).unref = s.unref := by simp [State.unref]
  have hf : Frame s (s.sets s.todLatched) [] (among [.L_TOD_SEC, .L_TOD_NS, .L_TOD_TICK, .L_TOD_VALID]) := Frame.sets _ _ (by simp [among])
  refine Archived.of_before hf ?_ (by simp) (by decide)
  rw [← hu]
  exact State.accept_archived ..

/-! ### Tick skew and core faults (R31, R283, R334, R335) -/

theorem tickSkew_does_raise (t : Fin 8) :
    Does (.tickSkew t) s [.arcBuf] (fun k => ledgerOf 8 k || archiveLoss k) [] (fun x => Raised s x 8 (unitBlock 0) (2 ^ (t : Nat))) := by
  have he : exec (.tickSkew t) s = .next (s.raise 8 (unitBlock 0) (2 ^ (t : Nat)) (markTile t)) := by
    rw [← Nat.one_shiftLeft]
    rfl
  exact Does.of_sets he List.nodup_nil (by simp) (State.raise_frame ..) (by simp) (State.raise_raised ..)

/-- An abnormal end through the ramp leaves alone whether a condition persists. -/
theorem State.corAbort_persist (s : State) (g cause : Nat) (res : Option Nat) (j : Nat) (hc : cause ≠ 9) :
    (s.corAbort g cause res).get (Fld.LDG_PERSIST j) = s.get (Fld.LDG_PERSIST j) := by
  have hramp : ∀ l : List (Key × Nat), named l (Fld.LDG_PERSIST j) = false →
      (((s.corState g 5).sets l).corRamp g).get (Fld.LDG_PERSIST j) = s.get (Fld.LDG_PERSIST j) := fun l hl => by
    rw [State.corRamp_get _ _ _ (by simp [among]), State.get_sets_of_not_named _ _ _ hl, State.corState_get _ _ _ _ (by simp [among])]
  unfold State.corAbort State.corAbortAt
  rw [if_neg hc]
  split
  · cases res with
    | none => exact (State.raisePerUnit_persist ..).trans (hramp _ (by simp [named]))
    | some k => exact (State.report_persist ..).trans (hramp _ (by simp [named]))
  · rfl

/-- What the halt of control core `t` writes. -/
abbrev coreHalt (t : Fin 8) : List (Key × Nat) := [(Lat.CC_HALTED t, 1), (Fld.CAL_STATUS_CORE_STOP, 1), (Fld.LDG_PERSIST 9, 1)]

/-- The raise that follows it. -/
abbrev State.coreRaised (s : State) (t : Fin 8) : State := (s.sets (coreHalt t)).raise 9 (unitTile t) t (markTile t)

theorem exec_ccFault (t : Fin 8) : exec (.ccFault t) s = .next ((s.coreRaised t).each
    ((List.range 4).filter (fun g => s.get (Fld.COR_GRP_CFG_CC g) == (t : Nat))) (fun g a => a.corAbort g 7 (some 9))) := rfl

theorem State.coreRaised_raised (t : Fin 8) : Raised s (s.coreRaised t) 9 (unitTile t) t := by
  have hf : Frame s (s.sets (coreHalt t)) [] (fun k => k == Lat.CC_HALTED t || k == Fld.CAL_STATUS_CORE_STOP || k == Fld.LDG_PERSIST 9) :=
    Frame.sets _ _ (by simp)
  exact Raised.of_before hf (State.raise_raised ..) (by simp) (by simp) (by simp)

/-- A core that sequences no group halts and raises cause 9. -/
theorem ccFault_does_raise (t : Fin 8) (hg : ∀ g < 4, s.get (Fld.COR_GRP_CFG_CC g) ≠ t) :
    Does (.ccFault t) s [.arcBuf] (fun k => ledgerOf 9 k || archiveLoss k) (coreHalt t) (fun x => Raised s x 9 (unitTile t) t) := by
  have hnone : (List.range 4).filter (fun g => s.get (Fld.COR_GRP_CFG_CC g) == (t : Nat)) = [] := by simpa using hg
  have he : exec (.ccFault t) s = .next (s.coreRaised t) := by
    rw [exec_ccFault, hnone]
    rfl
  have hf : Frame (s.sets (coreHalt t)) (s.coreRaised t) [.arcBuf] (fun x => (ledgerOf 9 x || archiveLoss x) && x != Fld.LDG_PERSIST 9) :=
    (State.raise_frame ..).except (State.raise_persist ..)
  exact (Does.of_sets he (by simp) (by simp) hf (by simp [ledgerOf, archiveLoss]) (State.coreRaised_raised t)).mono (fun k hk => (Bool.and_eq_true_iff.mp hk).1)

/-- The registers that a core's fault can change through the groups it sequences. -/
abbrev coreFaultRegs : List RName := [.COR_GRP_EVT, .COR_GRP_STATUS, .IC_ARC_EVT, .IC_ARC_LOST, .IC_LDG, .L_COR_RAMP, .L_COR_W0, .L_COR_ZERO, .REEL]

/-- Whatever groups the core sequences, it halts. -/
theorem ccFault_does_halt (t : Fin 8) : Does (.ccFault t) s [.edges, .arcBuf] (among coreFaultRegs) (coreHalt t) (fun _ => True) := by
  have hpersist : ∀ (l : List Nat) (a : State), (a.each l (fun g a => a.corAbort g 7 (some 9))).get (Fld.LDG_PERSIST 9) = a.get (Fld.LDG_PERSIST 9) :=
    fun l a => State.each_keeps (fun a => a.get (Fld.LDG_PERSIST 9)) _ _ (fun g a => State.corAbort_persist a g 7 _ 9 (by decide)) a
  have hraise : Frame (s.sets (coreHalt t)) (s.coreRaised t) [.edges, .arcBuf] (among coreFaultRegs) :=
    (State.raiseFrame ..).mono (by simp) (among_sub (by decide))
  have hf := (hraise.trans (Frame.each _ _ _ ((List.range 4).filter (fun g => s.get (Fld.COR_GRP_CFG_CC g) == (t : Nat)))
    (fun g _ a => State.corAbort_touches a g 7 (some 9)) _)).except ((hpersist _ _).trans (State.raise_persist ..))
  exact (Does.of_sets (exec_ccFault t) (by simp) (by simp) hf (by simp [among]) trivial).mono (fun k hk => (Bool.and_eq_true_iff.mp hk).1)

end

/-- Settles O12: each command writes its fields and then gives the matrix, the archive or the ledger what it reports. -/
theorem timeStampsAndCoreFaults : Obligations.TimeStampsAndCoreFaults := by
  refine ⟨fun s => exec_epochInEdge_off, fun s ht => ⟨epochInEdge_does_event ht, epochInEdge_does_anchor ht⟩,
    fun pf s ho hp => todCommit_does_archive ho hp, fun t s => tickSkew_does_raise t, fun t s => ccFault_does_raise t, fun t s => ccFault_does_halt t⟩

end Sys2Proof.Machine
end

section
/-!
PROOFS. JESD204C links (O28): the enable and disable of a link at its lane 0, and the framing and the stop of a transmitter.
-/
namespace Sys2Proof.Machine

/-! ### The terms of a link under writes of its control and status (R254 to R256) -/

section
variable (s : State) (p q : Nat)

theorem State.jesdSysref_set (k : Key) (v : Nat) (h : among [.PP_JCTRL, .PP_JSTAT] k = true) : (s.set k v).jesdSysref p = s.jesdSysref p := by
  have hk : ∀ k' : Key, among [.PP_JCTRL, .PP_JSTAT] k' = false → (s.set k v).get k' = s.get k' := fun k' h' =>
    State.get_set_ne s v (fun e => by simp [e, h'] at h)
  simp [State.jesdSysref, State.extMultiblock, State.is, hk, among]

theorem State.lanes_set (k : Key) (v : Nat) (h : among [.PP_JCTRL, .PP_JSTAT] k = true) : (s.set k v).lanes p = s.lanes p := by
  have hk : ∀ k' : Key, among [.PP_JCTRL, .PP_JSTAT] k' = false → (s.set k v).get k' = s.get k' := fun k' h' =>
    State.get_set_ne s v (fun e => by simp [e, h'] at h)
  simp [State.lanes, State.pers, State.is, hk, among]

theorem State.onLink0_lane0 (f : State → State) (h : s.lane0 p = true) : s.onLink0 p f = f s := by simp [State.onLink0, h]

theorem State.onLink0_other (f : State → State) (h : s.lane0 p = false) :
    s.onLink0 p f = s.outOfScope (unitTile (tileOfPort p)) (portOffset p 0x408) := by simp [State.onLink0, h]

/-- With a SYSREF as R256 wants it, a link that waits reports nothing. -/
theorem State.jesdWait_of_sysref (h : s.jesdSysref p = true) : s.jesdWait p = s.set (Fld.PP_JSTAT_STATE p) 1 := by
  simp [State.jesdWait, h]

end

/-! ### The commands -/

section
variable {s : State} {p : Fin 48} {r : Nat}

/-- What an enable writes, and a disable. -/
abbrev jesdEnabled (p : Fin 48) (r : Nat) : List (Key × Nat) := [(Fld.PP_JCTRL_EN p, 1), (Fld.PP_JCTRL_RBD p, r % 2 ^ 16)]

theorem State.sets_jesdEnabled (s : State) (p : Fin 48) (r : Nat) :
    s.sets [(Fld.PP_JCTRL_EN p, 1), (Fld.PP_JCTRL_RBD p, r)] = s.sets (jesdEnabled p r) :=
  (State.set_mod (s.set (Fld.PP_JCTRL_EN p) 1) (Fld.PP_JCTRL_RBD p) r).symm

theorem exec_jesdEnable_other (ho : s.hostOpen = true) (hl : s.lane0 p = false) :
    exec (.jesdEnable p r) s = .next (s.outOfScope (unitTile (tileOfPort p)) (portOffset p 0x408)) := by
  change execJesdEnable p r s = _
  rw [execJesdEnable, State.onHost_open _ _ ho, State.onLink0_other _ _ _ hl]

theorem exec_jesdDisable_other (ho : s.hostOpen = true) (hl : s.lane0 p = false) :
    exec (.jesdDisable p) s = .next (s.outOfScope (unitTile (tileOfPort p)) (portOffset p 0x408)) := by
  change execJesdDisable p s = _
  rw [execJesdDisable, State.onHost_open _ _ ho, State.onLink0_other _ _ _ hl]

theorem exec_jesdEnable_rx (ho : s.hostOpen = true) (hl : s.lane0 p = true) (hp : s.pers p = 3) :
    exec (.jesdEnable p r) s = .next (if s.get (Fld.PP_JSTAT_STATE p) = 0 ∧ s.is (Lat.JRX_STOP p) = false
      then (s.sets (jesdEnabled p r)).set (Fld.PP_JSTAT_STATE p) 4 else s.sets (jesdEnabled p r)) := by
  change execJesdEnable p r s = _
  rw [execJesdEnable, State.onHost_open _ _ ho, State.onLink0_lane0 _ _ _ hl, State.sets_jesdEnabled]
  simp [hp]

theorem exec_jesdEnable_tx (ho : s.hostOpen = true) (hl : s.lane0 p = true) (hp : s.pers p = 2) :
    exec (.jesdEnable p r) s = .next ((s.sets (jesdEnabled p r)).jesdTxStart p) := by
  change execJesdEnable p r s = _
  rw [execJesdEnable, State.onHost_open _ _ ho, State.onLink0_lane0 _ _ _ hl, State.sets_jesdEnabled]
  simp [hp]

/-- An enabled transmitter in OFF waits when no lane is OFF and its SYSREF is right, and stays in OFF while a lane is OFF (R260). -/
theorem State.jesdTxStart_enabled (h0 : s.get (Fld.PP_JSTAT_STATE p) = 0) :
    (s.sets (jesdEnabled p r)).jesdTxStart p =
      if (s.lanes p).all (fun q => s.get (Fld.PP_STATUS_STATE q) != 0) then (s.sets (jesdEnabled p r)).jesdWait p else s.sets (jesdEnabled p r) := by
  have hl : (s.sets (jesdEnabled p r)).lanes p = s.lanes p := by simp [State.lanes_set, among]
  rw [State.jesdTxStart, hl]
  simp [State.get_set, h0]

theorem exec_jesdDisable_rx (ho : s.hostOpen = true) (hl : s.lane0 p = true) (hp : s.pers p = 3) :
    exec (.jesdDisable p) s = .next (if s.get (Fld.PP_JSTAT_STATE p) = 0 then s.sets [(Fld.PP_JCTRL_EN p, 0)]
      else s.sets [(Fld.PP_JCTRL_EN p, 0), (Lat.JRX_STOP p, 1)]) := by
  change execJesdDisable p s = _
  rw [execJesdDisable, State.onHost_open _ _ ho, State.onLink0_lane0 _ _ _ hl]
  simp [hp]

theorem exec_jesdDisable_tx (ho : s.hostOpen = true) (hl : s.lane0 p = true) (hp : s.pers p = 2)
    (hs : s.get (Fld.PP_JSTAT_STATE p) = 1 ∨ s.get (Fld.PP_JSTAT_STATE p) = 2) :
    exec (.jesdDisable p) s = .next (s.sets [(Fld.PP_JCTRL_EN p, 0), (Fld.PP_JSTAT_STATE p, 3)]) := by
  change execJesdDisable p s = _
  rw [execJesdDisable, State.onHost_open _ _ ho, State.onLink0_lane0 _ _ _ hl]
  simp [hp, hs]

/-- At lane 0 of a waiting transmitter the framing starts at an LEMC boundary, unless SYSREF is not right (R256, R260). -/
theorem exec_jesdTxFramingStart (hl : s.lane0 p = true) (hp : s.pers p = 2) (h1 : s.get (Fld.PP_JSTAT_STATE p) = 1) :
    exec (.jesdTxFramingStart p) s = .next (if !s.jesdSysref p then s.sets [(Fld.PP_EVT_JCFG_ERR p, 1)]
      else if s.lemc p s.tick 0 then s.sets [(Fld.PP_JSTAT_STATE p, 2), (Fld.PP_EVT_JLOCK p, 1)] else s) := by
  change execJesdTxFramingStart p s = _
  rw [execJesdTxFramingStart, if_pos (by simp [hl, hp, h1])]
  rfl

theorem exec_jesdTxStopDone (hl : s.lane0 p = true) (hp : s.pers p = 2) (h3 : s.get (Fld.PP_JSTAT_STATE p) = 3) :
    exec (.jesdTxStopDone p) s = .next (if s.is (Fld.PP_JCTRL_EN p) = true then s.jesdWait p else s.sets [(Fld.PP_JSTAT_STATE p, 0)]) := by
  change execJesdTxStopDone p s = _
  simp [execJesdTxStopDone, hl, hp, h3]

theorem exec_jesdTxStopDone_keeps (h3 : s.get (Fld.PP_JSTAT_STATE p) ≠ 3) : exec (.jesdTxStopDone p) s = .next s := by
  change execJesdTxStopDone p s = _
  simp [execJesdTxStopDone, h3]

/-! ### The clauses -/

theorem jesdEnable_gives_only (he : exec (.jesdEnable p r) s = .next (s.sets (jesdEnabled p r))) : Gives (.jesdEnable p r) s (jesdEnabled p r) :=
  Gives.of_sets he (by simp) (by simpa using Nat.mod_lt _ (by decide))

theorem jesdEnable_gives_state {v : Nat} (hv : v < 8) (he : exec (.jesdEnable p r) s = .next ((s.sets (jesdEnabled p r)).set (Fld.PP_JSTAT_STATE p) v)) :
    Gives (.jesdEnable p r) s (jesdEnabled p r ++ [(Fld.PP_JSTAT_STATE p, v)]) :=
  Gives.of_sets he (by simp) (by simpa using ⟨Nat.mod_lt _ (by decide), hv⟩)

theorem jesd_outOfScope (ho : s.hostOpen = true) (hl : s.lane0 p = false) (ha : s.is (Fld.LDG_ACTIVE 16) = false) :
    Does (.jesdEnable p r) s [.arcBuf] (fun k => ledgerOf 16 k || archiveLoss k) [] (fun t => Raised s t 16 (unitTile (tileOfPort p)) (portOffset p 0x408)) ∧
      Does (.jesdDisable p) s [.arcBuf] (fun k => ledgerOf 16 k || archiveLoss k) [] (fun t => Raised s t 16 (unitTile (tileOfPort p)) (portOffset p 0x408)) :=
  ⟨Does.of_outOfScope (exec_jesdEnable_other ho hl) ha, Does.of_outOfScope (exec_jesdDisable_other ho hl) ha⟩

/-- The commands at lane 0 of a receiver (R261, R450). -/
theorem jesdRx_commands (ho : s.hostOpen = true) (hl : s.lane0 p = true) (hp : s.pers p = 3) :
    (s.get (Fld.PP_JSTAT_STATE p) = 0 → s.is (Lat.JRX_STOP p) = false → Gives (.jesdEnable p r) s (jesdEnabled p r ++ [(Fld.PP_JSTAT_STATE p, 4)])) ∧
    (s.get (Fld.PP_JSTAT_STATE p) ≠ 0 ∨ s.is (Lat.JRX_STOP p) = true → Gives (.jesdEnable p r) s (jesdEnabled p r)) ∧
    (s.get (Fld.PP_JSTAT_STATE p) ≠ 0 → Gives (.jesdDisable p) s [(Fld.PP_JCTRL_EN p, 0), (Lat.JRX_STOP p, 1)]) ∧
    (s.get (Fld.PP_JSTAT_STATE p) = 0 → Gives (.jesdDisable p) s [(Fld.PP_JCTRL_EN p, 0)]) := by
  refine ⟨fun h0 hs => ?block, fun h => ?stays, fun h => ?stops, fun h0 => ?off⟩
  case block => exact jesdEnable_gives_state (by decide) (by rw [exec_jesdEnable_rx ho hl hp, if_pos ⟨h0, hs⟩])
  case stays =>
    have hn : ¬(s.get (Fld.PP_JSTAT_STATE p) = 0 ∧ s.is (Lat.JRX_STOP p) = false) := fun ⟨h0, hs⟩ => by simp [h0, hs] at h
    exact jesdEnable_gives_only (by rw [exec_jesdEnable_rx ho hl hp, if_neg hn])
  case stops => exact Gives.of_sets (by rw [exec_jesdDisable_rx ho hl hp, if_neg h]) (by simp) (by simp)
  case off => exact Gives.of_sets (by rw [exec_jesdDisable_rx ho hl hp, if_pos h0]) (by simp) (by simp)

/-- The commands at lane 0 of a transmitter (R260). -/
theorem jesdTx_commands (ho : s.hostOpen = true) (hl : s.lane0 p = true) (hp : s.pers p = 2) :
    (s.get (Fld.PP_JSTAT_STATE p) = 0 → (s.lanes p).all (fun q => s.get (Fld.PP_STATUS_STATE q) != 0) = true → s.jesdSysref p = true →
      Gives (.jesdEnable p r) s (jesdEnabled p r ++ [(Fld.PP_JSTAT_STATE p, 1)])) ∧
    (s.get (Fld.PP_JSTAT_STATE p) = 0 → (s.lanes p).all (fun q => s.get (Fld.PP_STATUS_STATE q) != 0) = false → Gives (.jesdEnable p r) s (jesdEnabled p r)) ∧
    (s.get (Fld.PP_JSTAT_STATE p) = 1 ∨ s.get (Fld.PP_JSTAT_STATE p) = 2 → Gives (.jesdDisable p) s [(Fld.PP_JCTRL_EN p, 0), (Fld.PP_JSTAT_STATE p, 3)]) := by
  refine ⟨fun h0 ha hs => ?waits, fun h0 ha => ?off, fun h => ?stops⟩
  case waits =>
    have hs' : (s.sets (jesdEnabled p r)).jesdSysref p = true := by simpa [State.jesdSysref_set, among] using hs
    exact jesdEnable_gives_state (by decide) (by rw [exec_jesdEnable_tx ho hl hp, State.jesdTxStart_enabled h0, if_pos ha, State.jesdWait_of_sysref _ _ hs'])
  case off => exact jesdEnable_gives_only (by rw [exec_jesdEnable_tx ho hl hp, State.jesdTxStart_enabled h0, ha, if_neg Bool.false_ne_true])
  case stops => exact Gives.of_sets (exec_jesdDisable_tx ho hl hp h) (by simp) (by simp)

/-- The framing and the stop of a transmitter (R256, R260). -/
theorem jesdTx_framing (hl : s.lane0 p = true) (hp : s.pers p = 2) :
    (s.get (Fld.PP_JSTAT_STATE p) = 1 → s.jesdSysref p = false → Gives (.jesdTxFramingStart p) s [(Fld.PP_EVT_JCFG_ERR p, 1)]) ∧
    (s.get (Fld.PP_JSTAT_STATE p) = 1 → s.jesdSysref p = true → s.lemc p s.tick 0 = true →
      Gives (.jesdTxFramingStart p) s [(Fld.PP_JSTAT_STATE p, 2), (Fld.PP_EVT_JLOCK p, 1)]) ∧
    (s.get (Fld.PP_JSTAT_STATE p) = 1 → s.jesdSysref p = true → s.lemc p s.tick 0 = false → Keeps (.jesdTxFramingStart p) s) ∧
    (s.get (Fld.PP_JSTAT_STATE p) = 3 → s.is (Fld.PP_JCTRL_EN p) = false → Gives (.jesdTxStopDone p) s [(Fld.PP_JSTAT_STATE p, 0)]) ∧
    (s.get (Fld.PP_JSTAT_STATE p) = 3 → s.is (Fld.PP_JCTRL_EN p) = true → s.jesdSysref p = true → Gives (.jesdTxStopDone p) s [(Fld.PP_JSTAT_STATE p, 1)]) ∧
    (s.get (Fld.PP_JSTAT_STATE p) ≠ 3 → Keeps (.jesdTxStopDone p) s) := by
  refine ⟨fun h1 hs => ?error, fun h1 hs he => ?frames, fun h1 hs he => ?early, fun h3 hn => ?off, fun h3 hn hs => ?waits, exec_jesdTxStopDone_keeps⟩
  case error => exact Gives.of_sets (by simp [exec_jesdTxFramingStart hl hp h1, hs]) (by simp) (by simp)
  case frames => exact Gives.of_sets (by simp [exec_jesdTxFramingStart hl hp h1, hs, he]) (by simp) (by simp)
  case early => exact (exec_jesdTxFramingStart hl hp h1).trans (by simp [hs, he])
  case off => exact Gives.of_sets (by simp [exec_jesdTxStopDone hl hp h3, hn]) (by simp) (by simp)
  case waits => exact Gives.of_sets (by simp [exec_jesdTxStopDone hl hp h3, hn, State.jesdWait_of_sysref _ _ hs]) (by simp) (by simp)

end

/-- Settles O28: each command in the case its clause names, at lane 0 of a receiver, at lane 0 of a transmitter and elsewhere. -/
theorem jesdTransmitters : Obligations.JesdTransmitters :=
  ⟨fun _ _ _ ho => ⟨jesd_outOfScope ho, jesdRx_commands ho, jesdTx_commands ho⟩, fun _ _ => jesdTx_framing⟩

end Sys2Proof.Machine
end

section
/-!
PROOFS. The end of a capture of a pattern RX port (O27): PP_CAP_CNT has 40 bits, so a close latches the count modulo 2^40 and not the
64 bits of it that the statement names.
-/
namespace Sys2Proof.Machine

/-- A list of writes after another. -/
theorem State.sets_append (s : State) (l m : List (Key × Nat)) : s.sets (l ++ m) = (s.sets l).sets m := by
  induction l generalizing s with
  | nil => rfl
  | cons q l ih => exact ih (s.set q.1 q.2)

/-! ### The table of captures -/

section
variable {s t : State} {c : Cap} {p : Nat}

theorem State.cap_port (h : s.cap p = some c) : c.port = p := by simpa using List.find?_some h

theorem State.cap_congr (h : t.caps = s.caps) (p : Nat) : t.cap p = s.cap p := by rw [State.cap, State.cap, h]

theorem State.cap_putCap_self (s : State) (h : c.port = p) : (s.putCap c).cap p = some c := by simp [State.cap, State.putCap, h]

theorem State.putCap_frame (s : State) (c : Cap) : Frame s (s.putCap c) [.caps] (fun _ => false) :=
  (State.putCap_touches s c).mono (by simp) (by simp [among])

theorem State.cap_dropCap_self (s : State) (p : Nat) : (s.dropCap p).cap p = none := by
  simp [State.cap, State.dropCap, List.find?_filter]

end

/-! ### The samples of a capture that takes none (R250) -/

section
variable {s : State} {c : Cap} {p : Nat}

theorem State.captureStep_armed (h : s.cap p = some c) (hs : c.start = none) : s.captureStep p = s := by simp [State.captureStep, h, hs]

/-- A capture that has all its samples takes no more. -/
theorem State.captureRun_full (s : State) (t0 fuel : Nat) (h : c.len ≤ c.taken) : s.captureRun t0 fuel c = (c, s) := by
  cases fuel with
  | zero => rfl
  | succ n => simp [State.captureRun, h]

theorem State.captureStep_full {a : Nat} (h : s.cap p = some c) (hs : c.start = some a) (hl : c.len ≤ c.taken) : s.captureStep p = s.putCap c := by
  simp [State.captureStep, h, hs, State.captureRun_full _ _ _ hl]

end

/-! ### Closing a capture (R250, R253, R344) -/

/-- What the close of capture `c` latches at its port. -/
abbrev Cap.latched (c : Cap) (start : Nat) : List (Key × Nat) :=
  [(Fld.PP_CAP_CNT_LO c.port, c.written % 2 ^ 32), (Fld.PP_CAP_CNT_HI c.port, c.written / 2 ^ 32 % 2 ^ 8), (Fld.PP_CAP_START_LO c.port, start % 2 ^ 32),
    (Fld.PP_CAP_START_HI c.port, start / 2 ^ 32 % 2 ^ 32), (Fld.PP_STATUS_CAP_BUSY c.port, 0), (Fld.PP_EVT_CAP_DONE c.port, 1)]

/-- The archive's entry of the end of capture `c` at tick `t`. -/
abbrev Cap.endEntry (c : Cap) (t : Nat) (ovf abort : Bool) : List Nat :=
  archiveEntry 18 false c.unref false false (unitPort c.port) t 0 [c.written % 2 ^ 32, c.written / 2 ^ 32 % 2 ^ 32, ovf.toNat + 2 * abort.toNat]

section
variable {s : State} {c : Cap} {p t a : Nat} {ovf abort : Bool}

/-- With no entry half filled, the end is archived, the capture goes and its counts are latched. -/
theorem State.captureClose_of_empty (s : State) (hb : c.accBits = 0) (ha : c.start.getD 0 = a) : s.captureClose c t ovf abort =
    (((s.accept (c.endEntry t ovf abort)).dropCap c.port).sets (c.latched a)).pulse (32 * tileOfPort c.port + 24 + c.port % 6) none := by
  subst ha
  have hcnt : ∀ (x : State) (v : Nat), x.set (Fld.PP_CAP_CNT_HI c.port) (v % 2 ^ 8) = x.set (Fld.PP_CAP_CNT_HI c.port) v :=
    fun x v => State.set_mod x (Fld.PP_CAP_CNT_HI c.port) v
  have hstart : ∀ (x : State) (v : Nat), x.set (Fld.PP_CAP_START_HI c.port) (v % 2 ^ 32) = x.set (Fld.PP_CAP_START_HI c.port) v :=
    fun x v => State.set_mod x (Fld.PP_CAP_START_HI c.port) v
  simp only [State.captureClose, hb, State.sets, State.set2, lt_irrefl, if_false, hcnt, hstart]
  rfl

theorem State.captureClose_frame (s : State) (hb : c.accBits = 0) (ha : c.start.getD 0 = a) :
    Frame (s.sets (c.latched a)) (s.captureClose c t ovf abort) [.caps, .edges, .arcBuf] archiveLoss := by
  rw [State.captureClose_of_empty s hb ha]
  have haccept : Frame s ((s.accept (c.endEntry t ovf abort)).dropCap c.port) [.caps, .edges, .arcBuf] archiveLoss :=
    ((State.accept_frame ..).mono (by simp) (fun _ h => h)).trans ((State.dropCap_touches ..).mono (by simp) (by simp [among]))
  exact (haccept.sets_both _).trans ((State.pulse_frame ..).mono (by simp) (by simp))

theorem State.captureClose_archived (s : State) (hb : c.accBits = 0) : Archived s (s.captureClose c t ovf abort) (c.endEntry t ovf abort) := by
  rw [State.captureClose_of_empty s hb rfl]
  have hrest : Frame (s.accept (c.endEntry t ovf abort))
      ((((s.accept (c.endEntry t ovf abort)).dropCap c.port).sets (c.latched (c.start.getD 0))).pulse (32 * tileOfPort c.port + 24 + c.port % 6) none)
      [.caps, .edges] (fun k => named (c.latched (c.start.getD 0)) k) :=
    (((State.dropCap_touches ..).mono (by simp) (by simp [among])).trans (Frame.sets _ _ (by simp [named]))).trans
      ((State.pulse_frame ..).mono (by simp) (by simp))
  exact (State.accept_archived ..).of_after hrest (by simp) (by simp [named]) (by simp [named])

theorem State.captureClose_cap (s : State) (hb : c.accBits = 0) : (s.captureClose c t ovf abort).cap c.port = none := by
  rw [State.captureClose_of_empty s hb rfl]
  have hcaps := ((State.pulse_frame (((s.accept (c.endEntry t ovf abort)).dropCap c.port).sets (c.latched (c.start.getD 0)))
    (32 * tileOfPort c.port + 24 + c.port % 6) none)).1 .caps (by simp)
  rw [State.cap_congr hcaps]
  exact State.cap_dropCap_self ..

theorem Cap.latched_lt (c : Cap) (a : Nat) : ∀ q ∈ c.latched a, q.2 < 2 ^ q.1.w := by
  have h8 : ∀ v : Nat, v % 256 < 256 := fun v => Nat.mod_lt _ (by decide)
  have h32 : ∀ v : Nat, v % 4294967296 < 4294967296 := fun v => Nat.mod_lt _ (by decide)
  simp [h8, h32]

theorem Cap.latched_not_loss (c : Cap) (a : Nat) : ∀ q ∈ c.latched a, archiveLoss q.1 = false := by simp [archiveLoss]

/-- A command that puts a capture in place at most, writes fields of no other concern, and closes the capture. -/
theorem Does.of_captureClose {x : Instr} {b : State} {l : List (Key × Nat)} (hf : Frame s b [.caps] (fun _ => false))
    (he : exec x s = .next ((b.sets l).captureClose c t ovf abort)) (hb : c.accBits = 0) (ha : c.start.getD 0 = a)
    (hp : c.port = p) (hn : ((l ++ c.latched a).map Prod.fst).Nodup) (hw : ∀ q ∈ l, q.2 < 2 ^ q.1.w) (hl : ∀ q ∈ l, archiveLoss q.1 = false) :
    Does x s [.caps, .edges, .arcBuf] archiveLoss (l ++ c.latched a) (fun u => u.cap p = none ∧ Archived s u (c.endEntry t ovf abort)) := by
  subst hp
  have hpre : Frame s (b.sets l) [.caps] (fun k => named l k) :=
    (hf.mono (by simp) (by simp)).trans (Frame.sets _ _ fun q hq => by simpa [named] using ⟨q.2, hq⟩)
  have hloss : named l Fld.IC_ARC_LOST = false := by
    simpa [named] using fun k v hq (e : k = Fld.IC_ARC_LOST) => by simpa [e, archiveLoss] using hl (k, v) hq
  have hclose : Frame (s.sets (l ++ c.latched a)) ((b.sets l).captureClose c t ovf abort) [.caps, .edges, .arcBuf] archiveLoss := by
    rw [State.sets_append]
    exact (((hf.sets_both l).sets_both (c.latched a)).mono (by simp) (by simp)).trans (State.captureClose_frame _ hb ha)
  refine Does.of_sets he hn (fun q hq => ?_) hclose (fun q hq => ?_)
    ⟨State.captureClose_cap _ hb, Archived.of_before hpre (State.captureClose_archived _ hb) (by simp) hloss⟩
  · exact (List.mem_append.mp hq).elim (hw q) (c.latched_lt a q)
  · exact (List.mem_append.mp hq).elim (hl q) (c.latched_not_loss a q)

end

/-! ### The commands that close one -/

section
variable {s : State} {p : Fin 48} {c : Cap}

/-- The abort of a capture that has not started ends it. -/
theorem captureEnd_aborts {e : Nat} (hc : s.cap p = some c) (hs : c.start = none) (hb : c.accBits = 0) (he : c.stopAt = some e) (ht : e ≤ s.tick) :
    Does (.captureEnd p) s [.caps, .edges, .arcBuf] archiveLoss (c.latched 0) (fun t => t.cap p = none ∧ Archived s t (c.endEntry e false true)) := by
  have hx : exec (.captureEnd p) s = .next (s.captureClose c e false true) := by
    change execCaptureEnd p s = _
    simp [execCaptureEnd, State.captureStep_armed hc hs, hc, he, State.now, ht]
  exact Does.of_captureClose (l := []) (Frame.refl ..) hx hb (by simp [hs]) (State.cap_port hc) (by simp) (by simp) (by simp)

/-- A capture that has its samples ends. -/
theorem captureEnd_completes {a : Nat} (hc : s.cap p = some c) (hs : c.start = some a) (hb : c.accBits = 0) (hl : c.len ≤ c.taken) (hn : c.stopAt = none) :
    Does (.captureEnd p) s [.caps, .edges, .arcBuf] archiveLoss (c.latched a)
      (fun t => t.cap p = none ∧ Archived s t (c.endEntry (a + c.len * 2 ^ s.get (Fld.PP_CFG_CLASS p)) false false)) := by
  have hx : exec (.captureEnd p) s = .next ((s.putCap c).captureClose c (a + c.len * 2 ^ s.get (Fld.PP_CFG_CLASS p)) false false) := by
    change execCaptureEnd p s = _
    simp [execCaptureEnd, State.captureStep_full hc hs hl, State.cap_putCap_self _ (State.cap_port hc), hs, hl, hn]
  exact Does.of_captureClose (l := []) (s.putCap_frame c) hx hb (by simp [hs]) (State.cap_port hc) (by simp) (by simp) (by simp)

/-- A full receive buffer ends it at once (R253). -/
theorem captureOverflow_ends {a : Nat} (hc : s.cap p = some c) (hs : c.start = some a) (hb : c.accBits = 0) (hl : c.len ≤ c.taken) :
    Does (.captureOverflow p) s [.caps, .edges, .arcBuf] archiveLoss ((Fld.PP_EVT_CAP_OVF p, 1) :: c.latched a)
      (fun t => t.cap p = none ∧ Archived s t (c.endEntry s.tick true false)) := by
  have hx : exec (.captureOverflow p) s = .next (((s.putCap c).sets [(Fld.PP_EVT_CAP_OVF p, 1)]).captureClose c s.tick true false) := by
    change execCaptureOverflow p s = _
    simp [execCaptureOverflow, State.captureStep_full hc hs hl, State.cap_putCap_self _ (State.cap_port hc), hs, State.now]
  exact Does.of_captureClose (l := [(Fld.PP_EVT_CAP_OVF p, 1)]) (s.putCap_frame c) hx hb (by simp [hs]) (State.cap_port hc)
    (by simp [State.cap_port hc]) (by simp) (by simp [archiveLoss])

end

/-! ### The counterexample -/

/-- An aborted capture that counts one sample more than PP_CAP_CNT can. -/
def longCapture : Cap := { port := 47, trig := none, byTask := true, len := 0, mode := true, card := 0, written := 2 ^ 40, stopAt := some 0 }

def longCaptured : State := { State.reset with caps := [longCapture] }

/-- Refutes O27: PP_CAP_CNT_HI has 8 bits, and the clause of an end by abort wants bits 32 to 63 of the count in it, of every state. On a state
whose capture counts 2^40 samples that is 256, which no field of 8 bits reads (`captureEnd_aborts` says what the close does latch). No
capture that a port arms reaches that count: its length has 40 bits. -/
theorem not_patternCaptures : ¬ Obligations.PatternCaptures := by
  intro h
  obtain ⟨-, -, -, -, hend, -⟩ := h
  obtain ⟨t, -, hlatched, -⟩ := (hend 47 longCaptured longCapture rfl rfl rfl).1 0 rfl (Nat.zero_le _)
  have hcount : t.get (Fld.PP_CAP_CNT_HI 47) = 256 := hlatched (Fld.PP_CAP_CNT_HI 47, 256) (by simp [longCapture])
  have hwidth : t.get (Fld.PP_CAP_CNT_HI 47) < 256 := t.get_lt _
  omega

end Sys2Proof.Machine
end

section
/-!
PROOFS. START of a correction group (O33): it clears HDR.H_VALID by a write of one byte, which reads back only from memory in its
canonical form; the statement wants it of every state.
-/
namespace Sys2Proof.Machine

/-! ### START in OFF (R282) -/

/-- The byte that holds HDR.H_VALID, with that bit cleared. -/
abbrev State.hdrCleared (s : State) (g : Nat) : BitVec 8 := BitVec.ofNat 8 ((Memory.read s.mem (s.storeBase g)).toNat / 2 * 2)

/-- What a START that is ready writes, in the order of the writes. -/
abbrev corStarted (g : Nat) : List (Key × Nat) :=
  [(Fld.COR_GRP_STATUS_RESTART_PENDING g, 0), (Fld.COR_GRP_STATUS_STATE g, 1), (Fld.COR_GRP_EVT_STATE_CHG g, 1), (Lat.COR_FRAMES g, 0), (Lat.COR_CTL g, 0),
    (Lat.COR_DUE g, 0), (Lat.COR_BUSY g, 0), (Lat.COR_RAMP g, 0), (Lat.COR_ZERO g, 0), (Fld.COR_GRP_STATUS_SETTLED g, 0), (Fld.COR_GRP_STATUS_ALARM g, 0),
    (Fld.COR_CNT_UPD g, 0), (Fld.COR_CNT_DISCARD g, 0)]

section
variable {s t : State} {g : Nat}

theorem State.corBegin_ready (hr : s.corReady g = true) (hh : s.hostEstimate g = false) :
    s.corBegin g = ((s.sets (corStarted g)).segStore (s.storeBase g) [s.hdrCleared g]).set (Fld.COR_GRP_STATUS_H_VALID g) 0 := by
  have hbase : (s.sets (corStarted g)).storeBase g = s.storeBase g := by simp [State.storeBase, State.get_set]
  have hmem : (s.sets (corStarted g)).mem = s.mem := rfl
  have hbegin : s.corBegin g = (s.sets (corStarted g)).setHValid g false := by
    rw [State.corBegin, if_pos hr, hh, if_neg Bool.false_ne_true]
    rfl
  rw [hbegin, State.setHValid, hbase, hmem]
  rfl

/-- Whether a drive destination is parked hard is said by the drives, their reels and the channels alone. -/
theorem State.corHardParked_congr (h : ∀ k, among [.COR_GRP_DRV, .REEL, .CH_PARK_SRC] k = true → t.get k = s.get k) (g : Nat) :
    t.corHardParked g = s.corHardParked g := by
  have hd : t.drives g = s.drives g := by simp [State.drives, State.is, h, among]
  simp [State.corHardParked, State.dests, hd, h, among]

theorem State.corBegin_corHardCheck (hp : s.corHardParked g = false) : (s.corBegin g).corHardCheck g = s.corBegin g := by
  have hb : (s.corBegin g).corHardParked g = false := by
    rw [← hp]
    refine State.corHardParked_congr (fun k hk => State.corBegin_get _ _ _ ?_) g
    revert hk
    simp only [among, List.contains_eq_mem, List.mem_cons, List.not_mem_nil, or_false, decide_eq_true_eq, decide_eq_false_iff_not]
    rintro (h | h | h) <;> simp [h]
  rw [State.corHardCheck, hb, if_neg Bool.false_ne_true]

end

section
variable {s : State} {g : Fin 4}

theorem exec_corStart_off (ho : s.hostOpen = true) (hv : s.is (Fld.COR_GRP_CFG_VALID g) = true) (h0 : s.get (Fld.COR_GRP_STATUS_STATE g) = 0)
    (hq : s.is (Fld.COR_GRP_STATUS_RESTART_PENDING g) = false) : exec (.corStart g false) s = .next ((s.corBegin g).corHardCheck g) := by
  change execCorStart g false s = _
  rw [execCorStart, State.onHost_open _ _ ho, State.corCmd]
  simp [hv, h0, hq]

/-- What START in OFF leaves in segment memory, whatever PARK_N and TRIP then do. -/
theorem corStart_mem {t : State} (ho : s.hostOpen = true) (hv : s.is (Fld.COR_GRP_CFG_VALID g) = true) (h0 : s.get (Fld.COR_GRP_STATUS_STATE g) = 0)
    (hq : s.is (Fld.COR_GRP_STATUS_RESTART_PENDING g) = false) (hr : s.corReady g = true) (hh : s.hostEstimate g = false)
    (he : exec (.corStart g false) s = .next t) : t.mem = Memory.write s.mem (s.storeBase g) (s.hdrCleared g) := by
  obtain rfl : (s.corBegin g).corHardCheck g = t := Host.Outcome.next.inj ((exec_corStart_off ho hv h0 hq).symm.trans he)
  have hcheck : ((s.corBegin g).corHardCheck g).mem = (s.corBegin g).mem := (State.corHardCheck_touches (s.corBegin g) g).1 .mem (by simp)
  rw [hcheck, State.corBegin_ready hr hh]
  rfl

/-- START in OFF, on memory in its canonical form: the byte reads back, and no other byte changes. -/
theorem corStart_does_estimate (hm : Memory.wf s.mem = true) (ho : s.hostOpen = true) (hv : s.is (Fld.COR_GRP_CFG_VALID g) = true)
    (hp : s.corHardParked g = false) (h0 : s.get (Fld.COR_GRP_STATUS_STATE g) = 0) (hq : s.is (Fld.COR_GRP_STATUS_RESTART_PENDING g) = false)
    (hr : s.corReady g = true) (hh : s.hostEstimate g = false) :
    Does (.corStart g false) s [.mem] (fun _ => false) (corStarted g ++ [(Fld.COR_GRP_STATUS_H_VALID g, 0)])
      (fun t => (Memory.read t.mem (s.storeBase g)).toNat = (Memory.read s.mem (s.storeBase g)).toNat / 2 * 2 ∧
        ∀ a, a ≠ s.storeBase g → Memory.read t.mem a = Memory.read s.mem a) := by
  have he : exec (.corStart g false) s = .next (s.corBegin g) := (exec_corStart_off ho hv h0 hq).trans (by rw [State.corBegin_corHardCheck hp])
  have hf : Frame (s.sets (corStarted g ++ [(Fld.COR_GRP_STATUS_H_VALID g, 0)])) (s.corBegin g) [.mem] (fun _ => false) := by
    rw [State.sets_append, State.corBegin_ready hr hh]
    exact ((State.segStoreFrame (s.sets (corStarted g)) _ _).mono (by simp) (by simp [among])).set_both _ _
  refine Does.of_sets he (by simp) (by simp) hf (by simp) ?_
  have hread : ∀ a, Memory.read (s.corBegin g).mem a = if a = s.storeBase g then s.hdrCleared g else Memory.read s.mem a := fun a => by
    rw [corStart_mem ho hv h0 hq hr hh he, Memory.read_write _ _ _ _ 0 hm]
  have hbyte := (Memory.read s.mem (s.storeBase g)).isLt
  refine ⟨?_, fun a ha => by rw [hread, if_neg ha]⟩
  rw [hread, if_pos rfl, BitVec.toNat_ofNat]
  omega

end

/-! ### The counterexample -/

/-- Group 3 in OFF with its store at leaf 0x8000, in a memory that lists the byte after HDR before HDR itself: the write of a 0 to HDR
finds no entry at its place and leaves the one that stands later. -/
def unsortedStore : State :=
  { State.reset.sets [(Fld.COR_GRP_CFG_VALID 3, 1), (Fld.COR_STORE_LEAF 3, 0x8000)] with mem := [(0x80000001, 1), (0x80000000, 1)] }

/-- Refutes O33: its clause of START in OFF has no premise that segment memory is in its canonical form, and on `unsortedStore` HDR.H_VALID
still reads 1 after START. On memory in the form that reset has and O3 speaks of, the clause holds (`corStart_does_estimate`). -/
theorem not_correctorCommands : ¬ Obligations.CorrectorCommands := by
  intro h
  obtain ⟨-, hcmd, -, -⟩ := h
  obtain ⟨hstart, -⟩ := hcmd 3 unsortedStore (by decide) (by decide) (by decide)
  obtain ⟨t, he, -, -, hread, -⟩ := hstart (by decide) (by decide) (by decide) (by decide)
  rw [corStart_mem (by decide) (by decide) (by decide) (by decide) (by decide) (by decide) he] at hread
  exact absurd hread (by decide)

end Sys2Proof.Machine
end

section
/-!
PROOFS. What every step keeps (O3): both memories in canonical form and a count below 2^64, for each operation that writes a memory or
moves the count; every other command keeps them by its frame.
-/
namespace Sys2Proof.Machine

/-- Both memories are in their canonical form and the count is a 64-bit number. -/
def State.Sound (s : State) : Prop := s.memWf ∧ s.tickWf

/-- Changes of these parts leave the memories and the count alone. -/
def quietParts (ps : List Part) : Bool := !ps.contains .tick && !ps.contains .mem && !ps.contains .sp

/-! ### The shared operations -/

theorem Memory.wfAbove_filter (p : Host.Cell → Bool) : ∀ (m : List Host.Cell) (lo : Nat), Memory.wfAbove lo m = true → Memory.wfAbove lo (m.filter p) = true
  | [], _, _ => rfl
  | (a, b) :: l, lo, h => by
    simp only [Memory.wfAbove, Bool.and_eq_true, decide_eq_true_eq] at h
    obtain ⟨⟨hlo, hb⟩, hl⟩ := h
    have ih := Memory.wfAbove_filter p l (a + 1) hl
    cases hp : p (a, b)
    · simpa [List.filter, hp] using Memory.wfAbove_mono (by omega) ih
    · simp only [List.filter, hp, Memory.wfAbove, hlo, hb, ih, ne_eq, not_false_eq_true, decide_true, Bool.and_self]

section
variable {s t : State}

theorem State.reset_sound : State.reset.Sound := ⟨State.reset_memWf, by decide⟩

/-- Soundness reads the two memories and the count alone. -/
theorem State.Sound.congr (h : s.Sound) (hm : t.mem = s.mem) (hs : t.sp = s.sp) (ht : t.tick = s.tick) : t.Sound := by
  simpa only [State.Sound, State.memWf, State.tickWf, hm, hs, ht] using h

/-- A change whose frame leaves the memories and the count alone. -/
theorem State.Sound.frame (h : s.Sound) {ps : List Part} {p : Key → Bool} (f : Frame s t ps p) (hq : quietParts ps = true) : t.Sound := by
  simp only [quietParts, Bool.and_eq_true, Bool.not_eq_true', List.contains_eq_mem, decide_eq_false_iff_not] at hq
  obtain ⟨⟨ht, hm⟩, hs⟩ := hq
  exact h.congr (f.1 .mem hm) (f.1 .sp hs) (f.1 .tick ht)

theorem State.Sound.set (h : s.Sound) (k : Key) (v : Nat) : (s.set k v).Sound := h

/-- The count is replaced by a 64-bit number. -/
theorem State.Sound.withTick (h : s.Sound) {v : Nat} (hv : v < 2 ^ 64) : ({ s with tick := v } : State).Sound := ⟨h.1, hv⟩

theorem State.Sound.sets (h : s.Sound) (l : List (Key × Nat)) : (s.sets l).Sound := h.frame (Frame.sets s l (p := anyKey) fun _ _ => rfl) (ps := []) rfl

theorem State.Sound.resetKeys (h : s.Sound) (p : Key → Bool) : (s.resetKeys p).Sound := h

theorem State.Sound.emit (h : s.Sound) (o : Output) : (s.emit o).Sound := h

theorem State.Sound.segStore (h : s.Sound) (a : Nat) (l : List (BitVec 8)) : (s.segStore a l).Sound := ⟨State.segStore_memWf a l h.1, h.2⟩

theorem State.Sound.spStore (h : s.Sound) (a : Nat) (l : List (BitVec 8)) : (s.spStore a l).Sound := ⟨State.spStore_memWf a l h.1, h.2⟩

theorem State.Sound.each {α : Type} {f : α → State → State} (h : s.Sound) (l : List α) (hf : ∀ x a, a.Sound → (f x a).Sound) : (s.each l f).Sound := by
  induction l generalizing s with
  | nil => exact h
  | cons x l ih => exact ih (hf x s h)

theorem State.Sound.when {f : State → State} (h : s.Sound) (c : Bool) (hf : (f s).Sound) : (s.when c f).Sound := by
  cases c
  · exact h
  · exact hf

theorem State.Sound.onHost {f : State → State} (h : s.Sound) (hf : (f s).Sound) : (s.onHost f).Sound := by
  unfold State.onHost
  split
  · exact h.set _ _
  · split
    · exact h
    · exact hf

end

/-! ### Segment memory (R83, R90, R97) -/

section
variable {s : State}

theorem State.Sound.storeBeat (h : s.Sound) (a : Nat) (l : List (BitVec 8)) : (s.storeBeat a l).Sound := by
  have hb : ∀ bs : List Nat, (s.each bs (fun b a => a.burstFault b)).Sound := fun bs =>
    h.each bs fun b a ha => ha.frame (State.burstFault_touches a b) rfl
  exact State.Sound.segStore ((hb _).congr rfl rfl rfl) _ _

theorem State.Sound.spoil (h : s.Sound) (l : List Nat) : (s.spoil l).Sound :=
  h.each l fun _ _ ha => State.Sound.segStore (ha.congr rfl rfl rfl) _ _

theorem State.Sound.writeBeats (h : s.Sound) (kind id fuel a : Nat) (l : List (BitVec 8)) (acc : Nat × Nat × FirstDrop) :
    (s.writeBeats kind id fuel a l acc).1.Sound := by
  induction fuel generalizing s a l acc with
  | zero => exact h
  | succ fuel ih =>
    unfold State.writeBeats
    dsimp only
    split
    · exact h
    · split
      · exact ih (h.storeBeat _ _) _ _ _
      · exact ih (h.frame (State.dropBeat_touches ..) rfl) _ _ _

theorem State.Sound.writeSeg (h : s.Sound) (kind id a : Nat) (l : List (BitVec 8)) : (s.writeSeg kind id a l).2.Sound := by
  have hw := h.writeBeats kind id (l.length / 64 + 2) a l (0, 0, none)
  unfold State.writeSeg
  dsimp only
  split
  · exact hw
  · exact hw.frame (State.archiveFrame ..) rfl

theorem State.Sound.segRead (h : s.Sound) (a n : Nat) : (s.segRead a n).2.Sound := h.frame (State.segRead_touches ..) rfl

theorem State.Sound.cardStore (h : s.Sound) (k : Nat) (d : List Nat) : (s.cardStore k d).Sound := by
  unfold State.cardStore
  dsimp only
  refine State.Sound.each ?_ _ fun n a ha => ha.frame (State.slotReset_touches a n) rfl
  exact State.Sound.congr ((h.segStore _ _).segStore _ _) rfl rfl rfl

theorem State.Sound.dmaCards (h : s.Sound) (k : Nat) (data : List (BitVec 8)) (fuel n : Nat) : (s.dmaCards k data fuel n).2.2.Sound := by
  induction fuel generalizing s n with
  | zero => exact h
  | succ fuel ih =>
    unfold State.dmaCards
    dsimp only
    split
    · exact h
    · exact ih (h.cardStore _ _) _

/-! ### Captures (R250 to R253) -/

theorem State.Sound.captureWrite (h : s.Sound) (c : Cap) (v : Nat) : (s.captureWrite c v).2.Sound := by
  unfold State.captureWrite
  dsimp only
  split
  · exact h.storeBeat _ _
  · split
    · exact h.set _ _
    · exact (h.frame (State.dropBeat_touches ..) rfl).set _ _

theorem State.Sound.captureRun (h : s.Sound) (t0 fuel : Nat) (c : Cap) : (s.captureRun t0 fuel c).2.Sound := by
  induction fuel generalizing s c with
  | zero => exact h
  | succ fuel ih =>
    unfold State.captureRun
    dsimp only
    split
    · exact h
    · split
      · exact ih (h.frame (State.captureArchive_touches ..) rfl) _
      · exact ih (h.captureWrite _ _) _

theorem State.Sound.captureStep (h : s.Sound) (p : Nat) : (s.captureStep p).Sound := by
  unfold State.captureStep
  split
  · split
    · exact (h.captureRun _ _ _).frame (State.putCap_touches ..) rfl
    · exact h
  · exact h

/-! ### The corrector's store and the scratchpads (R115, R271 to R275) -/

theorem State.Sound.setHValid (h : s.Sound) (g : Nat) (v : Bool) : (s.setHValid g v).Sound := (h.segStore _ _).set _ _

theorem State.Sound.corBegin (h : s.Sound) (g : Nat) : (s.corBegin g).Sound := by
  unfold State.corBegin
  dsimp only
  split
  · have hs := ((h.set (Fld.COR_GRP_STATUS_RESTART_PENDING g) 0).frame (State.corState_touches _ g 1) rfl).sets
    split
    · exact (hs _).set _ _
    · exact (hs _).setHValid _ _
  · exact (h.set _ _).set _ _

theorem State.Sound.corPending (h : s.Sound) (g : Nat) : (s.corPending g).Sound := by
  unfold State.corPending
  split
  · exact (h.corBegin g).frame (State.corHardCheck_touches ..) rfl
  · exact h

theorem State.Sound.storeWrites (h : s.Sound) (g : Nat) (l : List (Nat × List (BitVec 8))) : (s.storeWrites g l).Sound :=
  h.each _ fun _ _ ha => ha.segStore _ _

theorem State.Sound.corCount (h : s.Sound) (g : Nat) : (s.corCount g).Sound := by
  unfold State.corCount
  dsimp only
  have hb : (s.bump (Lat.COR_FRAMES g)).Sound := h.set _ _
  have hv : ∀ (c : Bool) (x : Nat) (l : List (BitVec 8)), (((s.bump (Lat.COR_FRAMES g)).when c (fun a => a.setHValid g true)).segStore x l).Sound :=
    fun c x l => (hb.when c (hb.setHValid g true)).segStore x l
  split
  · exact State.Sound.when ((hv _ _ _).set _ _) _ (((hv _ _ _).set _ _).set _ _)
  · exact hv _ _ _

theorem State.Sound.corAccept (h : s.Sound) (g : Nat) (errs : List (List Int)) (rms : List Int) (cur tag : Int) (tag32 : Nat)
    (store : List (Nat × List (BitVec 8))) : (s.corAccept g errs rms cur tag tag32 store).Sound :=
  State.Sound.corCount ((((h.storeWrites g store).segStore _ _).frame (State.corLevels_touches ..) rfl).frame (State.corChecks_touches ..) rfl) g

theorem State.Sound.spPut (h : s.Sound) (a : Nat) (v : BitVec 8) : (s.spPut a v).Sound := by
  unfold State.spPut
  split
  · dsimp only
    split
    · exact h.frame (State.recWrite_touches ..) rfl
    · exact h.set _ _
  · exact h.spStore _ _

theorem State.Sound.spWrite (h : s.Sound) (a : Nat) (l : List (BitVec 8)) : (s.spWrite a l).Sound := by
  induction l generalizing s a with
  | nil => exact h
  | cons b l ih =>
    unfold State.spWrite
    refine ih ?_ _
    split
    · exact h
    · split
      · exact h.set _ _
      · exact h.spPut _ _

theorem State.Sound.bankClear (h : s.Sound) (t b : Nat) : (s.bankClear t b).Sound := by
  have hf : ({ s with sp := s.sp.filter (fun (c : Host.Cell) => !(t * 0x400000 + b * 0x20000 ≤ c.1 && c.1 < t * 0x400000 + b * 0x20000 + 0x20000)) } : State).Sound :=
    ⟨⟨h.1.1, Memory.wfAbove_filter _ _ _ h.1.2⟩, h.2⟩
  unfold State.bankClear
  dsimp only
  split
  · exact hf.each _ fun _ _ h1 => h1.each _ fun _ _ h2 => h2.each _ fun _ _ h3 => h3.set _ _
  · exact hf

theorem State.Sound.ringStore (h : s.Sound) (e : List Nat) : (s.ringStore e).Sound := (h.segStore _ _).set _ _

theorem State.Sound.ringSample (h : s.Sound) (l j pos : Nat) (d : Int) : (s.ringSample l j pos d).Sound := by
  unfold State.ringSample
  dsimp only
  split
  · exact h
  · split
    · exact h
    · split
      · exact h
      · exact (h.writeSeg _ _ _ _).when _ ((h.writeSeg _ _ _ _).set _ _)

/-! ### The count (R63 to R65, R355, R356) -/

/-- The count goes on from a 64-bit value. -/
theorem State.Sound.applyCount (h : s.Sound) {v : Nat} (hv : v < 2 ^ 64) : (s.applyCount v).Sound := by
  have h1 := h.withTick hv
  unfold State.applyCount
  refine State.Sound.frame (State.Sound.each ?_ _ fun k a ha => ?_) (State.studioMisalign_touches _) rfl
  · exact (h1.frame (State.archiveFrame ..) rfl).frame (State.passedActions_touches _) rfl
  · exact ha.when _ (ha.frame (State.timerArm_touches a k v) rfl)

theorem State.Sound.applyLoad (h : s.Sound) : s.applyLoad.Sound := by
  have hv : s.get2 Fld.TB_LOAD_LO Fld.TB_LOAD_HI < 2 ^ 64 := lt_of_lt_of_le (s.get2_lt _ _) (by decide)
  exact State.Sound.applyCount (h.sets _) hv

theorem State.alignStep_count_lt (s : State) (l : Nat) (h : Int) : (s.alignStep l h).2.1 < 2 ^ 64 := by
  simp only [State.alignStep, tickMod]
  omega

theorem State.Sound.alignRelease (h : s.Sound) (x : Int) : (s.alignRelease x).Sound := by
  unfold State.alignRelease
  split
  · dsimp only
    split
    · exact State.Sound.applyCount (((h.sets _).set _ _).set _ _) (s.alignStep_count_lt _ x)
    · exact (h.sets _).set _ _
  · exact h

/-! ### Resets and boot (R398 to R405) -/

/-- A reset starts from the state after AON power-on. -/
theorem State.keepOnly_sound (s : State) (keep : Key → Bool) : (s.keepOnly keep).Sound := State.reset_sound.congr rfl rfl rfl

theorem State.resetMain_sound (s : State) : s.resetMain.Sound := (s.keepOnly_sound _).sets _

theorem State.resetBoot_sound (s : State) : s.resetBoot.Sound := s.resetMain_sound.sets _

theorem State.readingRoom_sound (s : State) : s.readingRoom.Sound := (s.resetBoot_sound.sets _).frame (State.parkAll_touches ..) rfl

theorem State.bootFail_sound (s : State) (cause us : Nat) : (s.bootFail cause us).Sound := by
  unfold State.bootFail
  dsimp only
  split
  · exact State.readingRoom_sound _
  · exact (State.resetBoot_sound _).sets _

theorem State.Sound.stage2 (h : s.Sound) (us : Nat) : (s.stage2 us).Sound := by
  unfold State.stage2
  dsimp only
  split
  · exact State.readingRoom_sound _
  · split
    · exact State.readingRoom_sound _
    · split
      · exact State.readingRoom_sound _
      · refine State.Sound.frame (State.Sound.set ?_ _ _) (State.newRecord_touches ..) rfl
        have he : ∀ (c : Bool) (a : State), a.Sound → (a.when c fun b => b.eraseOwner).Sound := fun c a ha =>
          ha.when c (ha.frame (State.eraseOwner_touches a) rfl)
        split
        · exact State.Sound.congr (he _ _ (State.Sound.frame ((h.set _ _).set _ _) (State.cellRise_touches ..) rfl)) rfl rfl rfl
        · exact he _ _ (State.Sound.frame ((h.set _ _).set _ _) (State.cellRise_touches ..) rfl)

theorem State.Sound.nextStage (h : s.Sound) (k us : Nat) : (s.nextStage k us).Sound := by
  have hs : (s.sets [(Fld.AON_BSTAGE_T k, us), (Fld.AON_BOOT_STATUS_STAGE, k + 1)]).Sound := h.sets _
  have hw : ∀ item, ((s.sets [(Fld.AON_BSTAGE_T k, us), (Fld.AON_BOOT_STATUS_STAGE, k + 1)]).waitHost item).Sound := fun item =>
    hs.frame (State.waitHost_touches ..) rfl
  unfold State.nextStage
  dsimp only
  split
  · exact hs.stage2 us
  · exact hw 0
  · split
    · exact State.bootFail_sound ..
    · exact hs.frame (State.stage6_touches _) rfl
  · exact hw 1
  · exact hw 2
  · exact hw 3
  · exact hs

end

end Sys2Proof.Machine
end

section
/-!
PROOFS. What every step keeps (O3), command by command: those that write a memory, move the count or reset the block by the operations
above, all others by their frames.
-/
namespace Sys2Proof.Machine

section
variable {s : State}

/-! ### Security (R410 to R416) -/

theorem State.wipe_sound (h : s.tickWf) : s.wipe.Sound := by
  have he : ({ s with sp := [], mem := [], badBursts := [] } : State).Sound := ⟨State.reset_memWf, h⟩
  exact he.each _ fun t a ha => ha.bankClear t 1

theorem State.Sound.rmaDone (h : s.Sound) : s.rmaDone.Sound := by
  unfold State.rmaDone
  refine State.Sound.resetKeys ?_ _
  split
  · exact State.Sound.set (State.wipe_sound ((h.frame (State.lifeCycle_touches s 4) rfl).frame (State.eraseOwner_touches _) rfl).2) _ _
  · exact h.set _ _

theorem State.Sound.zeroizeDone (h : s.Sound) (wipes : Bool) : (s.zeroizeDone wipes).Sound := by
  have hk : ({ s with idKey := [] } : State).Sound := h
  have he : ∀ l, (({ s with idKey := [] } : State).eraseOwner.sets l).Sound := (hk.frame (State.eraseOwner_touches _) rfl).sets
  unfold State.zeroizeDone
  dsimp only
  split
  · exact State.wipe_sound (he _).2
  · exact he _

theorem State.Sound.secEffect (h : s.Sound) (code : Nat) : (s.secEffect code).Sound := by
  have hc : ∀ i k v, (s.cellRise i k v).Sound := fun i k v => h.frame (State.cellRise_touches ..) rfl
  have hk : ({ s with idKey := [] } : State).Sound := h
  unfold State.secEffect
  split
  · exact h.frame (State.attestDone_touches _) rfl
  · exact h.frame (State.provisionDone_touches _) rfl
  · exact h.frame (State.lifeCycle_touches ..) rfl
  · exact h.frame (State.nonceDone_touches _) rfl
  · exact h.rmaDone
  · exact (hk.frame (State.eraseOwner_touches _) rfl).frame (State.lifeCycle_touches ..) rfl
  · exact h.zeroizeDone false
  · exact h.zeroizeDone true
  · exact hc ..
  · exact hc ..
  · exact hc ..
  · exact h

/-! ### One tick -/

theorem State.Sound.outputs (h : s.Sound) : s.outputs.Sound := by
  refine State.Sound.each (State.Sound.each (h.each _ fun n a ha => ?_) _ fun p a ha => ?_) _ fun l a ha => ?_
  · exact ha.frame (State.channelTick_touches ..) rfl
  · exact State.Sound.captureStep ((ha.frame (State.portTick_touches ..) rfl).frame (State.jesdTick_touches ..) rfl) p
  · exact ha.frame (State.linkTick_touches ..) rfl

theorem State.Sound.wordStart (h : s.Sound) : s.wordStart.Sound := by
  have h0 := h.frame (State.trimStep_touches s) rfl
  refine State.Sound.each (State.Sound.each (State.Sound.each (h0.each _ fun n a ha => ?_) _ fun p a ha => ?_) _ fun g a ha => ?_) _ fun k a ha => ?_
  · exact (ha.frame (State.softPark_touches ..) rfl).frame (State.skewStep_touches ..) rfl
  · exact (ha.frame (State.portPark_touches ..) rfl).frame (State.delayStep_touches ..) rfl
  · exact ha.corPending g
  · exact ha.frame (State.tiuAge_touches ..) rfl

theorem State.Sound.tickOnce (h : s.Sound) : s.tickOnce.Sound := by
  unfold State.tickOnce
  split
  · have h1 := h.outputs.withTick (Nat.mod_lt (s.tick + 1) (Nat.two_pow_pos 64))
    have h3 : ∀ {a : State}, a.Sound → ∀ rs ns : List Nat, ((a.each rs fun r b => b.reelTick r).each ns fun n b => b.evioFall n).Sound :=
      fun ha rs ns => State.Sound.each (ha.each rs fun r b hb => hb.frame (State.reelTick_touches b r) rfl) ns fun n b hb =>
        hb.frame (State.evioFall_touches b n) rfl
    exact State.Sound.when (h3 h1 _ _) _ (State.Sound.wordStart (h3 h1 _ _))
  · exact h

/-! ### The commands that write a memory or move the count -/

/-- If a meaning answers a next state, that state is sound. -/
structure Sounds (r : Res) : Prop where
  sound : ∀ t, r = .next t → t.Sound

theorem State.Sound.next (h : s.Sound) : Sounds (.next s) where
  sound t ht := by
    cases ht
    exact h

/-- A meaning whose frame leaves the memories and the count alone. -/
theorem Frames.sounds {r : Res} {ps : List Part} {p : Key → Bool} (f : Frames s r ps p) (hq : quietParts ps = true) (h : s.Sound) : Sounds r := by
  obtain ⟨t, rfl, ft⟩ := f
  exact (h.frame ft hq).next

/-- A descriptor keeps what its data movement keeps (R440 to R443). -/
theorem State.Sound.runDesc (h : s.Sound) (q op : Nat) (seg : Bool) (words : List Nat) (moved : Nat) (err : Bool)
    {move : Desc → Nat → State → Option (Nat × Nat) × State} (hm : ∀ d n, (move d n s).2.Sound) : (s.runDesc q op seg words moved err move).Sound := by
  have he : ∀ {a : State}, a.Sound → ∀ st c n irq, (a.dmaEnd q st c n irq).Sound := fun ha st c n irq => ha.frame (State.dmaEnd_touches ..) rfl
  have hc : (if (descOf words).commit then (move (descOf words) (descOf words).len s).2.commitSlot (descOf words).slot 1 q (descOf words).seq
      else (true, (move (descOf words) (descOf words).len s).2)).2.Sound := by
    split
    · exact (hm _ _).frame (State.commitSlot_touches ..) rfl
    · exact hm _ _
  unfold State.runDesc
  dsimp only
  split
  · exact h
  · split
    · exact he h ..
    · split
      · exact he (hm _ _) ..
      · split
        · split
          · exact he (hm _ _) ..
          · exact h
        · revert hc
          generalize (if (descOf words).commit = true then _ else _ : Bool × State) = c
          intro hc
          split
          · exact he hc ..
          · split
            · exact he hc ..
            · exact he hc ..

theorem execWriteSeg_sounds (h : s.Sound) (q : Fin 64) (d : List Nat) (moved : Nat) (data : List (BitVec 8)) (uncorr : List Nat) (err : Bool) :
    Sounds (execWriteSeg q d moved data uncorr err s) :=
  (h.runDesc _ _ _ _ _ _ fun x n => (h.spoil uncorr).writeSeg 1 q x.dev (data.take n)).next

theorem execReadSeg_sounds (h : s.Sound) (q : Fin 64) (d : List Nat) (moved : Nat) (uncorr : List Nat) (err : Bool) :
    Sounds (execReadSeg q d moved uncorr err s) :=
  (h.runDesc _ _ _ _ _ _ fun x n => ((h.spoil uncorr).segRead x.dev n).emit _).next

theorem execWriteSp_sounds (h : s.Sound) (q : Fin 64) (d : List Nat) (moved : Nat) (data : List (BitVec 8)) (err : Bool) :
    Sounds (execWriteSp q d moved data err s) :=
  (h.runDesc _ _ _ _ _ _ fun x n => h.spWrite x.dev (data.take n)).next

theorem execDmaCard_sounds (h : s.Sound) (q : Fin 64) (d : List Nat) (moved : Nat) (data : List (BitVec 8)) (err : Bool) :
    Sounds (execDmaCard q d moved data err s) :=
  (h.runDesc _ _ _ _ _ _ fun x n => h.dmaCards x.dev (data.take n) (n / 64) 0).next

theorem execBar2Write_sounds (h : s.Sound) (pf : Fin 4) (addr : Nat) (data : List (BitVec 8)) (uncorr : List Nat) :
    Sounds (execBar2Write pf addr data uncorr s) :=
  (h.onHost (((h.spoil uncorr).when _ ((h.spoil uncorr).set _ _)).writeSeg ..)).next

theorem execBar2Read_sounds (h : s.Sound) (pf : Fin 4) (addr len : Nat) (uncorr : List Nat) : Sounds (execBar2Read pf addr len uncorr s) := by
  refine State.Sound.next ?_
  split
  · exact (h.set _ _).emit _
  · split
    · exact h.emit _
    · split
      · exact (h.set _ _).emit _
      · exact ((h.spoil uncorr).segRead addr len).emit _

theorem execCardWrite_sounds (h : s.Sound) (withRead : Bool) : Sounds (execCardWrite withRead s) := by
  refine (h.onHost ?_).next
  split
  · exact h
  · split
    · exact h.set _ _
    · dsimp only
      split
      · exact (h.sets _).cardStore _ _
      · exact h.sets _

theorem execScratchpadWrite_sounds (h : s.Sound) (pf : Fin 4) (addr : Nat) (data : List (BitVec 8)) (ecc : Fin 3) :
    Sounds (execScratchpadWrite pf addr data ecc s) := by
  have hw := h.spWrite addr data
  refine (h.onHost ?_).next
  split
  · exact h.emit _
  · split
    · exact hw
    · exact hw.set _ _
    · exact ((hw.set _ _).set _ _).frame (State.raiseFrame ..) rfl

theorem execMarchStart_sounds (h : s.Sound) (t : Fin 8) (v : Nat) : Sounds (execMarchStart t v s) := by
  refine (h.onHost ?_).next
  split
  · exact h.sets _
  · split
    · exact h.set _ _
    · split
      · exact (h.sets _).set _ _
      · split
        · exact (h.sets _).set _ _
        · dsimp only
          split
          · exact State.Sound.spStore (((h.sets _).sets _).bankClear _ _) _ _
          · exact (h.sets _).sets _

theorem execMarchDone_sounds (h : s.Sound) (t : Fin 8) (fails addr : Nat) : Sounds (execMarchDone t fails addr s) := by
  refine State.Sound.next ?_
  split
  · exact h
  · have hc : (if s.is (Lat.MARCH_MODE t) then s else s.bankClear t (s.get (Fld.TL_MARCH_STATUS_BANK t))).Sound := by
      split
      · exact h
      · exact h.bankClear _ _
    dsimp only
    split
    · exact (hc.sets _).sets _
    · exact ((hc.sets _).sets _).frame (State.raiseFrame ..) rfl

theorem execCaptureEnd_sounds (h : s.Sound) (p : Fin 48) : Sounds (execCaptureEnd p s) := by
  have hc := h.captureStep p
  have hx : ∀ c t o a, ((s.captureStep p).captureClose c t o a).Sound := fun c t o a => hc.frame (State.captureClose_touches ..) rfl
  refine State.Sound.next ?_
  split
  · exact hc
  · split
    · split
      · exact hx ..
      · exact hc
    · split
      · exact hx ..
      · exact hc

theorem execCaptureOverflow_sounds (h : s.Sound) (p : Fin 48) : Sounds (execCaptureOverflow p s) := by
  have hc := h.captureStep p
  refine State.Sound.next ?_
  split
  · split
    · exact (hc.set _ _).frame (State.captureClose_touches ..) rfl
    · exact hc
  · exact hc

/-- What follows the release of `s`, in state `a`: the units that waited for it start, an aligned or loaded count takes the place of
the held one, and a clear that was held takes effect (R58, R61, R65, R355). -/
def State.afterAnchor (s a : State) (h : Int) : State :=
  let a1 := ((a.flag Lat.TB_EVER).set Fld.REF_STATUS_SLK_SRC (a.get Fld.REF_STATUS_PRESENT)).bootClear.afterRelease
  let a2 := if s.get Fld.TB_STATUS_STATE = 6 ∧ a1.get Fld.LK_STUDIO_STATUS_STATE = 4 then a1.alignRelease h
    else if a1.is Lat.TB_LOAD_OK then a1.applyLoad else a1
  if a2.is Lat.TB_CLEAR_HELD then (a2.clr Lat.TB_CLEAR_HELD).tbStop else a2

theorem State.Sound.afterAnchor {a : State} (ha : a.Sound) (s : State) (h : Int) : (s.afterAnchor a h).Sound := by
  have h0 : ((a.flag Lat.TB_EVER).set Fld.REF_STATUS_SLK_SRC (a.get Fld.REF_STATUS_PRESENT)).Sound := (ha.set Lat.TB_EVER 1).set _ _
  have h1 := State.Sound.frame (h0.frame (State.bootClear_touches _) rfl) (State.afterRelease_touches _) rfl
  have h2 : ∀ (b : State) (p : Prop) [Decidable p] (q : Bool), b.Sound → (if p then b.alignRelease h else if q then b.applyLoad else b).Sound := by
    intro b p _ q hb
    split
    · exact hb.alignRelease h
    · split
      · exact hb.applyLoad
      · exact hb
  have h3 : ∀ b : State, b.Sound → (if b.is Lat.TB_CLEAR_HELD then (b.clr Lat.TB_CLEAR_HELD).tbStop else b).Sound := by
    intro b hb
    split
    · exact State.Sound.frame (hb.set _ _) (State.tbStop_touches _) rfl
    · exact hb
  exact h3 _ (h2 _ _ _ h1)

theorem execAnchorRelease_sounds (h : s.Sound) (d j : Nat) : Sounds (execAnchorRelease d j s) := by
  refine State.Sound.next ?_
  split
  · exact h
  · split
    · exact State.Sound.afterAnchor ((h.frame (State.tbEnter_touches s 3) rfl).sets _) s (s.heldInterval d j)
    · split
      · exact State.Sound.afterAnchor (h.frame (State.release_touches ..) rfl) s (s.heldInterval d j)
      · exact h
    · exact h

theorem execSysReset_sounds (h : s.Sound) (pf : Fin 4) (key : Fin 65536) : Sounds (execSysReset pf key s) := by
  refine State.Sound.next ?_
  split
  · split
    · exact s.resetMain_sound
    · exact h
  · exact h.set _ _

theorem execAonPowerOn_sounds (s : State) : Sounds (execAonPowerOn s) :=
  State.Sound.next (State.Sound.each (s.keepOnly_sound nonVolatile) _ fun d _ ha =>
    State.Sound.frame (ha.each _ fun _ _ hb => hb.set _ _) (State.wearShow_touches _ d) rfl)

theorem execMainRailPgLoss_sounds (h : s.Sound) (rail : Fin 11) (lost : Bool) : Sounds (execMainRailPgLoss rail lost s) := by
  refine State.Sound.next ?_
  split
  · exact h
  · split
    · exact (State.resetMain_sound _).resetKeys _
    · exact State.Sound.when (h.sets _) _ ((h.sets _).set _ _)

theorem execBootStageDone_sounds (h : s.Sound) (us : Nat) (data : List (BitVec 8)) (fac : Option CalRecord) (ovr : Option OvrRecord) :
    Sounds (execBootStageDone us data fac ovr s) := by
  have h0 : ({ s with bootRx := [] } : State).Sound := h
  refine State.Sound.next ?_
  generalize (if s.get Fld.AON_BOOT_STATUS_SRC = 2 ∧ s.stage ≠ 3 then s.bootRx else data) = bytes
  split
  · exact h
  · split
    · exact s.bootFail_sound ..
    · split
      · exact h.nextStage 1 us
      · exact h.nextStage 2 us
      · split
        · exact s.bootFail_sound ..
        · next ha => exact (h.frame (State.stage3_touches s data _ ha) rfl).nextStage 3 us
      · exact h.nextStage 4 us
      · have hs : ({ s with sp := [] } : State).Sound := ⟨⟨h.1.1, rfl⟩, h.2⟩
        exact hs.nextStage 5 us
      · split
        · exact h.nextStage 6 us
        · exact h
      · have hm : ({ s with mem := [], badBursts := [] } : State).Sound := ⟨⟨rfl, h.1.2⟩, h.2⟩
        exact (hm.when _ (hm.set _ _)).nextStage 7 us
      · dsimp only
        split
        · exact s.bootFail_sound ..
        · exact (h0.frame (State.takeFirmware_touches ..) rfl).nextStage 8 us
      · split
        · exact (h0.frame (State.noImage_touches _) rfl).nextStage 9 us
        · dsimp only
          split
          · exact s.bootFail_sound ..
          · exact (h0.frame (State.applyImage_touches ..) rfl).nextStage 9 us
      · exact (h0.frame (State.stage10_touches ..) rfl).nextStage 10 us
      · exact h

theorem execHostTimeout_sounds (h : s.Sound) (us : Nat) : Sounds (execHostTimeout us s) := by
  refine State.Sound.next ?_
  split
  · split
    · exact h.frame (State.itemGiven_touches ..) rfl
    · exact s.bootFail_sound ..
  · exact h

theorem execBootStageFail_sounds (h : s.Sound) (cause : Fin 256) (us : Nat) : Sounds (execBootStageFail cause us s) := by
  refine State.Sound.next ?_
  split
  · exact s.bootFail_sound ..
  · exact h

theorem execBootRetry_sounds (h : s.Sound) (pf : Fin 4) : Sounds (execBootRetry pf s) := by
  refine State.Sound.next ?_
  unfold State.asPrivAon
  split
  · dsimp only
    split
    · exact State.resetBoot_sound _
    · exact h
  · exact h.set _ _

theorem execCorStart_sounds (h : s.Sound) (g : Fin 4) (multi : Bool) : Sounds (execCorStart g multi s) := by
  refine (h.onHost ?_).next
  unfold State.corCmd
  split
  · exact h.set _ _
  · split
    · exact h.frame (State.outOfScope_touches ..) rfl
    · refine State.Sound.frame ?_ (State.corHardCheck_touches ..) rfl
      dsimp only
      split
      · split
        · exact h
        · exact h.corBegin g
      · exact h.sets _
      · exact h.set _ _
      · exact h.set _ _
      · exact h

theorem execCorFrameClose_sounds (h : s.Sound) (g : Fin 4) (sat flagged : Nat) (gap ecc : Bool) (errs : List (List Int)) (rms : List Int)
    (cur tag : Int) (tag32 : Nat) (store : List (Nat × List (BitVec 8))) :
    Sounds (execCorFrameClose g sat flagged gap ecc errs rms cur tag tag32 store s) := by
  have h0 := h.frame (State.corInputFlags_touches s g sat flagged) rfl
  have h1 := h0.corAccept g errs rms cur tag tag32 store
  refine State.Sound.next ?_
  split
  · exact h
  · split
    · exact h0.frame (State.corAbort_touches ..) rfl
    · split
      · exact h0.frame (State.corDiscard_touches ..) rfl
      · dsimp only
        split
        · split
          · exact State.Sound.set (State.Sound.set (State.Sound.set (h1.set _ _) _ _) _ _) _ _
          · exact h1.set _ _
        · exact h1

theorem execCorBlockEnd_sounds (h : s.Sound) (g : Fin 4) (sat flagged : Nat) (gap ecc : Bool) (errs : List (List Int)) (rms : List Int)
    (cur tag : Int) (tag32 : Nat) (store : List (Nat × List (BitVec 8))) (upd : List (Nat × Nat × Int)) :
    Sounds (execCorBlockEnd g sat flagged gap ecc errs rms cur tag tag32 store upd s) := by
  have h0 := h.frame (State.corInputFlags_touches s g sat flagged) rfl
  have h1 := h0.corAccept g errs rms cur tag tag32 store
  refine State.Sound.next ?_
  split
  · exact h
  · split
    · exact h0.frame (State.corAbort_touches ..) rfl
    · split
      · exact h0.frame (State.corDiscard_touches ..) rfl
      · dsimp only
        split
        · split
          · exact State.Sound.set (h1.set _ _) _ _
          · exact h1.frame (State.sineUpdate_touches ..) rfl
        · exact h1

theorem execCorUpdate_sounds (h : s.Sound) (g : Fin 4) (held : List Bool) (rho : List (List (Nat × Nat))) : Sounds (execCorUpdate g held rho s) := by
  have h1 := h.when (f := fun a => a.swapBanks g) (s.is (Lat.COR_SWAP g)) (h.frame (State.swapBanks_touches s g) rfl)
  refine State.Sound.next ?_
  split
  · exact h
  · refine State.Sound.frame ?_ (State.corHardCheck_touches ..) rfl
    have h3 : ∀ {a : State}, a.Sound → ∀ (rows : List (Nat × List (Nat × Nat))) (x : Nat × List (Nat × Nat) → State → Nat) (b : Nat × List (Nat × Nat) → List (BitVec 8)),
        ((a.each rows fun p c => c.spStore (x p c) (b p)).each rows fun p c => (c.stageVoice p.1 6 0).commitSet p.1).Sound := fun ha rows x b =>
      State.Sound.each (ha.each rows fun p c hc => hc.spStore _ _) rows fun p c hc =>
        (hc.frame (State.stageVoice_touches c p.1 6 0) rfl).frame (State.commitSet_touches _ p.1) rfl
    exact State.Sound.when (State.Sound.sets (h3 h1 _ _ _) _) _ (State.Sound.set (State.Sound.sets (h3 h1 _ _ _) _) _ _)

theorem execRampEnd_sounds (h : s.Sound) (g : Fin 4) : Sounds (execRampEnd g s) := by
  have hs : ∀ e, (s.each (s.drives g) (fun r a => a.requestStop r e)).Sound := fun e =>
    h.each _ fun r a ha => ha.frame (State.requestStop_touches ..) rfl
  refine State.Sound.next ?_
  split
  · dsimp only
    split
    · exact State.Sound.corPending (((hs _).set _ _).frame (State.corState_touches ..) rfl) _
    · split
      · exact ((hs _).set _ _).frame (State.corState_touches ..) rfl
      · exact (hs _).set _ _
  · exact h

theorem execArchiveWriteEntry_sounds (h : s.Sound) : Sounds (execArchiveWriteEntry s) := by
  refine State.Sound.next ?_
  split
  · exact h
  · next e rest _ =>
    have h1 : ({ s with arcBuf := rest } : State).Sound := h
    dsimp only
    split
    · exact (h1.ringStore e).frame (State.ringUpdate_touches _) rfl
    · split
      · split
        · exact h1.set _ _
        · exact State.Sound.frame (State.Sound.set (State.Sound.set (h1.set _ _) _ _) _ _) (State.raiseFrame ..) rfl
      · exact State.Sound.frame (State.Sound.set (State.Sound.set ((h1.ringStore e).set _ _) _ _) _ _) (State.ringUpdate_touches _) rfl

theorem execMsgStream_sounds (h : s.Sound) (l : Fin 16) (c : Fin 32) (w : Nat) (data : List Nat) : Sounds (execMsgStream l c w data s) := by
  refine State.Sound.next ?_
  split
  · exact h
  · split
    · exact h.frame (State.crcError_touches ..) rfl
    · dsimp only
      split
      · exact State.Sound.congr (h.sets _) rfl rfl rfl
      · have hr : ∀ (a : State) (n : Nat) (p : Nat → Nat) (x : Nat → Int), a.Sound →
            (a.each (List.range n) fun i b => b.ringSample l (bitsOf w 4 2) (p i) (x i)).Sound :=
          fun a n p x ha => ha.each _ fun i b hb => hb.ringSample ..
        exact State.Sound.when (State.Sound.set (hr _ _ _ _ (h.sets _)) _ _) _
          (State.Sound.frame (State.Sound.set (hr _ _ _ _ (h.sets _)) _ _) (State.segmentCommit_touches ..) rfl)
      · exact h.sets _

theorem execSecCmdDone_sounds (h : s.Sound) : Sounds (execSecCmdDone s) := by
  refine State.Sound.next ?_
  split
  · exact h
  · split
    · exact h
    · dsimp only
      split
      · exact State.resetMain_sound _
      · exact (h.secEffect _).frame (State.secEnd_touches ..) rfl

theorem execSecErrorEnter_sounds (h : s.Sound) (code : Fin 8) (us : Nat) : Sounds (execSecErrorEnter code us s) := by
  refine State.Sound.next ?_
  split
  · exact h
  · split
    · exact State.bootFail_sound ..
    · have h1 := (h.set Fld.SEC_STATUS_ERROR 1).when (f := fun a => (a.set Fld.SEC_ALARM_CODE code).flag Fld.SEC_EVT_ERROR)
        (!s.is Fld.SEC_STATUS_ERROR) (((h.set _ _).set _ _).set _ _)
      have h2 := h1.when (f := fun a => a.flag Fld.SEC_EVT_HEALTH) ((code : Nat) == 2 || (code : Nat) == 3) (h1.set _ _)
      have h3 := h2.when (f := fun a => a.secEnd 7) (s.is Fld.SEC_STATUS_BUSY) (h2.frame (State.secEnd_touches ..) rfl)
      split
      · exact h3
      · exact State.Sound.frame (h3.set _ _) (State.raiseFrame ..) rfl

end

/-- No command breaks the form of a memory or lets the count leave 64 bits. -/
theorem exec_sounds {s : State} (h : s.Sound) (c : Instr) : Sounds (exec c s) := by
  cases c with
  | registerWrite => exact (execRegisterWrite_touches ..).sounds rfl h
  | stickyReadClear => exact (execStickyReadClear_touches ..).sounds rfl h
  | wsWriteEffect => exact (execWsWriteEffect_touches ..).sounds rfl h
  | tickSkew => exact (execTickSkew_touches ..).sounds rfl h
  | ccFault => exact (execCcFault_touches ..).sounds rfl h
  | refCfgWrite => exact (execRefCfgWrite_touches ..).sounds rfl h
  | refLost => exact (execRefLost_touches ..).sounds rfl h
  | refBack => exact (execRefBack_touches ..).sounds rfl h
  | pllEnable => exact (execPllEnable_touches ..).sounds rfl h
  | pllDisable => exact (execPllDisable_touches ..).sounds rfl h
  | lockDetect => exact (execLockDetect_touches ..).sounds rfl h
  | pllUnlock => exact (execPllUnlock_touches ..).sounds rfl h
  | reacquireStart => exact (execReacquireStart_touches ..).sounds rfl h
  | reacqTimeout => exact (execReacqTimeout_touches ..).sounds rfl h
  | reanchorStop => exact (execReanchorStop_touches ..).sounds rfl h
  | anchorRelease => exact execAnchorRelease_sounds h ..
  | reanchorParkRelease => exact (execReanchorParkRelease_touches ..).sounds rfl h
  | anchorMeasDone => exact (execAnchorMeasDone_touches ..).sounds rfl h
  | tbStopDone => exact (execTbStopDone_touches ..).sounds rfl h
  | tbAnchor => exact (execTbAnchor_touches ..).sounds rfl h
  | tbRelock => exact (execTbRelock_touches ..).sounds rfl h
  | loadArm => exact (execLoadArm_touches ..).sounds rfl h
  | loadDisarm => exact (execLoadDisarm_touches ..).sounds rfl h
  | todCommit => exact (execTodCommit_touches ..).sounds rfl h
  | epochCfgWrite => exact (execEpochCfgWrite_touches ..).sounds rfl h
  | epochPulse => exact (execEpochPulse_touches ..).sounds rfl h
  | epochInEdge => exact (execEpochInEdge_touches ..).sounds rfl h
  | sysrefCfgWrite => exact (execSysrefCfgWrite_touches ..).sounds rfl h
  | sysrefPulse => exact (execSysrefPulse_touches ..).sounds rfl h
  | bar2Write => exact execBar2Write_sounds h ..
  | bar2Read => exact execBar2Read_sounds h ..
  | cardWrite => exact execCardWrite_sounds h ..
  | cardRead => exact (execCardRead_touches ..).sounds rfl h
  | cardCmdComplete => exact (execCardCmdComplete_touches ..).sounds rfl h
  | cardCacheFill => exact (execCardCacheFill_touches ..).sounds rfl h
  | cueWindowEnter => exact (execCueWindowEnter_touches ..).sounds rfl h
  | loanInForce => exact (execLoanInForce_touches ..).sounds rfl h
  | wdropClr => exact (execWdropClr_touches ..).sounds rfl h
  | streamBind => exact (execStreamBind_touches ..).sounds rfl h
  | streamReset => exact (execStreamReset_touches ..).sounds rfl h
  | hostCommitWrite => exact (execHostCommitWrite_touches ..).sounds rfl h
  | streamCommit => exact (execStreamCommit_touches ..).sounds rfl h
  | playPointerAdvance => exact (execPlayPointerAdvance_touches ..).sounds rfl h
  | refreshStepDown => exact (execRefreshStepDown_touches ..).sounds rfl h
  | bookingThermalClear => exact (execBookingThermalClear_touches ..).sounds rfl h
  | marchStart => exact execMarchStart_sounds h ..
  | marchDone => exact execMarchDone_sounds h ..
  | scratchpadWrite => exact execScratchpadWrite_sounds h ..
  | reelRecordWrite => exact (execReelRecordWrite_touches ..).sounds rfl h
  | reelArm => exact (execReelArm_touches ..).sounds rfl h
  | reelDisarm => exact (execReelDisarm_touches ..).sounds rfl h
  | reelStopAt => exact (execReelStopAt_touches ..).sounds rfl h
  | reelClear => exact (execReelClear_touches ..).sounds rfl h
  | reelStart => exact (execReelStart_touches ..).sounds rfl h
  | cueBoundary => exact (execCueBoundary_touches ..).sounds rfl h
  | cueNop => exact (execCueNop_touches ..).sounds rfl h
  | cuePlay => exact (execCuePlay_touches ..).sounds rfl h
  | cuePlayn => exact (execCuePlayn_touches ..).sounds rfl h
  | cueLoop => exact (execCueLoop_touches ..).sounds rfl h
  | cueNext => exact (execCueNext_touches ..).sounds rfl h
  | cueCall => exact (execCueCall_touches ..).sounds rfl h
  | cueRet => exact (execCueRet_touches ..).sounds rfl h
  | cueWaitEv => exact (execCueWaitEv_touches ..).sounds rfl h
  | cueWaitTick => exact (execCueWaitTick_touches ..).sounds rfl h
  | cueSync => exact (execCueSync_touches ..).sounds rfl h
  | cueCutif => exact (execCueCutif_touches ..).sounds rfl h
  | cueSetF => exact (execCueSetF_touches ..).sounds rfl h
  | cueSetP => exact (execCueSetP_touches ..).sounds rfl h
  | cueSetG => exact (execCueSetG_touches ..).sounds rfl h
  | cueSetRng => exact (execCueSetRng_touches ..).sounds rfl h
  | cueSlate => exact (execCueSlate_touches ..).sounds rfl h
  | cueMark => exact (execCueMark_touches ..).sounds rfl h
  | cueFire => exact (execCueFire_touches ..).sounds rfl h
  | cueEventPulse => exact (execCueEventPulse_touches ..).sounds rfl h
  | cueCalGap => exact (execCueCalGap_touches ..).sounds rfl h
  | cueStop => exact (execCueStop_touches ..).sounds rfl h
  | cueEnd => exact (execCueEnd_touches ..).sounds rfl h
  | waitEnd => exact (execWaitEnd_touches ..).sounds rfl h
  | waitTimeout => exact (execWaitTimeout_touches ..).sounds rfl h
  | stopTakeEffect => exact (execStopTakeEffect_touches ..).sounds rfl h
  | reelStopDone => exact (execReelStopDone_touches ..).sounds rfl h
  | reelFault => exact (execReelFault_touches ..).sounds rfl h
  | eventStamp => exact (execEventStamp_touches ..).sounds rfl h
  | stampAgreed => exact (execStampAgreed_touches ..).sounds rfl h
  | cutCommit => exact (execCutCommit_touches ..).sounds rfl h
  | cutTake => exact (execCutTake_touches ..).sounds rfl h
  | headFill => exact (execHeadFill_touches ..).sounds rfl h
  | lateLeaf => exact (execLateLeaf_touches ..).sounds rfl h
  | lateResume => exact (execLateResume_touches ..).sounds rfl h
  | recoveryCut => exact (execRecoveryCut_touches ..).sounds rfl h
  | voiceStage => exact (execVoiceStage_touches ..).sounds rfl h
  | voiceCommit => exact (execVoiceCommit_touches ..).sounds rfl h
  | voiceUpdateApply => exact (execVoiceUpdateApply_touches ..).sounds rfl h
  | sweepPieceStart => exact (execSweepPieceStart_touches ..).sounds rfl h
  | chEnable => exact (execChEnable_touches ..).sounds rfl h
  | chDisable => exact (execChDisable_touches ..).sounds rfl h
  | chStageReady => exact (execChStageReady_touches ..).sounds rfl h
  | chRampDownDone => exact (execChRampDownDone_touches ..).sounds rfl h
  | chParkWrite => exact (execChParkWrite_touches ..).sounds rfl h
  | chRelease => exact (execChRelease_touches ..).sounds rfl h
  | unpark => exact (execUnpark_touches ..).sounds rfl h
  | rngReq => exact (execRngReq_touches ..).sounds rfl h
  | eqSwap => exact (execEqSwap_touches ..).sounds rfl h
  | chEqCoefWrite => exact (execChEqCoefWrite_touches ..).sounds rfl h
  | channelBoundary => exact (execChannelBoundary_touches ..).sounds rfl h
  | rangeGapStart => exact (execRangeGapStart_touches ..).sounds rfl h
  | rangeGapEnd => exact (execRangeGapEnd_touches ..).sounds rfl h
  | parkNFall => exact (execParkNFall_touches ..).sounds rfl h
  | parkNRelease => exact (execParkNRelease_touches ..).sounds rfl h
  | outShort => exact (execOutShort_touches ..).sounds rfl h
  | stageHot => exact (execStageHot_touches ..).sounds rfl h
  | feedFault => exact (execFeedFault_touches ..).sounds rfl h
  | converterSupplyLoss => exact (execConverterSupplyLoss_touches ..).sounds rfl h
  | portEnable => exact (execPortEnable_touches ..).sounds rfl h
  | portDisable => exact (execPortDisable_touches ..).sounds rfl h
  | portStopDone => exact (execPortStopDone_touches ..).sounds rfl h
  | portStartDone => exact (execPortStartDone_touches ..).sounds rfl h
  | portUnpark => exact (execPortUnpark_touches ..).sounds rfl h
  | dlyCal => exact (execDlyCal_touches ..).sounds rfl h
  | dlyCalDone => exact (execDlyCalDone_touches ..).sounds rfl h
  | capStart => exact (execCapStart_touches ..).sounds rfl h
  | capAbort => exact (execCapAbort_touches ..).sounds rfl h
  | captureTrigger => exact (execCaptureTrigger_touches ..).sounds rfl h
  | captureEnd => exact execCaptureEnd_sounds h ..
  | captureOverflow => exact execCaptureOverflow_sounds h ..
  | rxSlip => exact (execRxSlip_touches ..).sounds rfl h
  | txbufFault => exact (execTxbufFault_touches ..).sounds rfl h
  | jesdEnable => exact (execJesdEnable_touches ..).sounds rfl h
  | jesdDisable => exact (execJesdDisable_touches ..).sounds rfl h
  | jesdTxFramingStart => exact (execJesdTxFramingStart_touches ..).sounds rfl h
  | jesdTxStopDone => exact (execJesdTxStopDone_touches ..).sounds rfl h
  | jesdRxBlockLock => exact (execJesdRxBlockLock_touches ..).sounds rfl h
  | jesdRxMblkFound => exact (execJesdRxMblkFound_touches ..).sounds rfl h
  | jesdRxRelease => exact (execJesdRxRelease_touches ..).sounds rfl h
  | jloss => exact (execJloss_touches ..).sounds rfl h
  | jcrc => exact (execJcrc_touches ..).sounds rfl h
  | corStart => exact execCorStart_sounds h ..
  | corClose => exact (execCorClose_touches ..).sounds rfl h
  | corHold => exact (execCorHold_touches ..).sounds rfl h
  | corResume => exact (execCorResume_touches ..).sounds rfl h
  | corStop => exact (execCorStop_touches ..).sounds rfl h
  | corAbort => exact (execCorAbort_touches ..).sounds rfl h
  | corClear => exact (execCorClear_touches ..).sounds rfl h
  | corRefSwap => exact (execCorRefSwap_touches ..).sounds rfl h
  | corLevelWrite => exact (execCorLevelWrite_touches ..).sounds rfl h
  | corFrameClose => exact execCorFrameClose_sounds h ..
  | corBlockEnd => exact execCorBlockEnd_sounds h ..
  | corUpdate => exact execCorUpdate_sounds h ..
  | rampStart => exact (execRampStart_touches ..).sounds rfl h
  | rampEnd => exact execRampEnd_sounds h ..
  | tiuEnable => exact (execTiuEnable_touches ..).sounds rfl h
  | tiuDisable => exact (execTiuDisable_touches ..).sounds rfl h
  | tiuDllLock => exact (execTiuDllLock_touches ..).sounds rfl h
  | tiuStopDone => exact (execTiuStopDone_touches ..).sounds rfl h
  | tiuArm => exact (execTiuArm_touches ..).sounds rfl h
  | tiuAbort => exact (execTiuAbort_touches ..).sounds rfl h
  | tiuT0 => exact (execTiuT0_touches ..).sounds rfl h
  | tiuEdge => exact (execTiuEdge_touches ..).sounds rfl h
  | tiuDone => exact (execTiuDone_touches ..).sounds rfl h
  | tiuCalRun => exact (execTiuCalRun_touches ..).sounds rfl h
  | tiuCalComplete => exact (execTiuCalComplete_touches ..).sounds rfl h
  | tiuReservedWrite => exact (execTiuReservedWrite_touches ..).sounds rfl h
  | channelPulse => exact (execChannelPulse_touches ..).sounds rfl h
  | channelLockoutEnd => exact (execChannelLockoutEnd_touches ..).sounds rfl h
  | loopWindowEnd => exact (execLoopWindowEnd_touches ..).sounds rfl h
  | matrixWrite => exact (execMatrixWrite_touches ..).sounds rfl h
  | groupEnableWrite => exact (execGroupEnableWrite_touches ..).sounds rfl h
  | hostFire => exact (execHostFire_touches ..).sounds rfl h
  | taskCfgWrite => exact (execTaskCfgWrite_touches ..).sounds rfl h
  | taskTrigger => exact (execTaskTrigger_touches ..).sounds rfl h
  | taskFire => exact (execTaskFire_touches ..).sounds rfl h
  | taskDeferDeliver => exact (execTaskDeferDeliver_touches ..).sounds rfl h
  | taskCntClr => exact (execTaskCntClr_touches ..).sounds rfl h
  | armGroup => exact (execArmGroup_touches ..).sounds rfl h
  | stopGroup => exact (execStopGroup_touches ..).sounds rfl h
  | captureTask => exact (execCaptureTask_touches ..).sounds rfl h
  | sysrefBurst => exact (execSysrefBurst_touches ..).sounds rfl h
  | groupEnableTask => exact (execGroupEnableTask_touches ..).sounds rfl h
  | groupDisableTask => exact (execGroupDisableTask_touches ..).sounds rfl h
  | tiuArmTask => exact (execTiuArmTask_touches ..).sounds rfl h
  | corAbortTask => exact (execCorAbortTask_touches ..).sounds rfl h
  | corStopTask => exact (execCorStopTask_touches ..).sounds rfl h
  | archiveLogTask => exact (execArchiveLogTask_touches ..).sounds rfl h
  | remoteEventSend => exact (execRemoteEventSend_touches ..).sounds rfl h
  | doorbell => exact (execDoorbell_touches ..).sounds rfl h
  | ccProducerPulse => exact (execCcProducerPulse_touches ..).sounds rfl h
  | timerCfgWrite => exact (execTimerCfgWrite_touches ..).sounds rfl h
  | timerFire => exact (execTimerFire_touches ..).sounds rfl h
  | thresholdCross => exact (execThresholdCross_touches ..).sounds rfl h
  | evioInputEdge => exact (execEvioInputEdge_touches ..).sounds rfl h
  | evioAlignPulse => exact (execEvioAlignPulse_touches ..).sounds rfl h
  | irqPresent t => exact (execIrqPresent_touches t s).sounds rfl h
  | irqClaim => exact (execIrqClaim_touches ..).sounds rfl h
  | irqEoi => exact (execIrqEoi_touches ..).sounds rfl h
  | irqRouteWrite => exact (execIrqRouteWrite_touches ..).sounds rfl h
  | msixUnmask => exact (execMsixUnmask_touches ..).sounds rfl h
  | icSwSet => exact (execIcSwSet_touches ..).sounds rfl h
  | wakeWatcherAssert => exact (execWakeWatcherAssert_touches ..).sounds rfl h
  | ledgerClear => exact (execLedgerClear_touches ..).sounds rfl h
  | ledgerPersistReraise => exact (execLedgerPersistReraise_touches ..).sounds rfl h
  | archiveWriteEntry => exact execArchiveWriteEntry_sounds h
  | archiveRdWrite => exact (execArchiveRdWrite_touches ..).sounds rfl h
  | archiveTempPeriodic => exact (execArchiveTempPeriodic_touches ..).sounds rfl h
  | linkEnable => exact (execLinkEnable_touches ..).sounds rfl h
  | linkDisable => exact (execLinkDisable_touches ..).sounds rfl h
  | linkStopDone => exact (execLinkStopDone_touches ..).sounds rfl h
  | linkTrained => exact (execLinkTrained_touches ..).sounds rfl h
  | linkTrainTimeout => exact (execLinkTrainTimeout_touches ..).sounds rfl h
  | linkMeasureDone => exact (execLinkMeasureDone_touches ..).sounds rfl h
  | linkSyncLoss => exact (execLinkSyncLoss_touches ..).sounds rfl h
  | linkRetrainLock => exact (execLinkRetrainLock_touches ..).sounds rfl h
  | linkRetrainTimeout => exact (execLinkRetrainTimeout_touches ..).sounds rfl h
  | linkDownTimeout => exact (execLinkDownTimeout_touches ..).sounds rfl h
  | linkFrameTx => exact (execLinkFrameTx_touches ..).sounds rfl h
  | headerRx => exact (execHeaderRx_touches ..).sounds rfl h
  | msgTime => exact (execMsgTime_touches ..).sounds rfl h
  | msgEvent => exact (execMsgEvent_touches ..).sounds rfl h
  | msgStream => exact execMsgStream_sounds h ..
  | msgMgmt => exact (execMsgMgmt_touches ..).sounds rfl h
  | linkAlign => exact (execLinkAlign_touches ..).sounds rfl h
  | alignParentReady => exact (execAlignParentReady_touches ..).sounds rfl h
  | alignAnchorArm => exact (execAlignAnchorArm_touches ..).sounds rfl h
  | alignVerify => exact (execAlignVerify_touches ..).sounds rfl h
  | autoAlignStart => exact (execAutoAlignStart_touches ..).sounds rfl h
  | rcalCheck => exact (execRcalCheck_touches ..).sounds rfl h
  | calMeasComplete => exact (execCalMeasComplete_touches ..).sounds rfl h
  | calMeasTimeout => exact (execCalMeasTimeout_touches ..).sounds rfl h
  | calLoadExtrap => exact (execCalLoadExtrap_touches ..).sounds rfl h
  | calAccept => exact (execCalAccept_touches ..).sounds rfl h
  | calRemeasure => exact (execCalRemeasure_touches ..).sounds rfl h
  | calHold => exact (execCalHold_touches ..).sounds rfl h
  | calRun => exact (execCalRun_touches ..).sounds rfl h
  | calAbort => exact (execCalAbort_touches ..).sounds rfl h
  | calHostRunDone => exact (execCalHostRunDone_touches ..).sounds rfl h
  | ovrLoad => exact (execOvrLoad_touches ..).sounds rfl h
  | ovrLoadDone => exact (execOvrLoadDone_touches ..).sounds rfl h
  | imageLoad => exact (execImageLoad_touches ..).sounds rfl h
  | imageLoadDone => exact (execImageLoadDone_touches ..).sounds rfl h
  | reissue => exact (execReissue_touches ..).sounds rfl h
  | tileEnable => exact (execTileEnable_touches ..).sounds rfl h
  | tileDisable => exact (execTileDisable_touches ..).sounds rfl h
  | tileStartDone => exact (execTileStartDone_touches ..).sounds rfl h
  | tileStopDone => exact (execTileStopDone_touches ..).sounds rfl h
  | tileLoadDone => exact (execTileLoadDone_touches ..).sounds rfl h
  | bootAttemptStart => exact (execBootAttemptStart_touches ..).sounds rfl h
  | bootStageDone => exact execBootStageDone_sounds h ..
  | bootGo => exact (execBootGo_touches ..).sounds rfl h
  | hostTimeout => exact execHostTimeout_sounds h ..
  | bootStageFail => exact execBootStageFail_sounds h ..
  | bootRetryDelay => exact (execBootRetryDelay_touches ..).sounds rfl h
  | bootReady => exact (execBootReady_touches ..).sounds rfl h
  | bootRetry => exact execBootRetry_sounds h ..
  | loaderWrite => exact (execLoaderWrite_touches ..).sounds rfl h
  | loaderVerify => exact (execLoaderVerify_touches ..).sounds rfl h
  | loaderRead => exact (execLoaderRead_touches ..).sounds rfl h
  | loaderDone => exact (execLoaderDone_touches ..).sounds rfl h
  | sysReset => exact execSysReset_sounds h ..
  | aonPowerOn => exact execAonPowerOn_sounds s
  | standby => exact (execStandby_touches ..).sounds rfl h
  | pwrResume => exact (execPwrResume_touches ..).sounds rfl h
  | sleep => exact (execSleep_touches ..).sounds rfl h
  | wake => exact (execWake_touches ..).sounds rfl h
  | powerTransitionDone => exact (execPowerTransitionDone_touches ..).sounds rfl h
  | runIdleChange => exact (execRunIdleChange_touches ..).sounds rfl h
  | mainRailPgLoss => exact execMainRailPgLoss_sounds h ..
  | supplyUv => exact (execSupplyUv_touches ..).sounds rfl h
  | attest => exact (execAttest_touches ..).sounds rfl h
  | selftest => exact (execSelftest_touches ..).sounds rfl h
  | provision => exact (execProvision_touches ..).sounds rfl h
  | secField => exact (execSecField_touches ..).sounds rfl h
  | rmaNonce => exact (execRmaNonce_touches ..).sounds rfl h
  | rmaApply => exact (execRmaApply_touches ..).sounds rfl h
  | retire => exact (execRetire_touches ..).sounds rfl h
  | zeroize => exact (execZeroize_touches ..).sounds rfl h
  | zeroizeData => exact (execZeroizeData_touches ..).sounds rfl h
  | advFw => exact (execAdvFw_touches ..).sounds rfl h
  | advImg => exact (execAdvImg_touches ..).sounds rfl h
  | advOvr => exact (execAdvOvr_touches ..).sounds rfl h
  | secCmdInvalid => exact (execSecCmdInvalid_touches ..).sounds rfl h
  | secErrorEnter => exact execSecErrorEnter_sounds h ..
  | fuseInit => exact (execFuseInit_touches ..).sounds rfl h
  | extest => exact (execExtest_touches ..).sounds rfl h
  | extestPulse => exact (execExtestPulse_touches ..).sounds rfl h
  | extestTrain => exact (execExtestTrain_touches ..).sounds rfl h
  | extestDeselect => exact (execExtestDeselect_touches ..).sounds rfl h
  | idcode => exact (execIdcode_touches ..).sounds rfl h
  | samplePreload => exact (execSamplePreload_touches ..).sounds rfl h
  | bypass => exact (execBypass_touches ..).sounds rfl h
  | hostLinkReset => exact (execHostLinkReset_touches ..).sounds rfl h
  | hostLinkUp => exact (execHostLinkUp_touches ..).sounds rfl h
  | flr => exact (execFlr_touches ..).sounds rfl h
  | pfD3hot => exact (execPfD3hot_touches ..).sounds rfl h
  | bmeClear => exact (execBmeClear_touches ..).sounds rfl h
  | dmaQueueEnable => exact (execDmaQueueEnable_touches ..).sounds rfl h
  | dmaQueueDisable => exact (execDmaQueueDisable_touches ..).sounds rfl h
  | dmaStopDone => exact (execDmaStopDone_touches ..).sounds rfl h
  | dmaTailWrite => exact (execDmaTailWrite_touches ..).sounds rfl h
  | writeSeg => exact execWriteSeg_sounds h ..
  | readSeg => exact execReadSeg_sounds h ..
  | writeSp => exact execWriteSp_sounds h ..
  | readSp => exact (execReadSp_touches ..).sounds rfl h
  | dmaCard => exact execDmaCard_sounds h ..
  | descWriteback => exact (execDescWriteback_touches ..).sounds rfl h
  | sensorReading => exact (execSensorReading_touches ..).sounds rfl h
  | thermalForcedStandby => exact (execThermalForcedStandby_touches ..).sounds rfl h
  | thermalTripClear => exact (execThermalTripClear_touches ..).sounds rfl h
  | wearSecond => exact (execWearSecond_touches ..).sounds rfl h
  | wearCommit => exact (execWearCommit_touches ..).sounds rfl h
  | converterSupplyGood => exact (execConverterSupplyGood_touches ..).sounds rfl h
  | portRelease => exact (execPortRelease_touches ..).sounds rfl h
  | tiuDllLockLoss => exact (execTiuDllLockLoss_touches ..).sounds rfl h
  | jesdRxOffReached => exact (execJesdRxOffReached_touches ..).sounds rfl h
  | secCmdDone => exact execSecCmdDone_sounds h
  | pfD0Entry => exact (execPfD0Entry_touches ..).sounds rfl h
  | bmeSet => exact (execBmeSet_touches ..).sounds rfl h
  | msixFunctionMask => exact (execMsixFunctionMask_touches ..).sounds rfl h
  | crossbarFault => exact (execCrossbarFault_touches ..).sounds rfl h
  | fftSliceFault => exact (execFftSliceFault_touches ..).sounds rfl h
  | stackTrainingLoss => exact (execStackTrainingLoss_touches ..).sounds rfl h

/-- Settles O3: every command and every tick keep both memories canonical and the count below 2^64. -/
theorem stepKeepsMemoryAndCount : Obligations.StepKeepsMemoryAndCount := by
  intro s t hm ht he
  have h : s.Sound := ⟨hm, ht⟩
  unfold step at he
  split at he
  · exact h.tickOnce.next.sound t he
  · next c rest _ => exact (exec_sounds (s := { s with pending := rest }) h c).sound t he

end Sys2Proof.Machine
end

section
/-!
PROOFS. Reset, the queue, and arming (O1, O4, O6): the state after reset, one step of the queue, and what a write of TB_CMD arms.
-/
namespace Sys2Proof.Machine

/-! ### The queue -/

/-- Settles O1: a step takes the head of the queue apart. -/
theorem queueFirstInFirstOut : Obligations.QueueFirstInFirstOut := by
  refine ⟨fun c rest s h => ?_, fun s h => ?_⟩
  · rw [step, h]
  · rw [step, h]

/-! ### The state after reset -/

/-- Settles O4: the registers named have the reset value of their table, whatever their number, and nothing is listed. -/
theorem resetState : Obligations.ResetState := by
  refine ⟨?power, ?timeBase, rfl, ?host, fun n => ?channel, fun p => ?port, fun k => ?tiu, fun q => ?dma, fun l => ?link, fun r => ?reel,
    fun k => ?ledger, rfl, rfl, State.reset_memWf, State.reset_sound.2⟩
  case power => rfl
  case timeBase => rfl
  case host => rfl
  case channel => rfl
  case port => rfl
  case tiu => rfl
  case dma => rfl
  case link => rfl
  case reel => rfl
  case ledger => rfl

/-! ### TB_CMD (R65, R66) -/

section
variable {pf : Fin 4} {s : State}

/-- The tick of TB_ANCHOR_AT. -/
abbrev State.anchorAt (s : State) : Nat := s.get2 Fld.TB_ANCHOR_AT_LO Fld.TB_ANCHOR_AT_HI

/-- What arms an anchor or a relock. -/
abbrev State.armed (s : State) : List (Key × Nat) := [(Fld.TB_STATUS_ANCHOR_ARMED, 1), (Lat.TB_ANCHOR_TICK, s.anchorAt)]

theorem State.armAnchor_of_due {st : Nat} (hs : s.get Fld.TB_STATUS_STATE = st) (hw : s.anchorAt % 8 = 0) (ht : s.tick ≤ s.anchorAt) :
    s.armAnchor st = s.sets s.armed := by
  simp [State.armAnchor, State.now, hs, hw, ht]

theorem State.armAnchor_of_refused {st : Nat} (h : s.get Fld.TB_STATUS_STATE ≠ st ∨ s.anchorAt % 8 ≠ 0 ∨ s.anchorAt < s.tick) :
    s.armAnchor st = s.sets [(Fld.TB_EVT_CFG_ERR, 1)] := by
  have hn : ¬(s.get Fld.TB_STATUS_STATE = st ∧ s.anchorAt % 8 = 0 ∧ s.now ≤ s.anchorAt) := by
    rintro ⟨hs, hw, ht⟩
    rcases h with h | h | h
    · exact h hs
    · exact h hw
    · exact absurd ht (Nat.not_le.mpr h)
  rw [State.armAnchor, if_neg hn]
  rfl

theorem State.armed_lt (s : State) : ∀ q ∈ s.armed, q.2 < 2 ^ q.1.w := by
  simpa using s.get2_lt Fld.TB_ANCHOR_AT_LO Fld.TB_ANCHOR_AT_HI

theorem exec_tbAnchor (ho : s.hostOpen = true) (hp : s.privileged pf = true) : exec (.tbAnchor pf) s = .next (s.armAnchor 3) :=
  congrArg Host.Outcome.next (State.asPriv_open s pf _ ho hp)

theorem exec_tbRelock (ho : s.hostOpen = true) (hp : s.privileged pf = true) : exec (.tbRelock pf) s = .next (s.armAnchor 4) :=
  congrArg Host.Outcome.next (State.asPriv_open s pf _ ho hp)

theorem exec_loadArm (ho : s.hostOpen = true) (hp : s.privileged pf = true) :
    exec (.loadArm pf false) s = .next (s.sets [(Fld.TB_STATUS_LOAD_ARMED, 1)]) :=
  congrArg Host.Outcome.next (State.asPriv_open s pf _ ho hp)

theorem exec_loadArm_withDisarm (ho : s.hostOpen = true) (hp : s.privileged pf = true) :
    exec (.loadArm pf true) s = .next (s.sets [(Fld.TB_EVT_CFG_ERR, 1)]) :=
  congrArg Host.Outcome.next (State.asPriv_open s pf _ ho hp)

theorem exec_loadDisarm (ho : s.hostOpen = true) (hp : s.privileged pf = true) :
    exec (.loadDisarm pf) s = .next (s.sets [(Fld.TB_STATUS_LOAD_ARMED, 0), (Lat.TB_LOAD_OK, 0)]) :=
  congrArg Host.Outcome.next (State.asPriv_open s pf _ ho hp)

/-- A command that arms in state `st` arms there a tick that has not passed. -/
theorem Gives.of_armAnchor {c : Instr} {st : Nat} (he : exec c s = .next (s.armAnchor st)) (hs : s.get Fld.TB_STATUS_STATE = st)
    (hw : s.anchorAt % 8 = 0) (ht : s.tick ≤ s.anchorAt) : Gives c s s.armed :=
  Gives.of_sets (he.trans (congrArg _ (State.armAnchor_of_due hs hw ht))) (by simp) s.armed_lt

/-- Anything else it refuses. -/
theorem Gives.of_armAnchor_refused {c : Instr} {st : Nat} (he : exec c s = .next (s.armAnchor st))
    (h : s.get Fld.TB_STATUS_STATE ≠ st ∨ s.anchorAt % 8 ≠ 0 ∨ s.anchorAt < s.tick) : Gives c s [(Fld.TB_EVT_CFG_ERR, 1)] :=
  Gives.of_sets (he.trans (congrArg _ (State.armAnchor_of_refused h))) (by decide) (by decide)

end

/-- Settles O6: each command is a run of writes in the case its clause names. -/
theorem armingAnchorRelockAndLoad : Obligations.ArmingAnchorRelockAndLoad := by
  intro pf s ho hp
  refine ⟨?anchor, ?relock, ?anchorRefused, ?relockRefused, ?load, ?both, ?disarm⟩
  case anchor => exact Gives.of_armAnchor (exec_tbAnchor ho hp)
  case relock => exact Gives.of_armAnchor (exec_tbRelock ho hp)
  case anchorRefused => exact Gives.of_armAnchor_refused (exec_tbAnchor ho hp)
  case relockRefused => exact Gives.of_armAnchor_refused (exec_tbRelock ho hp)
  case load => exact Gives.of_sets (exec_loadArm ho hp) (by decide) (by decide)
  case both => exact Gives.of_sets (exec_loadArm_withDisarm ho hp) (by decide) (by decide)
  case disarm => exact Gives.of_sets (exec_loadDisarm ho hp) (by decide) (by decide)

end Sys2Proof.Machine
end

section
/-!
PROOFS. Acquisition (O9): lock detect, the start and the time-out of a reacquisition, and the end of STOPPING.
-/
namespace Sys2Proof.Machine

/-! ### Runs of writes that write a field twice -/

/-- A command that writes a run of fields, of which the last value of each counts. -/
theorem Does.of_writes {c : Instr} {s : State} {p : Key → Bool} {l w : List (Key × Nat)} {P : State → Prop} (he : exec c s = .next (s.sets w))
    (hw : ∀ q ∈ w, (p q.1 || named l q.1) = true) (hl : ∀ q ∈ l, (s.sets w).get q.1 = q.2) (hP : P (s.sets w)) : Does c s [] p l P :=
  ⟨_, he, hl, Frame.sets s w hw, hP⟩

/-! ### Lock detect (R55, R58, R65) -/

/-- No write outside the reel records starts or ends a reel. -/
theorem State.allIdle_set (s : State) (k : Key) (v : Nat) (hk : k.r ≠ .REEL) : (s.set k v).allIdle = s.allIdle := by
  have hall : ∀ a : State, a.allIdle = a.fields.all (fun p => !(p.1.r == .REEL && p.1.j == 0 && p.1.lo == 0 && p.2 != 0)) := fun a => by
    rw [Bool.eq_iff_iff]
    simp only [State.allIdle, State.activeReels, List.isEmpty_iff, List.map_eq_nil_iff, List.filter_eq_nil_iff, List.all_eq_true, Bool.not_eq_true,
      Bool.not_eq_true']
  rw [hall, hall, Bool.eq_iff_iff]
  simp only [State.set, List.all_cons, List.all_filter, Bool.and_eq_true, List.all_eq_true]
  constructor
  · rintro ⟨-, h⟩ q hq
    have hq := h q hq
    by_cases e : q.1 = k
    · simp [e, hk]
    · simpa [e] using hq
  · intro h
    refine ⟨by simp [hk], fun q hq => ?_⟩
    simp [h q hq]

section
variable {s : State} {b : Nat}

/-- What lock detect writes in ACQUIRE before it looks at the load. -/
abbrev anchorEntered (b : Nat) : List (Key × Nat) :=
  [(Fld.PLL_STATUS_LD, 1), (Fld.PLL_STATUS_BAND_CAL_DONE, 1), (Fld.PLL_STATUS_VCO_BAND, b % 2 ^ 8), (Fld.TB_STATUS_STATE, 2), (Fld.TB_STATUS_LOCKED, 0),
    (Fld.TB_STATUS_UNREF, 0)]

theorem exec_lockDetect_acquire (h1 : s.get Fld.TB_STATUS_STATE = 1) : exec (.lockDetect b) s = .next (s.sets (anchorEntered b)).loadCheck := by
  change execLockDetect b s = _
  have hb : ∀ a : State, a.set Fld.PLL_STATUS_VCO_BAND (b % 256) = a.set Fld.PLL_STATUS_VCO_BAND b := fun a => a.set_mod Fld.PLL_STATUS_VCO_BAND b
  simp [execLockDetect, h1, State.tbEnter, State.get_set, hb]

/-- The load is judged as it was before those writes. -/
theorem State.anchorEntered_loadOk : (s.sets (anchorEntered b)).loadOk = s.loadOk := by
  simp [State.loadOk, State.allIdle_set, State.get_set]

theorem exec_lockDetect_unarmed (h1 : s.get Fld.TB_STATUS_STATE = 1) (hl : s.is Fld.TB_STATUS_LOAD_ARMED = false) :
    exec (.lockDetect b) s = .next (s.sets (anchorEntered b ++ [(Lat.TB_LOAD_OK, 0)])) := by
  have h0 : s.get Fld.TB_STATUS_LOAD_ARMED = 0 := by
    have hlt : s.get Fld.TB_STATUS_LOAD_ARMED < 2 := s.get_lt _
    have hne : s.get Fld.TB_STATUS_LOAD_ARMED ≠ 1 := by simpa [State.is] using hl
    omega
  rw [exec_lockDetect_acquire h1]
  simp [State.loadCheck, hl, h0, State.get_set]

theorem exec_lockDetect_loadOk (h1 : s.get Fld.TB_STATUS_STATE = 1) (hl : s.is Fld.TB_STATUS_LOAD_ARMED = true) (ho : s.loadOk = true) :
    exec (.lockDetect b) s = .next (s.sets (anchorEntered b ++ [(Lat.TB_LOAD_OK, 1)])) := by
  have h0 : s.get Fld.TB_STATUS_LOAD_ARMED = 1 := by simpa [State.is] using hl
  have hok := (State.anchorEntered_loadOk (s := s) (b := b)).trans ho
  rw [exec_lockDetect_acquire h1, State.loadCheck, hok]
  simp [h0, State.get_set]

theorem exec_lockDetect_loadRefused (h1 : s.get Fld.TB_STATUS_STATE = 1) (hl : s.is Fld.TB_STATUS_LOAD_ARMED = true) (ho : s.loadOk = false) :
    exec (.lockDetect b) s = .next (s.sets (anchorEntered b ++ [(Fld.TB_EVT_LOAD_REFUSED, 1), (Lat.TB_LOAD_OK, 0)])) := by
  have hok := (State.anchorEntered_loadOk (s := s) (b := b)).trans ho
  rw [exec_lockDetect_acquire h1, State.loadCheck, hok]
  simp [hl]

theorem exec_lockDetect_reacquire (h5 : s.get Fld.TB_STATUS_STATE = 5) : exec (.lockDetect b) s = .next (s.sets
    [(Fld.PLL_STATUS_LD, 1), (Fld.TB_STATUS_STATE, 6), (Fld.TB_STATUS_LOCKED, 0), (Fld.TB_STATUS_UNREF, 1), (Lat.TB_HELD, 0)]) := by
  change execLockDetect b s = _
  simp [execLockDetect, h5, State.tbEnter, State.get_set]

theorem exec_lockDetect_off (h0 : s.get Fld.TB_STATUS_STATE = 0) : exec (.lockDetect b) s = .next s := by
  change execLockDetect b s = _
  simp [execLockDetect, h0]

theorem exec_lockDetect_locked (h3 : s.get Fld.TB_STATUS_STATE = 3) : exec (.lockDetect b) s = .next (s.sets [(Fld.PLL_STATUS_LD, 1)]) := by
  change execLockDetect b s = _
  simp [execLockDetect, h3]

theorem anchorEntered_lt : ∀ q ∈ anchorEntered b, q.2 < 2 ^ q.1.w := by
  simpa using Nat.mod_lt b (by decide)

theorem lockDetect_gives_unarmed (h1 : s.get Fld.TB_STATUS_STATE = 1) (hl : s.is Fld.TB_STATUS_LOAD_ARMED = false) :
    Gives (.lockDetect b) s (anchorEntered b ++ [(Lat.TB_LOAD_OK, 0)]) :=
  Gives.of_sets (exec_lockDetect_unarmed h1 hl) (by simp) (List.forall_mem_append.mpr ⟨anchorEntered_lt, by decide⟩)

/-- An armed load is judged when ANCHOR is entered: it may take place or is refused (R65). -/
theorem lockDetect_does_judge (h1 : s.get Fld.TB_STATUS_STATE = 1) (hl : s.is Fld.TB_STATUS_LOAD_ARMED = true) :
    Does (.lockDetect b) s [] (fun k => k == Fld.TB_EVT_LOAD_REFUSED) (anchorEntered b ++ [(Lat.TB_LOAD_OK, s.loadOk.toNat)])
      (fun t => s.loadOk = false → t.is Fld.TB_EVT_LOAD_REFUSED = true) := by
  cases ho : s.loadOk
  · refine Does.of_writes (exec_lockDetect_loadRefused h1 hl ho) (by simp [named]) ?_ (by simp)
    simp [State.get_set]
  · refine Does.of_writes (exec_lockDetect_loadOk h1 hl ho) (by simp [named]) ?_ (by simp)
    simp [State.get_set]

/-! ### Reacquisition (R58, R66, R469) -/

theorem exec_reacquireStart_due (h4 : s.get Fld.TB_STATUS_STATE = 4) (hp : s.is Fld.REF_STATUS_PRESENT = true) (hw : s.tick % 8 = 0)
    (hd : s.is Fld.TB_RELOCK_AUTO_EN = true ∨ s.is Fld.TB_STATUS_ANCHOR_ARMED = true ∧ s.get Lat.TB_ANCHOR_TICK ≤ s.tick) :
    exec .reacquireStart s = .next (s.sets [(Fld.TB_STATUS_STATE, 5), (Fld.TB_STATUS_LOCKED, 0), (Fld.TB_STATUS_UNREF, 1),
      (Fld.TB_STATUS_ANCHOR_ARMED, 0), (Fld.PLL_STATUS_LD, 0)]) := by
  change execReacquireStart s = _
  rcases hd with hd | ⟨ha, hd⟩
  · simp [execReacquireStart, State.tbEnter, State.now, h4, hp, hw, hd]
  · simp [execReacquireStart, State.tbEnter, State.now, h4, hp, hw, ha, hd]

theorem exec_reacquireStart_waits (ha : s.is Fld.TB_RELOCK_AUTO_EN = false) (hd : s.is Fld.TB_STATUS_ANCHOR_ARMED = false) :
    exec .reacquireStart s = .next s := by
  change execReacquireStart s = _
  simp [execReacquireStart, ha, hd]

/-- What a time-out in REACQUIRE writes. -/
abbrev State.reacqAgain (s : State) : List (Key × Nat) := [(Fld.PLL_STATUS_BAND_CAL_DONE, 0), (Lat.TB_REACQ, (s.get Lat.TB_REACQ + 1) % 2 ^ 32)]

theorem exec_reacqTimeout (h5 : s.get Fld.TB_STATUS_STATE = 5) :
    exec .reacqTimeout s = .next ((s.sets s.reacqAgain).archive 21 (unitBlock 0) s.tick [s.get Lat.TB_REACQ + 1]) := by
  change execReacqTimeout s = _
  have hm : ∀ (a : State) (n : Nat), a.set Lat.TB_REACQ (n % 4294967296) = a.set Lat.TB_REACQ n := fun a n => a.set_mod Lat.TB_REACQ n
  simp [execReacqTimeout, h5, State.bumpWrap, State.now, State.get_set, hm]

theorem reacqTimeout_does_archive (h5 : s.get Fld.TB_STATUS_STATE = 5) : Does .reacqTimeout s [.arcBuf] archiveLoss s.reacqAgain
    (fun t => Archived s t (archiveEntry 21 false s.unref false false (unitBlock 0) s.tick 0 [s.get Lat.TB_REACQ + 1])) := by
  refine Does.of_sets (exec_reacqTimeout h5) (by simp) (by simpa using Nat.mod_lt _ (by decide)) (State.archive_frame ..) (by simp [archiveLoss]) ?_
  have hu : (s.sets s.reacqAgain).unref = s.unref := by simp [State.unref]
  have hf : Frame s (s.sets s.reacqAgain) [] (among [.PLL_STATUS, .L_TB_REACQ]) := Frame.sets _ _ (by simp [among])
  refine Archived.of_before hf ?_ (by simp) (by decide)
  rw [← hu]
  exact State.accept_archived ..

/-! ### The end of STOPPING (R58, R60) -/

/-- What the end of STOPPING writes. -/
abbrev stopEnded : List (Key × Nat) :=
  [(Fld.TB_STATUS_STATE, 0), (Fld.TB_STATUS_LOCKED, 0), (Fld.TB_STATUS_UNREF, 0), (Fld.PLL_STATUS_LD, 0), (Lat.TB_WANT, 0), (Lat.STK_SR, 1),
    (Fld.PLL_STATUS_RESTART_PENDING, 0)]

/-- What the start of an acquisition writes, with REFIN present. -/
abbrev acquireStarted : List (Key × Nat) :=
  [(Fld.PLL_STATUS_ERR, 0), (Lat.TB_WANT, 1), (Fld.TB_STATUS_STATE, 1), (Fld.TB_STATUS_LOCKED, 0), (Fld.TB_STATUS_UNREF, 0),
    (Fld.PLL_STATUS_BAND_CAL_DONE, 0), (Fld.PLL_STATUS_LD, 0)]

theorem exec_tbStopDone_off (h7 : s.get Fld.TB_STATUS_STATE = 7) (hw : s.tick % 8 = 0) (hr : s.is Fld.PLL_STATUS_RESTART_PENDING = false) :
    exec .tbStopDone s = .next (s.sets stopEnded) := by
  change execTbStopDone s = _
  simp [execTbStopDone, State.tbEnter, State.now, h7, hw, hr]

theorem exec_tbStopDone_restart (h7 : s.get Fld.TB_STATUS_STATE = 7) (hw : s.tick % 8 = 0) (hr : s.is Fld.PLL_STATUS_RESTART_PENDING = true) :
    exec .tbStopDone s = .next (s.sets stopEnded).tbStart := by
  change execTbStopDone s = _
  simp [execTbStopDone, State.tbEnter, State.now, h7, hw, hr]

/-- A restart that waited goes on to ACQUIRE. -/
theorem tbStopDone_gives_acquire (h7 : s.get Fld.TB_STATUS_STATE = 7) (hw : s.tick % 8 = 0) (hr : s.is Fld.PLL_STATUS_RESTART_PENDING = true)
    (he : s.pllError = 0) (hp : s.is Fld.REF_STATUS_PRESENT = true) :
    Gives .tbStopDone s [(Fld.TB_STATUS_STATE, 1), (Fld.TB_STATUS_LOCKED, 0), (Fld.TB_STATUS_UNREF, 0), (Fld.PLL_STATUS_LD, 0), (Fld.PLL_STATUS_ERR, 0),
      (Fld.PLL_STATUS_BAND_CAL_DONE, 0), (Lat.TB_WANT, 1), (Lat.STK_SR, 1), (Fld.PLL_STATUS_RESTART_PENDING, 0)] := by
  have he' : (s.sets stopEnded).pllError = 0 := by simpa [State.pllError, State.q2, State.get_set] using he
  have hstart := State.tbStart_of_present he' (by simpa using hp) (by simp [State.get_set])
  refine Does.of_writes (w := stopEnded ++ acquireStarted) ((exec_tbStopDone_restart h7 hw hr).trans (congrArg _ hstart)) ?_ ?_ trivial
  · simp [named]
  · simp [State.get_set]

end

/-- Settles O9: each command is a run of writes in the case its clause names, followed at a time-out by its archive entry. -/
theorem acquisition : Obligations.Acquisition := by
  refine ⟨fun b s => ⟨?anchor, ?reanchor, ?off, ?locked⟩, fun b s => ?judge, fun s h4 hp hw => ⟨?start, ?waits⟩, fun s => ?timeout,
    fun s h7 hw => ⟨?stopped, ?restart⟩⟩
  case anchor => exact lockDetect_gives_unarmed
  case reanchor => exact fun h5 => Gives.of_sets (exec_lockDetect_reacquire h5) (by decide) (by decide)
  case off => exact exec_lockDetect_off
  case locked => exact fun h3 => Gives.of_sets (exec_lockDetect_locked h3) (by decide) (by decide)
  case judge => exact lockDetect_does_judge
  case start => exact fun hd => Gives.of_sets (exec_reacquireStart_due h4 hp hw hd) (by decide) (by decide)
  case waits => exact exec_reacquireStart_waits
  case timeout => exact reacqTimeout_does_archive
  case stopped => exact fun hr => Gives.of_sets (exec_tbStopDone_off h7 hw hr) (by decide) (by decide)
  case restart => exact tbStopDone_gives_acquire h7 hw

end Sys2Proof.Machine
end

section
/-!
PROOFS. The reference (O8): its loss in each state of the time base, its return, and an unlock.
-/
namespace Sys2Proof.Machine

/-! ### What commands and reports keep -/

section
variable {s t a : State} {c : Instr} {ps : List Part} {p : Key → Bool} {l w : List (Key × Nat)} {P : State → Prop}

/-- The new values may stand in another order, and a field written with the value it had may be left out. -/
theorem Does.prune (h : Does c s ps p w P) (hl : l ⊆ w) (hw : ∀ q ∈ w, q ∈ l ∨ s.get q.1 = q.2) : Does c s ps p l P := by
  obtain ⟨t, he, hv, hf, hP⟩ := h
  refine ⟨t, he, fun q hq => hv q (hl hq), ⟨hf.1, fun k hk => ?_⟩, hP⟩
  obtain ⟨hpk, hlk⟩ := Bool.or_eq_false_iff.mp hk
  cases hwk : named w k
  · exact hf.get (by simp [hpk, hwk])
  · obtain ⟨q, hq, hqk⟩ := List.any_eq_true.mp hwk
    obtain rfl := beq_iff_eq.mp hqk
    rcases hw q hq with h | h
    · have hq : named l q.1 = true := List.any_eq_true.mpr ⟨q, h, beq_self_eq_true _⟩
      rw [hq] at hlk
      contradiction
    · rw [h, hv q hq]

/-- A cause raised before changes that leave its entry alone. -/
theorem Raised.of_after {k u d : Nat} (h : Raised s a k u d) (f : Frame a t ps p) (hp : ∀ j lo w, p ⟨.IC_LDG, k, j, lo, w⟩ = false) :
    Raised s t k u d := by
  have hx : ∀ j lo w, t.get ⟨.IC_LDG, k, j, lo, w⟩ = a.get ⟨.IC_LDG, k, j, lo, w⟩ := fun j lo w => f.get (hp j lo w)
  unfold Raised at h ⊢
  simpa [State.is, State.get2, hx] using h

/-- Reads of a run of writes outside it, as they stand before a frame around that run. -/
theorem Frame.get_of_sets (f : Frame (s.sets w) t ps p) {k : Key} (hp : p k = false) (hw : named w k = false) : t.get k = s.get k :=
  (f.get hp).trans (State.get_sets_of_not_named s w k hw)

end

/-! ### COAST and the loss action (R55, R58, R67, R68) -/

section
variable {s a : State}

/-- What the beginning of COAST writes at tick `n`. -/
abbrev coastBegun (cause n : Nat) : List (Key × Nat) :=
  [(Fld.TB_STATUS_STATE, 4), (Fld.TB_STATUS_LOCKED, 0), (Fld.TB_STATUS_UNREF, 1), (Fld.TB_STATUS_ANCHOR_ARMED, 0), (Lat.TB_REL_CAUSE, cause),
    (Lat.TB_LOSS_TICK, n % 2 ^ 64), (Lat.TB_REACQ, 0)]

theorem State.coastBegin_locked (h3 : a.get Fld.TB_STATUS_STATE = 3) (cause : Nat) :
    a.coastBegin cause = ((a.sets (coastBegun cause a.tick)).archive 13 (unitBlock 0) a.tick [a.refWindow, cause]).lossAction := by
  have hm : ∀ (b : State) (n : Nat), b.set Lat.TB_LOSS_TICK (n % 18446744073709551616) = b.set Lat.TB_LOSS_TICK n := fun b n => b.set_mod Lat.TB_LOSS_TICK n
  simp [State.coastBegin, State.tbEnter, State.now, State.refWindow, State.q2, h3, hm]

theorem State.lossAction_none (h : a.get Fld.TB_REFLOSS_ACT_ACT = 0) : a.lossAction = a := by
  simp [State.lossAction, h]

/-- Every loss action but NONE parks every channel with REFLOSS. -/
theorem State.lossAction_reason (h : a.get Fld.TB_REFLOSS_ACT_ACT ≠ 0) (n : Nat) (hn : n < 32) :
    (a.lossAction.get (Fld.CH_PARK_SRC_REASON n)).testBit pkRefloss = true := by
  have hpark := State.parkAll_reason a pkRefloss true (by decide) n hn
  unfold State.lossAction
  split
  · contradiction
  · rwa [State.stopReels_get _ _ _ (by simp [among])]
  · exact hpark

/-! ### The loss of REFIN (R50, R55, R58, R67, R68, R71) -/

/-- What the presence detector writes when it declares REFIN lost. -/
abbrev refGone : List (Key × Nat) :=
  [(Fld.REF_STATUS_PRESENT, 0), (Fld.REF_STATUS_FREQ_OK, 0), (Fld.TB_STATUS_REF_PRESENT, 0), (Fld.REF_STATUS_SLK_SRC, 0), (Fld.LDG_PERSIST 0, 1)]

/-- Those writes, producer 460, and TB_EVT.REF_LOST. -/
abbrev State.refGoneSeen (s : State) : State := ((s.sets refGone).pulse 460 none).set Fld.TB_EVT_REF_LOST 1

/-- The cause raised then. -/
abbrev State.refGoneRaised (s : State) : State := s.refGoneSeen.raise 0 (unitBlock 0) s.refWindow []

theorem exec_refLost_absent (h : Nat) (hp : s.is Fld.REF_STATUS_PRESENT = false) : exec (.refLost h) s = .next s := by
  change execRefLost h s = _
  simp [execRefLost, hp]

section
variable (h : Nat) (hp : s.is Fld.REF_STATUS_PRESENT = true)
include hp

theorem exec_refLost_idle (hs : s.get Fld.TB_STATUS_STATE = 0 ∨ s.get Fld.TB_STATUS_STATE = 7) :
    exec (.refLost h) s = .next ((s.sets refGone).pulse 460 none) := by
  change execRefLost h s = _
  rcases hs with hs | hs <;> simp [execRefLost, State.persist, hp, hs]

theorem exec_refLost_acquiring (hs : s.get Fld.TB_STATUS_STATE = 1 ∨ s.get Fld.TB_STATUS_STATE = 2) :
    exec (.refLost h) s = .next (s.refGoneSeen.tbEnter 0) := by
  change execRefLost h s = _
  rcases hs with hs | hs <;> simp [execRefLost, State.persist, State.refGoneSeen, hp, hs]

theorem exec_refLost_locked (h3 : s.get Fld.TB_STATUS_STATE = 3) : exec (.refLost h) s = .next (s.refGoneRaised.coastBegin 0) := by
  change execRefLost h s = _
  simp [execRefLost, State.persist, State.refGoneSeen, State.refGoneRaised, hp, h3]

theorem exec_refLost_coasting (hs : s.get Fld.TB_STATUS_STATE = 5 ∨ s.get Fld.TB_STATUS_STATE = 6 ∧ s.is Lat.TB_HELD = false) :
    exec (.refLost h) s = .next (s.refGoneRaised.tbEnter 4) := by
  change execRefLost h s = _
  rcases hs with hs | ⟨hs, hh⟩
  · simp [execRefLost, State.persist, State.refGoneSeen, State.refGoneRaised, hp, hs]
  · simp [execRefLost, State.persist, State.refGoneSeen, State.refGoneRaised, hp, hs, hh]

theorem exec_refLost_stopped (h6 : s.get Fld.TB_STATUS_STATE = 6) (hh : s.is Lat.TB_HELD = true) :
    exec (.refLost h) s = .next (s.refGoneRaised.release 4 h true) := by
  change execRefLost h s = _
  simp [execRefLost, State.persist, State.refGoneSeen, State.refGoneRaised, hp, h6, hh]

end

/-- What else the raise of cause 0 can change. -/
abbrev lossReport (k : Key) : Bool := (ledgerOf 0 k || archiveLoss k) && k != Fld.LDG_PERSIST 0

theorem State.refGoneSeen_frame (s : State) : Frame (s.sets (refGone ++ [(Fld.TB_EVT_REF_LOST, 1)])) s.refGoneSeen [.edges] (fun _ => false) :=
  (State.pulse_frame (s.sets refGone) 460 none).set_both _ _

theorem State.refGoneRaised_frame (s : State) :
    Frame (s.sets (refGone ++ [(Fld.TB_EVT_REF_LOST, 1)])) s.refGoneRaised [.edges, .arcBuf] lossReport := by
  have hr : Frame s.refGoneSeen s.refGoneRaised [.arcBuf] lossReport := (State.raise_frame ..).except (State.raise_persist ..)
  exact (s.refGoneSeen_frame.mono (by simp) (by simp)).trans (hr.mono (by simp) fun _ h => h)

theorem State.refGoneRaised_get {k : Key} (h1 : lossReport k = false) (h2 : named (refGone ++ [(Fld.TB_EVT_REF_LOST, 1)]) k = false) :
    s.refGoneRaised.get k = s.get k := s.refGoneRaised_frame.get_of_sets h1 h2

theorem State.refGoneRaised_tick (s : State) : s.refGoneRaised.tick = s.tick := s.refGoneRaised_frame.1 .tick (by simp)

theorem State.refGoneRaised_raised (s : State) : Raised s s.refGoneRaised 0 (unitBlock 0) s.refWindow := by
  have hf : Frame s (s.sets (refGone ++ [(Fld.TB_EVT_REF_LOST, 1)])) [.edges] (named (refGone ++ [(Fld.TB_EVT_REF_LOST, 1)])) :=
    Frame.sets _ _ (by simp [named])
  exact Raised.of_before (hf.trans (s.refGoneSeen_frame.mono (by simp) (by simp))) (State.raise_raised ..) (by simp) (by simp [named]) (by simp [named])

end

section
variable {s a : State}

/-- Outside LOCKED and COAST the time base enters a state by three writes. -/
theorem State.tbEnter_of_ne {st : Nat} (h3 : a.get Fld.TB_STATUS_STATE ≠ 3) (h4 : a.get Fld.TB_STATUS_STATE ≠ 4) :
    a.tbEnter st = a.sets [(Fld.TB_STATUS_STATE, st), (Fld.TB_STATUS_LOCKED, if st = 3 then 1 else 0), (Fld.TB_STATUS_UNREF, if 4 ≤ st ∧ st ≤ 6 then 1 else 0)] := by
  have hold : (a.get Fld.TB_STATUS_STATE == 3 || a.get Fld.TB_STATUS_STATE == 4) = false :=
    Bool.or_eq_false_iff.mpr ⟨beq_eq_false_iff_ne.mpr h3, beq_eq_false_iff_ne.mpr h4⟩
  rw [State.tbEnter, hold]
  rfl

theorem archiveLoss_ledgerRegs (k : Key) (h : archiveLoss k = true) : among ledgerRegs k = true := by
  rcases (by simpa [archiveLoss] using h : k = Fld.IC_ARC_LOST ∨ k = Fld.IC_ARC_EVT_BUF_OVF) with rfl | rfl <;> rfl

theorem ledgerOf_ledgerRegs (c : Nat) (k : Key) (h : ledgerOf c k = true) : among ledgerRegs k = true := by
  have hr : k.r = .IC_LDG := (by simpa [ledgerOf] using h : k.r = .IC_LDG ∧ k.i = c).1
  simp [among, hr]

theorem among_append (l rs : List RName) (k : Key) : among (l ++ rs) k = (among l k || among rs k) := by
  simp [among]

/-- The registers of the report of a loss and of what follows it. -/
theorem lossReport_or_among {rs : List RName} {k : Key} (hk : (lossReport k || (archiveLoss k || among rs k)) = true) :
    among (ledgerRegs ++ rs) k = true := by
  rw [among_append, Bool.or_eq_true_iff]
  rcases Bool.or_eq_true_iff.mp hk with hk | hk
  · rcases Bool.or_eq_true_iff.mp (Bool.and_eq_true_iff.mp hk).1 with hk | hk
    · exact Or.inl (ledgerOf_ledgerRegs 0 k hk)
    · exact Or.inl (archiveLoss_ledgerRegs k hk)
  · exact (Bool.or_eq_true_iff.mp hk).imp_left (archiveLoss_ledgerRegs k)

/-- The fields in which COAST's archive entry and loss action can show. -/
abbrev coastReport (k : Key) : Bool := archiveLoss k || among [.CH_EVT, .CH_PARK_SRC, .CH_STATUS, .PP_EVT, .PP_PARK_SRC, .REEL] k

theorem State.coastBegin_frame (h3 : a.get Fld.TB_STATUS_STATE = 3) (cause : Nat) :
    Frame (a.sets (coastBegun cause a.tick)) (a.coastBegin cause) [.arcBuf] coastReport := by
  rw [State.coastBegin_locked h3]
  exact ((State.archive_frame ..).mono (fun _ h => h) fun k hk => by simp only [coastReport, hk, Bool.true_or]).trans
    ((State.lossAction_touches _).mono (by simp) fun k hk => by simp only [coastReport, hk, Bool.or_true])

theorem State.coastBegin_around (h3 : a.get Fld.TB_STATUS_STATE = 3) (cause : Nat) :
    Frame a (a.coastBegin cause) [.arcBuf] (fun k => coastReport k || named (coastBegun cause a.tick) k) :=
  (Frame.sets a (coastBegun cause a.tick) (by simp [named])).trans
    ((State.coastBegin_frame h3 cause).mono (fun _ h => h) fun k hk => by simp only [hk, Bool.true_or])

/-- With the loss action NONE nothing parks. -/
theorem State.coastBegin_frame_none (h3 : a.get Fld.TB_STATUS_STATE = 3) (cause : Nat) (h0 : a.get Fld.TB_REFLOSS_ACT_ACT = 0) :
    Frame (a.sets (coastBegun cause a.tick)) (a.coastBegin cause) [.arcBuf] archiveLoss := by
  have ha : Frame (a.sets (coastBegun cause a.tick)) _ [.arcBuf] archiveLoss := State.archive_frame _ 13 (unitBlock 0) a.tick [a.refWindow, cause] false
  have h0' := (ha.get_of_sets (k := Fld.TB_REFLOSS_ACT_ACT) (by decide) (by simp [named])).trans h0
  rw [State.coastBegin_locked h3, State.lossAction_none h0']
  exact ha

theorem State.coastBegin_reason (h3 : a.get Fld.TB_STATUS_STATE = 3) (cause : Nat) (h0 : a.get Fld.TB_REFLOSS_ACT_ACT ≠ 0) (n : Nat) (hn : n < 32) :
    ((a.coastBegin cause).get (Fld.CH_PARK_SRC_REASON n)).testBit pkRefloss = true := by
  have ha : Frame (a.sets (coastBegun cause a.tick)) _ [.arcBuf] archiveLoss := State.archive_frame _ 13 (unitBlock 0) a.tick [a.refWindow, cause] false
  have h0' : State.get _ Fld.TB_REFLOSS_ACT_ACT ≠ 0 := (ha.get_of_sets (by decide) (by simp [named])).trans_ne h0
  rw [State.coastBegin_locked h3]
  exact State.lossAction_reason h0' n hn

/-! ### The clauses of a loss -/

section
variable {h : Nat} (hp : s.is Fld.REF_STATUS_PRESENT = true)
include hp

theorem refLost_does_idle (hs : s.get Fld.TB_STATUS_STATE = 0 ∨ s.get Fld.TB_STATUS_STATE = 7) :
    Does (.refLost h) s [.edges] (fun _ => false) refGone (fun _ => True) :=
  Does.of_sets (exec_refLost_idle h hp hs) (by decide) (by decide) (State.pulse_frame ..) (by decide) trivial

theorem refLost_does_acquiring (hs : s.get Fld.TB_STATUS_STATE = 1 ∨ s.get Fld.TB_STATUS_STATE = 2) :
    Does (.refLost h) s [.edges] (fun _ => false) (refGone ++ [(Fld.TB_EVT_REF_LOST, 1), (Fld.TB_STATUS_STATE, 0), (Fld.TB_STATUS_LOCKED, 0), (Fld.TB_STATUS_UNREF, 0)])
      (fun _ => True) := by
  have hst : s.refGoneSeen.get Fld.TB_STATUS_STATE = s.get Fld.TB_STATUS_STATE := s.refGoneSeen_frame.get_of_sets rfl (by simp [named])
  have he : s.refGoneSeen.tbEnter 0 = s.refGoneSeen.sets [(Fld.TB_STATUS_STATE, 0), (Fld.TB_STATUS_LOCKED, 0), (Fld.TB_STATUS_UNREF, 0)] :=
    State.tbEnter_of_ne (by rw [hst]; omega) (by rw [hst]; omega)
  exact Does.of_sets ((exec_refLost_acquiring h hp hs).trans (congrArg _ he)) (by decide) (by decide) (s.refGoneSeen_frame.sets_both _) (by decide) trivial

theorem refLost_does_coasting (hs : s.get Fld.TB_STATUS_STATE = 5 ∨ s.get Fld.TB_STATUS_STATE = 6 ∧ s.is Lat.TB_HELD = false) :
    Does (.refLost h) s [.edges, .arcBuf] (fun k => ledgerOf 0 k || archiveLoss k)
      (refGone ++ [(Fld.TB_EVT_REF_LOST, 1), (Fld.TB_STATUS_STATE, 4), (Fld.TB_STATUS_LOCKED, 0), (Fld.TB_STATUS_UNREF, 1)])
      (fun t => Raised s t 0 (unitBlock 0) s.refWindow) := by
  have hst : s.refGoneRaised.get Fld.TB_STATUS_STATE = s.get Fld.TB_STATUS_STATE := State.refGoneRaised_get rfl (by simp [named])
  have he : s.refGoneRaised.tbEnter 4 = s.refGoneRaised.sets [(Fld.TB_STATUS_STATE, 4), (Fld.TB_STATUS_LOCKED, 0), (Fld.TB_STATUS_UNREF, 1)] :=
    State.tbEnter_of_ne (by rw [hst]; omega) (by rw [hst]; omega)
  have hr := (s.refGoneRaised_raised).of_after (s.refGoneRaised.tbEnter_touches 4) (fun _ _ _ => rfl)
  rw [he] at hr
  have hf : Frame (s.sets (refGone ++ [(Fld.TB_EVT_REF_LOST, 1), (Fld.TB_STATUS_STATE, 4), (Fld.TB_STATUS_LOCKED, 0), (Fld.TB_STATUS_UNREF, 1)])) _
      [.edges, .arcBuf] lossReport := s.refGoneRaised_frame.sets_both _
  exact (Does.of_sets ((exec_refLost_coasting h hp hs).trans (congrArg _ he)) (by decide) (by decide) hf (by decide) hr).mono
    fun k hk => (Bool.and_eq_true_iff.mp hk).1

theorem refLost_does_locked (h3 : s.get Fld.TB_STATUS_STATE = 3) :
    Does (.refLost h) s [.edges, .arcBuf] (among [.CH_EVT, .CH_PARK_SRC, .CH_STATUS, .IC_ARC_EVT, .IC_ARC_LOST, .IC_LDG, .PP_EVT, .PP_PARK_SRC, .REEL])
      (refGone ++ (Fld.TB_EVT_REF_LOST, 1) :: coastBegun 0 s.tick)
      (fun t => Raised s t 0 (unitBlock 0) s.refWindow ∧
        (s.get Fld.TB_REFLOSS_ACT_ACT = 0 → ∀ n, t.get (Fld.CH_PARK_SRC_REASON n) = s.get (Fld.CH_PARK_SRC_REASON n)) ∧
        (s.get Fld.TB_REFLOSS_ACT_ACT ≠ 0 → ∀ n < 32, (t.get (Fld.CH_PARK_SRC_REASON n)).testBit pkRefloss = true)) := by
  have hst : s.refGoneRaised.get Fld.TB_STATUS_STATE = 3 := (State.refGoneRaised_get rfl (by simp [named])).trans h3
  have hact : s.refGoneRaised.get Fld.TB_REFLOSS_ACT_ACT = s.get Fld.TB_REFLOSS_ACT_ACT := State.refGoneRaised_get rfl (by simp [named])
  have hf := State.coastBegin_frame hst 0
  have hraised : Raised s (s.refGoneRaised.coastBegin 0) 0 (unitBlock 0) s.refWindow :=
    s.refGoneRaised_raised.of_after (State.coastBegin_around hst 0) (by simp [archiveLoss, among, named])
  have hkept : s.get Fld.TB_REFLOSS_ACT_ACT = 0 → ∀ n, (s.refGoneRaised.coastBegin 0).get (Fld.CH_PARK_SRC_REASON n) = s.get (Fld.CH_PARK_SRC_REASON n) :=
    fun h0 n => ((State.coastBegin_frame_none hst 0 (hact.trans h0)).get_of_sets (by simp [archiveLoss]) (by simp [named])).trans
      (State.refGoneRaised_get (by simp [ledgerOf, archiveLoss]) (by simp [named]))
  have hparked : s.get Fld.TB_REFLOSS_ACT_ACT ≠ 0 → ∀ n < 32, ((s.refGoneRaised.coastBegin 0).get (Fld.CH_PARK_SRC_REASON n)).testBit pkRefloss = true :=
    fun h0 => State.coastBegin_reason hst 0 (hact.trans_ne h0)
  rw [s.refGoneRaised_tick] at hf
  have hall : Frame (s.sets (refGone ++ (Fld.TB_EVT_REF_LOST, 1) :: coastBegun 0 s.tick)) (s.refGoneRaised.coastBegin 0) [.edges, .arcBuf]
      (fun k => lossReport k || coastReport k) :=
    ((s.refGoneRaised_frame.sets_both _).mono (by simp) fun k hk => by simp only [hk, Bool.true_or]).trans
      (hf.mono (by simp) fun k hk => by simp only [hk, Bool.or_true])
  refine (Does.of_sets (exec_refLost_locked h hp h3) (by simp) ?width hall (by simp [among, archiveLoss, ledgerOf]) ⟨hraised, hkept, hparked⟩).mono ?regs
  case width => simpa using Nat.mod_lt _ (by decide)
  case regs => exact fun k hk => among_sub rfl k (lossReport_or_among hk)

end

/-! ### Releases (R58, R69, R71, R72) -/

/-- What a release into state `st` at tick `n` writes first. -/
abbrev released (n st h : Nat) (est : Bool) : List (Key × Nat) :=
  [(Fld.TB_STATUS_STATE, st), (Fld.TB_STATUS_LOCKED, if st = 3 then 1 else 0), (Fld.TB_STATUS_UNREF, if 4 ≤ st ∧ st ≤ 6 then 1 else 0), (Lat.TB_HELD, 0),
    (Fld.TB_DISC, h % 2 ^ 32), (Fld.TB_STATUS_DISC_EST, est.toNat), (Fld.TB_EVT_ANCHOR_DONE, 1), (Lat.TB_REL_TICK, n % 2 ^ 64), (Lat.TB_UNPARK_DUE, 1),
    (Lat.TB_EPIN_SEEN, 0)]

/-- The fields in which its records show. -/
abbrev releaseReport (k : Key) : Bool := archiveLoss k || among [.L_TB_ENTRY_DUE, .L_TB_MEAS_DUE, .PP_EVT, .TB_COAST_HI, .TB_COAST_LO] k

theorem State.relockEntry_frame (a : State) : Frame a a.relockEntry [.arcBuf] archiveLoss :=
  (State.accept_frame a _).trans (State.accept_frame _ _)

/-- The state of a release before its park release and its RELOCK entries are due: the coast's length stands. -/
abbrev State.releaseCoast (a : State) (st h : Nat) (est : Bool) : State :=
  if a.get Lat.TB_REL_CAUSE = 2 then a.sets (released a.tick st h est)
  else (a.sets (released a.tick st h est)).set2 Fld.TB_COAST_LO Fld.TB_COAST_HI (tickAfter (a.get Lat.TB_LOSS_TICK) a.tick)

theorem State.releaseCoast_frame {st h : Nat} {est : Bool} (h3 : a.get Fld.TB_STATUS_STATE ≠ 3) (h4 : a.get Fld.TB_STATUS_STATE ≠ 4) :
    Frame (a.releaseCoast st h est) (a.release st h est) [.edges, .arcBuf] (fun k => archiveLoss k || among [.L_TB_ENTRY_DUE, .L_TB_MEAS_DUE, .PP_EVT] k) := by
  have he : (a.tbEnter st).sets [(Lat.TB_HELD, 0), (Fld.TB_DISC, h), (Fld.TB_STATUS_DISC_EST, est.toNat), (Fld.TB_EVT_ANCHOR_DONE, 1),
      (Lat.TB_REL_TICK, a.tick), (Lat.TB_UNPARK_DUE, 1), (Lat.TB_EPIN_SEEN, 0)] = a.sets (released a.tick st h est) := by
    have hd : ∀ b : State, b.set Fld.TB_DISC (h % 4294967296) = b.set Fld.TB_DISC h := fun b => b.set_mod Fld.TB_DISC h
    have hn : ∀ b : State, b.set Lat.TB_REL_TICK (a.tick % 18446744073709551616) = b.set Lat.TB_REL_TICK a.tick := fun b => b.set_mod Lat.TB_REL_TICK a.tick
    rw [State.tbEnter_of_ne h3 h4]
    simp only [released, State.sets_cons, State.sets_nil, Nat.reducePow, hd, hn]
  have hj : Frame (a.releaseCoast st h est) ((a.releaseCoast st h est).pulse 461 none).jesdReanchor [.edges, .arcBuf]
      (fun k => archiveLoss k || among [.L_TB_ENTRY_DUE, .L_TB_MEAS_DUE, .PP_EVT] k) :=
    ((State.pulse_frame ..).mono (by simp) (by simp)).trans
      ((State.jesdReanchor_touches _).mono (by simp) fun k hk => Bool.or_eq_true_iff.mpr (Or.inr (among_sub rfl k hk)))
  unfold State.release
  simp only [State.now, he]
  split
  · exact hj.trans (Frame.sets _ _ (by simp [among]))
  · exact hj.trans ((State.relockEntry_frame _).mono (by simp) fun k hk => by simp only [hk, Bool.true_or])

theorem State.release_frame {st h : Nat} {est : Bool} (h3 : a.get Fld.TB_STATUS_STATE ≠ 3) (h4 : a.get Fld.TB_STATUS_STATE ≠ 4) :
    Frame (a.sets (released a.tick st h est)) (a.release st h est) [.edges, .arcBuf] releaseReport := by
  have hc : Frame (a.sets (released a.tick st h est)) (a.releaseCoast st h est) [.edges, .arcBuf] releaseReport := by
    unfold State.releaseCoast
    split
    · exact Frame.refl _ _ _
    · exact Frame.put2 rfl rfl (Frame.refl _ _ _)
  refine hc.trans ((State.releaseCoast_frame h3 h4).mono (fun _ h => h) fun k hk => ?_)
  rcases Bool.or_eq_true_iff.mp hk with hk | hk
  · simp only [releaseReport, hk, Bool.true_or]
  · exact Bool.or_eq_true_iff.mpr (Or.inr (among_sub rfl k hk))

/-- A pair of 32-bit fields holds the 64-bit value written to it. -/
theorem State.get2_set2_coast {v : Nat} (hv : v < 2 ^ 64) :
    (a.set2 Fld.TB_COAST_LO Fld.TB_COAST_HI v).get2 Fld.TB_COAST_LO Fld.TB_COAST_HI = v := by
  simp only [State.get2, State.get_set2]
  simp
  omega

/-- The length of the coast that a release ends (R72). -/
theorem State.release_coast {st h : Nat} {est : Bool} (h3 : a.get Fld.TB_STATUS_STATE ≠ 3) (h4 : a.get Fld.TB_STATUS_STATE ≠ 4)
    (h2 : a.get Lat.TB_REL_CAUSE ≠ 2) :
    (a.release st h est).get2 Fld.TB_COAST_LO Fld.TB_COAST_HI = tickAfter (a.get Lat.TB_LOSS_TICK) a.tick := by
  have hf := State.releaseCoast_frame (st := st) (h := h) (est := est) h3 h4
  have hc : a.releaseCoast st h est = (a.sets (released a.tick st h est)).set2 Fld.TB_COAST_LO Fld.TB_COAST_HI (tickAfter (a.get Lat.TB_LOSS_TICK) a.tick) :=
    if_neg h2
  rw [State.get2, hf.get rfl, hf.get rfl, ← State.get2, hc]
  exact State.get2_set2_coast (Nat.mod_lt _ (by decide))

/-- The fields that a loss in a REANCHOR stop writes. -/
abbrev stoppedKeys : List Key := (refGone ++ [(Fld.TB_EVT_REF_LOST, 1)] ++ released 0 4 0 true).map Prod.fst

theorem stoppedKeys_eq (n h : Nat) : (refGone ++ [(Fld.TB_EVT_REF_LOST, 1)] ++ released n 4 h true).map Prod.fst = stoppedKeys := rfl

theorem stoppedKeys_nodup : stoppedKeys.Nodup := by decide

theorem stoppedKeys_apart : ∀ k ∈ stoppedKeys, (lossReport k || releaseReport k) = false := by decide

theorem refLost_does_stopped {h : Nat} (hp : s.is Fld.REF_STATUS_PRESENT = true) (h6 : s.get Fld.TB_STATUS_STATE = 6) (hh : s.is Lat.TB_HELD = true) :
    Does (.refLost h) s [.edges, .arcBuf] (among [.IC_ARC_EVT, .IC_ARC_LOST, .IC_LDG, .L_TB_ENTRY_DUE, .L_TB_MEAS_DUE, .PP_EVT, .PP_PARK_SRC, .TB_COAST_HI, .TB_COAST_LO])
      (refGone ++ [(Fld.TB_EVT_REF_LOST, 1), (Fld.TB_STATUS_STATE, 4), (Fld.TB_STATUS_LOCKED, 0), (Fld.TB_STATUS_UNREF, 1), (Fld.TB_STATUS_DISC_EST, 1),
        (Fld.TB_DISC, h % 2 ^ 32), (Fld.TB_EVT_ANCHOR_DONE, 1), (Lat.TB_HELD, 0), (Lat.TB_REL_TICK, s.tick % 2 ^ 64), (Lat.TB_UNPARK_DUE, 1), (Lat.TB_EPIN_SEEN, 0)])
      (fun t => s.get Lat.TB_REL_CAUSE ≠ 2 → t.get2 Fld.TB_COAST_LO Fld.TB_COAST_HI = tickAfter (s.get Lat.TB_LOSS_TICK) s.tick) := by
  have hkept : ∀ {k : Key}, lossReport k = false → named (refGone ++ [(Fld.TB_EVT_REF_LOST, 1)]) k = false → s.refGoneRaised.get k = s.get k :=
    State.refGoneRaised_get
  have hst : s.refGoneRaised.get Fld.TB_STATUS_STATE = 6 := (hkept rfl (by simp [named])).trans h6
  have hrel := State.release_frame (a := s.refGoneRaised) (st := 4) (h := h) (est := true) (by omega) (by omega)
  rw [s.refGoneRaised_tick] at hrel
  have hf : Frame (s.sets (refGone ++ [(Fld.TB_EVT_REF_LOST, 1)] ++ released s.tick 4 h true)) (s.refGoneRaised.release 4 h true) [.edges, .arcBuf]
      (fun k => lossReport k || releaseReport k) := by
    rw [State.sets_append]
    exact ((s.refGoneRaised_frame.sets_both _).mono (by simp) fun k hk => by simp only [hk, Bool.true_or]).trans
      (hrel.mono (by simp) fun k hk => by simp only [hk, Bool.or_true])
  have hcoast : s.get Lat.TB_REL_CAUSE ≠ 2 →
      (s.refGoneRaised.release 4 h true).get2 Fld.TB_COAST_LO Fld.TB_COAST_HI = tickAfter (s.get Lat.TB_LOSS_TICK) s.tick := by
    intro h2
    have hcause : s.refGoneRaised.get Lat.TB_REL_CAUSE = s.get Lat.TB_REL_CAUSE := hkept rfl (by simp [named])
    have hloss : s.refGoneRaised.get Lat.TB_LOSS_TICK = s.get Lat.TB_LOSS_TICK := hkept rfl (by simp [named])
    rw [State.release_coast (by omega) (by omega) (hcause.trans_ne h2), hloss, s.refGoneRaised_tick]
  have hd : Does (.refLost h) s [.edges, .arcBuf] (fun k => lossReport k || releaseReport k) (refGone ++ [(Fld.TB_EVT_REF_LOST, 1)] ++ released s.tick 4 h true)
      (fun t => s.get Lat.TB_REL_CAUSE ≠ 2 → t.get2 Fld.TB_COAST_LO Fld.TB_COAST_HI = tickAfter (s.get Lat.TB_LOSS_TICK) s.tick) :=
    Does.of_sets (exec_refLost_stopped h hp h6 hh) (stoppedKeys_eq s.tick h ▸ stoppedKeys_nodup)
      (by simpa using ⟨Nat.mod_lt _ (by decide), Nat.mod_lt _ (by decide)⟩) hf
      (fun q hq => stoppedKeys_apart q.1 (stoppedKeys_eq s.tick h ▸ List.mem_map_of_mem hq)) hcoast
  refine (hd.prune ?sub ?all).mono ?regs
  case sub => simp
  case all => simp
  case regs => exact fun k hk => among_sub rfl k (lossReport_or_among hk)

/-! ### The return of REFIN and an unlock (R51, R55, R58) -/

/-- What the return of REFIN writes beside REF_STATUS.FREQ_KHZ. -/
abbrev State.refReturned (s : State) : List (Key × Nat) :=
  [(Fld.REF_STATUS_PRESENT, 1), (Fld.REF_STATUS_FREQ_OK, 1), (Fld.TB_STATUS_REF_PRESENT, 1), (Fld.REF_STATUS_SLK_SRC, s.get Lat.TB_EVER % 2), (Fld.LDG_PERSIST 0, 0)]

theorem State.refReturned_lt (s : State) : ∀ q ∈ s.refReturned, q.2 < 2 ^ q.1.w := by
  simpa using Nat.mod_lt (s.get Lat.TB_EVER) Nat.two_pos

/-- The free value that FREQ_KHZ takes. -/
abbrev State.freqTaken (s : State) : State := (s.fresh (2 ^ 18)).2.set Fld.REF_STATUS_FREQ_KHZ (s.fresh (2 ^ 18)).1

theorem State.freqTaken_frame (s : State) : Frame s s.freqTaken [.free] (fun k => k == Fld.REF_STATUS_FREQ_KHZ) :=
  Frame.put rfl (Frame.on_free rfl (Frame.refl _ _ _))

theorem exec_refBack_present (hp : s.is Fld.REF_STATUS_PRESENT = true) : exec .refBack s = .next s := by
  change execRefBack s = _
  simp [execRefBack, hp]

/-- REF_STATUS and TB_STATUS after REFIN's return. -/
abbrev State.refBackSeen (s : State) : State := s.freqTaken.sets s.refReturned

theorem State.refBackSeen_eq (s : State) : ((s.fresh (2 ^ 18)).2.sets [(Fld.REF_STATUS_FREQ_KHZ, (s.fresh (2 ^ 18)).1), (Fld.REF_STATUS_PRESENT, 1),
    (Fld.REF_STATUS_FREQ_OK, 1), (Fld.TB_STATUS_REF_PRESENT, 1), (Fld.REF_STATUS_SLK_SRC, s.get Lat.TB_EVER)]).persist 0 false = s.refBackSeen := by
  have hm : ∀ b : State, b.set Fld.REF_STATUS_SLK_SRC (s.get Lat.TB_EVER % 2) = b.set Fld.REF_STATUS_SLK_SRC (s.get Lat.TB_EVER) := fun b =>
    b.set_mod Fld.REF_STATUS_SLK_SRC (s.get Lat.TB_EVER)
  simp only [State.refBackSeen, State.sets_cons, State.sets_nil, hm]
  rfl

section
variable (hp : s.is Fld.REF_STATUS_PRESENT = false)
include hp

theorem exec_refBack_coast (h4 : s.get Fld.TB_STATUS_STATE = 4) : exec .refBack s = .next (s.refBackSeen.set Fld.TB_EVT_REF_BACK 1) := by
  change execRefBack s = _
  simp only [execRefBack, hp, h4, s.refBackSeen_eq]
  rfl

theorem exec_refBack_waiting (h0 : s.get Fld.TB_STATUS_STATE = 0) (he : s.is Fld.PLL_CTRL_EN = true) (hw : s.is Lat.TB_WANT = true) :
    exec .refBack s = .next s.refBackSeen.tbStart := by
  change execRefBack s = _
  simp only [execRefBack, hp, h0, he, hw, s.refBackSeen_eq]
  rfl

theorem exec_refBack_off (h4 : s.get Fld.TB_STATUS_STATE ≠ 4) (he : s.is Fld.PLL_CTRL_EN = false) : exec .refBack s = .next s.refBackSeen := by
  change execRefBack s = _
  simp only [execRefBack, hp, he, s.refBackSeen_eq]
  split
  · contradiction
  · split
    · rfl
    · contradiction
    · rfl

theorem refBack_does_off (h4 : s.get Fld.TB_STATUS_STATE ≠ 4) (he : s.is Fld.PLL_CTRL_EN = false) :
    Does .refBack s [.free] (fun k => k == Fld.REF_STATUS_FREQ_KHZ) s.refReturned (fun _ => True) :=
  Does.of_sets (exec_refBack_off hp h4 he) (by simp) s.refReturned_lt (s.freqTaken_frame.sets_both _) (by simp) trivial

theorem refBack_does_coast (h4 : s.get Fld.TB_STATUS_STATE = 4) :
    Does .refBack s [.free] (fun k => k == Fld.REF_STATUS_FREQ_KHZ) (s.refReturned ++ [(Fld.TB_EVT_REF_BACK, 1)]) (fun _ => True) :=
  Does.of_sets (exec_refBack_coast hp h4) (by simp) (List.forall_mem_append.mpr ⟨s.refReturned_lt, by decide⟩) (s.freqTaken_frame.sets_both _) (by simp) trivial

/-- The fields that the check of the synthesiser's settings reads (R56). -/
abbrev pllKeys : List Key :=
  [Fld.PLL_CFG_N, Fld.PLL_CFG_REFMUL, Fld.PLL_CFG_EXT_LF, Fld.PLL_CFG_BW, Fld.REF_CFG_NOM_KHZ, Fld.REF_CFG_K_SLK]

omit hp in
theorem State.pllError_congr {t : State} (h : ∀ k ∈ pllKeys, t.get k = s.get k) : t.pllError = s.pllError := by
  simp only [pllKeys, List.forall_mem_cons] at h
  obtain ⟨hn, hm, hl, hb, hf, hk, -⟩ := h
  have hq : t.q2 = s.q2 := by simp only [State.q2, hn, hm]
  unfold State.pllError State.is
  rw [hq, hn, hm, hl, hb, hf, hk]

omit hp in
theorem pllKeys_ne : ∀ k ∈ pllKeys, (k == Fld.REF_STATUS_FREQ_KHZ) = false ∧ named s.refReturned k = false := by
  simp [named]

/-- The acquisition that waited for REFIN starts. -/
theorem refBack_does_start (h0 : s.get Fld.TB_STATUS_STATE = 0) (he : s.is Fld.PLL_CTRL_EN = true) (hw : s.is Lat.TB_WANT = true) (hn : s.pllError = 0) :
    Does .refBack s [.free] (fun k => k == Fld.REF_STATUS_FREQ_KHZ) (s.refReturned ++ [(Fld.TB_STATUS_STATE, 1), (Fld.TB_STATUS_LOCKED, 0), (Fld.TB_STATUS_UNREF, 0),
      (Fld.PLL_STATUS_ERR, 0), (Fld.PLL_STATUS_BAND_CAL_DONE, 0), (Fld.PLL_STATUS_LD, 0)]) (fun _ => True) := by
  have hf : Frame (s.sets s.refReturned) s.refBackSeen [.free] (fun k => k == Fld.REF_STATUS_FREQ_KHZ) := s.freqTaken_frame.sets_both _
  have hkept : ∀ {k : Key}, (k == Fld.REF_STATUS_FREQ_KHZ) = false → named s.refReturned k = false → s.refBackSeen.get k = s.get k := hf.get_of_sets
  have hn' : s.refBackSeen.pllError = 0 := (State.pllError_congr fun k hk => hkept (pllKeys_ne (s := s) k hk).1 (pllKeys_ne k hk).2).trans hn
  have hp' : s.refBackSeen.is Fld.REF_STATUS_PRESENT = true := by simp
  have h0' : s.refBackSeen.get Fld.TB_STATUS_STATE = 0 := (hkept rfl (by simp [named])).trans h0
  have hstart : s.refBackSeen.tbStart = s.refBackSeen.sets acquireStarted := State.tbStart_of_present hn' hp' h0'
  have hw1 : s.get Lat.TB_WANT = 1 := by simpa [State.is] using hw
  have hall : Frame (s.sets (s.refReturned ++ acquireStarted)) (s.refBackSeen.sets acquireStarted) [.free] (fun k => k == Fld.REF_STATUS_FREQ_KHZ) := hf.sets_both _
  refine (Does.of_sets ((exec_refBack_waiting hp h0 he hw).trans (congrArg _ hstart)) (by simp)
    (List.forall_mem_append.mpr ⟨s.refReturned_lt, by decide⟩) hall (by simp) trivial).prune ?_ ?_
  · simp
  · simp [hw1]

end

/-- The writes of an unlock. -/
abbrev State.unlockRaised (s : State) : State := (s.sets [(Fld.PLL_STATUS_LD, 0), (Fld.TB_EVT_UNLOCK, 1)]).raise 1 (unitBlock 0) 0 []

theorem exec_pllUnlock (h3 : s.get Fld.TB_STATUS_STATE = 3) (hp : s.is Fld.REF_STATUS_PRESENT = true) :
    exec .pllUnlock s = .next (s.unlockRaised.coastBegin 1) := by
  change execPllUnlock s = _
  have hl : s.locked = true := by simp [State.locked, h3]
  simp [execPllUnlock, State.unlockRaised, hl, hp]

theorem pllUnlock_does_coast (h3 : s.get Fld.TB_STATUS_STATE = 3) (hp : s.is Fld.REF_STATUS_PRESENT = true) (h0 : s.get Fld.TB_REFLOSS_ACT_ACT = 0) :
    Does .pllUnlock s [.arcBuf] (fun k => ledgerOf 1 k || archiveLoss k) ([(Fld.PLL_STATUS_LD, 0), (Fld.TB_EVT_UNLOCK, 1)] ++ coastBegun 1 s.tick)
      (fun t => Raised s t 1 (unitBlock 0) 0) := by
  have hu : Frame (s.sets [(Fld.PLL_STATUS_LD, 0), (Fld.TB_EVT_UNLOCK, 1)]) s.unlockRaised [.arcBuf] (fun k => ledgerOf 1 k || archiveLoss k) :=
    State.raise_frame ..
  have hkept : ∀ {k : Key}, (ledgerOf 1 k || archiveLoss k) = false → named [(Fld.PLL_STATUS_LD, 0), (Fld.TB_EVT_UNLOCK, 1)] k = false →
    s.unlockRaised.get k = s.get k := hu.get_of_sets
  have htick : s.unlockRaised.tick = s.tick := hu.1 .tick (by simp)
  have hst : s.unlockRaised.get Fld.TB_STATUS_STATE = 3 := (hkept rfl (by simp [named])).trans h3
  have hc := State.coastBegin_frame_none hst 1 ((hkept rfl (by simp [named])).trans h0)
  rw [htick] at hc
  have hf : Frame (s.sets ([(Fld.PLL_STATUS_LD, 0), (Fld.TB_EVT_UNLOCK, 1)] ++ coastBegun 1 s.tick)) (s.unlockRaised.coastBegin 1) [.arcBuf]
      (fun k => ledgerOf 1 k || archiveLoss k) :=
    (hu.sets_both (coastBegun 1 s.tick)).trans (hc.mono (fun _ h => h) fun k hk => by simp only [hk, Bool.or_true])
  have hbefore : Frame s (s.sets [(Fld.PLL_STATUS_LD, 0), (Fld.TB_EVT_UNLOCK, 1)]) [] (named [(Fld.PLL_STATUS_LD, 0), (Fld.TB_EVT_UNLOCK, 1)]) :=
    Frame.sets _ _ (by simp [named])
  have hraised : Raised s (s.unlockRaised.coastBegin 1) 1 (unitBlock 0) 0 :=
    (Raised.of_before hbefore (State.raise_raised ..) (by simp) (by simp [named]) (by simp [named])).of_after (State.coastBegin_around hst 1)
      (by simp [archiveLoss, among, named])
  exact Does.of_sets (exec_pllUnlock h3 hp) (by simp) (by simpa using Nat.mod_lt _ (by decide)) hf (by simp [archiveLoss, ledgerOf]) hraised

end

/-- Settles O8: each command is a run of writes in the case its clause names, around which come the pulse, the raise, the loss action and the
records of the release. -/
theorem referenceLossAndReturn : Obligations.ReferenceLossAndReturn := by
  refine ⟨fun h s hp => exec_refLost_absent h hp, fun h s hp => ⟨?idle, ?acquiring, ?locked, ?coasting, ?stopped⟩, fun s => exec_refBack_present,
    fun s hp => ⟨?coast, ?start, ?off⟩, fun s h3 _ => pllUnlock_does_coast h3⟩
  case idle => exact refLost_does_idle hp
  case acquiring => exact refLost_does_acquiring hp
  case locked => exact fun h3 _ => refLost_does_locked hp h3
  case coasting => exact refLost_does_coasting hp
  case stopped => exact refLost_does_stopped hp
  case coast => exact refBack_does_coast hp
  case start => exact refBack_does_start hp
  case off => exact refBack_does_off hp

end Sys2Proof.Machine
end

section
/-!
PROOFS. Stops and releases of the count (O10): a REANCHOR stop, the qualified edge, and what is due some ticks after it.
-/
namespace Sys2Proof.Machine

section
variable {s a : State}

/-! ### The park reasons of the channels -/

theorem State.chPark_bit (a : State) (m n b c : Nat) (on : Bool) (hb : b < 11) :
    ((a.chPark m b on).get (Fld.CH_PARK_SRC_REASON n)).testBit c =
      if n = m ∧ c = b then on else (a.get (Fld.CH_PARK_SRC_REASON n)).testBit c := by
  by_cases hn : n = m
  · subst hn
    simp [State.chPark_reason, hb]
  · rw [(State.chPark_frame a m b on).get (by simp [parkOfChannel, hn])]
    simp [hn]

theorem State.chParks_bit (l : List Nat) (a : State) (n b c : Nat) (on : Bool) (hb : b < 11) :
    ((a.each l (fun m a => a.chPark m b on)).get (Fld.CH_PARK_SRC_REASON n)).testBit c =
      if n ∈ l ∧ c = b then on else (a.get (Fld.CH_PARK_SRC_REASON n)).testBit c := by
  induction l generalizing a with
  | nil => simp [State.each]
  | cons m l ih =>
    refine (ih (a.chPark m b on)).trans ?_
    rw [State.chPark_bit _ _ _ _ _ _ hb]
    by_cases hc : c = b <;> by_cases hl : n ∈ l <;> by_cases hm : n = m <;> simp_all

theorem State.chParks_touches (l : List Nat) (a : State) (b : Nat) (on : Bool) :
    Frame a (a.each l (fun m a => a.chPark m b on)) [] (among [.CH_EVT, .CH_PARK_SRC, .CH_STATUS]) :=
  Frame.each _ _ _ l (fun m _ a => State.chPark_touches a m b on) a

/-- Another reason stays as it is. -/
theorem State.parkAll_bit_ne (a : State) (n b c : Nat) (on : Bool) (hb : b < 11) (hc : c ≠ b) :
    ((a.parkAll b on).get (Fld.CH_PARK_SRC_REASON n)).testBit c = (a.get (Fld.CH_PARK_SRC_REASON n)).testBit c := by
  have hp : ∀ a : State, (a.each (List.range 48) (fun p a => a.ppPark p b on)).get (Fld.CH_PARK_SRC_REASON n) = a.get (Fld.CH_PARK_SRC_REASON n) :=
    fun a => (Frame.each _ _ _ _ (fun p _ a => State.ppPark_touches a p b on) a).get rfl
  rw [State.parkAll, hp, State.chParks_bit _ _ _ _ _ _ hb]
  simp [hc]

/-- A command that gives all the fields of `w` their values gives those of a part of `w` theirs. -/
theorem Does.part {c : Instr} {ps : List Part} {p : Key → Bool} {l w : List (Key × Nat)} {P : State → Prop} (h : Does c s ps p w P) (hl : l ⊆ w) :
    Does c s ps (fun _ => true) l P := by
  obtain ⟨t, he, hv, hf, hP⟩ := h
  exact ⟨t, he, fun q hq => hv q (hl hq), hf.mono (fun _ h => h) fun _ _ => rfl, hP⟩

/-! ### The stop (R58, R69, R302, R352) -/

/-- What a stop for an anchor in LOCKED writes first. -/
abbrev stopped : List (Key × Nat) :=
  [(Fld.TB_STATUS_STATE, 6), (Fld.TB_STATUS_LOCKED, 0), (Fld.TB_STATUS_UNREF, 1), (Fld.TB_STATUS_ANCHOR_ARMED, 0), (Lat.TB_HELD, 1), (Lat.TB_REL_CAUSE, 2)]

/-- The state of a stop, before an armed load is checked and measurements end. -/
abbrev State.parkedAtStop (s : State) : State := (s.sets stopped).each (List.range 32) (fun n a => a.chPark n pkReanchor true)

/-- The registers in which a stop's parking shows, the load's check and the end of the measurements. -/
abbrev stopRegs : List RName :=
  [.L_TB_LOAD_OK, .TB_EVT, .TIU_EVT, .TIU_FREQ_EXP, .TIU_FREQ_RATIO_HI, .TIU_FREQ_RATIO_LO, .TIU_IMAX_HI, .TIU_IMAX_LO, .TIU_IMIN_HI, .TIU_IMIN_LO,
    .TIU_ISUM_HI, .TIU_ISUM_LO, .TIU_OVERRUN, .TIU_RSTAT, .TIU_START, .TIU_STATUS, .TIU_STOP, .TIU_SUM_IT, .TIU_SUM_T, .COR_GRP_EVT, .COR_GRP_STATUS,
    .COR_IN_STAT, .IC_ARC_EVT, .IC_ARC_LOST, .IC_LDG, .LK_EVT, .LK_RXS_STAT, .LK_STATUS, .L_COR_RAMP, .L_COR_W0, .L_COR_ZERO, .L_LK_AGAIN, .L_LK_FAULTED,
    .L_LK_GOOD, .L_LK_HDR, .L_LK_N, .L_LK_SUM_R, .L_LK_SUM_T, .L_LK_TIU, .REEL]

theorem State.stopEnd_frame (a : State) : Frame a a.loadCheck.stopMeasurements [.measures, .rxs, .txq, .txs, .edges, .arcBuf] (among stopRegs) := by
  have h1 := (State.loadCheck_touches a).mono (qs := [.measures, .rxs, .txq, .txs, .edges, .arcBuf]) (q := among stopRegs) (by simp) (among_sub rfl)
  have h2 := (State.breakTius_touches a.loadCheck).mono (qs := [.measures, .rxs, .txq, .txs, .edges, .arcBuf]) (q := among stopRegs) (by simp) (among_sub rfl)
  exact (h1.trans h2).trans ((State.linksAnchor_touches _).mono (fun x hx => List.mem_cons_of_mem _ hx) (among_sub rfl))

theorem exec_reanchorStop (h3 : s.get Fld.TB_STATUS_STATE = 3) (ha : s.is Fld.TB_STATUS_ANCHOR_ARMED = true) (ht : s.get Lat.TB_ANCHOR_TICK ≤ s.tick)
    (hw : s.tick % 8 = 0) : exec .reanchorStop s = .next s.parkedAtStop.loadCheck.stopMeasurements := by
  have hs : ((s.tbEnter 6).flag Lat.TB_HELD).set Lat.TB_REL_CAUSE 2 = s.sets stopped := by simp [State.tbEnter, h3]
  change execReanchorStop s = _
  simp only [execReanchorStop, State.now, h3, ha, ht, hw, and_self, true_or, if_true, hs]

theorem exec_reanchorStop_keeps (hw : s.tick % 8 ≠ 0) : exec .reanchorStop s = .next s := by
  change execReanchorStop s = _
  simp [execReanchorStop, State.now, hw]

theorem reanchorStop_does (h3 : s.get Fld.TB_STATUS_STATE = 3) (ha : s.is Fld.TB_STATUS_ANCHOR_ARMED = true) (ht : s.get Lat.TB_ANCHOR_TICK ≤ s.tick)
    (hw : s.tick % 8 = 0) :
    Does .reanchorStop s [.measures, .rxs, .txq, .txs, .edges, .arcBuf] (fun _ => true) stopped
      (fun t => ∀ n < 32, (t.get (Fld.CH_PARK_SRC_REASON n)).testBit pkReanchor = true) := by
  have hpark : Frame (s.sets stopped) s.parkedAtStop [.measures, .rxs, .txq, .txs, .edges, .arcBuf] (among (.CH_EVT :: .CH_PARK_SRC :: .CH_STATUS :: stopRegs)) :=
    (State.chParks_touches ..).mono (by simp) (among_sub rfl)
  have hf := hpark.trans ((State.stopEnd_frame s.parkedAtStop).mono (fun _ h => h) (among_sub rfl))
  have hbit : ∀ n < 32, (s.parkedAtStop.loadCheck.stopMeasurements.get (Fld.CH_PARK_SRC_REASON n)).testBit pkReanchor = true := fun n hn => by
    rw [(State.stopEnd_frame s.parkedAtStop).get rfl, State.chParks_bit _ _ _ _ _ _ (by decide), if_pos ⟨List.mem_range.mpr hn, rfl⟩]
  exact (Does.of_sets (exec_reanchorStop h3 ha ht hw) (by decide) (by decide) hf (by decide) hbit).part (List.Subset.refl _)

/-! ### The release (R58, R61, R69, R71) -/

/-- The registers in which the end of the BOOT reason shows and what started with the count. -/
abbrev startRegs : List RName :=
  [.CH_EVT, .CH_PARK_SRC, .CH_STATUS, .PP_EVT, .PP_PARK_SRC, .COR_GRP_EVT, .COR_GRP_STATUS, .COR_IN_STAT, .IC_ARC_EVT, .IC_ARC_LOST, .IC_LDG, .LK_EVT, .LK_RXS_STAT,
    .LK_STATUS, .L_COR_RAMP, .L_COR_W0, .L_COR_ZERO, .L_LK_AGAIN, .L_LK_FAULTED, .L_LK_GOOD, .L_LK_HDR, .L_LK_N, .L_LK_SUM_R, .L_LK_SUM_T, .L_LK_TIU, .REEL,
    .TIU_EVT, .TIU_RSTAT, .TIU_STATUS]

/-- The state after a release whose count simply runs on: the source of the slack is set, and what waited for the count starts. -/
def State.countRuns (a : State) : State :=
  (((a.flag Lat.TB_EVER).set Fld.REF_STATUS_SLK_SRC (a.get Fld.REF_STATUS_PRESENT)).bootClear).afterRelease

theorem State.countRuns_frame (a : State) :
    Frame (a.set Lat.TB_EVER 1) a.countRuns [.measures, .rxs, .txq, .txs, .edges, .arcBuf] (among (.REF_STATUS :: startRegs)) :=
  ((Frame.put rfl (Frame.refl _ _ _)).trans ((State.bootClear_touches _).mono (by simp) (among_sub rfl))).trans
    ((State.afterRelease_touches _).mono (fun _ h => h) (among_sub rfl))

/-- The fields that say what else a release does: a load, a clear that was held, a studio in ANCHORING. -/
abbrev releaseReads : List Key := [Lat.TB_LOAD_OK, Lat.TB_CLEAR_HELD, Fld.LK_STUDIO_STATUS_STATE]

theorem State.countRuns_reads (a : State) : ∀ k ∈ releaseReads, a.countRuns.get k = a.get k := by
  have hk : ∀ k ∈ releaseReads, among (.REF_STATUS :: startRegs) k = false ∧ Lat.TB_EVER ≠ k := by decide
  exact fun k hm => (a.countRuns_frame.get (hk k hm).1).trans (State.get_set_ne _ _ (hk k hm).2)

/-- With none of these the count runs on. -/
theorem State.afterAnchor_eq {h : Int} (ha : ∀ k ∈ releaseReads, a.get k = s.get k) (hl : s.is Lat.TB_LOAD_OK = false)
    (hc : s.is Lat.TB_CLEAR_HELD = false) (hs : s.get Fld.LK_STUDIO_STATUS_STATE ≠ 4) : s.afterAnchor a h = a.countRuns := by
  have hget : ∀ k ∈ releaseReads, a.countRuns.get k = s.get k := fun k hk => (a.countRuns_reads k hk).trans (ha k hk)
  have hl' : ¬a.countRuns.is Lat.TB_LOAD_OK = true := by rw [State.is, hget _ (by simp)]; simpa [State.is] using hl
  have hc' : ¬a.countRuns.is Lat.TB_CLEAR_HELD = true := by rw [State.is, hget _ (by simp)]; simpa [State.is] using hc
  have hs' : ¬(s.get Fld.TB_STATUS_STATE = 6 ∧ a.countRuns.get Fld.LK_STUDIO_STATUS_STATE = 4) := fun h => hs ((hget _ (by simp)).symm.trans h.2)
  have hfold : (((a.flag Lat.TB_EVER).set Fld.REF_STATUS_SLK_SRC (a.get Fld.REF_STATUS_PRESENT)).bootClear).afterRelease = a.countRuns := rfl
  simp only [State.afterAnchor, hfold]
  rw [if_neg hs', if_neg hl', if_neg hc']

/-- What the first qualified edge writes in ANCHOR. -/
abbrev State.anchored (s : State) : List (Key × Nat) :=
  [(Fld.TB_STATUS_STATE, 3), (Fld.TB_STATUS_LOCKED, 1), (Fld.TB_STATUS_UNREF, 0), (Fld.TB_EVT_ANCHOR_DONE, 1), (Lat.TB_REL_TICK, s.tick % 2 ^ 64),
    (Lat.TB_EPIN_SEEN, 0), (Lat.TB_MEAS_DUE, s.get Fld.TB_CTRL_ANCHOR_MEAS % 2)]

theorem exec_anchorRelease (d j : Nat) (s : State) : exec (.anchorRelease d j) s = .next (
    if ¬(s.get Fld.TB_EPIN_CFG_MODE ≠ 2 ∨ s.is Lat.TB_EPIN_SEEN) then s
    else match s.get Fld.TB_STATUS_STATE with
      | 2 => s.afterAnchor ((s.tbEnter 3).sets [(Fld.TB_EVT_ANCHOR_DONE, 1), (Lat.TB_REL_TICK, s.now), (Lat.TB_EPIN_SEEN, 0),
          (Lat.TB_MEAS_DUE, s.get Fld.TB_CTRL_ANCHOR_MEAS)]) (s.heldInterval d j)
      | 6 => if s.is Lat.TB_HELD then s.afterAnchor (s.release 3 (ux 32 (s.heldInterval d j)) false) (s.heldInterval d j) else s
      | _ => s) := rfl

theorem exec_anchorRelease_keeps (d j : Nat) (hm : s.get Fld.TB_EPIN_CFG_MODE = 2) (he : s.is Lat.TB_EPIN_SEEN = false) :
    exec (.anchorRelease d j) s = .next s := by
  rw [exec_anchorRelease, if_pos (by simp [hm, he])]

section
variable (d j : Nat) (hm : s.get Fld.TB_EPIN_CFG_MODE ≠ 2)
include hm

theorem exec_anchorRelease_anchor (h2 : s.get Fld.TB_STATUS_STATE = 2) :
    exec (.anchorRelease d j) s = .next (s.afterAnchor (s.sets s.anchored) (s.heldInterval d j)) := by
  have hs : (s.tbEnter 3).sets [(Fld.TB_EVT_ANCHOR_DONE, 1), (Lat.TB_REL_TICK, s.now), (Lat.TB_EPIN_SEEN, 0),
      (Lat.TB_MEAS_DUE, s.get Fld.TB_CTRL_ANCHOR_MEAS)] = s.sets s.anchored := by
    have ht : ∀ b : State, b.set Lat.TB_REL_TICK (s.tick % 18446744073709551616) = b.set Lat.TB_REL_TICK s.tick := fun b => b.set_mod Lat.TB_REL_TICK s.tick
    have hd : ∀ (b : State) (v : Nat), b.set Lat.TB_MEAS_DUE (v % 2) = b.set Lat.TB_MEAS_DUE v := fun b v => b.set_mod Lat.TB_MEAS_DUE v
    simp [State.tbEnter_of_ne (a := s) (st := 3) (by omega) (by omega), State.now, ht, hd]
  rw [exec_anchorRelease, if_neg (not_not.mpr (Or.inl hm)), h2, hs]
  rfl

theorem exec_anchorRelease_stopped (h6 : s.get Fld.TB_STATUS_STATE = 6) (hh : s.is Lat.TB_HELD = true) :
    exec (.anchorRelease d j) s = .next (s.afterAnchor (s.release 3 (ux 32 (s.heldInterval d j)) false) (s.heldInterval d j)) := by
  rw [exec_anchorRelease, if_neg (not_not.mpr (Or.inl hm)), h6, hh]
  rfl

theorem exec_anchorRelease_locked (h3 : s.get Fld.TB_STATUS_STATE = 3) : exec (.anchorRelease d j) s = .next s := by
  rw [exec_anchorRelease, if_neg (not_not.mpr (Or.inl hm)), h3]
  rfl

variable (hl : s.is Lat.TB_LOAD_OK = false) (hc : s.is Lat.TB_CLEAR_HELD = false) (hs : s.get Fld.LK_STUDIO_STATUS_STATE ≠ 4)
include hl hc hs

theorem anchorRelease_does_anchor (h2 : s.get Fld.TB_STATUS_STATE = 2) :
    Does (.anchorRelease d j) s [.measures, .rxs, .txq, .txs, .edges, .arcBuf] (fun _ => true)
      [(Fld.TB_STATUS_STATE, 3), (Fld.TB_STATUS_LOCKED, 1), (Fld.TB_STATUS_UNREF, 0), (Fld.TB_EVT_ANCHOR_DONE, 1), (Lat.TB_REL_TICK, s.tick % 2 ^ 64),
        (Lat.TB_EVER, 1)] (fun _ => True) := by
  have hn : ∀ k ∈ releaseReads, named s.anchored k = false := by simp [named]
  have he : s.afterAnchor (s.sets s.anchored) (s.heldInterval d j) = (s.sets s.anchored).countRuns :=
    State.afterAnchor_eq (fun k hk => State.get_sets_of_not_named s _ k (hn k hk)) hl hc hs
  have hf : Frame (s.sets (s.anchored ++ [(Lat.TB_EVER, 1)])) (s.sets s.anchored).countRuns [.measures, .rxs, .txq, .txs, .edges, .arcBuf]
      (among (.REF_STATUS :: startRegs)) := by
    rw [State.sets_append]
    exact State.countRuns_frame _
  refine (Does.of_sets ((exec_anchorRelease_anchor d j hm h2).trans (congrArg _ he)) (by simp) ?width hf (by simp [among]) trivial).part ?sub
  case width => simpa using ⟨Nat.mod_lt _ (by decide), Nat.le_of_lt_succ (Nat.mod_lt _ Nat.two_pos)⟩
  case sub => simp

theorem anchorRelease_does_stopped (h6 : s.get Fld.TB_STATUS_STATE = 6) (hh : s.is Lat.TB_HELD = true) :
    Does (.anchorRelease d j) s [.measures, .rxs, .txq, .txs, .edges, .arcBuf] (fun _ => true)
      [(Fld.TB_STATUS_STATE, 3), (Fld.TB_STATUS_LOCKED, 1), (Fld.TB_STATUS_UNREF, 0), (Fld.TB_STATUS_DISC_EST, 0), (Fld.TB_EVT_ANCHOR_DONE, 1), (Lat.TB_HELD, 0),
        (Fld.TB_DISC, ux 32 (s.heldInterval d j)), (Lat.TB_UNPARK_DUE, 1)] (fun _ => True) := by
  have hr : Frame (s.sets (released s.tick 3 (ux 32 (s.heldInterval d j)) false)) (s.release 3 (ux 32 (s.heldInterval d j)) false) [.edges, .arcBuf] releaseReport :=
    State.release_frame (by omega) (by omega)
  have hn : ∀ k ∈ releaseReads, releaseReport k = false ∧ named (released s.tick 3 (ux 32 (s.heldInterval d j)) false) k = false := by
    simp [named, among, archiveLoss]
  have he : s.afterAnchor (s.release 3 (ux 32 (s.heldInterval d j)) false) (s.heldInterval d j) = (s.release 3 (ux 32 (s.heldInterval d j)) false).countRuns :=
    State.afterAnchor_eq (fun k hk => hr.get_of_sets (hn k hk).1 (hn k hk).2) hl hc hs
  have hf : Frame (s.sets (released s.tick 3 (ux 32 (s.heldInterval d j)) false ++ [(Lat.TB_EVER, 1)])) (s.release 3 (ux 32 (s.heldInterval d j)) false).countRuns
      [.measures, .rxs, .txq, .txs, .edges, .arcBuf] (fun k => releaseReport k || among (.REF_STATUS :: startRegs) k) := by
    rw [State.sets_append]
    exact ((hr.sets_both _).mono (by simp) fun k hk => by simp only [hk, Bool.true_or]).trans
      ((State.countRuns_frame _).mono (fun _ h => h) fun k hk => by simp only [hk, Bool.or_true])
  have hux : ux 32 (s.heldInterval d j) % 4294967296 = ux 32 (s.heldInterval d j) := by unfold ux; omega
  refine (Does.of_sets ((exec_anchorRelease_stopped d j hm h6 hh).trans (congrArg _ he)) (by simp) ?width hf (by simp [among, archiveLoss]) trivial).part ?sub
  case width => simpa using ⟨Nat.mod_lt _ (by decide), Nat.mod_lt _ (by decide)⟩
  case sub => simp [hux]

end

/-! ### What is due after a release (R62, R63, R69, R71) -/

/-- The state in which the REANCHOR reason has cleared. -/
abbrev State.unparked (s : State) : State := (s.each (List.range 32) (fun n a => a.chPark n pkReanchor false)).clr Lat.TB_UNPARK_DUE

theorem exec_reanchorParkRelease (hu : s.is Lat.TB_UNPARK_DUE = true) (ht : 64 ≤ tickAfter (s.get Lat.TB_REL_TICK) s.tick) :
    exec .reanchorParkRelease s = .next (if s.locked then s.unparked.parkAll pkRefloss false else s.unparked) := by
  change execReanchorParkRelease s = _
  simp [execReanchorParkRelease, State.now, State.unparked, hu, ht]

theorem exec_reanchorParkRelease_keeps (hu : s.is Lat.TB_UNPARK_DUE = false) : exec .reanchorParkRelease s = .next s := by
  change execReanchorParkRelease s = _
  simp [execReanchorParkRelease, hu]

theorem State.unparked_bit (s : State) (n : Nat) (hn : n < 32) : (s.unparked.get (Fld.CH_PARK_SRC_REASON n)).testBit pkReanchor = false := by
  rw [State.unparked, State.clr, State.get_set_ne, State.chParks_bit _ _ _ _ _ _ (by decide), if_pos ⟨List.mem_range.mpr hn, rfl⟩]
  simp

theorem reanchorParkRelease_does (hu : s.is Lat.TB_UNPARK_DUE = true) (ht : 64 ≤ tickAfter (s.get Lat.TB_REL_TICK) s.tick) :
    Does .reanchorParkRelease s [] (among [.CH_EVT, .CH_PARK_SRC, .CH_STATUS, .PP_EVT, .PP_PARK_SRC]) [(Lat.TB_UNPARK_DUE, 0)]
      (fun t => (∀ n < 32, (t.get (Fld.CH_PARK_SRC_REASON n)).testBit pkReanchor = false) ∧
        (s.locked = true → ∀ n < 32, (t.get (Fld.CH_PARK_SRC_REASON n)).testBit pkRefloss = false)) := by
  have hf : Frame (s.sets [(Lat.TB_UNPARK_DUE, 0)]) s.unparked [] (among [.CH_EVT, .CH_PARK_SRC, .CH_STATUS, .PP_EVT, .PP_PARK_SRC]) :=
    ((State.chParks_touches ..).mono (fun _ h => h) (among_sub rfl)).set_both _ _
  have he := exec_reanchorParkRelease hu ht
  cases hk : s.locked
  · rw [hk, if_neg Bool.false_ne_true] at he
    exact Does.of_sets he (by decide) (by decide) hf (by decide) ⟨s.unparked_bit, fun h => absurd h (by decide)⟩
  · rw [hk, if_pos rfl] at he
    refine Does.of_sets he (by decide) (by decide) (hf.trans (State.parkAll_touches ..)) (by decide) ⟨fun n hn => ?_, fun _ n hn => ?_⟩
    · rw [State.parkAll_bit_ne _ _ _ _ _ (by decide) (by decide), s.unparked_bit n hn]
    · exact State.parkAll_reason _ _ _ (by decide) n hn

theorem clampInt_eq (v : Int) : clampInt (-200) 200 v = max (-200) (min 200 v) := by
  unfold clampInt
  split
  · omega
  · split <;> omega

theorem ux_lt (w : Nat) (v : Int) : ux w v < 2 ^ w := by
  have h := Int.emod_lt_of_pos v (b := (2 ^ w : Nat)) (by exact_mod_cast Nat.two_pow_pos w)
  unfold ux
  omega

section
variable {m : Int} (hm : s.is Lat.TB_MEAS_DUE = true) (ht : 1024 ≤ tickAfter (s.get Lat.TB_REL_TICK) s.tick) (he : s.is Lat.TB_ENTRY_DUE = false)
include hm ht he

theorem anchorMeasDone_gives (ha : s.is Fld.TB_CTRL_AUTO_TRIM = false) :
    Gives (.anchorMeasDone m) s [(Fld.TB_ANCHOR_RES, ux 32 (m - s.geti Fld.TB_ANCHOR_TGT)), (Lat.TB_MEAS_DUE, 0)] := by
  refine Gives.of_sets ?_ (by simp) (by simpa using ux_lt 32 _)
  change execAnchorMeasDone m s = _
  simp [execAnchorMeasDone, State.now, State.seti, hm, ht, he, ha]

theorem anchorMeasDone_gives_trim (ha : s.is Fld.TB_CTRL_AUTO_TRIM = true) :
    Gives (.anchorMeasDone m) s [(Fld.TB_ANCHOR_RES, ux 32 (m - s.geti Fld.TB_ANCHOR_TGT)), (Lat.TB_MEAS_DUE, 0),
      (Fld.TB_FTRIM_TRIM, ux 9 (max (-200) (min 200 (-((m - s.geti Fld.TB_ANCHOR_TGT + 50) / 100)))))] := by
  refine Gives.of_sets ?_ (by simp) (by simpa using ⟨ux_lt 32 _, ux_lt 9 _⟩)
  change execAnchorMeasDone m s = _
  simp [execAnchorMeasDone, State.now, State.seti, clampInt_eq, hm, ht, he, ha]

end

end

/-- Settles O10: a stop and a release are a run of writes around which the parking, the ends and the starts of other units come; the park release
and the measurement after it change what they name. -/
theorem stopAndRelease : Obligations.StopAndRelease := by
  refine ⟨fun s => reanchorStop_does, fun s => exec_reanchorStop_keeps, fun d j s hm hl hc hs => ⟨?anchor, ?stopped, ?locked⟩,
    fun d j s => exec_anchorRelease_keeps d j, fun s => reanchorParkRelease_does, fun s => exec_reanchorParkRelease_keeps, fun m s hm ht he => ⟨?plain, ?trim⟩⟩
  case anchor => exact anchorRelease_does_anchor d j hm hl hc hs
  case stopped => exact anchorRelease_does_stopped d j hm hl hc hs
  case locked => exact exec_anchorRelease_locked d j hm
  case plain => exact anchorMeasDone_gives hm ht he
  case trim => exact anchorMeasDone_gives_trim hm ht he

end Sys2Proof.Machine
end

section
/-!
PROOFS. Stream slots: reset (O5), and binding, commits and the play pointer (O43).
-/
namespace Sys2Proof.Machine

/-! ### What cards depend on (R85, R89) -/

section
variable {s t : State}

theorem State.card_congr (h : t.mem = s.mem) (k : Nat) : t.card k = s.card k := by simp [State.card, State.cardDwords, State.segLe, h]

theorem State.general_congr (h : t.get Fld.MS_CFG_ARCH_LEAVES = s.get Fld.MS_CFG_ARCH_LEAVES) (l : Nat) : t.general l = s.general l := by
  rw [State.general, State.general, State.generalFirst, State.generalFirst, h]

theorem State.cardBad_congr (h : t.get Fld.MS_CFG_ARCH_LEAVES = s.get Fld.MS_CFG_ARCH_LEAVES) (c : CardRec) : t.cardBad c = s.cardBad c := by
  simp [State.cardBad, State.general_congr h]

theorem State.boundCard_congr (hm : t.mem = s.mem) (hg : t.get Fld.MS_CFG_ARCH_LEAVES = s.get Fld.MS_CFG_ARCH_LEAVES) {n : Nat}
    (hb : t.get (Fld.MS_STRM_CARD_BOUND n) = s.get (Fld.MS_STRM_CARD_BOUND n)) (hc : t.get (Fld.MS_STRM_CARD_CARD n) = s.get (Fld.MS_STRM_CARD_CARD n)) :
    t.boundCard n = s.boundCard n := by
  simp [State.boundCard, State.is, hb, hc, State.card_congr hm, State.cardBad_congr hg]

end

/-! ### Reset and binding (R107, R470) -/

/-- What a reset of slot `n` writes. -/
abbrev slotCleared (n : Nat) : List (Key × Nat) :=
  [(Fld.MS_STRM_FILL n, 0), (Fld.MS_STRM_PLAY n, 0), (Fld.MS_STRM_CNT_STALE n, 0), (Fld.MS_STRM_CNT_SKIP n, 0), (Lat.STRM_RET n, 0)]

section
variable {s : State} {n : Fin 1024}

theorem exec_streamReset_free (ho : s.hostOpen = true) (hf : s.slotFree n = true) : exec (.streamReset n) s = .next (s.sets (slotCleared n)) := by
  change execStreamReset n s = _
  rw [execStreamReset, State.onHost_open _ _ ho, if_pos hf]
  rfl

theorem exec_streamReset_onLoan (ho : s.hostOpen = true) (hf : s.slotFree n = false) : exec (.streamReset n) s = .next s := by
  change execStreamReset n s = _
  rw [execStreamReset, State.onHost_open _ _ ho, hf, if_neg Bool.false_ne_true]

theorem streamReset_gives (ho : s.hostOpen = true) (hf : s.slotFree n = true) : Gives (.streamReset n) s (slotCleared n) :=
  Gives.of_sets (exec_streamReset_free ho hf) (by simp) (by simp)

/-- A slot whose pointers are 0 and that retains nothing has no committed leaf. -/
theorem State.committed_of_cleared {t : State} {n : Nat} (hp : t.get (Fld.MS_STRM_PLAY n) = 0) (hf : t.get (Fld.MS_STRM_FILL n) = 0)
    (hr : t.get (Lat.STRM_RET n) = 0) : seqDiff (t.retained n) (t.get (Fld.MS_STRM_FILL n)) = 0 := by
  simp [State.retained, State.is, seqDiff, hp, hf, hr]

theorem streamReset_does (ho : s.hostOpen = true) (hf : s.slotFree n = true) : Does (.streamReset n) s [] (fun _ => false) (slotCleared n)
    (fun t => ∀ c, t.boundCard n = some c → seqDiff (t.retained n) (t.get (Fld.MS_STRM_FILL n)) = 0) := by
  refine Does.of_sets (exec_streamReset_free ho hf) (by simp) (by simp) (Frame.refl _ _ _) (by simp) (fun _ _ => ?_)
  exact State.committed_of_cleared (by simp [State.get_set]) (by simp [State.get_set]) (by simp)

theorem exec_streamBind_free (v : Nat) (ho : s.hostOpen = true) (hf : s.slotFree n = true) :
    exec (.streamBind n v) s = .next (s.sets ([(Fld.MS_STRM_CARD_BOUND n, bitsOf v 31 1), (Fld.MS_STRM_CARD_CARD n, bitsOf v 0 18)] ++ slotCleared n)) := by
  change execStreamBind n v s = _
  rw [execStreamBind, State.onHost_open _ _ ho, if_pos hf]
  rfl

theorem exec_streamBind_onLoan (v : Nat) (ho : s.hostOpen = true) (hf : s.slotFree n = false) :
    exec (.streamBind n v) s = .next (s.sets [(Fld.MS_EVT_BIND_REFUSED, 1)]) := by
  change execStreamBind n v s = _
  rw [execStreamBind, State.onHost_open _ _ ho, hf, if_neg Bool.false_ne_true]
  rfl

theorem streamBind_gives (v : Nat) (ho : s.hostOpen = true) (hf : s.slotFree n = true) :
    Gives (.streamBind n v) s (slotCleared n ++ [(Fld.MS_STRM_CARD_BOUND n, v / 2 ^ 31 % 2), (Fld.MS_STRM_CARD_CARD n, v % 2 ^ 18)]) := by
  have hw : Gives (.streamBind n v) s ([(Fld.MS_STRM_CARD_BOUND n, bitsOf v 31 1), (Fld.MS_STRM_CARD_CARD n, bitsOf v 0 18)] ++ slotCleared n) :=
    Gives.of_sets (exec_streamBind_free v ho hf) (by simp) (by simp [bitsOf]; omega)
  exact hw.prune (by simp [bitsOf]) (by simp [bitsOf])

/-! ### Commits (R102, R108, R109) -/

theorem exec_hostCommitWrite (pf : Fin 4) (v : Nat) (ho : s.hostOpen = true) :
    exec (.hostCommitWrite pf n v) s = .next { s.sets [(Fld.MS_STRM_COMMIT_SEQ n, v % 2 ^ 32)] with offers := s.offers ++ [((n : Nat), (pf : Nat), v % 2 ^ 32)] } := by
  change execHostCommitWrite pf n v s = _
  rw [execHostCommitWrite, State.onHost_open _ _ ho, State.sets_cons, State.sets_nil, State.set_mod s (Fld.MS_STRM_COMMIT_SEQ n) v]

theorem hostCommitWrite_does (pf : Fin 4) (v : Nat) (ho : s.hostOpen = true) :
    Does (.hostCommitWrite pf n v) s [.offers] (fun _ => false) [(Fld.MS_STRM_COMMIT_SEQ n, v % 2 ^ 32)]
      (fun t => t.offers = s.offers ++ [((n : Nat), (pf : Nat), v % 2 ^ 32)]) :=
  Does.of_sets (exec_hostCommitWrite pf v ho) (by simp) (by simp; omega) (Frame.on_offers rfl (Frame.refl _ _ _)) (by simp) rfl

end

/-- What the slot asks of a commit of sequence number `seq` from source `kind`, `id`. -/
def State.takes (s : State) (n kind id seq : Nat) : Prop :=
  ∃ k, s.boundCard n = some k ∧ seq % 2 ^ 32 = s.get (Fld.MS_STRM_FILL n) ∧ seqDiff (s.retained n) (s.get (Fld.MS_STRM_FILL n)) < k.2.listLen ∧
    s.get (Fld.MS_STRM_CFG_SRC_KIND n) = kind ∧ s.get (Fld.MS_STRM_CFG_SRC n) = id

/-- What a refused commit writes (R102). -/
abbrev State.staleCommit (s : State) (n : Nat) : List (Key × Nat) :=
  [(Fld.MS_STRM_CNT_STALE n, min (s.get (Fld.MS_STRM_CNT_STALE n) + 1) (2 ^ (Fld.MS_STRM_CNT_STALE n).w - 1)), (Fld.MS_EVT_STALE_COMMIT, 1)]

section
variable {s : State} {n kind id seq : Nat}

theorem State.commitSlot_taken (h : s.takes n kind id seq) :
    s.commitSlot n kind id seq = (true, s.set (Fld.MS_STRM_FILL n) (s.get (Fld.MS_STRM_FILL n) + 1)) := by
  obtain ⟨k, hb, hs, hl, hk, hi⟩ := h
  rw [State.commitSlot, hb]
  simp only [hs, hl, hk, hi, beq_self_eq_true, decide_true, Bool.and_self, if_true]

theorem State.commitSlot_refused (h : ¬ s.takes n kind id seq) : s.commitSlot n kind id seq = (false, s.sets (s.staleCommit n)) := by
  unfold State.commitSlot
  cases hb : s.boundCard n with
  | none => rfl
  | some k =>
    have hn : ¬ (((seq % 2 ^ 32 = s.get (Fld.MS_STRM_FILL n) ∧ seqDiff (s.retained n) (s.get (Fld.MS_STRM_FILL n)) < k.2.listLen) ∧
        s.get (Fld.MS_STRM_CFG_SRC_KIND n) = kind) ∧ s.get (Fld.MS_STRM_CFG_SRC n) = id) :=
      fun ⟨⟨⟨h1, h2⟩, h3⟩, h4⟩ => h ⟨k, hb, h1, h2, h3, h4⟩
    simp only [Bool.and_eq_true, decide_eq_true_eq, beq_iff_eq]
    rw [if_neg hn]
    rfl

theorem State.listLen_lt {k : Nat × CardRec} (h : s.boundCard n = some k) : k.2.listLen < 2 ^ 15 := by
  obtain ⟨-, rfl⟩ : _ ∧ (s.get (Fld.MS_STRM_CARD_CARD n), s.card (s.get (Fld.MS_STRM_CARD_CARD n))) = k := by
    simpa [State.boundCard] using h
  exact Nat.mod_lt _ (by norm_num)

/-- Below the ring's length the distance grows by one with FP. -/
theorem seqDiff_succ {a b : Nat} (h : seqDiff a b < 2 ^ 15) : seqDiff a ((b + 1) % 2 ^ 32) = seqDiff a b + 1 := by
  unfold seqDiff at h ⊢
  omega

end

section
variable {s : State} {n : Fin 1024} {o : Nat × Nat × Nat}

/-- The state without the first offer to slot `n`. -/
abbrev State.offerTaken (s : State) (n : Nat) : State := { s with offers := removeFirst (fun o => o.1 == n) s.offers }

theorem exec_streamCommit_offer (h : s.offers.find? (fun o => o.1 == (n : Nat)) = some o) :
    exec (.streamCommit n) s = .next ((s.offerTaken n).commitSlot n 3 o.2.1 o.2.2).2 := by
  change execStreamCommit n s = _
  rw [execStreamCommit, h]

theorem exec_streamCommit_none (h : s.offers.all (fun o => o.1 != (n : Nat)) = true) : exec (.streamCommit n) s = .next s := by
  have hf : s.offers.find? (fun o => o.1 == (n : Nat)) = none := by
    simpa [List.find?_eq_none] using h
  change execStreamCommit n s = _
  rw [execStreamCommit, hf]

theorem State.offerTaken_takes (kind id seq : Nat) : (s.offerTaken n).takes n kind id seq ↔ s.takes n kind id seq := Iff.rfl

theorem streamCommit_does_refuse (h : s.offers.find? (fun o => o.1 == (n : Nat)) = some o) (ht : ¬ s.takes n 3 o.2.1 o.2.2) :
    Does (.streamCommit n) s [.offers] (fun _ => false) (s.staleCommit n) (fun t => t.offers = removeFirst (fun o => o.1 == (n : Nat)) s.offers) := by
  have he := exec_streamCommit_offer h
  rw [State.commitSlot_refused (mt (State.offerTaken_takes _ _ _).mp ht)] at he
  exact Does.of_sets he (by simp) (by simp) ((Frame.on_offers rfl (Frame.refl s _ _)).sets_both _) (by simp) rfl

/-- What is bound to a slot and what it retains do not depend on FP. -/
theorem State.set_fill_boundCard (s : State) (n v : Nat) : (s.set (Fld.MS_STRM_FILL n) v).boundCard n = s.boundCard n := by
  refine State.boundCard_congr (by rfl) ?_ ?_ ?_ <;> exact State.get_set_ne s _ (by simp)

theorem State.set_fill_retained (s : State) (n v : Nat) : (s.set (Fld.MS_STRM_FILL n) v).retained n = s.retained n := by
  have hp : (s.set (Fld.MS_STRM_FILL n) v).get (Fld.MS_STRM_PLAY n) = s.get (Fld.MS_STRM_PLAY n) := State.get_set_ne s v (by simp)
  have hr : (s.set (Fld.MS_STRM_FILL n) v).is (Lat.STRM_RET n) = s.is (Lat.STRM_RET n) := by simp
  rw [State.retained, State.retained, hp, hr]

theorem exec_streamCommit_take (h : s.offers.find? (fun o => o.1 == (n : Nat)) = some o) (ht : s.takes n 3 o.2.1 o.2.2) :
    exec (.streamCommit n) s = .next ((s.offerTaken n).sets [(Fld.MS_STRM_FILL n, (s.get (Fld.MS_STRM_FILL n) + 1) % 2 ^ 32)]) := by
  have hfill : (s.offerTaken n).get (Fld.MS_STRM_FILL n) = s.get (Fld.MS_STRM_FILL n) := State.get_of_fields rfl _
  rw [exec_streamCommit_offer h, State.commitSlot_taken ((State.offerTaken_takes _ _ _).mpr ht), hfill]
  exact congrArg Host.Outcome.next (State.set_mod (s.offerTaken n) (Fld.MS_STRM_FILL n) _).symm

theorem streamCommit_does_take {k : Nat × CardRec} (h : s.offers.find? (fun o => o.1 == (n : Nat)) = some o) (hb : s.boundCard n = some k)
    (ht : s.takes n 3 o.2.1 o.2.2) (hl : seqDiff (s.retained n) (s.get (Fld.MS_STRM_FILL n)) < k.2.listLen) :
    Does (.streamCommit n) s [.offers] (fun _ => false) [(Fld.MS_STRM_FILL n, (s.get (Fld.MS_STRM_FILL n) + 1) % 2 ^ 32)]
      (fun t => t.offers = removeFirst (fun o => o.1 == (n : Nat)) s.offers ∧ (t.boundCard n).isSome = true ∧
        seqDiff (t.retained n) (t.get (Fld.MS_STRM_FILL n)) = seqDiff (s.retained n) (s.get (Fld.MS_STRM_FILL n)) + 1) := by
  refine Does.of_sets (exec_streamCommit_take h ht) (by simp) (by simp; omega) ((Frame.on_offers rfl (Frame.refl s _ _)).sets_both _) (by simp) ⟨rfl, ?_, ?_⟩
  · rw [State.sets_cons, State.sets_nil, State.set_fill_boundCard]
    exact congrArg Option.isSome hb
  · rw [State.sets_cons, State.sets_nil, State.set_fill_retained, State.get_set_self, Nat.mod_mod]
    exact seqDiff_succ (lt_trans hl (State.listLen_lt hb))

end

/-! ### The play pointer (R101, R104) -/

section
variable {s : State} {n : Fin 1024}

/-- The reel that holds the loan on the card of slot `n`. -/
def State.slotReel (s : State) (n : Nat) : Option Nat :=
  match s.boundCard n with
  | some (k, _) => (s.loans.find? (fun l => l.card == k)).map (fun l => l.reel)
  | none => none

/-- A completed leaf stays retained for a reel that repeats (R101). -/
def State.slotKeeps (s : State) (n : Nat) : Bool :=
  match s.slotReel n with
  | some r => s.get (Fld.REEL_LATE_POL r) == 2
  | none => false

theorem State.playAdvance_ahead {s : State} {n : Nat} (h : s.get (Fld.MS_STRM_FILL n) ≠ s.get (Fld.MS_STRM_PLAY n)) :
    s.playAdvance n = s.sets [(Fld.MS_STRM_PLAY n, s.get (Fld.MS_STRM_PLAY n) + 1), (Lat.STRM_RET n, (s.slotKeeps n).toNat)] := by
  unfold State.playAdvance
  rw [if_neg h]
  rfl

theorem State.playAdvance_skip {s : State} {n : Nat} (h : s.get (Fld.MS_STRM_FILL n) = s.get (Fld.MS_STRM_PLAY n)) :
    s.playAdvance n = s.sets [(Fld.MS_STRM_PLAY n, s.get (Fld.MS_STRM_PLAY n) + 1), (Fld.MS_STRM_FILL n, s.get (Fld.MS_STRM_PLAY n) + 1),
      (Fld.MS_STRM_CNT_SKIP n, min (s.get (Fld.MS_STRM_CNT_SKIP n) + 1) (2 ^ (Fld.MS_STRM_CNT_SKIP n).w - 1)), (Lat.STRM_RET n, 0)] := by
  unfold State.playAdvance
  rw [if_pos h]
  simp [State.bump, State.bumpWrap, State.get_set]

/-- The tick at which the next leaf of slot `n` will be complete, as an advance fixes it. -/
def State.slotNext (s : State) (n : Nat) : Nat :=
  match s.boundCard n with
  | none => 0
  | some (k, c) =>
    match s.loans.find? (fun l => l.card == k) with
    | some l => s.leafTick l.reel c (s.get (Lat.STRM_LEAF n) + 2)
    | none => 0

theorem exec_playPointerAdvance (h0 : s.get (Lat.STRM_NEXT n) ≠ 0) (ht : s.get (Lat.STRM_NEXT n) ≤ s.tick) :
    exec (.playPointerAdvance n) s = .next (((s.playAdvance n).bumpWrap (Lat.STRM_LEAF n)).set (Lat.STRM_NEXT n) (s.slotNext n)) := by
  change execPlayPointerAdvance n s = _
  rw [execPlayPointerAdvance, if_neg (by simp [State.now]; omega)]
  unfold State.slotNext
  cases hb : s.boundCard n with
  | none => rfl
  | some k =>
    dsimp only
    cases s.loans.find? (fun l => l.card == k.1) <;> rfl

theorem exec_playPointerAdvance_early (h : s.get (Lat.STRM_NEXT n) = 0 ∨ s.tick < s.get (Lat.STRM_NEXT n)) : exec (.playPointerAdvance n) s = .next s := by
  change execPlayPointerAdvance n s = _
  exact congrArg Host.Outcome.next (if_pos h)

/-- The writes of an advance that stays behind FP. -/
theorem playPointerAdvance_gives_ahead (h0 : s.get (Lat.STRM_NEXT n) ≠ 0) (ht : s.get (Lat.STRM_NEXT n) ≤ s.tick)
    (h : s.get (Fld.MS_STRM_FILL n) ≠ s.get (Fld.MS_STRM_PLAY n)) :
    Gives (.playPointerAdvance n) s [(Fld.MS_STRM_PLAY n, (s.get (Fld.MS_STRM_PLAY n) + 1) % 2 ^ 32), (Lat.STRM_RET n, (s.slotKeeps n).toNat),
      (Lat.STRM_LEAF n, (s.get (Lat.STRM_LEAF n) + 1) % 2 ^ 32), (Lat.STRM_NEXT n, s.slotNext n % 2 ^ 64)] := by
  refine Does.of_writes (w := [(Fld.MS_STRM_PLAY n, s.get (Fld.MS_STRM_PLAY n) + 1), (Lat.STRM_RET n, (s.slotKeeps n).toNat),
    (Lat.STRM_LEAF n, s.get (Lat.STRM_LEAF n) + 1), (Lat.STRM_NEXT n, s.slotNext n)]) ?_ (by simp [named]) ?_ trivial
  · rw [exec_playPointerAdvance h0 ht, State.playAdvance_ahead h]
    simp [State.bumpWrap, State.get_set]
  · have hk := Nat.mod_eq_of_lt (s.slotKeeps n).toNat_lt
    simp [State.get_set, hk]

/-- The writes of an advance that FP goes with. -/
theorem playPointerAdvance_gives_skip (h0 : s.get (Lat.STRM_NEXT n) ≠ 0) (ht : s.get (Lat.STRM_NEXT n) ≤ s.tick)
    (h : s.get (Fld.MS_STRM_FILL n) = s.get (Fld.MS_STRM_PLAY n)) :
    Gives (.playPointerAdvance n) s [(Fld.MS_STRM_PLAY n, (s.get (Fld.MS_STRM_PLAY n) + 1) % 2 ^ 32),
      (Fld.MS_STRM_FILL n, (s.get (Fld.MS_STRM_PLAY n) + 1) % 2 ^ 32),
      (Fld.MS_STRM_CNT_SKIP n, min (s.get (Fld.MS_STRM_CNT_SKIP n) + 1) (2 ^ (Fld.MS_STRM_CNT_SKIP n).w - 1)), (Lat.STRM_RET n, 0),
      (Lat.STRM_LEAF n, (s.get (Lat.STRM_LEAF n) + 1) % 2 ^ 32), (Lat.STRM_NEXT n, s.slotNext n % 2 ^ 64)] := by
  refine Does.of_writes (w := [(Fld.MS_STRM_PLAY n, s.get (Fld.MS_STRM_PLAY n) + 1), (Fld.MS_STRM_FILL n, s.get (Fld.MS_STRM_PLAY n) + 1),
    (Fld.MS_STRM_CNT_SKIP n, min (s.get (Fld.MS_STRM_CNT_SKIP n) + 1) (2 ^ (Fld.MS_STRM_CNT_SKIP n).w - 1)), (Lat.STRM_RET n, 0),
    (Lat.STRM_LEAF n, s.get (Lat.STRM_LEAF n) + 1), (Lat.STRM_NEXT n, s.slotNext n)]) ?_ (by simp [named]) ?_ trivial
  · rw [exec_playPointerAdvance h0 ht, State.playAdvance_skip h]
    simp [State.bumpWrap, State.get_set]
  · simp [State.get_set]

/-- How the next completion is fixed, with the slot's card on loan to a reel. -/
theorem State.slotNext_loan {n : Nat} {k : Nat × CardRec} {l : Loan} (hb : s.boundCard n = some k) (hl : s.loans.find? (fun l => l.card == k.1) = some l) :
    s.slotNext n = s.leafTick l.reel k.2 (s.get (Lat.STRM_LEAF n) + 2) ∧ s.slotKeeps n = (s.get (Fld.REEL_LATE_POL l.reel) == 2) := by
  obtain ⟨k, c⟩ := k
  simp [State.slotNext, State.slotKeeps, State.slotReel, hb, hl]

theorem State.slotNext_unbound {n : Nat} (hb : s.boundCard n = none) : s.slotNext n = 0 ∧ s.slotKeeps n = false := by
  simp [State.slotNext, State.slotKeeps, State.slotReel, hb]

end

/-! ### The clauses -/

/-- Settles O5: a reset is a run of writes after which nothing of the slot is committed. -/
theorem streamReset : Obligations.StreamReset := fun _ _ ho => ⟨streamReset_does ho, exec_streamReset_onLoan ho⟩

section
variable {s : State} {n : Fin 1024}

theorem streamCommit_clauses {o : Nat × Nat × Nat} (h : s.offers.find? (fun o => o.1 == (n : Nat)) = some o) :
    let fp := s.get (Fld.MS_STRM_FILL n)
    let own := s.get (Fld.MS_STRM_CFG_SRC_KIND n) = 3 ∧ s.get (Fld.MS_STRM_CFG_SRC n) = o.2.1
    let taken := fun (t : State) => t.offers = removeFirst (fun o => o.1 == (n : Nat)) s.offers
    (s.boundCard n = none → Does (.streamCommit n) s [.offers] (fun _ => false) (s.staleCommit n) taken) ∧
    (∀ k, s.boundCard n = some k →
      (own → o.2.2 % 2 ^ 32 = fp → seqDiff (s.retained n) fp < k.2.listLen → Does (.streamCommit n) s [.offers] (fun _ => false) [(Fld.MS_STRM_FILL n, (fp + 1) % 2 ^ 32)]
        (fun t => taken t ∧ (t.boundCard n).isSome = true ∧ seqDiff (t.retained n) (t.get (Fld.MS_STRM_FILL n)) = seqDiff (s.retained n) fp + 1)) ∧
      (¬own ∨ o.2.2 % 2 ^ 32 ≠ fp ∨ k.2.listLen ≤ seqDiff (s.retained n) fp → Does (.streamCommit n) s [.offers] (fun _ => false) (s.staleCommit n) taken)) := by
  refine ⟨fun hb => streamCommit_does_refuse h ?_, fun k hb => ⟨fun ho hs hl => streamCommit_does_take h hb ⟨k, hb, hs, hl, ho⟩ hl,
    fun hr => streamCommit_does_refuse h ?_⟩⟩
  · rintro ⟨k, hk, -⟩
    rw [hb] at hk
    cases hk
  · rintro ⟨k', hk, hs, hl, ho⟩
    obtain rfl := Option.some.inj (hb.symm.trans hk)
    rcases hr with h | h | h
    · exact h ho
    · exact h hs
    · omega

theorem commitSlot_clauses (s : State) (n kind id seq : Nat) : let r := s.commitSlot n kind id seq
    (r.1 = true → r.2.get (Fld.MS_STRM_FILL n) = (seq + 1) % 2 ^ 32 ∧ ∀ k, s.boundCard n = some k → seq % 2 ^ 32 = s.get (Fld.MS_STRM_FILL n) ∧ seqDiff (s.retained n) (seq % 2 ^ 32) < k.2.listLen) ∧
    (r.1 = false → r.2.get (Fld.MS_STRM_FILL n) = s.get (Fld.MS_STRM_FILL n) ∧ r.2.get (Fld.MS_STRM_CNT_STALE n) = min (s.get (Fld.MS_STRM_CNT_STALE n) + 1) 0xFFFF ∧ r.2.is Fld.MS_EVT_STALE_COMMIT = true) := by
  by_cases h : s.takes n kind id seq
  · rw [State.commitSlot_taken h]
    obtain ⟨k, hb, hs, hl, -⟩ := h
    refine ⟨fun _ => ⟨?_, fun k' hk => ?_⟩, fun h => absurd h (by simp)⟩
    · rw [State.get_set_self, ← hs]
      exact (Nat.add_mod seq 1 (2 ^ 32)).symm
    · obtain rfl := Option.some.inj (hb.symm.trans hk)
      exact ⟨hs, hs ▸ hl⟩
  · rw [State.commitSlot_refused h]
    refine ⟨fun h => absurd h (by simp), fun _ => ?_⟩
    simp [State.get_set]

theorem hostCommands_clauses (pf : Fin 4) (v : Nat) (ho : s.hostOpen = true) :
    Does (.hostCommitWrite pf n v) s [.offers] (fun _ => false) [(Fld.MS_STRM_COMMIT_SEQ n, v % 2 ^ 32)] (fun t => t.offers = s.offers ++ [((n : Nat), (pf : Nat), v % 2 ^ 32)]) ∧
    (s.slotFree n = true → Gives (.streamBind n v) s (slotCleared n ++ [(Fld.MS_STRM_CARD_BOUND n, v / 2 ^ 31 % 2), (Fld.MS_STRM_CARD_CARD n, v % 2 ^ 18)]) ∧ Gives (.streamReset n) s (slotCleared n)) ∧
    (s.slotFree n = false → Gives (.streamBind n v) s [(Fld.MS_EVT_BIND_REFUSED, 1)] ∧ Keeps (.streamReset n) s) :=
  ⟨hostCommitWrite_does pf v ho, fun hf => ⟨streamBind_gives v ho hf, streamReset_gives ho hf⟩,
    fun hf => ⟨Gives.of_sets (exec_streamBind_onLoan v ho hf) (by simp) (by simp), exec_streamReset_onLoan ho hf⟩⟩

theorem playPointerAdvance_clauses (h0 : s.get (Lat.STRM_NEXT n) ≠ 0) (ht : s.get (Lat.STRM_NEXT n) ≤ s.tick) :
    let pp := s.get (Fld.MS_STRM_PLAY n); let fp := s.get (Fld.MS_STRM_FILL n)
    let passed : List (Key × Nat) := [(Fld.MS_STRM_PLAY n, (pp + 1) % 2 ^ 32), (Lat.STRM_LEAF n, (s.get (Lat.STRM_LEAF n) + 1) % 2 ^ (Lat.STRM_LEAF n).w)]
    (s.boundCard n = none → fp = pp → Gives (.playPointerAdvance n) s (passed ++ [(Fld.MS_STRM_FILL n, (pp + 1) % 2 ^ 32), (Fld.MS_STRM_CNT_SKIP n, min (s.get (Fld.MS_STRM_CNT_SKIP n) + 1) (2 ^ (Fld.MS_STRM_CNT_SKIP n).w - 1)), (Lat.STRM_RET n, 0), (Lat.STRM_NEXT n, 0)])) ∧
    (s.boundCard n = none → fp ≠ pp → Gives (.playPointerAdvance n) s (passed ++ [(Lat.STRM_RET n, 0), (Lat.STRM_NEXT n, 0)])) ∧
    (∀ k, s.boundCard n = some k → ∀ l, s.loans.find? (fun l => l.card == k.1) = some l →
      (fp ≠ pp → Does (.playPointerAdvance n) s [] (fun _ => false) (passed ++ [(Lat.STRM_RET n, if s.get (Fld.REEL_LATE_POL l.reel) = 2 then 1 else 0), (Lat.STRM_NEXT n, s.leafTick l.reel k.2 (s.get (Lat.STRM_LEAF n) + 2) % 2 ^ 64)]) (fun _ => True)) ∧
      (fp = pp → Does (.playPointerAdvance n) s [] (fun x => x == Lat.STRM_NEXT n) (passed ++ [(Fld.MS_STRM_FILL n, (pp + 1) % 2 ^ 32), (Lat.STRM_RET n, 0), (Fld.MS_STRM_CNT_SKIP n, min (s.get (Fld.MS_STRM_CNT_SKIP n) + 1) (2 ^ (Fld.MS_STRM_CNT_SKIP n).w - 1))]) (fun _ => True))) := by
  refine ⟨fun hb hp => ?_, fun hb hp => ?_, fun k hb l hl => ⟨fun hp => ?_, fun hp => ?_⟩⟩
  · have h := playPointerAdvance_gives_skip h0 ht hp
    rw [(State.slotNext_unbound hb).1] at h
    exact h.prune (by simp) (by simp)
  · have h := playPointerAdvance_gives_ahead h0 ht hp
    rw [(State.slotNext_unbound hb).1, (State.slotNext_unbound hb).2] at h
    exact h.prune (by simp) (by simp)
  · have h := playPointerAdvance_gives_ahead h0 ht hp
    rw [(State.slotNext_loan hb hl).1, (State.slotNext_loan hb hl).2] at h
    refine h.prune ?_ ?_ <;> simp [Bool.toNat]
  · obtain ⟨t, he, hv, hf, -⟩ := playPointerAdvance_gives_skip h0 ht hp
    refine ⟨t, he, fun q hq => hv q ?_, hf.mono (fun _ h => h) fun x hx => ?_, trivial⟩
    · revert q
      simp
    · revert hx
      simp [named]
      tauto

end

/-- Settles O43: a commit is taken or refused by what the slot asks of it, and each other command is a run of writes. -/
theorem streamSlots : Obligations.StreamSlots :=
  ⟨fun _ _ _ h => streamCommit_clauses h, fun n kind id seq s => commitSlot_clauses s n kind id seq, fun _ _ h => exec_streamCommit_none h,
    fun pf _ v _ ho => hostCommands_clauses pf v ho, fun _ _ => ⟨exec_playPointerAdvance_early, playPointerAdvance_clauses⟩⟩

end Sys2Proof.Machine
end

section
/-!
PROOFS. Stores of a host into segment memory (O42) and into a scratchpad (O45). Bytes that a write stores read back from memory in its
canonical form; both statements want it of every state.
-/
namespace Sys2Proof.Machine

/-! ### Bytes that read back -/

theorem Memory.reads_eq_map (m : List Host.Cell) (x n : Nat) : Memory.reads m x n = (List.range n).map (fun i => Memory.read m (x + i)) := by
  induction n generalizing x with
  | zero => rfl
  | succ n ih =>
    rw [Memory.reads, ih, List.range_succ_eq_map, List.map_cons, List.map_map]
    simp only [Function.comp_def, Nat.add_zero, Nat.succ_eq_add_one, Nat.add_assoc, Nat.add_comm 1]

/-- Bytes written to memory in its canonical form read back. -/
theorem Memory.reads_writes {m : List Host.Cell} (h : Memory.wf m = true) (x : Nat) (l : List (BitVec 8)) :
    Memory.reads (Memory.writes m x l) x l.length = l := by
  rw [Memory.reads_eq_map]
  refine List.ext_getElem (by simp) fun i h1 h2 => ?_
  rw [List.getElem_map, List.getElem_range, Memory.read_writes _ _ _ _ h, if_pos (by omega), Nat.add_sub_cancel_left, List.getD_eq_getElem _ _ h2]

/-- Every other byte reads as before. -/
theorem Memory.read_writes_outside {m : List Host.Cell} (h : Memory.wf m = true) {x a : Nat} {l : List (BitVec 8)} (ha : a < x ∨ x + l.length ≤ a) :
    Memory.read (Memory.writes m x l) a = Memory.read m a := by
  rw [Memory.read_writes _ _ _ _ h, if_neg (by omega)]

/-! ### A beat through BAR2 (R82, R97) -/

section
variable {s : State} {addr : Nat} {data : List (BitVec 8)}

theorem State.storeBeat_clean (hb : s.badBursts = []) (addr : Nat) (data : List (BitVec 8)) : s.storeBeat addr data = s.segStore addr data := by
  obtain ⟨⟩ := s
  obtain rfl : _ = [] := hb
  rfl

/-- One beat to a leaf that takes writes stores its bytes. -/
theorem State.writeSeg_beat (kind id : Nat) (hb : s.badBursts = []) (hl : addr % 64 + data.length ≤ 64) (hd : s.dropCause (addr / 65536) = none) :
    s.writeSeg kind id addr data = (0, s.segStore addr data) := by
  have hbeats : ∀ fuel acc, s.writeBeats kind id (fuel + 2) addr data acc = (s.segStore addr data, acc) := fun fuel acc => by
    cases data with
    | nil => rfl
    | cons v l =>
      have htake : (v :: l).take (64 - addr % 64) = v :: l := List.take_of_length_le (by omega)
      have hdrop : (v :: l).drop (64 - addr % 64) = [] := List.drop_of_length_le (by omega)
      rw [State.writeBeats, if_neg (by simp)]
      simp only [hd, htake, hdrop, State.storeBeat_clean hb]
      rfl
  rw [State.writeSeg, hbeats]

theorem exec_bar2Write_beat (pf : Fin 4) (ho : s.hostOpen = true) (hs : s.is Lat.STK_SR = false) (hb : s.badBursts = [])
    (hl : addr % 64 + data.length ≤ 64) (ha : addr < 2 ^ 36) (hd : s.dropCause (addr / 65536) = none) :
    exec (.bar2Write pf addr data []) s = .next (s.segStore addr data) := by
  have htake : data.take (2 ^ 36 - addr) = data := List.take_of_length_le (by omega)
  change execBar2Write pf addr data [] s = _
  rw [execBar2Write, State.onHost_open _ _ ho, htake]
  simp only [State.spoil, State.each_nil, hs, State.when_false]
  rw [State.writeSeg_beat 0 pf hb hl hd]

/-- A write of one beat, on memory in its canonical form. -/
theorem bar2Write_does_store (hm : Memory.wf s.mem = true) (pf : Fin 4) (ho : s.hostOpen = true) (hs : s.is Lat.STK_SR = false) (hb : s.badBursts = [])
    (hl : addr % 64 + data.length ≤ 64) (ha : addr < 2 ^ 36) (hd : s.dropCause (addr / 65536) = none) :
    Does (.bar2Write pf addr data []) s [.mem] (fun _ => false) []
      (fun t => Memory.reads t.mem addr data.length = data ∧ ∀ a, a < addr ∨ addr + data.length ≤ a → Memory.read t.mem a = Memory.read s.mem a) :=
  Does.of_sets (exec_bar2Write_beat pf ho hs hb hl ha hd) List.nodup_nil (by simp) (Frame.on_mem rfl (Frame.refl _ _ _)) (by simp)
    ⟨Memory.reads_writes hm addr data, fun _ => Memory.read_writes_outside hm⟩

/-! ### A scratchpad bank through BAR4 (R115, R116) -/

/-- Bytes written within one bank that is neither offline nor the bank of the reel records are stored. -/
theorem State.spWrite_bank (h25 : addr < 2 ^ 25) (hl : addr % 0x20000 + data.length ≤ 0x20000) (hr : addr % 0x400000 / 0x20000 ≠ 1)
    (ho : s.offline addr = false) : s.spWrite addr data = s.spStore addr data := by
  induction data generalizing s addr with
  | nil => rfl
  | cons v l ih =>
    rw [List.length_cons] at hl
    have hrec : recordAt addr = none := by
      simp only [recordAt]
      rw [if_neg (by omega)]
    rw [State.spWrite, if_neg (by omega), ho, if_neg Bool.false_ne_true, State.spPut, hrec]
    cases l with
    | nil => rfl
    | cons w l =>
      rw [List.length_cons] at hl
      have htile : (addr + 1) / 0x400000 = addr / 0x400000 := by omega
      have hbank : (addr + 1) % 0x400000 / 0x20000 = addr % 0x400000 / 0x20000 := by omega
      have hoff : (s.spStore addr [v]).offline (addr + 1) = false := by
        rw [← ho, State.offline, State.offline, htile, hbank, State.get_spStore]
      exact ih (by omega) (by rw [List.length_cons]; omega) (by rw [hbank]; exact hr) hoff

theorem exec_scratchpadWrite (pf : Fin 4) (ho : s.hostOpen = true) (h25 : addr < 2 ^ 25) (hl : addr % 0x20000 + data.length ≤ 0x20000)
    (hr : addr % 0x400000 / 0x20000 ≠ 1) (hf : s.offline addr = false) : exec (.scratchpadWrite pf addr data 0) s = .next (s.spStore addr data) := by
  change execScratchpadWrite pf addr data 0 s = _
  simp only [execScratchpadWrite]
  rw [State.onHost_open _ _ ho, if_neg (by omega), State.spWrite_bank h25 hl hr hf]

/-- A write within one bank, on scratchpads in their canonical form. -/
theorem scratchpadWrite_does_store (hm : Memory.wf s.sp = true) (pf : Fin 4) (ho : s.hostOpen = true) (h25 : addr < 2 ^ 25)
    (hl : addr % 0x20000 + data.length ≤ 0x20000) (hr : addr % 0x400000 / 0x20000 ≠ 1) (hf : s.offline addr = false) :
    Does (.scratchpadWrite pf addr data 0) s [.sp] (fun _ => false) []
      (fun t => Memory.reads t.sp addr data.length = data ∧ ∀ a, a < addr ∨ addr + data.length ≤ a → Memory.read t.sp a = Memory.read s.sp a) :=
  Does.of_sets (exec_scratchpadWrite pf ho h25 hl hr hf) List.nodup_nil (by simp) (Frame.on_sp rfl (Frame.refl _ _ _)) (by simp)
    ⟨Memory.reads_writes hm addr data, fun _ => Memory.read_writes_outside hm⟩

end

/-! ### The counterexamples -/

/-- Segment memory that lists the byte after 0x80000000 before it: a write of a 0 there finds no entry at its place and leaves the one that
stands later. -/
def unsortedSegments : State := { State.reset with mem := [(0x80000001, 1), (0x80000000, 1)] }

/-- Refutes O42: its clause of a host write has no premise that segment memory is in its canonical form, and on `unsortedSegments` a byte written
as 0 still reads 1. On memory in the form that reset has and O3 speaks of, the clause holds (`bar2Write_does_store`). -/
theorem not_segmentWindowAndCards : ¬ Obligations.SegmentWindowAndCards := by
  intro h
  obtain ⟨hwrite, -⟩ := h
  obtain ⟨hstore, -⟩ := hwrite 0 0x80000000 [0] unsortedSegments (by decide) (by decide) rfl (by decide) (by decide)
  have hd : unsortedSegments.dropCause (0x80000000 / 65536) = none := by decide
  obtain ⟨t, he, -, -, hread, -⟩ := hstore hd
  obtain rfl : unsortedSegments.segStore 0x80000000 [0] = t :=
    Host.Outcome.next.inj ((exec_bar2Write_beat 0 (by decide) (by decide) rfl (by decide) (by decide) hd).symm.trans he)
  exact absurd hread (by decide)

/-- Scratchpads that list the byte after 0x40000 before it. -/
def unsortedScratchpads : State := { State.reset with sp := [(0x40001, 1), (0x40000, 1)] }

/-- Refutes O45: its clause of a scratchpad write has no premise that the scratchpads are in their canonical form, and on `unsortedScratchpads` a
byte written as 0 still reads 1. On memory in the form that reset has and O3 speaks of, a write within one bank stores its bytes
(`scratchpadWrite_does_store`). -/
theorem not_stacksAndScratchpads : ¬ Obligations.StacksAndScratchpads := by
  intro h
  obtain ⟨-, -, hwrite, -⟩ := h
  obtain ⟨-, hstores⟩ := hwrite 0 0x40000 [0] unsortedScratchpads (by decide)
  obtain ⟨hstore, -⟩ := hstores (by decide) (by decide) (by decide)
  obtain ⟨t, he, -, -, hread, -⟩ := hstore (by decide)
  obtain rfl : unsortedScratchpads.spStore 0x40000 [0] = t :=
    Host.Outcome.next.inj ((exec_scratchpadWrite 0 (by decide) (by decide) (by decide) (by decide) (by decide)).symm.trans he)
  exact absurd hread (by decide)

end Sys2Proof.Machine
end

section
/-!
PROOFS. The engine context of a reel, its window, and the loans of its window (O44).
-/
namespace Sys2Proof.Machine

/-! ### Engine contexts -/

section
variable {s t : State} {r n : Nat}

@[simp] theorem State.eng_reel (s : State) (r : Nat) : (s.eng r).reel = r := by
  unfold State.eng
  cases h : s.engines.find? (fun e => e.reel == r) with
  | none => rfl
  | some e => simpa using List.find?_some h

/-- A change of a context that keeps its number. -/
theorem State.eng_onEng_self {f : Engine → Engine} (h : (f (s.eng r)).reel = r) : (s.onEng r f).eng r = f (s.eng r) := by
  rw [State.eng, State.onEng, List.find?_cons_of_pos (by simp), Option.getD_some]
  generalize f (s.eng r) = e at h ⊢
  cases e
  simp_all

theorem State.eng_onEng_ne {f : Engine → Engine} (h : n ≠ r) : (s.onEng r f).eng n = s.eng n := by
  rw [State.eng, State.eng, State.onEng, List.find?_cons_of_neg (by simpa using h.symm), List.find?_filter]
  congr 2
  funext e
  by_cases he : e.reel = n <;> simp [he, h]

theorem State.eng_of_engines (h : t.engines = s.engines) (n : Nat) : t.eng n = s.eng n := by rw [State.eng, State.eng, h]

theorem Frame.eng {ps : List Part} {p : Key → Bool} (h : Frame s t ps p) (hp : Part.engines ∉ ps) (n : Nat) : t.eng n = s.eng n :=
  State.eng_of_engines (h.1 .engines hp) n

theorem Frame.loans_eq {ps : List Part} {p : Key → Bool} (h : Frame s t ps p) (hp : Part.loans ∉ ps) : t.loans = s.loans := h.1 .loans hp

theorem State.onEng_frame (s : State) (r : Nat) (f : Engine → Engine) : Frame s (s.onEng r f) [.engines] (fun _ => false) :=
  Frame.on_engines rfl (Frame.refl _ _ _)

end

/-! ### Loans and heads of a window (R93 to R96, R161, R183) -/

section
variable {s t : State} {r k : Nat}

/-- The fields that the window of reel `r` reports in: PRIMED, the head slots of its tile, and what its cues and loans raise. -/
abbrev headKeys (r : Nat) : List Key :=
  [Fld.TL_HEAD_STATUS_USED (tileOfReel r), Fld.TL_HEAD_STATUS_MAX_USED (tileOfReel r), Fld.TL_HEAD_MISS_MISS (tileOfReel r), Fld.TL_CUT_EVT_HEAD_MISS (tileOfReel r)]

abbrev windowOf (r : Nat) (x : Key) : Bool :=
  x == Fld.REEL_PRIMED r || (headKeys r).contains x || ledgerOf 16 x || archiveLoss x || x == Fld.MS_EVT_LOAN_OVF || x.r == .L_STRM_RET

abbrev windowParts : List Part := [.loans, .engines, .heads, .arcBuf]

/-- The context once a fault is on its way. -/
def Engine.pended (code t : Nat) (e : Engine) : Engine :=
  match e.fault with
  | some (_, t') => if t' ≤ t then e else { e with fault := some (code, t) }
  | none => { e with fault := some (code, t) }

theorem State.pendFault_eq (s : State) (r code t : Nat) : s.pendFault r code t = s.onEng r (Engine.pended code t) := rfl

theorem Engine.pended_eq (code t : Nat) (e : Engine) : ∃ f, f.isSome = true ∧ e.pended code t = { e with fault := f } := by
  cases h : e.fault with
  | none => exact ⟨some (code, t), rfl, by simp [Engine.pended, h]⟩
  | some p =>
    by_cases hp : p.2 ≤ t
    · have he : e.pended code t = e := by simp [Engine.pended, h, hp]
      exact ⟨e.fault, by simp [h], he⟩
    · exact ⟨some (code, t), rfl, by simp [Engine.pended, h, hp]⟩

theorem State.pendFault_eng (s : State) (r code t : Nat) : ∃ f, f.isSome = true ∧ (s.pendFault r code t).eng r = { s.eng r with fault := f } := by
  obtain ⟨f, hs, h⟩ := Engine.pended_eq code t (s.eng r)
  exact ⟨f, hs, by rw [State.pendFault_eq, State.eng_onEng_self (by rw [h]; exact s.eng_reel r), h]⟩

theorem State.pendFault_frame (s : State) (r code t : Nat) : Frame s (s.pendFault r code t) [.engines] (fun _ => false) := State.onEng_frame _ _ _

theorem State.pendFault_eng_ne {n : Nat} (s : State) (code t : Nat) (h : n ≠ r) : (s.pendFault r code t).eng n = s.eng n := State.eng_onEng_ne h

/-- What taking a loan does: a loan or a fault, and nothing else of any context. -/
theorem State.takeLoan_cases (s : State) (r k : Nat) :
    s.takeLoan r k = s ∧ s.onLoan r k = true ∨ (∃ l, l.reel = r ∧ l.card = k ∧ s.takeLoan r k = { s with loans := s.loans ++ [l] }) ∨
      (∃ code a, (a = s ∨ a = s.flag Fld.MS_EVT_LOAN_OVF) ∧ s.takeLoan r k = a.pendFault r code (wordNext s.now)) := by
  unfold State.takeLoan
  dsimp only
  split
  · exact .inl ⟨rfl, ‹_›⟩
  · split
    · exact .inr (.inr ⟨19, s, .inl rfl, rfl⟩)
    · split
      · exact .inr (.inr ⟨17, s, .inl rfl, rfl⟩)
      · split
        · split
          · exact .inr (.inr ⟨16, _, .inr rfl, rfl⟩)
          · exact .inr (.inl ⟨_, rfl, rfl, rfl⟩)
        · exact .inr (.inl ⟨_, rfl, rfl, rfl⟩)

theorem State.takeLoan_frame (s : State) (r k : Nat) : Frame s (s.takeLoan r k) [.loans, .engines] (fun x => x == Fld.MS_EVT_LOAN_OVF) := by
  rcases s.takeLoan_cases r k with ⟨h, -⟩ | ⟨l, -, -, h⟩ | ⟨code, a, ha, h⟩ <;> rw [h]
  · exact Frame.refl _ _ _
  · exact Frame.on_loans rfl (Frame.refl _ _ _)
  · refine (State.pendFault_frame a r code _).via rfl (by simp) ?_
    rcases ha with rfl | rfl
    · exact Frame.refl _ _ _
    · exact (Frame.refl _ _ _).putFlag (by simp)

/-- Reel `r` holds a loan on card `k`, or faults. -/
def State.lent (s : State) (r k : Nat) : Prop := s.onLoan r k = true ∨ (s.eng r).fault.isSome = true

/-- What the loans of a window change of the contexts: the fault of their reel alone, and loans of the reel come but do not go. -/
structure Lends (s t : State) (r : Nat) : Prop where
  eng : ∃ f, t.eng r = { s.eng r with fault := f }
  others : ∀ n, n ≠ r → t.eng n = s.eng n
  lent : ∀ k, s.lent r k → t.lent r k

theorem Lends.refl (s : State) (r : Nat) : Lends s s r := ⟨⟨_, rfl⟩, fun _ _ => rfl, fun _ h => h⟩

theorem Lends.trans {u : State} (h : Lends s t r) (g : Lends t u r) : Lends s u r := by
  obtain ⟨f, hf⟩ := h.eng
  obtain ⟨f', hf'⟩ := g.eng
  exact ⟨⟨f', by rw [hf', hf]⟩, fun n hn => (g.others n hn).trans (h.others n hn), fun k hk => g.lent k (h.lent k hk)⟩

theorem Lends.of_each {α : Type} {l : List α} {f : α → State → State} (h : ∀ x a, Lends a (f x a) r) (s : State) : Lends s (s.each l f) r := by
  induction l generalizing s with
  | nil => exact Lends.refl s r
  | cons x l ih => exact (h x s).trans (ih _)

theorem State.takeLoan_lends (s : State) (r k : Nat) : Lends s (s.takeLoan r k) r := by
  rcases s.takeLoan_cases r k with ⟨h, -⟩ | ⟨l, -, -, h⟩ | ⟨code, a, ha, h⟩ <;> rw [h]
  · exact Lends.refl s r
  · exact ⟨⟨_, rfl⟩, fun _ _ => rfl, fun k hk => hk.imp (fun h => by simp only [State.onLoan, List.any_append, Bool.or_eq_true] at h ⊢; exact .inl h) id⟩
  · have hsa : ∀ n, a.eng n = s.eng n := by rcases ha with rfl | rfl <;> exact fun _ => rfl
    obtain ⟨f, hs, hf⟩ := a.pendFault_eng r code (wordNext s.now)
    exact ⟨⟨f, by rw [hf, hsa]⟩, fun n hn => by rw [State.pendFault_eng_ne _ _ _ hn, hsa], fun k _ => .inr (by rw [hf]; exact hs)⟩

theorem State.takeLoan_lent (s : State) (r k : Nat) : (s.takeLoan r k).lent r k := by
  rcases s.takeLoan_cases r k with ⟨h, hl⟩ | ⟨l, hr, hk, h⟩ | ⟨code, a, -, h⟩ <;> rw [h]
  · exact .inl hl
  · exact .inl (by simp [State.onLoan, hr, hk])
  · obtain ⟨f, hs, hf⟩ := a.pendFault_eng r code (wordNext s.now)
    exact .inr (by rw [hf]; exact hs)

/-- Every card of a list is lent once its loans have been taken. -/
theorem State.each_takeLoan_lent (l : List Nat) (s : State) (r : Nat) : ∀ k ∈ l, (s.each l (fun k a => a.takeLoan r k)).lent r k := by
  induction l generalizing s with
  | nil => simp
  | cons x l ih =>
    intro k hk
    rcases List.mem_cons.mp hk with rfl | hk
    · exact (Lends.of_each (fun x a => a.takeLoan_lends r x) (s.takeLoan r k)).lent k (s.takeLoan_lent r k)
    · exact ih _ k hk

theorem State.returnLoan_loans (s : State) (r k : Nat) : (s.returnLoan r k).loans = s.loans.filter (fun l => !(l.reel == r && l.card == k)) := by
  unfold State.returnLoan
  dsimp only
  split
  · split <;> rfl
  · rfl

theorem State.returnLoan_onLoan {k' : Nat} (s : State) (r : Nat) (h : k ≠ k') (hk : s.onLoan r k = true) : (s.returnLoan r k').onLoan r k = true := by
  obtain ⟨l, hl, hr⟩ := List.any_eq_true.mp hk
  have hr' : l.reel = r ∧ l.card = k := by simpa using hr
  refine List.any_eq_true.mpr ⟨l, ?_, hr⟩
  rw [State.returnLoan_loans, List.mem_filter]
  exact ⟨hl, by simp [hr', h]⟩

theorem State.returnLoan_frame (s : State) (r k : Nat) : Frame s (s.returnLoan r k) [.loans] (fun x => x.r == .L_STRM_RET) :=
  (State.returnLoan_touches s r k).mono (fun _ h => h) (fun x hx => by simpa [among] using hx)

theorem State.each_returnLoan_frame (s : State) (r : Nat) (l : List Nat) :
    Frame s (s.each l (fun k a => a.returnLoan r k)) [.loans] (fun x => x.r == .L_STRM_RET) :=
  Frame.each _ _ _ _ (fun k _ a => a.returnLoan_frame r k) s

/-- A card outside the list keeps its loan when the cards of the list are returned. -/
theorem State.each_returnLoan_lent (l : List Nat) (s : State) (r : Nat) (hk : k ∉ l) (h : s.lent r k) : (s.each l (fun k a => a.returnLoan r k)).lent r k := by
  refine h.imp (fun h => ?_) (fun h => by rwa [(s.each_returnLoan_frame r l).eng (by simp)])
  induction l generalizing s with
  | nil => exact h
  | cons x l ih =>
    rw [List.mem_cons, not_or] at hk
    exact ih (s.returnLoan r x) hk.2 (.inl (s.returnLoan_onLoan r hk.1 h)) (s.returnLoan_onLoan r hk.1 h)

theorem State.primedUpdate_frame (s : State) (r : Nat) : Frame s (s.primedUpdate r) [] (fun x => x == Fld.REEL_PRIMED r) := Frame.set _ _ _ (by simp)

theorem State.headsUpdate_frame (s : State) (r : Nat) (was : List Nat) : Frame s (s.headsUpdate r was) [.heads] (fun x => (headKeys r).contains x) := by
  unfold State.headsUpdate
  refine Frame.put (by simp) (Frame.put (by simp) (Frame.steps (fun k a => ?_) (Frame.on_heads rfl (Frame.refl _ _ _))))
  split
  · exact Frame.on_heads rfl (Frame.refl _ _ _)
  · split
    · exact Frame.refl _ _ _
    · exact ((Frame.refl _ _ _).putBump (by simp)).putFlag (by simp)

/-- The cues that the window of reel `r` will hold after its current ones (R93). -/
abbrev State.cuesAhead (s : State) (r : Nat) (cur : List WinCue) (q : Nat) (again : Bool) : List (WinCue × Stacks) :=
  s.walk r false 16 (if again then [] else (s.eng r).window.drop cur.length) q (s.stacks r)
    (s.get (Fld.REEL_RIDX r) + (cur.filter (fun c => cueOp c.w == 1 || cueOp c.w == 2)).length)

theorem State.buildWindow_frame (s : State) (r : Nat) (cur : List WinCue) (q : Nat) (again : Bool) :
    Frame s (s.buildWindow r cur q again) windowParts (windowOf r) := by
  unfold State.buildWindow
  refine (State.primedUpdate_frame _ _).via rfl (by simp) ((State.headsUpdate_frame _ _ _).via rfl (fun k hk => ?_)
    (Frame.steps (fun k a => (a.returnLoan_frame r k).mono (by simp) (fun k hk => ?_)) (Frame.steps (fun k a => (a.takeLoan_frame r k).mono (by simp) (fun k hk => ?_))
      (Frame.step ((State.raiseOnce_frame _ _ _ _ _).mono (by simp) (fun k hk => ?_)) ((State.onEng_frame _ _ _).mono (by simp) (by simp))))))
  · simp only [windowOf, hk, Bool.or_true, Bool.true_or]
  · simp only [windowOf, hk, Bool.or_true]
  · simp only [windowOf, hk, Bool.or_true, Bool.true_or]
  · rcases Bool.or_eq_true_iff.mp hk with hk | hk <;> simp only [windowOf, hk, Bool.or_true, Bool.true_or]

/-- The target chains of a window being built: those it had, unless all is read again, and new ones as they are read. -/
def State.windowTargets (s : State) (r : Nat) (cur : List WinCue) (q : Nat) (again : Bool) : List (Nat × List WinCue) :=
  (s.targetsWanted r (s.cuesAhead r cur q again)).map (fun p =>
    match (if again then none else (s.eng r).targets.find? (fun x => x.1 == p.1)) with
    | some x => x
    | none => (p.1, (s.walk r true 17 [] p.1 p.2 (s.get (Fld.REEL_RIDX r) + 1)).map (·.1)))

/-- The cues of a window being built, with the chains of its targets, before a card of theirs is taken or returned; a cue out of
scope has been recorded (R34). -/
def State.placeWindow (s : State) (r : Nat) (cur : List WinCue) (q : Nat) (again : Bool) : State :=
  let s1 := s.onEng r (fun e => { e with window := cur ++ (s.cuesAhead r cur q again).map (·.1), targets := s.windowTargets r cur q again })
  s1.when ((s1.eng r).window.any (fun c => c.fault == 12) && !(s.eng r).window.any (fun c => c.fault == 12)) (fun a => a.raiseOnce 16 (unitReel r) r (markReel r))

/-- The cards of a placed window are taken. -/
abbrev State.takeWindow (s : State) (r : Nat) : State := s.each (s.windowCards r) (fun k a => a.takeLoan r k)

/-- The cards of which reel `r` holds a loan and that are not in the list `l`. -/
abbrev State.lentBeside (s : State) (r : Nat) (l : List Nat) : List Nat := (s.loans.filter (fun x => x.reel == r && !l.contains x.card)).map (fun x => x.card)

theorem State.buildWindow_eq (s : State) (r : Nat) (cur : List WinCue) (q : Nat) (again : Bool) : let s2 := s.placeWindow r cur q again
    s.buildWindow r cur q again = ((s2.takeWindow r |>.each ((s2.takeWindow r).lentBeside r (s2.windowCards r)) (fun k a => a.returnLoan r k)).headsUpdate r
      (s.headedCards r)).primedUpdate r := rfl

theorem State.placeWindow_eng (s : State) (r : Nat) (cur : List WinCue) (q : Nat) (again : Bool) : let t := s.placeWindow r cur q again
    (∃ tg, t.eng r = { s.eng r with window := cur ++ (s.cuesAhead r cur q again).map (·.1), targets := tg }) ∧ ∀ n, n ≠ r → t.eng n = s.eng n := by
  intro t
  have hraise : ∀ (c : Bool) (a : State) n, (a.when c (fun a => a.raiseOnce 16 (unitReel r) r (markReel r))).eng n = a.eng n := fun c a n =>
    (Frame.when c _ (a.raiseOnce_frame 16 (unitReel r) r (markReel r))).eng (by simp) n
  refine ⟨⟨s.windowTargets r cur q again, ?_⟩, fun n hn => ?_⟩
  · exact (hraise _ _ _).trans (State.eng_onEng_self (s.eng_reel r))
  · exact (hraise _ _ _).trans (State.eng_onEng_ne hn)

theorem State.windowCards_congr (hw : (t.eng r).window = (s.eng r).window) (ht : (t.eng r).targets = (s.eng r).targets) (hv : t.voice r = s.voice r) :
    t.windowCards r = s.windowCards r := by simp only [State.windowCards, hw, ht, hv]

/-- The parts of a state that the last steps of a window leave alone: heads and PRIMED are brought up to date. -/
theorem State.refreshed_frame (s : State) (r : Nat) (was : List Nat) : Frame s ((s.headsUpdate r was).primedUpdate r) [.heads]
    (fun x => x == Fld.REEL_PRIMED r || (headKeys r).contains x) :=
  (State.primedUpdate_frame _ _).via rfl (by simp) ((State.headsUpdate_frame _ _ _).mono (by simp) (fun k hk => by simp only [hk, Bool.or_true]))

theorem State.buildWindow_lends (s : State) (r : Nat) (cur : List WinCue) (q : Nat) (again : Bool) :
    Frame (s.placeWindow r cur q again) (s.buildWindow r cur q again) [.loans, .engines, .heads] (fun x => x == Fld.REEL_PRIMED r || (headKeys r).contains x || x == Fld.MS_EVT_LOAN_OVF || x.r == .L_STRM_RET) := by
  rw [State.buildWindow_eq]
  refine (State.refreshed_frame _ _ _).via rfl (fun k hk => by simp only [hk, Bool.true_or]) ((State.each_returnLoan_frame _ _ _).via rfl (fun k hk => by simp only [hk, Bool.or_true])
    (Frame.each _ _ _ _ (fun k _ a => (a.takeLoan_frame r k).mono (by simp) (fun k hk => ?_)) _))
  simp only [hk, Bool.or_true, Bool.true_or]

/-- The window holds the current cues and those ahead; every card it refers to is lent; no other context changes. -/
theorem State.buildWindow_eng (s : State) (r : Nat) (cur : List WinCue) (q : Nat) (again : Bool) : let t := s.buildWindow r cur q again
    (∃ tg f, t.eng r = { s.eng r with window := cur ++ (s.cuesAhead r cur q again).map (·.1), targets := tg, fault := f }) ∧
      (∀ n, n ≠ r → t.eng n = s.eng n) ∧ ∀ k ∈ t.windowCards r, t.lent r k := by
  intro t
  set s2 := s.placeWindow r cur q again with h2
  obtain ⟨⟨tg, hp⟩, hpn⟩ := s.placeWindow_eng r cur q again
  rw [← h2] at hp
  have htake : Lends s2 (s2.takeWindow r) r := Lends.of_each (fun x a => a.takeLoan_lends r x) _
  have hlent := State.each_takeLoan_lent (s2.windowCards r) s2 r
  obtain ⟨f, hf⟩ := htake.eng
  have heng : ∀ n, t.eng n = (s2.takeWindow r).eng n := fun n =>
    ((State.refreshed_frame _ _ _).eng (by simp) n).trans ((State.each_returnLoan_frame _ _ _).eng (by simp) n)
  refine ⟨⟨tg, f, by rw [heng, hf, hp]⟩, fun n hn => by rw [heng, htake.others n hn, hpn n hn], fun k hk => ?_⟩
  have hcards : t.windowCards r = s2.windowCards r := State.windowCards_congr (by rw [heng, hf]) (by rw [heng, hf])
    ((s.buildWindow_lends r cur q again).get (by simp [headKeys]))
  rw [hcards] at hk
  have hout : k ∉ (s2.takeWindow r).lentBeside r (s2.windowCards r) := by
    rw [List.mem_map]
    rintro ⟨x, hx, rfl⟩
    simp [hk] at hx
  have hkept := State.each_returnLoan_lent _ _ r hout (hlent k hk)
  have hlast := State.refreshed_frame ((s2.takeWindow r).each ((s2.takeWindow r).lentBeside r (s2.windowCards r)) (fun k a => a.returnLoan r k)) r (s.headedCards r)
  unfold State.lent State.onLoan at hkept ⊢
  rw [← hlast.loans_eq (by simp), ← hlast.eng (by simp)] at hkept
  exact hkept

end

/-! ### PRIMED of several reels (R161) -/

section
variable {s t : State} {r k : Nat}

theorem State.each_primedUpdate_frame (s : State) (l : List Nat) {p : Key → Bool} (h : ∀ r ∈ l, p (Fld.REEL_PRIMED r) = true) :
    Frame s (s.each l (fun r a => a.primedUpdate r)) [] p :=
  Frame.each _ _ _ _ (fun r hr a => (a.primedUpdate_frame r).mono (by simp) (fun x hx => by rw [beq_iff_eq.mp hx]; exact h r hr)) s

theorem State.primedUpdate_inForce (s : State) (r : Nat) (h : (s.primedUpdate r).is (Fld.REEL_PRIMED r) = true) : ∀ l ∈ s.loans, l.reel = r → l.inForce = true := by
  rw [State.primedUpdate, State.is_set, if_pos rfl] at h
  intro l hl hr
  by_contra hn
  have hall : s.loans.all (fun l => l.reel != r || l.inForce) = false := List.all_eq_false.mpr ⟨l, hl, by simp [hr, hn]⟩
  simp [hall] at h

/-- A reel of the list that is PRIMED afterwards has every loan in force. -/
theorem State.each_primedUpdate_inForce (l : List Nat) (s : State) (r : Nat)
    (h : r ∈ l ∨ (s.is (Fld.REEL_PRIMED r) = true → ∀ x ∈ s.loans, x.reel = r → x.inForce = true))
    (hp : (s.each l (fun r a => a.primedUpdate r)).is (Fld.REEL_PRIMED r) = true) : ∀ x ∈ s.loans, x.reel = r → x.inForce = true := by
  induction l generalizing s with
  | nil => exact h.resolve_left (by simp) hp
  | cons y l ih =>
    refine ih (s.primedUpdate y) ?_ hp
    by_cases hy : r = y
    · exact .inr (hy ▸ s.primedUpdate_inForce r)
    · refine h.imp (fun h => (List.mem_cons.mp h).resolve_left hy) (fun h hs => h ?_)
      rwa [State.is, (s.primedUpdate_frame y).get (by simpa using hy)] at hs

/-! ### Loans that come into force -/

/-- The loans of a card are in force. -/
abbrev State.forceLoans (s : State) (k : Nat) : State := { s with loans := s.loans.map (fun l => if l.card == k then { l with inForce := true } else l) }

theorem State.firstTaken_none (h : s.loans.all (fun l => l.card != k) = true) : s.firstTaken k = none := by
  have hf : s.loans.filter (fun l => l.card == k) = [] := List.filter_eq_nil_iff.mpr (fun l hl => by simpa using List.all_eq_true.mp h l hl)
  rw [State.firstTaken, hf]
  rfl

theorem exec_loanInForce {k : Fin 262144} {m : Nat} (h : s.firstTaken k = some m) (hf : forceTick (s.coveredLeaves (s.card k)) m ≤ s.tick) :
    exec (.loanInForce k) s = .next ((s.forceLoans k).each ((s.loans.filter (fun l => l.card == (k : Nat))).map (fun l => l.reel)) (fun r a => a.primedUpdate r)) := by
  change execLoanInForce k s = _
  rw [execLoanInForce, h]
  exact congrArg Host.Outcome.next (if_neg (Nat.not_lt.mpr hf))

theorem exec_loanInForce_early {k : Fin 262144} {m : Nat} (h : s.firstTaken k = some m) (hf : s.tick < forceTick (s.coveredLeaves (s.card k)) m) :
    exec (.loanInForce k) s = .next s := by
  change execLoanInForce k s = _
  simp [execLoanInForce, h, State.now, hf]

theorem exec_loanInForce_none {k : Fin 262144} (h : s.loans.all (fun l => l.card != (k : Nat)) = true) : exec (.loanInForce k) s = .next s := by
  change execLoanInForce k s = _
  simp [execLoanInForce, State.firstTaken_none h]

theorem loanInForce_does {k : Fin 262144} {m : Nat} (h : s.firstTaken k = some m) (hf : forceTick (s.coveredLeaves (s.card k)) m ≤ s.tick) :
    Does (.loanInForce k) s [.loans] (fun x => s.loans.any (fun l => l.card == (k : Nat) && x == Fld.REEL_PRIMED l.reel)) []
      (fun t => t.loans = s.loans.map (fun l => if l.card = (k : Nat) then { l with inForce := true } else l) ∧
        ∀ l ∈ s.loans, l.card = k → t.is (Fld.REEL_PRIMED l.reel) = true → ∀ m ∈ t.loans, m.reel = l.reel → m.inForce = true) := by
  have hfold := State.each_primedUpdate_frame (s.forceLoans k) ((s.loans.filter (fun l => l.card == (k : Nat))).map (fun l => l.reel))
    (p := fun x => s.loans.any (fun l => l.card == (k : Nat) && x == Fld.REEL_PRIMED l.reel)) (fun r hr => by
      obtain ⟨l, hl, rfl⟩ := List.mem_map.mp hr
      rw [List.mem_filter] at hl
      exact List.any_eq_true.mpr ⟨l, hl.1, by simp [hl.2]⟩)
  have hloans := hfold.loans_eq (by simp)
  refine ⟨_, exec_loanInForce h hf, by simp, (hfold.mono (qs := [.loans]) (by simp) (fun x hx => by simp only [hx, Bool.true_or])).via rfl (fun _ h => h)
    (Frame.on_loans rfl (Frame.refl _ _ _)), ?_, ?_⟩
  · rw [hloans]
    simp
  · intro l hl hk hp
    rw [hloans]
    exact State.each_primedUpdate_inForce _ _ _ (.inl (List.mem_map.mpr ⟨l, List.mem_filter.mpr ⟨hl, by simp [hk]⟩, rfl⟩)) hp

/-! ### A cue enters the window of an ARMED reel (R118, R141) -/

theorem exec_cueWindowEnter_idle {r : Fin 1024} (q : Fin 65536) (e : Fin 3) (h : s.reelState r = 0 ∨ 5 ≤ s.reelState r) :
    exec (.cueWindowEnter r q e) s = .next s := by
  change execCueWindowEnter r q e s = _
  have hn : ¬(1 ≤ s.reelState r ∧ s.reelState r ≤ 4) := by omega
  simp [execCueWindowEnter, hn]

/-- The window of an ARMED reel, brought up to date. -/
abbrev State.armedWindow (s : State) (r : Nat) : State := s.buildWindow r [] (s.get (Fld.REEL_SP r)) false

/-- A cue of the window behind its first read with an uncorrectable error (R118). -/
def markEcc (q : Nat) (c : WinCue) : WinCue := if c.q == q then { c with fault := 18 } else c

/-- The report of such a read. -/
abbrev State.eccReported (s : State) (r q : Nat) : State :=
  ((s.bump (Fld.TL_SP_ECC_UNCORR (tileOfReel r))).flag (Fld.TL_SP_EVT_ECC_UNCORR (tileOfReel r))).raise 20 (unitTile (tileOfReel r)) (tileOfReel r + (2 + q / 8192) * 2 ^ 8) (markReel r)

abbrev State.eccMarked (s : State) (r q : Nat) : State :=
  s.onEng r (fun e => { e with window := e.window.take 1 ++ (e.window.drop 1).map (markEcc q), targets := e.targets.map (fun p => (p.1, p.2.map (markEcc q))) })

theorem exec_cueWindowEnter_armed {r : Fin 1024} (q : Fin 65536) (h : s.reelState r = 1) :
    exec (.cueWindowEnter r q 0) s = .next (s.armedWindow r) ∧
      exec (.cueWindowEnter r q 1) s = .next ((s.armedWindow r).bump (Fld.TL_SP_ECC_CORR (tileOfReel r))) ∧
      exec (.cueWindowEnter r q 2) s = .next (((s.armedWindow r).eccReported r q).eccMarked r q) := by
  have hruns : ¬¬(1 ≤ s.reelState r ∧ s.reelState r ≤ 4) := by omega
  have hexec : ∀ e : Fin 3, exec (.cueWindowEnter r q e) s = execCueWindowEnter r q e s := fun _ => rfl
  simp only [hexec, execCueWindowEnter, if_neg hruns, if_pos h]
  exact ⟨trivial, trivial, rfl⟩

/-- The walk of a window begins with the cue it is told to begin with. -/
theorem State.walk_head (s : State) (r fuel q ridx : Nat) (k : Stacks) (chain : Bool) :
    ((s.walk r chain (fuel + 1) [] q k ridx).map (·.1)).head? = some (s.readCue r q ridx) := by
  rw [State.walk]
  dsimp only
  split
  · rfl
  · split <;> rfl

theorem State.readCue_q (s : State) (r q ridx : Nat) : (s.readCue r q ridx).q = q := by
  rw [State.readCue]
  split <;> rfl

/-- The window of `r` begins with the cue at SP, and no other context has changed. -/
def State.windowBegins (s t : State) (r : Nat) : Prop :=
  (t.eng r).window.head?.map (·.q) = some (s.get (Fld.REEL_SP r)) ∧ ∀ n, n ≠ r → t.eng n = s.eng n

theorem State.armedWindow_begins (h : (s.eng r).window = []) : s.windowBegins (s.armedWindow r) r := by
  obtain ⟨⟨tg, f, he⟩, hn, -⟩ := s.buildWindow_eng r [] (s.get (Fld.REEL_SP r)) false
  refine ⟨?_, hn⟩
  rw [he]
  simp only [List.nil_append, State.cuesAhead, h, List.drop_nil, Bool.false_eq_true, if_false, State.walk_head, Option.map_some, State.readCue_q]

theorem State.windowBegins_frame {ps : List Part} {p : Key → Bool} {u : State} (h : s.windowBegins t r) (hf : Frame t u ps p) (hp : Part.engines ∉ ps) : s.windowBegins u r := by
  unfold State.windowBegins at h ⊢
  simpa only [hf.eng hp] using h

theorem State.eccMarked_begins {q : Nat} (h : s.windowBegins t r) : s.windowBegins (t.eccMarked r q) r ∧ ∀ c ∈ ((t.eccMarked r q).eng r).window.tail, c.q = q → c.fault = 18 := by
  obtain ⟨hh, hn⟩ := h
  rw [State.windowBegins, State.eng_onEng_self (t.eng_reel r)]
  obtain ⟨c, l, hw⟩ : ∃ c l, (t.eng r).window = c :: l := by
    cases hw : (t.eng r).window with
    | nil => simp [hw] at hh
    | cons c l => exact ⟨c, l, rfl⟩
  rw [hw] at hh
  refine ⟨⟨by simpa [hw] using hh, fun n hne => (State.eng_onEng_ne hne).trans (hn n hne)⟩, fun c' hc hq => ?_⟩
  simp only [hw, List.take_succ_cons, List.take_zero, List.drop_succ_cons, List.drop_zero, List.singleton_append, List.tail_cons, List.mem_map] at hc
  obtain ⟨c0, -, rfl⟩ := hc
  unfold markEcc at hq ⊢
  split at hq
  · rw [if_pos ‹_›]
  · rename_i hne
    simp [hq] at hne

/-- The fields that a cue which enters the window of reel `r` can change. -/
abbrev enterOf (r : Nat) (x : Key) : Bool :=
  x == Fld.REEL_PRIMED r || amongAt [.TL_HEAD_STATUS, .TL_HEAD_MISS, .TL_CUT_EVT] (tileOfReel r) x || ledgerOf 16 x || archiveLoss x || among [.MS_EVT, .L_STRM_RET] x

theorem windowOf_enterOf (r : Nat) (x : Key) (h : windowOf r x = true) : enterOf r x = true := by
  simp only [windowOf, headKeys, Bool.or_eq_true, List.contains_cons, List.contains_nil, beq_iff_eq, Bool.false_eq_true, or_false] at h
  rcases h with ((((rfl | rfl | rfl | rfl | rfl) | h) | h) | rfl) | h <;> simp [*, amongAt, among]

theorem State.armedWindow_frame (s : State) (r : Nat) : Frame s (s.armedWindow r) windowParts (enterOf r) :=
  (s.buildWindow_frame r [] _ false).mono (fun _ h => h) (windowOf_enterOf r)

theorem cueWindowEnter_does {r : Fin 1024} (q : Fin 65536) (h : s.reelState r = 1) (hw : (s.eng r).window = []) :
    Does (.cueWindowEnter r q 0) s windowParts (enterOf r) [] (fun t => s.windowBegins t r ∧
      (s.cards = [] → ∀ k ∈ t.windowCards r, t.onLoan r k = true ∨ (t.eng r).fault.isSome = true)) :=
  ⟨_, (exec_cueWindowEnter_armed q h).1, by simp, (s.armedWindow_frame r).mono (fun _ h => h) (fun x hx => by simp only [hx, Bool.true_or]), State.armedWindow_begins hw,
    fun _ => (s.buildWindow_eng r [] _ false).2.2⟩

theorem cueWindowEnter_does_corrected {r : Fin 1024} (q : Fin 65536) (h : s.reelState r = 1) (hw : (s.eng r).window = []) :
    Does (.cueWindowEnter r q 1) s windowParts (enterOf r)
      [(Fld.TL_SP_ECC_CORR (tileOfReel r), min (s.get (Fld.TL_SP_ECC_CORR (tileOfReel r)) + 1) (2 ^ (Fld.TL_SP_ECC_CORR (tileOfReel r)).w - 1))] (fun t => s.windowBegins t r) := by
  have hbump := Frame.set (s.armedWindow r) (Fld.TL_SP_ECC_CORR (tileOfReel r)) (min ((s.armedWindow r).get (Fld.TL_SP_ECC_CORR (tileOfReel r)) + 1) (2 ^ 16 - 1))
    (ps := []) (p := fun x => x == Fld.TL_SP_ECC_CORR (tileOfReel r)) (by simp)
  refine ⟨_, (exec_cueWindowEnter_armed q h).2.1, ?_, ?_, State.windowBegins_frame (State.armedWindow_begins hw) hbump (by simp)⟩
  · simp only [List.forall_mem_singleton, State.get_bump, if_true]
    rw [(s.armedWindow_frame r).get (by simp [enterOf, amongAt, among, ledgerOf, archiveLoss])]
  · exact hbump.via rfl (fun x hx => by rw [beq_iff_eq.mp hx]; simp [named]) ((s.armedWindow_frame r).mono (fun _ h => h) (fun x hx => by simp only [hx, Bool.true_or]))

theorem cueWindowEnter_does_uncorrectable {r : Fin 1024} (q : Fin 65536) (h : s.reelState r = 1) (hw : (s.eng r).window = []) :
    Does (.cueWindowEnter r q 2) s windowParts (fun x => enterOf r x || ledgerOf 20 x)
      [(Fld.TL_SP_ECC_UNCORR (tileOfReel r), min (s.get (Fld.TL_SP_ECC_UNCORR (tileOfReel r)) + 1) (2 ^ (Fld.TL_SP_ECC_UNCORR (tileOfReel r)).w - 1)), (Fld.TL_SP_EVT_ECC_UNCORR (tileOfReel r), 1)]
      (fun t => s.windowBegins t r ∧ Raised s t 20 (unitTile (tileOfReel r)) (tileOfReel r + (2 + (q : Nat) / 8192) * 2 ^ 8) ∧ ∀ c ∈ (t.eng r).window.tail, c.q = q → c.fault = 18) := by
  have hframe := s.armedWindow_frame r
  set a := s.armedWindow r with ha
  set b := (a.bump (Fld.TL_SP_ECC_UNCORR (tileOfReel r))).flag (Fld.TL_SP_EVT_ECC_UNCORR (tileOfReel r)) with hb
  have hcount : Frame a b [] (fun x => x == Fld.TL_SP_ECC_UNCORR (tileOfReel r) || x == Fld.TL_SP_EVT_ECC_UNCORR (tileOfReel r)) :=
    ((Frame.refl _ _ _).putBump (by simp)).putFlag (by simp)
  have hraise := b.raise_frame 20 (unitTile (tileOfReel r)) (tileOfReel r + (2 + (q : Nat) / 8192) * 2 ^ 8) (markReel r)
  have hmark := (a.eccReported r q).onEng_frame r (fun e => { e with window := e.window.take 1 ++ (e.window.drop 1).map (markEcc q), targets := e.targets.map (fun p => (p.1, p.2.map (markEcc q))) })
  have hbegins := State.eccMarked_begins (q := q) (State.windowBegins_frame (State.windowBegins_frame (State.armedWindow_begins hw) hcount (by simp)) hraise (by simp))
  refine ⟨_, (exec_cueWindowEnter_armed q h).2.2, ?_, ?_, hbegins.1, ?_, hbegins.2⟩
  · simp only [List.forall_mem_cons, List.not_mem_nil, false_imp_iff, implies_true, and_true]
    refine ⟨?_, ?_⟩
    · rw [hmark.get rfl, hraise.get (by simp [ledgerOf, archiveLoss]), hb, State.flag_eq, State.get_set_ne _ _ (by simp), State.get_bump, if_pos rfl,
        hframe.get (by simp [enterOf, amongAt, among, ledgerOf, archiveLoss])]
    · rw [hmark.get rfl, hraise.get (by simp [ledgerOf, archiveLoss]), hb, State.flag_eq, State.get_set_self]
      rfl
  · refine hmark.via rfl (by simp) (hraise.via rfl (fun x hx => ?_) (hcount.via rfl (fun x hx => ?_) (hframe.mono (fun _ h => h) (fun x hx => by simp only [hx, Bool.true_or]))))
    · rcases Bool.or_eq_true_iff.mp hx with hx | hx <;> simp only [enterOf, hx, Bool.or_true, Bool.true_or]
    · rcases Bool.or_eq_true_iff.mp hx with hx | hx <;> rw [beq_iff_eq.mp hx] <;> simp [named]
  · have hsb : Frame s b windowParts (fun x => enterOf r x || x == Fld.TL_SP_ECC_UNCORR (tileOfReel r) || x == Fld.TL_SP_EVT_ECC_UNCORR (tileOfReel r)) :=
      (hframe.mono (fun _ h => h) (fun x hx => by simp only [hx, Bool.true_or])).trans (hcount.mono (by simp) (fun x hx => by
        rw [Bool.or_assoc]
        simp only [hx, Bool.or_true]))
    exact (Raised.of_before hsb (b.raise_raised _ _ _ _) (by simp) (by simp [enterOf, amongAt, among, ledgerOf, archiveLoss])
      (by simp [enterOf, amongAt, among, ledgerOf, archiveLoss])).of_after hmark (fun _ _ _ => rfl)

/-- Settles O44: the window of an ARMED reel is walked from SP and each of its cards taken, and PRIMED follows from loans in force. -/
theorem windowLoans : Obligations.WindowLoans :=
  ⟨fun _ q e _ h => exec_cueWindowEnter_idle q e h, fun _ q _ h => ⟨cueWindowEnter_does q h, cueWindowEnter_does_corrected q h, fun hw _ => cueWindowEnter_does_uncorrectable q h hw⟩,
    fun _ _ => ⟨exec_loanInForce_none, fun _ hm => ⟨exec_loanInForce_early hm, loanInForce_does hm⟩⟩⟩

end

end Sys2Proof.Machine
end

section
/-!
PROOFS. The operations on the context and the record of one reel: what each changes, and how a reel starts a cue that brings
nothing with it but its own length.
-/
namespace Sys2Proof.Machine

section
variable {s t : State} {r n : Nat}

/-! ### The context alone -/

@[simp] theorem State.eng_set (s : State) (k : Key) (v n : Nat) : (s.set k v).eng n = s.eng n := rfl

@[simp] theorem State.eng_sets (s : State) (l : List (Key × Nat)) (n : Nat) : (s.sets l).eng n = s.eng n :=
  (Frame.sets s l (ps := []) (p := anyKey) (fun _ _ => rfl)).eng (by simp) n

@[simp] theorem State.eng_bump (s : State) (k : Key) (m n : Nat) : (s.bump k m).eng n = s.eng n := rfl

@[simp] theorem State.eng_set2 (s : State) (k k' : Key) (v n : Nat) : (s.set2 k k' v).eng n = s.eng n := rfl

@[simp] theorem State.eng_clrBit (s : State) (key : Nat → Key) (m n : Nat) : (s.clrBit key m).eng n = s.eng n :=
  (Frame.putClrBit (ps := []) (p := anyKey) (fun _ => rfl) (Frame.refl s _ _)).eng (by simp) n

theorem State.keepLast_eng (s : State) (r t : Nat) : ∃ v, (s.keepLast r t).eng r = { s.eng r with hold := v } := ⟨_, State.eng_onEng_self (s.eng_reel r)⟩

theorem State.keepLast_frame (s : State) (r t : Nat) : Frame s (s.keepLast r t) [.engines] (fun _ => false) := State.onEng_frame _ _ _

theorem State.runDeferred_nil (h : (s.eng r).deferred = []) (a : Nat) : s.runDeferred r a = s.onEng r (fun e => { e with deferred := [] }) := by
  rw [State.runDeferred, h]
  rfl

/-! ### Phase: the fold of a chirp piece (R201) -/

abbrev phaseKeys (r : Nat) : List Key :=
  [Fld.REEL_P_CUR_LO r, Fld.REEL_P_CUR_HI r, Fld.REEL_P_X r, Fld.REEL_FTW_CUR_LO r, Fld.REEL_FTW_CUR_HI r, Fld.REEL_FTW_X r]

theorem State.fold_frame (s : State) (r t0 te : Nat) : Frame s (s.fold r t0 te) [] (fun x => (phaseKeys r).contains x) := by
  have hp : ∀ (a : State) v, Frame a (a.setP80 r v) [] (fun x => (phaseKeys r).contains x) := fun a v =>
    ((Frame.refl _ _ _).put2 (by simp) (by simp)).put (by simp)
  have hf : ∀ (a : State) v, Frame a (a.setFtw80 r v) [] (fun x => (phaseKeys r).contains x) := fun a v =>
    ((Frame.refl _ _ _).put2 (by simp) (by simp)).put (by simp)
  exact (hp _ _).trans (hf _ _)

theorem State.foldPiece_frame (s : State) (r t : Nat) : Frame s (s.foldPiece r t) [.engines] (fun x => (phaseKeys r).contains x) := by
  unfold State.foldPiece
  split
  · exact Frame.refl _ _ _
  · exact ((s.fold_frame _ _ _).mono (by simp) (fun _ h => h)).trans ((State.onEng_frame _ _ _).mono (fun _ h => h) (by simp))

theorem State.foldPiece_eng (s : State) (r t : Nat) : ∃ p a b, (s.foldPiece r t).eng r = { s.eng r with piece := p, sweepEnd := a, sweepEntry := b } := by
  unfold State.foldPiece
  split
  · exact ⟨_, _, _, rfl⟩
  · have h := (s.fold_frame r ‹_› t).eng (by simp) r
    exact ⟨none, none, none, by rw [State.eng_onEng_self (State.eng_reel _ r), h]⟩

/-! ### Late episodes, cuts and staged updates (R171, R177, R192, R218) -/

abbrev lateKeys (u : Nat) : List Key :=
  [Fld.TL_LATE_CNT u, Fld.TL_LATE_WORDS_LO u, Fld.TL_LATE_WORDS_HI u, Fld.TL_LATE_LAST_CAUSE u, Fld.TL_LATE_LAST_POL u, Fld.TL_LATE_LAST_REEL u, Fld.TL_CUT_EVT_LATE_LEAF u]

abbrev lateOf (r : Nat) (x : Key) : Bool := (lateKeys (tileOfReel r)).contains x || archiveLoss x

theorem State.endEpisode_frame (s : State) (r t : Nat) : Frame s (s.endEpisode r t) [.engines, .arcBuf] (lateOf r) := by
  unfold State.endEpisode
  split
  · exact Frame.refl _ _ _
  · refine (State.onEng_frame _ _ _).via rfl (by simp) (Frame.puts (by simp) (Frame.put2 (by simp) (by simp) (Frame.putBump (by simp) ?_)))
    exact (State.archive_frame _ _ _ _ _ _).mono (by simp) (fun x hx => by simp only [lateOf, hx, Bool.or_true])

theorem State.endEpisode_eng (s : State) (r t : Nat) : (s.endEpisode r t).eng r = { s.eng r with late := none } := by
  unfold State.endEpisode
  split
  case h_1 h => rw [← h]
  case h_2 tm cause h =>
    dsimp only
    rw [State.eng_onEng_self (State.eng_reel _ r), State.eng_sets, State.eng_set2, State.eng_bump, (State.archive_frame _ _ _ _ _ _).eng (by simp)]

theorem State.discardCuts_frame (s : State) (r : Nat) :
    Frame s (s.discardCuts r) [.engines] (fun x => x == Fld.REEL_CUT_ARMED r || x == Fld.TL_CUT_EVT_COMMIT_DISCARDED (tileOfReel r)) :=
  Frame.putClr (by simp) ((State.onEng_frame _ _ _).via rfl (by simp) (Frame.step (Frame.putFlag (by simp) (Frame.refl _ _ _)) (Frame.refl _ _ _)))

theorem State.discardCuts_eng (s : State) (r : Nat) : (s.discardCuts r).eng r = { s.eng r with commit := none, recut := false } := by
  have hw : ∀ c, (s.when c (fun a => a.flag (Fld.TL_CUT_EVT_COMMIT_DISCARDED (tileOfReel r)))).eng r = s.eng r := fun c => State.when_keeps (fun a => a.eng r) _ _ _ rfl
  rw [State.discardCuts, State.clr_eq, State.eng_set, State.eng_onEng_self (State.eng_reel _ r), hw]

theorem State.discardSets_frame (s : State) (r : Nat) : Frame s (s.discardSets r) [.engines] (amongAt [.TL_VSTG_EVT, .TL_VSTG_PEND] (tileOfReel r)) := by
  unfold State.discardSets
  dsimp only
  split
  · exact Frame.refl _ _ _
  · exact Frame.putFlag (by simp [amongAt]) (Frame.putClrBit (by simp [amongAt]) ((State.onEng_frame _ _ _).mono (fun _ h => h) (by simp)))

theorem Engine.eq_of_no_sets {e : Engine} (h : e.staged = [] ∧ e.pendingSet = []) : e = { e with staged := [], pendingSet := [] } := by
  obtain ⟨h1, h2⟩ := h
  cases e
  cases h1
  cases h2
  rfl

theorem State.discardSets_eng (s : State) (r : Nat) : (s.discardSets r).eng r = { s.eng r with staged := [], pendingSet := [] } := by
  unfold State.discardSets
  dsimp only
  split
  case isTrue h => exact Engine.eq_of_no_sets (by simpa using h)
  case isFalse h => rw [State.flag_eq, State.eng_set, State.eng_clrBit, State.eng_onEng_self (s.eng_reel r)]

theorem State.flushCut_frame (s : State) (r : Nat) : Frame s (s.flushCut r) [.engines, .arcBuf] archiveLoss := by
  unfold State.flushCut
  split
  · exact Frame.refl _ _ _
  · exact (State.onEng_frame _ _ _).via rfl (by simp) ((State.archive_frame _ _ _ _ _ _).mono (by simp) (fun _ h => h))

theorem State.flushCut_eng (s : State) (r : Nat) : (s.flushCut r).eng r = { s.eng r with cutEntry := none } := by
  unfold State.flushCut
  split
  case h_1 h => rw [← h]
  case h_2 =>
    rw [State.eng_onEng_self (State.eng_reel _ r), (State.archive_frame _ _ _ _ _ _).eng (by simp)]

/-! ### What every way out of a run does (R155, R171, R218) -/

/-- The fields of reel `r` and of its tile's reports that leaving a run changes, but for its stop tick. -/
abbrev quitOf (r : Nat) (x : Key) : Bool :=
  (phaseKeys r).contains x || lateOf r x || x == Fld.REEL_CUT_ARMED r || x == Fld.TL_CUT_EVT_COMMIT_DISCARDED (tileOfReel r) ||
    amongAt [.TL_VSTG_EVT, .TL_VSTG_PEND] (tileOfReel r) x || x == Fld.REEL_STOP_TICK_LO r || x == Fld.REEL_STOP_TICK_HI r

theorem State.quitRun_frame (s : State) (r t : Nat) : Frame s (s.quitRun r t) [.engines, .arcBuf] (quitOf r) := by
  refine Frame.put2 (by simp [quitOf]) (by simp [quitOf]) ?_
  refine (State.onEng_frame _ _ _).via rfl (by simp) ((State.discardSets_frame _ _).via rfl (fun x hx => ?_) ?_)
  · simp only [quitOf, hx, Bool.or_true, Bool.true_or]
  refine (State.discardCuts_frame _ _).via rfl (fun x hx => ?_) ((State.foldPiece_frame _ _ _).via rfl (fun x hx => ?_) ?_)
  · rcases Bool.or_eq_true_iff.mp hx with hx | hx <;> simp only [quitOf, hx, Bool.or_true, Bool.true_or]
  · simp only [quitOf, hx, Bool.true_or]
  refine (State.endEpisode_frame _ _ _).via rfl (fun x hx => ?_) ((State.flushCut_frame _ _).mono (fun _ h => h) (fun x hx => ?_))
  · simp only [quitOf, hx, Bool.or_true, Bool.true_or]
  · simp only [quitOf, lateOf, hx, Bool.or_true, Bool.true_or]

/-- The context of a reel that has left its run. -/
structure Engine.Quit (e : Engine) : Prop where
  run : e.run = false
  started : e.started = false
  deferred : e.deferred = []
  fires : e.fires = []
  recAt : e.recAt = none
  fault : e.fault = none
  commit : e.commit = none
  staged : e.staged = []
  pendingSet : e.pendingSet = []

theorem State.quitRun_quit (s : State) (r t : Nat) : ((s.quitRun r t).eng r).Quit := by
  rw [State.quitRun, State.eng_set2, State.eng_onEng_self (State.eng_reel _ r), State.discardSets_eng, State.discardCuts_eng]
  exact ⟨rfl, rfl, rfl, rfl, rfl, rfl, rfl, rfl, rfl⟩

theorem State.quitRun_cut (s : State) (r t : Nat) : (s.quitRun r t).get (Fld.REEL_CUT_ARMED r) = 0 := by
  rw [State.quitRun, State.get_set2, if_neg (by simp), if_neg (by simp), (State.onEng_frame _ _ _).get rfl, (State.discardSets_frame _ _).get (by simp [amongAt]),
    State.discardCuts, State.clr_eq, State.get_set_self]
  rfl

theorem State.quitRun_stop (s : State) (r t : Nat) :
    (s.quitRun r t).get (Fld.REEL_STOP_TICK_LO r) = 2 ^ 32 - 1 ∧ (s.quitRun r t).get (Fld.REEL_STOP_TICK_HI r) = 2 ^ 32 - 1 := by
  rw [State.quitRun, State.get_set2, State.get_set2, if_neg (by simp), if_pos rfl, if_pos rfl]
  norm_num

/-! ### Stacks (R143, R144) -/

theorem State.setStacks_frame (s : State) (r : Nat) (k : Stacks) : Frame s (s.setStacks r k) [.engines] (stackOf r) := by
  have hret : ∀ i, stackOf r (retKey r i) = true := fun i => by
    unfold retKey
    split <;> simp [stackOf]
  refine (State.onEng_frame _ _ _).via rfl (by simp) (Frame.steps (fun i a => (Frame.refl _ _ _).put (hret i)) ?_)
  refine Frame.each _ _ _ _ (fun i hi a => ?_) _
  have hi4 : i < 4 := by simpa using hi
  split <;> exact Frame.puts (by simp [stackOf]; omega) (Frame.refl _ _ _)

theorem State.setStacks_eng (s : State) (r : Nat) (k : Stacks) : (s.setStacks r k).eng r = { s.eng r with callDepth := k.calls.length } := by
  refine (State.eng_onEng_self (State.eng_reel _ r)).trans (congrArg (fun e : Engine => { e with callDepth := k.calls.length }) ?_)
  refine (State.each_keeps (fun a => a.eng r) _ _ (fun i a => ?_) _).trans (State.each_keeps (fun a => a.eng r) _ _ (fun i a => ?_) s)
  · exact State.eng_set _ _ _ _
  · split <;> exact State.eng_sets _ _ _

/-- A record without valid loop entries at call depth 0 has empty stacks. -/
theorem State.stacks_empty (hl : ∀ k < 4, s.is (Fld.REEL_L_VALID r k) = false) (hc : (s.eng r).callDepth = 0) : s.stacks r = ⟨[], []⟩ := by
  have hf : (List.range 4).filter (fun k => s.is (Fld.REEL_L_VALID r k)) = [] :=
    List.filter_eq_nil_iff.mpr (fun k hk => by simp [hl k (by simpa using hk)])
  rw [State.stacks, hf, hc]
  rfl

theorem State.setStacks_valid (s : State) (r : Nat) : ∀ k < 4, (s.setStacks r ⟨[], []⟩).is (Fld.REEL_L_VALID r k) = false := by
  intro k hk
  have hrange : List.range 4 = [0, 1, 2, 3] := rfl
  rw [State.is, State.setStacks, (State.onEng_frame _ _ _).get rfl]
  interval_cases k <;> simp [hrange, retKey, State.get_set]

/-! ### States and the maps that show them (R124, R125) -/

/-- The fields that show the state of reel `r`. -/
abbrev shownOf (r : Nat) (x : Key) : Bool := x == Fld.REEL_STATE r || amongAt [.TL_REEL_ACTIVE, .TL_REEL_FAULTED] (tileOfReel r) x

/-- Reel `r` shows state `st` in its record and in the maps of its tile. -/
def State.showState (s : State) (r st : Nat) : State :=
  let s1 := s.set (Fld.REEL_STATE r) st
  let s2 := if st = 0 then s1.clrBit (Fld.TL_REEL_ACTIVE (tileOfReel r)) (r % 128) else s1.setBit (Fld.TL_REEL_ACTIVE (tileOfReel r)) (r % 128)
  if st = 6 then s2.setBit (Fld.TL_REEL_FAULTED (tileOfReel r)) (r % 128) else s2.clrBit (Fld.TL_REEL_FAULTED (tileOfReel r)) (r % 128)

/-- The maps alone follow. -/
theorem State.showState_maps (s : State) (r st : Nat) :
    Frame (s.set (Fld.REEL_STATE r) st) (s.showState r st) [] (amongAt [.TL_REEL_ACTIVE, .TL_REEL_FAULTED] (tileOfReel r)) := by
  have hkey : ∀ j, amongAt [.TL_REEL_ACTIVE, .TL_REEL_FAULTED] (tileOfReel r) (Fld.TL_REEL_ACTIVE (tileOfReel r) j) = true ∧
      amongAt [.TL_REEL_ACTIVE, .TL_REEL_FAULTED] (tileOfReel r) (Fld.TL_REEL_FAULTED (tileOfReel r) j) = true := fun j => by simp [amongAt]
  have hactive := Frame.choose (c := st = 0) (fun _ => Frame.putClrBit (n := r % 128) (fun j => (hkey j).1) (Frame.refl (s.set (Fld.REEL_STATE r) st) [] _))
    (fun _ => Frame.putSetBit (n := r % 128) (fun j => (hkey j).1) (Frame.refl (s.set (Fld.REEL_STATE r) st) [] _))
  exact Frame.choose (fun _ => Frame.putSetBit (fun j => (hkey j).2) hactive) (fun _ => Frame.putClrBit (fun j => (hkey j).2) hactive)

theorem State.showState_frame (s : State) (r st : Nat) : Frame s (s.showState r st) [] (shownOf r) :=
  ((Frame.set s _ _ (by simp)).trans ((s.showState_maps r st).mono (fun _ h => h) (fun x hx => by simp only [shownOf, hx, Bool.or_true])))

theorem State.showState_state (s : State) (r st : Nat) : (s.showState r st).get (Fld.REEL_STATE r) = st % 2 ^ 3 := by
  rw [(s.showState_maps r st).get (by simp [amongAt]), State.get_set_self]

theorem State.groupOfDrive_congr (h : ∀ k, k.r = .COR_GRP_DRV → t.get k = s.get k) (r : Nat) : t.groupOfDrive r = s.groupOfDrive r := by
  have hd : ∀ g, t.drives g = s.drives g := fun g => by
    have h1 : ∀ d, t.is (Fld.COR_GRP_DRV_VALID g d) = s.is (Fld.COR_GRP_DRV_VALID g d) := fun d => by rw [State.is, State.is, h _ rfl]
    have h2 : ∀ d, t.get (Fld.COR_GRP_DRV_REEL g d) = s.get (Fld.COR_GRP_DRV_REEL g d) := fun d => h _ rfl
    simp only [State.drives, h1, h2]
  simp only [State.groupOfDrive, hd]

/-- A drive that leaves the states of a run is lost to its group (R283). -/
def State.detach (s : State) (r old st : Nat) : State :=
  if 1 ≤ old ∧ old ≤ 4 ∧ ¬(1 ≤ st ∧ st ≤ 4) then
    match s.groupOfDrive r with
    | some g => s.corAbort g 5 none
    | none => s
  else s

theorem State.enterState_shows (s : State) (r st : Nat) :
    s.enterState r st = (if s.reelState r = 0 ∧ st ≠ 0 then (s.showState r st).calAbandon r else s.showState r st).detach r (s.reelState r) st := rfl

/-- A change of state that neither ends a calibration run nor takes a drive from its group only shows. -/
theorem State.enterState_eq {st : Nat} (hcal : s.reelState r ≠ 0 ∨ st = 0 ∨ s.is Lat.CAL_RUN = false)
    (hgroup : ¬(1 ≤ s.reelState r ∧ s.reelState r ≤ 4) ∨ (1 ≤ st ∧ st ≤ 4) ∨ s.groupOfDrive r = none) : s.enterState r st = s.showState r st := by
  have habandon : (if s.reelState r = 0 ∧ st ≠ 0 then (s.showState r st).calAbandon r else s.showState r st) = s.showState r st := by
    split
    case isTrue h =>
      have hrun : (s.showState r st).is Lat.CAL_RUN = false := by
        rw [State.is, (s.showState_frame r st).get (by simp [shownOf, amongAt])]
        exact (hcal.resolve_left (not_not.mpr h.1)).resolve_left h.2
      rw [State.calAbandon, hrun]
      rfl
    case isFalse => rfl
  have hdrive : (s.showState r st).groupOfDrive r = s.groupOfDrive r := State.groupOfDrive_congr (fun k hk =>
    (s.showState_frame r st).get (by obtain ⟨kr, ki, kj, kl, kw⟩ := k; subst hk; simp [shownOf, amongAt])) r
  rw [State.enterState_shows, habandon, State.detach]
  split
  case isTrue h => rw [hdrive, (hgroup.resolve_left (not_not.mpr ⟨h.1, h.2.1⟩)).resolve_left h.2.2]
  case isFalse => rfl

/-! ### Windows that are emptied (R94, R183) -/

theorem State.returnLoans_frame (s : State) (r : Nat) : Frame s (s.returnLoans r) [.loans] (fun x => x.r == .L_STRM_RET) := s.each_returnLoan_frame r _

theorem State.each_returnLoan_loans (l : List Nat) (s : State) (r : Nat) :
    (s.each l (fun k a => a.returnLoan r k)).loans = s.loans.filter (fun x => !(x.reel == r && l.contains x.card)) := by
  induction l generalizing s with
  | nil => simp
  | cons k l ih =>
    rw [State.each_cons, ih, State.returnLoan_loans, List.filter_filter]
    congr 1
    funext x
    rw [List.contains_cons, Bool.and_or_distrib_left, Bool.not_or, Bool.and_comm]

theorem State.returnLoans_none (s : State) (r : Nat) : (s.returnLoans r).loans.all (fun l => l.reel != r) = true := by
  rw [State.returnLoans, State.each_returnLoan_loans, List.all_eq_true]
  intro x hx
  rw [List.mem_filter] at hx
  by_contra hr
  have hr' : x.reel = r := by simpa using hr
  have hc : ((s.loans.filter (fun l => l.reel == r)).map (fun l => l.card)).contains x.card = true := by
    simpa using ⟨x, ⟨hx.1, hr'⟩, rfl⟩
  rw [hc, hr'] at hx
  simp at hx

abbrev dropOf (r : Nat) (x : Key) : Bool := x == Fld.REEL_PRIMED r || (headKeys r).contains x || x.r == .L_STRM_RET

theorem State.dropWindow_frame (s : State) (r : Nat) : Frame s (s.dropWindow r) [.loans, .engines, .heads] (dropOf r) := by
  refine Frame.putClr (by simp) ((State.headsUpdate_frame _ _ _).via rfl (fun x hx => ?_) ((State.onEng_frame _ _ _).via rfl (by simp)
    ((s.returnLoans_frame r).mono (by simp) (fun x hx => ?_))))
  · simp only [dropOf, hx, Bool.or_true, Bool.true_or]
  · simp only [dropOf, hx, Bool.or_true]

theorem State.dropWindow_eng (s : State) (r : Nat) : (s.dropWindow r).eng r = { s.eng r with window := [], targets := [] } := by
  rw [State.dropWindow, State.clr_eq, State.eng_set, (State.headsUpdate_frame _ _ _).eng (by simp), State.eng_onEng_self (State.eng_reel _ r), (s.returnLoans_frame r).eng (by simp)]

theorem State.dropWindow_loans (s : State) (r : Nat) : (s.dropWindow r).loans.all (fun l => l.reel != r) = true := by
  rw [State.dropWindow, State.clr_eq, (Frame.set _ _ _ (ps := []) (p := anyKey) rfl).loans_eq (by simp), (State.headsUpdate_frame _ _ _).loans_eq (by simp),
    (State.onEng_frame _ _ _).loans_eq (by simp)]
  exact s.returnLoans_none r

theorem State.dropWindow_primed (s : State) (r : Nat) : (s.dropWindow r).get (Fld.REEL_PRIMED r) = 0 := by
  rw [State.dropWindow, State.clr_eq, State.get_set_self]
  rfl

end

end Sys2Proof.Machine
end

section
/-!
PROOFS. A reel starts a cue that brings nothing with it but its own length: a gap, a tone, or a card that is neither streamed nor
carries a slate; and a chain that begins with a gap cue.
-/
namespace Sys2Proof.Machine

section
variable {s t : State} {r : Nat}

/-! ### At the anchor tick (R139) -/

/-- The current cue of reel `r` starts without a chirp piece, a stream pass or a card slate. -/
def State.startsQuietly (s : State) (r : Nat) : Prop :=
  cueOp (s.curCue r).w = 0x30 ∨ s.voice r = 1 ∨
    s.voice r = 0 ∧ (s.card (s.get (Fld.REEL_CARD r))).slate = false ∧ (s.card (s.get (Fld.REEL_CARD r))).streamed = false

theorem State.startsQuietly_congr (h : s.startsQuietly r) (hw : (t.eng r).window = (s.eng r).window) (hm : t.mem = s.mem) (hv : t.voice r = s.voice r)
    (hc : t.get (Fld.REEL_CARD r) = s.get (Fld.REEL_CARD r)) : t.startsQuietly r := by
  have hcur : t.curCue r = s.curCue r := by rw [State.curCue, State.curCue, hw]
  unfold State.startsQuietly at h ⊢
  rwa [hcur, hv, hc, State.card_congr hm]

theorem State.streamPass_quiet (h : s.startsQuietly r) : s.streamPass r = s := by
  rw [State.streamPass]
  refine if_neg ?_
  rintro ⟨hv, -, hs, ho⟩
  rcases h with h | h | h
  · exact ho h
  · omega
  · simp [h.2.2] at hs

theorem State.cardSlate_quiet (h : s.startsQuietly r) (n a : Nat) : s.cardSlate r n a = s := by
  rw [State.cardSlate]
  refine if_neg ?_
  rintro ⟨hv, ho, hs⟩
  rcases h with h | h | h
  · exact ho h
  · omega
  · simp [h.2.1] at hs

/-- The context of a reel whose cue has started. -/
abbrev State.markStarted (s : State) (r : Nat) : State := s.onEng r (fun e => { e with started := true })

theorem State.startActions_quiet (h : s.startsQuietly r) (h6 : s.reelState r ≠ 6) (a : Nat) : s.startActions r a = s.markStarted r := by
  have hq : (s.markStarted r).startsQuietly r := State.startsQuietly_congr h (by rw [State.eng_onEng_self (s.eng_reel r)]) rfl rfl rfl
  have hv : (s.voice r == 2 && cueOp (s.curCue r).w != 0x30) = false := by
    rcases h with h | h | h <;> simp [h]
  have h6' : ((s.markStarted r).reelState r == 6) = false := beq_false_of_ne h6
  simp only [State.startActions, hv, Bool.false_eq_true, if_false, h6', State.streamPass_quiet hq, State.cardSlate_quiet hq]

theorem State.applyPending_nil (h : (s.eng r).pendingSet = []) (a : Nat) : s.applyPending r a = s := by
  rw [State.applyPending]
  dsimp only
  rw [if_pos (by rw [h]; rfl)]

/-- What happens at the anchor tick of a cue that starts quietly, with no effect and no update in progress: a cut that led here is
archived, and so is the cue where its reel is traced. -/
theorem State.anchorActions_quiet (hp : (s.eng r).pendingSet = []) (hd : (s.eng r).deferred = []) (h6 : s.reelState r ≠ 6) (hq : s.startsQuietly r)
    (hrun : (s.eng r).run = true) (hst : (s.eng r).started = false) (a : Nat) :
    Frame s (s.anchorActions r a) [.engines, .arcBuf] archiveLoss ∧
      (s.anchorActions r a).eng r = { s.eng r with deferred := [], cutEntry := none, started := true } := by
  set s2 := s.onEng r (fun e => { e with deferred := [] }) with h2
  have he2 : s2.eng r = { s.eng r with deferred := [] } := State.eng_onEng_self (s.eng_reel r)
  have hkeep : ∀ (c : Bool) (l : List Nat), let u := (s2.flushCut r).when c (fun b => b.archive 1 (unitReel r) a l)
      Frame s u [.engines, .arcBuf] archiveLoss ∧ u.eng r = { s.eng r with deferred := [], cutEntry := none } := fun c l => by
    have hw := Frame.when c (fun b => b.archive 1 (unitReel r) a l) (State.archive_frame (s2.flushCut r) 1 (unitReel r) a l false)
    refine ⟨(hw.mono (qs := [.engines, .arcBuf]) (by simp) (fun _ h => h)).via rfl (fun _ h => h) ((State.flushCut_frame _ _).via rfl (fun _ h => h) ((State.onEng_frame _ _ _).mono (by simp) (by simp))), ?_⟩
    rw [hw.eng (by simp), State.flushCut_eng, he2]
  have heq : ∃ c l, s.anchorActions r a = ((s2.flushCut r).when c (fun b => b.archive 1 (unitReel r) a l)).startActions r a := by
    refine ⟨s.bit (Fld.TL_ARC_TRACE (tileOfReel r)) (r % 128), [(s2.eng r).chainFrom + s.get (Fld.REEL_SP r) * 2 ^ 16, s.reelState r], ?_⟩
    have hgo : ((s2.eng r).run && !(s2.eng r).started) = true := by rw [he2, hrun, hst]; rfl
    rw [State.anchorActions, State.applyPending_nil hp, ite_self, State.runDeferred_nil hd]
    exact (if_neg h6).trans (if_pos hgo)
  obtain ⟨c, l, heq⟩ := heq
  obtain ⟨hf, he⟩ := hkeep c l
  have hq4 := State.startsQuietly_congr hq (by rw [he]) (hf.1 .mem (by simp)) (hf.get (by simp [archiveLoss])) (hf.get (by simp [archiveLoss]))
  rw [heq, State.startActions_quiet hq4 (by rw [State.reelState, hf.get (by simp [archiveLoss])]; exact h6)]
  exact ⟨(State.onEng_frame _ _ _).via rfl (by simp) hf, by rw [State.eng_onEng_self (State.eng_reel _ r), he]⟩

/-! ### The start of a producing cue (R126, R139, R142) -/

/-- The class at which reel `r` plays cue word `w`, the number of its passes, and the length of one in ticks. -/
def State.cueClass (s : State) (r w : Nat) : Nat := if cueRate w = 31 then s.rate r else cueRate w

def cuePasses (w : Nat) : Nat := if cueOp w = 2 then cueN w else 1

def State.passTicks (s : State) (r w : Nat) : Nat := s.passSamples r w * 2 ^ s.cueClass r w

/-- Cue `c` is a producing cue that brings nothing with it but its own length, and nothing of reel `r` waits for its anchor tick. -/
structure State.Plain (s : State) (r : Nat) (c : WinCue) : Prop where
  op : cueOp c.w = 0x01 ∨ cueOp c.w = 0x02 ∨ cueOp c.w = 0x30
  quiet : cueOp c.w = 0x30 ∨ s.voice r = 1 ∨ s.voice r = 0 ∧ (s.card (cueCard c.w)).slate = false ∧ (s.card (cueCard c.w)).streamed = false
  deferred : (s.eng r).deferred = []
  pending : (s.eng r).pendingSet = []
  fault : s.playFault r c.w (s.cueClass r c.w) = 0
  state : 1 ≤ s.reelState r ∧ s.reelState r ≤ 4

/-- The fields that the start of a cue of reel `r` can change. -/
abbrev startOf (r : Nat) (x : Key) : Bool :=
  [Fld.REEL_SP r, Fld.REEL_RATE r, Fld.REEL_POS_LO r, Fld.REEL_POS_HI r, Fld.REEL_PASS r, Fld.REEL_CARD r].contains x || shownOf r x || windowOf r x

/-- The record as cue `c` starts. -/
def State.cueRecord (s : State) (r : Nat) (c : WinCue) : State :=
  (s.sets [(Fld.REEL_SP r, c.q), (Fld.REEL_RATE r, s.cueClass r c.w), (Fld.REEL_POS_LO r, 0), (Fld.REEL_POS_HI r, 0), (Fld.REEL_PASS r, cuePasses c.w)]).when
    (s.voice r == 0 && cueOp c.w != 0x30) (fun x => x.set (Fld.REEL_CARD r) (cueCard c.w))

/-- The context of a reel that plays `n` passes of `len` ticks of cue `c` from anchor tick `a`. -/
def cueContext (a n len : Nat) (c : WinCue) (e : Engine) : Engine :=
  { e with
    run := true, started := false, anchor := a, passStart := a, passLen := len, endB := a + n * len, ramp := c.data,
    commit := e.commit.map (fun k => k.learn (a + n * len) (a + len)) }

/-- The window of a reel whose current cue is `c`. -/
def State.followCue (s : State) (r : Nat) (c : WinCue) : State :=
  match Machine.advance c.q c.w (s.stacks r) with
  | .to q _ => s.buildWindow r [c] q false
  | _ => s

/-- What the checks at an anchor tick and the length of a pass read, beside the memories and the resampler step in force. -/
abbrev playReads (r : Nat) (x : Key) : Bool :=
  [Fld.REEL_RS_EN r, Fld.REEL_VOICE r, Fld.REEL_DEST0 r, Fld.REEL_DEST1 r, Fld.REEL_GEN_CLASS r, Fld.REEL_RPH0 r, Fld.MS_CFG_ARCH_LEAVES].contains x || x.r == .PP_CFG

section
variable (hm : t.mem = s.mem) (hk : ∀ k, playReads r k = true → t.get k = s.get k) (he : (t.eng r).rstep = (s.eng r).rstep)
include hm hk he

theorem State.playFault_congr (hb : t.badCards = s.badCards) (w c : Nat) : t.playFault r w c = s.playFault r w c := by
  have hinvalid : ∀ k, t.cardInvalid k = s.cardInvalid k := fun k => by
    simp only [State.cardInvalid, State.card_congr hm, State.cardBad_congr (hk _ (by simp)), hm, hb]
  have hrs : t.is (Fld.REEL_RS_EN r) = s.is (Fld.REEL_RS_EN r) := by rw [State.is, State.is, hk _ (by simp)]
  have hv : t.voice r = s.voice r := hk _ (by simp)
  have hd : t.dests r = s.dests r := by rw [State.dests, State.dests, hk _ (by simp), hk _ (by simp)]
  have hw : ∀ p, t.get (Fld.PP_CFG_WIDTH p) = s.get (Fld.PP_CFG_WIDTH p) := fun p => hk _ (by simp)
  have hg : t.get (Fld.REEL_GEN_CLASS r) = s.get (Fld.REEL_GEN_CLASS r) := hk _ (by simp)
  simp only [State.playFault, hinvalid, hrs, hv, hd, hw, hg, he, State.card_congr hm]

theorem State.passSamples_congr (w : Nat) : t.passSamples r w = s.passSamples r w := by
  have hrs : t.is (Fld.REEL_RS_EN r) = s.is (Fld.REEL_RS_EN r) := by rw [State.is, State.is, hk _ (by simp)]
  have hv : t.voice r = s.voice r := hk _ (by simp)
  have hp : t.get (Fld.REEL_RPH0 r) = s.get (Fld.REEL_RPH0 r) := hk _ (by simp)
  simp only [State.passSamples, hrs, hv, hp, he, State.card_congr hm]

end

theorem State.cueRecord_frame (s : State) (r : Nat) (c : WinCue) :
    Frame s (s.cueRecord r c) [] (fun x => [Fld.REEL_SP r, Fld.REEL_RATE r, Fld.REEL_POS_LO r, Fld.REEL_POS_HI r, Fld.REEL_PASS r, Fld.REEL_CARD r].contains x) :=
  Frame.step (Frame.put (by simp) (Frame.refl _ _ _)) (Frame.puts (by simp) (Frame.refl _ _ _))

theorem State.followCue_eq {c : WinCue} (h : ∀ k, Machine.advance c.q c.w k = .to (c.q + 1) k) : s.followCue r c = s.buildWindow r [c] (c.q + 1) false := by
  rw [State.followCue, h]

/-- The record and the context as reel `r` starts a cue, and the window that follows it. -/
abbrev State.cueLoaded (s : State) (r b : Nat) (c : WinCue) : State :=
  ((s.cueRecord r c).showState r 2).onEng r (cueContext (gridUp b (s.cueClass r c.w)) (cuePasses c.w) (s.passTicks r c.w) c)

abbrev State.cueReady (s : State) (r b : Nat) (c : WinCue) : State := (s.cueLoaded r b c).buildWindow r [c] (c.q + 1) false

theorem State.startCue_plain {c : WinCue} (h : s.Plain r c) (b : Nat) : s.startCue r b c =
    if gridUp b (s.cueClass r c.w) ≤ s.tick then (s.cueReady r b c).anchorActions r (gridUp b (s.cueClass r c.w)) else s.cueReady r b c := by
  obtain ⟨hop, -, hdef, -, hfault, hstate⟩ := h
  set a := gridUp b (s.cueClass r c.w) with ha
  set sA := (s.set (Fld.REEL_RATE r) (s.cueClass r c.w)).onEng r (fun e => { e with deferred := [] }) with hsA
  have heA : sA.eng r = { s.eng r with deferred := [] } := State.eng_onEng_self (s.eng_reel r)
  have hkA : ∀ k, playReads r k = true → sA.get k = s.get k := fun k hk => State.get_set_ne s _ (by rintro rfl; simp [playReads] at hk)
  have hmA : sA.mem = s.mem := rfl
  have hfA : sA.playFault r c.w (s.cueClass r c.w) = 0 := (State.playFault_congr hmA hkA (by rw [heA]) rfl _ _).trans hfault
  have hlen : sA.passSamples r c.w = s.passSamples r c.w := State.passSamples_congr hmA hkA (by rw [heA]) _
  have hrec : (s.cueRecord r c).reelState r = s.reelState r := (s.cueRecord_frame r c).get (by simp)
  have hshow : (s.cueRecord r c).enterState r 2 = (s.cueRecord r c).showState r 2 := State.enterState_eq (.inl (by omega)) (.inr (.inl (by decide)))
  have hadv : ∀ k, Machine.advance c.q c.w k = .to (c.q + 1) k := fun k => by rcases hop with h | h | h <;> simp [Machine.advance, h]
  have hearly : ¬(sA.reelState r = 6 ∧ a ≤ s.now) := fun h => by
    have : sA.reelState r = s.reelState r := State.get_set_ne s _ (by simp)
    omega
  rw [State.startCue]
  dsimp only
  rw [State.runDeferred_nil (s := s.set (Fld.REEL_RATE r) _) hdef]
  refine (if_neg hearly).trans ((if_neg (not_not.mpr hfA)).trans ?_)
  change (if a ≤ s.tick then ((((s.cueRecord r c).enterState r 2).onEng r (cueContext a (cuePasses c.w) (sA.passSamples r c.w * 2 ^ s.cueClass r c.w) c)).followCue r c).anchorActions r a
    else (((s.cueRecord r c).enterState r 2).onEng r (cueContext a (cuePasses c.w) (sA.passSamples r c.w * 2 ^ s.cueClass r c.w) c)).followCue r c) = _
  rw [hlen, hshow, State.followCue_eq hadv]
  rfl

/-- From `s` to `t` reel `r` has started cue `c` at boundary `b`: its record and its context play it, and of the context nothing
else changes but what belongs to windows, loans and cuts. -/
structure Plays (s t : State) (r b : Nat) (c : WinCue) : Prop where
  frame : Frame s t windowParts (startOf r)
  state : t.reelState r = 2
  sp : t.get (Fld.REEL_SP r) = c.q % 2 ^ 16
  rate : t.get (Fld.REEL_RATE r) = s.cueClass r c.w % 2 ^ 5
  pos : t.get (Fld.REEL_POS_LO r) = 0 ∧ t.get (Fld.REEL_POS_HI r) = 0
  pass : t.get (Fld.REEL_PASS r) = cuePasses c.w % 2 ^ 24
  card : s.voice r = 0 → cueOp c.w ≠ 0x30 → t.get (Fld.REEL_CARD r) = cueCard c.w % 2 ^ 18
  eng : ∃ w tg f d ce st, t.eng r = { cueContext (gridUp b (s.cueClass r c.w)) (cuePasses c.w) (s.passTicks r c.w) c (s.eng r) with
    window := w, targets := tg, fault := f, deferred := d, cutEntry := ce, started := st }
  started : gridUp b (s.cueClass r c.w) ≤ s.tick → (t.eng r).started = true

theorem State.cueRecord_values (s : State) (r : Nat) (c : WinCue) : let t := s.cueRecord r c
    t.get (Fld.REEL_SP r) = c.q % 2 ^ 16 ∧ t.get (Fld.REEL_RATE r) = s.cueClass r c.w % 2 ^ 5 ∧ (t.get (Fld.REEL_POS_LO r) = 0 ∧ t.get (Fld.REEL_POS_HI r) = 0) ∧
      t.get (Fld.REEL_PASS r) = cuePasses c.w % 2 ^ 24 ∧ (s.voice r = 0 → cueOp c.w ≠ 0x30 → t.get (Fld.REEL_CARD r) = cueCard c.w % 2 ^ 18) := by
  have hw : ∀ k, k ≠ Fld.REEL_CARD r → (s.cueRecord r c).get k = (s.sets [(Fld.REEL_SP r, c.q), (Fld.REEL_RATE r, s.cueClass r c.w), (Fld.REEL_POS_LO r, 0), (Fld.REEL_POS_HI r, 0),
      (Fld.REEL_PASS r, cuePasses c.w)]).get k := fun k hk => State.when_keeps (fun a => a.get k) _ _ _ (State.get_set_ne _ _ hk.symm)
  refine ⟨?_, ?_, ⟨?_, ?_⟩, ?_, fun hv ho => ?_⟩
  · rw [hw _ (by simp)]; simp [State.get_set]
  · rw [hw _ (by simp)]; simp [State.get_set]
  · rw [hw _ (by simp)]; simp [State.get_set]
  · rw [hw _ (by simp)]; simp [State.get_set]
  · rw [hw _ (by simp)]; simp
  · rw [State.cueRecord, hv, show ((0 : Nat) == 0 && cueOp c.w != 0x30) = true by simpa using ho, State.when_true, State.get_set_self]

theorem State.cueLoaded_frame (s : State) (r b : Nat) (c : WinCue) :
    Frame s (s.cueLoaded r b c) [.engines] (fun x => [Fld.REEL_SP r, Fld.REEL_RATE r, Fld.REEL_POS_LO r, Fld.REEL_POS_HI r, Fld.REEL_PASS r, Fld.REEL_CARD r].contains x || shownOf r x) := by
  refine (State.onEng_frame _ _ _).via rfl (by simp) ((State.showState_frame _ r 2).via rfl (fun x hx => ?_) ((s.cueRecord_frame r c).mono (by simp) (fun x hx => ?_)))
  · simp only [hx, Bool.or_true]
  · simp only [hx, Bool.true_or]

theorem State.cueLoaded_get (s : State) (r b : Nat) (c : WinCue) {k : Key} (h : shownOf r k = false) : (s.cueLoaded r b c).get k = (s.cueRecord r c).get k := by
  rw [State.cueLoaded, (State.onEng_frame _ _ _).get rfl, (State.showState_frame _ _ _).get h]

theorem State.cueLoaded_eng (s : State) (r b : Nat) (c : WinCue) :
    (s.cueLoaded r b c).eng r = cueContext (gridUp b (s.cueClass r c.w)) (cuePasses c.w) (s.passTicks r c.w) c (s.eng r) := by
  have he : ((s.cueRecord r c).showState r 2).eng r = s.eng r := by rw [(State.showState_frame _ _ _).eng (by simp), (s.cueRecord_frame r c).eng (by simp)]
  rw [State.cueLoaded, State.eng_onEng_self (State.eng_reel _ r), he]

/-- The loaded cue starts quietly. -/
theorem State.cueReady_quiet {c : WinCue} (h : s.Plain r c) (b : Nat) : (s.cueReady r b c).startsQuietly r := by
  obtain ⟨⟨tg, f, he⟩, -, -⟩ := (s.cueLoaded r b c).buildWindow_eng r [c] (c.q + 1) false
  have hf := (s.cueLoaded r b c).buildWindow_frame r [c] (c.q + 1) false
  have hcur : (s.cueReady r b c).curCue r = c := by rw [State.curCue, he]; rfl
  have hm : (s.cueReady r b c).mem = s.mem := (hf.1 .mem (by simp)).trans ((s.cueLoaded_frame r b c).1 .mem (by simp))
  have hv : (s.cueReady r b c).voice r = s.voice r := (hf.get (by simp [windowOf, headKeys, ledgerOf, archiveLoss])).trans ((s.cueLoaded_frame r b c).get (by simp [shownOf, amongAt]))
  rw [State.startsQuietly, hcur, hv, State.card_congr hm]
  by_cases ho : cueOp c.w = 0x30
  · exact .inl ho
  · refine .inr ((h.quiet.resolve_left ho).imp id (fun hq => ⟨hq.1, ?_⟩))
    have hcard : (s.cueReady r b c).get (Fld.REEL_CARD r) = cueCard c.w := by
      rw [hf.get (by simp [windowOf, headKeys, ledgerOf, archiveLoss]), s.cueLoaded_get r b c (by simp [shownOf, amongAt]), (s.cueRecord_values r c).2.2.2.2 hq.1 ho]
      exact Nat.mod_eq_of_lt (Nat.mod_lt _ (by decide))
    rw [hcard]
    exact hq.2

theorem State.cueReady_state (s : State) (r b : Nat) (c : WinCue) : (s.cueReady r b c).reelState r = 2 := by
  rw [State.reelState, State.cueReady, (State.buildWindow_frame _ r [c] (c.q + 1) false).get (by simp [headKeys, ledgerOf, archiveLoss]), State.cueLoaded,
    (State.onEng_frame _ _ _).get rfl, State.showState_state]
  rfl

/-- Once a cue is loaded, what its anchor tick does leaves the record alone. -/
theorem Plays.of_ready {c : WinCue} {b : Nat} (hf : Frame (s.cueReady r b c) t [.engines, .arcBuf] archiveLoss)
    (he : ∃ d ce st, t.eng r = { (s.cueReady r b c).eng r with deferred := d, cutEntry := ce, started := st })
    (hst : gridUp b (s.cueClass r c.w) ≤ s.tick → (t.eng r).started = true) : Plays s t r b c := by
  have hw := (s.cueLoaded r b c).buildWindow_frame r [c] (c.q + 1) false
  have hrec : ∀ k, windowOf r k = false → archiveLoss k = false → shownOf r k = false → t.get k = (s.cueRecord r c).get k := fun k h1 h2 h3 =>
    ((hf.get h2).trans (hw.get h1)).trans (s.cueLoaded_get r b c h3)
  obtain ⟨hsp, hrate, hpos, hpass, hcard⟩ := s.cueRecord_values r c
  obtain ⟨⟨tg, f, hwe⟩, -, -⟩ := (s.cueLoaded r b c).buildWindow_eng r [c] (c.q + 1) false
  obtain ⟨d, ce, st, hte⟩ := he
  refine ⟨?_, ?_, ?_, ?_, ⟨?_, ?_⟩, ?_, fun hv ho => ?_, ⟨_, tg, f, d, ce, st, by rw [hte, State.cueReady, hwe, s.cueLoaded_eng r b c]⟩, hst⟩
  · refine hf.via rfl (fun x hx => ?_) (hw.via rfl (fun x hx => ?_) ((s.cueLoaded_frame r b c).mono (by simp) (fun x hx => ?_)))
    · simp only [startOf, windowOf, hx, Bool.or_true, Bool.true_or]
    · simp only [startOf, hx, Bool.or_true]
    · rcases Bool.or_eq_true_iff.mp hx with hx | hx <;> simp only [startOf, hx, Bool.or_true, Bool.true_or]
  · rw [State.reelState, hf.get (by simp [archiveLoss])]
    exact s.cueReady_state r b c
  · rw [hrec _ (by simp [headKeys, ledgerOf, archiveLoss]) (by simp [archiveLoss]) (by simp [amongAt]), hsp]
  · rw [hrec _ (by simp [headKeys, ledgerOf, archiveLoss]) (by simp [archiveLoss]) (by simp [amongAt]), hrate]
  · rw [hrec _ (by simp [headKeys, ledgerOf, archiveLoss]) (by simp [archiveLoss]) (by simp [amongAt]), hpos.1]
  · rw [hrec _ (by simp [headKeys, ledgerOf, archiveLoss]) (by simp [archiveLoss]) (by simp [amongAt]), hpos.2]
  · rw [hrec _ (by simp [headKeys, ledgerOf, archiveLoss]) (by simp [archiveLoss]) (by simp [amongAt]), hpass]
  · rw [hrec _ (by simp [headKeys, ledgerOf, archiveLoss]) (by simp [archiveLoss]) (by simp [amongAt]), hcard hv ho]

theorem State.startCue_plays {c : WinCue} (h : s.Plain r c) (b : Nat) : Plays s (s.startCue r b c) r b c := by
  rw [State.startCue_plain h]
  split
  case isFalse hb =>
    obtain ⟨e, he⟩ : ∃ e, (s.cueReady r b c).eng r = e := ⟨_, rfl⟩
    exact Plays.of_ready (Frame.refl _ _ _) ⟨e.deferred, e.cutEntry, e.started, by rw [he]⟩ (fun hb' => absurd hb' hb)
  case isTrue hb =>
    obtain ⟨⟨tg, f, hwe⟩, -, -⟩ := (s.cueLoaded r b c).buildWindow_eng r [c] (c.q + 1) false
    rw [s.cueLoaded_eng r b c] at hwe
    obtain ⟨hf, he⟩ := State.anchorActions_quiet (s := s.cueReady r b c) (by rw [hwe]; exact h.pending) (by rw [hwe]; exact h.deferred) (by rw [State.cueReady_state]; decide) (State.cueReady_quiet h b)
      (by rw [hwe]; rfl) (by rw [hwe]; rfl) (gridUp b (s.cueClass r c.w))
    exact Plays.of_ready hf ⟨[], none, true, he⟩ (fun _ => by rw [he])

/-! ### A chain that begins with a gap cue (R139, R150) -/

/-- The context as a chain begins: it notes where it came from, and its window holds the cues ahead. -/
abbrev State.chainLoaded (s : State) (r : Nat) (words : List WinCue) : State :=
  (s.onEng r (fun e => { e with chainFrom := s.get (Fld.REEL_SP r) })).onEng r (fun e => { e with window := words })

theorem State.chainLoaded_frame (s : State) (r : Nat) (words : List WinCue) : Frame s (s.chainLoaded r words) [.engines] (fun _ => false) :=
  (State.onEng_frame _ _ _).trans (State.onEng_frame _ _ _)

theorem State.chainLoaded_eng (s : State) (r : Nat) (words : List WinCue) :
    (s.chainLoaded r words).eng r = { s.eng r with chainFrom := s.get (Fld.REEL_SP r), window := words } := by
  rw [State.chainLoaded, State.eng_onEng_self (State.eng_reel _ r), State.eng_onEng_self (s.eng_reel r)]

/-- Cue `c` is a gap cue without a fault, the first of the cues that follow at `q`. -/
structure GapAhead (c : WinCue) (q : Nat) (words : List WinCue) : Prop where
  head : words.head? = some c
  at_ : c.q = q
  op : cueOp c.w = 0x30
  fault : c.fault = 0

theorem State.runChain_gap {c : WinCue} {q : Nat} {words : List WinCue} (h : GapAhead c q words) (b : Nat) :
    s.runChain r b q words = (s.chainLoaded r words).startCue r b c := by
  obtain ⟨hh, hq, ho, hf⟩ := h
  obtain ⟨l, rfl⟩ : ∃ l, words = c :: l := by
    cases words with
    | nil => simp at hh
    | cons x l => exact ⟨l, by simpa using hh⟩
  have hk : cueKind (cueOp c.w) = 1 := by rw [ho]; rfl
  rw [State.runChain, State.chain]
  simp only [if_pos hq, hk, hf, ne_eq, not_true, if_false]

theorem State.passTicks_gap {w : Nat} (h : cueOp w = 0x30) : s.passTicks r w = cueLen w * 2 ^ s.cueClass r w := by
  rw [State.passTicks, State.passSamples, if_pos (.inl h)]

/-- A chain that begins with a gap cue starts it, where nothing of the reel waits for its anchor tick. -/
theorem State.runChain_starts {c : WinCue} {q : Nat} {words : List WinCue} (h : GapAhead c q words) (b : Nat) (hd : (s.eng r).deferred = [])
    (hp : (s.eng r).pendingSet = []) (hs : 1 ≤ s.reelState r ∧ s.reelState r ≤ 4) : let t := s.runChain r b q words
    Frame s t windowParts (startOf r) ∧ startsGap s t r b c.w ∧
      (t.eng r).recAt = (s.eng r).recAt ∧ (t.eng r).guard = (s.eng r).guard ∧ (t.eng r).callDepth = (s.eng r).callDepth ∧ (t.eng r).lastCut = (s.eng r).lastCut := by
  intro t
  have he := s.chainLoaded_eng r words
  have hplain : (s.chainLoaded r words).Plain r c := ⟨.inr (.inr h.op), .inl h.op, by rw [he]; exact hd, by rw [he]; exact hp, if_pos h.op, hs⟩
  have hplays := State.startCue_plays hplain b
  rw [← State.runChain_gap h b] at hplays
  obtain ⟨w, tg, f, d, ce, st, hte⟩ := hplays.eng
  have hticks : (s.chainLoaded r words).passTicks r c.w = cueLen c.w * 2 ^ s.cueClass r c.w := State.passTicks_gap h.op
  have hpass : cuePasses c.w = 1 := if_neg (by rw [h.op]; decide)
  rw [he, hticks, hpass] at hte
  refine ⟨((s.chainLoaded_frame r words).mono (by simp) (by simp)).trans hplays.frame, ⟨hplays.state, ?_, ?_, ?_, ?_⟩, ?_, ?_, ?_, ?_⟩
  · rw [hte]; rfl
  · rw [hte]; rfl
  · rw [hte]; rfl
  · rw [hte]; exact congrArg (fun n => gridUp b (s.cueClass r c.w) + n) (Nat.one_mul _)
  · rw [hte]; rfl
  · rw [hte]; rfl
  · rw [hte]; rfl
  · rw [hte]; rfl

end

end Sys2Proof.Machine
end

section
/-!
PROOFS. Head slots, late episodes and their ends (O41).
-/
namespace Sys2Proof.Machine

section
variable {s t : State} {r : Nat}

/-! ### Leaving a cue (R192, R201, R213) -/

abbrev leaveOf (r : Nat) (x : Key) : Bool := x == Fld.REEL_RIDX r || (phaseKeys r).contains x || lateOf r x

theorem State.leaveCue_frame (s : State) (r t : Nat) : Frame s (s.leaveCue r t) [.engines, .arcBuf] (leaveOf r) := by
  refine (State.onEng_frame _ _ _).via rfl (by simp) (Frame.step (Frame.put (by simp) (Frame.refl _ _ _)) ((State.foldPiece_frame _ _ _).via rfl (fun x hx => ?_)
    ((State.endEpisode_frame _ _ _).via rfl (fun x hx => ?_) ((s.keepLast_frame r t).mono (by simp) (by simp)))))
  · simp only [leaveOf, hx, Bool.or_true, Bool.true_or]
  · simp only [leaveOf, hx, Bool.or_true]

theorem State.leaveCue_eng (s : State) (r t : Nat) : ∃ v p a b, (s.leaveCue r t).eng r =
    { s.eng r with hold := v, late := none, piece := p, sweepEnd := a, sweepEntry := b, run := false, started := false } := by
  obtain ⟨v, hv⟩ := s.keepLast_eng r t
  obtain ⟨p, a, b, hp⟩ := ((s.keepLast r t).endEpisode r t).foldPiece_eng r t
  refine ⟨v, p, a, b, (State.eng_onEng_self (State.eng_reel _ r)).trans ?_⟩
  rw [State.when_keeps (fun a => a.eng r) _ _ _ rfl, hp, State.endEpisode_eng, hv]

/-! ### The fields of a chain that begins with a gap -/

theorem startOf_chainOf (x : Key) (h : startOf r x = true) : chainOf r x = true := by
  simp only [startOf, shownOf, Bool.or_eq_true] at h
  rcases h with (h | h | h) | h
  · have hr : reelOf r x = true := by
      simp only [List.contains_cons, List.contains_nil, Bool.or_eq_true, beq_iff_eq, Bool.false_eq_true, or_false] at h
      rcases h with rfl | rfl | rfl | rfl | rfl | rfl <;> simp [reelOf]
    simp only [chainOf, hr, Bool.true_or]
  · rw [beq_iff_eq.mp h]
    simp [chainOf, reelOf]
  · have ht : tileMaps r x = true := by
      simp only [amongAt, Bool.and_eq_true, List.contains_cons, List.contains_nil, Bool.or_eq_true, beq_iff_eq, Bool.false_eq_true, or_false] at h
      simp only [tileMaps, amongAt, Bool.and_eq_true, List.contains_cons, List.contains_nil, Bool.or_eq_true, beq_iff_eq]
      exact ⟨h.1.imp id .inl, h.2⟩
    simp only [chainOf, ht, Bool.or_true, Bool.true_or]
  · have he := windowOf_enterOf r x (by simpa only [windowOf, Bool.or_eq_true] using h)
    simp only [enterOf, Bool.or_eq_true] at he
    rcases he with (((he | he) | he) | he) | he
    · rw [beq_iff_eq.mp he]
      simp [chainOf, reelOf]
    · have ht : tileMaps r x = true := by
        simp only [amongAt, Bool.and_eq_true, List.contains_cons, List.contains_nil, Bool.or_eq_true, beq_iff_eq, Bool.false_eq_true, or_false] at he
        simp only [tileMaps, amongAt, Bool.and_eq_true, List.contains_cons, List.contains_nil, Bool.or_eq_true, beq_iff_eq]
        tauto
      simp only [chainOf, ht, Bool.or_true, Bool.true_or]
    · simp only [chainOf, he, Bool.or_true, Bool.true_or]
    · simp only [chainOf, he, Bool.or_true, Bool.true_or]
    · simp only [chainOf, he, Bool.or_true, Bool.true_or]

theorem phaseKeys_reelOf (x : Key) (h : (phaseKeys r).contains x = true) : reelOf r x = true := by
  simp only [List.contains_cons, List.contains_nil, Bool.or_eq_true, beq_iff_eq, Bool.false_eq_true, or_false] at h
  rcases h with rfl | rfl | rfl | rfl | rfl | rfl <;> simp [reelOf]

theorem leaveOf_chainOf (x : Key) (h : leaveOf r x = true) : chainOf r x = true := by
  simp only [leaveOf, lateOf, Bool.or_eq_true] at h
  rcases h with (h | h) | h | h
  · rw [beq_iff_eq.mp h]
    simp [chainOf, reelOf]
  · simp only [chainOf, phaseKeys_reelOf x h, Bool.true_or]
  · simp only [List.contains_cons, List.contains_nil, Bool.or_eq_true, beq_iff_eq, Bool.false_eq_true, or_false] at h
    rcases h with rfl | rfl | rfl | rfl | rfl | rfl | rfl <;> simp [chainOf, amongAt, tileMaps]
  · simp only [chainOf, h, Bool.or_true, Bool.true_or]

/-! ### Head slots (R161, R184) -/

/-- Head slots of card `k` in tile `u` are filled. -/
abbrev State.fillHeads (s : State) (u k : Nat) : State :=
  { s with heads := s.heads.map (fun h => if h.1 == u && h.2.1 == k then (h.1, h.2.1, true) else h) }

theorem exec_headFill {u : Fin 8} {k : Fin 262144} (h : s.loans.any (fun l => l.card == (k : Nat) && tileOfReel l.reel == (u : Nat) && l.inForce) = true) :
    exec (.headFill u k) s = .next ((s.fillHeads u k).each ((s.engines.filter (fun e => tileOfReel e.reel == (u : Nat))).map (fun e => e.reel)) (fun r a => a.primedUpdate r)) := by
  change execHeadFill u k s = _
  rw [execHeadFill, if_pos h]

theorem exec_headFill_not {u : Fin 8} {k : Fin 262144} (h : s.loans.any (fun l => l.card == (k : Nat) && tileOfReel l.reel == (u : Nat) && l.inForce) = false) :
    exec (.headFill u k) s = .next s := by
  change execHeadFill u k s = _
  rw [execHeadFill, if_neg (by rw [h]; decide)]

theorem headFill_does {u : Fin 8} {k : Fin 262144} (h : s.loans.any (fun l => l.card == (k : Nat) && tileOfReel l.reel == (u : Nat) && l.inForce) = true) :
    Does (.headFill u k) s [.heads] (fun x => s.engines.any (fun e => x == Fld.REEL_PRIMED e.reel)) []
      (fun t => t.heads = s.heads.map (fun h => if h.1 = (u : Nat) ∧ h.2.1 = (k : Nat) then (h.1, h.2.1, true) else h)) := by
  have hfold := State.each_primedUpdate_frame (s.fillHeads u k) ((s.engines.filter (fun e => tileOfReel e.reel == (u : Nat))).map (fun e => e.reel))
    (p := fun x => s.engines.any (fun e => x == Fld.REEL_PRIMED e.reel)) (fun r hr => by
      obtain ⟨e, he, rfl⟩ := List.mem_map.mp hr
      exact List.any_eq_true.mpr ⟨e, (List.mem_filter.mp he).1, by simp⟩)
  refine ⟨_, exec_headFill h, by simp, (hfold.mono (qs := [.heads]) (by simp) (fun x hx => by simp only [hx, Bool.true_or])).via rfl (fun _ h => h)
    (Frame.on_heads rfl (Frame.refl _ _ _)), ?_⟩
  refine (show _ = (s.fillHeads u k).heads from hfold.1 .heads (by simp)).trans ?_
  simp

/-! ### Late episodes (R189 to R193) -/

theorem State.tilePulse_frame (s : State) (p o : Nat) : Frame s (s.tilePulse p o) [.edges] (fun x => x == Lat.PROD_WORD p) := by
  unfold State.tilePulse
  split
  · exact Frame.refl _ _ _
  · exact (State.pulse_frame _ _ _).via rfl (by simp) ((Frame.refl _ _ _).put (by simp))

/-- A producer has claimed the word of its pulse. -/
theorem State.tilePulse_word (s : State) (p o : Nat) : (s.tilePulse p o).get (Lat.PROD_WORD p) = (o / 8 + 1) % 2 ^ 64 := by
  unfold State.tilePulse
  split
  case isTrue h => rw [← h, s.get_mod_of_le _ (Nat.le_refl _)]
  case isFalse => rw [(State.pulse_frame _ _ _).get rfl, State.get_set_self]

theorem State.raisePerTile_inactive {k u : Nat} {m : List (Nat × Nat)} (h : s.is (Fld.LDG_ACTIVE k) = false) : s.raisePerTile k u m = s.raise k (unitTile u) (1 <<< u) m := by
  rw [State.raisePerTile, h]
  rfl

/-- The context of a reel whose data is late since now. -/
abbrev State.lateContext (s : State) (r cause : Nat) : State :=
  s.onEng r (fun e => { e with hold := if e.anchor < s.now then s.reelValue r (s.now - 1) else e.hold, late := some (s.now, cause) })

/-- The late producer has pulsed and the episode is counted. -/
abbrev State.lateCounted (s : State) (r cause : Nat) : State :=
  ((s.lateContext r cause).tilePulse (32 * tileOfReel r + 19) s.now).bump (Fld.REEL_LATE_EV r)

abbrev State.lateBegun (s : State) (r cause : Nat) : State :=
  (s.lateCounted r cause).raise 22 (unitTile (tileOfReel r)) (1 <<< tileOfReel r) (markReel r)

/-- The fields and values in which a late episode is counted. -/
abbrev State.lateValues (s : State) (r : Nat) : List (Key × Nat) :=
  [(Fld.REEL_LATE_EV r, min (s.get (Fld.REEL_LATE_EV r) + 1) (2 ^ (Fld.REEL_LATE_EV r).w - 1)), (Lat.PROD_WORD (32 * tileOfReel r + 19), (s.tick / 8 + 1) % 2 ^ 64)]

abbrev lateReport (x : Key) : Bool := ledgerOf 22 x || archiveLoss x

theorem State.lateCounted_frame (s : State) (r cause : Nat) : Frame s (s.lateCounted r cause) [.engines, .edges] (fun x => named (s.lateValues r) x) := by
  refine Frame.putBump (by simp [named]) ((State.tilePulse_frame _ _ _).via rfl (fun x hx => ?_) ((State.onEng_frame _ _ _).mono (by simp) (by simp)))
  rw [beq_iff_eq.mp hx]
  simp [named]

theorem State.lateBegun_frame (s : State) (r cause : Nat) : Frame s (s.lateBegun r cause) [.engines, .edges, .arcBuf] (fun x => lateReport x || named (s.lateValues r) x) :=
  (State.raise_frame _ _ _ _ _).via rfl (fun x hx => by simp only [hx, Bool.true_or]) ((s.lateCounted_frame r cause).mono (by simp) (fun x hx => by simp only [hx, Bool.or_true]))

theorem State.lateBegun_values (s : State) (r cause : Nat) : ∀ q ∈ s.lateValues r, (s.lateBegun r cause).get q.1 = q.2 := by
  have hev : ((s.lateContext r cause).tilePulse (32 * tileOfReel r + 19) s.now).get (Fld.REEL_LATE_EV r) = s.get (Fld.REEL_LATE_EV r) :=
    ((State.tilePulse_frame _ _ _).get (by simp)).trans ((State.onEng_frame _ _ _).get rfl)
  simp only [List.forall_mem_cons, List.not_mem_nil, false_imp_iff, implies_true, and_true]
  refine ⟨?_, ?_⟩
  · rw [(State.raise_frame _ _ _ _ _).get (by simp [ledgerOf, archiveLoss]), State.get_bump, if_pos rfl, hev]
  · rw [(State.raise_frame _ _ _ _ _).get (by simp [ledgerOf, archiveLoss]), State.get_bump, if_neg (by simp), State.tilePulse_word]
    rfl

theorem State.lateBegun_eng (s : State) (r cause : Nat) : ((s.lateBegun r cause).eng r).late = some (s.tick, cause) := by
  rw [(State.raise_frame _ _ _ _ _).eng (by simp), State.eng_bump, (State.tilePulse_frame _ _ _).eng (by simp), State.eng_onEng_self (s.eng_reel r)]
  rfl

theorem State.lateBegun_raised (s : State) (r cause : Nat) : Raised s (s.lateBegun r cause) 22 (unitTile (tileOfReel r)) (1 <<< tileOfReel r) :=
  Raised.of_before (s.lateCounted_frame r cause) (State.raise_raised _ _ _ _ _) (by simp) (by simp [named]) (by simp [named])

/-- An episode begins: a recovery cut is awaited, or the reel holds. -/
theorem exec_lateLeaf {r : Fin 1024} {cause : Fin 4} (hc : cause ≠ 3) (h2 : s.reelState r = 2) (hd : s.playsData r = true) (hl : (s.eng r).late = none)
    (hs : s.lateShadow r cause = none) (ha : s.is (Fld.LDG_ACTIVE 22) = false) : exec (.lateLeaf r cause) s =
      .next (if s.get (Fld.REEL_LATE_POL r) = 3 ∧ (s.eng r).guard ≤ s.tick then (s.lateBegun r cause).onEng r (fun e => { e with recAt := some (wordUp s.tick) })
        else (s.lateBegun r cause).enterState r 4) := by
  have hreal : s.reelState r = 2 ∧ s.playsData r = true ∧ (s.eng r).late.isNone = true ∧ ((cause : Nat) ≠ 3 ∨ ((s.card (s.get (Fld.REEL_CARD r))).streamed = true ∧
      s.get (Fld.MS_STRM_FILL (s.card (s.get (Fld.REEL_CARD r))).stream) = s.get (Fld.MS_STRM_PLAY (s.card (s.get (Fld.REEL_CARD r))).stream))) :=
    ⟨h2, hd, by rw [hl]; rfl, .inl (fun h => hc (Fin.ext h))⟩
  have hactive : (s.lateCounted r cause).is (Fld.LDG_ACTIVE 22) = false := by
    rw [State.is, (s.lateCounted_frame r cause).get (by simp [named])]
    exact ha
  change execLateLeaf r cause s = _
  rw [execLateLeaf]
  dsimp only
  rw [if_pos hreal, hs]
  dsimp only
  rw [State.raisePerTile_inactive hactive]
  rfl

theorem exec_lateLeaf_keeps {r : Fin 1024} {cause : Fin 4} (h : s.reelState r ≠ 2 ∨ s.playsData r = false ∨ (s.eng r).late.isSome = true) : exec (.lateLeaf r cause) s = .next s := by
  change execLateLeaf r cause s = _
  rw [execLateLeaf]
  refine congrArg Host.Outcome.next (if_neg ?_)
  rintro ⟨h2, hd, hl, -⟩
  rcases h with h | h | h
  · exact h h2
  · simp [h] at hd
  · rw [Option.isNone_iff_eq_none] at hl
    simp [hl] at h

theorem exec_lateLeaf_stored {r : Fin 1024} {cause : Fin 4} (hc : cause = 3) (h : (s.card (s.get (Fld.REEL_CARD r))).streamed = false) : exec (.lateLeaf r cause) s = .next s := by
  change execLateLeaf r cause s = _
  rw [execLateLeaf]
  refine congrArg Host.Outcome.next (if_neg ?_)
  rintro ⟨-, -, -, hr | hr⟩
  · exact hr (by rw [hc]; rfl)
  · simp [h] at hr

/-- The reel enters HOLDING (R189, R190). -/
theorem lateLeaf_does_hold {r : Fin 1024} {cause : Fin 4} (hc : cause ≠ 3) (h2 : s.reelState r = 2) (hd : s.playsData r = true) (hl : (s.eng r).late = none)
    (hs : s.lateShadow r cause = none) (ha : s.is (Fld.LDG_ACTIVE 22) = false) (hpol : s.get (Fld.REEL_LATE_POL r) ≠ 3 ∨ s.tick < (s.eng r).guard) :
    Does (.lateLeaf r cause) s [.engines, .edges, .arcBuf] (fun x => lateReport x || amongAt [.TL_REEL_ACTIVE, .TL_REEL_FAULTED] (tileOfReel r) x)
      ((Fld.REEL_STATE r, 4) :: s.lateValues r) (fun t => (t.eng r).late = some (s.tick, (cause : Nat)) ∧ Raised s t 22 (unitTile (tileOfReel r)) (1 <<< tileOfReel r)) := by
  have hexec := exec_lateLeaf hc h2 hd hl hs ha
  have hf := s.lateBegun_frame r cause
  have hstate : (s.lateBegun r cause).reelState r = 2 := (hf.get (by simp [ledgerOf, archiveLoss, named])).trans h2
  rw [if_neg (by omega), State.enterState_eq (.inl (by omega)) (.inr (.inl (by decide)))] at hexec
  have hshow := (s.lateBegun r cause).showState_frame r 4
  refine ⟨_, hexec, ?_, ?_, ?_, (s.lateBegun_raised r cause).of_after hshow (by simp [amongAt])⟩
  · rw [List.forall_mem_cons]
    refine ⟨(State.showState_state _ _ _).trans rfl, fun q hq => (hshow.get ?_).trans (s.lateBegun_values r cause q hq)⟩
    simp only [List.mem_cons, List.not_mem_nil, or_false] at hq
    rcases hq with rfl | rfl <;> simp [amongAt]
  · refine hshow.via rfl (fun x hx => ?_) (hf.mono (fun _ h => h) (fun x hx => ?_))
    · rcases Bool.or_eq_true_iff.mp hx with hx | hx
      · rw [beq_iff_eq.mp hx]
        simp [named]
      · simp only [hx, Bool.or_true, Bool.true_or]
    · rcases Bool.or_eq_true_iff.mp hx with hx | hx
      · simp only [hx, Bool.true_or]
      · simp only [named, List.any_cons] at hx ⊢
        simp only [hx, Bool.or_true]
  · rw [hshow.eng (by simp), s.lateBegun_eng r cause]

/-- Under the CUT policy the reel awaits its recovery cut (R193). -/
theorem lateLeaf_does_cut {r : Fin 1024} {cause : Fin 4} (hc : cause ≠ 3) (h2 : s.reelState r = 2) (hd : s.playsData r = true) (hl : (s.eng r).late = none)
    (hs : s.lateShadow r cause = none) (ha : s.is (Fld.LDG_ACTIVE 22) = false) (hpol : s.get (Fld.REEL_LATE_POL r) = 3) (hg : (s.eng r).guard ≤ s.tick) :
    Does (.lateLeaf r cause) s [.engines, .edges, .arcBuf] lateReport (s.lateValues r)
      (fun t => ((t.eng r).late = some (s.tick, (cause : Nat)) ∧ Raised s t 22 (unitTile (tileOfReel r)) (1 <<< tileOfReel r)) ∧ (t.eng r).recAt = some (wordUp s.tick)) := by
  have hexec := exec_lateLeaf hc h2 hd hl hs ha
  rw [if_pos ⟨hpol, hg⟩] at hexec
  have hmark := (s.lateBegun r cause).onEng_frame r (fun e => { e with recAt := some (wordUp s.tick) })
  have heng := State.eng_onEng_self (s := s.lateBegun r cause) (f := fun e => { e with recAt := some (wordUp s.tick) }) (State.eng_reel _ r)
  refine ⟨_, hexec, fun q hq => (hmark.get rfl).trans (s.lateBegun_values r cause q hq), hmark.via rfl (by simp) (s.lateBegun_frame r cause), ⟨?_, ?_⟩, ?_⟩
  · rw [heng]
    exact s.lateBegun_eng r cause
  · exact (s.lateBegun_raised r cause).of_after hmark (fun _ _ _ => rfl)
  · rw [heng]

/-! ### The end of an episode (R191, R192) -/

/-- What an episode that began at `tm` by `cause` leaves in the counts of its tile when it ends at tick `t`. -/
abbrev State.lateEnded (s : State) (r t tm cause : Nat) : State :=
  (((s.archive 3 (unitReel r) t [lo32 tm, hi32 tm, (t - tm + 7) / 8, s.get (Fld.REEL_CARD r) + s.get (Fld.REEL_LATE_POL r) * 2 ^ 20 + cause * 2 ^ 24]).bump (Fld.TL_LATE_CNT (tileOfReel r))).set2
    (Fld.TL_LATE_WORDS_LO (tileOfReel r)) (Fld.TL_LATE_WORDS_HI (tileOfReel r))
      (s.get2 (Fld.TL_LATE_WORDS_LO (tileOfReel r)) (Fld.TL_LATE_WORDS_HI (tileOfReel r)) + (t - tm + 7) / 8)).sets
    [(Fld.TL_LATE_LAST_CAUSE (tileOfReel r), cause), (Fld.TL_LATE_LAST_POL (tileOfReel r), s.get (Fld.REEL_LATE_POL r)), (Fld.TL_LATE_LAST_REEL (tileOfReel r), r % 128),
      (Fld.TL_CUT_EVT_LATE_LEAF (tileOfReel r), 1)]

theorem State.endEpisode_late {l : Nat × Nat} (h : (s.eng r).late = some l) (t : Nat) :
    s.endEpisode r t = (s.lateEnded r t l.1 l.2).onEng r (fun e => { e with late := none }) := by
  rw [State.endEpisode, h]

theorem State.lateEnded_values (s : State) (r t tm cause : Nat) : let u := s.lateEnded r t tm cause
    u.get (Fld.TL_LATE_CNT (tileOfReel r)) = min (s.get (Fld.TL_LATE_CNT (tileOfReel r)) + 1) (2 ^ 32 - 1) ∧
      u.get (Fld.TL_LATE_LAST_CAUSE (tileOfReel r)) = cause % 2 ^ (Fld.TL_LATE_LAST_CAUSE (tileOfReel r)).w ∧
      u.get (Fld.TL_LATE_LAST_POL (tileOfReel r)) = s.get (Fld.REEL_LATE_POL r) ∧ u.get (Fld.TL_LATE_LAST_REEL (tileOfReel r)) = r % 128 ∧
      u.get (Fld.TL_CUT_EVT_LATE_LEAF (tileOfReel r)) = 1 ∧
      u.get2 (Fld.TL_LATE_WORDS_LO (tileOfReel r)) (Fld.TL_LATE_WORDS_HI (tileOfReel r)) =
        (s.get2 (Fld.TL_LATE_WORDS_LO (tileOfReel r)) (Fld.TL_LATE_WORDS_HI (tileOfReel r)) + (t - tm + 7) / 8) % 2 ^ 64 := by
  have ha : ∀ l, (s.archive 3 (unitReel r) t l).get (Fld.TL_LATE_CNT (tileOfReel r)) = s.get (Fld.TL_LATE_CNT (tileOfReel r)) := fun l =>
    (State.archive_frame s 3 (unitReel r) t l false).get (by simp [archiveLoss])
  have hpol : s.get (Fld.REEL_LATE_POL r) % 4 = s.get (Fld.REEL_LATE_POL r) := s.get_mod_of_le _ (Nat.le_refl _)
  intro u
  refine ⟨?_, ?_, ?_, ?_, ?_, ?_⟩
  · simp [u, State.get_set, State.get_set2, ha]
  · simp [u, State.get_set]
  · simp [u, State.get_set, hpol]
  · simp [u, State.get_set]
  · simp [u]
  · rw [State.get2]
    simp only [u, State.lateEnded]
    generalize s.get2 _ _ + (t - tm + 7) / 8 = n
    simp [State.get_set, State.get_set2]
    omega

theorem exec_lateResume_keeps {r : Fin 1024} (h : s.reelState r ≠ 4 ∨ s.tick % 8 ≠ 0) : exec (.lateResume r) s = .next s := by
  change execLateResume r s = _
  rw [execLateResume]
  refine congrArg Host.Outcome.next (if_neg ?_)
  rintro ⟨h4, h8⟩
  exact h.elim (· h4) (· h8)

theorem exec_lateResume {r : Fin 1024} (h4 : s.reelState r = 4) (h8 : s.tick % 8 = 0) :
    exec (.lateResume r) s = .next ((s.endEpisode r s.tick).showState r 2) := by
  have hstate : (s.endEpisode r s.tick).reelState r = 4 := ((s.endEpisode_frame r s.tick).get (by simp [archiveLoss])).trans h4
  change execLateResume r s = _
  rw [execLateResume]
  refine congrArg Host.Outcome.next ((if_pos ⟨h4, h8⟩).trans ?_)
  exact State.enterState_eq (.inl (by rw [show s.now = s.tick from rfl]; omega)) (.inr (.inl (by decide)))

theorem lateResume_does {r : Fin 1024} (h4 : s.reelState r = 4) (h8 : s.tick % 8 = 0) {l : Nat × Nat} (hl : (s.eng r).late = some l) : let tile := tileOfReel r
    Does (.lateResume r) s [.engines, .arcBuf] (fun x => amongAt [.TL_REEL_ACTIVE, .TL_REEL_FAULTED, .TL_LATE_WORDS_LO, .TL_LATE_WORDS_HI] tile x || archiveLoss x)
      [(Fld.REEL_STATE r, 2), (Fld.TL_LATE_CNT tile, min (s.get (Fld.TL_LATE_CNT tile) + 1) (2 ^ 32 - 1)), (Fld.TL_LATE_LAST_CAUSE tile, l.2 % 2 ^ (Fld.TL_LATE_LAST_CAUSE tile).w), (Fld.TL_LATE_LAST_POL tile, s.get (Fld.REEL_LATE_POL r)),
        (Fld.TL_LATE_LAST_REEL tile, r % 128), (Fld.TL_CUT_EVT_LATE_LEAF tile, 1)]
      (fun t => (t.eng r).late = none ∧ t.get2 (Fld.TL_LATE_WORDS_LO tile) (Fld.TL_LATE_WORDS_HI tile) = (s.get2 (Fld.TL_LATE_WORDS_LO tile) (Fld.TL_LATE_WORDS_HI tile) + (s.tick - l.1 + 7) / 8) % 2 ^ 64) := by
  intro tile
  obtain ⟨hcnt, hcause, hpol, hreel, hevt, hwords⟩ := s.lateEnded_values r s.tick l.1 l.2
  have hshow := (s.endEpisode r s.tick).showState_frame r 2
  have hget : ∀ k, shownOf r k = false → ((s.endEpisode r s.tick).showState r 2).get k = (s.lateEnded r s.tick l.1 l.2).get k := fun k hk => by
    rw [hshow.get hk, State.endEpisode_late hl, (State.onEng_frame _ _ _).get rfl]
  refine ⟨_, exec_lateResume h4 h8, ?_, ?_, ?_, ?_⟩
  · simp only [List.forall_mem_cons, List.not_mem_nil, false_imp_iff, implies_true, and_true]
    refine ⟨(State.showState_state _ _ _).trans rfl, ?_, ?_, ?_, ?_, ?_⟩
    · rw [hget _ (by simp [shownOf, amongAt]), hcnt]
    · rw [hget _ (by simp [shownOf, amongAt]), hcause]
    · rw [hget _ (by simp [shownOf, amongAt]), hpol]
    · rw [hget _ (by simp [shownOf, amongAt]), hreel]
    · rw [hget _ (by simp [shownOf, amongAt]), hevt]
  · refine hshow.via rfl (fun x hx => ?_) ((s.endEpisode_frame r s.tick).mono (fun _ h => h) (fun x hx => ?_))
    · rcases Bool.or_eq_true_iff.mp hx with hx | hx
      · rw [beq_iff_eq.mp hx]
        simp [named]
      · simp only [amongAt, Bool.and_eq_true, List.contains_cons, List.contains_nil, Bool.or_eq_true, beq_iff_eq, Bool.false_eq_true, or_false] at hx
        rcases hx with ⟨h | h, hi⟩ <;> simp [amongAt, h, hi, tile]
    · rcases Bool.or_eq_true_iff.mp hx with hx | hx
      · simp only [List.contains_cons, List.contains_nil, Bool.or_eq_true, beq_iff_eq, Bool.false_eq_true, or_false] at hx
        rcases hx with rfl | rfl | rfl | rfl | rfl | rfl | rfl <;> simp [amongAt, named, tile]
      · simp only [hx, Bool.or_true, Bool.true_or]
  · rw [hshow.eng (by simp), State.endEpisode_eng]
  · rw [← hwords, State.get2, State.get2, hget _ (by simp [shownOf, amongAt]), hget _ (by simp [shownOf, amongAt])]

/-! ### The recovery cut (R193) -/

/-- The context of a reel whose recovery cut is taken at `x`. -/
abbrev recoveryContext (sp q x : Nat) (e : Engine) : Engine :=
  { e with recAt := none, guard := x + 512, hold := 0, deferred := [], lastCut := x, cutEntry := some (sp, ⟨q, 4, false, 0, 0, false, 0, 0, 1, x, 0⟩, false) }

/-- The late cue has been left, its cuts discarded and its stacks emptied. -/
abbrev State.recovered (s : State) (r x : Nat) : State :=
  (((s.leaveCue r x).discardCuts r).setStacks r ⟨[], []⟩).onEng r (recoveryContext (s.get (Fld.REEL_SP r)) (s.get (Fld.REEL_RECOVER r)) x)

abbrev State.recoveryCounted (s : State) (r x : Nat) : State :=
  ((s.recovered r x).bump (Fld.TL_CUT_CNT (tileOfReel r))).flag (Fld.TL_CUT_EVT_RECOVER (tileOfReel r))

theorem exec_recoveryCut {r : Fin 1024} {x : Nat} (hx : (s.eng r).recAt = some x) (ht : x ≤ s.tick) (hd : s.displaced r x = false) (h2 : s.reelState r = 2) :
    exec (.recoveryCut r) s = .next ((s.recoveryCounted r x).runChain r x (s.get (Fld.REEL_RECOVER r)) ((s.recovered r x).targetWords r (s.get (Fld.REEL_RECOVER r)))) := by
  have hgo : (decide (s.now < x) || s.displaced r x || s.reelState r != 2) = false := by
    change (decide (s.tick < x) || _ || _) = false
    simp [hd, h2, ht]
  change execRecoveryCut r s = _
  rw [execRecoveryCut]
  dsimp only
  rw [hx]
  dsimp only
  rw [hgo]
  rfl

theorem exec_recoveryCut_none {r : Fin 1024} (h : (s.eng r).recAt = none) : exec (.recoveryCut r) s = .next s := by
  change execRecoveryCut r s = _
  rw [execRecoveryCut, h]

theorem exec_recoveryCut_keeps {r : Fin 1024} {x : Nat} (hx : (s.eng r).recAt = some x) (h : s.tick < x ∨ s.displaced r x = true ∨ s.reelState r ≠ 2) :
    exec (.recoveryCut r) s = .next s := by
  have hgo : (decide (s.now < x) || s.displaced r x || s.reelState r != 2) = true := by
    change (decide (s.tick < x) || _ || _) = true
    simpa [or_assoc] using h
  change execRecoveryCut r s = _
  rw [execRecoveryCut]
  dsimp only
  rw [hx]
  dsimp only
  rw [hgo]
  rfl

/-- The fields of reel `r` and its reports that change on the way to the target of a recovery cut. -/
abbrev recoverOf (r : Nat) (x : Key) : Bool :=
  leaveOf r x || x == Fld.REEL_CUT_ARMED r || x == Fld.TL_CUT_EVT_COMMIT_DISCARDED (tileOfReel r) || stackOf r x

theorem State.recovered_frame (s : State) (r x : Nat) : Frame s (s.recovered r x) [.engines, .arcBuf] (recoverOf r) := by
  refine (State.onEng_frame _ _ _).via rfl (by simp) ((State.setStacks_frame _ _ _).via rfl (fun k hk => ?_) ((State.discardCuts_frame _ _).via rfl (fun k hk => ?_)
    ((s.leaveCue_frame r x).mono (fun _ h => h) (fun k hk => ?_))))
  · simp only [recoverOf, hk, Bool.or_true]
  · rcases Bool.or_eq_true_iff.mp hk with hk | hk <;> simp only [recoverOf, hk, Bool.or_true, Bool.true_or]
  · simp only [recoverOf, hk, Bool.true_or]

theorem State.recovered_eng (s : State) (r x : Nat) : ∃ e, (s.recovered r x).eng r = recoveryContext (s.get (Fld.REEL_SP r)) (s.get (Fld.REEL_RECOVER r)) x e ∧
    e.callDepth = 0 ∧ e.targets = (s.eng r).targets ∧ e.pendingSet = (s.eng r).pendingSet := by
  obtain ⟨v, p, a, b, he⟩ := s.leaveCue_eng r x
  refine ⟨_, State.eng_onEng_self (State.eng_reel _ r), ?_, ?_, ?_⟩
  · rw [State.setStacks_eng]; rfl
  · rw [State.setStacks_eng, State.discardCuts_eng, he]
  · rw [State.setStacks_eng, State.discardCuts_eng, he]

/-- The target words of a reel that replays stored data are its chain as the window read it. -/
theorem State.targetWords_replay {q : Nat} {p : Nat × List WinCue} (hv : s.voice r = 0) (ht : (s.eng r).targets.find? (fun y => y.1 == q) = some p) : s.targetWords r q = p.2 := by
  have hid : ∀ l : List WinCue, l.map (fun c => if s.voice r = 4 ∧ (cueOp c.w = 1 ∨ cueOp c.w = 2) then { c with data := s.rampEntry r (s.get (Fld.REEL_RIDX r)) } else c) = l := fun l =>
    List.map_id'' (fun c => if_neg (fun h => by omega)) l
  rw [State.targetWords, hid, ht]
  rfl

/-- `chainOf` and what a recovery cut reports. -/
theorem recoverOf_chainOf (x : Key) (h : recoverOf r x = true) : chainOf r x = true ∨ x = Fld.REEL_CUT_ARMED r := by
  simp only [recoverOf, Bool.or_eq_true] at h
  rcases h with ((h | h) | h) | h
  · exact .inl (leaveOf_chainOf x (by simpa only [leaveOf, Bool.or_eq_true] using h))
  · exact .inr (beq_iff_eq.mp h)
  · rw [beq_iff_eq.mp h]
    simp [chainOf, tileMaps, amongAt]
  · refine .inl ?_
    have hr : reelOf r x = true := by
      simp only [stackOf, Bool.and_eq_true] at h
      simp only [reelOf, Bool.and_eq_true]
      exact h.1.1
    simp only [chainOf, hr, Bool.true_or]

theorem startsGap_congr {u : State} {b w : Nat} (h : startsGap s t r b w) (hr : s.rate r = u.rate r) : startsGap u t r b w := by
  unfold startsGap at h ⊢
  rwa [hr] at h

theorem recoveryCut_does {r : Fin 1024} {x : Nat} (hx : (s.eng r).recAt = some x) (ht : x ≤ s.tick) (hd : s.displaced r x = false) (h2 : s.reelState r = 2)
    (hv : s.voice r = 0) (hp : (s.eng r).pendingSet = []) {p : Nat × List WinCue} (hp' : (s.eng r).targets.find? (fun y => y.1 == s.get (Fld.REEL_RECOVER r)) = some p)
    {c : WinCue} (hc : GapAhead c (s.get (Fld.REEL_RECOVER r)) p.2) :
    Does (.recoveryCut r) s windowParts (chainOf r) [(Fld.TL_CUT_CNT (tileOfReel r), min (s.get (Fld.TL_CUT_CNT (tileOfReel r)) + 1) (2 ^ 32 - 1)), (Fld.TL_CUT_EVT_RECOVER (tileOfReel r), 1), (Fld.REEL_CUT_ARMED r, 0)]
      (fun t => startsGap s t r x c.w ∧ t.stacks r = ⟨[], []⟩ ∧ (t.eng r).recAt = none ∧ (t.eng r).guard = x + 512) := by
  obtain ⟨e, he, hdepth, htargets, hpending⟩ := s.recovered_eng r x
  have hf := s.recovered_frame r x
  have hcount : Frame (s.recovered r x) (s.recoveryCounted r x) [] (fun k => k == Fld.TL_CUT_CNT (tileOfReel r) || k == Fld.TL_CUT_EVT_RECOVER (tileOfReel r)) :=
    ((Frame.refl _ _ _).putBump (by simp)).putFlag (by simp)
  have hget : ∀ k, recoverOf r k = false → (s.recovered r x).get k = s.get k := fun k hk => hf.get hk
  have hce : (s.recoveryCounted r x).eng r = recoveryContext (s.get (Fld.REEL_SP r)) (s.get (Fld.REEL_RECOVER r)) x e := (hcount.eng (by simp) r).trans he
  have hwords : (s.recovered r x).targetWords r (s.get (Fld.REEL_RECOVER r)) = p.2 :=
    State.targetWords_replay ((hget _ (by simp [stackOf, archiveLoss])).trans hv) (by rw [he]; exact (congrArg _ htargets).trans hp')
  obtain ⟨hframe, hgap, hrec, hguard, hcall, -⟩ := State.runChain_starts (s := s.recoveryCounted r x) (r := r) hc x (by rw [hce]) (by rw [hce]; exact hpending.trans hp)
    (by rw [State.reelState, hcount.get (by simp), hget _ (by simp [stackOf, archiveLoss]), show s.get (Fld.REEL_STATE r) = 2 from h2]; decide)
  have hexec := exec_recoveryCut hx ht hd h2
  rw [hwords] at hexec
  refine ⟨_, hexec, ?_, ?_, startsGap_congr hgap ?_, State.stacks_empty (fun k hk => ?_) ?_, ?_, ?_⟩
  · simp only [List.forall_mem_cons, List.not_mem_nil, false_imp_iff, implies_true, and_true]
    refine ⟨?_, ?_, ?_⟩
    · rw [hframe.get (by simp [amongAt, headKeys, ledgerOf, archiveLoss]), State.recoveryCounted, State.flag_eq, State.get_set_ne _ _ (by simp), State.get_bump, if_pos rfl, hget _ (by simp [stackOf, archiveLoss])]
    · rw [hframe.get (by simp [amongAt, headKeys, ledgerOf, archiveLoss]), State.recoveryCounted, State.flag_eq, State.get_set_self]
      rfl
    · rw [hframe.get (by simp [amongAt, headKeys, ledgerOf, archiveLoss]), hcount.get (by simp), (State.onEng_frame _ _ _).get rfl, (State.setStacks_frame _ _ _).get (by simp [stackOf]),
        State.discardCuts, State.clr_eq, State.get_set_self]
      rfl
  · refine hframe.via rfl (fun k hk => ?_) (hcount.via rfl (fun k hk => ?_) (hf.mono (by simp) (fun k hk => ?_)))
    · simp only [startOf_chainOf k hk, Bool.true_or]
    · rcases Bool.or_eq_true_iff.mp hk with hk | hk <;> rw [beq_iff_eq.mp hk] <;> simp [named]
    · rcases recoverOf_chainOf k hk with hk | rfl
      · simp only [hk, Bool.true_or]
      · simp [named]
  · rw [State.rate, hcount.get (by simp), hget _ (by simp [stackOf, archiveLoss])]
    rfl
  · rw [State.is, hframe.get (by simp [amongAt, headKeys, ledgerOf, archiveLoss]), hcount.get (by simp), (State.onEng_frame _ _ _).get rfl]
    exact State.setStacks_valid _ _ k hk
  · rw [hcall, hce]
    exact hdepth
  · rw [hrec, hce]
  · rw [hguard, hce]

/-- Settles O41: a head slot follows the loan of its card; a late episode is counted, raised and held or cut, and its end is counted; the recovery
cut leaves the cue, empties the stacks and starts the chain at RECOVER. -/
theorem headsAndLateData : Obligations.HeadsAndLateData :=
  ⟨fun _ _ _ => ⟨headFill_does, exec_headFill_not⟩,
    fun _ _ _ => ⟨exec_lateLeaf_keeps, fun hc h2 hd hl hs ha => ⟨lateLeaf_does_hold hc h2 hd hl hs ha, lateLeaf_does_cut hc h2 hd hl hs ha⟩, exec_lateLeaf_stored⟩,
    fun _ _ => ⟨exec_lateResume_keeps, fun h4 h8 _ hl => lateResume_does h4 h8 hl⟩,
    fun _ _ => ⟨exec_recoveryCut_none, fun _ hx h => exec_recoveryCut_keeps hx h,
      fun _ hx ht hd h2 hv hp _ hp' _ hc hq ho hf => recoveryCut_does hx ht hd h2 hv hp hp' ⟨hc, hq, ho, hf⟩⟩⟩

end

end Sys2Proof.Machine
end

section
/-!
PROOFS. A reel enters STOPPING, FAULTED and ARMED (R124, R128, R158, R159, R163, R197).
-/
namespace Sys2Proof.Machine

section
variable {s t : State} {r : Nat}

/-! ### The map of active reels -/

theorem State.bit_clrBit_self (s : State) (key : Nat → Key) (b : Nat) : (s.clrBit key b).bit key b = false := by
  unfold State.clrBit State.bit
  split
  case isTrue h =>
    have hput := putBit_testBit (s.get (key (b / 32))) (b % 32) false (b % 32)
    rw [putBit, if_neg Bool.false_ne_true, if_pos h, if_pos rfl] at hput
    rw [State.get_set_self, Nat.testBit_mod_two_pow, hput, Bool.and_false]
  case isFalse h => simpa using h

theorem State.showState_idle_inactive (s : State) (r : Nat) : (s.showState r 0).bit (Fld.TL_REEL_ACTIVE (tileOfReel r)) (r % 128) = false := by
  have hlast : Frame ((s.set (Fld.REEL_STATE r) 0).clrBit (Fld.TL_REEL_ACTIVE (tileOfReel r)) (r % 128)) (s.showState r 0) [] (fun x => x.r == .TL_REEL_FAULTED) :=
    Frame.putClrBit (fun _ => rfl) (Frame.refl _ _ _)
  rw [State.bit, hlast.get rfl]
  exact State.bit_clrBit_self _ _ _

/-! ### STOPPING -/

theorem State.quitRun_group (s : State) (r t : Nat) : (s.quitRun r t).groupOfDrive r = s.groupOfDrive r :=
  State.groupOfDrive_congr (fun k hk => (s.quitRun_frame r t).get (by
    obtain ⟨kr, ki, kj, kl, kw⟩ := k
    subst hk
    simp [archiveLoss, amongAt])) r

theorem State.quitRun_state (s : State) (r t : Nat) : (s.quitRun r t).reelState r = s.reelState r := (s.quitRun_frame r t).get (by simp [archiveLoss, amongAt])

/-- A reel that leaves its run for a state in which it does not run, and drives no group, only shows it. -/
theorem State.quitRun_enter {st : Nat} (h0 : s.reelState r ≠ 0) (hg : s.groupOfDrive r = none) (t : Nat) : (s.quitRun r t).enterState r st = (s.quitRun r t).showState r st :=
  State.enterState_eq (.inl (by rwa [State.quitRun_state])) (.inr (.inr (by rwa [State.quitRun_group])))

theorem State.enterStopping_eq (h0 : s.reelState r ≠ 0) (hg : s.groupOfDrive r = none) (t : Nat) :
    s.enterStopping r t = ((s.quitRun r t).showState r 5).onEng r (fun e => { e with stopAt := s.tick }) := by
  rw [State.enterStopping, State.quitRun_enter h0 hg]
  rfl

abbrev stoppingOf (r : Nat) (x : Key) : Bool := quitOf r x || shownOf r x

theorem State.enterStopping_frame (h0 : s.reelState r ≠ 0) (hg : s.groupOfDrive r = none) (t : Nat) : Frame s (s.enterStopping r t) [.engines, .arcBuf] (stoppingOf r) := by
  rw [State.enterStopping_eq h0 hg]
  refine (State.onEng_frame _ _ _).via rfl (by simp) ((State.showState_frame _ _ _).via rfl (fun x hx => ?_) ((s.quitRun_frame r t).mono (fun _ h => h) (fun x hx => ?_)))
  · simp only [stoppingOf, hx, Bool.or_true]
  · simp only [stoppingOf, hx, Bool.true_or]

theorem State.enterStopping_values (h0 : s.reelState r ≠ 0) (hg : s.groupOfDrive r = none) (t : Nat) : let u := s.enterStopping r t
    u.get (Fld.REEL_STATE r) = 5 ∧ u.get (Fld.REEL_STOP_TICK_LO r) = 2 ^ 32 - 1 ∧ u.get (Fld.REEL_STOP_TICK_HI r) = 2 ^ 32 - 1 ∧ u.get (Fld.REEL_CUT_ARMED r) = 0 := by
  rw [State.enterStopping_eq h0 hg]
  refine ⟨?_, ?_, ?_, ?_⟩
  · rw [(State.onEng_frame _ _ _).get rfl, State.showState_state]
    rfl
  · rw [(State.onEng_frame _ _ _).get rfl, (State.showState_frame _ _ _).get (by simp [amongAt]), (s.quitRun_stop r t).1]
  · rw [(State.onEng_frame _ _ _).get rfl, (State.showState_frame _ _ _).get (by simp [amongAt]), (s.quitRun_stop r t).2]
  · rw [(State.onEng_frame _ _ _).get rfl, (State.showState_frame _ _ _).get (by simp [amongAt]), s.quitRun_cut r t]

theorem State.enterStopping_eng (h0 : s.reelState r ≠ 0) (hg : s.groupOfDrive r = none) (t : Nat) :
    ((s.enterStopping r t).eng r).Quit ∧ ((s.enterStopping r t).eng r).stopAt = s.tick := by
  rw [State.enterStopping_eq h0 hg, State.eng_onEng_self (State.eng_reel _ r), (State.showState_frame _ _ _).eng (by simp)]
  obtain ⟨h1, h2, h3, h4, h5, h6, h7, h8, h9⟩ := s.quitRun_quit r t
  exact ⟨⟨h1, h2, h3, h4, h5, h6, h7, h8, h9⟩, rfl⟩

/-! ### ARMED -/

/-- The fields that the current set of reel `r` holds, and what they are loaded from (R197). -/
abbrev State.baseSet (s : State) (r : Nat) : List (Key × Nat) :=
  [(Fld.REEL_FTW_CUR_LO r, s.get (Fld.REEL_FTW_LO r)), (Fld.REEL_FTW_CUR_HI r, s.get (Fld.REEL_FTW_HI r)), (Fld.REEL_P_CUR_LO r, s.get (Fld.REEL_P_LO r)),
    (Fld.REEL_P_CUR_HI r, s.get (Fld.REEL_P_HI r)), (Fld.REEL_CRW_CUR_LO r, s.get (Fld.REEL_CRW_LO r)), (Fld.REEL_CRW_CUR_HI r, s.get (Fld.REEL_CRW_HI r)),
    (Fld.REEL_FTW_X r, 0), (Fld.REEL_P_X r, 0), (Fld.REEL_AMP_CUR r, s.get (Fld.REEL_AMP r)), (Fld.REEL_NSCALE_CUR r, s.get (Fld.REEL_NSCALE r)),
    (Fld.REEL_KURT_CUR r, max 0x300 (s.get (Fld.REEL_KURT r)))]

/-- The record of a reel as it is armed. -/
abbrev State.armedRecord (s : State) (r : Nat) : State :=
  s.sets [(Fld.REEL_SP r, s.get (Fld.REEL_ENTRY r)), (Fld.REEL_RATE r, s.get (Fld.REEL_BOOKED r)), (Fld.REEL_RIDX r, 0)]

/-- The fields of the record of reel `r` that arming it writes, beside its state and its stacks. -/
abbrev armedKeys (r : Nat) : List Key :=
  [Fld.REEL_SP r, Fld.REEL_RATE r, Fld.REEL_RIDX r, Fld.REEL_FTW_CUR_LO r, Fld.REEL_FTW_CUR_HI r, Fld.REEL_P_CUR_LO r, Fld.REEL_P_CUR_HI r, Fld.REEL_CRW_CUR_LO r, Fld.REEL_CRW_CUR_HI r,
    Fld.REEL_FTW_X r, Fld.REEL_P_X r, Fld.REEL_AMP_CUR r, Fld.REEL_NSCALE_CUR r, Fld.REEL_KURT_CUR r]

abbrev armedOf (r : Nat) (x : Key) : Bool := (armedKeys r).contains x || stackOf r x || shownOf r x || windowOf r x

/-- The context of a reel armed at tick `t`. -/
abbrev armedContext (t : Nat) (e : Engine) : Engine :=
  { e with run := false, started := false, deferred := [], hold := 0, armedAt := t, lastCut := 0, cutFrom := 0, window := [], targets := [] }

/-- The record and the context of a reel as it is armed, before its window is built. -/
abbrev State.armLoaded (s : State) (r t : Nat) : State :=
  ((((s.armedRecord r).loadCurrent r).setStacks r ⟨[], []⟩).showState r 1).onEng r (armedContext t)

theorem State.loadCurrent_frame (s : State) (r : Nat) : Frame s (s.loadCurrent r) [.engines] (fun x => (armedKeys r).contains x) :=
  (State.onEng_frame _ _ _).via rfl (by simp) (Frame.puts (by simp) (Frame.refl _ _ _))

theorem State.armStacks_frame (s : State) (r : Nat) :
    Frame s (((s.armedRecord r).loadCurrent r).setStacks r ⟨[], []⟩) [.engines] (fun x => (armedKeys r).contains x || stackOf r x) :=
  (State.setStacks_frame _ _ _).via rfl (fun x hx => by simp only [hx, Bool.or_true]) ((State.loadCurrent_frame _ _).via rfl (fun x hx => by simp only [hx, Bool.true_or])
    (Frame.puts (by simp) (Frame.refl _ _ _)))

theorem State.enterArmed_eq (hcal : s.reelState r ≠ 0 ∨ s.is Lat.CAL_RUN = false) (t : Nat) :
    s.enterArmed r t = (s.armLoaded r t).buildWindow r [] (s.get (Fld.REEL_ENTRY r)) true := by
  have hf := s.armStacks_frame r
  have hshow : (((s.armedRecord r).loadCurrent r).setStacks r ⟨[], []⟩).enterState r 1 = (((s.armedRecord r).loadCurrent r).setStacks r ⟨[], []⟩).showState r 1 := by
    refine State.enterState_eq (hcal.imp (fun h => ?_) (fun h => .inr ?_)) (.inr (.inl (by decide)))
    · rwa [State.reelState, hf.get (by simp [stackOf])]
    · rwa [State.is, hf.get (by simp [stackOf])]
  rw [State.enterArmed]
  rw [hshow]

theorem State.armLoaded_frame (s : State) (r t : Nat) : Frame s (s.armLoaded r t) [.engines] (fun x => (armedKeys r).contains x || stackOf r x || shownOf r x) :=
  (State.onEng_frame _ _ _).via rfl (by simp) ((State.showState_frame _ _ _).via rfl (fun x hx => by simp only [hx, Bool.or_true])
    ((s.armStacks_frame r).mono (fun _ h => h) (fun x hx => by simp only [hx, Bool.true_or])))

theorem State.enterArmed_frame (hcal : s.reelState r ≠ 0 ∨ s.is Lat.CAL_RUN = false) (t : Nat) : Frame s (s.enterArmed r t) windowParts (armedOf r) := by
  rw [State.enterArmed_eq hcal]
  exact (State.buildWindow_frame _ _ _ _ _).via rfl (fun x hx => by simp only [armedOf, hx, Bool.or_true]) ((s.armLoaded_frame r t).mono (by simp) (fun x hx => by
    simp only [armedOf, hx, Bool.true_or]))

/-- A field that arming writes outside state, stacks and window holds what the record or the current set was given. -/
theorem State.enterArmed_record (hcal : s.reelState r ≠ 0 ∨ s.is Lat.CAL_RUN = false) (t : Nat) {k : Key} (hw : windowOf r k = false) (hs : shownOf r k = false) (hk : stackOf r k = false) :
    (s.enterArmed r t).get k = ((s.armedRecord r).sets ((s.armedRecord r).baseSet r)).get k := by
  rw [State.enterArmed_eq hcal, (State.buildWindow_frame _ _ _ _ _).get hw, (State.onEng_frame _ _ _).get rfl, (State.showState_frame _ _ _).get hs, (State.setStacks_frame _ _ _).get hk,
    State.loadCurrent, (State.onEng_frame _ _ _).get rfl]

theorem State.enterArmed_values (hcal : s.reelState r ≠ 0 ∨ s.is Lat.CAL_RUN = false) (t : Nat) : let u := s.enterArmed r t
    u.get (Fld.REEL_STATE r) = 1 ∧ u.get (Fld.REEL_SP r) = s.get (Fld.REEL_ENTRY r) ∧ u.get (Fld.REEL_RATE r) = s.get (Fld.REEL_BOOKED r) ∧
      u.get (Fld.REEL_FTW_CUR_LO r) = s.get (Fld.REEL_FTW_LO r) ∧ u.get (Fld.REEL_P_CUR_LO r) = s.get (Fld.REEL_P_LO r) ∧ u.get (Fld.REEL_AMP_CUR r) = s.get (Fld.REEL_AMP r) := by
  have hlt : ∀ k n, 2 ^ k.w ≤ n → s.get k % n = s.get k := fun k n h => s.get_mod_of_le k h
  have h1 := hlt (Fld.REEL_ENTRY r) 65536 (Nat.le_refl _)
  have h2 := hlt (Fld.REEL_BOOKED r) 32 (Nat.le_refl _)
  have h3 := hlt (Fld.REEL_FTW_LO r) 4294967296 (Nat.le_refl _)
  have h4 := hlt (Fld.REEL_P_LO r) 4294967296 (Nat.le_refl _)
  have h5 := hlt (Fld.REEL_AMP r) 131072 (Nat.le_refl _)
  refine ⟨?_, ?_, ?_, ?_, ?_, ?_⟩
  · rw [State.enterArmed_eq hcal, (State.buildWindow_frame _ _ _ _ _).get (by simp [headKeys, ledgerOf, archiveLoss]), (State.onEng_frame _ _ _).get rfl, State.showState_state]
    rfl
  all_goals
    rw [State.enterArmed_record hcal t (by simp [headKeys, ledgerOf, archiveLoss]) (by simp [amongAt]) (by simp [stackOf])]
    simp [State.get_set, h1, h2, h3, h4, h5]

theorem State.enterArmed_eng (hcal : s.reelState r ≠ 0 ∨ s.is Lat.CAL_RUN = false) (t : Nat) :
    ((s.enterArmed r t).eng r).armedAt = t ∧ ((s.enterArmed r t).eng r).callDepth = 0 := by
  obtain ⟨⟨tg, f, he⟩, -, -⟩ := (s.armLoaded r t).buildWindow_eng r [] (s.get (Fld.REEL_ENTRY r)) true
  rw [State.enterArmed_eq hcal, he, State.eng_onEng_self (State.eng_reel _ r), (State.showState_frame _ _ _).eng (by simp), State.setStacks_eng]
  exact ⟨rfl, rfl⟩

theorem State.enterArmed_stacks (hcal : s.reelState r ≠ 0 ∨ s.is Lat.CAL_RUN = false) (t : Nat) : (s.enterArmed r t).stacks r = ⟨[], []⟩ := by
  refine State.stacks_empty (fun k hk => ?_) (State.enterArmed_eng hcal t).2
  rw [State.enterArmed_eq hcal, State.is, (State.buildWindow_frame _ _ _ _ _).get (by simp [headKeys, ledgerOf, archiveLoss]), (State.onEng_frame _ _ _).get rfl,
    (State.showState_frame _ _ _).get (by simp [amongAt])]
  exact State.setStacks_valid _ _ k hk

end

end Sys2Proof.Machine
end

section
/-!
PROOFS. Starts, boundaries and wait ends of a reel (R124, R126, R139, R142, R146).
-/
namespace Sys2Proof.Machine

section
variable {s t : State} {r : Nat}

/-! ### No cut is committed -/

theorem State.resolveBefore_none (h : (s.eng r).commit = none) (b : Nat) : s.resolveBefore r b = s := by rw [State.resolveBefore, h]

theorem State.cutBy_none (h : (s.eng r).commit = none) (b : Nat) : s.cutBy r b = false := by rw [State.cutBy, h]

theorem State.loopCutHere_none (h : (s.eng r).commit = none) (b last q : Nat) (words : List WinCue) : s.loopCutHere r b last q words = s := by rw [State.loopCutHere, h]

/-! ### A tone has no stream and no slate -/

theorem State.streamPassEnd_tone (h : s.voice r = 1) : s.streamPassEnd r = s := by
  rw [State.streamPassEnd]
  exact if_neg (fun hc => by omega)

theorem State.tone_quiet (h : s.voice r = 1) : s.startsQuietly r := .inr (.inl h)

theorem State.nextGap_gap {c : WinCue} {q : Nat} {words : List WinCue} (hh : words.head? = some c) (hq : c.q = q) (h : s.nextGap r c = true) :
    GapAhead c q words ∧ (s.eng r).deferred = [] ∧ (s.eng r).pendingSet = [] := by
  simp only [State.nextGap, Bool.and_eq_true, beq_iff_eq, List.isEmpty_iff] at h
  obtain ⟨⟨⟨⟨hd, hp⟩, -⟩, ho⟩, hf⟩ := h
  exact ⟨⟨hh, hq, ho, hf⟩, hd, hp⟩

/-- A step on the way to a chain on a gap cue: what it changes belongs to the chain, and nothing waits for the anchor tick. -/
structure ReadyFor (s u : State) (r : Nat) : Prop where
  frame : Frame s u windowParts (chainOf r)
  rate : u.rate r = s.rate r
  state : u.reelState r = s.reelState r
  deferred : (u.eng r).deferred = (s.eng r).deferred
  pending : (u.eng r).pendingSet = (s.eng r).pendingSet

theorem ReadyFor.refl (s : State) (r : Nat) : ReadyFor s s r := ⟨Frame.refl _ _ _, rfl, rfl, rfl, rfl⟩

theorem State.keepLast_ready (s : State) (r b : Nat) : ReadyFor s (s.keepLast r b) r := by
  obtain ⟨v, hv⟩ := s.keepLast_eng r b
  exact ⟨(s.keepLast_frame r b).mono (by simp) (by simp), rfl, rfl, by rw [hv], by rw [hv]⟩

theorem State.leaveCue_ready (s : State) (r b : Nat) : ReadyFor s (s.leaveCue r b) r := by
  obtain ⟨v, p, x, y, hv⟩ := s.leaveCue_eng r b
  have hf := s.leaveCue_frame r b
  exact ⟨hf.mono (by simp) leaveOf_chainOf, hf.get (by simp [archiveLoss]), hf.get (by simp [archiveLoss]), by rw [hv], by rw [hv]⟩

/-- From a state in which nothing waits for its anchor tick, a chain on a gap cue starts it. -/
theorem ReadyFor.does {c : Instr} {u : State} {g : WinCue} {b q : Nat} {words : List WinCue} (hu : ReadyFor s u r) (hexec : exec c s = .next (u.runChain r b q words))
    (hh : words.head? = some g) (hq : g.q = q) (hg : s.nextGap r g = true) (hs : 1 ≤ s.reelState r ∧ s.reelState r ≤ 4) :
    Does c s windowParts (chainOf r) [] (fun t => startsGap s t r b g.w) := by
  obtain ⟨hgap, hd, hp⟩ := State.nextGap_gap hh hq hg
  obtain ⟨hframe, hstart, -⟩ := State.runChain_starts hgap b (hu.deferred.trans hd) (hu.pending.trans hp) (by rwa [hu.state])
  refine ⟨_, hexec, by simp, ?_, startsGap_congr hstart hu.rate⟩
  exact (hframe.via rfl (fun x hx => startOf_chainOf x hx) hu.frame).mono (fun _ h => h) (fun x hx => by simp only [hx, Bool.true_or])

/-! ### REEL_START -/

theorem exec_reelStart_keeps {r : Fin 1024} (h : s.reelState r ≠ 1 ∨ s.startTick r = none) : exec (.reelStart r) s = .next s := by
  change execReelStart r s = _
  rw [execReelStart]
  split
  case isTrue => rfl
  case isFalse h1 => rw [h.resolve_left h1]

theorem exec_reelStart {r : Fin 1024} (h1 : s.reelState r = 1) {b : Nat} (hb : s.startTick r = some b) :
    exec (.reelStart r) s = .next (if s.displaced r b then s else s.runChain r b (s.get (Fld.REEL_SP r)) (s.eng r).window) := by
  change execReelStart r s = _
  rw [execReelStart, if_neg (not_not.mpr h1), hb]

theorem exec_reelStart_displaced {r : Fin 1024} (h1 : s.reelState r = 1) {b : Nat} (hb : s.startTick r = some b) (hd : s.displaced r b = true) :
    exec (.reelStart r) s = .next s := by
  rw [exec_reelStart h1 hb, if_pos hd]

theorem reelStart_does {r : Fin 1024} (h1 : s.reelState r = 1) {b : Nat} (hb : s.startTick r = some b) (hd : s.displaced r b = false)
    {c : WinCue} (hh : (s.eng r).window.head? = some c) (hq : c.q = s.get (Fld.REEL_SP r)) (hg : s.nextGap r c = true) :
    Does (.reelStart r) s windowParts (chainOf r) [] (fun t => startsGap s t r b c.w) :=
  (ReadyFor.refl s r).does (by rw [exec_reelStart h1 hb, if_neg (by rw [hd]; decide)]) hh hq hg (by omega)

/-! ### CUE_BOUNDARY -/

theorem exec_cueBoundary_keeps {r : Fin 1024} (h : s.reelState r ≠ 2 ∧ s.reelState r ≠ 4 ∨ (s.eng r).run = false ∨ (s.eng r).started = false ∨
    (s.tick < (s.eng r).endB ∧ s.tick < (s.eng r).passStart + (s.eng r).passLen)) : exec (.cueBoundary r) s = .next s := by
  change execCueBoundary r s = _
  rw [execCueBoundary]
  dsimp only
  split
  case isTrue => rfl
  case isFalse hgo =>
    obtain ⟨hst, hrun, hstarted⟩ := not_not.mp hgo
    have hearly : s.tick < (s.eng r).endB ∧ s.tick < (s.eng r).passStart + (s.eng r).passLen := by
      rcases h with h | h | h | h
      · omega
      · simp [hrun] at h
      · simp [hstarted] at h
      · exact h
    rw [if_neg (fun hp => Nat.not_le.mpr hearly.2 hp.2)]
    exact congrArg Host.Outcome.next (if_neg (Nat.not_le.mpr hearly.1))

/-- A pass ends before the cue does. -/
theorem exec_cueBoundary_pass {r : Fin 1024} (hc : (s.eng r).commit = none) (h2 : s.reelState r = 2) (hrun : (s.eng r).run = true) (hst : (s.eng r).started = true)
    (hp : (s.eng r).passStart + (s.eng r).passLen < (s.eng r).endB) (ht : (s.eng r).passStart + (s.eng r).passLen ≤ s.tick)
    (hd : s.displaced r ((s.eng r).passStart + (s.eng r).passLen) = false) :
    exec (.cueBoundary r) s = .next (s.passEnd r ((s.eng r).passStart + (s.eng r).passLen)) := by
  change execCueBoundary r s = _
  rw [execCueBoundary]
  dsimp only
  rw [if_neg (not_not.mpr ⟨.inl h2, hrun, hst⟩), if_pos ⟨hp, ht⟩, State.resolveBefore_none hc, State.cutBy_none hc, hd]
  rfl

/-- The next pass of a tone. -/
theorem State.passEnd_tone (h : s.voice r = 1) (p : Nat) :
    s.passEnd r p = (s.set (Fld.REEL_PASS r) (s.get (Fld.REEL_PASS r) - 1)).onEng r (fun e => { e with passStart := p }) := by
  rw [State.passEnd, State.streamPassEnd_tone h]
  set u := (s.set (Fld.REEL_PASS r) (s.get (Fld.REEL_PASS r) - 1)).onEng r (fun e => { e with passStart := p }) with hu
  have hv : u.voice r = 1 := (State.get_set_ne s _ (by simp)).trans h
  rw [State.streamPass_quiet (State.tone_quiet hv), State.cardSlate_quiet (State.tone_quiet hv)]

theorem cueBoundary_does_pass {r : Fin 1024} (hv : s.voice r = 1) (hc : (s.eng r).commit = none) (h2 : s.reelState r = 2) (hrun : (s.eng r).run = true)
    (hst : (s.eng r).started = true) (hp : (s.eng r).passStart + (s.eng r).passLen < (s.eng r).endB) (ht : (s.eng r).passStart + (s.eng r).passLen ≤ s.tick)
    (hd : s.displaced r ((s.eng r).passStart + (s.eng r).passLen) = false) :
    Does (.cueBoundary r) s [.engines] (fun _ => false) [(Fld.REEL_PASS r, s.get (Fld.REEL_PASS r) - 1)]
      (fun t => t.eng r = { s.eng r with reel := r, passStart := (s.eng r).passStart + (s.eng r).passLen }) := by
  have hexec := exec_cueBoundary_pass hc h2 hrun hst hp ht hd
  rw [State.passEnd_tone hv] at hexec
  have hlt : s.get (Fld.REEL_PASS r) < 2 ^ 24 := s.get_lt _
  refine ⟨_, hexec, ?_, ?_, ?_⟩
  · simp only [List.forall_mem_cons, List.not_mem_nil, false_imp_iff, implies_true, and_true]
    rw [(State.onEng_frame _ _ _).get rfl, State.get_set_self]
    exact Nat.mod_eq_of_lt (show _ < 2 ^ 24 by omega)
  · exact (State.onEng_frame _ _ _).via rfl (by simp) (Frame.put (by simp [named]) (Frame.refl _ _ _))
  · refine (State.eng_onEng_self (State.eng_reel _ r)).trans ?_
    exact congrArg (fun n => { s.eng r with reel := n, passStart := (s.eng r).passStart + (s.eng r).passLen }) (s.eng_reel r)

/-- The cue ends at B. -/
theorem exec_cueBoundary_end {r : Fin 1024} (hv : s.voice r = 1) (hc : (s.eng r).commit = none) (h2 : s.reelState r = 2) (hrun : (s.eng r).run = true) (hst : (s.eng r).started = true)
    (hp : (s.eng r).endB ≤ (s.eng r).passStart + (s.eng r).passLen) (ht : (s.eng r).endB ≤ s.tick) (hd : s.displaced r (s.eng r).endB = false)
    (hop : cueOp (s.curCue r).w = 0x01 ∨ cueOp (s.curCue r).w = 0x30) :
    exec (.cueBoundary r) s = .next ((s.leaveCue r (s.eng r).endB).runChain r (s.eng r).endB ((s.curCue r).q + 1) (s.eng r).window.tail) := by
  have hadv : advance (s.curCue r).q (s.curCue r).w (s.stacks r) = .to ((s.curCue r).q + 1) (s.stacks r) := by
    rcases hop with h | h <;> simp [advance, h]
  change execCueBoundary r s = _
  rw [execCueBoundary]
  dsimp only
  rw [if_neg (not_not.mpr ⟨.inl h2, hrun, hst⟩), if_neg (fun h => Nat.not_lt.mpr hp h.1), if_pos (show (s.eng r).endB ≤ s.now from ht), hadv, State.resolveBefore_none hc]
  dsimp only
  rw [State.loopCutHere_none hc, State.cutBy_none hc, hd, State.streamPassEnd_tone hv, List.drop_one]
  rfl

theorem cueBoundary_does_end {r : Fin 1024} (hv : s.voice r = 1) (hc : (s.eng r).commit = none) (h2 : s.reelState r = 2) (hrun : (s.eng r).run = true)
    (hst : (s.eng r).started = true) (hp : (s.eng r).endB ≤ (s.eng r).passStart + (s.eng r).passLen) (ht : (s.eng r).endB ≤ s.tick) (hd : s.displaced r (s.eng r).endB = false)
    (hop : cueOp (s.curCue r).w = 0x01 ∨ cueOp (s.curCue r).w = 0x30) {c : WinCue} (hh : (s.eng r).window.tail.head? = some c) (hq : c.q = (s.curCue r).q + 1)
    (hg : s.nextGap r c = true) : Does (.cueBoundary r) s windowParts (chainOf r) [] (fun t => startsGap s t r (s.eng r).endB c.w) :=
  (s.leaveCue_ready r _).does (exec_cueBoundary_end hv hc h2 hrun hst hp ht hd hop) hh hq hg (by omega)

/-! ### Wait ends -/

theorem State.afterWait_none (hc : (s.eng r).commit = none) {b : Nat} (hd : s.displaced r b = false) (q : Nat) (words : List WinCue) :
    s.afterWait r b q words = (s.keepLast r b).runChain r b q words := by
  rw [State.afterWait, State.resolveBefore_none hc, State.loopCutHere_none hc, State.cutBy_none hc, hd]
  rfl

theorem exec_waitEnd_keeps {r : Fin 1024} (h : s.reelState r ≠ 3 ∨ s.waitDone r = none) : exec (.waitEnd r) s = .next s := by
  change execWaitEnd r s = _
  rw [execWaitEnd]
  split
  case isTrue => rfl
  case isFalse h3 => rw [h.resolve_left h3]

theorem waitEnd_does {r : Fin 1024} (hc : (s.eng r).commit = none) (h3 : s.reelState r = 3) {b : Nat} (hb : s.waitDone r = some b) (hd : s.displaced r b = false)
    {c : WinCue} (hh : (s.eng r).window.tail.head? = some c) (hq : c.q = (s.curCue r).q + 1) (hg : s.nextGap r c = true) :
    Does (.waitEnd r) s windowParts (chainOf r) [] (fun t => startsGap s t r b c.w) := by
  have hexec : exec (.waitEnd r) s = .next ((s.keepLast r b).runChain r b ((s.curCue r).q + 1) (s.eng r).window.tail) := by
    change execWaitEnd r s = _
    rw [execWaitEnd, if_neg (not_not.mpr h3), hb]
    dsimp only
    rw [State.afterWait_none hc hd, List.drop_one]
  exact (s.keepLast_ready r b).does hexec hh hq hg (by omega)

theorem exec_waitTimeout_keeps {r : Fin 1024} (h : s.reelState r ≠ 3 ∨ cueOp (s.curCue r).w ≠ 0x10 ∨ cueDw (s.curCue r).w 2 = 0 ∨ s.tick < (s.eng r).waitB + cueDw (s.curCue r).w 2) :
    exec (.waitTimeout r) s = .next s := by
  change execWaitTimeout r s = _
  rw [execWaitTimeout]
  refine congrArg Host.Outcome.next (if_neg ?_)
  rintro ⟨h3, ho, hn, ht, -⟩
  rcases h with h | h | h | h
  · exact h h3
  · exact h ho
  · exact hn h
  · exact Nat.not_lt.mpr ht h

theorem waitTimeout_does {r : Fin 1024} (hc : (s.eng r).commit = none) (h3 : s.reelState r = 3) (ho : cueOp (s.curCue r).w = 0x10) (hn : cueDw (s.curCue r).w 2 ≠ 0)
    (ht : (s.eng r).waitB + cueDw (s.curCue r).w 2 ≤ s.tick)
    (he : s.firstEvent (cueDw (s.curCue r).w 1 % 128) (s.eng r).waitB ((s.eng r).waitB + cueDw (s.curCue r).w 2) = none)
    (hd : s.displaced r ((s.eng r).waitB + cueDw (s.curCue r).w 2) = false) {p : Nat × List WinCue}
    (hp : (s.eng r).targets.find? (fun x => x.1 == bitsOf (cueDw (s.curCue r).w 1) 16 16) = some p) {c : WinCue} (hh : p.2.head? = some c)
    (hq : c.q = bitsOf (cueDw (s.curCue r).w 1) 16 16) (hg : s.nextGap r c = true) :
    Does (.waitTimeout r) s windowParts (chainOf r) [] (fun t => startsGap s t r ((s.eng r).waitB + cueDw (s.curCue r).w 2) c.w) := by
  set b := (s.eng r).waitB + cueDw (s.curCue r).w 2 with hb
  set q := bitsOf (cueDw (s.curCue r).w 1) 16 16 with hq'
  have hch : bitsOf (cueDw (s.curCue r).w 1) 0 7 = cueDw (s.curCue r).w 1 % 128 := by
    rw [bitsOf, pow_zero, Nat.div_one]
    rfl
  have hexec : exec (.waitTimeout r) s = .next ((s.keepLast r b).runChain r b q p.2) := by
    change execWaitTimeout r s = _
    rw [execWaitTimeout, hch, he, if_pos ⟨h3, ho, hn, ht, rfl⟩, hp, State.afterWait_none hc hd]
    rfl
  exact (s.keepLast_ready r b).does hexec hh hq hg (by omega)

end

end Sys2Proof.Machine
end

section
/-!
PROOFS. Stops and faults of a reel (R124, R155, R158, R159, R163, R165), and with the starts, boundaries and wait ends: O39.
-/
namespace Sys2Proof.Machine

section
variable {s t : State} {r : Nat}

/-! ### A stop takes effect (R163) -/

theorem exec_stopTakeEffect {r : Fin 1024} (h1 : 1 ≤ s.reelState r) (h4 : s.reelState r ≤ 4) (ht : s.get2 (Fld.REEL_STOP_TICK_LO r) (Fld.REEL_STOP_TICK_HI r) ≤ s.tick)
    (hf : s.faultBy r (s.get2 (Fld.REEL_STOP_TICK_LO r) (Fld.REEL_STOP_TICK_HI r)) = false) :
    exec (.stopTakeEffect r) s = .next (s.enterStopping r (s.get2 (Fld.REEL_STOP_TICK_LO r) (Fld.REEL_STOP_TICK_HI r))) := by
  have hs : s.stoppable r = true := by simpa [State.stoppable, State.reelState] using And.intro h1 h4
  change execStopTakeEffect r s = _
  rw [execStopTakeEffect]
  refine congrArg Host.Outcome.next (if_pos ?_)
  rw [hs, hf, decide_eq_true (show _ ≤ s.now from ht)]
  rfl

theorem exec_stopTakeEffect_keeps {r : Fin 1024} (h : s.stoppable r = false ∨ s.tick < s.get2 (Fld.REEL_STOP_TICK_LO r) (Fld.REEL_STOP_TICK_HI r) ∨
    s.faultBy r (s.get2 (Fld.REEL_STOP_TICK_LO r) (Fld.REEL_STOP_TICK_HI r)) = true) : exec (.stopTakeEffect r) s = .next s := by
  change execStopTakeEffect r s = _
  rw [execStopTakeEffect]
  refine congrArg Host.Outcome.next (if_neg fun hc => ?_)
  simp only [Bool.and_eq_true, decide_eq_true_eq, Bool.not_eq_true'] at hc
  obtain ⟨⟨hs, ht⟩, hf⟩ := hc
  rcases h with h | h | h
  · simp [hs] at h
  · exact Nat.not_lt.mpr ht h
  · simp [hf] at h

/-- The fields of a tile in which staged sets and late data are reported. -/
abbrev reportOf (u : Nat) (x : Key) : Bool := amongAt [.TL_VSTG_EVT, .TL_VSTG_PEND, .TL_LATE_CNT, .TL_LATE_LAST, .TL_LATE_WORDS_HI, .TL_LATE_WORDS_LO] u x

theorem lateOf_report (x : Key) (h : lateOf r x = true) : tileMaps r x = true ∨ archiveLoss x = true ∨ reportOf (tileOfReel r) x = true := by
  rcases Bool.or_eq_true_iff.mp h with h | h
  · simp only [List.contains_cons, List.contains_nil, Bool.or_eq_true, beq_iff_eq, Bool.false_eq_true, or_false] at h
    rcases h with rfl | rfl | rfl | rfl | rfl | rfl | rfl <;> simp [amongAt, tileMaps]
  · exact .inr (.inl h)

theorem quitOf_report (x : Key) (h : quitOf r x = true) : reelOf r x = true ∨ tileMaps r x = true ∨ archiveLoss x = true ∨ reportOf (tileOfReel r) x = true := by
  simp only [quitOf, Bool.or_eq_true_iff] at h
  rcases h with (((((h | h) | h) | h) | h) | h) | h
  · exact .inl (phaseKeys_reelOf x h)
  · exact .inr (lateOf_report x (Bool.or_eq_true_iff.mpr h))
  · exact .inl (by rw [beq_iff_eq.mp h]; simp [reelOf])
  · exact .inr (.inl (by rw [beq_iff_eq.mp h]; simp [tileMaps, amongAt]))
  · refine .inr (.inr (.inr ?_))
    simp only [amongAt, Bool.and_eq_true, List.contains_cons, List.contains_nil, Bool.or_eq_true, beq_iff_eq, Bool.false_eq_true, or_false] at h
    rcases h with ⟨h | h, hi⟩ <;> simp [amongAt, h, hi]
  · exact .inl (by rw [beq_iff_eq.mp h]; simp [reelOf])
  · exact .inl (by rw [beq_iff_eq.mp h]; simp [reelOf])

theorem shownOf_maps (x : Key) (h : shownOf r x = true) : reelOf r x = true ∨ tileMaps r x = true := by
  rcases Bool.or_eq_true_iff.mp h with h | h
  · exact .inl (by rw [beq_iff_eq.mp h]; simp [reelOf])
  · refine .inr ?_
    simp only [amongAt, Bool.and_eq_true, List.contains_cons, List.contains_nil, Bool.or_eq_true, beq_iff_eq, Bool.false_eq_true, or_false] at h
    rcases h with ⟨h | h, hi⟩ <;> simp [tileMaps, amongAt, h, hi]

theorem stopTakeEffect_does {r : Fin 1024} (h1 : 1 ≤ s.reelState r) (h4 : s.reelState r ≤ 4) (ht : s.get2 (Fld.REEL_STOP_TICK_LO r) (Fld.REEL_STOP_TICK_HI r) ≤ s.tick)
    (hf : s.faultBy r (s.get2 (Fld.REEL_STOP_TICK_LO r) (Fld.REEL_STOP_TICK_HI r)) = false) (hg : s.groupOfDrive r = none) :
    Does (.stopTakeEffect r) s [.engines, .arcBuf] (fun x => reelOf r x || tileMaps r x || archiveLoss x || reportOf (tileOfReel r) x)
      [(Fld.REEL_STATE r, 5), (Fld.REEL_STOP_TICK_LO r, 2 ^ 32 - 1), (Fld.REEL_STOP_TICK_HI r, 2 ^ 32 - 1), (Fld.REEL_CUT_ARMED r, 0)]
      (fun t => (t.eng r).stopAt = s.tick ∧ (t.eng r).run = false ∧ (t.eng r).fires = [] ∧ (t.eng r).commit = none) := by
  have h0 : s.reelState r ≠ 0 := by omega
  obtain ⟨hst, hlo, hhi, hcut⟩ := State.enterStopping_values h0 hg (s.get2 (Fld.REEL_STOP_TICK_LO r) (Fld.REEL_STOP_TICK_HI r))
  obtain ⟨hquit, hstop⟩ := State.enterStopping_eng h0 hg (s.get2 (Fld.REEL_STOP_TICK_LO r) (Fld.REEL_STOP_TICK_HI r))
  refine ⟨_, exec_stopTakeEffect h1 h4 ht hf, ?_, (State.enterStopping_frame h0 hg _).mono (fun _ h => h) (fun x hx => ?_), hstop, hquit.run, hquit.fires, hquit.commit⟩
  · simp only [List.forall_mem_cons, List.not_mem_nil, false_imp_iff, implies_true, and_true]
    exact ⟨hst, hlo, hhi, hcut⟩
  · rcases Bool.or_eq_true_iff.mp hx with hx | hx
    · rcases quitOf_report x hx with hx | hx | hx | hx <;> simp only [hx, Bool.or_true, Bool.true_or]
    · rcases shownOf_maps x hx with hx | hx <;> simp only [hx, Bool.or_true, Bool.true_or]

/-! ### A stop is done (R165) -/

/-- The reel is IDLE, its window empty and no restart pending. -/
abbrev State.stopped (s : State) (r : Nat) : State := ((s.dropWindow r).showState r 0).clr (Fld.REEL_RESTART_PENDING r)

abbrev idleOf (r : Nat) (x : Key) : Bool := dropOf r x || shownOf r x || x == Fld.REEL_RESTART_PENDING r

theorem State.stopped_frame (s : State) (r : Nat) : Frame s (s.stopped r) [.loans, .engines, .heads] (idleOf r) := by
  refine Frame.putClr (by simp) ((State.showState_frame _ _ _).via rfl (fun x hx => ?_) ((s.dropWindow_frame r).mono (fun _ h => h) (fun x hx => ?_)))
  · simp only [idleOf, hx, Bool.or_true, Bool.true_or]
  · simp only [idleOf, hx, Bool.true_or]

theorem State.stopped_values (s : State) (r : Nat) : (s.stopped r).get (Fld.REEL_STATE r) = 0 ∧ (s.stopped r).get (Fld.REEL_PRIMED r) = 0 ∧ (s.stopped r).get (Fld.REEL_RESTART_PENDING r) = 0 := by
  refine ⟨?_, ?_, ?_⟩
  · rw [State.stopped, State.clr_eq, State.get_set_ne _ _ (by simp), State.showState_state]
    rfl
  · rw [State.stopped, State.clr_eq, State.get_set_ne _ _ (by simp), (State.showState_frame _ _ _).get (by simp [amongAt]), s.dropWindow_primed r]
  · rw [State.stopped, State.clr_eq, State.get_set_self]
    rfl

theorem State.stopped_eng (s : State) (r : Nat) : (s.stopped r).eng r = { s.eng r with window := [], targets := [] } := by
  rw [State.stopped, State.clr_eq, State.eng_set, (State.showState_frame _ _ _).eng (by simp), s.dropWindow_eng r]

theorem State.stopped_loans (s : State) (r : Nat) : (s.stopped r).loans.all (fun l => l.reel != r) = true := by
  have h : (s.stopped r).loans = (s.dropWindow r).loans := (State.showState_frame _ _ _).loans_eq (by simp)
  rw [h]
  exact s.dropWindow_loans r

theorem exec_reelStopDone {r : Fin 1024} (h5 : s.reelState r = 5) (ht : (s.eng r).stopAt / 8 + 4 ≤ s.tick / 8) :
    exec (.reelStopDone r) s = .next (if s.is (Fld.REEL_RESTART_PENDING r) then
      if (s.stopped r).armCheck r = 0 then (s.stopped r).arm r else (s.stopped r).flag (Fld.TL_REEL_EVT_CMD_REFUSED (tileOfReel r)) else s.stopped r) := by
  have hstate : (s.dropWindow r).reelState r = 5 := ((s.dropWindow_frame r).get (by simp)).trans h5
  have hidle : (s.dropWindow r).enterState r 0 = (s.dropWindow r).showState r 0 := State.enterState_eq (.inl (by omega)) (.inl (by omega))
  change execReelStopDone r s = _
  rw [execReelStopDone, if_pos ⟨h5, ht⟩, hidle]

theorem exec_reelStopDone_keeps {r : Fin 1024} (h : s.reelState r ≠ 5 ∨ s.tick / 8 < (s.eng r).stopAt / 8 + 4) : exec (.reelStopDone r) s = .next s := by
  change execReelStopDone r s = _
  rw [execReelStopDone]
  refine congrArg Host.Outcome.next (if_neg ?_)
  rintro ⟨h5, ht⟩
  exact h.elim (· h5) (fun h => Nat.not_lt.mpr ht h)

theorem headKeys_maps (x : Key) (h : (headKeys r).contains x = true) : tileMaps r x = true := by
  simp only [headKeys, List.contains_cons, List.contains_nil, Bool.or_eq_true, beq_iff_eq, Bool.false_eq_true, or_false] at h
  rcases h with rfl | rfl | rfl | rfl <;> simp [amongAt, tileMaps]

theorem dropOf_maps (x : Key) (h : dropOf r x = true) : reelOf r x = true ∨ tileMaps r x = true ∨ x.r == .L_STRM_RET := by
  rw [dropOf, Bool.or_eq_true_iff, Bool.or_eq_true_iff] at h
  rcases h with (h | h) | h
  · exact .inl (by rw [beq_iff_eq.mp h]; simp [reelOf])
  · exact .inr (.inl (headKeys_maps x h))
  · exact .inr (.inr h)

theorem idleOf_maps (x : Key) (h : idleOf r x = true) : reelOf r x = true ∨ tileMaps r x = true ∨ x.r == .L_STRM_RET := by
  rw [idleOf, Bool.or_eq_true_iff, Bool.or_eq_true_iff] at h
  rcases h with (h | h) | h
  · exact dropOf_maps x h
  · exact (shownOf_maps x h).imp id .inl
  · exact .inl (by rw [beq_iff_eq.mp h]; simp [reelOf])

theorem reelStopDone_does_idle {r : Fin 1024} (h5 : s.reelState r = 5) (ht : (s.eng r).stopAt / 8 + 4 ≤ s.tick / 8) (hr : s.is (Fld.REEL_RESTART_PENDING r) = false) :
    Does (.reelStopDone r) s [.loans, .engines, .heads] (fun x => reelOf r x || tileMaps r x || x.r == .L_STRM_RET)
      [(Fld.REEL_STATE r, 0), (Fld.REEL_PRIMED r, 0), (Fld.REEL_RESTART_PENDING r, 0)]
      (fun t => t.loans.all (fun l => l.reel != r) = true ∧ (t.eng r).window = [] ∧ t.bit (Fld.TL_REEL_ACTIVE (tileOfReel r)) (r % 128) = false) := by
  have hexec := exec_reelStopDone h5 ht
  rw [hr, if_neg Bool.false_ne_true] at hexec
  obtain ⟨hstate, hprimed, hpend⟩ := s.stopped_values r
  have hclr : Frame ((s.dropWindow r).showState r 0) (s.stopped r) [] (fun x => x == Fld.REEL_RESTART_PENDING r) := Frame.set _ _ _ (by simp)
  refine ⟨_, hexec, ?_, (s.stopped_frame r).mono (fun _ h => h) (fun x hx => ?_), s.stopped_loans r, ?_, ?_⟩
  · simp only [List.forall_mem_cons, List.not_mem_nil, false_imp_iff, implies_true, and_true]
    exact ⟨hstate, hprimed, hpend⟩
  · rcases idleOf_maps x hx with hx | hx | hx <;> simp only [hx, Bool.or_true, Bool.true_or]
  · exact congrArg Engine.window (s.stopped_eng r)
  · rw [State.bit, hclr.get (by simp)]
    exact (s.dropWindow r).showState_idle_inactive r

/-! ### The queued arm is applied (R160, R163) -/

/-- The record checks do not read what a reel that has stopped leaves. -/
theorem State.recordBad_congr (h : ∀ k, idleOf r k = false → t.get k = s.get k) : t.recordBad r = s.recordBad r := by
  have hrsv : ∀ j < 64, ∀ f ∈ layout .REEL j, f.acc = .RSV → ¬(j = 0 ∧ (f.lo = 0 ∨ f.lo = 6 ∨ f.lo = 7)) := by decide
  have hreserved : (List.range 64).any (fun j => (layout .REEL j).any (fun f => f.acc == .RSV && t.get ⟨.REEL, r, j, f.lo, f.w⟩ != 0)) =
      (List.range 64).any (fun j => (layout .REEL j).any (fun f => f.acc == .RSV && s.get ⟨.REEL, r, j, f.lo, f.w⟩ != 0)) := by
    refine Bool.eq_iff_iff.mpr ?_
    simp only [List.any_eq_true, List.mem_range, Bool.and_eq_true, beq_iff_eq]
    refine exists_congr fun j => and_congr_right fun hj => exists_congr fun f => and_congr_right fun hf => and_congr_right fun ha => ?_
    have hk : idleOf r ⟨.REEL, r, j, f.lo, f.w⟩ = false := by
      have hno := hrsv j hj f hf ha
      simp [amongAt]
      omega
    rw [h _ hk]
  have hv : t.voice r = s.voice r := h _ (by simp [amongAt])
  have hgrants : t.grants r = s.grants r := by
    have h1 : ∀ j, t.get (Fld.TL_GRANT_EVEN r j) = s.get (Fld.TL_GRANT_EVEN r j) := fun j => h _ (by simp [amongAt])
    have h2 : ∀ j, t.get (Fld.TL_GRANT_ODD r j) = s.get (Fld.TL_GRANT_ODD r j) := fun j => h _ (by simp [amongAt])
    simp only [State.grants, h1, h2]
  have hscope : ∀ d, t.inScope r d = s.inScope r d := fun d => by rw [State.inScope, State.inScope, hgrants]
  simp (discharger := simp [amongAt]) only [State.recordBad, hreserved, hv, hscope, State.dests, State.is, State.get2, h]

/-- The checks of the queued arm pass (R160, R161). -/
theorem State.stopped_armCheck (ht : s.timeRunning = true) (hk : s.is (Fld.REEL_START_KIND r) = true) (hb : s.get (Fld.REEL_BOOKED r) ≠ 31) (hbad : s.recordBad r = false) :
    (s.stopped r).armCheck r = 0 := by
  have hf := s.stopped_frame r
  have htime : (s.stopped r).timeRunning = true := by rwa [State.timeRunning, hf.get (by simp [amongAt])]
  have hkind : (s.stopped r).is (Fld.REEL_START_KIND r) = true := by rwa [State.is, hf.get (by simp [amongAt])]
  have hbooked : (s.stopped r).get (Fld.REEL_BOOKED r) ≠ 31 := by rwa [hf.get (by simp [amongAt])]
  have hrecord : (s.stopped r).recordBad r = false := by rwa [State.recordBad_congr (fun k hk => hf.get hk)]
  rw [State.armCheck, if_neg hbooked, hrecord, htime, hkind]
  rfl

/-- The counts of an earlier run are cleared. -/
abbrev State.armCleared (s : State) (r : Nat) : State := (s.clr (Fld.REEL_SAT_CNT r)).set2 (Fld.REEL_STOP_TICK_LO r) (Fld.REEL_STOP_TICK_HI r) (2 ^ 64 - 1)

theorem State.armCleared_frame (s : State) (r : Nat) :
    Frame s (s.armCleared r) [] (fun x => [Fld.REEL_SAT_CNT r, Fld.REEL_STOP_TICK_LO r, Fld.REEL_STOP_TICK_HI r].contains x) :=
  Frame.put2 (by simp) (by simp) (Frame.putClr (by simp) (Frame.refl _ _ _))

theorem armedOf_fields (x : Key) (h : armedOf r x = true) : reelOf r x = true ∨ tileMaps r x = true ∨ ledgerOf 16 x = true ∨ archiveLoss x = true ∨ among [.MS_EVT, .L_STRM_RET] x = true := by
  rw [armedOf, Bool.or_eq_true_iff, Bool.or_eq_true_iff, Bool.or_eq_true_iff] at h
  rcases h with ((h | h) | h) | h
  · simp only [List.contains_cons, List.contains_nil, Bool.or_eq_true, beq_iff_eq, Bool.false_eq_true, or_false] at h
    exact .inl (by rcases h with rfl | rfl | rfl | rfl | rfl | rfl | rfl | rfl | rfl | rfl | rfl | rfl | rfl | rfl <;> simp [reelOf])
  · simp only [stackOf, Bool.and_eq_true] at h
    exact .inl (by simp only [reelOf, Bool.and_eq_true]; exact h.1.1)
  · exact (shownOf_maps x h).imp id .inl
  · have he := windowOf_enterOf r x h
    rw [enterOf, Bool.or_eq_true_iff, Bool.or_eq_true_iff, Bool.or_eq_true_iff, Bool.or_eq_true_iff] at he
    rcases he with (((he | he) | he) | he) | he
    · exact .inl (by rw [beq_iff_eq.mp he]; simp [reelOf])
    · refine .inr (.inl ?_)
      simp only [amongAt, Bool.and_eq_true, List.contains_cons, List.contains_nil, Bool.or_eq_true, beq_iff_eq, Bool.false_eq_true, or_false] at he
      rcases he with ⟨he | he | he, hi⟩ <;> simp [tileMaps, amongAt, he, hi]
    · exact .inr (.inr (.inl he))
    · exact .inr (.inr (.inr (.inl he)))
    · exact .inr (.inr (.inr (.inr he)))

theorem reelStopDone_does_arm {r : Fin 1024} (h5 : s.reelState r = 5) (ht : (s.eng r).stopAt / 8 + 4 ≤ s.tick / 8) (hr : s.is (Fld.REEL_RESTART_PENDING r) = true)
    (htime : s.timeRunning = true) (hk : s.is (Fld.REEL_START_KIND r) = true) (hb : s.get (Fld.REEL_BOOKED r) ≠ 31) (hbad : s.recordBad r = false) (hcal : s.is Lat.CAL_RUN = false) :
    Does (.reelStopDone r) s windowParts (fun x => reelOf r x || tileMaps r x || ledgerOf 16 x || archiveLoss x || among [.MS_EVT, .L_STRM_RET] x)
      [(Fld.REEL_STATE r, 1), (Fld.REEL_SP r, s.get (Fld.REEL_ENTRY r)), (Fld.REEL_RATE r, s.get (Fld.REEL_BOOKED r)), (Fld.REEL_RESTART_PENDING r, 0)]
      (fun t => (t.eng r).armedAt = s.tick) := by
  have hexec := exec_reelStopDone h5 ht
  rw [if_pos hr, if_pos (State.stopped_armCheck htime hk hb hbad)] at hexec
  have hidle := s.stopped_frame r
  have hclear := (s.stopped r).armCleared_frame r
  have hget : ∀ k, idleOf r k = false → [Fld.REEL_SAT_CNT r, Fld.REEL_STOP_TICK_LO r, Fld.REEL_STOP_TICK_HI r].contains k = false → ((s.stopped r).armCleared r).get k = s.get k :=
    fun k h1 h2 => (hclear.get h2).trans (hidle.get h1)
  have hcal' : ((s.stopped r).armCleared r).reelState r ≠ 0 ∨ ((s.stopped r).armCleared r).is Lat.CAL_RUN = false := .inr (by rwa [State.is, hget _ (by simp [amongAt]) (by simp)])
  have hframe := State.enterArmed_frame hcal' s.tick
  obtain ⟨hstate, hsp, hrate, -⟩ := State.enterArmed_values hcal' s.tick
  have htick : (s.stopped r).now = s.tick := hidle.1 .tick (by simp)
  rw [State.arm, htick] at hexec
  refine ⟨_, hexec, ?_, hframe.via rfl (fun x hx => ?_) (hclear.via rfl (fun x hx => ?_) (hidle.mono (by simp) (fun x hx => ?_))), (State.enterArmed_eng hcal' s.tick).1⟩
  · simp only [List.forall_mem_cons, List.not_mem_nil, false_imp_iff, implies_true, and_true]
    refine ⟨hstate, hsp.trans (hget _ (by simp [amongAt]) (by simp)), hrate.trans (hget _ (by simp [amongAt]) (by simp)), ?_⟩
    rw [hframe.get (by simp [amongAt, stackOf, headKeys, ledgerOf, archiveLoss]), hclear.get (by simp)]
    exact (s.stopped_values r).2.2
  · rcases armedOf_fields x hx with hx | hx | hx | hx | hx <;> simp only [hx, Bool.or_true, Bool.true_or]
  · simp only [List.contains_cons, List.contains_nil, Bool.or_eq_true, beq_iff_eq, Bool.false_eq_true, or_false] at hx
    rcases hx with rfl | rfl | rfl <;> simp [reelOf]
  · rcases idleOf_maps x hx with hx | hx | hx
    · simp only [hx, Bool.true_or]
    · simp only [hx, Bool.or_true, Bool.true_or]
    · simp [among, beq_iff_eq.mp hx]

/-! ### Faults (R118, R158, R159) -/

theorem State.raisePerTile_frame (s : State) (k u : Nat) (m : List (Nat × Nat)) : Frame s (s.raisePerTile k u m) [.arcBuf] (fun x => ledgerOf k x || archiveLoss x) := by
  unfold State.raisePerTile
  split
  · exact (s.mark_frame k m).mono (by simp) (fun x hx => by simp [ledgerOf] at hx ⊢; simp [hx])
  · exact s.raise_frame _ _ _ _

theorem State.raisePerTile_active (s : State) (k u : Nat) (m : List (Nat × Nat)) : (s.raisePerTile k u m).is (Fld.LDG_ACTIVE k) = true := by
  unfold State.raisePerTile
  split
  case isTrue h =>
    rw [State.is, (s.mark_frame k m).get (by simp)]
    exact (Bool.and_eq_true_iff.mp h).1
  case isFalse => exact (s.raise_raised k _ _ m).1

/-- The reel shows FAULTED and has no window. -/
abbrev State.faultShown (s : State) (r t : Nat) : State := ((s.quitRun r t).showState r 6).dropWindow r

/-- The fault is reported in the record and at the tile. -/
abbrev State.faultReported (s : State) (r code t : Nat) : State :=
  ((s.faultShown r t).sets [(Fld.REEL_FAULT r, code), (Fld.TL_REEL_EVT_FAULT (tileOfReel r), 1), (Fld.TL_REEL_FLT_LAST_CODE (tileOfReel r), code),
    (Fld.TL_REEL_FLT_LAST_REEL (tileOfReel r), r % 128)]).archive 4 (unitReel r) t [code, s.get (Fld.REEL_SP r)]

/-- A queued restart is refused. -/
abbrev State.restartRefused (s u : State) (r : Nat) : State :=
  u.when (s.is (Fld.REEL_RESTART_PENDING r)) (fun a => (a.clr (Fld.REEL_RESTART_PENDING r)).flag (Fld.TL_REEL_EVT_CMD_REFUSED (tileOfReel r)))

theorem State.enterFault_eq (h0 : s.reelState r ≠ 0) (h6 : s.reelState r ≠ 6) (hg : s.groupOfDrive r = none) {code : Nat} (hc : code < 15) (t : Nat) :
    s.enterFault r code t = ((s.restartRefused (s.faultReported r code t) r).pulse (32 * tileOfReel r + 23) none).raisePerTile 21 (tileOfReel r) (markReel r) := by
  rw [State.enterFault]
  dsimp only
  rw [if_neg (not_or.mpr ⟨h0, h6⟩), State.quitRun_enter h0 hg, if_neg (by omega), if_neg (by omega)]

abbrev faultKeys (r : Nat) : List Key := [Fld.REEL_FAULT r, Fld.TL_REEL_EVT_FAULT (tileOfReel r), Fld.TL_REEL_FLT_LAST_CODE (tileOfReel r), Fld.TL_REEL_FLT_LAST_REEL (tileOfReel r)]

abbrev faultShownOf (r : Nat) (x : Key) : Bool := quitOf r x || shownOf r x || dropOf r x

abbrev restartKeys (r : Nat) : List Key := [Fld.REEL_RESTART_PENDING r, Fld.TL_REEL_EVT_CMD_REFUSED (tileOfReel r)]

theorem State.faultShown_frame (s : State) (r t : Nat) : Frame s (s.faultShown r t) [.loans, .engines, .heads, .arcBuf] (faultShownOf r) := by
  refine (State.dropWindow_frame _ _).via rfl (fun x hx => ?_) ((State.showState_frame _ _ _).via rfl (fun x hx => ?_) ((s.quitRun_frame r t).mono (by simp) (fun x hx => ?_)))
  · simp only [faultShownOf, hx, Bool.or_true]
  · simp only [faultShownOf, hx, Bool.or_true, Bool.true_or]
  · simp only [faultShownOf, hx, Bool.true_or]

theorem State.restartRefused_frame (s u : State) (r : Nat) : Frame u (s.restartRefused u r) [] (fun x => (restartKeys r).contains x) :=
  Frame.step (Frame.putFlag (by simp) (Frame.putClr (by simp) (Frame.refl _ _ _))) (Frame.refl _ _ _)

theorem State.restartRefused_none (s u : State) (r : Nat) (h : u.get (Fld.REEL_RESTART_PENDING r) = s.get (Fld.REEL_RESTART_PENDING r)) :
    (s.restartRefused u r).get (Fld.REEL_RESTART_PENDING r) = 0 := by
  have hlt : s.get (Fld.REEL_RESTART_PENDING r) < 2 := s.get_lt _
  cases hr : s.is (Fld.REEL_RESTART_PENDING r)
  case true =>
    rw [State.restartRefused, hr, State.when_true, State.flag_eq, State.get_set_ne _ _ (by simp), State.clr_eq, State.get_set_self]
    rfl
  case false =>
    have h1 : s.get (Fld.REEL_RESTART_PENDING r) ≠ 1 := by simpa [State.is] using hr
    rw [State.restartRefused, hr, State.when_false, h]
    omega

/-- What a fault writes, in the order of its writes. -/
theorem State.enterFault_values (h0 : s.reelState r ≠ 0) (h6 : s.reelState r ≠ 6) (hg : s.groupOfDrive r = none) {code : Nat} (hc : code < 15) (t : Nat) :
    ∀ q ∈ [(Fld.REEL_STATE r, 6), (Fld.REEL_FAULT r, code), (Fld.REEL_RESTART_PENDING r, 0), (Fld.TL_REEL_EVT_FAULT (tileOfReel r), 1), (Fld.TL_REEL_FLT_LAST_CODE (tileOfReel r), code),
      (Fld.TL_REEL_FLT_LAST_REEL (tileOfReel r), r % 128), (Fld.LDG_ACTIVE 21, 1)], (s.enterFault r code t).get q.1 = q.2 := by
  set u := s.faultReported r code t with hu
  have hlast : ∀ k, (ledgerOf 21 k || archiveLoss k) = false → (s.enterFault r code t).get k = (s.restartRefused u r).get k := fun k hk => by
    rw [State.enterFault_eq h0 h6 hg hc, (State.raisePerTile_frame _ _ _ _).get hk, (State.pulse_frame _ _ _).get rfl]
  have hrest : ∀ k, (ledgerOf 21 k || archiveLoss k) = false → (restartKeys r).contains k = false → (s.enterFault r code t).get k = u.get k := fun k h1 h2 =>
    (hlast k h1).trans ((s.restartRefused_frame u r).get h2)
  have hu' : ∀ k, archiveLoss k = false → u.get k = ((s.faultShown r t).sets [(Fld.REEL_FAULT r, code), (Fld.TL_REEL_EVT_FAULT (tileOfReel r), 1), (Fld.TL_REEL_FLT_LAST_CODE (tileOfReel r), code),
    (Fld.TL_REEL_FLT_LAST_REEL (tileOfReel r), r % 128)]).get k := fun k hk => (State.archive_frame _ _ _ _ _ _).get hk
  have hcode : code % 64 = code := Nat.mod_eq_of_lt (by omega)
  simp only [List.forall_mem_cons, List.not_mem_nil, false_imp_iff, implies_true, and_true]
  refine ⟨?_, ?_, ?_, ?_, ?_, ?_, ?_⟩
  · rw [hrest _ (by simp [ledgerOf, archiveLoss]) (by simp), hu' _ (by simp [archiveLoss]), State.get_sets_of_not_named _ _ _ (by simp [named]), (State.dropWindow_frame _ _).get (by simp),
      State.showState_state]
    rfl
  · rw [hrest _ (by simp [ledgerOf, archiveLoss]) (by simp), hu' _ (by simp [archiveLoss])]
    simp [State.get_set, hcode]
  · rw [hlast _ (by simp [ledgerOf, archiveLoss])]
    refine s.restartRefused_none u r ?_
    rw [hu' _ (by simp [archiveLoss]), State.get_sets_of_not_named _ _ _ (by simp [named]), (s.faultShown_frame r t).get (by simp [archiveLoss, amongAt])]
  · rw [hrest _ (by simp [ledgerOf, archiveLoss]) (by simp), hu' _ (by simp [archiveLoss])]
    simp [State.get_set]
  · rw [hrest _ (by simp [ledgerOf, archiveLoss]) (by simp), hu' _ (by simp [archiveLoss])]
    simp [State.get_set, hcode]
  · rw [hrest _ (by simp [ledgerOf, archiveLoss]) (by simp), hu' _ (by simp [archiveLoss])]
    simp
  · rw [State.enterFault_eq h0 h6 hg hc]
    exact beq_iff_eq.mp (State.raisePerTile_active _ _ _ _)

/-- The fields that a fault of reel `r` can change. -/
abbrev faultOf (r : Nat) (x : Key) : Bool := faultShownOf r x || (faultKeys r).contains x || archiveLoss x || (restartKeys r).contains x || ledgerOf 21 x

theorem State.enterFault_frame (h0 : s.reelState r ≠ 0) (h6 : s.reelState r ≠ 6) (hg : s.groupOfDrive r = none) {code : Nat} (hc : code < 15) (t : Nat) :
    Frame s (s.enterFault r code t) [.loans, .engines, .heads, .edges, .arcBuf] (faultOf r) := by
  rw [State.enterFault_eq h0 h6 hg hc]
  refine (State.raisePerTile_frame _ _ _ _).via rfl (fun x hx => ?_) ((State.pulse_frame _ _ _).via rfl (by simp) ((s.restartRefused_frame _ r).via rfl (fun x hx => ?_)
    ((State.archive_frame _ _ _ _ _ _).via rfl (fun x hx => ?_) (Frame.puts (by simp) ((s.faultShown_frame r t).mono (by simp) (fun x hx => ?_))))))
  · rcases Bool.or_eq_true_iff.mp hx with hx | hx <;> simp only [faultOf, hx, Bool.or_true, Bool.true_or]
  · simp only [faultOf, hx, Bool.or_true, Bool.true_or]
  · simp only [faultOf, hx, Bool.or_true, Bool.true_or]
  · simp only [faultOf, hx, Bool.true_or]

/-- After the reel's window is dropped, the reports of a fault leave the contexts and the loans alone. -/
theorem State.enterFault_reports (h0 : s.reelState r ≠ 0) (h6 : s.reelState r ≠ 6) (hg : s.groupOfDrive r = none) {code : Nat} (hc : code < 15) (t : Nat) :
    Frame (s.faultShown r t) (s.enterFault r code t) [.edges, .arcBuf] (fun _ => true) := by
  rw [State.enterFault_eq h0 h6 hg hc]
  exact (State.raisePerTile_frame _ _ _ _).via rfl (by simp) ((State.pulse_frame _ _ _).via rfl (by simp) ((s.restartRefused_frame _ r).via rfl (by simp)
    ((State.archive_frame _ _ _ _ _ _).via rfl (by simp) (Frame.puts (by simp) (Frame.refl _ _ _)))))

theorem exec_reelFault {r : Fin 1024} {f : Nat × Nat} (hf : (s.eng r).fault = some f) (ht : f.2 ≤ s.tick) : exec (.reelFault r false) s = .next (s.enterFault r f.1 f.2) := by
  change execReelFault r false s = _
  rw [execReelFault, hf]
  exact congrArg Host.Outcome.next (if_pos ht)

theorem exec_reelFault_none {r : Fin 1024} (hf : (s.eng r).fault = none) : exec (.reelFault r false) s = .next s := by
  change execReelFault r false s = _
  rw [execReelFault, hf]
  rfl

theorem reelFault_does {r : Fin 1024} {f : Nat × Nat} (hf : (s.eng r).fault = some f) (ht : f.2 ≤ s.tick) (h1 : 1 ≤ s.reelState r) (h5 : s.reelState r ≤ 5)
    (hg : s.groupOfDrive r = none) (hc : f.1 < 15) :
    Does (.reelFault r false) s [.loans, .engines, .heads, .edges, .arcBuf]
      (fun x => chainOf r x || ledgerOf 21 x || reportOf (tileOfReel r) x || x == Fld.TL_REEL_EVT_CMD_REFUSED (tileOfReel r))
      [(Fld.REEL_STATE r, 6), (Fld.REEL_FAULT r, f.1), (Fld.REEL_RESTART_PENDING r, 0), (Fld.TL_REEL_EVT_FAULT (tileOfReel r), 1), (Fld.TL_REEL_FLT_LAST_CODE (tileOfReel r), f.1),
        (Fld.TL_REEL_FLT_LAST_REEL (tileOfReel r), r % 128), (Fld.LDG_ACTIVE 21, 1)]
      (fun t => t.loans.all (fun l => l.reel != r) = true ∧ (t.eng r).run = false ∧ (t.eng r).fault = none) := by
  have h0 : s.reelState r ≠ 0 := by omega
  have h6 : s.reelState r ≠ 6 := by omega
  have hrep := State.enterFault_reports h0 h6 hg hc f.2
  have heng : (s.enterFault r f.1 f.2).eng r = { (s.quitRun r f.2).eng r with window := [], targets := [] } := by
    rw [hrep.eng (by simp), State.dropWindow_eng, (State.showState_frame _ _ _).eng (by simp)]
  have hquit := s.quitRun_quit r f.2
  refine ⟨_, exec_reelFault hf ht, State.enterFault_values h0 h6 hg hc f.2, (State.enterFault_frame h0 h6 hg hc f.2).mono (fun _ h => h) (fun x hx => ?_), ?_, ?_, ?_⟩
  · rw [faultOf, Bool.or_eq_true_iff, Bool.or_eq_true_iff, Bool.or_eq_true_iff, Bool.or_eq_true_iff] at hx
    have hreel : reelOf r x = true → chainOf r x = true := fun h => by simp only [chainOf, h, Bool.true_or]
    have hmaps : tileMaps r x = true → chainOf r x = true := fun h => by simp only [chainOf, h, Bool.or_true, Bool.true_or]
    rcases hx with (((hx | hx) | hx) | hx) | hx
    · rw [faultShownOf, Bool.or_eq_true_iff, Bool.or_eq_true_iff] at hx
      rcases hx with (hx | hx) | hx
      · rcases quitOf_report x hx with hx | hx | hx | hx
        · simp only [hreel hx, Bool.true_or]
        · simp only [hmaps hx, Bool.true_or]
        · simp only [chainOf, hx, Bool.or_true, Bool.true_or]
        · simp only [hx, Bool.or_true, Bool.true_or]
      · rcases shownOf_maps x hx with hx | hx
        · simp only [hreel hx, Bool.true_or]
        · simp only [hmaps hx, Bool.true_or]
      · rcases dropOf_maps x hx with hx | hx | hx
        · simp only [hreel hx, Bool.true_or]
        · simp only [hmaps hx, Bool.true_or]
        · simp [chainOf, among, beq_iff_eq.mp hx]
    · simp only [List.contains_cons, List.contains_nil, Bool.or_eq_true, beq_iff_eq, Bool.false_eq_true, or_false] at hx
      rcases hx with rfl | rfl | rfl | rfl <;> simp [named]
    · simp only [chainOf, hx, Bool.or_true, Bool.true_or]
    · simp only [List.contains_cons, List.contains_nil, Bool.or_eq_true, beq_iff_eq, Bool.false_eq_true, or_false] at hx
      rcases hx with rfl | rfl <;> simp [named]
    · simp only [hx, Bool.or_true, Bool.true_or]
  · rw [hrep.loans_eq (by simp)]
    exact State.dropWindow_loans _ _
  · rw [heng]
    exact hquit.run
  · rw [heng]
    exact hquit.fault

/-- An uncorrectable error on a read of the reel's record is counted and raised at the tile. -/
abbrev State.recordEcc (s : State) (r : Nat) : State :=
  ((s.bump (Fld.TL_SP_ECC_UNCORR (tileOfReel r))).flag (Fld.TL_SP_EVT_ECC_UNCORR (tileOfReel r))).raise 20 (unitTile (tileOfReel r)) (tileOfReel r + 1 * 2 ^ 8) (markReel r)

theorem exec_reelFault_record {r : Fin 1024} : exec (.reelFault r true) s =
    .next (if s.reelState r = 0 ∨ s.reelState r = 6 then s.recordEcc r else (s.recordEcc r).pendFault r 18 (wordNext s.tick)) := rfl

abbrev eccKeys (u : Nat) : List Key := [Fld.TL_SP_ECC_UNCORR u, Fld.TL_SP_EVT_ECC_UNCORR u]

theorem State.eccCounted_frame (s : State) (u : Nat) :
    Frame s ((s.bump (Fld.TL_SP_ECC_UNCORR u)).flag (Fld.TL_SP_EVT_ECC_UNCORR u)) [] (fun x => (eccKeys u).contains x) :=
  Frame.putFlag (by simp) (Frame.putBump (by simp) (Frame.refl _ _ _))

/-- A fault that is pended where none was waits for its tick. -/
theorem State.pendFault_first (h : (s.eng r).fault = none) (code t : Nat) : ((s.pendFault r code t).eng r).fault = some (code, t) := by
  have hp : (s.eng r).pended code t = { s.eng r with fault := some (code, t) } := by rw [Engine.pended, h]
  rw [State.pendFault_eq, State.eng_onEng_self (by rw [hp]; exact s.eng_reel r), hp]

theorem reelFault_does_record {r : Fin 1024} : let tile := tileOfReel r
    Does (.reelFault r true) s [.engines, .arcBuf] (fun x => ledgerOf 20 x || archiveLoss x)
      [(Fld.TL_SP_ECC_UNCORR tile, min (s.get (Fld.TL_SP_ECC_UNCORR tile) + 1) (2 ^ (Fld.TL_SP_ECC_UNCORR tile).w - 1)), (Fld.TL_SP_EVT_ECC_UNCORR tile, 1)]
      (fun t => Raised s t 20 (unitTile tile) (tile + 256) ∧ (1 ≤ s.reelState r → s.reelState r ≤ 5 → (s.eng r).fault = none → (t.eng r).fault = some (18, wordNext s.tick))) := by
  intro tile
  have hcount := s.eccCounted_frame tile
  have hraise := State.raise_frame ((s.bump (Fld.TL_SP_ECC_UNCORR tile)).flag (Fld.TL_SP_EVT_ECC_UNCORR tile)) 20 (unitTile tile) (tile + 1 * 2 ^ 8) (markReel r)
  have hlast : Frame (s.recordEcc r) (if s.reelState r = 0 ∨ s.reelState r = 6 then s.recordEcc r else (s.recordEcc r).pendFault r 18 (wordNext s.tick)) [.engines] (fun _ => false) :=
    Frame.choose (fun _ => Frame.refl _ _ _) (fun _ => State.pendFault_frame _ _ _ _)
  have hraised : Raised s (s.recordEcc r) 20 (unitTile tile) (tile + 256) := Raised.of_before hcount (State.raise_raised _ _ _ _ _) (by simp) (by simp) (by simp)
  refine ⟨_, exec_reelFault_record, ?_, hlast.via rfl (by simp) (hraise.via rfl (fun x hx => ?_) (hcount.mono (by simp) (fun x hx => ?_))), hraised.of_after hlast (fun _ _ _ => rfl), fun h1 h5 hf => ?_⟩
  · simp only [List.forall_mem_cons, List.not_mem_nil, false_imp_iff, implies_true, and_true]
    refine ⟨?_, ?_⟩
    · rw [hlast.get rfl, hraise.get (by simp [ledgerOf, archiveLoss]), State.flag_eq, State.get_set_ne _ _ (by simp), State.get_bump, if_pos rfl]
    · rw [hlast.get rfl, hraise.get (by simp [ledgerOf, archiveLoss]), State.flag_eq, State.get_set_self]
      rfl
  · simp only [hx, Bool.true_or]
  · simp only [List.contains_cons, List.contains_nil, Bool.or_eq_true, beq_iff_eq, Bool.false_eq_true, or_false] at hx
    rcases hx with rfl | rfl <;> simp [named]
  · rw [if_neg (by omega)]
    refine State.pendFault_first ?_ _ _
    rw [hraise.eng (by simp), hcount.eng (by simp), hf]

/-! ### Pulses of FIRE cues (R155) -/

theorem cueEventPulse_does {r : Fin 1024} :
    Does (.cueEventPulse r) s [.engines, .edges] (fun x => x.r == .L_PROD_WORD) []
      (fun t => t.eng r = { s.eng r with reel := r, fires := (s.eng r).fires.filter (fun p => s.tick < p.2) }) := by
  have hpulses : ∀ u : State, Frame u (u.each ((s.eng r).fires.filter (fun p => p.2 ≤ s.now)) (fun p a => a.tilePulse p.1 p.2)) [.edges] (fun x => x.r == .L_PROD_WORD) :=
    fun u => Frame.each _ _ _ _ (fun p _ a => (a.tilePulse_frame p.1 p.2).mono (fun _ h => h) (fun x hx => by rw [beq_iff_eq.mp hx]; simp)) u
  refine ⟨_, rfl, by simp, ((hpulses _).via rfl (fun x hx => ?_) ((State.onEng_frame _ _ _).mono (by simp) (by simp))), ?_⟩
  · simp only [hx, Bool.true_or]
  · refine ((hpulses _).eng (by simp) r).trans ((State.eng_onEng_self (State.eng_reel _ r)).trans ?_)
    exact congrArg (fun n => { s.eng r with reel := n, fires := (s.eng r).fires.filter (fun p => s.tick < p.2) }) (s.eng_reel r)

/-- Settles O39: with no cut committed, starts, boundaries and wait ends lead to the gap cue that follows; a stop, its end and a fault leave the run. -/
theorem reelRun : Obligations.ReelRun :=
  ⟨fun _ _ hv hc => ⟨exec_reelStart_keeps, fun h1 _ hb hd => exec_reelStart_displaced h1 hb hd, fun h1 _ hb hd _ hh hq hg => reelStart_does h1 hb hd hh hq hg,
      exec_cueBoundary_keeps, fun h2 hrun hst => ⟨fun hp ht hd => cueBoundary_does_pass hv hc h2 hrun hst hp ht hd,
        fun hp ht hd hop _ hh hq hg => cueBoundary_does_end hv hc h2 hrun hst hp ht hd hop hh hq hg⟩,
      exec_waitEnd_keeps, fun h3 _ hb hd _ hh hq hg => waitEnd_does hc h3 hb hd hh hq hg,
      exec_waitTimeout_keeps, fun h3 ho hn ht he hd _ hp _ hh hq hg => waitTimeout_does hc h3 ho hn ht he hd hp hh hq hg⟩,
    fun _ _ => ⟨stopTakeEffect_does, exec_stopTakeEffect_keeps, reelStopDone_does_idle, reelStopDone_does_arm, exec_reelStopDone_keeps,
      fun _ hf ht h1 h5 hg hc => reelFault_does hf ht h1 h5 hg hc, exec_reelFault_none, reelFault_does_record, cueEventPulse_does⟩⟩

end

end Sys2Proof.Machine
end

section
/-!
PROOFS. The cues that produce, wait and end a script (R142, R146 to R150, R156): O37.
-/
namespace Sys2Proof.Machine

section
variable {s t : State} {r : Nat}

/-! ### A cue executes now -/

/-- Cue word `w` as reel `r` executes it at its SP, with no fault. -/
def State.cueAt (s : State) (r w : Nat) : WinCue := ⟨s.get (Fld.REEL_SP r), w, 0, if s.voice r = 4 then s.rampEntry r (s.get (Fld.REEL_RIDX r)) else []⟩

/-- What `State.cueNow` decides. -/
structure State.Executes (s : State) (r op w : Nat) : Prop where
  op : cueOp w = op
  state : s.reelState r = 2
  run : (s.eng r).run = false
  deferred : (s.eng r).deferred = []
  fault : s.cueFault r w = 0
  grid : gridUp s.tick (s.rate r) = s.tick

theorem State.executes {op w : Nat} (h : s.cueNow r op w = true) : s.Executes r op w := by
  simp only [State.cueNow, Bool.and_eq_true, beq_iff_eq, Bool.not_eq_true', List.isEmpty_iff] at h
  obtain ⟨⟨⟨⟨⟨hop, hst⟩, hrun⟩, hd⟩, hf⟩, hg⟩ := h
  exact ⟨hop, hst, hrun, hd, hf, hg⟩

theorem State.Executes.not_skipped {op w : Nat} (h : s.Executes r op w) :
    ¬(cueOp w ≠ op ∨ ¬(1 ≤ s.reelState r ∧ s.reelState r ≤ 4) ∨ ((s.eng r).run = true ∧ s.now < (s.eng r).endB)) := by
  rintro (hop | hst | ⟨hrun, -⟩)
  · exact hop h.op
  · have := h.state
    omega
  · simp [h.run] at hrun

/-- A producing cue starts. -/
theorem State.Executes.produces {op w : Nat} (h : s.Executes r op w) (hk : cueKind op = 1) : s.cueStep r op w = s.startCue r s.tick (s.cueAt r w) := by
  have hf := h.fault
  rw [State.cueStep]
  dsimp only
  rw [if_neg h.not_skipped, h.run, if_neg Bool.false_ne_true, hk, hf]
  rfl

/-- A wait starts. -/
theorem State.Executes.waits {op w : Nat} (h : s.Executes r op w) (hk : cueKind op = 2) : s.cueStep r op w = s.startWait r s.tick (s.cueAt r w) := by
  have hf := h.fault
  rw [State.cueStep]
  dsimp only
  rw [if_neg h.not_skipped, h.run, if_neg Bool.false_ne_true, hk, hf]
  rfl

/-- The record and the context of a reel whose deferred effects are done. -/
abbrev State.undeferred (s : State) (r : Nat) : State := s.onEng r (fun e => { e with deferred := [] })

/-- A terminal cue acts. -/
theorem State.Executes.ends {op w : Nat} (h : s.Executes r op w) (hk : cueKind op = 4) : s.cueStep r op w = (s.undeferred r).terminal r s.tick (s.cueAt r w) := by
  have hf := h.fault
  have hst : (s.undeferred r).reelState r ≠ 6 := by
    have h2 : (s.undeferred r).reelState r = 2 := h.state
    omega
  rw [State.cueStep]
  dsimp only
  rw [if_neg h.not_skipped, h.run, if_neg Bool.false_ne_true, hk, hf, show s.runDeferred r s.now = s.undeferred r from State.runDeferred_nil h.deferred _, if_neg hst]
  rfl

/-! ### The fields of a cue's start -/

/-- The fields that a cue of reel `r` can change: its own, its tile's maps, and the reports of the cues and loans of its window. -/
abbrev cueOf (r : Nat) (x : Key) : Bool := reelOf r x || tileMaps r x || ledgerOf 16 x || archiveLoss x || among [.MS_EVT, .L_STRM_RET] x

theorem armedOf_cueOf (x : Key) (h : armedOf r x = true) : cueOf r x = true := by
  rcases armedOf_fields x h with h | h | h | h | h <;> simp only [cueOf, h, Bool.or_true, Bool.true_or]

theorem windowOf_cueOf (x : Key) (h : windowOf r x = true) : cueOf r x = true := armedOf_cueOf x (by rw [armedOf, h, Bool.or_true])

theorem shownOf_cueOf (x : Key) (h : shownOf r x = true) : cueOf r x = true := armedOf_cueOf x (by rw [armedOf, h, Bool.or_true, Bool.true_or])

theorem startOf_cueOf (x : Key) (h : startOf r x = true) : cueOf r x = true := by
  rw [startOf, Bool.or_eq_true_iff, Bool.or_eq_true_iff] at h
  rcases h with (h | h) | h
  · have hr : reelOf r x = true := by
      simp only [List.contains_cons, List.contains_nil, Bool.or_eq_true, beq_iff_eq, Bool.false_eq_true, or_false] at h
      rcases h with rfl | rfl | rfl | rfl | rfl | rfl <;> simp [reelOf]
    simp only [cueOf, hr, Bool.true_or]
  · exact shownOf_cueOf x h
  · exact windowOf_cueOf x h

/-! ### PLAY, PLAYN and CAL_GAP (R126, R142, R150) -/

/-- What the reel plays after a producing cue of `n` passes has started at tick `b`. -/
abbrev runsFor (s : State) (r w b n : Nat) (t : State) : Prop :=
  (t.eng r).run = true ∧ (t.eng r).started = true ∧ (t.eng r).passStart = b ∧ (t.eng r).passLen = s.passSamples r w * 2 ^ s.cueClass r w ∧
    (t.eng r).endB = b + n * (s.passSamples r w * 2 ^ s.cueClass r w)

theorem cueClass_lt (s : State) (r w : Nat) : s.cueClass r w < 32 := by
  have h1 : s.get (Fld.REEL_RATE r) < 2 ^ 5 := s.get_lt _
  have h2 : cueRate w < 2 ^ 5 := Nat.mod_lt _ (by decide)
  unfold State.cueClass State.rate
  split <;> omega

theorem cuePasses_lt (w : Nat) : cuePasses w < 2 ^ 24 := by
  have h : cueN w < 2 ^ 24 := Nat.mod_lt _ (by decide)
  unfold cuePasses
  split <;> omega

theorem producingCue_does {c : Instr} {op w n : Nat} (hc : exec c s = .next (s.cueStep r op w)) (h : s.Executes r op w) (hk : cueKind op = 1) (hn : cuePasses w = n)
    (hp : (s.eng r).pendingSet = []) (hgrid : gridUp s.tick (s.cueClass r w) = s.tick) (hf : s.playFault r w (s.cueClass r w) = 0)
    (hop : cueOp w = 0x01 ∨ cueOp w = 0x02 ∨ cueOp w = 0x30)
    (hq : cueOp w = 0x30 ∨ s.voice r = 1 ∨ s.voice r = 0 ∧ (s.card (cueCard w)).slate = false ∧ (s.card (cueCard w)).streamed = false) :
    Does c s windowParts (cueOf r)
      [(Fld.REEL_STATE r, 2), (Fld.REEL_SP r, s.get (Fld.REEL_SP r)), (Fld.REEL_RATE r, s.cueClass r w), (Fld.REEL_POS_LO r, 0), (Fld.REEL_POS_HI r, 0), (Fld.REEL_PASS r, n)]
      (fun t => runsFor s r w s.tick n t ∧ (s.voice r = 0 → cueOp w ≠ 0x30 → t.get (Fld.REEL_CARD r) = cueCard w)) := by
  subst hn
  have hst := h.state
  have hplain : s.Plain r (s.cueAt r w) := ⟨hop, hq, h.deferred, hp, hf, by omega⟩
  obtain ⟨hframe, hstate, hsp, hrate, ⟨hlo, hhi⟩, hpass, hcard, ⟨v, tg, f, d, ce, st, heng⟩, hstarted⟩ := State.startCue_plays hplain s.tick
  have hg : gridUp s.tick (s.cueClass r (s.cueAt r w).w) = s.tick := hgrid
  rw [hg] at heng hstarted
  refine ⟨_, hc.trans (congrArg _ (h.produces hk)), ?_, hframe.mono (fun _ h => h) (fun x hx => ?_), ⟨?_, hstarted (Nat.le_refl _), ?_, ?_, ?_⟩, fun hv ho => ?_⟩
  · simp only [List.forall_mem_cons, List.not_mem_nil, false_imp_iff, implies_true, and_true]
    refine ⟨hstate, hsp.trans (s.get_mod_of_le _ (Nat.le_refl _)), hrate.trans (Nat.mod_eq_of_lt (cueClass_lt s r w)), hlo, hhi, hpass.trans (Nat.mod_eq_of_lt (cuePasses_lt w))⟩
  · simp only [startOf_cueOf x hx, Bool.true_or]
  · rw [heng]; rfl
  · rw [heng]; rfl
  · rw [heng]; rfl
  · rw [heng]; rfl
  · exact (hcard hv ho).trans (Nat.mod_eq_of_lt (Nat.mod_lt _ (by decide)))

/-! ### WAIT_EV, WAIT_TICK and SYNC (R146 to R148) -/

/-- The record and the context of a reel that waits from tick `b` on cue `c`, with `e` as its wait end. -/
abbrev State.waitLoaded (s : State) (r b : Nat) (c : WinCue) (e : Nat) : State :=
  (((s.set (Fld.REEL_SP r) c.q).set2 (Fld.REEL_WAIT_END_LO r) (Fld.REEL_WAIT_END_HI r) e).showState r 3).onEng r
    (fun x => { x with run := false, started := false, waitB := b, waitOut := cueBits c.w 8 2 })

abbrev State.goWait (s : State) (r b : Nat) (c : WinCue) (e : Nat) : State := (s.waitLoaded r b c e).buildWindow r [c] (c.q + 1) false

/-- A wait cue is followed by the next cue. -/
theorem advance_wait {q w : Nat} {k : Stacks} (h : cueOp w = 0x10 ∨ cueOp w = 0x11 ∨ cueOp w = 0x12) : advance q w k = .to (q + 1) k := by
  rcases h with h | h | h <;> simp [advance, h]

theorem State.enterWaiting_eq (h : s.reelState r = 2) (q e : Nat) : ((s.set (Fld.REEL_SP r) q).set2 (Fld.REEL_WAIT_END_LO r) (Fld.REEL_WAIT_END_HI r) e).enterState r 3 =
    ((s.set (Fld.REEL_SP r) q).set2 (Fld.REEL_WAIT_END_LO r) (Fld.REEL_WAIT_END_HI r) e).showState r 3 := by
  have h2 : ((s.set (Fld.REEL_SP r) q).set2 (Fld.REEL_WAIT_END_LO r) (Fld.REEL_WAIT_END_HI r) e).reelState r = 2 :=
    (Frame.put2 (ps := []) (p := fun x => [Fld.REEL_SP r, Fld.REEL_WAIT_END_LO r, Fld.REEL_WAIT_END_HI r].contains x) (by simp) (by simp) (Frame.put (by simp) (Frame.refl s _ _))).get (by simp) |>.trans h
  exact State.enterState_eq (.inl (by omega)) (.inr (.inl (by decide)))

theorem State.startWait_event {c : WinCue} (h : s.reelState r = 2) (hop : cueOp c.w = 0x10) (b : Nat) :
    s.startWait r b c = s.goWait r b c (if cueDw c.w 2 = 0 then 0 else b + cueDw c.w 2) := by
  rw [State.startWait]
  dsimp only
  rw [if_pos hop, State.enterWaiting_eq h, advance_wait (.inl hop)]

/-- A wait for a tick that has passed is reported (R147). -/
abbrev State.pastReported (s : State) (r w b : Nat) : State :=
  s.when (cueOp w == 0x11 && decide ((if cueBits w 10 1 = 1 then b + cueVal w else cueVal w) ≤ b)) (fun a => a.flag (Fld.TL_REEL_EVT_WAIT_PAST (tileOfReel r)))

theorem State.pastReported_frame (s : State) (r w b : Nat) : Frame s (s.pastReported r w b) [] (fun x => x == Fld.TL_REEL_EVT_WAIT_PAST (tileOfReel r)) :=
  Frame.step (Frame.putFlag (by simp) (Frame.refl _ _ _)) (Frame.refl _ _ _)

theorem State.startWait_tick {c : WinCue} (h : s.reelState r = 2) (hop : cueOp c.w = 0x11 ∨ cueOp c.w = 0x12) {b e : Nat} (he : s.waitTick c.w b = some e) :
    s.startWait r b c = (s.pastReported r c.w b).goWait r b c e := by
  have h2 : (s.pastReported r c.w b).reelState r = 2 := ((s.pastReported_frame r c.w b).get (by simp)).trans h
  rw [State.startWait]
  dsimp only
  rw [if_neg (by omega), he]
  dsimp only
  rw [State.enterWaiting_eq h2, advance_wait (.inr hop)]

theorem State.waitLoaded_frame (s : State) (r b : Nat) (c : WinCue) (e : Nat) :
    Frame s (s.waitLoaded r b c e) [.engines] (fun x => [Fld.REEL_SP r, Fld.REEL_WAIT_END_LO r, Fld.REEL_WAIT_END_HI r].contains x || shownOf r x) :=
  (State.onEng_frame _ _ _).via rfl (by simp) ((State.showState_frame _ _ _).via rfl (fun x hx => by simp only [hx, Bool.or_true])
    (Frame.put2 (by simp) (by simp) (Frame.put (by simp) (Frame.refl _ _ _))))

/-- From `s` to `t` reel `r` has come to wait from tick `b` on cue `c`, with `e` as its wait end. -/
structure Waits (s t : State) (r b : Nat) (c : WinCue) (e : Nat) : Prop where
  frame : Frame s t windowParts (cueOf r)
  state : t.get (Fld.REEL_STATE r) = 3
  sp : t.get (Fld.REEL_SP r) = c.q % 2 ^ 16
  lo : t.get (Fld.REEL_WAIT_END_LO r) = lo32 e
  hi : t.get (Fld.REEL_WAIT_END_HI r) = hi32 e
  eng : (t.eng r).waitB = b ∧ (t.eng r).waitOut = cueBits c.w 8 2 ∧ (t.eng r).run = false

theorem State.goWait_waits (s : State) (r b : Nat) (c : WinCue) (e : Nat) : Waits s (s.goWait r b c e) r b c e := by
  have hw := (s.waitLoaded r b c e).buildWindow_frame r [c] (c.q + 1) false
  have hl := s.waitLoaded_frame r b c e
  obtain ⟨⟨tg, f, heng⟩, -, -⟩ := (s.waitLoaded r b c e).buildWindow_eng r [c] (c.q + 1) false
  have hwaits : (s.waitLoaded r b c e).eng r = { s.eng r with run := false, started := false, waitB := b, waitOut := cueBits c.w 8 2 } := by
    refine (State.eng_onEng_self (State.eng_reel _ r)).trans ?_
    rw [(State.showState_frame _ _ _).eng (by simp), State.eng_set2, State.eng_set]
  have hget : ∀ k, windowOf r k = false → shownOf r k = false → (s.goWait r b c e).get k = ((s.set (Fld.REEL_SP r) c.q).set2 (Fld.REEL_WAIT_END_LO r) (Fld.REEL_WAIT_END_HI r) e).get k :=
    fun k h1 h2 => (hw.get h1).trans (((State.onEng_frame _ _ _).get rfl).trans ((State.showState_frame _ _ _).get h2))
  refine ⟨hw.via rfl windowOf_cueOf (hl.mono (by simp) (fun x hx => ?_)), ?_, ?_, ?_, ?_, ?_⟩
  · rcases Bool.or_eq_true_iff.mp hx with hx | hx
    · simp only [List.contains_cons, List.contains_nil, Bool.or_eq_true, beq_iff_eq, Bool.false_eq_true, or_false] at hx
      rcases hx with rfl | rfl | rfl <;> simp [reelOf]
    · exact shownOf_cueOf x hx
  · rw [hw.get (by simp [headKeys, ledgerOf, archiveLoss]), (State.onEng_frame _ _ _).get rfl, State.showState_state]
    rfl
  · rw [hget _ (by simp [headKeys, ledgerOf, archiveLoss]) (by simp [amongAt])]
    simp [State.get_set2]
  · rw [hget _ (by simp [headKeys, ledgerOf, archiveLoss]) (by simp [amongAt])]
    simp [State.get_set2, lo32]
  · rw [hget _ (by simp [headKeys, ledgerOf, archiveLoss]) (by simp [amongAt])]
    simp [State.get_set2, hi32]
  · rw [heng, hwaits]
    exact ⟨rfl, rfl, rfl⟩

theorem lo32_hi32 (e : Nat) : lo32 e + hi32 e * 2 ^ 32 = e % 2 ^ 64 := by
  unfold lo32 hi32
  omega

abbrev waitsSince (r w b : Nat) (t : State) : Prop := (t.eng r).waitB = b ∧ (t.eng r).waitOut = cueBits w 8 2 ∧ (t.eng r).run = false

abbrev State.waitValues (s : State) (r e : Nat) : List (Key × Nat) :=
  [(Fld.REEL_STATE r, 3), (Fld.REEL_SP r, s.get (Fld.REEL_SP r)), (Fld.REEL_WAIT_END_LO r, lo32 e), (Fld.REEL_WAIT_END_HI r, hi32 e)]

theorem Waits.values {w e b : Nat} {u : State} (h : Waits u t r b (s.cueAt r w) e) : ∀ q ∈ s.waitValues r e, t.get q.1 = q.2 := by
  simp only [List.forall_mem_cons, List.not_mem_nil, false_imp_iff, implies_true, and_true]
  exact ⟨h.state, h.sp.trans (s.get_mod_of_le _ (Nat.le_refl _)), h.lo, h.hi⟩

theorem cueWaitEv_does {r : Fin 1024} {w : Nat} (h : s.Executes r 0x10 w) :
    Does (.cueWaitEv r w) s windowParts (cueOf r) (s.waitValues r (if cueDw w 2 = 0 then 0 else s.tick + cueDw w 2)) (waitsSince r w s.tick) := by
  have hwait := s.goWait_waits r s.tick (s.cueAt r w) (if cueDw w 2 = 0 then 0 else s.tick + cueDw w 2)
  have hexec : exec (.cueWaitEv r w) s = .next (s.goWait r s.tick (s.cueAt r w) (if cueDw w 2 = 0 then 0 else s.tick + cueDw w 2)) :=
    congrArg Host.Outcome.next ((h.waits rfl).trans (State.startWait_event h.state h.op s.tick))
  exact ⟨_, hexec, hwait.values, hwait.frame.mono (fun _ h => h) (fun x hx => by simp only [hx, Bool.true_or]), hwait.eng⟩

theorem exec_cueWaitTick {r : Fin 1024} {w e : Nat} (h : s.Executes r 0x11 w) (he : s.waitTick w s.tick = some e) :
    exec (.cueWaitTick r w) s = .next ((s.pastReported r w s.tick).goWait r s.tick (s.cueAt r w) e) :=
  congrArg Host.Outcome.next ((h.waits rfl).trans (State.startWait_tick h.state (.inl h.op) he))

/-- The tick that a WAIT_TICK names. -/
abbrev namedTick (w b : Nat) : Nat := if cueBits w 10 1 = 1 then b + cueVal w else cueVal w

theorem State.waitTick_named {w : Nat} (h : cueOp w = 0x11) (b : Nat) : s.waitTick w b = some (if namedTick w b ≤ b then b else namedTick w b) := if_pos h

theorem cueWaitTick_does_later {r : Fin 1024} {w : Nat} (h : s.Executes r 0x11 w) (hb : s.tick < namedTick w s.tick) :
    Does (.cueWaitTick r w) s windowParts (cueOf r) (s.waitValues r (namedTick w s.tick)) (waitsSince r w s.tick) := by
  have hlate : (cueOp w == 0x11 && decide (namedTick w s.tick ≤ s.tick)) = false := by simp [hb]
  have hsame : s.pastReported r w s.tick = s := by rw [State.pastReported, hlate, State.when_false]
  have hexec := exec_cueWaitTick h ((State.waitTick_named h.op s.tick).trans (congrArg some (if_neg (Nat.not_le.mpr hb))))
  rw [hsame] at hexec
  have hwait := s.goWait_waits r s.tick (s.cueAt r w) (namedTick w s.tick)
  exact ⟨_, hexec, hwait.values, hwait.frame.mono (fun _ h => h) (fun x hx => by simp only [hx, Bool.true_or]), hwait.eng⟩

theorem cueWaitTick_does_past {r : Fin 1024} {w : Nat} (h : s.Executes r 0x11 w) (hb : namedTick w s.tick ≤ s.tick) :
    Does (.cueWaitTick r w) s windowParts (cueOf r) ((Fld.TL_REEL_EVT_WAIT_PAST (tileOfReel r), 1) :: s.waitValues r s.tick) (waitsSince r w s.tick) := by
  have hlate : (cueOp w == 0x11 && decide (namedTick w s.tick ≤ s.tick)) = true := by simp [hb, h.op]
  have hpast : s.pastReported r w s.tick = s.flag (Fld.TL_REEL_EVT_WAIT_PAST (tileOfReel r)) := by rw [State.pastReported, hlate, State.when_true]
  have hexec := exec_cueWaitTick h ((State.waitTick_named h.op s.tick).trans (congrArg some (if_pos hb)))
  rw [hpast] at hexec
  have hwait := (s.flag (Fld.TL_REEL_EVT_WAIT_PAST (tileOfReel r))).goWait_waits r s.tick (s.cueAt r w) s.tick
  refine ⟨_, hexec, ?_, hwait.frame.via rfl (fun x hx => by simp only [hx, Bool.true_or]) (Frame.putFlag (by simp [named]) (Frame.refl _ _ _)), hwait.eng⟩
  rw [List.forall_mem_cons]
  refine ⟨?_, hwait.values⟩
  rw [hwait.frame.get (by simp [reelOf, tileMaps, amongAt, ledgerOf, archiveLoss, among]), State.flag_eq, State.get_set_self]
  rfl

/-- The grid of period `p` and offset `o` has one tick in a period from `b` on (R148). -/
theorem gridFrom_spec {p o : Nat} (b : Nat) (h : o < p) : b ≤ gridFrom b p o ∧ gridFrom b p o < b + p ∧ gridFrom b p o % p = o := by
  have hp : 0 < p := by omega
  have h0 : 0 ≤ ((o : Int) - b) % p := Int.emod_nonneg _ (by omega)
  have hlt : ((o : Int) - b) % p < p := Int.emod_lt_of_pos _ (by omega)
  rw [gridFrom, if_neg (by omega)]
  refine ⟨by omega, by omega, ?_⟩
  zify
  rw [Int.toNat_of_nonneg h0, Int.add_emod, Int.emod_emod, ← Int.add_emod, add_sub_cancel]
  exact Int.emod_eq_of_lt (by omega) (by omega)

/-- A SYNC to a power-of-two grid that passes the checks names a tick of its period (R138). -/
theorem State.cueFault_sync {w : Nat} (h : s.cueFault r w = 0) (hop : cueOp w = 0x12) (h0 : cueBits w 10 2 = 0) : cueVal w < 2 ^ bitsOf (cueDw w 1) 0 6 := by
  by_contra hv
  have hbad : s.cueFault r w = if cueReserved w = true then 2 else 3 := by simp [State.cueFault, hop, h0, cueKind, Nat.not_lt.mp hv]
  rw [h] at hbad
  split at hbad <;> omega

theorem cueSync_does {r : Fin 1024} {w : Nat} (h : s.Executes r 0x12 w) (h0 : cueBits w 10 2 = 0) :
    Does (.cueSync r w) s windowParts (cueOf r) [(Fld.REEL_STATE r, 3), (Fld.REEL_SP r, s.get (Fld.REEL_SP r))]
      (fun t => waitsSince r w s.tick t ∧ ∃ e, s.tick ≤ e ∧ e < s.tick + 2 ^ (cueDw w 1 % 64) ∧ e % 2 ^ (cueDw w 1 % 64) = cueVal w ∧
        t.get2 (Fld.REEL_WAIT_END_LO r) (Fld.REEL_WAIT_END_HI r) = e % 2 ^ 64) := by
  have hbits : bitsOf (cueDw w 1) 0 6 = cueDw w 1 % 64 := by
    rw [bitsOf, pow_zero, Nat.div_one]
    rfl
  set e := gridFrom s.tick (2 ^ (cueDw w 1 % 64)) (cueVal w) with he
  have htick : s.waitTick w s.tick = some e := by
    have hop := h.op
    rw [State.waitTick, if_neg (by omega), h0, hbits]
    rfl
  have hval := State.cueFault_sync h.fault h.op h0
  rw [hbits] at hval
  obtain ⟨h1, h2, h3⟩ := gridFrom_spec s.tick hval
  have hsync : (cueOp w == 0x11 && decide (namedTick w s.tick ≤ s.tick)) = false := by simp [h.op]
  have hsame : s.pastReported r w s.tick = s := by rw [State.pastReported, hsync, State.when_false]
  have hexec : exec (.cueSync r w) s = .next ((s.pastReported r w s.tick).goWait r s.tick (s.cueAt r w) e) :=
    congrArg Host.Outcome.next ((h.waits rfl).trans (State.startWait_tick h.state (.inr h.op) htick))
  rw [hsame] at hexec
  have hwait := s.goWait_waits r s.tick (s.cueAt r w) e
  refine ⟨_, hexec, fun q hq => hwait.values q ?_, hwait.frame.mono (fun _ h => h) (fun x hx => ?_), hwait.eng, e, h1, h2, h3, ?_⟩
  · simp only [List.mem_cons, List.not_mem_nil, or_false] at hq ⊢
    tauto
  · simp only [hx, Bool.true_or]
  · rw [State.get2, hwait.lo, hwait.hi]
    exact lo32_hi32 e

/-! ### STOP and END (R124, R156, R197) -/

/-- The fields that the end of a script of reel `r` can change. -/
abbrev endOf (r : Nat) (x : Key) : Bool :=
  reelOf r x || tileMaps r x || archiveLoss x || amongAt [.TL_LATE_CNT, .TL_LATE_LAST, .TL_LATE_WORDS_HI, .TL_LATE_WORDS_LO, .TL_VSTG_EVT, .TL_VSTG_PEND] (tileOfReel r) x

theorem reportOf_endOf (x : Key) (h : reportOf (tileOfReel r) x = true) : endOf r x = true := by
  simp only [amongAt, Bool.and_eq_true, List.contains_cons, List.contains_nil, Bool.or_eq_true, beq_iff_eq, Bool.false_eq_true, or_false] at h
  rcases h with ⟨h | h | h | h | h | h, hi⟩ <;> simp [amongAt, h, hi]

theorem quitOf_endOf (x : Key) (h : quitOf r x = true) : endOf r x = true := by
  rcases quitOf_report x h with h | h | h | h
  · simp only [endOf, h, Bool.true_or]
  · simp only [endOf, h, Bool.or_true, Bool.true_or]
  · simp only [endOf, h, Bool.or_true, Bool.true_or]
  · exact reportOf_endOf x h

theorem shownOf_endOf (x : Key) (h : shownOf r x = true) : endOf r x = true := by
  rcases shownOf_maps x h with h | h <;> simp only [endOf, h, Bool.or_true, Bool.true_or]

/-- The record as a script stops at its cue with code `n`. -/
abbrev State.stopCoded (s : State) (r w n : Nat) : State := ((s.undeferred r).set (Fld.REEL_SP r) (s.cueAt r w).q).set (Fld.REEL_STOP_CODE r) n

theorem State.stopCoded_frame (s : State) (r w n : Nat) : Frame s (s.stopCoded r w n) [.engines] (fun x => x == Fld.REEL_SP r || x == Fld.REEL_STOP_CODE r) :=
  Frame.put (by simp) (Frame.put (by simp) ((State.onEng_frame _ _ _).mono (fun _ h => h) (by simp)))

/-- What holds of a reel whose script has ended for good. -/
abbrev stoppedAt (r b : Nat) (t : State) : Prop :=
  (t.eng r).run = false ∧ (t.eng r).fires = [] ∧ (t.eng r).commit = none ∧ (t.eng r).staged = [] ∧ (t.eng r).pendingSet = [] ∧ (t.eng r).stopAt = b

theorem stoppingCue_does {c : Instr} {op w n : Nat} (h : s.Executes r op w) (hg : s.groupOfDrive r = none) (hn : n < 65536)
    (hc : exec c s = .next ((s.stopCoded r w n).enterStopping r s.tick)) :
    Does c s [.engines, .arcBuf] (endOf r) [(Fld.REEL_STATE r, 5), (Fld.REEL_STOP_CODE r, n), (Fld.REEL_CUT_ARMED r, 0)] (stoppedAt r s.tick) := by
  have hf := s.stopCoded_frame r w n
  have h0 : (s.stopCoded r w n).reelState r ≠ 0 := by
    have h2 : (s.stopCoded r w n).reelState r = 2 := (hf.get (by simp)).trans h.state
    omega
  have hg' : (s.stopCoded r w n).groupOfDrive r = none := (State.groupOfDrive_congr (fun k hk => hf.get (by
    obtain ⟨kr, ki, kj, kl, kw⟩ := k
    subst hk
    simp)) r).trans hg
  have hstop := State.enterStopping_frame h0 hg' s.tick
  obtain ⟨hstate, -, -, hcut⟩ := State.enterStopping_values h0 hg' s.tick
  obtain ⟨hquit, hat⟩ := State.enterStopping_eng h0 hg' s.tick
  refine ⟨_, hc, ?_, hstop.via rfl (fun x hx => ?_) (hf.mono (by simp) (fun x hx => ?_)), hquit.run, hquit.fires, hquit.commit, hquit.staged, hquit.pendingSet, hat⟩
  · simp only [List.forall_mem_cons, List.not_mem_nil, false_imp_iff, implies_true, and_true]
    refine ⟨hstate, ?_, hcut⟩
    rw [hstop.get (by simp [amongAt, archiveLoss]), State.get_set_self]
    exact Nat.mod_eq_of_lt hn
  · rcases Bool.or_eq_true_iff.mp hx with hx | hx
    · simp only [quitOf_endOf x hx, Bool.true_or]
    · simp only [shownOf_endOf x hx, Bool.true_or]
  · rcases Bool.or_eq_true_iff.mp hx with hx | hx <;> rw [beq_iff_eq.mp hx] <;> simp [reelOf]

theorem exec_cueStop {r : Fin 1024} {w : Nat} (h : s.Executes r 0x3E w) : exec (.cueStop r w) s = .next ((s.stopCoded r w (cueDw w 1 % 65536)).enterStopping r s.tick) := by
  have hcode : bitsOf (cueDw w 1) 0 16 = cueDw w 1 % 65536 := by
    rw [bitsOf, pow_zero, Nat.div_one]
    rfl
  refine congrArg Host.Outcome.next ((h.ends rfl).trans ?_)
  rw [State.terminal]
  dsimp only
  rw [if_pos (show cueOp (s.cueAt r w).w = 0x3E from h.op), show (s.cueAt r w).w = w from rfl, hcode]

theorem exec_cueEnd_stop {r : Fin 1024} {w : Nat} (h : s.Executes r 0x3F w) (hk : s.is (Fld.REEL_START_KIND r) = false)
    (hp : s.get2 (Fld.REEL_START_PER_LO r) (Fld.REEL_START_PER_HI r) = 0) : exec (.cueEnd r w) s = .next ((s.stopCoded r w 0).enterStopping r s.tick) := by
  have hop : cueOp (s.cueAt r w).w ≠ 0x3E := by
    have : cueOp (s.cueAt r w).w = 0x3F := h.op
    omega
  have hk' : (s.undeferred r).is (Fld.REEL_START_KIND r) = false := hk
  have hp' : (s.undeferred r).get2 (Fld.REEL_START_PER_LO r) (Fld.REEL_START_PER_HI r) = 0 := hp
  refine congrArg Host.Outcome.next ((h.ends rfl).trans ?_)
  rw [State.terminal]
  dsimp only
  rw [if_neg hop, hk', if_neg Bool.false_ne_true, if_pos hp']

/-- The script has ended at its cue; its late episode, cuts and staged sets are closed. -/
abbrev State.scriptEnded (s : State) (r w : Nat) : State :=
  (((((s.undeferred r).set (Fld.REEL_SP r) (s.cueAt r w).q).endEpisode r s.tick).discardCuts r).discardSets r)

theorem exec_cueEnd_again {r : Fin 1024} {w : Nat} (h : s.Executes r 0x3F w) (hk : s.is (Fld.REEL_START_KIND r) = true) :
    exec (.cueEnd r w) s = .next ((s.scriptEnded r w).enterArmed r s.tick) := by
  have hop : cueOp (s.cueAt r w).w ≠ 0x3E := by
    have : cueOp (s.cueAt r w).w = 0x3F := h.op
    omega
  have hk' : (s.undeferred r).is (Fld.REEL_START_KIND r) = true := hk
  refine congrArg Host.Outcome.next ((h.ends rfl).trans ?_)
  rw [State.terminal]
  dsimp only
  rw [if_neg hop, if_pos hk']

abbrev scriptKeys (r : Nat) (x : Key) : Bool :=
  x == Fld.REEL_SP r || lateOf r x || x == Fld.REEL_CUT_ARMED r || x == Fld.TL_CUT_EVT_COMMIT_DISCARDED (tileOfReel r) || amongAt [.TL_VSTG_EVT, .TL_VSTG_PEND] (tileOfReel r) x

theorem State.scriptEnded_frame (s : State) (r w : Nat) : Frame s (s.scriptEnded r w) [.engines, .arcBuf] (scriptKeys r) := by
  refine (State.discardSets_frame _ _).via rfl (fun x hx => ?_) ((State.discardCuts_frame _ _).via rfl (fun x hx => ?_) ((State.endEpisode_frame _ _ _).via rfl (fun x hx => ?_)
    (Frame.put (by simp) ((State.onEng_frame _ _ _).mono (by simp) (by simp)))))
  · simp only [scriptKeys, hx, Bool.or_true]
  · rcases Bool.or_eq_true_iff.mp hx with hx | hx <;> simp only [scriptKeys, hx, Bool.or_true, Bool.true_or]
  · simp only [scriptKeys, hx, Bool.or_true, Bool.true_or]

theorem State.scriptEnded_cut (s : State) (r w : Nat) : (s.scriptEnded r w).get (Fld.REEL_CUT_ARMED r) = 0 := by
  rw [State.scriptEnded, (State.discardSets_frame _ _).get (by simp [amongAt]), State.discardCuts, State.clr_eq, State.get_set_self]
  rfl

theorem scriptKeys_endOf (x : Key) (h : scriptKeys r x = true) : endOf r x = true := by
  rw [scriptKeys, Bool.or_eq_true_iff, Bool.or_eq_true_iff, Bool.or_eq_true_iff, Bool.or_eq_true_iff] at h
  rcases h with (((h | h) | h) | h) | h
  · rw [beq_iff_eq.mp h]
    simp [reelOf]
  all_goals exact quitOf_endOf x (by simp only [quitOf, h, Bool.or_true, Bool.true_or])

theorem cueEnd_does_again {r : Fin 1024} {w : Nat} (h : s.Executes r 0x3F w) (hk : s.is (Fld.REEL_START_KIND r) = true) :
    Does (.cueEnd r w) s windowParts (fun x => endOf r x || ledgerOf 16 x || among [.MS_EVT, .L_STRM_RET] x)
      [(Fld.REEL_STATE r, 1), (Fld.REEL_SP r, s.get (Fld.REEL_ENTRY r)), (Fld.REEL_RATE r, s.get (Fld.REEL_BOOKED r)), (Fld.REEL_CUT_ARMED r, 0),
        (Fld.REEL_FTW_CUR_LO r, s.get (Fld.REEL_FTW_LO r)), (Fld.REEL_P_CUR_LO r, s.get (Fld.REEL_P_LO r)), (Fld.REEL_AMP_CUR r, s.get (Fld.REEL_AMP r))]
      (fun t => t.stacks r = ⟨[], []⟩ ∧ (t.eng r).armedAt = s.tick) := by
  have hf := s.scriptEnded_frame r w
  have hget : ∀ k, scriptKeys r k = false → (s.scriptEnded r w).get k = s.get k := fun k hk => hf.get hk
  have hcal : (s.scriptEnded r w).reelState r ≠ 0 ∨ (s.scriptEnded r w).is Lat.CAL_RUN = false := .inl (by
    have h2 : (s.scriptEnded r w).reelState r = 2 := (hget _ (by simp [amongAt, archiveLoss])).trans h.state
    omega)
  have harm := State.enterArmed_frame hcal s.tick
  obtain ⟨hst, hsp, hrate, hftw, hp, hamp⟩ := State.enterArmed_values hcal s.tick
  refine ⟨_, exec_cueEnd_again h hk, ?_, harm.via rfl (fun x hx => ?_) (hf.mono (by simp) (fun x hx => ?_)), State.enterArmed_stacks hcal s.tick, (State.enterArmed_eng hcal s.tick).1⟩
  · simp only [List.forall_mem_cons, List.not_mem_nil, false_imp_iff, implies_true, and_true]
    refine ⟨hst, hsp.trans (hget _ ?_), hrate.trans (hget _ ?_), (harm.get ?_).trans (s.scriptEnded_cut r w), hftw.trans (hget _ ?_), hp.trans (hget _ ?_), hamp.trans (hget _ ?_)⟩
    all_goals simp [amongAt, archiveLoss, stackOf, headKeys, ledgerOf]
  · rcases armedOf_fields x hx with hx | hx | hx | hx | hx <;> simp only [endOf, hx, Bool.or_true, Bool.true_or]
  · simp only [scriptKeys_endOf x hx, Bool.true_or]

theorem Does.weaken {c : Instr} {ps : List Part} {p : Key → Bool} {l : List (Key × Nat)} {P Q : State → Prop} (h : Does c s ps p l P) (hq : ∀ u, P u → Q u) : Does c s ps p l Q := by
  obtain ⟨u, he, hv, hf, hp⟩ := h
  exact ⟨u, he, hv, hf, hq u hp⟩

/-- Settles O37: a cue that takes time starts its segment, its wait or the end of its script at the tick at which it executes. -/
theorem cuesThatTakeTime : Obligations.CuesThatTakeTime := by
  refine ⟨fun r w s => ⟨fun h hc hv => ?_, fun h hc hv => ?_, fun h hc hv hs hst => ?_, fun h hc => ?_⟩,
    fun r w s => ⟨fun h => cueWaitEv_does (State.executes h), fun h => ⟨cueWaitTick_does_later (State.executes h), cueWaitTick_does_past (State.executes h)⟩,
      fun h h0 => cueSync_does (State.executes h) h0⟩,
    fun r w s hg => ⟨fun h => ?_, fun h hk hp => ?_, fun h hk => cueEnd_does_again (State.executes h) hk⟩⟩
  · obtain ⟨hp, -, hgrid, hf⟩ := hc
    have he := State.executes h
    exact (producingCue_does rfl he rfl (if_neg (by rw [he.op]; decide)) hp hgrid hf (.inl he.op) (.inr (.inl hv))).weaken (fun _ ht => ht.1)
  · obtain ⟨hp, -, hgrid, hf⟩ := hc
    have he := State.executes h
    exact (producingCue_does rfl he rfl (if_pos he.op) hp hgrid hf (.inr (.inl he.op)) (.inr (.inl hv))).weaken (fun _ ht => ht.1)
  · obtain ⟨hp, -, hgrid, hf⟩ := hc
    have he := State.executes h
    exact (producingCue_does rfl he rfl (if_neg (by rw [he.op]; decide)) hp hgrid hf (.inl he.op) (.inr (.inr ⟨hv, hs, hst⟩))).weaken
      (fun _ ht => ⟨ht.1, ht.2 hv (by rw [he.op]; decide)⟩)
  · obtain ⟨hp, -, hgrid, hf⟩ := hc
    have he := State.executes h
    exact (producingCue_does rfl he rfl (if_neg (by rw [he.op]; decide)) hp hgrid hf (.inr (.inr he.op)) (.inl he.op)).weaken (fun _ ht => ht.1)
  · exact stoppingCue_does (State.executes h) hg (Nat.mod_lt _ (by decide)) (exec_cueStop (State.executes h))
  · exact stoppingCue_does (State.executes h) hg (by decide) (exec_cueEnd_stop (State.executes h) hk hp)

end

end Sys2Proof.Machine
end

section
/-!
PROOFS. Event stamps, agreed stamps and the stops they request (R163, R166 to R169).
-/
namespace Sys2Proof.Machine

/-! ### First elements of a list -/

theorem replaceFirst_of_none {α : Type} {p : α → Bool} (f : α → α) {l : List α} (h : l.all (fun a => !p a) = true) : replaceFirst p f l = l := by
  induction l with
  | nil => rfl
  | cons a l ih =>
    obtain ⟨ha, hl⟩ : p a = false ∧ l.all (fun a => !p a) = true := by simpa using h
    simp [replaceFirst, ha, ih hl]

theorem replaceFirst_of_head {α : Type} {p : α → Bool} (f : α → α) {l : List α} {a : α} (hl : l.head? = some a) (h : p a = true) : replaceFirst p f l = f a :: l.tail := by
  obtain ⟨t, rfl⟩ := List.head?_eq_some_iff.mp hl
  simp [replaceFirst, h]

theorem removeFirst_of_head {α : Type} {p : α → Bool} {l : List α} {a : α} (hl : l.head? = some a) (h : p a = true) : removeFirst p l = l.tail := by
  obtain ⟨t, rfl⟩ := List.head?_eq_some_iff.mp hl
  simp [removeFirst, h]

theorem find?_of_head {α : Type} {p : α → Bool} {l : List α} {a : α} (hl : l.head? = some a) (h : p a = true) : l.find? p = some a := by
  obtain ⟨t, rfl⟩ := List.head?_eq_some_iff.mp hl
  simp [h]

section
variable {s : State} {p : Pulse} {st u : Nat}

/-! ### EVENT_STAMP (R166) -/

theorem exec_eventStamp_keeps {u : Fin 8} {c : Fin 128} (h : s.pulses.all (fun p => p.ch != (c : Nat) || p.tiles.any (fun x => x.1 == (u : Nat))) = true) :
    exec (.eventStamp u c) s = .next s := by
  have hnone : s.pulses.all (fun p => !(p.ch == (c : Nat) && p.tiles.all (fun x => x.1 != (u : Nat)))) = true := by
    simpa [Bool.not_and, List.not_all_eq_any_not] using h
  change execEventStamp u c s = _
  rw [execEventStamp, replaceFirst_of_none _ hnone]

/-- A pulse with the stamp of one more tile. -/
abbrev Pulse.stampedBy (p : Pulse) (u tick : Nat) (unref : Bool) : Pulse :=
  { p with tiles := p.tiles ++ [(u, tick)], stamp := minTick p.stamp (some tick), unref := p.unref || unref }

theorem eventStamp_does {u : Fin 8} {c : Fin 128} (hp : s.pulses.head? = some p) (hc : p.ch = c) (hu : p.tiles.all (fun x => x.1 != (u : Nat)) = true) :
    Does (.eventStamp u c) s [.pulses] (fun _ => false) [] (fun t => t.pulses = p.stampedBy u s.tick s.unref :: s.pulses.tail) := by
  have hfirst : (p.ch == (c : Nat) && p.tiles.all (fun x => x.1 != (u : Nat))) = true := by simp [hc, hu]
  exact ⟨_, rfl, by simp, Frame.on_pulses rfl (Frame.refl _ _ _), replaceFirst_of_head _ hp hfirst⟩

/-! ### The tiles latch an agreed stamp (R167 to R169) -/

/-- Tile `u` reports that agreed stamp `st` is late, and latches it where it selects the channel of pulse `p`. -/
def Pulse.latch (p : Pulse) (st : Nat) (late : Bool) (u : Nat) (a : State) : State :=
  let a1 := a.when late (fun b => b.flag (Fld.TL_CUT_EVT_EV_LATE u))
  if a1.get (Fld.TL_EVR_SEL_EVC u) = p.ch then
    let loc := ((p.tiles.find? (fun x => x.1 == u)).map (fun x => x.2)).getD (2 ^ 64 - 1)
    (((a1.set2 (Fld.TL_EVR_STAMP_LO u) (Fld.TL_EVR_STAMP_HI u) st).set2 (Fld.TL_EVR_LOCAL_LO u) (Fld.TL_EVR_LOCAL_HI u) loc).sets
      [(Fld.TL_EVR_STATUS_VALID u, 1), (Fld.TL_EVR_STATUS_ORIGIN u, (p.origin == some st).toNat), (Fld.TL_EVR_STATUS_LATE u, late.toNat),
        (Fld.TL_EVR_STATUS_UNREF u, p.unref.toNat)]).when late (fun b => b.bump (Fld.TL_EVR_STATUS_LATE_CNT u))
  else a1

/-- The registers of an event receiver that a stamp changes. -/
abbrev receiverRegs : List RName := [.TL_EVR_STAMP_LO, .TL_EVR_STAMP_HI, .TL_EVR_LOCAL_LO, .TL_EVR_LOCAL_HI, .TL_EVR_STATUS]

/-- The fields in which tile `u` latches a stamp. -/
abbrev latchOf (late : Bool) (u : Nat) (x : Key) : Bool := (among receiverRegs x || late && x.r == .TL_CUT_EVT) && x.i == u

theorem Pulse.latch_frame (p : Pulse) (st : Nat) (late : Bool) (u : Nat) (a : State) : Frame a (p.latch st late u a) [] (latchOf late u) := by
  have hlate : Frame a (a.when late (fun b => b.flag (Fld.TL_CUT_EVT_EV_LATE u))) [] (latchOf late u) := by
    cases late
    · exact Frame.refl _ _ _
    · exact Frame.putFlag (by simp) (Frame.refl _ _ _)
  refine Frame.choose (fun _ => ?_) (fun _ => hlate)
  exact Frame.step (Frame.putBump (by simp [among]) (Frame.refl _ _ _))
    (Frame.puts (by simp [among]) (Frame.put2 (by simp [among]) (by simp [among]) (Frame.put2 (by simp [among]) (by simp [among]) hlate)))

/-- A tile that selects the channel holds the stamp. -/
theorem Pulse.latch_selected {a : State} (h : a.get (Fld.TL_EVR_SEL_EVC u) = p.ch) (st : Nat) : let t := p.latch st false u a
    t.get2 (Fld.TL_EVR_STAMP_LO u) (Fld.TL_EVR_STAMP_HI u) = st % 2 ^ 64 ∧ t.is (Fld.TL_EVR_STATUS_VALID u) = true ∧ t.is (Fld.TL_EVR_STATUS_LATE u) = false := by
  have hsel : (a.when false (fun b => b.flag (Fld.TL_CUT_EVT_EV_LATE u))).get (Fld.TL_EVR_SEL_EVC u) = p.ch := h
  intro t
  simp only [t, Pulse.latch, if_pos hsel]
  refine ⟨?_, by simp, by simp⟩
  simp [State.get2, State.get_set, State.get_set2]
  omega

/-- A tile that selects another channel keeps its receiver. -/
theorem Pulse.latch_other {a : State} (h : a.get (Fld.TL_EVR_SEL_EVC u) ≠ p.ch) (st : Nat) : p.latch st false u a = a := if_neg h

theorem Pulse.latch_late (p : Pulse) (st u : Nat) (a : State) : (p.latch st true u a).is (Fld.TL_CUT_EVT_EV_LATE u) = true := by
  unfold Pulse.latch
  dsimp only
  split <;> simp [State.set2, State.bump]

/-- A fold in which each step changes and reads one unit alone does in a unit what its step does. -/
theorem State.each_unit {ps : List Part} {f : Nat → State → State} (hf : ∀ n a, Frame a (f n a) ps (fun x => x.i == n)) {l : List Nat} (hl : l.Nodup) (hu : u ∈ l) (s : State) :
    ∃ a, (∀ k : Key, k.i = u → a.get k = s.get k) ∧ ∀ k : Key, k.i = u → (s.each l f).get k = (f u a).get k := by
  have hkeep : ∀ (m : List Nat) (a : State), u ∉ m → ∀ k : Key, k.i = u → (a.each m f).get k = a.get k := fun m a hm k hk =>
    (Frame.each ps (fun x => x.i != u) f m (fun n hn b => (hf n b).mono (fun _ h => h) (fun x hx => by
      simp only [bne_iff_ne, beq_iff_eq.mp hx]
      exact fun h => hm (h ▸ hn))) a).get (by simp [hk])
  induction l generalizing s with
  | nil => simp at hu
  | cons n l ih =>
    obtain ⟨hn, hl⟩ := List.nodup_cons.mp hl
    by_cases h : n = u
    · subst h
      exact ⟨s, fun _ _ => rfl, fun k hk => hkeep l _ hn k hk⟩
    · obtain ⟨a, ha, hk⟩ := ih hl ((List.mem_cons.mp hu).resolve_left (Ne.symm h)) (f n s)
      exact ⟨a, fun k hi => (ha k hi).trans ((hf n s).get (by simpa [hi] using Ne.symm h)), hk⟩

/-! ### Stop events (R163) -/

theorem State.requestStop_stoppable (a : State) (n r e : Nat) : (a.requestStop n e).stoppable r = a.stoppable r := by
  have hs : (a.requestStop n e).get (Fld.REEL_STATE r) = a.get (Fld.REEL_STATE r) := by
    unfold State.requestStop
    split
    · simp [State.get_set2]
    · rfl
  simp only [State.stoppable, hs]

theorem State.requestStop_other {n r : Nat} (h : n ≠ r) (a : State) (e : Nat) :
    (a.requestStop n e).get2 (Fld.REEL_STOP_TICK_LO r) (Fld.REEL_STOP_TICK_HI r) = a.get2 (Fld.REEL_STOP_TICK_LO r) (Fld.REEL_STOP_TICK_HI r) := by
  unfold State.requestStop
  split
  · simp [State.get2, State.get_set2, h]
  · rfl

/-- A reel that may take a stop request stops no later than it asks. -/
theorem State.requestStop_le {a : State} {r e : Nat} (hs : a.stoppable r = true) (he : e < 2 ^ 64) :
    (a.requestStop r e).get2 (Fld.REEL_STOP_TICK_LO r) (Fld.REEL_STOP_TICK_HI r) ≤ e := by
  unfold State.requestStop
  split
  case isTrue =>
    simp [State.get2, State.get_set2]
    omega
  case isFalse h => simpa [hs] using h

/-- The reels that take an event of channel `ch` for their stop are asked to stop at its tick `e`. -/
def State.stopOn (s : State) (ch e : Nat) : State :=
  s.each (s.activeReels.filter (fun r => s.is (Fld.REEL_STOP_EN r) && s.get (Fld.REEL_STOP_EVC r) == ch)) (fun r a => a.requestStop r e)

theorem State.stopOn_frame (s : State) (ch e : Nat) : Frame s (s.stopOn ch e) [] (fun x => x.r == .REEL) :=
  Frame.each _ _ _ _ (fun r _ a => (a.requestStop_touches r e).mono (fun _ h => h) (fun x hx => by simpa [among] using hx)) s

theorem State.each_requestStop_le {l : List Nat} {r e : Nat} (hr : r ∈ l) (he : e < 2 ^ 64) {a : State} (hs : a.stoppable r = true) :
    (a.each l (fun r a => a.requestStop r e)).get2 (Fld.REEL_STOP_TICK_LO r) (Fld.REEL_STOP_TICK_HI r) ≤ e := by
  have hkeep : ∀ (m : List Nat) (b : State), b.stoppable r = true → b.get2 (Fld.REEL_STOP_TICK_LO r) (Fld.REEL_STOP_TICK_HI r) ≤ e →
      (b.each m (fun r a => a.requestStop r e)).get2 (Fld.REEL_STOP_TICK_LO r) (Fld.REEL_STOP_TICK_HI r) ≤ e := by
    intro m
    induction m with
    | nil => exact fun _ _ h => h
    | cons n m ih =>
      intro b hb h
      refine ih _ ((b.requestStop_stoppable n r e).trans hb) ?_
      by_cases hn : n = r
      · subst hn
        exact State.requestStop_le hb he
      · rwa [State.requestStop_other hn]
  induction l generalizing a with
  | nil => simp at hr
  | cons n l ih =>
    have hs' := (a.requestStop_stoppable n r e).trans hs
    by_cases hn : n = r
    · subst hn
      exact hkeep l _ hs' (State.requestStop_le hs he)
    · exact ih ((List.mem_cons.mp hr).resolve_left (Ne.symm hn)) hs'

theorem findField_mem {k : Key} {v : Nat} {l : List (Key × Nat)} (h : findField k l = some v) : (k, v) ∈ l := by
  induction l with
  | nil => simp [findField] at h
  | cons q l ih =>
    obtain ⟨k', v'⟩ := q
    by_cases hk : k' = k
    · subst hk
      obtain rfl : v' = v := by simpa [findField] using h
      exact List.mem_cons_self
    · exact List.mem_cons_of_mem _ (ih (by simpa [findField, hk] using h))

/-- A reel that is not IDLE is active. -/
theorem State.mem_activeReels {r : Nat} (h : s.reelState r ≠ 0) : r ∈ s.activeReels := by
  cases hf : findField (Fld.REEL_STATE r) s.fields with
  | none => exact absurd (by rw [State.reelState, State.get, hf]; rfl) h
  | some v =>
    have hv : v ≠ 0 := fun h0 => h (by rw [State.reelState, State.get, hf, h0]; rfl)
    refine List.mem_map.mpr ⟨(Fld.REEL_STATE r, v), List.mem_filter.mpr ⟨findField_mem hf, ?_⟩, rfl⟩
    simpa using hv

theorem State.stopOn_le {r ch e : Nat} (hen : s.is (Fld.REEL_STOP_EN r) = true) (hch : s.get (Fld.REEL_STOP_EVC r) = ch) (hs : s.stoppable r = true) (he : e < 2 ^ 64) :
    (s.stopOn ch e).get2 (Fld.REEL_STOP_TICK_LO r) (Fld.REEL_STOP_TICK_HI r) ≤ e := by
  have hstate : s.reelState r ≠ 0 := fun h0 => by
    rw [State.stoppable, show s.get (Fld.REEL_STATE r) = 0 from h0] at hs
    exact absurd hs (by decide)
  exact State.each_requestStop_le (List.mem_filter.mpr ⟨State.mem_activeReels hstate, by simp [hen, hch]⟩) he hs

/-! ### STAMP_AGREED (R167) -/

/-- The agreed stamp `st` comes more than 48 words after its tick. -/
abbrev State.stampLate (s : State) (st : Nat) : Bool := decide (st + 384 < s.tick)

/-- The effective tick E of an event agreed at stamp `st`. -/
abbrev State.effectiveTick (s : State) (st : Nat) : Nat := if s.stampLate st then wordUp (s.tick + 128) else st + dCut

abbrev State.latched (s : State) (p : Pulse) (st : Nat) : State := s.each (List.range 8) (p.latch st (s.stampLate st))

/-- The events that the tiles keep once a pulse has become one. -/
abbrev State.eventsWith (s : State) (p : Pulse) (st : Nat) : List Ev :=
  (s.latched p st).events.filter (fun v => s.tick ≤ max (v.s + 512) v.e) ++ [⟨p.ch, st, s.effectiveTick st, p.unref⟩]

/-- The event is known, with triggers `g` and ALIGN pins `d` that fall due by it. -/
abbrev State.announced (s : State) (p : Pulse) (st : Nat) (g : List Trigger) (d : List (Nat × Nat)) : State :=
  { s.latched p st with events := s.eventsWith p st, triggers := g, alignDue := d }

theorem State.agree_eq (s : State) (p : Pulse) (st : Nat) : ∃ g d, s.agree p st = (s.announced p st g d).stopOn p.ch (s.effectiveTick st) := ⟨_, _, rfl⟩

theorem State.latched_frame (s : State) (p : Pulse) (st : Nat) : Frame s (s.latched p st) [] (fun x => among receiverRegs x || s.stampLate st && x.r == .TL_CUT_EVT) :=
  Frame.each _ _ _ _ (fun u _ a => (p.latch_frame st _ u a).mono (fun _ h => h) (fun _ hx => (Bool.and_eq_true_iff.mp hx).1)) s

theorem State.agree_frame (s : State) (p : Pulse) (st : Nat) :
    Frame s (s.agree p st) [.events, .triggers, .alignDue] (fun x => among receiverRegs x || s.stampLate st && x.r == .TL_CUT_EVT || x.r == .REEL) := by
  obtain ⟨g, d, h⟩ := s.agree_eq p st
  rw [h]
  refine (State.stopOn_frame _ _ _).via rfl (fun x hx => ?_) (Frame.on_events_triggers_alignDue rfl rfl rfl ((s.latched_frame p st).mono (by simp) (fun x hx => ?_)))
  · rw [hx, Bool.or_true]
  · rw [hx, Bool.true_or]

theorem State.agree_events (s : State) (p : Pulse) (st : Nat) : (s.agree p st).events.getLast? = some ⟨p.ch, st, s.effectiveTick st, p.unref⟩ := by
  obtain ⟨g, d, h⟩ := s.agree_eq p st
  have hevents : ((s.announced p st g d).stopOn p.ch (s.effectiveTick st)).events = s.eventsWith p st := (State.stopOn_frame _ _ _).1 .events (by simp)
  rw [h, hevents, List.getLast?_concat]

/-- In a tile an agreed stamp does what the tile's receiver does with it. -/
theorem State.agree_tile (s : State) (p : Pulse) (st : Nat) (hu : u < 8) :
    ∃ a, (∀ k : Key, k.i = u → a.get k = s.get k) ∧ ∀ k : Key, k.i = u → k.r ≠ .REEL → (s.agree p st).get k = (p.latch st (s.stampLate st) u a).get k := by
  obtain ⟨g, d, h⟩ := s.agree_eq p st
  obtain ⟨a, ha, hk⟩ := State.each_unit (fun n b => (p.latch_frame st (s.stampLate st) n b).mono (fun _ h => h) (fun _ hx => (Bool.and_eq_true_iff.mp hx).2))
    List.nodup_range (List.mem_range.mpr hu) s
  refine ⟨a, ha, fun k hi hr => ?_⟩
  rw [h, (State.stopOn_frame _ _ _).get (beq_false_of_ne hr)]
  exact hk k hi

theorem State.agree_stops {r : Nat} (hen : s.is (Fld.REEL_STOP_EN r) = true) (hch : s.get (Fld.REEL_STOP_EVC r) = p.ch) (hs : s.stoppable r = true)
    (he : s.effectiveTick st < 2 ^ 64) : (s.agree p st).get2 (Fld.REEL_STOP_TICK_LO r) (Fld.REEL_STOP_TICK_HI r) ≤ s.effectiveTick st := by
  obtain ⟨g, d, h⟩ := s.agree_eq p st
  have hget : ∀ k : Key, k.r = .REEL → (s.latched p st).get k = s.get k := fun k hk => (s.latched_frame p st).get (by simp [among, hk])
  rw [h]
  refine State.stopOn_le ((congrArg (· == 1) (hget (Fld.REEL_STOP_EN r) rfl)).trans hen) ((hget (Fld.REEL_STOP_EVC r) rfl).trans hch) ?_ he
  rw [← hs]
  exact congrArg (fun n => decide (1 ≤ n) && decide (n ≤ 4)) (hget (Fld.REEL_STATE r) rfl)

abbrev State.withoutPulse (s : State) (c : Nat) : State := { s with pulses := removeFirst (fun p => p.ch == c) s.pulses }

theorem exec_stampAgreed_keeps {c : Fin 128} (h : s.pulses.all (fun p => p.ch != (c : Nat)) = true) : exec (.stampAgreed c) s = .next s := by
  have hnone : s.pulses.find? (fun p => p.ch == (c : Nat)) = none := List.find?_eq_none.mpr (by simpa using h)
  change execStampAgreed c s = _
  rw [execStampAgreed, hnone]

section
variable {c : Fin 128} (hp : s.pulses.head? = some p) (hc : p.ch = c)
include hp hc

theorem exec_stampAgreed_unstamped (ho : p.origin = none) (hs : p.stamp = none) : exec (.stampAgreed c) s = .next s := by
  change execStampAgreed c s = _
  rw [execStampAgreed, find?_of_head hp (by simp [hc])]
  dsimp only
  rw [ho, hs]
  rfl

theorem exec_stampAgreed (hst : minTick p.origin p.stamp = some st) : exec (.stampAgreed c) s = .next ((s.withoutPulse c).agree p st) := by
  change execStampAgreed c s = _
  rw [execStampAgreed, find?_of_head hp (by simp [hc])]
  dsimp only
  rw [hst]

/-- The pulse is gone, and the rest of the state is as the agreement leaves it. -/
theorem State.withoutPulse_agree_pulses (st : Nat) : ((s.withoutPulse c).agree p st).pulses = s.pulses.tail :=
  ((State.agree_frame _ _ _).1 .pulses (by simp)).trans (removeFirst_of_head hp (by simp [hc]))

theorem stampAgreed_does (hst : minTick p.origin p.stamp = some st) (hlate : s.tick ≤ st + 384) :
    Does (.stampAgreed c) s [.pulses, .events, .triggers, .alignDue]
      (fun x => among [.TL_EVR_STAMP_LO, .TL_EVR_STAMP_HI, .TL_EVR_LOCAL_LO, .TL_EVR_LOCAL_HI, .TL_EVR_STATUS] x || x.r == .REEL) []
      (fun t => t.pulses = s.pulses.tail ∧ t.events.getLast? = some ⟨c, st, st + dCut, p.unref⟩ ∧
        (∀ u < 8, s.get (Fld.TL_EVR_SEL_EVC u) = c → t.get2 (Fld.TL_EVR_STAMP_LO u) (Fld.TL_EVR_STAMP_HI u) = st % 2 ^ 64 ∧ t.is (Fld.TL_EVR_STATUS_VALID u) = true ∧
          t.is (Fld.TL_EVR_STATUS_LATE u) = false) ∧
        (∀ u < 8, s.get (Fld.TL_EVR_SEL_EVC u) ≠ c → t.get (Fld.TL_EVR_STAMP_LO u) = s.get (Fld.TL_EVR_STAMP_LO u) ∧
          t.get (Fld.TL_EVR_STATUS_VALID u) = s.get (Fld.TL_EVR_STATUS_VALID u)) ∧
        (∀ r ∈ s.activeReels, s.is (Fld.REEL_STOP_EN r) = true → s.get (Fld.REEL_STOP_EVC r) = c → s.stoppable r = true → st + dCut < 2 ^ 64 →
          t.get2 (Fld.REEL_STOP_TICK_LO r) (Fld.REEL_STOP_TICK_HI r) ≤ st + dCut)) := by
  have hearly : (s.withoutPulse c).stampLate st = false := decide_eq_false (Nat.not_lt.mpr hlate)
  have heff : (s.withoutPulse c).effectiveTick st = st + dCut := if_neg (by rw [hearly]; decide)
  have hframe := (s.withoutPulse c).agree_frame p st
  have hevent := (s.withoutPulse c).agree_events p st
  rw [hearly] at hframe
  rw [heff, hc] at hevent
  refine ⟨_, exec_stampAgreed hp hc hst, by simp, hframe.via rfl (fun x hx => ?_) (Frame.on_pulses rfl (Frame.refl _ _ _)), State.withoutPulse_agree_pulses hp hc st, hevent,
    fun u hu hsel => ?_, fun u hu hsel => ?_, fun r _ hen hch hs he => ?_⟩
  · simpa [named] using hx
  · obtain ⟨a, ha, htile⟩ := (s.withoutPulse c).agree_tile p st hu
    rw [hearly] at htile
    have hlatch := Pulse.latch_selected (p := p) ((ha (Fld.TL_EVR_SEL_EVC u) rfl).trans (hsel.trans hc.symm)) st
    simp only [State.get2, State.is] at hlatch ⊢
    rwa [htile (Fld.TL_EVR_STAMP_LO u) rfl (by simp), htile (Fld.TL_EVR_STAMP_HI u) rfl (by simp), htile (Fld.TL_EVR_STATUS_VALID u) rfl (by simp),
      htile (Fld.TL_EVR_STATUS_LATE u) rfl (by simp)]
  · obtain ⟨a, ha, htile⟩ := (s.withoutPulse c).agree_tile p st hu
    rw [hearly, Pulse.latch_other (fun h => hsel (((ha (Fld.TL_EVR_SEL_EVC u) rfl).symm.trans h).trans hc))] at htile
    exact ⟨(htile _ rfl (by simp)).trans (ha _ rfl), (htile _ rfl (by simp)).trans (ha _ rfl)⟩
  · have hstop := State.agree_stops (s := s.withoutPulse c) (p := p) (st := st) hen (hch.trans hc.symm) hs (by rwa [heff])
    rwa [heff] at hstop

theorem stampAgreed_late (hst : minTick p.origin p.stamp = some st) (hlate : st + 384 < s.tick) :
    ∃ t, exec (.stampAgreed c) s = .next t ∧ t.pulses = s.pulses.tail ∧ t.events.getLast? = some ⟨c, st, wordUp (s.tick + 128), p.unref⟩ ∧
      ∀ u < 8, t.is (Fld.TL_CUT_EVT_EV_LATE u) = true := by
  have hlate' : (s.withoutPulse c).stampLate st = true := decide_eq_true hlate
  have hevent := (s.withoutPulse c).agree_events p st
  rw [show (s.withoutPulse c).effectiveTick st = wordUp (s.tick + 128) from if_pos hlate', hc] at hevent
  refine ⟨_, exec_stampAgreed hp hc hst, State.withoutPulse_agree_pulses hp hc st, hevent, fun u hu => ?_⟩
  obtain ⟨a, -, htile⟩ := (s.withoutPulse c).agree_tile p st hu
  rw [State.is, htile (Fld.TL_CUT_EVT_EV_LATE u) rfl (by simp), hlate']
  exact Pulse.latch_late p st u a

end

end

end Sys2Proof.Machine
end

section
/-!
PROOFS. The commit and the taking of a cut (R170 to R172, R175 to R177), and with the stamps: O40.
-/
namespace Sys2Proof.Machine

section
variable {s : State} {r : Nat}

/-! ### CUT_COMMIT (R170, R172) -/

/-- The cut that reel `r`, of context `e`, commits to event `v`: its armed cut, which falls at E itself where it is IMMEDIATE. -/
abbrev State.cutOn (s : State) (r : Nat) (v : Ev) (e : Engine) : Commit :=
  ⟨s.get (Fld.REEL_CUT_TARGET r), s.get (Fld.REEL_CUT_MODE r), s.is (Fld.REEL_CUT_KEEP r), v.s, v.e, v.unref, e.cutLoops, e.cutCalls,
    if s.get (Fld.REEL_CUT_MODE r) = 0 then 1 else 0, v.e, 0⟩

/-- The first event that counts for the armed cut of reel `r`. -/
abbrev State.countingEvent (s : State) (r : Nat) : Option Ev := s.firstEvent (s.get (Fld.REEL_CUT_EVC r)) (max (s.eng r).cutFrom (s.eng r).lastCut) (2 ^ 65)

theorem exec_cutCommit_keeps {r : Fin 1024} (h : s.is (Fld.REEL_CUT_ARMED r) = false ∨ (s.eng r).commit.isSome = true ∨ s.reelState r < 2 ∨ 4 < s.reelState r) :
    exec (.cutCommit r) s = .next s := by
  change execCutCommit r s = _
  rw [execCutCommit]
  refine congrArg Host.Outcome.next (if_neg fun hc => ?_)
  simp only [Bool.and_eq_true, decide_eq_true_eq, Option.isNone_iff_eq_none] at hc
  obtain ⟨⟨harmed, hnone⟩, h2, h4⟩ := hc
  rcases h with h | h | h | h
  · simp [harmed] at h
  · simp [hnone] at h
  · omega
  · omega

section
variable {r : Fin 1024} (ha : s.is (Fld.REEL_CUT_ARMED r) = true) (hc : (s.eng r).commit = none) (h2 : 2 ≤ s.reelState r) (h4 : s.reelState r ≤ 4)
include ha hc h2 h4

theorem exec_cutCommit_waits (hv : s.countingEvent r = none) : exec (.cutCommit r) s = .next s := by
  change execCutCommit r s = _
  rw [execCutCommit]
  dsimp only
  rw [if_pos (by simp [ha, hc, h2, h4]), show s.firstEvent _ _ _ = none from hv]

theorem exec_cutCommit {v : Ev} (hv : s.countingEvent r = some v) :
    exec (.cutCommit r) s = .next (s.onEng r (fun e => { e with recut := false, commit := some (s.cutOn r v e) })) := by
  change execCutCommit r s = _
  rw [execCutCommit]
  dsimp only
  rw [if_pos (by simp [ha, hc, h2, h4]), show s.firstEvent _ _ _ = some v from hv]

theorem cutCommit_does {v : Ev} (hv : s.countingEvent r = some v) :
    Does (.cutCommit r) s [.engines] (fun _ => false) []
      (fun t => (t.eng r).commit = some (s.cutOn r v (s.eng r)) ∧ (t.eng r).recut = false ∧ ∀ n, n ≠ (r : Nat) → t.eng n = s.eng n) := by
  refine ⟨_, exec_cutCommit ha hc h2 h4 hv, by simp, (State.onEng_frame _ _ _).mono (fun _ h => h) (by simp), ?_, ?_, fun n hn => State.eng_onEng_ne hn⟩
  · rw [State.eng_onEng_self (s.eng_reel r)]
  · rw [State.eng_onEng_self (s.eng_reel r)]

end

/-! ### A committed cut that is not taken (R170, R171, R176) -/

theorem exec_cutTake_none {r : Fin 1024} {late : Bool} (h : (s.eng r).commit = none) : exec (.cutTake r late) s = .next s := by
  change execCutTake r late s = _
  rw [execCutTake, h]

theorem exec_cutTake_early {r : Fin 1024} {late : Bool} {k : Commit} (h : (s.eng r).commit = some k) (he : s.tick < k.e) : exec (.cutTake r late) s = .next s := by
  change execCutTake r late s = _
  rw [execCutTake, h]
  exact congrArg Host.Outcome.next (if_pos he)

section
variable {r : Fin 1024} {k : Commit} (hk : (s.eng r).commit = some k) (h1 : k.kind = 1)
include hk h1

/-- A cut whose tick is fixed needs no decision at E. -/
theorem State.resolveCut_fixed : s.resolveCut r = s := by
  rw [State.resolveCut, hk]
  exact if_pos (by rw [h1]; decide)

theorem State.cutBy_fixed (b : Nat) : s.cutBy r b = decide (k.x ≤ b) := by
  rw [State.cutBy, hk]
  simp [h1]

/-- At or after E the cut falls once its tick has come, unless a stop or a fault has taken that tick. -/
theorem exec_cutTake {late : Bool} (he : k.e ≤ s.tick) : exec (.cutTake r late) s =
    .next (if decide (k.x ≤ s.tick) && !s.displaced r k.x && decide (2 ≤ s.reelState r ∧ s.reelState r ≤ 4) then s.takeCut r k late else s) := by
  change execCutTake r late s = _
  rw [execCutTake, hk]
  dsimp only
  rw [if_neg (show ¬s.now < k.e from Nat.not_lt.mpr he), State.resolveCut_fixed hk h1, hk, State.cutBy_fixed hk h1]
  rfl

theorem exec_cutTake_waits {late : Bool} (he : k.e ≤ s.tick) (h : s.tick < k.x ∨ s.displaced r k.x = true) : exec (.cutTake r late) s = .next s := by
  rw [exec_cutTake hk h1 he]
  refine congrArg Host.Outcome.next (if_neg ?_)
  rcases h with h | h <;> simp [h]

end

/-! ### A cut of a tone is taken (R175 to R177) -/

/-- A reel that replays no stored data arrives at no card. -/
theorem State.targetCard_tone (h : s.voice r = 1) (q : Nat) : s.targetCard r q = none := by
  rw [State.targetCard]
  split
  · exact if_neg (fun hc => by omega)
  · rfl

/-- The target words of a reel that plays no ramp are its chain as the window read it. -/
theorem State.targetWords_read {q : Nat} {p : Nat × List WinCue} (hv : s.voice r ≠ 4) (ht : (s.eng r).targets.find? (fun y => y.1 == q) = some p) : s.targetWords r q = p.2 := by
  have hid : ∀ l : List WinCue, l.map (fun c => if s.voice r = 4 ∧ (cueOp c.w = 1 ∨ cueOp c.w = 2) then { c with data := s.rampEntry r (s.get (Fld.REEL_RIDX r)) } else c) = l := fun l =>
    List.map_id'' (fun c => if_neg (fun h => hv h.1)) l
  rw [State.targetWords, hid, ht]
  rfl

/-- A chain that begins with a gap cue commits no cut. -/
theorem State.runChain_commit {c : WinCue} {q : Nat} {words : List WinCue} (h : GapAhead c q words) (b : Nat) (hd : (s.eng r).deferred = [])
    (hp : (s.eng r).pendingSet = []) (hs : 1 ≤ s.reelState r ∧ s.reelState r ≤ 4) (hc : (s.eng r).commit = none) : ((s.runChain r b q words).eng r).commit = none := by
  have he := s.chainLoaded_eng r words
  have hplays := State.startCue_plays (s := s.chainLoaded r words) ⟨.inr (.inr h.op), .inl h.op, by rw [he]; exact hd, by rw [he]; exact hp, if_pos h.op, hs⟩ b
  obtain ⟨w, tg, f, d, ce, st, hte⟩ := hplays.eng
  rw [State.runChain_gap h b, hte, he]
  simp [cueContext, hc]

/-- The context of a reel at cue `sp` whose cut `k` is taken. -/
abbrev cutContext (sp : Nat) (k : Commit) (late : Bool) (e : Engine) : Engine :=
  { e with commit := none, recut := false, deferred := [], lastCut := k.x, cutEntry := some (sp, { k with kind := if late then 9 else 1 }, false) }

/-- The cue has been left for cut `k`, and the stacks are as they stood at its CUTIF. -/
abbrev State.cutLeft (s : State) (r : Nat) (k : Commit) (late : Bool) : State :=
  ((s.leaveCue r k.x).setStacks r (((s.leaveCue r k.x).stacks r).popTo k.loops k.calls)).onEng r (cutContext (s.get (Fld.REEL_SP r)) k late)

/-- The armed cut goes, unless it is kept or armed anew. -/
abbrev State.cutCleared (s : State) (r : Nat) (k : Commit) (late : Bool) : State := (s.cutLeft r k late).when (!(s.eng r).recut && !k.keep) (fun a => a.clr (Fld.REEL_CUT_ARMED r))

abbrev State.cutCounted (s : State) (r : Nat) (k : Commit) (late : Bool) : State :=
  ((s.cutCleared r k late).bump (Fld.TL_CUT_CNT (tileOfReel r))).flag (Fld.TL_CUT_EVT_CUT_TAKEN (tileOfReel r))

theorem State.takeCut_tone (hv : s.voice r = 1) {k : Commit} (h1 : k.kind = 1) (late : Bool) :
    s.takeCut r k late = (s.cutCounted r k late).runChain r k.x k.target ((s.cutCleared r k late).targetWords r k.target) := by
  rw [State.takeCut, State.targetCard_tone hv]
  dsimp only [Option.bind_none, Option.map_none, Option.getD_none, Option.isSome_none]
  rw [Bool.false_and, State.when_false, State.streamPassEnd_tone hv, ite_self, if_neg (show k.kind ≠ 5 by omega)]

theorem State.cutLeft_frame (s : State) (r : Nat) (k : Commit) (late : Bool) : Frame s (s.cutLeft r k late) [.engines, .arcBuf] (fun x => leaveOf r x || stackOf r x) := by
  refine (State.onEng_frame _ _ _).via rfl (by simp) ((State.setStacks_frame _ _ _).via rfl (fun x hx => ?_) ((s.leaveCue_frame r k.x).mono (fun _ h => h) (fun x hx => ?_)))
  · rw [hx, Bool.or_true]
  · rw [hx, Bool.true_or]

theorem State.cutCleared_frame (s : State) (r : Nat) (k : Commit) (late : Bool) :
    Frame s (s.cutCleared r k late) [.engines, .arcBuf] (fun x => leaveOf r x || stackOf r x || x == Fld.REEL_CUT_ARMED r) :=
  Frame.step (Frame.putClr (by simp) (Frame.refl _ _ _)) ((s.cutLeft_frame r k late).mono (fun _ h => h) (fun x hx => by rw [hx, Bool.true_or]))

theorem State.cutCleared_eng (s : State) (r : Nat) (k : Commit) (late : Bool) : ∃ e, (s.cutCleared r k late).eng r = cutContext (s.get (Fld.REEL_SP r)) k late e ∧
    e.targets = (s.eng r).targets ∧ e.pendingSet = (s.eng r).pendingSet := by
  obtain ⟨v, p, a, b, he⟩ := s.leaveCue_eng r k.x
  refine ⟨_, (State.when_keeps (fun a => a.eng r) _ _ _ rfl).trans (State.eng_onEng_self (State.eng_reel _ r)), ?_, ?_⟩
  · rw [State.setStacks_eng, he]
  · rw [State.setStacks_eng, he]

theorem State.cutCounted_frame (s : State) (r : Nat) (k : Commit) (late : Bool) :
    Frame (s.cutCleared r k late) (s.cutCounted r k late) [] (fun x => x == Fld.TL_CUT_CNT (tileOfReel r) || x == Fld.TL_CUT_EVT_CUT_TAKEN (tileOfReel r)) :=
  ((Frame.refl _ _ _).putBump (by simp)).putFlag (by simp)

/-- What a cut counts and clears. -/
theorem State.cutCounted_values (s : State) (r : Nat) (k : Commit) (late : Bool) : let u := s.cutCounted r k late
    u.get (Fld.TL_CUT_CNT (tileOfReel r)) = min (s.get (Fld.TL_CUT_CNT (tileOfReel r)) + 1) (2 ^ 32 - 1) ∧ u.get (Fld.TL_CUT_EVT_CUT_TAKEN (tileOfReel r)) = 1 ∧
      u.get (Fld.REEL_CUT_ARMED r) = if (s.eng r).recut || k.keep then s.get (Fld.REEL_CUT_ARMED r) else 0 := by
  refine ⟨?_, ?_, ?_⟩
  · rw [State.cutCounted, State.flag_eq, State.get_set_ne _ _ (by simp), State.get_bump, if_pos rfl, (s.cutCleared_frame r k late).get (by simp [stackOf, archiveLoss])]
  · rw [State.cutCounted, State.flag_eq, State.get_set_self]
    rfl
  · rw [(s.cutCounted_frame r k late).get (by simp)]
    cases hkeep : (s.eng r).recut || k.keep
    case true =>
      rw [State.cutCleared, ← Bool.not_or, hkeep]
      exact (s.cutLeft_frame r k late).get (by simp [stackOf, archiveLoss])
    case false =>
      rw [State.cutCleared, ← Bool.not_or, hkeep, Bool.not_false, State.when_true, State.clr_eq, State.get_set_self]
      rfl

theorem stackOf_chainOf (x : Key) (h : stackOf r x = true) : chainOf r x = true := by
  have hreel : reelOf r x = true := by
    simp only [stackOf, Bool.and_eq_true] at h
    simp only [reelOf, Bool.and_eq_true]
    exact h.1.1
  simp only [chainOf, hreel, Bool.true_or]

theorem cutTake_does {r : Fin 1024} {late : Bool} {k : Commit} (hk : (s.eng r).commit = some k) (h1 : k.kind = 1) (he : k.e ≤ s.tick) (hx : k.x ≤ s.tick) (hd : s.displaced r k.x = false)
    (h2 : 2 ≤ s.reelState r) (h4 : s.reelState r ≤ 4) (hv : s.voice r = 1) (hp : (s.eng r).pendingSet = []) {p : Nat × List WinCue}
    (hp' : (s.eng r).targets.find? (fun y => y.1 == k.target) = some p) {c : WinCue} (hc : GapAhead c k.target p.2) :
    Does (.cutTake r late) s windowParts (chainOf r)
      [(Fld.TL_CUT_CNT (tileOfReel r), min (s.get (Fld.TL_CUT_CNT (tileOfReel r)) + 1) (2 ^ 32 - 1)), (Fld.TL_CUT_EVT_CUT_TAKEN (tileOfReel r), 1),
        (Fld.REEL_CUT_ARMED r, if (s.eng r).recut || k.keep then s.get (Fld.REEL_CUT_ARMED r) else 0)]
      (fun t => startsGap s t r k.x c.w ∧ (t.eng r).commit = none ∧ (t.eng r).lastCut = k.x) := by
  obtain ⟨e, heclear, htargets, hpending⟩ := s.cutCleared_eng r k late
  have hfclear := s.cutCleared_frame r k late
  have hfcount := s.cutCounted_frame r k late
  have hecount : (s.cutCounted r k late).eng r = cutContext (s.get (Fld.REEL_SP r)) k late e := (hfcount.eng (by simp) r).trans heclear
  have hvoice : (s.cutCleared r k late).voice r = 1 := (hfclear.get (by simp [stackOf, archiveLoss])).trans hv
  have hstate : (s.cutCounted r k late).reelState r = s.reelState r := (hfcount.get (by simp)).trans (hfclear.get (by simp [stackOf, archiveLoss]))
  have hrate : (s.cutCounted r k late).rate r = s.rate r := (hfcount.get (by simp)).trans (hfclear.get (by simp [stackOf, archiveLoss]))
  have hwords : (s.cutCleared r k late).targetWords r k.target = p.2 :=
    State.targetWords_read (by rw [hvoice]; decide) (by rw [heclear]; exact (congrArg _ htargets).trans hp')
  have hruns : 1 ≤ (s.cutCounted r k late).reelState r ∧ (s.cutCounted r k late).reelState r ≤ 4 := by omega
  have hdef : ((s.cutCounted r k late).eng r).deferred = [] := by rw [hecount]
  have hpend : ((s.cutCounted r k late).eng r).pendingSet = [] := by rw [hecount]; exact hpending.trans hp
  obtain ⟨hframe, hgap, -, -, -, hlast⟩ := State.runChain_starts hc k.x hdef hpend hruns
  have hcommit := State.runChain_commit hc k.x hdef hpend hruns (by rw [hecount])
  have hexec := exec_cutTake hk h1 (late := late) he
  rw [if_pos (by simp [hx, hd, h2, h4]), State.takeCut_tone hv h1, hwords] at hexec
  obtain ⟨hcnt, htaken, harmed⟩ := s.cutCounted_values r k late
  refine ⟨_, hexec, ?_, ?_, startsGap_congr hgap hrate, hcommit, hlast.trans (by rw [hecount])⟩
  · simp only [List.forall_mem_cons, List.not_mem_nil, false_imp_iff, implies_true, and_true]
    exact ⟨(hframe.get (by simp [amongAt, headKeys, ledgerOf, archiveLoss])).trans hcnt, (hframe.get (by simp [amongAt, headKeys, ledgerOf, archiveLoss])).trans htaken,
      (hframe.get (by simp [amongAt, headKeys, ledgerOf, archiveLoss])).trans harmed⟩
  · refine hframe.via rfl (fun y hy => ?_) (hfcount.via rfl (fun y hy => ?_) (hfclear.mono (by simp) (fun y hy => ?_)))
    · simp only [startOf_chainOf y hy, Bool.true_or]
    · rcases Bool.or_eq_true_iff.mp hy with hy | hy <;> rw [beq_iff_eq.mp hy] <;> simp [named]
    · simp only [Bool.or_eq_true_iff (y := y == Fld.REEL_CUT_ARMED r), Bool.or_eq_true_iff (y := stackOf r y)] at hy
      rcases hy with (hy | hy) | hy
      · simp only [leaveOf_chainOf y hy, Bool.true_or]
      · simp only [stackOf_chainOf y hy, Bool.true_or]
      · rw [beq_iff_eq.mp hy]
        simp [named]

/-- Settles O40: a tile stamps the oldest pulse, the agreed stamp makes it an event that tiles latch and stops fall due by, an armed cut commits to
the first event that counts, and at its tick the cut is counted and its target's chain begins. -/
theorem eventStampsAndCuts : Obligations.EventStampsAndCuts :=
  ⟨fun _ _ _ => ⟨exec_eventStamp_keeps, fun _ hp hc hu => eventStamp_does hp hc hu⟩,
    fun _ _ => ⟨exec_stampAgreed_keeps, fun _ hp hc => ⟨exec_stampAgreed_unstamped hp hc, fun _ hst hl => stampAgreed_does hp hc hst hl, fun _ hst hl => stampAgreed_late hp hc hst hl⟩⟩,
    fun _ _ => ⟨exec_cutCommit_keeps, fun ha hc h2 h4 => ⟨exec_cutCommit_waits ha hc h2 h4, fun _ hv => cutCommit_does ha hc h2 h4 hv⟩⟩,
    fun _ _ _ => ⟨exec_cutTake_none, fun _ hk he => exec_cutTake_early hk he, fun _ hk h1 he h => exec_cutTake_waits hk h1 he h,
      fun _ hk h1 he hx hd h2 h4 hv hp _ hp' _ hc hq ho hf => cutTake_does hk h1 he hx hd h2 h4 hv hp hp' ⟨hc, hq, ho, hf⟩⟩⟩

end

end Sys2Proof.Machine
end

section
/-!
PROOFS. The extended phase of a reel as its record holds it: what is stored is what is read back (R196, R198, R201).
-/
namespace Sys2Proof.Machine

section
variable {s t : State} {r : Nat}

/-- A number of 80 bits is put together again from its high 64 bits, in two dwords, and its low 16. -/
theorem join_parts80 {n : Nat} (h : n < 2 ^ 80) : (n / 2 ^ 16 % 2 ^ 32 % 2 ^ 32 + n / 2 ^ 16 / 2 ^ 32 % 2 ^ 32 * 2 ^ 32) * 2 ^ 16 + n % 2 ^ 16 % 2 ^ 16 = n := by omega

theorem phaseMod_residue_lt (v : Int) : (v % (phaseMod : Int)).toNat < 2 ^ 80 := by
  have h := Int.emod_lt_of_pos v (b := (phaseMod : Int)) (by decide)
  have hm : (phaseMod : Int) = 2 ^ 80 := rfl
  omega

theorem phaseMod_residue_cast (v : Int) : ((v % (phaseMod : Int)).toNat : Int) = v % phaseMod := Int.toNat_of_nonneg (Int.emod_nonneg v (by decide))

theorem State.p80_lt (s : State) (r : Nat) : s.p80 r < phaseMod := by
  have hp : s.get2 (Fld.REEL_P_CUR_LO r) (Fld.REEL_P_CUR_HI r) < 2 ^ 32 * 2 ^ 32 := s.get2_lt _ _
  have hx : s.get (Fld.REEL_P_X r) < 2 ^ 16 := s.get_lt _
  simp only [State.p80, phaseMod]
  omega

theorem State.p80_setP80 (s : State) (r : Nat) (v : Int) : ((s.setP80 r v).p80 r : Int) = v % phaseMod := by
  rw [← phaseMod_residue_cast]
  refine congrArg Nat.cast ?_
  simp only [State.p80, State.get2, State.setP80, State.get_set, State.set2]
  simpa using join_parts80 (phaseMod_residue_lt v)

theorem State.ftw80_setFtw80 (s : State) (r : Nat) (v : Int) : ((s.setFtw80 r v).ftw80 r : Int) = v % phaseMod := by
  rw [← phaseMod_residue_cast]
  refine congrArg Nat.cast ?_
  simp only [State.ftw80, State.get2, State.setFtw80, State.get_set, State.set2]
  simpa using join_parts80 (phaseMod_residue_lt v)

theorem State.setP80_frame (s : State) (r : Nat) (v : Int) :
    Frame s (s.setP80 r v) [] (fun x => [Fld.REEL_P_CUR_LO r, Fld.REEL_P_CUR_HI r, Fld.REEL_P_X r].contains x) :=
  ((Frame.refl _ _ _).put2 (by simp) (by simp)).put (by simp)

theorem State.setFtw80_frame (s : State) (r : Nat) (v : Int) :
    Frame s (s.setFtw80 r v) [] (fun x => [Fld.REEL_FTW_CUR_LO r, Fld.REEL_FTW_CUR_HI r, Fld.REEL_FTW_X r].contains x) :=
  ((Frame.refl _ _ _).put2 (by simp) (by simp)).put (by simp)

theorem State.p80_congr {ps : List Part} {p : Key → Bool} (h : Frame s t ps p) (hp : ∀ k ∈ phaseKeys r, p k = false) : t.p80 r = s.p80 r := by
  rw [State.p80, State.p80, State.get2, State.get2, h.get (hp _ (by simp)), h.get (hp _ (by simp)), h.get (hp _ (by simp))]

theorem State.ftw80_congr {ps : List Part} {p : Key → Bool} (h : Frame s t ps p) (hp : ∀ k ∈ phaseKeys r, p k = false) : t.ftw80 r = s.ftw80 r := by
  rw [State.ftw80, State.ftw80, State.get2, State.get2, h.get (hp _ (by simp)), h.get (hp _ (by simp)), h.get (hp _ (by simp))]

theorem State.p80_setFtw80 (s : State) (r : Nat) (v : Int) : (s.setFtw80 r v).p80 r = s.p80 r := by
  have h := s.setFtw80_frame r v
  rw [State.p80, State.p80, State.get2, State.get2, h.get (by simp), h.get (by simp), h.get (by simp)]

/-! ### SET_F (R198) -/

theorem State.setFreq_frame (s : State) (r val : Nat) (cont : Bool) (a : Nat) : Frame s (s.setFreq r val cont a) [] (fun x => (phaseKeys r).contains x) := by
  refine ((State.setFtw80_frame _ _ _).via rfl (fun x hx => ?_) (Frame.step ((State.setP80_frame _ _ _).mono (by simp) (fun x hx => ?_)) (Frame.refl _ _ _))) <;>
  · simp only [List.contains_cons, List.contains_nil, Bool.or_eq_true, beq_iff_eq, Bool.or_false] at hx ⊢
    tauto

theorem State.setFreq_ftw80 (s : State) (r val : Nat) (cont : Bool) (a : Nat) : (s.setFreq r val cont a).ftw80 r = val % 2 ^ 64 * 2 ^ 16 := by
  have h : ((s.setFreq r val cont a).ftw80 r : Int) = ((val : Int) * 2 ^ 16) % phaseMod := State.ftw80_setFtw80 _ _ _
  rw [show (phaseMod : Int) = 2 ^ 80 from rfl] at h
  omega

theorem State.setFreq_coherent (s : State) (r val a : Nat) : (s.setFreq r val false a).p80 r = s.p80 r := State.p80_setFtw80 _ _ _

theorem State.setFreq_continuous (s : State) (r val a : Nat) :
    ((s.setFreq r val true a).p80 r : Int) = (s.p80 r + ((s.ftw80 r : Int) - val * 2 ^ 16) * a) % phaseMod :=
  (congrArg Nat.cast (State.p80_setFtw80 _ _ _)).trans (State.p80_setP80 _ _ _)

/-! ### The fold of a chirp piece (R201) -/

/-- From `s` to `u` the chirp piece of reel `r` that started at `t0` is folded at `te`. -/
abbrev State.foldedAt (s : State) (r t0 te : Nat) (u : State) : Prop :=
  let d : Int := ((te - t0 : Nat) : Int)
  (u.p80 r : Int) = (s.p80 r + s.crw r * (d * (d + 1) / 2) - s.crw r * d * te) % phaseMod ∧ (u.ftw80 r : Int) = (s.ftw80 r + s.crw r * d) % phaseMod

theorem State.fold_folded (s : State) (r t0 te : Nat) : s.foldedAt r t0 te (s.fold r t0 te) :=
  ⟨(congrArg Nat.cast (State.p80_setFtw80 _ _ _)).trans (State.p80_setP80 _ _ _), State.ftw80_setFtw80 _ _ _⟩

theorem State.foldedAt_congr {t0 te : Nat} {ps : List Part} {p : Key → Bool} (h : s.foldedAt r t0 te t) {u : State} (hf : Frame t u ps p)
    (hp : ∀ k ∈ phaseKeys r, p k = false) : s.foldedAt r t0 te u := by
  rwa [State.foldedAt, State.p80_congr hf hp, State.ftw80_congr hf hp]

end

end Sys2Proof.Machine
end

section
/-!
PROOFS. STAGE and COMMIT of a tile's staging registers (R216, R218): the answers, the staged value, and the staged set as it joins the
pending one.
-/
namespace Sys2Proof.Machine

section
variable {s : State} {t : Fin 8}

/-! ### Lists of new values -/

theorem named_append (l m : List (Key × Nat)) (k : Key) : named (l ++ m) k = (named l k || named m k) := List.any_append

theorem named_of_mem {l : List (Key × Nat)} {q : Key × Nat} (h : q ∈ l) : named l q.1 = true := List.any_eq_true.mpr ⟨q, h, beq_self_eq_true _⟩

/-! ### What a staging command may reach (R216, R268) -/

/-- What a staging command of tile `t` that ends with RESULT `n` writes. -/
abbrev stagingAnswer (t n : Nat) : List (Key × Nat) := [(Fld.TL_VSTG_CMD_BUSY t, 0), (Fld.TL_VSTG_CMD_RESULT t, n)]

theorem State.tileOfReel_stgReel (s : State) (t : Nat) : tileOfReel (s.stgReel t) = t := by
  have h : s.get (Fld.TL_VSTG_REEL t) < 128 := s.get_lt _
  simp only [tileOfReel, State.stgReel]
  omega

theorem State.stoppable_iff {r : Nat} : s.stoppable r = true ↔ 1 ≤ s.reelState r ∧ s.reelState r ≤ 4 := by simp [State.stoppable, State.reelState]

theorem State.stgRefused_state {r : Nat} (h : s.reelState r = 0 ∨ 5 ≤ s.reelState r) : s.stgRefused r = 1 := by
  have hs : s.stoppable r = false := Bool.eq_false_iff.mpr fun hs => by have := State.stoppable_iff.mp hs; omega
  simp [State.stgRefused, hs]

theorem State.stgRefused_owned {r g : Nat} (h1 : 1 ≤ s.reelState r) (h4 : s.reelState r ≤ 4) (hg : s.groupOfDrive r = some g) : s.stgRefused r = 2 := by
  simp [State.stgRefused, State.stoppable_iff.mpr ⟨h1, h4⟩, hg]

theorem State.stgRefused_none {r : Nat} (h1 : 1 ≤ s.reelState r) (h4 : s.reelState r ≤ 4) (hg : s.groupOfDrive r = none) : s.stgRefused r = 0 := by
  simp [State.stgRefused, State.stoppable_iff.mpr ⟨h1, h4⟩, hg]

theorem Gives.of_stgDone {c : Instr} {n : Nat} (hn : n < 8) (he : exec c s = .next (s.stgDone t n)) : Gives c s (stagingAnswer t n) :=
  Gives.of_sets he (by simp) (by simp; omega)

/-! ### STAGE (R216) -/

/-- The kind that tile `t`'s staging registers name. -/
abbrev State.stgKind (s : State) (t : Nat) : Nat := s.get (Fld.TL_VSTG_KIND t)

/-- The value that tile `t`'s staging registers hold. -/
abbrev State.stgValue (s : State) (t : Nat) : Nat := s.get2 (Fld.TL_VSTG_VAL_LO t) (Fld.TL_VSTG_VAL_HI t)

theorem exec_voiceStage_multi (ho : s.hostOpen = true) : exec (.voiceStage t true) s = .next (s.stgDone t 5) :=
  congrArg Host.Outcome.next (State.onHost_open _ _ ho)

theorem exec_voiceStage (ho : s.hostOpen = true) : exec (.voiceStage t false) s = .next (
    if s.stgRefused (s.stgReel t) ≠ 0 then s.stgDone t (s.stgRefused (s.stgReel t))
    else if !kindFits (s.stgKind t) (s.voice (s.stgReel t)) then s.stgDone t 3
    else if !kindInRange (s.stgKind t) (s.stgValue t) then s.stgDone t 4
    else (s.stageVoice (s.stgReel t) (s.stgKind t) (s.stgValue t)).stgDone t 0) :=
  congrArg Host.Outcome.next (State.onHost_open _ _ ho)

theorem voiceStage_unfit (ho : s.hostOpen = true) (hr : s.stgRefused (s.stgReel t) = 0) (hk : kindFits (s.stgKind t) (s.voice (s.stgReel t)) = false) :
    Gives (.voiceStage t false) s (stagingAnswer t 3) :=
  Gives.of_stgDone (by decide) (by rw [exec_voiceStage ho, if_neg (not_not.mpr hr), if_pos (by rw [hk]; rfl)])

theorem voiceStage_outOfRange (ho : s.hostOpen = true) (hr : s.stgRefused (s.stgReel t) = 0) (hk : kindFits (s.stgKind t) (s.voice (s.stgReel t)) = true)
    (hv : kindInRange (s.stgKind t) (s.stgValue t) = false) : Gives (.voiceStage t false) s (stagingAnswer t 4) :=
  Gives.of_stgDone (by decide) (by rw [exec_voiceStage ho, if_neg (not_not.mpr hr), if_neg (by rw [hk]; decide), if_pos (by rw [hv]; rfl)])

theorem voiceStage_does (ho : s.hostOpen = true) (hr : s.stgRefused (s.stgReel t) = 0) (hk : kindFits (s.stgKind t) (s.voice (s.stgReel t)) = true)
    (hv : kindInRange (s.stgKind t) (s.stgValue t) = true) :
    Does (.voiceStage t false) s [.engines] (fun _ => false) (stagingAnswer t 0) (fun u =>
      u.eng (s.stgReel t) = { s.eng (s.stgReel t) with staged := (s.eng (s.stgReel t)).staged.filter (fun x => x.1 != s.stgKind t) ++ [(s.stgKind t, s.stgValue t)] }) := by
  have hexec : exec (.voiceStage t false) s = .next ((s.stageVoice (s.stgReel t) (s.stgKind t) (s.stgValue t)).stgDone t 0) := by
    rw [exec_voiceStage ho, if_neg (not_not.mpr hr), if_neg (by rw [hk]; decide), if_neg (by rw [hv]; decide)]
  refine ⟨_, hexec, State.get_sets_of_mem _ _ (by simp) (by simp), Frame.puts (by simp [named]) ((State.onEng_frame _ _ _).mono (fun _ h => h) (by simp)), ?_⟩
  exact (State.eng_sets _ _ _).trans (State.eng_onEng_self (s.eng_reel _))

/-! ### COMMIT (R216, R218) -/

theorem State.bit_setBit_self (s : State) (key : Nat → Key) (b : Nat) (hw : (key (b / 32)).w = 32) : (s.setBit key b).bit key b = true := by
  have hb : b % 32 < 32 := Nat.mod_lt _ (by decide)
  rw [State.bit, State.setBit, State.get_set_self, hw, Nat.testBit_mod_two_pow, Nat.testBit_or, Nat.one_shiftLeft, Nat.testBit_two_pow_self]
  simp [hb]

/-- The report of a staged set that merges with one that has not applied. -/
abbrev State.mergeReport (s : State) (t r : Nat) : List (Key × Nat) := if (s.eng r).pendingSet = [] then [] else [(Fld.TL_VSTG_EVT_MERGED t, 1)]

theorem State.mergeReport_mem {t r : Nat} {q : Key × Nat} (h : q ∈ s.mergeReport t r) : q = (Fld.TL_VSTG_EVT_MERGED t, 1) := by
  rw [State.mergeReport] at h
  split at h
  · exact absurd h List.not_mem_nil
  · exact List.mem_singleton.mp h

/-- The context of a reel whose staged set has joined its pending one at tick `now`. -/
def Engine.committed (now : Nat) (e : Engine) : Engine := { e with pendingSet := mergeSets e.pendingSet e.staged, staged := [], pendingAt := now }

theorem State.commitSet_none {r : Nat} (h : (s.eng r).staged = []) : s.commitSet r = s := by
  rw [State.commitSet]
  dsimp only
  rw [if_pos (by rw [h]; rfl)]

theorem State.commitSet_some {r : Nat} (h : (s.eng r).staged ≠ []) : s.commitSet r =
    ((s.sets (s.mergeReport (tileOfReel r) r)).onEng r (Engine.committed s.tick)).setBit (Fld.TL_VSTG_PEND (tileOfReel r)) (r % 128) := by
  have hnew : (s.eng r).staged.isEmpty = false := by simpa using h
  rw [State.commitSet]
  dsimp only
  rw [hnew, if_neg Bool.false_ne_true]
  by_cases hp : (s.eng r).pendingSet = []
  · rw [State.mergeReport, if_pos hp, hp]
    rfl
  · have hold : (!(s.eng r).pendingSet.isEmpty) = true := by simpa using hp
    rw [State.mergeReport, if_neg hp, hold]
    rfl

theorem exec_voiceCommit_multi (ho : s.hostOpen = true) : exec (.voiceCommit t true) s = .next (s.stgDone t 5) :=
  congrArg Host.Outcome.next (State.onHost_open _ _ ho)

theorem exec_voiceCommit (ho : s.hostOpen = true) : exec (.voiceCommit t false) s = .next (
    if s.stgRefused (s.stgReel t) ≠ 0 then s.stgDone t (s.stgRefused (s.stgReel t)) else (s.commitSet (s.stgReel t)).stgDone t 0) :=
  congrArg Host.Outcome.next (State.onHost_open _ _ ho)

/-- Both commands answer a reel that they may not reach alike. -/
theorem staging_refused (ho : s.hostOpen = true) {n : Nat} (hr : s.stgRefused (s.stgReel t) = n) (h0 : n ≠ 0) (h8 : n < 8) :
    Gives (.voiceStage t false) s (stagingAnswer t n) ∧ Gives (.voiceCommit t false) s (stagingAnswer t n) :=
  ⟨Gives.of_stgDone h8 (by rw [exec_voiceStage ho, hr, if_pos h0]), Gives.of_stgDone h8 (by rw [exec_voiceCommit ho, hr, if_pos h0])⟩

theorem voiceCommit_empty (ho : s.hostOpen = true) (hr : s.stgRefused (s.stgReel t) = 0) (h : (s.eng (s.stgReel t)).staged = []) :
    Gives (.voiceCommit t false) s (stagingAnswer t 0) :=
  Gives.of_stgDone (by decide) (by rw [exec_voiceCommit ho, if_neg (not_not.mpr hr), State.commitSet_none h])

theorem voiceCommit_does (ho : s.hostOpen = true) (hr : s.stgRefused (s.stgReel t) = 0) (h : (s.eng (s.stgReel t)).staged ≠ []) :
    Does (.voiceCommit t false) s [.engines] (fun x => x == Fld.TL_VSTG_PEND t (s.stgReel t % 128 / 32)) (stagingAnswer t 0 ++ s.mergeReport t (s.stgReel t))
      (fun u => u.eng (s.stgReel t) = (s.eng (s.stgReel t)).committed s.tick ∧ u.bit (Fld.TL_VSTG_PEND t) (s.stgReel t % 128) = true) := by
  have hexec := exec_voiceCommit ho (t := t)
  rw [if_neg (not_not.mpr hr), State.commitSet_some h, State.tileOfReel_stgReel] at hexec
  refine ⟨_, hexec, fun q hq => ?_, Frame.puts (by simp [named]) (Frame.put (by simp) ((State.onEng_frame _ _ _).via rfl (by simp) (Frame.sets _ _ fun q hq => ?_))), ?_, ?_⟩
  · rcases List.mem_append.mp hq with hq | hq
    · exact State.get_sets_of_mem _ _ (by simp) (by simp) q hq
    · obtain rfl := State.mergeReport_mem hq
      rw [State.stgDone, State.get_sets_of_not_named _ _ _ (by simp [named]), State.setBit, State.get_set_ne _ _ (by simp), (State.onEng_frame _ _ _).get rfl]
      exact State.get_sets_of_mem _ _ (by rw [State.mergeReport]; split <;> simp) (fun p hp => by rw [State.mergeReport_mem hp]; norm_num) _ hq
  · rw [named_append, named_of_mem hq, Bool.or_true, Bool.or_true]
  · rw [State.stgDone, State.eng_sets]
    refine (State.eng_onEng_self (State.eng_reel _ _)).trans (congrArg _ (State.eng_sets _ _ _))
  · rw [State.bit, State.stgDone, State.get_sets_of_not_named _ _ _ (by simp [named])]
    exact State.bit_setBit_self _ _ _ rfl

end

end Sys2Proof.Machine
end

section
/-!
PROOFS. VOICE_UPDATE_APPLY (R217): the fields that one kind of a pending set changes, and the report of the set that has applied.
-/
namespace Sys2Proof.Machine

section
variable {s a : State} {r : Nat}

/-! ### One kind takes effect -/

/-- The fields of reel `r` that a kind other than a frequency writes. -/
abbrev State.kindFields (s : State) (r kind v : Nat) : List (Key × Nat) :=
  if kind = 2 then [(Fld.REEL_P_CUR_LO r, v % 2 ^ 32), (Fld.REEL_P_CUR_HI r, v / 2 ^ 32 % 2 ^ 32), (Fld.REEL_P_X r, 0)]
  else if kind = 3 then [(Fld.REEL_AMP_CUR r, v % 2 ^ 17)] else if kind = 4 then [(Fld.REEL_NSCALE_CUR r, v % 2 ^ 32)]
  else if kind = 5 then [(Fld.REEL_KURT_CUR r, v % 2 ^ 11)] else [(Fld.REEL_ACTIVE r, (1 - s.get (Fld.REEL_ACTIVE r)) % 2)]

theorem State.kindFields_reel (s : State) (r kind v : Nat) : ∀ q ∈ s.kindFields r kind v, q.1.r = .REEL := by
  unfold State.kindFields
  split_ifs <;> simp

theorem State.kindFields_values (s : State) (r kind v : Nat) : ∀ q ∈ s.kindFields r kind v, (s.sets (s.kindFields r kind v)).get q.1 = q.2 := by
  have hactive : (1 - s.get (Fld.REEL_ACTIVE r)) % 2 ≤ 1 := by omega
  refine State.get_sets_of_mem _ _ ?_ ?_ <;> unfold State.kindFields
  · split_ifs <;> simp
  · split_ifs <;> simp [Nat.mod_lt, hactive]

theorem State.applyKind_fields {kind : Nat} (h2 : 2 ≤ kind) (h6 : kind ≤ 6) (t v : Nat) : s.applyKind r t (kind, v) = s.sets (s.kindFields r kind v) := by
  interval_cases kind
  · exact congrArg (fun b : State => b.set (Fld.REEL_P_X r) 0) (State.set_mod (s.set (Fld.REEL_P_CUR_LO r) (v % 2 ^ 32)) (Fld.REEL_P_CUR_HI r) (v / 2 ^ 32)).symm
  · exact (s.set_mod (Fld.REEL_AMP_CUR r) v).symm
  · exact (s.set_mod (Fld.REEL_NSCALE_CUR r) v).symm
  · exact (s.set_mod (Fld.REEL_KURT_CUR r) v).symm
  · exact (s.set_mod (Fld.REEL_ACTIVE r) _).symm

/-- A frequency kind outside a chirp piece is a SET_F. -/
theorem State.applyKind_frequency {kind : Nat} (h1 : kind ≤ 1) (hp : (s.eng r).piece = none) (t v : Nat) : s.applyKind r t (kind, v) = s.setFreq r v (kind == 1) t := by
  interval_cases kind <;> simp only [State.applyKind, hp]

/-! ### The report (R217, R343) -/

/-- The context of a reel whose pending set has applied at tick `t`; the noise frames up to `t` keep what `s` shows. -/
def Engine.applied (s : State) (r t : Nat) (e : Engine) : Engine :=
  { e with pendingSet := [], oldNoise := if s.voice r = 3 then some (t / 2 ^ (s.get (Fld.REEL_NLOG2 r) - 1 + s.genClass r),
      s.get (Fld.REEL_NSCALE_CUR r), s.get (Fld.REEL_KURT_CUR r), s.get (Fld.REEL_ACTIVE r)) else e.oldNoise }

/-- The fields in which the tile of reel `r` shows the set that has applied. -/
abbrev appliedReport (r t kinds : Nat) : List (Key × Nat) :=
  [(Fld.TL_VSTG_LAST_KINDS (tileOfReel r), kinds), (Fld.TL_VSTG_LAST_REEL (tileOfReel r), r % 128), (Fld.TL_VSTG_EVT_APPLIED (tileOfReel r), 1),
    (Fld.TL_VSTG_TICK_LO (tileOfReel r), t % 2 ^ 32), (Fld.TL_VSTG_TICK_HI (tileOfReel r), t / 2 ^ 32 % 2 ^ 32)]

/-- After the kinds of a set have changed `s` into `a`: the set is no longer pending, its tile shows it and it is archived. -/
def State.reportSet (s a : State) (r t kinds : Nat) : State :=
  (((a.onEng r (Engine.applied s r t)).clrBit (Fld.TL_VSTG_PEND (tileOfReel r)) (r % 128)).sets (appliedReport r t kinds)).archive 9 (unitReel r) t [kinds]

abbrev reportSetOf (r : Nat) (x : Key) : Bool := archiveLoss x || x == Fld.TL_VSTG_PEND (tileOfReel r) (r % 128 / 32)

theorem State.reportSet_frame (s a : State) (r t kinds : Nat) :
    Frame a (s.reportSet a r t kinds) [.engines, .arcBuf] (fun x => reportSetOf r x || named (appliedReport r t kinds) x) := by
  refine (State.archive_frame _ _ _ _ _ _).via rfl (fun x hx => by simp only [reportSetOf, hx, Bool.true_or]) (Frame.puts (by simp [named]) ?_)
  have hcontext : Frame a (a.onEng r (Engine.applied s r t)) [.engines, .arcBuf] (fun x => reportSetOf r x || named (appliedReport r t kinds) x) :=
    (State.onEng_frame _ _ _).mono (by simp) (by simp)
  unfold State.clrBit
  split
  · exact hcontext.put (by simp)
  · exact hcontext

theorem State.reportSet_values (s a : State) (r t : Nat) {kinds : Nat} (hk : kinds < 128) : ∀ q ∈ appliedReport r t kinds, (s.reportSet a r t kinds).get q.1 = q.2 := by
  intro q hq
  refine ((State.archive_frame _ _ _ _ _ _).get ?_).trans (State.get_sets_of_mem _ _ (by simp) ?_ q hq)
  · simp only [List.mem_cons, List.not_mem_nil, or_false] at hq
    rcases hq with rfl | rfl | rfl | rfl | rfl <;> simp [archiveLoss]
  · simp [Nat.mod_lt, hk]

theorem State.reportSet_pending (s a : State) (r t kinds : Nat) :
    ((s.reportSet a r t kinds).eng r).pendingSet = [] ∧ (s.reportSet a r t kinds).bit (Fld.TL_VSTG_PEND (tileOfReel r)) (r % 128) = false := by
  constructor
  · rw [State.reportSet, (State.archive_frame _ _ _ _ _ _).eng (by simp), State.eng_sets, State.eng_clrBit]
    exact congrArg Engine.pendingSet (State.eng_onEng_self (a.eng_reel r))
  · rw [State.bit, State.reportSet, (State.archive_frame _ _ _ _ _ _).get (by simp [archiveLoss]), State.get_sets_of_not_named _ _ _ (by simp [named])]
    exact State.bit_clrBit_self _ _ _

theorem State.updateLatched_none (hd : ∀ k, k.r = .COR_GRP_DRV → a.get k = s.get k) (hg : s.groupOfDrive r = none) (t : Nat) : a.updateLatched r t = a := by
  rw [State.updateLatched, State.groupOfDrive_congr hd, hg]

/-- The kinds 0 to 7 in order, of a set of one. -/
theorem flatMap_kinds_singleton {q : Nat × Nat} (h : q.1 < 8) : (List.range 8).flatMap (fun n => [q].filter (fun kv => kv.1 == n)) = [q] := by
  obtain ⟨kind, v⟩ := q
  interval_cases kind <;> rfl

/-- A pending set of one kind, of a reel that no group drives. -/
theorem State.applyPending_single {q : Nat × Nat} (hp : (s.eng r).pendingSet = [q]) (h8 : q.1 < 8) (hg : s.groupOfDrive r = none) (t : Nat) :
    s.applyPending r t = s.reportSet (s.applyKind r t q) r t (2 ^ q.1) := by
  have hkinds : 0 ||| 1 <<< q.1 = 2 ^ q.1 := by rw [Nat.zero_or, Nat.one_shiftLeft]
  have hreport : ∀ b : State, (b.sets [(Fld.TL_VSTG_LAST_KINDS (tileOfReel r), 2 ^ q.1), (Fld.TL_VSTG_LAST_REEL (tileOfReel r), r % 128),
      (Fld.TL_VSTG_EVT_APPLIED (tileOfReel r), 1)]).set2 (Fld.TL_VSTG_TICK_LO (tileOfReel r)) (Fld.TL_VSTG_TICK_HI (tileOfReel r)) t = b.sets (appliedReport r t (2 ^ q.1)) :=
    fun _ => (State.set_mod _ _ _).symm
  have hset : s.applyPending r t = (s.reportSet (s.applyKind r t q) r t (2 ^ q.1)).updateLatched r t := by
    rw [State.applyPending]
    dsimp only
    rw [hp, if_neg (by simp), flatMap_kinds_singleton h8, List.foldl_cons, List.foldl_nil, hkinds, hreport]
    rfl
  refine hset.trans (State.updateLatched_none (fun k hk => ?_) hg t)
  obtain ⟨kr, ki, kj, kl, kw⟩ := k
  subst hk
  exact ((State.reportSet_frame _ _ _ _ _).get (by simp [archiveLoss, named])).trans ((State.applyKind_touches _ _ _ _).get (by simp [among]))

end

/-! ### VOICE_UPDATE_APPLY -/

section
variable {s : State} {r : Fin 1024}

theorem exec_voiceUpdateApply_keeps (h : (s.eng r).pendingSet = [] ∨ s.stoppable r = false ∨ s.voiceBoundary r s.tick = false) : exec (.voiceUpdateApply r) s = .next s := by
  refine congrArg Host.Outcome.next ?_
  split
  case isTrue hb =>
    obtain ⟨hs, hb⟩ := Bool.and_eq_true_iff.mp hb
    exact State.applyPending_nil (h.resolve_right (by rintro (h | h) <;> simp_all [State.now])) _
  case isFalse => rfl

theorem exec_voiceUpdateApply (hs : s.stoppable r = true) (hb : s.voiceBoundary r s.tick = true) : exec (.voiceUpdateApply r) s = .next (s.applyPending r s.tick) :=
  congrArg Host.Outcome.next (if_pos (Bool.and_eq_true_iff.mpr ⟨hs, hb⟩))

theorem eq_singleton_of_head {q : Nat × Nat} {l : List (Nat × Nat)} (hq : l.head? = some q) (hl : l.length = 1) : l = [q] := by
  obtain ⟨tl, rfl⟩ := List.head?_eq_some_iff.mp hq
  simpa using hl

theorem two_pow_kind_lt {kind : Nat} (h6 : kind ≤ 6) : 2 ^ kind < 128 := Nat.pow_lt_pow_right (by decide) (by omega : kind < 7)

section
variable (hs : s.stoppable r = true) (hb : s.voiceBoundary r s.tick = true) (hg : s.groupOfDrive r = none) {q : Nat × Nat}
  (hq : (s.eng r).pendingSet.head? = some q) (hl : (s.eng r).pendingSet.length = 1)
include hs hb hg hq hl

theorem exec_voiceUpdateApply_single (h6 : q.1 ≤ 6) : exec (.voiceUpdateApply r) s = .next (s.reportSet (s.applyKind r s.tick q) r s.tick (2 ^ q.1)) := by
  rw [exec_voiceUpdateApply hs hb, State.applyPending_single (eq_singleton_of_head hq hl) (by omega) hg]

/-- A phase, an amplitude, a noise parameter or a swap of the tables. -/
theorem voiceUpdateApply_does_fields (h2 : 2 ≤ q.1) (h6 : q.1 ≤ 6) :
    Does (.voiceUpdateApply r) s [.engines, .arcBuf] (reportSetOf r) (appliedReport r s.tick (2 ^ q.1) ++ s.kindFields r q.1 q.2)
      (fun u => (u.eng r).pendingSet = [] ∧ u.bit (Fld.TL_VSTG_PEND (tileOfReel r)) (r % 128) = false) := by
  have hexec := exec_voiceUpdateApply_single hs hb hg hq hl h6
  rw [show q = (q.1, q.2) from rfl, State.applyKind_fields h2 h6] at hexec
  have hframe := s.reportSet_frame (s.sets (s.kindFields r q.1 q.2)) r s.tick (2 ^ q.1)
  refine ⟨_, hexec, fun p hp => ?_, hframe.via rfl (fun x hx => ?_) (Frame.sets _ _ fun p hp => ?_), State.reportSet_pending _ _ _ _ _⟩
  · rcases List.mem_append.mp hp with hp | hp
    · exact State.reportSet_values _ _ _ _ (two_pow_kind_lt h6) p hp
    · have hreel := s.kindFields_reel r q.1 q.2 p hp
      refine (hframe.get ?_).trans (s.kindFields_values r q.1 q.2 p hp)
      obtain ⟨⟨kr, ki, kj, kl, kw⟩, v⟩ := p
      subst hreel
      simp [reportSetOf, archiveLoss, named]
  · rw [named_append, ← Bool.or_assoc, hx, Bool.true_or]
  · rw [named_append, named_of_mem hp, Bool.or_true, Bool.or_true]

/-- A frequency, of a voice that has no chirp piece in progress. -/
theorem voiceUpdateApply_does_frequency (h1 : q.1 ≤ 1) (hp : (s.eng r).piece = none) :
    Does (.voiceUpdateApply r) s [.engines, .arcBuf] (fun x => reportSetOf r x || (phaseKeys r).contains x) (appliedReport r s.tick (2 ^ q.1))
      (fun u => u.ftw80 r = q.2 % 2 ^ 64 * 2 ^ 16 ∧ (q.1 = 0 → u.p80 r = s.p80 r % phaseMod) ∧
        (q.1 = 1 → (u.p80 r : Int) = (s.p80 r + ((s.ftw80 r : Int) - q.2 * 2 ^ 16) * s.tick) % phaseMod) ∧ (u.eng r).pendingSet = []) := by
  have h6 : q.1 ≤ 6 := by omega
  have hexec := exec_voiceUpdateApply_single hs hb hg hq hl h6
  rw [show q = (q.1, q.2) from rfl, State.applyKind_frequency h1 hp] at hexec
  have hframe := s.reportSet_frame (s.setFreq r q.2 (q.1 == 1) s.tick) r s.tick (2 ^ q.1)
  have hkept : ∀ k ∈ phaseKeys r, (reportSetOf r k || named (appliedReport r s.tick (2 ^ q.1)) k) = false := by simp [archiveLoss, named]
  refine ⟨_, hexec, State.reportSet_values _ _ _ _ (two_pow_kind_lt h6), hframe.via rfl (fun x hx => ?_) ((State.setFreq_frame _ _ _ _ _).mono (by simp) fun x hx => ?_),
    (State.ftw80_congr hframe hkept).trans (State.setFreq_ftw80 _ _ _ _ _), fun h => ?_, fun h => ?_, (State.reportSet_pending _ _ _ _ _).1⟩
  · rcases Bool.or_eq_true_iff.mp hx with hx | hx <;> simp only [hx, Bool.or_true, Bool.true_or]
  · simp only [hx, Bool.or_true, Bool.true_or]
  · rw [State.p80_congr hframe hkept, h, Nat.mod_eq_of_lt (s.p80_lt r)]
    exact State.setFreq_coherent _ _ _ _
  · rw [State.p80_congr hframe hkept, h]
    exact State.setFreq_continuous _ _ _ _

end

end

end Sys2Proof.Machine
end

section
/-!
PROOFS. SWEEP_PIECE_START (R201, R202) and the settling of O50: the end of a piece of a sweep table, and the fault of a reel that a corrector
group may drive.
-/
namespace Sys2Proof.Machine

/-! ### A fault of a reel that may be a drive (R158, R283) -/

section
variable {s : State} {r : Nat}

/-- An abnormal end through the ramp leaves the records of the reels alone: their stops come when the ramp ends (R279). -/
theorem State.corAbort_reel (s : State) (g : Nat) {cause : Nat} (res : Option Nat) (hc : cause ≠ 9) {k : Key} (hk : k.r = .REEL) :
    (s.corAbort g cause res).get k = s.get k := by
  have hramp : ∀ l : List (Key × Nat), named l k = false → (((s.corState g 5).sets l).corRamp g).get k = s.get k := fun l hl => by
    rw [State.corRamp_get _ _ _ (by simp [among, hk]), State.get_sets_of_not_named _ _ _ hl, State.corState_get _ _ _ _ (by simp [among, hk])]
  obtain ⟨kr, ki, kj, kl, kw⟩ := k
  subst hk
  unfold State.corAbort State.corAbortAt
  rw [if_neg hc]
  split
  · cases res with
    | none => exact ((State.raisePerUnit_touches _ _ _ _ _).get rfl).trans (hramp _ (by simp [named]))
    | some j => exact ((State.reportFrame _ _ _ _ _ _).get rfl).trans (hramp _ (by simp [named]))
  · rfl

theorem State.detach_reel (s : State) (r old st : Nat) {k : Key} (hk : k.r = .REEL) : (s.detach r old st).get k = s.get k := by
  unfold State.detach
  split
  · split
    · exact State.corAbort_reel _ _ _ (by decide) hk
    · rfl
  · rfl

theorem State.enterState_state (s : State) (r st : Nat) : (s.enterState r st).reelState r = st % 2 ^ 3 := by
  rw [State.enterState_shows, State.reelState, State.detach_reel _ _ _ _ rfl]
  split
  · rw [State.calAbandon_get _ _ _ (by simp [among]), State.showState_state]
  · exact State.showState_state _ _ _

/-- A reel that runs enters FAULTED with its code, whether or not a group drives it. -/
theorem State.enterFault_shows (h0 : s.reelState r ≠ 0) (h6 : s.reelState r ≠ 6) {code : Nat} (hc : code < 15) (t : Nat) :
    (s.enterFault r code t).reelState r = 6 ∧ (s.enterFault r code t).get (Fld.REEL_FAULT r) = code ∧ (s.enterFault r code t).is (Fld.TL_REEL_EVT_FAULT (tileOfReel r)) = true := by
  set u := ((s.quitRun r t).enterState r 6).dropWindow r
  set l : List (Key × Nat) := [(Fld.REEL_FAULT r, code), (Fld.TL_REEL_EVT_FAULT (tileOfReel r), 1), (Fld.TL_REEL_FLT_LAST_CODE (tileOfReel r), code),
    (Fld.TL_REEL_FLT_LAST_REEL (tileOfReel r), r % 128)] with hl
  have hfault : s.enterFault r code t = ((s.restartRefused ((u.sets l).archive 4 (unitReel r) t [code, s.get (Fld.REEL_SP r)]) r).pulse (32 * tileOfReel r + 23) none).raisePerTile 21
      (tileOfReel r) (markReel r) := by
    rw [State.enterFault]
    dsimp only
    rw [if_neg (not_or.mpr ⟨h0, h6⟩), if_neg (by omega), if_neg (by omega)]
  have hlast : ∀ k, (ledgerOf 21 k || archiveLoss k || (restartKeys r).contains k) = false → (s.enterFault r code t).get k = (u.sets l).get k := fun k hk => by
    obtain ⟨hk, hrestart⟩ := Bool.or_eq_false_iff.mp hk
    rw [hfault, (State.raisePerTile_frame _ _ _ _).get hk, (State.pulse_frame _ _ _).get rfl, (State.restartRefused_frame _ _ _).get hrestart,
      (State.archive_frame _ _ _ _ _ _).get (Bool.or_eq_false_iff.mp hk).2]
  refine ⟨?_, ?_, ?_⟩
  · rw [State.reelState, hlast _ (by simp [ledgerOf, archiveLoss]), State.get_sets_of_not_named _ _ _ (by simp [hl, named]), (State.dropWindow_frame _ _).get (by simp)]
    exact State.enterState_state _ _ _
  · rw [hlast _ (by simp [ledgerOf, archiveLoss])]
    simp [hl, State.get_set]
    omega
  · rw [State.is, hlast _ (by simp [ledgerOf, archiveLoss])]
    simp [hl, State.get_set]

/-! ### The end of a piece (R201, R202) -/

/-- The context of a voice that runs on as a tone. -/
abbrev Engine.asTone (e : Engine) : Engine := { e with piece := none, sweepEnd := none, sweepEntry := none }

theorem State.foldPiece_eq {t0 : Nat} (hp : (s.eng r).piece = some t0) (t : Nat) : s.foldPiece r t = (s.fold r t0 t).onEng r Engine.asTone := by
  rw [State.foldPiece, hp]

theorem State.foldPiece_folded {t0 : Nat} (hp : (s.eng r).piece = some t0) (t : Nat) : s.foldedAt r t0 t (s.foldPiece r t) := by
  rw [State.foldPiece_eq hp]
  exact State.foldedAt_congr (s.fold_folded r t0 t) (State.onEng_frame _ _ _) (fun _ _ => rfl)

theorem State.foldPiece_asTone {t0 : Nat} (hp : (s.eng r).piece = some t0) (t : Nat) : (s.foldPiece r t).eng r = (s.eng r).asTone := by
  rw [State.foldPiece_eq hp, State.eng_onEng_self (State.eng_reel _ r), (s.fold_frame r t0 t).eng (by simp)]

/-- A table entry that R202 refuses. -/
abbrev rowBad (row rate : Nat) : Prop := bitsOf row 64 40 = 0 ∨ bitsOf row 64 40 % 2 ^ rate ≠ 0 ∨ bitsOf row 104 24 ≠ 0

theorem State.startSweep_bad {i row : Nat} (h : rowBad row (s.rate r)) (t : Nat) : s.startSweep r i row t = s.enterFault r 3 t := if_pos h

/-- What an entry writes in the record. -/
abbrev sweepEntered (r i row : Nat) : List (Key × Nat) :=
  [(Fld.REEL_CRW_CUR_LO r, row % 2 ^ 32), (Fld.REEL_CRW_CUR_HI r, row / 2 ^ 32 % 2 ^ 32), (Fld.REEL_SWP_IDX r, i % 2 ^ 8)]

/-- The context of a voice in a piece that starts at `t` and lasts `dur`. -/
abbrev Engine.inPiece (t dur : Nat) (e : Engine) : Engine := { e with piece := some t, sweepEnd := some (t + dur), sweepEntry := none }

theorem State.startSweep_good {i row : Nat} (h : ¬rowBad row (s.rate r)) (t : Nat) :
    s.startSweep r i row t = (s.sets (sweepEntered r i row)).onEng r (Engine.inPiece t (bitsOf row 64 40)) := by
  have hlo : row % 2 ^ 64 % 2 ^ 32 = row % 2 ^ 32 := Nat.mod_mod_of_dvd _ (by decide)
  have hhi : row % 2 ^ 64 / 2 ^ 32 = row / 2 ^ 32 % 2 ^ 32 := Nat.mod_mul_right_div_self row (2 ^ 32) (2 ^ 32)
  rw [State.startSweep, if_neg h, State.set2, hlo, hhi]
  exact congrArg (fun b : State => b.onEng r _) (State.set_mod _ _ _).symm

end

section
variable {s : State} {r : Fin 1024} {t : Nat}

theorem exec_sweepPieceStart_none (h : (s.eng r).sweepEnd = none) : exec (.sweepPieceStart r) s = .next s := by
  change execSweepPieceStart r s = _
  rw [execSweepPieceStart, h]

theorem exec_sweepPieceStart_waits (he : (s.eng r).sweepEnd = some t)
    (h : s.tick < t ∨ (s.eng r).run = false ∨ (s.eng r).endB ≤ t ∨ s.displaced r t = true ∨ s.cutBy r t = true) : exec (.sweepPieceStart r) s = .next s := by
  have hwait : (s.now < t || !(s.eng r).run || (s.eng r).endB ≤ t || s.displaced r t || s.cutBy r t) = true := by
    rcases h with h | h | h | h | h <;> simp [h, State.now]
  change execSweepPieceStart r s = _
  rw [execSweepPieceStart, he]
  exact congrArg Host.Outcome.next (if_pos hwait)

/-- The table entry that follows the piece in progress. -/
abbrev State.nextRow (s : State) (r : Nat) : Nat := (s.eng r).sweepEntry.getD (s.sweepRow r (s.get (Fld.REEL_SWP_IDX r) + 1))

section
variable (he : (s.eng r).sweepEnd = some t) (ht : t ≤ s.tick) (hrun : (s.eng r).run = true) (hend : t < (s.eng r).endB) (hd : s.displaced r t = false)
  (hc : s.cutBy r t = false)
include he ht hrun hend hd hc

theorem exec_sweepPieceStart : exec (.sweepPieceStart r) s = .next (if s.get (Fld.REEL_SWP_IDX r) + 1 < s.get (Fld.REEL_SWP_CNT r) then
    (s.foldPiece r t).startSweep r (s.get (Fld.REEL_SWP_IDX r) + 1) (s.nextRow r) t else s.foldPiece r t) := by
  have hgo : (s.now < t || !(s.eng r).run || (s.eng r).endB ≤ t || s.displaced r t || s.cutBy r t) = false := by
    simp [hrun, hd, hc, State.now, not_lt.mpr ht, hend]
  change execSweepPieceStart r s = _
  rw [execSweepPieceStart, he]
  exact congrArg Host.Outcome.next (if_neg (by rw [hgo]; exact Bool.false_ne_true))

theorem sweepPieceStart_does_last {t0 : Nat} (hp : (s.eng r).piece = some t0) (hi : s.get (Fld.REEL_SWP_CNT r) ≤ s.get (Fld.REEL_SWP_IDX r) + 1) :
    Does (.sweepPieceStart r) s [.engines] (fun x => (phaseKeys r).contains x) [] (fun u => s.foldedAt r t0 t u ∧ u.eng r = (s.eng r).asTone) := by
  have hexec := exec_sweepPieceStart he ht hrun hend hd hc
  rw [if_neg (not_lt.mpr hi)] at hexec
  exact ⟨_, hexec, by simp, (s.foldPiece_frame r t).mono (fun _ h => h) (fun x hx => Bool.or_eq_true_iff.mpr (.inl hx)), State.foldPiece_folded hp t, State.foldPiece_asTone hp t⟩

theorem sweepPieceStart_does_next {t0 : Nat} (hp : (s.eng r).piece = some t0) (hi : s.get (Fld.REEL_SWP_IDX r) + 1 < s.get (Fld.REEL_SWP_CNT r))
    (hrow : ¬rowBad (s.nextRow r) (s.rate r)) :
    Does (.sweepPieceStart r) s [.engines] (fun x => (phaseKeys r).contains x) (sweepEntered r (s.get (Fld.REEL_SWP_IDX r) + 1) (s.nextRow r))
      (fun u => s.foldedAt r t0 t u ∧ u.eng r = (s.eng r).inPiece t (bitsOf (s.nextRow r) 64 40)) := by
  have hexec := exec_sweepPieceStart he ht hrun hend hd hc
  have hfold := s.foldPiece_frame r t
  have hrate : (s.foldPiece r t).rate r = s.rate r := hfold.get (by simp)
  rw [if_pos hi, State.startSweep_good (by rwa [hrate])] at hexec
  set l := sweepEntered r (s.get (Fld.REEL_SWP_IDX r) + 1) (s.nextRow r) with hl
  have hsets : Frame (s.foldPiece r t) ((s.foldPiece r t).sets l) [] (named l) := Frame.sets _ _ fun q hq => named_of_mem hq
  have hcontext := ((s.foldPiece r t).sets l).onEng_frame r (Engine.inPiece t (bitsOf (s.nextRow r) 64 40))
  refine ⟨_, hexec, fun q hq => (hcontext.get rfl).trans (State.get_sets_of_mem _ _ (by simp [hl]) (by simp [hl, Nat.mod_lt]) q hq),
    hcontext.via rfl (by simp) (hsets.via rfl (fun x hx => Bool.or_eq_true_iff.mpr (.inr hx)) (hfold.mono (fun _ h => h) fun x hx => Bool.or_eq_true_iff.mpr (.inl hx))),
    State.foldedAt_congr (State.foldedAt_congr (State.foldPiece_folded hp t) hsets (by simp [hl, named])) hcontext (fun _ _ => rfl), ?_⟩
  rw [State.eng_onEng_self (State.eng_reel _ r), State.eng_sets, State.foldPiece_asTone hp]

theorem sweepPieceStart_faults (hi : s.get (Fld.REEL_SWP_IDX r) + 1 < s.get (Fld.REEL_SWP_CNT r)) (h1 : 1 ≤ s.reelState r) (h5 : s.reelState r ≤ 5)
    (hrow : rowBad (s.nextRow r) (s.rate r)) :
    ∃ u, exec (.sweepPieceStart r) s = .next u ∧ u.reelState r = 6 ∧ u.get (Fld.REEL_FAULT r) = 3 ∧ u.is (Fld.TL_REEL_EVT_FAULT (tileOfReel r)) = true := by
  have hexec := exec_sweepPieceStart he ht hrun hend hd hc
  have hfold := s.foldPiece_frame r t
  have hrate : (s.foldPiece r t).rate r = s.rate r := hfold.get (by simp)
  have hstate : (s.foldPiece r t).reelState r = s.reelState r := hfold.get (by simp)
  rw [if_pos hi, State.startSweep_bad (by rwa [hrate])] at hexec
  exact ⟨_, hexec, State.enterFault_shows (by omega) (by omega) (by decide) t⟩

end

end

/-- Settles O50: a staging command answers or changes one context, a pending set of one kind applies at a boundary of its voice, and the end of a sweep
piece folds it and goes on as the table says. -/
theorem stagedVoiceUpdates : Obligations.StagedVoiceUpdates :=
  ⟨fun _ _ ho => ⟨⟨Gives.of_stgDone (by decide) (exec_voiceStage_multi ho), Gives.of_stgDone (by decide) (exec_voiceCommit_multi ho)⟩,
      fun h => staging_refused ho (State.stgRefused_state h) (by decide) (by decide),
      fun h1 h4 _ hg => staging_refused ho (State.stgRefused_owned h1 h4 hg) (by decide) (by decide),
      fun h1 h4 hg => have hr := State.stgRefused_none h1 h4 hg
        ⟨voiceStage_unfit ho hr, voiceStage_outOfRange ho hr, voiceStage_does ho hr, voiceCommit_empty ho hr, voiceCommit_does ho hr⟩⟩,
    fun _ _ => ⟨exec_voiceUpdateApply_keeps, fun hs hb hg _ hq hl h2 h6 => voiceUpdateApply_does_fields hs hb hg hq hl h2 h6,
      fun hs hb hg _ hq hl h1 hp => voiceUpdateApply_does_frequency hs hb hg hq hl h1 hp⟩,
    fun _ _ => ⟨exec_sweepPieceStart_none, fun _ he => ⟨exec_sweepPieceStart_waits he, fun ht hrun hend hd hc _ hp =>
      ⟨sweepPieceStart_does_last he ht hrun hend hd hc hp,
        fun hi h0 hm hz => sweepPieceStart_does_next he ht hrun hend hd hc hp hi (by rintro (h | h | h) <;> contradiction),
        fun hi h1 h5 hrow => sweepPieceStart_faults he ht hrun hend hd hc hi h1 h5 hrow⟩⟩⟩⟩

end Sys2Proof.Machine
end

section
/-!
PROOFS. Powering a channel up and down (O21): the writes by which a channel enters a state, and its enable, disable, stage and ramp as runs
of writes.
-/
namespace Sys2Proof.Machine

/-! ### The power that units need (R405, R406) -/

section
variable {s t : State}

/-- The power states that decide whether units are powered are in these registers alone. -/
theorem State.unitsPowered_congr (h : ∀ k, among [.AON_PWR_STATUS, .L_PWR_BUSY, .L_PWR_NEXT] k = true → t.get k = s.get k) : t.unitsPowered = s.unitsPowered := by
  simp [State.unitsPowered, State.is, h, among]

theorem State.channelPower_congr (n : Nat) (h : ∀ k, among [.AON_PWR_STATUS, .L_PWR_BUSY, .L_PWR_NEXT, .L_DIE_PG] k = true → t.get k = s.get k) :
    t.channelPower n = s.channelPower n := by
  rw [State.channelPower, State.channelPower, State.unitsPowered_congr fun k hk => h k (among_sub rfl k hk), State.is, State.is, h _ rfl]

@[simp] theorem State.unitsPowered_set (s : State) (k : Key) (v : Nat) (h : among [.AON_PWR_STATUS, .L_PWR_BUSY, .L_PWR_NEXT] k = false) :
    (s.set k v).unitsPowered = s.unitsPowered :=
  State.unitsPowered_congr fun k' hk => State.get_set_ne _ _ fun e => by simp [e, hk] at h

@[simp] theorem State.channelPower_set (s : State) (k : Key) (v n : Nat) (h : among [.AON_PWR_STATUS, .L_PWR_BUSY, .L_PWR_NEXT, .L_DIE_PG] k = false) :
    (s.set k v).channelPower n = s.channelPower n :=
  State.channelPower_congr n fun k' hk => State.get_set_ne _ _ fun e => by simp [e, hk] at h

end

/-! ### Entering a state (R234, R235, R238) -/

section
variable (s : State) (n : Nat)

/-- A channel that powers up or ramps down is under hard park. -/
theorem State.chEnter_hard {st : Nat} (h : st = 1 ∨ st = 4) : s.chEnter n st = s.sets [(Fld.CH_STATUS_STATE n, st), (Fld.CH_STATUS_HARD n, 1)] := by
  rcases h with rfl | rfl <;> simp [State.chEnter, State.hardStatus]

theorem State.chEnter_off : s.chEnter n 0 = s.sets [(Fld.CH_STATUS_STATE n, 0), (Fld.CH_STATUS_HARD n, 0)] := by
  simp [State.chEnter, State.hardStatus]

/-- A PARKED channel is under hard park while a hard reason stands. -/
theorem State.chEnter_parked : s.chEnter n 2 =
    s.sets [(Fld.CH_STATUS_STATE n, 2), (Fld.CH_STATUS_HARD n, if s.get (Fld.CH_PARK_SRC_REASON n) &&& hardMask = 0 then 0 else 1)] := by
  simp [State.chEnter, State.hardStatus, State.get_set]

/-- A channel starts from OFF alone, enabled and powered. -/
theorem State.chStart_powered (h0 : s.get (Fld.CH_STATUS_STATE n) = 0) (he : s.is (Fld.CH_CTRL_EN n) = true) (hp : s.channelPower n = true) :
    s.chStart n = s.sets [(Fld.CH_STATUS_STATE n, 1), (Fld.CH_STATUS_HARD n, 1)] := by
  rw [State.chStart, if_pos ⟨h0, he, hp⟩, State.chEnter_hard _ _ (.inl rfl)]

theorem State.chStart_stays (h : s.get (Fld.CH_STATUS_STATE n) ≠ 0 ∨ s.channelPower n = false) : s.chStart n = s := by
  refine if_neg fun ⟨h0, _, hp⟩ => ?_
  rcases h with h | h
  · exact h h0
  · exact absurd hp (by simp [h])

end

/-! ### The commands -/

section
variable {s : State} {n : Fin 32}

theorem exec_chEnable (ho : s.hostOpen = true) (h4 : s.get (Fld.CH_STATUS_STATE n) ≠ 4) : exec (.chEnable n) s = .next ((s.set (Fld.CH_CTRL_EN n) 1).chStart n) := by
  change execChEnable n s = _
  rw [execChEnable, State.onHost_open _ _ ho, if_neg h4, State.flag_eq]

theorem exec_chEnable_parking (ho : s.hostOpen = true) (h4 : s.get (Fld.CH_STATUS_STATE n) = 4) :
    exec (.chEnable n) s = .next (s.sets [(Fld.CH_CTRL_EN n, 1), (Fld.CH_STATUS_RESTART_PENDING n, 1), (Fld.CH_EVT_RESTART_QUEUED n, 1)]) := by
  change execChEnable n s = _
  rw [execChEnable, State.onHost_open _ _ ho, if_pos h4, State.flag_eq, ← State.sets_cons]

theorem exec_chDisable (ho : s.hostOpen = true) :
    exec (.chDisable n) s = .next ((s.sets [(Fld.CH_CTRL_EN n, 0), (Fld.CH_STATUS_RESTART_PENDING n, 0)]).chStop n) := by
  change execChDisable n s = _
  rw [execChDisable, State.onHost_open _ _ ho]
  rfl

theorem exec_chStageReady (h1 : s.get (Fld.CH_STATUS_STATE n) = 1) : exec (.chStageReady n) s = .next (s.chEnter n 2) := by
  change execChStageReady n s = _
  rw [execChStageReady, if_pos h1]

theorem exec_chStageReady_keeps (h1 : s.get (Fld.CH_STATUS_STATE n) ≠ 1) : exec (.chStageReady n) s = .next s := by
  change execChStageReady n s = _
  rw [execChStageReady, if_neg h1]

theorem exec_chRampDownDone (h4 : s.get (Fld.CH_STATUS_STATE n) = 4) : exec (.chRampDownDone n) s = .next (
    let off := s.sets [(Fld.CH_STATUS_STATE n, 0), (Fld.CH_STATUS_HARD n, 0), (Fld.CH_STATUS_RESTART_PENDING n, 0)]
    if s.is (Fld.CH_STATUS_RESTART_PENDING n) && s.channelPower n then off.chEnter n 1 else off) := by
  change execChRampDownDone n s = _
  rw [execChRampDownDone, if_pos h4, State.chEnter_off]
  rfl

theorem exec_chRampDownDone_keeps (h4 : s.get (Fld.CH_STATUS_STATE n) ≠ 4) : exec (.chRampDownDone n) s = .next s := by
  change execChRampDownDone n s = _
  rw [execChRampDownDone, if_neg h4]

/-! ### The clauses -/

theorem chEnable_gives_powering (ho : s.hostOpen = true) (h0 : s.get (Fld.CH_STATUS_STATE n) = 0) (hp : s.channelPower n = true) :
    Gives (.chEnable n) s [(Fld.CH_CTRL_EN n, 1), (Fld.CH_STATUS_STATE n, 1), (Fld.CH_STATUS_HARD n, 1)] := by
  refine Gives.of_sets ?_ (by simp) (by simp)
  rw [exec_chEnable ho (by simp [h0]), State.chStart_powered _ _ (by simp [State.get_set, h0]) (by simp) (by simp [among, hp])]
  rfl

theorem chEnable_gives_enabled (ho : s.hostOpen = true) (h4 : s.get (Fld.CH_STATUS_STATE n) ≠ 4)
    (h : s.get (Fld.CH_STATUS_STATE n) ≠ 0 ∨ s.channelPower n = false) : Gives (.chEnable n) s [(Fld.CH_CTRL_EN n, 1)] := by
  refine Gives.of_sets ?_ (by simp) (by simp)
  rw [exec_chEnable ho h4, State.chStart_stays _ _ (by simpa [State.get_set, among] using h)]
  rfl

theorem chDisable_gives_disabled (ho : s.hostOpen = true) (h : s.get (Fld.CH_STATUS_STATE n) = 0 ∨ s.get (Fld.CH_STATUS_STATE n) = 4) :
    Gives (.chDisable n) s [(Fld.CH_CTRL_EN n, 0), (Fld.CH_STATUS_RESTART_PENDING n, 0)] := by
  refine Gives.of_sets ?_ (by simp) (by simp)
  rw [exec_chDisable ho, State.chStop, if_pos (by simpa [State.get_set] using h)]

theorem chDisable_gives_parking (ho : s.hostOpen = true) (h0 : s.get (Fld.CH_STATUS_STATE n) ≠ 0) (h4 : s.get (Fld.CH_STATUS_STATE n) ≠ 4) :
    Gives (.chDisable n) s [(Fld.CH_CTRL_EN n, 0), (Fld.CH_STATUS_RESTART_PENDING n, 0), (Fld.CH_STATUS_STATE n, 4), (Fld.CH_STATUS_HARD n, 1)] := by
  refine Gives.of_sets ?_ (by simp) (by simp)
  rw [exec_chDisable ho, State.chStop, if_neg (by simp [State.get_set, h0, h4]), State.chEnter_hard _ _ (.inr rfl)]
  rfl

theorem chStageReady_gives (h1 : s.get (Fld.CH_STATUS_STATE n) = 1) : Gives (.chStageReady n) s
    [(Fld.CH_STATUS_STATE n, 2), (Fld.CH_STATUS_HARD n, if s.get (Fld.CH_PARK_SRC_REASON n) &&& hardMask = 0 then 0 else 1)] := by
  refine Gives.of_sets (by rw [exec_chStageReady h1, State.chEnter_parked]) (by simp) ?_
  split_ifs <;> simp

theorem chRampDownDone_gives_restart (h4 : s.get (Fld.CH_STATUS_STATE n) = 4) (hr : s.is (Fld.CH_STATUS_RESTART_PENDING n) = true) (hp : s.channelPower n = true) :
    Gives (.chRampDownDone n) s [(Fld.CH_STATUS_STATE n, 1), (Fld.CH_STATUS_HARD n, 1), (Fld.CH_STATUS_RESTART_PENDING n, 0)] := by
  refine Does.of_writes (w := [(Fld.CH_STATUS_STATE n, 0), (Fld.CH_STATUS_HARD n, 0), (Fld.CH_STATUS_RESTART_PENDING n, 0), (Fld.CH_STATUS_STATE n, 1),
    (Fld.CH_STATUS_HARD n, 1)]) ?_ (by simp [named]) (by simp [State.get_set]) trivial
  rw [exec_chRampDownDone h4, if_pos (by simp [hr, hp]), State.chEnter_hard _ _ (.inl rfl)]
  rfl

theorem chRampDownDone_gives_off (h4 : s.get (Fld.CH_STATUS_STATE n) = 4) (h : s.is (Fld.CH_STATUS_RESTART_PENDING n) = false ∨ s.channelPower n = false) :
    Gives (.chRampDownDone n) s [(Fld.CH_STATUS_STATE n, 0), (Fld.CH_STATUS_HARD n, 0), (Fld.CH_STATUS_RESTART_PENDING n, 0)] :=
  Gives.of_sets (by rw [exec_chRampDownDone h4, if_neg (by rcases h with h | h <;> simp [h])]) (by simp) (by simp)

end

/-- Settles O21: each command is a run of writes in the state its clause names. -/
theorem channelPower : Obligations.ChannelPower :=
  ⟨fun _ _ ho => ⟨chEnable_gives_powering ho, fun h0 hp => chEnable_gives_enabled ho (by simp [h0]) (.inr hp),
      fun h4 => Gives.of_sets (exec_chEnable_parking ho h4) (by simp) (by simp), fun h1 h3 => chEnable_gives_enabled ho (by omega) (.inl (by omega)),
      chDisable_gives_disabled ho, chDisable_gives_parking ho⟩,
    fun _ _ => ⟨chStageReady_gives, exec_chStageReady_keeps, chRampDownDone_gives_restart, chRampDownDone_gives_off, exec_chRampDownDone_keeps⟩⟩

end Sys2Proof.Machine
end

section
/-!
PROOFS. Faults of a channel and of its converter die (O23): what a fault reason does to a channel, raises that count once per unit, and the
four channels of a die.
-/
namespace Sys2Proof.Machine

/-! ### Folds over units -/

/-- What a fold keeps through its steps. -/
theorem State.each_invariant {α : Type} {f : α → State → State} {Q : State → Prop} (l : List α) (hkeep : ∀ y a, Q a → Q (f y a)) {s : State} (hQ : Q s) :
    Q (s.each l f) := by
  induction l generalizing s with
  | nil => exact hQ
  | cons y l ih => exact ih (hkeep y s hQ)

/-- What the step of one unit establishes, the steps of the others keep possible and no later step undoes, holds after the fold. -/
theorem State.each_reaches {α : Type} {f : α → State → State} {I Q : State → Prop} {x : α} {l : List α} (hx : x ∈ l) (hreach : ∀ a, I a → Q (f x a))
    (hother : ∀ y a, y ≠ x → I a → I (f y a)) (hkeep : ∀ y a, Q a → Q (f y a)) {s : State} (hI : I s) : Q (s.each l f) := by
  induction l generalizing s with
  | nil => exact absurd hx List.not_mem_nil
  | cons y l ih =>
    by_cases hy : y = x
    · exact State.each_invariant l hkeep (hy ▸ hreach s hI)
    · exact ih ((List.mem_cons.mp hx).resolve_left (Ne.symm hy)) (hother y s hy hI)

/-- A key of some registers is none of others. -/
theorem among_apart {l rs : List RName} (h : l.all (fun r => !rs.contains r) = true) {k : Key} (hx : among l k = true) : among rs k = false := by
  have hm : k.r ∈ l := by simpa [among] using hx
  simpa [among] using List.all_eq_true.mp h _ hm

/-! ### Raises once per unit (R334) -/

section
variable (s : State) (k u d : Nat) (m : List (Nat × Nat))

theorem State.raisePerUnit_frame : Frame s (s.raisePerUnit k u d m) [.arcBuf] (fun x => ledgerOf k x || archiveLoss x) := by
  unfold State.raisePerUnit
  split
  · exact Frame.refl _ _ _
  · exact State.raise_frame ..

theorem State.marked_inactive (h : s.is (Fld.LDG_ACTIVE k) = false) : s.marked k m = false := by simp [State.marked, h]

/-- The entry of an idle cause is started. -/
theorem State.raisePerUnit_raised (h : s.is (Fld.LDG_ACTIVE k) = false) : Raised s (s.raisePerUnit k u d m) k u d := by
  rw [State.raisePerUnit, State.marked_inactive s k m h, if_neg Bool.false_ne_true]
  exact State.raise_raised ..

end

/-! ### A hard reason on a channel (R235, R237) -/

/-- A new hard reason parks an ACTIVE channel; otherwise a reason leaves the state as it is. -/
theorem State.chPark_state {s : State} {n b : Nat} {on : Bool} (hold : (s.get (Fld.CH_PARK_SRC_REASON n)).testBit b ≠ on) :
    (s.chPark n b on).get (Fld.CH_STATUS_STATE n) =
      if on && hardMask.testBit b && s.get (Fld.CH_STATUS_STATE n) == 3 then 2 else s.get (Fld.CH_STATUS_STATE n) := by
  rw [State.chPark, if_neg hold, (State.hardStatus_frame _ n).get (by simp), State.when]
  split <;> simp [State.get_set]

/-- A new hard reason leaves no channel ACTIVE. -/
theorem State.chPark_not_active {s : State} {n b : Nat} (hb : hardMask.testBit b = true) (hold : (s.get (Fld.CH_PARK_SRC_REASON n)).testBit b = false) :
    (s.chPark n b true).get (Fld.CH_STATUS_STATE n) ≠ 3 := by
  rw [State.chPark_state (by simp [hold]), hb]
  split <;> simp_all

/-- Only an ACTIVE channel changes its state for a reason. -/
theorem State.chPark_state_of_not_active {s : State} {n b : Nat} {on : Bool} (h3 : s.get (Fld.CH_STATUS_STATE n) ≠ 3) :
    (s.chPark n b on).get (Fld.CH_STATUS_STATE n) = s.get (Fld.CH_STATUS_STATE n) := by
  by_cases hold : (s.get (Fld.CH_PARK_SRC_REASON n)).testBit b = on
  · rw [State.chPark, if_pos hold]
  · rw [State.chPark_state hold, if_neg (by simp [h3])]

/-! ### Fault conditions (R240) -/

/-- The state in which condition `bit` of channel `n` is recorded, and whether any persists. -/
abbrev State.faultNoted (s : State) (n bit : Nat) (on : Bool) : State :=
  let noted := s.set (Lat.CH_BAD n) (putBit (s.get (Lat.CH_BAD n)) bit on)
  noted.persist 23 ((List.range 32).any (fun m => noted.get (Lat.CH_BAD m) != 0))

section
variable {s : State} {n bit : Nat}

theorem State.faultNoted_frame (s : State) (n bit : Nat) (on : Bool) :
    Frame s (s.faultNoted n bit on) [] (fun k => k == Lat.CH_BAD n || k == Fld.LDG_PERSIST 23) :=
  Frame.putPersist (by simp) (Frame.set _ _ _ (by simp))

theorem State.faultNoted_bit (hb : bit < 3) (on : Bool) : ((s.faultNoted n bit on).get (Lat.CH_BAD n)).testBit bit = on := by
  rw [State.faultNoted, State.persist, State.get_set_ne _ _ (by simp), State.get_set_self, Nat.testBit_mod_two_pow, putBit_testBit]
  simp [hb]

/-- A condition that has appeared persists. -/
theorem State.faultNoted_persists (hn : n < 32) (hb : bit < 3) : (s.faultNoted n bit true).get (Fld.LDG_PERSIST 23) = 1 := by
  have hbit := State.faultNoted_bit (s := s) (n := n) hb true
  rw [State.faultNoted, State.persist, State.get_set_ne _ _ (by simp)] at hbit
  have hany : (List.range 32).any (fun m => (s.set (Lat.CH_BAD n) (putBit (s.get (Lat.CH_BAD n)) bit true)).get (Lat.CH_BAD m) != 0) = true := by
    refine List.any_eq_true.mpr ⟨n, List.mem_range.mpr hn, bne_iff_ne.mpr fun h0 => ?_⟩
    simp [h0] at hbit
  rw [State.faultNoted, hany]
  simp [State.persist]

theorem State.channelFault_gone (ev : Key) : s.channelFault n bit ev false = s.faultNoted n bit false := rfl

/-- The state in which a new condition has set its event and the FAULT reason. -/
abbrev State.faultParked (s : State) (n bit : Nat) (ev : Key) : State := ((s.faultNoted n bit true).set ev 1).chPark n pkFault true

/-- The keys that a fault writes before it is reported. -/
abbrev faultParkKeys (n : Nat) (k : Key) : Bool := parkOfChannel n k || k == Lat.CH_BAD n || k == Fld.LDG_PERSIST 23

theorem State.faultParked_frame (s : State) (n bit : Nat) (ev : Key) : Frame s (s.faultParked n bit ev) [] (fun k => faultParkKeys n k || k == ev) := by
  refine Frame.trans ?_ ((State.chPark_frame ..).mono (fun _ h => h) fun k h => by simp [h])
  refine Frame.put (by simp) ((s.faultNoted_frame n bit true).mono (fun _ h => h) fun k h => ?_)
  rcases Bool.or_eq_true_iff.mp h with h | h <;> simp [h]

/-- Where no other entry folds it, a fault is raised once per channel. -/
theorem State.channelFault_appears {ev : Key} (hev : ev.r = .CH_EVT) (h6 : s.is (Fld.LDG_ACTIVE 6) = false)
    (hclock : bit ≠ 2 ∨ s.is (Fld.LDG_ACTIVE 0) = false ∧ s.is (Fld.LDG_ACTIVE 1) = false) :
    s.channelFault n bit ev true = (s.faultParked n bit ev).raisePerUnit 23 (unitChannel n) n (markChannel n) := by
  have hactive : ∀ c, (s.faultParked n bit ev).is (Fld.LDG_ACTIVE c) = s.is (Fld.LDG_ACTIVE c) := fun c => by
    have hne : Fld.LDG_ACTIVE c ≠ ev := fun e => by simp [← e] at hev
    rw [State.is, State.is, (s.faultParked_frame n bit ev).get (by simp [parkOfChannel, hne])]
  have hnone : ¬(bit = 2 ∧ (s.faultParked n bit ev).is (Fld.LDG_ACTIVE 0) = true) ∧ ¬(bit = 2 ∧ (s.faultParked n bit ev).is (Fld.LDG_ACTIVE 1) = true) := by
    rw [hactive, hactive]
    rcases hclock with h | ⟨h0, h1⟩
    · simp [h]
    · simp [h0, h1]
  have hmarked := State.marked_inactive (s.faultParked n bit ev) 6 (markChannel n) ((hactive 6).trans h6)
  unfold State.channelFault
  exact (if_pos rfl).trans ((if_neg (by rw [Bool.not_eq_true]; exact hmarked)).trans ((if_neg hnone.1).trans (if_neg hnone.2)))

/-- What R240 says of a channel that a fault condition has reached. -/
abbrev faulty (n bit : Nat) (s t : State) : Prop :=
  (t.get (Lat.CH_BAD n)).testBit bit = true ∧ (t.get (Fld.CH_PARK_SRC_REASON n)).testBit pkFault = true ∧ t.get (Fld.CH_STATUS_STATE n) ≠ 3 ∧
    (s.is (Fld.LDG_ACTIVE 23) = false → Raised s t 23 (unitChannel n) n)

theorem Does.of_fault_gone {c : Instr} {ev : Key} (hb : bit < 3) (he : exec c s = .next (s.channelFault n bit ev false)) :
    Does c s [] (fun k => k == Lat.CH_BAD n || k == Fld.LDG_PERSIST 23) [] (fun t => (t.get (Lat.CH_BAD n)).testBit bit = false) :=
  Does.of_sets he List.nodup_nil (by simp) (s.faultNoted_frame n bit false) (by simp) (State.faultNoted_bit hb false)

section
variable {lo : Nat} (hlo : lo ≠ 10)

/-- The event of a fault condition: a bit of CH_EVT. -/
abbrev faultEvent (n lo : Nat) : Key := ⟨.CH_EVT, n, 0, lo, 1⟩

include hlo in
theorem State.faultParked_event (s : State) (n bit : Nat) : (s.faultParked n bit (faultEvent n lo)).get (faultEvent n lo) = 1 := by
  rw [State.faultParked, (State.chPark_frame ..).get (by simp [parkOfChannel, hlo]), State.get_set_self]
  rfl

theorem State.faultParked_persists (hn : n < 32) (hb : bit < 3) : (s.faultParked n bit (faultEvent n lo)).get (Fld.LDG_PERSIST 23) = 1 := by
  rw [State.faultParked, (State.chPark_frame ..).get (by simp [parkOfChannel]), State.get_set_ne _ _ (by simp), State.faultNoted_persists hn hb]

theorem State.faultParked_bad (hb : bit < 3) : ((s.faultParked n bit (faultEvent n lo)).get (Lat.CH_BAD n)).testBit bit = true := by
  rw [State.faultParked, (State.chPark_frame ..).get (by simp [parkOfChannel]), State.get_set_ne _ _ (by simp), State.faultNoted_bit hb]

theorem State.faultParked_reason : ((s.faultParked n bit (faultEvent n lo)).get (Fld.CH_PARK_SRC_REASON n)).testBit pkFault = true := by
  rw [State.faultParked, State.chPark_reason _ _ _ _ _ (by decide), if_pos rfl]

theorem State.faultParked_not_active (hold : (s.get (Fld.CH_PARK_SRC_REASON n)).testBit pkFault = false) :
    (s.faultParked n bit (faultEvent n lo)).get (Fld.CH_STATUS_STATE n) ≠ 3 := by
  refine State.chPark_not_active (by decide) ?_
  rwa [State.get_set_ne _ _ (by simp), (s.faultNoted_frame n bit true).get (by simp)]

include hlo in
/-- A new fault is noted and parks its channel, and the raise that follows touches only the ledger and the archive. -/
theorem Does.of_fault {c : Instr} (he : exec c s = .next (s.channelFault n bit (faultEvent n lo) true)) (hn : n < 32) (hb : bit < 3)
    (h6 : s.is (Fld.LDG_ACTIVE 6) = false) (hclock : bit ≠ 2 ∨ s.is (Fld.LDG_ACTIVE 0) = false ∧ s.is (Fld.LDG_ACTIVE 1) = false)
    (hold : (s.get (Fld.CH_PARK_SRC_REASON n)).testBit pkFault = false) :
    Does c s [.arcBuf] (fun k => parkOfChannel n k || ledgerOf 23 k || archiveLoss k || k == Lat.CH_BAD n) [(faultEvent n lo, 1), (Fld.LDG_PERSIST 23, 1)]
      (faulty n bit s) := by
  rw [State.channelFault_appears rfl h6 hclock] at he
  have hfp := s.faultParked_frame n bit (faultEvent n lo)
  have hfr := (s.faultParked n bit (faultEvent n lo)).raisePerUnit_frame 23 (unitChannel n) n (markChannel n)
  refine ⟨_, he, ?values, ?frame, ?bad, ?reason, ?state, fun h23 => ?raised⟩
  case values =>
    refine List.forall_mem_cons.mpr ⟨?_, List.forall_mem_singleton.mpr ?_⟩
    · exact (hfr.get (by simp [ledgerOf, archiveLoss])).trans (State.faultParked_event hlo s n bit)
    · exact (State.raisePerUnit_persist ..).trans (State.faultParked_persists hn hb)
  case frame =>
    refine (hfp.mono (by simp) fun k hk => ?_).trans (hfr.mono (fun _ h => h) fun k hk => ?_)
    · simp only [Bool.or_eq_true, beq_iff_eq] at hk
      rcases hk with ((hk | rfl) | rfl) | rfl <;> simp [named, *]
    · rcases Bool.or_eq_true_iff.mp hk with hk | hk <;> simp [hk]
  case bad => rw [hfr.get (by simp [ledgerOf, archiveLoss]), State.faultParked_bad hb]
  case reason => rw [hfr.get (by simp [ledgerOf, archiveLoss]), State.faultParked_reason]
  case state =>
    rw [hfr.get (by simp [ledgerOf, archiveLoss])]
    exact State.faultParked_not_active hold
  case raised =>
    have hidle : (s.faultParked n bit (faultEvent n lo)).is (Fld.LDG_ACTIVE 23) = false := by rwa [State.is, hfp.get (by simp [parkOfChannel])]
    exact Raised.of_before hfp (State.raisePerUnit_raised _ _ _ _ _ hidle) (by simp) (by simp [parkOfChannel]) (by simp [parkOfChannel])

end

end

/-! ### The clauses of a channel -/

section
variable {s : State} {n : Fin 32}

theorem exec_feedFault (f : Nat) : exec (.feedFault n f) s = .next (s.channelFault n 2 (Fld.CH_EVT_FEED_FAULT n) (!(decide (24 ≤ f) && decide (f ≤ 40)))) := rfl

theorem exec_feedFault_outside {f : Nat} (h : f < 24 ∨ 40 < f) : exec (.feedFault n f) s = .next (s.channelFault n 2 (Fld.CH_EVT_FEED_FAULT n) true) := by
  have hbad : (!(decide (24 ≤ f) && decide (f ≤ 40))) = true := by
    rcases h with h | h <;> simp [h]
  rw [exec_feedFault, hbad]

theorem exec_feedFault_inside {f : Nat} (h24 : 24 ≤ f) (h40 : f ≤ 40) : exec (.feedFault n f) s = .next (s.channelFault n 2 (Fld.CH_EVT_FEED_FAULT n) false) := by
  have hgood : (!(decide (24 ≤ f) && decide (f ≤ 40))) = false := by simp [h24, h40]
  rw [exec_feedFault, hgood]

end

/-! ### A converter die (R235, R237, R456) -/

/-- The channels of die `d`. -/
abbrev dieChannels (d : Nat) : List Nat := (List.range 4).map (fun j => 4 * d + j)

/-- What park reasons change on the channels of die `d`. -/
abbrev dieParks (d : Nat) (k : Key) : Bool := k.i / 4 == d && parkOfChannel k.i k

theorem mem_dieChannels {d n : Nat} : n ∈ dieChannels d ↔ n / 4 = d := by
  constructor
  · intro h
    obtain ⟨j, hj, rfl⟩ := List.mem_map.mp h
    have := List.mem_range.mp hj
    omega
  · rintro rfl
    exact List.mem_map.mpr ⟨n % 4, List.mem_range.mpr (by omega), by omega⟩

theorem parkOfChannel_dieParks {d n : Nat} {k : Key} (hn : n ∈ dieChannels d) (h : parkOfChannel n k = true) : dieParks d k = true := by
  have hi : k.i = n := by
    simp only [parkOfChannel, Bool.or_eq_true, beq_iff_eq] at h
    rcases h with ((rfl | rfl) | rfl) | rfl <;> rfl
  simp [dieParks, hi, h, mem_dieChannels.mp hn]

section
variable {s : State} {d : Fin 8}

/-- The fold over a die's channels changes what its steps change. -/
theorem State.dieParks_frame (a : State) (d b : Nat) (on : Bool) : Frame a (a.each (dieChannels d) (fun n a => a.chPark n b on)) [] (dieParks d) :=
  Frame.each _ _ _ _ (fun n hn a => (State.chPark_frame a n b on).mono (fun _ h => h) fun _ h => parkOfChannel_dieParks hn h) a

theorem State.dieParks_bit (a : State) {d b j : Nat} (on : Bool) (hb : b < 11) (hj : j < 4) :
    ((a.each (dieChannels d) (fun n a => a.chPark n b on)).get (Fld.CH_PARK_SRC_REASON (4 * d + j))).testBit b = on := by
  rw [State.chParks_bit _ _ _ _ _ _ hb, if_pos ⟨mem_dieChannels.mpr (by omega), rfl⟩]

/-- The state in which the warning of die `d` is noted. -/
abbrev State.uvNoted (s : State) (d : Nat) : State := (s.set (Lat.DIE_UV d) 1).uvPersist

theorem State.uvPersist_frame (s : State) : Frame s s.uvPersist [] (fun k => k == Fld.LDG_PERSIST 6) := Frame.set _ _ _ (by simp)

theorem State.uvNoted_eq (s : State) {d : Nat} (hd : d < 8) : s.uvNoted d = s.sets [(Lat.DIE_UV d, 1), (Fld.LDG_PERSIST 6, 1)] := by
  have hany : (List.range 8).any (fun e => (s.set (Lat.DIE_UV d) 1).is (Lat.DIE_UV e)) = true :=
    List.any_eq_true.mpr ⟨d, List.mem_range.mpr hd, by simp⟩
  rw [State.uvNoted, State.uvPersist, hany]
  rfl

theorem exec_converterSupplyLoss_first (hu : s.is (Lat.DIE_UV d) = false) : exec (.converterSupplyLoss d false) s =
    .next (((s.uvNoted d).raise 6 (unitDie d) d (markDie d)).each (dieChannels d) (fun n a => a.chPark n pkSupply true)) := by
  change execConverterSupplyLoss d false s = _
  simp only [execConverterSupplyLoss, hu, Bool.false_eq_true, if_false]
  rfl

theorem exec_converterSupplyLoss_off (hu : s.is (Lat.DIE_UV d) = true) : exec (.converterSupplyLoss d true) s =
    .next (((s.each (dieChannels d) (fun n a => a.chPark n pkSupply true)).set (Lat.DIE_PG d) 0).each (dieChannels d)
      (fun n a => (a.set (Fld.CH_STATUS_RESTART_PENDING n) 0).chEnter n 0)) := by
  change execConverterSupplyLoss d true s = _
  simp only [execConverterSupplyLoss, hu, if_true]
  rfl

theorem converterSupplyLoss_does_warn (hu : s.is (Lat.DIE_UV d) = false) :
    Does (.converterSupplyLoss d false) s [.arcBuf] (fun k => dieParks d k || ledgerOf 6 k || archiveLoss k) [(Lat.DIE_UV d, 1), (Fld.LDG_PERSIST 6, 1)]
      (fun t => Raised s t 6 (unitDie d) d ∧ ∀ j < 4, (t.get (Fld.CH_PARK_SRC_REASON (4 * d + j))).testBit pkSupply = true) := by
  set noted := s.sets [(Lat.DIE_UV d, 1), (Fld.LDG_PERSIST 6, 1)] with hnoted
  have he := exec_converterSupplyLoss_first hu
  rw [State.uvNoted_eq s d.isLt, ← hnoted] at he
  have hfn : Frame s noted [] (fun k => k == Lat.DIE_UV d || k == Fld.LDG_PERSIST 6) := Frame.sets _ _ (by simp)
  have hfr := noted.raise_frame 6 (unitDie d) d (markDie d)
  have hpark := (noted.raise 6 (unitDie d) d (markDie d)).dieParks_frame d pkSupply true
  refine ⟨_, he, ?values, ?frame, ?raised, fun j hj => State.dieParks_bit _ true (by decide) hj⟩
  case values =>
    refine List.forall_mem_cons.mpr ⟨?_, List.forall_mem_singleton.mpr ?_⟩
    · rw [hpark.get (by simp [dieParks, parkOfChannel]), hfr.get (by simp [ledgerOf, archiveLoss])]
      simp [hnoted, State.get_set]
    · rw [hpark.get (by simp [dieParks, parkOfChannel]), State.raise_persist]
      simp [hnoted]
  case frame =>
    refine ((hfn.mono (by simp) fun k hk => ?_).trans (hfr.mono (fun _ h => h) fun k hk => ?_)).trans (hpark.mono (by simp) fun k hk => ?_)
    · rcases Bool.or_eq_true_iff.mp hk with hk | hk <;> simp [named, beq_iff_eq.mp hk]
    · rcases Bool.or_eq_true_iff.mp hk with hk | hk <;> simp [hk]
    · simp [hk]
  case raised =>
    have hraised := (noted.raise_raised 6 (unitDie d) d (markDie d)).of_after hpark (by simp [dieParks, parkOfChannel])
    exact Raised.of_before hfn hraised (by simp) (by simp) (by simp)

/-- The channels of a die behind the supply clamp. -/
theorem State.dieOff_frame (a : State) (d : Nat) : Frame a (a.each (dieChannels d) (fun n a => (a.set (Fld.CH_STATUS_RESTART_PENDING n) 0).chEnter n 0)) []
    (fun k => (dieParks d k && k.r == .CH_STATUS) || (k.i / 4 == d && k == Fld.CH_STATUS_RESTART_PENDING k.i)) := by
  refine Frame.each _ _ _ _ (fun n hn a => ?_) a
  have hd := mem_dieChannels.mp hn
  rw [State.chEnter_off]
  exact Frame.puts (by simp [parkOfChannel, hd]) (Frame.set _ _ _ (by simp [hd]))

theorem State.dieOff_state (a : State) {d j : Nat} (hj : j < 4) :
    (a.each (dieChannels d) (fun n a => (a.set (Fld.CH_STATUS_RESTART_PENDING n) 0).chEnter n 0)).get (Fld.CH_STATUS_STATE (4 * d + j)) = 0 := by
  have hoff : ∀ n (a : State), a.get (Fld.CH_STATUS_STATE (4 * d + j)) = 0 ∨ n = 4 * d + j →
      ((a.set (Fld.CH_STATUS_RESTART_PENDING n) 0).chEnter n 0).get (Fld.CH_STATUS_STATE (4 * d + j)) = 0 := fun n a h => by
    rw [State.chEnter_off]
    rcases h with h | rfl <;> simp [State.get_set, *]
  exact State.each_reaches (I := fun _ => True) (Q := fun a => a.get (Fld.CH_STATUS_STATE (4 * d + j)) = 0) (mem_dieChannels.mpr (by omega))
    (fun a _ => hoff _ a (.inr rfl)) (fun _ _ _ _ => trivial) (fun n a h => hoff n a (.inl h)) trivial

theorem converterSupplyLoss_does_off (hu : s.is (Lat.DIE_UV d) = true) :
    Does (.converterSupplyLoss d true) s [] (fun k => dieParks d k || (k.i / 4 == (d : Nat) && k == Fld.CH_STATUS_RESTART_PENDING k.i)) [(Lat.DIE_PG d, 0)]
      (fun t => ∀ j < 4, t.get (Fld.CH_STATUS_STATE (4 * d + j)) = 0 ∧ (t.get (Fld.CH_PARK_SRC_REASON (4 * d + j))).testBit pkSupply = true) := by
  have hpark := s.dieParks_frame d pkSupply true
  have hoff := State.dieOff_frame ((s.each (dieChannels d) (fun n a => a.chPark n pkSupply true)).set (Lat.DIE_PG d) 0) d
  refine ⟨_, exec_converterSupplyLoss_off hu, ?value, ?frame, fun j hj => ⟨State.dieOff_state _ hj, ?reason⟩⟩
  case value =>
    rw [List.forall_mem_singleton, hoff.get (by simp [parkOfChannel]), State.get_set_self]
    rfl
  case frame =>
    refine (Frame.put (by simp [named]) (hpark.mono (fun _ h => h) fun k hk => by simp [hk])).trans (hoff.mono (fun _ h => h) fun k hk => ?_)
    rcases Bool.or_eq_true_iff.mp hk with hk | hk
    · simp [(Bool.and_eq_true_iff.mp hk).1]
    · simp [hk]
  case reason =>
    rw [hoff.get (by simp), State.get_set_ne _ _ (by simp)]
    exact State.dieParks_bit _ true (by decide) hj

/-! ### Good rails -/

/-- The state in which the rails of die `d` are good and its wait runs. -/
abbrev State.railsGood (s : State) (d : Nat) : State := ((s.set (Lat.DIE_UV d) 0).set (Lat.DIE_GOOD_AT d) s.tick).uvPersist

/-- A channel whose power-good returns is parked for BOOT and starts if it may. -/
abbrev State.chReturn (a : State) (n : Nat) : State := (a.chPark n pkBoot true).chStart n

theorem exec_converterSupplyGood_stays (hp : s.is (Lat.DIE_PG d) = true) : exec (.converterSupplyGood d) s = .next (s.railsGood d) := by
  change execConverterSupplyGood d s = _
  rw [execConverterSupplyGood, if_pos hp]
  rfl

theorem exec_converterSupplyGood_returns (hp : s.is (Lat.DIE_PG d) = false) : exec (.converterSupplyGood d) s =
    .next (((s.railsGood d).set (Lat.DIE_PG d) 1).each (dieChannels d) (fun n a => a.chReturn n)) := by
  change execConverterSupplyGood d s = _
  rw [execConverterSupplyGood, if_neg (by simp [hp])]
  rfl

theorem State.railsGood_frame (s : State) (d : Nat) :
    Frame (s.sets [(Lat.DIE_UV d, 0), (Lat.DIE_GOOD_AT d, s.tick % 2 ^ 64)]) (s.railsGood d) [] (fun k => k == Fld.LDG_PERSIST 6) := by
  have hmod := State.set_mod (s.set (Lat.DIE_UV d) 0) (Lat.DIE_GOOD_AT d) s.tick
  rw [State.railsGood, ← hmod]
  exact State.uvPersist_frame _

theorem converterSupplyGood_does_stay (hp : s.is (Lat.DIE_PG d) = true) : Does (.converterSupplyGood d) s [] (fun k => k == Fld.LDG_PERSIST 6)
    [(Lat.DIE_UV d, 0), (Lat.DIE_GOOD_AT d, s.tick % 2 ^ 64)] (fun _ => True) :=
  Does.of_sets (exec_converterSupplyGood_stays hp) (by simp) (by simpa using Nat.mod_lt _ (by decide)) (s.railsGood_frame d) (by simp) trivial

theorem State.chReturn_frame (a : State) (n : Nat) : Frame a (a.chReturn n) [] (parkOfChannel n) := by
  refine (State.chPark_frame a n pkBoot true).trans (Frame.choose (fun _ => ?_) (fun _ => Frame.refl _ _ _))
  rw [State.chEnter_hard _ _ (.inl rfl)]
  exact Frame.sets _ _ (by simp [parkOfChannel])

theorem State.dieReturns_frame (a : State) (d : Nat) : Frame a (a.each (dieChannels d) (fun n a => a.chReturn n)) [] (dieParks d) :=
  Frame.each _ _ _ _ (fun n hn a => (a.chReturn_frame n).mono (fun _ h => h) fun _ h => parkOfChannel_dieParks hn h) a

theorem State.chReturn_bit (a : State) (m n : Nat) : ((a.chReturn m).get (Fld.CH_PARK_SRC_REASON n)).testBit pkBoot =
    if n = m then true else (a.get (Fld.CH_PARK_SRC_REASON n)).testBit pkBoot := by
  rw [State.chReturn, (State.chStart_touches _ m).get rfl, State.chPark_bit _ _ _ _ _ _ (by decide)]
  simp

/-- BOOT sets on each channel of the die. -/
theorem State.dieReturns_bit (a : State) {d n : Nat} (hn : n ∈ dieChannels d) :
    ((a.each (dieChannels d) (fun n a => a.chReturn n)).get (Fld.CH_PARK_SRC_REASON n)).testBit pkBoot = true :=
  State.each_reaches (f := fun n a => a.chReturn n) (I := fun _ => True) (Q := fun a => (a.get (Fld.CH_PARK_SRC_REASON n)).testBit pkBoot = true) hn
    (fun a _ => by rw [State.chReturn_bit, if_pos rfl]) (fun _ _ _ _ => trivial) (fun m a h => by rw [State.chReturn_bit, h, ite_self]) trivial

/-- Channel `n` is OFF, enabled and powered: it may start. -/
def State.mayStart (s : State) (n : Nat) : Prop := s.get (Fld.CH_STATUS_STATE n) = 0 ∧ s.is (Fld.CH_CTRL_EN n) = true ∧ s.channelPower n = true

theorem State.channelPower_parked {a t : State} {m : Nat} (h : Frame a t [] (parkOfChannel m)) (n : Nat) : t.channelPower n = a.channelPower n := by
  refine State.channelPower_congr n fun k hk => h.get ?_
  simp only [parkOfChannel, Bool.or_eq_false_iff, beq_eq_false_iff_ne]
  refine ⟨⟨⟨?_, ?_⟩, ?_⟩, ?_⟩ <;> rintro rfl <;> contradiction

theorem State.chReturn_starts {a : State} {n : Nat} (h : a.mayStart n) : (a.chReturn n).get (Fld.CH_STATUS_STATE n) = 1 := by
  obtain ⟨h0, he, hp⟩ := h
  have hf := State.chPark_frame a n pkBoot true
  have hstate := (State.chPark_state_of_not_active (b := pkBoot) (on := true) (by simp [h0] : a.get (Fld.CH_STATUS_STATE n) ≠ 3)).trans h0
  rw [State.chReturn, State.chStart_powered _ _ hstate (by rwa [State.is, hf.get (by simp [parkOfChannel])]) ((State.channelPower_parked hf n).trans hp)]
  simp [State.get_set]

theorem State.mayStart_other {a : State} {m n : Nat} (hm : m ≠ n) (h : a.mayStart n) : (a.chReturn m).mayStart n := by
  obtain ⟨h0, he, hp⟩ := h
  have hf := a.chReturn_frame m
  refine ⟨(hf.get (by simp [parkOfChannel, hm.symm])).trans h0, ?_, (State.channelPower_parked hf n).trans hp⟩
  rwa [State.is, hf.get (by simp [parkOfChannel])]

theorem State.chReturn_powering {a : State} (m : Nat) {n : Nat} (h1 : a.get (Fld.CH_STATUS_STATE n) = 1) : (a.chReturn m).get (Fld.CH_STATUS_STATE n) = 1 := by
  by_cases hm : n = m
  · subst hm
    have hstate := (State.chPark_state_of_not_active (b := pkBoot) (on := true) (by simp [h1] : a.get (Fld.CH_STATUS_STATE n) ≠ 3)).trans h1
    rw [State.chReturn, State.chStart_stays _ _ (.inl (by simp [hstate])), hstate]
  · rw [(a.chReturn_frame m).get (by simp [parkOfChannel, hm]), h1]

/-- A channel of the die that may start powers up. -/
theorem State.dieReturns_state {a : State} {d n : Nat} (hn : n ∈ dieChannels d) (h : a.mayStart n) :
    (a.each (dieChannels d) (fun n a => a.chReturn n)).get (Fld.CH_STATUS_STATE n) = 1 :=
  State.each_reaches (f := fun n a => a.chReturn n) (I := fun a => a.mayStart n) (Q := fun a => a.get (Fld.CH_STATUS_STATE n) = 1) hn
    (fun _ h => State.chReturn_starts h) (fun _ _ hm h => State.mayStart_other hm h) (fun m _ h => State.chReturn_powering m h) h

theorem converterSupplyGood_does_return (hp : s.is (Lat.DIE_PG d) = false) : Does (.converterSupplyGood d) s [] (fun k => k == Fld.LDG_PERSIST 6 || dieParks d k)
    [(Lat.DIE_UV d, 0), (Lat.DIE_GOOD_AT d, s.tick % 2 ^ 64), (Lat.DIE_PG d, 1)]
    (fun t => ∀ j < 4, (t.get (Fld.CH_PARK_SRC_REASON (4 * d + j))).testBit pkBoot = true ∧
      (s.get (Fld.CH_STATUS_STATE (4 * d + j)) = 0 → s.is (Fld.CH_CTRL_EN (4 * d + j)) = true → s.unitsPowered = true → t.get (Fld.CH_STATUS_STATE (4 * d + j)) = 1)) := by
  set back := (s.railsGood d).set (Lat.DIE_PG d) 1 with hback
  have hb : Frame (s.sets [(Lat.DIE_UV d, 0), (Lat.DIE_GOOD_AT d, s.tick % 2 ^ 64), (Lat.DIE_PG d, 1)]) back [] (fun k => k == Fld.LDG_PERSIST 6) :=
    (s.railsGood_frame d).set_both _ _
  have hkept : ∀ {k : Key}, among [.IC_LDG, .L_DIE_UV, .L_DIE_GOOD_AT, .L_DIE_PG] k = false → back.get k = s.get k := fun {k} hk =>
    hb.get_of_sets (beq_eq_false_iff_ne.mpr fun e => by simp [e, among] at hk) (by
      simp only [named, List.any_cons, List.any_nil, Bool.or_false, Bool.or_eq_false_iff, beq_eq_false_iff_ne]
      refine ⟨?_, ?_, ?_⟩ <;> rintro rfl <;> contradiction)
  refine Does.of_sets (exec_converterSupplyGood_returns hp) (by simp) ?width ?frame (by simp [parkOfChannel]) fun j hj => ?channel
  case width => simpa using Nat.mod_lt _ (by decide)
  case frame => exact (hb.mono (fun _ h => h) fun k h => by simp [h]).trans ((back.dieReturns_frame d).mono (fun _ h => h) fun k h => by simp [h])
  case channel =>
    have hdie : (4 * (d : Nat) + j) / 4 = d := by omega
    have hn := mem_dieChannels.mpr hdie
    refine ⟨State.dieReturns_bit _ hn, fun h0 he hu => State.dieReturns_state hn ⟨(hkept rfl).trans h0, by rwa [State.is, hkept rfl], ?_⟩⟩
    have hpower : back.unitsPowered = true := (State.unitsPowered_congr fun k hk => hkept (among_apart rfl hk)).trans hu
    have hgood : back.is (Lat.DIE_PG d) = true := by simp [hback]
    rw [State.channelPower, hdie, hgood, hpower, Bool.and_self]

end

section
variable {s : State}

/-- The faults of channel `n`, one clause for each condition. -/
theorem channelFaults_clauses (n : Fin 32) (h6 : s.is (Fld.LDG_ACTIVE 6) = false) (hold : (s.get (Fld.CH_PARK_SRC_REASON n)).testBit pkFault = false) :
    let keys : Key → Bool := fun k => parkOfChannel n k || ledgerOf 23 k || archiveLoss k || k == Lat.CH_BAD n
    Does (.outShort n true) s [.arcBuf] keys [(Fld.CH_EVT_OUT_SHORT n, 1), (Fld.LDG_PERSIST 23, 1)] (faulty n 0 s) ∧
    Does (.stageHot n true) s [.arcBuf] keys [(Fld.CH_EVT_STAGE_HOT n, 1), (Fld.LDG_PERSIST 23, 1)] (faulty n 1 s) ∧
    (s.is (Fld.LDG_ACTIVE 0) = false → s.is (Fld.LDG_ACTIVE 1) = false → ∀ f : Nat, f < 24 ∨ 40 < f →
      Does (.feedFault n f) s [.arcBuf] keys [(Fld.CH_EVT_FEED_FAULT n, 1), (Fld.LDG_PERSIST 23, 1)] (faulty n 2 s)) :=
  ⟨Does.of_fault (by decide) rfl n.isLt (by decide) h6 (.inl (by decide)) hold, Does.of_fault (by decide) rfl n.isLt (by decide) h6 (.inl (by decide)) hold,
    fun h0 h1 _ hf => Does.of_fault (by decide) (exec_feedFault_outside hf) n.isLt (by decide) h6 (.inr ⟨h0, h1⟩) hold⟩

end

/-- Settles O23: a fault condition is noted, parks its channel and is raised; the supply of a die parks, turns off and starts its four channels. -/
theorem channelFaults : Obligations.ChannelFaults :=
  ⟨fun n _ h6 => ⟨fun hold _ => channelFaults_clauses n h6 hold, Does.of_fault_gone (by decide) rfl, Does.of_fault_gone (by decide) rfl,
      fun _ h24 h40 => Does.of_fault_gone (by decide) (exec_feedFault_inside h24 h40)⟩,
    fun _ _ => ⟨converterSupplyLoss_does_warn, converterSupplyLoss_does_off, converterSupplyGood_does_stay, converterSupplyGood_does_return⟩⟩

end Sys2Proof.Machine
end

section
/-!
PROOFS. Ranges and equaliser banks of a channel (O24): range requests, bank swaps and writes, what a boundary applies, and the gap of a range
request.
-/
namespace Sys2Proof.Machine

/-! ### Range requests (R231) -/

section
variable {s : State} {n : Fin 32}

/-- A request that finds its channel powered, outside a gap and without another one waits, or has nothing to change. -/
theorem State.rangeRequest_only {q : RangeReq} (hst : s.get (Fld.CH_STATUS_STATE q.ch) = 2 ∨ s.get (Fld.CH_STATUS_STATE q.ch) = 3)
    (hg : s.is (Fld.CH_STATUS_RNG_GAP q.ch) = false) (hr : s.ranges.all (fun r => r.ch != q.ch) = true) :
    s.rangeRequest q = if q.range = s.get (Fld.CH_RANGE_CUR q.ch) then s.set (Fld.CH_EVT_RNG_DONE q.ch) 1
      else ({ s with ranges := s.ranges ++ [q] } : State).sets [(Fld.CH_STATUS_RNG_PEND q.ch, 1), (Fld.CH_RANGE_PEND_VAL q.ch, q.range)] := by
  have hch : ∀ r ∈ s.ranges, r.ch ≠ q.ch := fun r h => bne_iff_ne.mp (List.all_eq_true.mp hr r h)
  have hmine : s.ranges.filter (fun r => r.ch == q.ch) = [] := List.filter_eq_nil_iff.mpr fun r h => by simpa using hch r h
  have hothers : s.ranges.filter (fun r => r.ch != q.ch) = s.ranges := List.filter_eq_self.mpr fun r h => bne_iff_ne.mpr (hch r h)
  have hpowered : ¬(s.get (Fld.CH_STATUS_STATE q.ch) = 0 ∨ s.get (Fld.CH_STATUS_STATE q.ch) = 1 ∨ s.get (Fld.CH_STATUS_STATE q.ch) = 4) := by omega
  simp [State.rangeRequest, hpowered, hg, hmine, hothers]

/-- The tick that CH_RNG_AT names. -/
abbrev State.rangeAt (s : State) (n : Nat) : Nat := s.get2 (Fld.CH_RNG_AT_LO n) (Fld.CH_RNG_AT_HI n)

/-- The request that CH_CMD.RNG_REQ makes. -/
abbrev State.hostRequest (s : State) (n : Nat) : RangeReq :=
  ⟨n, s.get (Fld.CH_RANGE_REQ n), if s.rangeAt n = 0 then none else some (s.rangeAt n), none, s.tick⟩

theorem exec_rngReq_refused (ho : s.hostOpen = true) (h0 : s.rangeAt n ≠ 0) (h : s.rangeAt n % 8 ≠ 0 ∨ s.rangeAt n < s.tick + 512) :
    exec (.rngReq n) s = .next (s.sets [(Fld.CH_EVT_RNG_REFUSED n, 1)]) := by
  change execRngReq n s = _
  rw [execRngReq, State.onHost_open _ _ ho]
  exact congrArg _ ((if_neg h0).trans (if_pos h))

theorem exec_rngReq (ho : s.hostOpen = true) (h : s.rangeAt n = 0 ∨ s.rangeAt n % 8 = 0 ∧ s.tick + 512 ≤ s.rangeAt n) :
    exec (.rngReq n) s = .next (s.rangeRequest (s.hostRequest n)) := by
  change execRngReq n s = _
  rw [execRngReq, State.onHost_open _ _ ho]
  rcases h with h0 | ⟨h8, h512⟩
  · have hreq : s.hostRequest n = ⟨n, s.get (Fld.CH_RANGE_REQ n), none, none, s.tick⟩ := by rw [State.hostRequest, if_pos h0]
    rw [hreq]
    exact congrArg _ (if_pos h0)
  · have h0 : s.rangeAt n ≠ 0 := by omega
    have hgood : ¬(s.rangeAt n % 8 ≠ 0 ∨ s.rangeAt n < s.tick + 512) := by omega
    have hreq : s.hostRequest n = ⟨n, s.get (Fld.CH_RANGE_REQ n), some (s.rangeAt n), none, s.tick⟩ := by rw [State.hostRequest, if_neg h0]
    rw [hreq]
    exact congrArg _ ((if_neg h0).trans (if_neg hgood))

section
variable (ho : s.hostOpen = true) (hst : s.get (Fld.CH_STATUS_STATE n) = 2 ∨ s.get (Fld.CH_STATUS_STATE n) = 3)
  (hg : s.is (Fld.CH_STATUS_RNG_GAP n) = false) (hr : s.ranges.all (fun q => q.ch != (n : Nat)) = true)
  (hat : s.rangeAt n = 0 ∨ s.rangeAt n % 8 = 0 ∧ s.tick + 512 ≤ s.rangeAt n)
include ho hst hg hr hat

theorem rngReq_does_wait (hne : s.get (Fld.CH_RANGE_REQ n) ≠ s.get (Fld.CH_RANGE_CUR n)) : Does (.rngReq n) s [.ranges] (fun _ => false)
    [(Fld.CH_STATUS_RNG_PEND n, 1), (Fld.CH_RANGE_PEND_VAL n, s.get (Fld.CH_RANGE_REQ n))] (fun t => t.ranges = s.ranges ++ [s.hostRequest n]) := by
  refine Does.of_sets (by rw [exec_rngReq ho hat, State.rangeRequest_only hst hg hr, if_neg hne]) (by simp) ?width
    ((Frame.on_ranges rfl (Frame.refl _ _ _)).sets_both _) (by simp) rfl
  case width => simpa using s.get_lt (Fld.CH_RANGE_REQ n)

theorem rngReq_gives_done (heq : s.get (Fld.CH_RANGE_REQ n) = s.get (Fld.CH_RANGE_CUR n)) : Gives (.rngReq n) s [(Fld.CH_EVT_RNG_DONE n, 1)] :=
  Gives.of_sets (by rw [exec_rngReq ho hat, State.rangeRequest_only hst hg hr, if_pos heq]; rfl) (by simp) (by simp)

end

/-! ### Equaliser banks (R228) -/

theorem exec_eqSwap (ho : s.hostOpen = true) (hp : s.is (Fld.CH_EQ_CFG_SWAP_PEND n) = false) :
    exec (.eqSwap n) s = .next (s.sets [(Fld.CH_EQ_CFG_SWAP_PEND n, 1), (Lat.EQ_REQ_AT n, s.tick % 2 ^ 64)]) := by
  have hmod := State.set_mod (s.set (Fld.CH_EQ_CFG_SWAP_PEND n) 1) (Lat.EQ_REQ_AT n) s.tick
  change execEqSwap n s = _
  rw [execEqSwap, State.onHost_open _ _ ho, if_neg (by simp [hp])]
  exact congrArg _ hmod.symm

theorem exec_eqSwap_keeps (ho : s.hostOpen = true) (hp : s.is (Fld.CH_EQ_CFG_SWAP_PEND n) = true) : exec (.eqSwap n) s = .next s := by
  change execEqSwap n s = _
  rw [execEqSwap, State.onHost_open _ _ ho, if_pos hp]

theorem eqSwap_gives (ho : s.hostOpen = true) (hp : s.is (Fld.CH_EQ_CFG_SWAP_PEND n) = false) :
    Gives (.eqSwap n) s [(Fld.CH_EQ_CFG_SWAP_PEND n, 1), (Lat.EQ_REQ_AT n, s.tick % 2 ^ 64)] :=
  Gives.of_sets (exec_eqSwap ho hp) (by simp) (by simpa using Nat.mod_lt _ (by decide))

theorem chEqCoefWrite_gives_tap {b : Fin 2} {i : Fin 64} {v : Nat} (ho : s.hostOpen = true) (hb : s.get (Fld.CH_EQ_CFG_ACTIVE n) ≠ b) :
    Gives (.chEqCoefWrite n b i v) s [(Fld.CH_EQ_COEF_H n (64 * b + i), v % 2 ^ 20)] := by
  refine Gives.of_sets ?_ (by simp) (by simpa using Nat.mod_lt _ (by decide))
  change execChEqCoefWrite n b i v s = _
  rw [execChEqCoefWrite, State.onHost_open _ _ ho, if_neg (Ne.symm hb)]
  exact congrArg _ (State.set_mod s (Fld.CH_EQ_COEF_H n (64 * b + i)) v).symm

theorem chEqCoefWrite_gives_dropped {b : Fin 2} {i : Fin 64} {v : Nat} (ho : s.hostOpen = true) (hb : s.get (Fld.CH_EQ_CFG_ACTIVE n) = b) :
    Gives (.chEqCoefWrite n b i v) s [(Fld.CH_EVT_EQ_WR_ACTIVE n, 1)] := by
  refine Gives.of_sets ?_ (by simp) (by simp)
  change execChEqCoefWrite n b i v s = _
  rw [execChEqCoefWrite, State.onHost_open _ _ ho, if_pos hb.symm]
  rfl

/-! ### Boundaries (R228, R229) -/

/-- A change of what outputs are computed with leaves beside itself only the older outputs' values in the delay line. -/
theorem State.switchSet_frame (s : State) (m : Nat) (f : State → State) : Frame (f s) (s.switchSet m f) [.lines] (fun _ => false) :=
  Frame.choose (fun _ => Frame.refl _ _ _) fun _ => Frame.on_lines rfl (Frame.refl _ _ _)

/-- A change that changes nothing leaves the delay line alone too. -/
theorem State.switchSet_of_same {m : Nat} {f : State → State} (h : f s = s) : s.switchSet m f = s := by simp [State.switchSet, h]

theorem State.calBoundary_none (hc : s.calPends = []) (m : Nat) : s.calBoundary m = s := by simp [State.calBoundary, hc]

/-- With its source in force, the equaliser changes at a boundary by a swap alone. -/
theorem State.eqBoundary_same_source (hs : s.get (Fld.CH_EQ_CFG_SRC n) = s.get (Lat.EQ_SRC_CUR n)) : s.eqBoundary n = if s.is (Fld.CH_EQ_CFG_SWAP_PEND n) && s.boundary n (s.get (Lat.EQ_REQ_AT n)) then
    s.sets [(Fld.CH_EQ_CFG_ACTIVE n, 1 - s.get (Fld.CH_EQ_CFG_ACTIVE n)), (Fld.CH_EQ_CFG_SWAP_PEND n, 0), (Fld.CH_EVT_EQ_SWAPPED n, 1)] else s := by
  simp [State.eqBoundary, hs]

/-- Without range requests a boundary applies what the set and the equaliser have pending. -/
theorem exec_channelBoundary_noRange (hr : s.ranges = []) : exec (.channelBoundary n) s = .next (s.switchSet n (fun a => (a.calBoundary n).eqBoundary n)) := by
  have hq : (s.switchSet n (fun a => (a.calBoundary n).eqBoundary n)).ranges = [] := by
    have h1 := (s.switchSet_frame n (fun a => (a.calBoundary n).eqBoundary n)).1 .ranges (by simp)
    have h2 := ((s.calBoundary n).eqBoundary_touches n).1 .ranges (by simp)
    have h3 := (s.calBoundary_touches n).1 .ranges (by simp)
    exact h1.trans (h2.trans (h3.trans hr))
  change execChannelBoundary n s = _
  rw [execChannelBoundary, hq]
  rfl

section
variable (hc : s.calPends = []) (hs : s.get (Fld.CH_EQ_CFG_SRC n) = s.get (Lat.EQ_SRC_CUR n)) (hr : s.ranges = [])
include hc hs hr

theorem channelBoundary_does_swap (hp : s.is (Fld.CH_EQ_CFG_SWAP_PEND n) = true) (hb : s.boundary n (s.get (Lat.EQ_REQ_AT n)) = true) :
    Does (.channelBoundary n) s [.lines] (fun _ => false)
      [(Fld.CH_EQ_CFG_ACTIVE n, 1 - s.get (Fld.CH_EQ_CFG_ACTIVE n)), (Fld.CH_EQ_CFG_SWAP_PEND n, 0), (Fld.CH_EVT_EQ_SWAPPED n, 1)] (fun _ => True) := by
  have hf := s.switchSet_frame n (fun a => (a.calBoundary n).eqBoundary n)
  rw [State.calBoundary_none hc, State.eqBoundary_same_source hs, hp, hb, Bool.and_self, if_pos rfl] at hf
  refine Does.of_sets (exec_channelBoundary_noRange hr) (by simp) ?width hf (by simp) trivial
  case width => simp

theorem exec_channelBoundary_keeps (hp : s.is (Fld.CH_EQ_CFG_SWAP_PEND n) = false) : exec (.channelBoundary n) s = .next s := by
  have hsame : (s.calBoundary n).eqBoundary n = s := by
    rw [State.calBoundary_none hc, State.eqBoundary_same_source hs, hp, Bool.false_and, if_neg Bool.false_ne_true]
  rw [exec_channelBoundary_noRange hr, State.switchSet_of_same hsame]

end

/-! ### The start of a gap (R232, R233) -/

theorem exec_rangeGapStart_keeps (hg : s.is (Fld.CH_STATUS_RNG_GAP n) = true) : exec (.rangeGapStart n) s = .next s := by
  change execRangeGapStart n s = _
  rw [execRangeGapStart, if_pos hg]

/-- The only request of a powered channel leaves the list and starts its gap at the tick it names. -/
theorem exec_rangeGapStart {q : RangeReq} {a : Nat} (hg : s.is (Fld.CH_STATUS_RNG_GAP n) = false)
    (hst : s.get (Fld.CH_STATUS_STATE n) = 2 ∨ s.get (Fld.CH_STATUS_STATE n) = 3) (hq : s.ranges = [q]) (hch : q.ch = n) (ha : q.at_ = some a) (ht : a ≤ s.tick) :
    exec (.rangeGapStart n) s = .next (({ s with ranges := [] } : State).sets
      [(Fld.CH_STATUS_RNG_GAP n, 1), (Lat.RNG_AT n, a % 2 ^ 64), (Lat.RNG_NEW n, q.range % 4), (Fld.CH_STATUS_RNG_PEND n, 0)]) := by
  have hAt : ∀ u : State, u.set (Lat.RNG_AT n) (a % 2 ^ 64) = u.set (Lat.RNG_AT n) a := fun u => State.set_mod u (Lat.RNG_AT n) a
  have hNew : ∀ u : State, u.set (Lat.RNG_NEW n) (q.range % 4) = u.set (Lat.RNG_NEW n) q.range := fun u => State.set_mod u (Lat.RNG_NEW n) q.range
  change execRangeGapStart n s = _
  simp [execRangeGapStart, State.now, State.gapStart, State.rangeStatus, removeFirst, hg, hst, hq, hch, ha, ht, hAt, hNew, -Nat.reducePow]

theorem rangeGapStart_does {q : RangeReq} {a : Nat} (hg : s.is (Fld.CH_STATUS_RNG_GAP n) = false)
    (hst : s.get (Fld.CH_STATUS_STATE n) = 2 ∨ s.get (Fld.CH_STATUS_STATE n) = 3) (hq : q ∈ s.ranges.head?) (h1 : s.ranges.length = 1) (hch : q.ch = n)
    (ha : q.at_ = some a) (ht : a ≤ s.tick) : Does (.rangeGapStart n) s [.ranges] (fun _ => false)
      [(Fld.CH_STATUS_RNG_GAP n, 1), (Lat.RNG_AT n, a % 2 ^ 64), (Lat.RNG_NEW n, q.range % 4), (Fld.CH_STATUS_RNG_PEND n, 0)] (fun t => t.ranges = []) := by
  obtain ⟨r, hr⟩ := List.length_eq_one_iff.mp h1
  obtain rfl : r = q := by simpa [hr] using hq
  refine Does.of_sets (exec_rangeGapStart hg hst hr hch ha ht) (by simp) ?width ((Frame.on_ranges rfl (Frame.refl _ _ _)).sets_both _) (by simp) rfl
  case width => simpa using ⟨Nat.mod_lt _ (by decide), Nat.mod_lt _ (by decide)⟩

end

/-! ### Sets in force (R224, R226, R376) -/

section
variable (s : State) (n : Nat)

/-- The fields that a correction set applied to channel `n` changes. -/
abbrev setKeys (n : Nat) (k : Key) : Bool :=
  archiveLoss k || k == Fld.CAL_EVT_SET_APPLIED ||
    amongAt [.CAL_CH_STATUS, .CAL_LOAD, .CAL_PEND_TAG, .CAL_RESID, .CH_CAL_GAIN, .CH_CAL_OFS, .CH_CAL_SKEW, .CH_CAL_TAG, .CH_INL, .L_CAL_SEQ] n k

theorem State.loadSet_frame (c : CalInst) : Frame s (s.loadSet n c) [.calSets, .calPends, .arcBuf] (setKeys n) := by
  refine Frame.steps (fun i a => Frame.put ?_ (Frame.refl _ _ _)) (Frame.put ?_ (Frame.put ?_ (Frame.putSeti ?_ (Frame.putSeti ?_ (Frame.set _ _ _ ?_))))) <;>
    simp [amongAt]

theorem State.pendStatus_frame : Frame s (s.pendStatus n) [.calSets, .calPends, .arcBuf] (setKeys n) :=
  Frame.sets _ _ (by simp [amongAt])

theorem State.applySet_frame (range : Nat) : Frame s (s.applySet n range) [.calSets, .calPends, .arcBuf] (setKeys n) := by
  unfold State.applySet
  split
  · exact Frame.refl _ _ _
  · refine Frame.trans ?_ (State.pendStatus_frame _ n)
    refine Frame.trans ?_ ((State.archive_frame ..).mono (by simp) fun k h => by simp [h])
    refine Frame.puts (by simp [amongAt]) (Frame.trans ?_ (State.loadSet_frame _ n _))
    exact Frame.put (by simp [amongAt]) (Frame.on_calSets_calPends rfl rfl (Frame.refl _ _ _))

/-- A range that comes into force reads so, and its set with it. -/
theorem State.enterRange_frame (range : Nat) : Frame (s.set (Fld.CH_RANGE_CUR n) range) (s.enterRange n range) [.lines, .calSets, .calPends, .arcBuf] (setKeys n) := by
  have hset := ((s.set (Fld.CH_RANGE_CUR n) range).loadSet_frame n ((s.set (Fld.CH_RANGE_CUR n) range).setOf n range)).trans (State.applySet_frame _ n range)
  exact (hset.mono (by simp) fun _ h => h).trans ((State.switchSet_frame ..).mono (by simp) (by simp))

theorem State.eqBoundary_frame : Frame s (s.eqBoundary n) [] (fun k => amongAt [.CH_EQ_CFG, .L_EQ_SRC_CUR] n k || k == Fld.CH_EVT_EQ_SWAPPED n) := by
  have hsource : Frame s (if s.get (Fld.CH_EQ_CFG_SRC n) ≠ s.get (Lat.EQ_SRC_CUR n) ∧ s.boundary n (s.get (Lat.EQ_SRC_AT n)) then
      (s.set (Lat.EQ_SRC_CUR n) (s.get (Fld.CH_EQ_CFG_SRC n))).flag (Fld.CH_EVT_EQ_SWAPPED n) else s) []
      (fun k => amongAt [.CH_EQ_CFG, .L_EQ_SRC_CUR] n k || k == Fld.CH_EVT_EQ_SWAPPED n) :=
    Frame.choose (fun _ => Frame.putFlag (by simp) (Frame.set _ _ _ (by simp [amongAt]))) fun _ => Frame.refl _ _ _
  exact Frame.choose (fun _ => Frame.puts (by simp [amongAt]) hsource) fun _ => hsource

theorem State.rangeStatus_frame : Frame s (s.rangeStatus n) [] (fun k => k == Fld.CH_STATUS_RNG_PEND n || k == Fld.CH_RANGE_PEND_VAL n) := by
  unfold State.rangeStatus
  split
  · exact Frame.sets _ _ (by simp)
  · exact Frame.set _ _ _ (by simp)

end

/-! ### The end of a gap (R232, R451) -/

section
variable {s : State} {n : Fin 32}

theorem exec_rangeGapEnd (hg : s.is (Fld.CH_STATUS_RNG_GAP n) = true) (ht : s.get (Lat.RNG_AT n) + 256 ≤ s.tick) : exec (.rangeGapEnd n) s =
    .next (((((s.set (Fld.CH_STATUS_RNG_GAP n) 0).enterRange n (s.get (Lat.RNG_NEW n))).set (Fld.CH_EVT_RNG_DONE n) 1).switchSet n (fun a => a.eqBoundary n)).rangeStatus n) := by
  change execRangeGapEnd n s = _
  rw [execRangeGapEnd, if_pos (by simp [State.now, hg, ht])]
  rfl

theorem exec_rangeGapEnd_keeps (ht : s.tick < s.get (Lat.RNG_AT n) + 256) : exec (.rangeGapEnd n) s = .next s := by
  change execRangeGapEnd n s = _
  rw [execRangeGapEnd, if_neg (by simp [State.now, not_le.mpr ht])]

/-- The fields that the end of a gap can change beside the range and what reports it. -/
abbrev gapEndKeys (n : Nat) (k : Key) : Bool :=
  setKeys n k || amongAt [.CH_EQ_CFG, .L_EQ_SRC_CUR] n k || k == Fld.CH_EVT_EQ_SWAPPED n || k == Fld.CH_STATUS_RNG_PEND n || k == Fld.CH_RANGE_PEND_VAL n

/-- What follows the range at the end of a gap: an equaliser change that is due, and what shows the requests. -/
theorem State.gapFollows_frame (s : State) (n : Nat) :
    Frame s ((s.switchSet n (fun a => a.eqBoundary n)).rangeStatus n) [.lines, .calSets, .calPends, .arcBuf] (gapEndKeys n) := by
  have heq := s.eqBoundary_frame n
  have hswitch := s.switchSet_frame n (fun a => a.eqBoundary n)
  have hstatus := (s.switchSet n (fun a => a.eqBoundary n)).rangeStatus_frame n
  refine ((heq.mono (by simp) fun k hk => ?_).trans (hswitch.mono (by simp) (by simp))).trans (hstatus.mono (by simp) fun k hk => ?_)
  · rcases Bool.or_eq_true_iff.mp hk with hk | hk <;> simp [hk]
  · rcases Bool.or_eq_true_iff.mp hk with hk | hk <;> simp [hk]

theorem rangeGapEnd_does (hg : s.is (Fld.CH_STATUS_RNG_GAP n) = true) (ht : s.get (Lat.RNG_AT n) + 256 ≤ s.tick) :
    Does (.rangeGapEnd n) s [.lines, .calSets, .calPends, .arcBuf] (gapEndKeys n)
      [(Fld.CH_STATUS_RNG_GAP n, 0), (Fld.CH_RANGE_CUR n, s.get (Lat.RNG_NEW n)), (Fld.CH_EVT_RNG_DONE n, 1)] (fun _ => True) := by
  refine Does.of_sets (exec_rangeGapEnd hg ht) (by simp) ?width (Frame.trans ?range (State.gapFollows_frame _ n)) ?apart trivial
  case width => simpa using s.get_lt (Lat.RNG_NEW n)
  case range =>
    exact (((s.set (Fld.CH_STATUS_RNG_GAP n) 0).enterRange_frame n (s.get (Lat.RNG_NEW n))).set_both _ _).mono (fun _ h => h) fun k h => by simp [h]
  case apart => simp [archiveLoss, amongAt]

theorem amongAt_sub {l rs : List RName} {i : Nat} {k : Key} (h : l.all rs.contains = true) (hx : amongAt l i k = true) : amongAt rs i k = true := by
  obtain ⟨hr, hi⟩ := Bool.and_eq_true_iff.mp hx
  exact Bool.and_eq_true_iff.mpr ⟨among_sub h k hr, hi⟩

/-- Those fields by register. -/
theorem gapEndKeys_registers (n : Nat) (k : Key) (h : gapEndKeys n k = true) :
    (archiveLoss k || k == Fld.CAL_EVT_SET_APPLIED || amongAt [.CAL_CH_STATUS, .CAL_LOAD, .CAL_PEND_TAG, .CAL_RESID, .CH_CAL_GAIN, .CH_CAL_OFS, .CH_CAL_SKEW,
      .CH_CAL_TAG, .CH_EQ_CFG, .CH_INL, .CH_RANGE, .L_CAL_SEQ, .L_EQ_SRC_CUR] n k || k == Fld.CH_EVT_EQ_SWAPPED n || k == Fld.CH_STATUS_RNG_PEND n) = true := by
  simp only [gapEndKeys, setKeys, Bool.or_eq_true] at h ⊢
  rcases h with (((((h | h) | h) | h) | h) | h) | h
  · simp [h]
  · simp [h]
  · exact .inl (.inl (.inr (amongAt_sub rfl h)))
  · exact .inl (.inl (.inr (amongAt_sub rfl h)))
  · simp [h]
  · simp [h]
  · simp [beq_iff_eq.mp h, amongAt]

end

/-- Settles O24: requests, swaps and bank writes are runs of writes in the case their clause names; a boundary and the end of a gap change what the
outputs are computed with. -/
theorem channelRangesAndBanks : Obligations.ChannelRangesAndBanks :=
  ⟨fun _ _ ho => ⟨fun h0 h => Gives.of_sets (exec_rngReq_refused ho h0 h) (by simp) (by simp),
      fun hst hg hr hat => ⟨rngReq_does_wait ho hst hg hr hat, rngReq_gives_done ho hst hg hr hat⟩, eqSwap_gives ho, exec_eqSwap_keeps ho,
      fun _ _ _ => ⟨chEqCoefWrite_gives_tap ho, chEqCoefWrite_gives_dropped ho⟩⟩,
    fun _ _ hc hs hr => ⟨channelBoundary_does_swap hc hs hr, exec_channelBoundary_keeps hc hs hr⟩,
    fun _ _ => ⟨exec_rangeGapStart_keeps, fun hg hst _ hq h1 hch _ ha ht => rangeGapStart_does hg hst hq h1 hch ha ht,
      fun hg ht => (rangeGapEnd_does hg ht).mono (gapEndKeys_registers _), exec_rangeGapEnd_keeps⟩⟩

end Sys2Proof.Machine
end

section
/-!
PROOFS. States of a pattern port (O25): its enable, disable, start and stop, its release at a word boundary, and what UNPARK clears.
-/
namespace Sys2Proof.Machine

/-! ### Enable, disable, stop (R242, R263, R449) -/

section
variable {s : State} {p : Fin 48}

/-- A port starts from OFF alone, enabled, used and powered. -/
theorem State.portStart_powered (h0 : s.get (Fld.PP_STATUS_STATE p) = 0) (he : s.is (Fld.PP_CTRL_EN p) = true) (hu : s.is (Fld.PP_CFG_USED p) = true)
    (hp : s.unitsPowered = true) : s.portStart p = s.set (Fld.PP_STATUS_STATE p) 1 := if_pos ⟨h0, he, hu, hp⟩

theorem State.portStart_stays (h : s.get (Fld.PP_STATUS_STATE p) ≠ 0 ∨ s.is (Fld.PP_CTRL_EN p) = false ∨ s.is (Fld.PP_CFG_USED p) = false ∨ s.unitsPowered = false) :
    s.portStart p = s := by
  refine if_neg fun ⟨h0, he, hu, hp⟩ => ?_
  simp [h0, he, hu, hp] at h

theorem exec_portEnable (ho : s.hostOpen = true) (h4 : s.get (Fld.PP_STATUS_STATE p) ≠ 4) :
    exec (.portEnable p) s = .next ((s.set (Fld.PP_CTRL_EN p) 1).portStart p) := by
  change execPortEnable p s = _
  rw [execPortEnable, State.onHost_open _ _ ho, if_neg h4, State.flag_eq]

theorem exec_portEnable_stopping (ho : s.hostOpen = true) (h4 : s.get (Fld.PP_STATUS_STATE p) = 4) :
    exec (.portEnable p) s = .next (s.sets [(Fld.PP_CTRL_EN p, 1), (Fld.PP_STATUS_RESTART_PENDING p, 1), (Fld.PP_EVT_RESTART_QUEUED p, 1)]) := by
  change execPortEnable p s = _
  rw [execPortEnable, State.onHost_open _ _ ho, if_pos h4, State.flag_eq, ← State.sets_cons]

theorem exec_portDisable (ho : s.hostOpen = true) :
    exec (.portDisable p) s = .next ((s.sets [(Fld.PP_CTRL_EN p, 0), (Fld.PP_STATUS_RESTART_PENDING p, 0)]).portStop p) := by
  change execPortDisable p s = _
  rw [execPortDisable, State.onHost_open _ _ ho]
  rfl

theorem exec_portStopDone (h4 : s.get (Fld.PP_STATUS_STATE p) = 4) : exec (.portStopDone p) s = .next (
    let off := s.sets [(Fld.PP_STATUS_STATE p, 0), (Fld.PP_STATUS_RESTART_PENDING p, 0)]
    if s.is (Fld.PP_STATUS_RESTART_PENDING p) then off.portStart p else off) := by
  change execPortStopDone p s = _
  rw [execPortStopDone, if_pos h4]

theorem exec_portStopDone_keeps (h4 : s.get (Fld.PP_STATUS_STATE p) ≠ 4) : exec (.portStopDone p) s = .next s := by
  change execPortStopDone p s = _
  rw [execPortStopDone, if_neg h4]

theorem portEnable_gives_starting (ho : s.hostOpen = true) (h0 : s.get (Fld.PP_STATUS_STATE p) = 0) (hu : s.is (Fld.PP_CFG_USED p) = true) (hp : s.unitsPowered = true) :
    Gives (.portEnable p) s [(Fld.PP_CTRL_EN p, 1), (Fld.PP_STATUS_STATE p, 1)] := by
  refine Gives.of_sets ?_ (by simp) (by simp)
  rw [exec_portEnable ho (by simp [h0]), State.portStart_powered (by simp [State.get_set, h0]) (by simp) (by simp [hu]) (by simp [among, hp])]
  rfl

theorem portEnable_gives_enabled (ho : s.hostOpen = true) (h4 : s.get (Fld.PP_STATUS_STATE p) ≠ 4)
    (h : s.get (Fld.PP_STATUS_STATE p) ≠ 0 ∨ s.is (Fld.PP_CFG_USED p) = false ∨ s.unitsPowered = false) : Gives (.portEnable p) s [(Fld.PP_CTRL_EN p, 1)] := by
  refine Gives.of_sets ?_ (by simp) (by simp)
  rw [exec_portEnable ho h4, State.portStart_stays (by simpa [State.get_set, among] using h)]
  rfl

theorem portDisable_gives_stopping (ho : s.hostOpen = true) (h : 1 ≤ s.get (Fld.PP_STATUS_STATE p) ∧ s.get (Fld.PP_STATUS_STATE p) ≤ 3) :
    Gives (.portDisable p) s [(Fld.PP_CTRL_EN p, 0), (Fld.PP_STATUS_RESTART_PENDING p, 0), (Fld.PP_STATUS_STATE p, 4)] := by
  refine Gives.of_sets ?_ (by simp) (by simp)
  rw [exec_portDisable ho, State.portStop, if_pos (by simpa [State.get_set] using h)]
  rfl

theorem portDisable_gives_disabled (ho : s.hostOpen = true) (h : s.get (Fld.PP_STATUS_STATE p) = 0 ∨ s.get (Fld.PP_STATUS_STATE p) = 4) :
    Gives (.portDisable p) s [(Fld.PP_CTRL_EN p, 0), (Fld.PP_STATUS_RESTART_PENDING p, 0)] := by
  have hstays : ¬(1 ≤ s.get (Fld.PP_STATUS_STATE p) ∧ s.get (Fld.PP_STATUS_STATE p) ≤ 3) := by omega
  refine Gives.of_sets ?_ (by simp) (by simp)
  rw [exec_portDisable ho, State.portStop, if_neg (by simpa [State.get_set] using hstays)]

/-- The restart that a stop leads to: it waits, and the port may start. -/
abbrev State.portAgain (s : State) (p : Nat) : Bool :=
  s.is (Fld.PP_STATUS_RESTART_PENDING p) && s.is (Fld.PP_CTRL_EN p) && s.is (Fld.PP_CFG_USED p) && s.unitsPowered

theorem portStopDone_gives (h4 : s.get (Fld.PP_STATUS_STATE p) = 4) :
    Gives (.portStopDone p) s [(Fld.PP_STATUS_STATE p, if s.portAgain p then 1 else 0), (Fld.PP_STATUS_RESTART_PENDING p, 0)] := by
  have he := exec_portStopDone h4
  cases hagain : s.portAgain p
  · have hoff : exec (.portStopDone p) s = .next (s.sets [(Fld.PP_STATUS_STATE p, 0), (Fld.PP_STATUS_RESTART_PENDING p, 0)]) := by
      rw [he]
      split
      case isTrue hr =>
        have hnot : s.is (Fld.PP_CTRL_EN p) = false ∨ s.is (Fld.PP_CFG_USED p) = false ∨ s.unitsPowered = false := by
          simpa only [State.portAgain, hr, Bool.true_and, Bool.and_eq_false_iff, or_assoc] using hagain
        rw [State.portStart_stays (.inr (by simpa [among] using hnot))]
      case isFalse => rfl
    exact Gives.of_sets hoff (by simp) (by simp)
  · simp only [State.portAgain, Bool.and_eq_true] at hagain
    obtain ⟨⟨⟨hr, hen⟩, hu⟩, hp⟩ := hagain
    refine Does.of_writes (w := [(Fld.PP_STATUS_STATE p, 0), (Fld.PP_STATUS_RESTART_PENDING p, 0), (Fld.PP_STATUS_STATE p, 1)]) ?_ (by simp [named])
      (by simp [State.get_set]) trivial
    rw [he, if_pos hr, State.portStart_powered (by simp [State.get_set]) (by simp [hen]) (by simp [hu]) (by simp [among, hp])]
    rfl

/-! ### The end of a start (R246, R260, R263) -/

/-- A started port is PARKED when it transmits or a reason holds it, else ACTIVE. -/
abbrev State.portStarted (s : State) (p : Nat) : State := s.set (Fld.PP_STATUS_STATE p) (if s.portTx p || s.ppReasons p != 0 then 2 else 3)

theorem exec_portStartDone (h1 : s.get (Fld.PP_STATUS_STATE p) = 1) : exec (.portStartDone p) s = .next (
    (s.portStarted p).each (((s.portStarted p).lanes p).filter (fun q => s.pers p == 2 && (s.portStarted p).lane0 q)) (fun q a => a.jesdTxStart q)) := by
  change execPortStartDone p s = _
  rw [execPortStartDone, if_pos h1]

theorem exec_portStartDone_keeps (h1 : s.get (Fld.PP_STATUS_STATE p) ≠ 1) : exec (.portStartDone p) s = .next s := by
  change execPortStartDone p s = _
  rw [execPortStartDone, if_neg h1]

/-- No port but a JESD204C transmitter has a link that waits for its lanes. -/
theorem exec_portStartDone_noLink (h1 : s.get (Fld.PP_STATUS_STATE p) = 1) (h2 : s.pers p ≠ 2) : exec (.portStartDone p) s = .next (s.portStarted p) := by
  have hnone : (s.pers p == 2) = false := beq_eq_false_iff_ne.mpr h2
  simp only [exec_portStartDone h1, hnone, Bool.false_and, List.filter_false, State.each_nil]

theorem State.portTx_eq (s : State) (p : Nat) : s.portTx p = (s.pers p == 0 || s.pers p == 2) := rfl

theorem portStartDone_gives_parked (h1 : s.get (Fld.PP_STATUS_STATE p) = 1) (h : s.pers p = 0 ∨ s.ppReasons p ≠ 0 ∧ s.pers p ≠ 2) :
    Gives (.portStartDone p) s [(Fld.PP_STATUS_STATE p, 2)] := by
  have h2 : s.pers p ≠ 2 := by omega
  have hheld : (s.portTx p || s.ppReasons p != 0) = true := by
    rcases h with h | ⟨h, _⟩ <;> simp [State.portTx_eq, h]
  exact Gives.of_sets (by rw [exec_portStartDone_noLink h1 h2, State.portStarted, hheld]; rfl) (by simp) (by simp)

theorem portStartDone_gives_active (h1 : s.get (Fld.PP_STATUS_STATE p) = 1) (h : s.pers p = 1 ∨ s.pers p = 3) (hr : s.ppReasons p = 0) :
    Gives (.portStartDone p) s [(Fld.PP_STATUS_STATE p, 3)] := by
  have h2 : s.pers p ≠ 2 := by omega
  have hfree : (s.portTx p || s.ppReasons p != 0) = false := by
    rcases h with h | h <;> simp [State.portTx_eq, h, hr]
  exact Gives.of_sets (by rw [exec_portStartDone_noLink h1 h2, State.portStarted, hfree]; rfl) (by simp) (by simp)

/-- The start of a link shows in its state and in the report of a wrong SYSREF. -/
theorem State.jesdTxStart_frame (s : State) (q : Nat) : Frame s (s.jesdTxStart q) [] (fun k => k == Fld.PP_JSTAT_STATE k.i || k == Fld.PP_EVT_JCFG_ERR k.i) := by
  have hwait := Frame.set s (Fld.PP_JSTAT_STATE q) 1 (ps := []) (p := fun k => k == Fld.PP_JSTAT_STATE k.i || k == Fld.PP_EVT_JCFG_ERR k.i) (by simp)
  exact Frame.choose (fun _ => Frame.choose (fun _ => hwait) fun _ => Frame.putFlag (by simp) hwait) fun _ => Frame.refl _ _ _

theorem portStartDone_does_link (h1 : s.get (Fld.PP_STATUS_STATE p) = 1) (h2 : s.pers p = 2) : Does (.portStartDone p) s []
    (fun k => k == Fld.PP_JSTAT_STATE k.i || k == Fld.PP_EVT_JCFG_ERR k.i) [(Fld.PP_STATUS_STATE p, 2)] (fun _ => True) := by
  have hparked : s.portStarted p = s.sets [(Fld.PP_STATUS_STATE p, 2)] := by
    rw [State.portStarted, if_pos (by simp [State.portTx_eq, h2])]
    rfl
  have he := exec_portStartDone h1
  rw [hparked] at he
  exact Does.of_sets he (by simp) (by simp) (Frame.each _ _ _ _ (fun q _ a => a.jesdTxStart_frame q) _) (by simp) trivial

/-! ### The release (R237, R246) -/

theorem exec_portRelease_early (hw : s.tick % 8 ≠ 0) : exec (.portRelease p) s = .next s := by
  change execPortRelease p s = _
  exact congrArg _ (if_pos hw)

/-- The state in which BOOT has cleared if its condition is over. -/
abbrev State.portBooted (s : State) (p : Nat) : State := s.when (s.bootOver (tileOfPort p)) (fun a => a.ppPark p pkBoot false)

theorem exec_portRelease (hw : s.tick % 8 = 0) : exec (.portRelease p) s = .next (
    if (s.portBooted p).get (Fld.PP_STATUS_STATE p) = 2 ∧ (s.portBooted p).ppReasons p = 0 then (s.portBooted p).set (Fld.PP_STATUS_STATE p) 3 else s.portBooted p) := by
  change execPortRelease p s = _
  exact congrArg _ (if_neg (not_not.mpr hw))

/-- Without the BOOT reason nothing clears. -/
theorem State.portBooted_same (h : s.bootOver (tileOfPort p) = false ∨ (s.get (Fld.PP_PARK_SRC_REASON p)).testBit pkBoot = false) : s.portBooted p = s := by
  rcases h with h | h
  · rw [State.portBooted, h, State.when_false]
  · have hsame : s.ppPark p pkBoot false = s := by simp [State.ppPark, h]
    exact State.when_keeps id _ _ _ hsame

theorem portRelease_gives_active (hw : s.tick % 8 = 0) (h2 : s.get (Fld.PP_STATUS_STATE p) = 2) (hr : s.ppReasons p = 0)
    (hb : (s.get (Fld.PP_PARK_SRC_REASON p)).testBit pkBoot = false) : Gives (.portRelease p) s [(Fld.PP_STATUS_STATE p, 3)] := by
  refine Gives.of_sets ?_ (by simp) (by simp)
  rw [exec_portRelease hw, State.portBooted_same (.inr hb), if_pos ⟨h2, hr⟩]
  rfl

theorem portRelease_gives_booted (hw : s.tick % 8 = 0) (h2 : s.get (Fld.PP_STATUS_STATE p) = 2) (hr : s.get (Fld.PP_PARK_SRC_REASON p) = 1)
    (hb : s.bootOver (tileOfPort p) = true) : Gives (.portRelease p) s [(Fld.PP_STATUS_STATE p, 3), (Fld.PP_PARK_SRC_REASON p, 0), (Fld.PP_EVT_PARK_CHG p, 1)] := by
  have hbooted : s.portBooted p = s.sets [(Fld.PP_PARK_SRC_REASON p, 0), (Fld.PP_EVT_PARK_CHG p, 1)] := by
    simp [State.portBooted, State.ppPark, hb, hr, pkBoot, pkReanchor, putBit]
  refine Does.of_writes (w := [(Fld.PP_PARK_SRC_REASON p, 0), (Fld.PP_EVT_PARK_CHG p, 1), (Fld.PP_STATUS_STATE p, 3)]) ?_ (by simp [named])
    (by simp [State.get_set]) trivial
  rw [exec_portRelease hw, hbooted, if_pos ⟨by simp [State.get_set, h2], by simp [State.ppReasons, State.get_set]⟩]
  rfl

theorem exec_portRelease_held (hb : s.bootOver (tileOfPort p) = false) (hr : s.ppReasons p ≠ 0) : exec (.portRelease p) s = .next s := by
  by_cases hw : s.tick % 8 = 0
  · rw [exec_portRelease hw, State.portBooted_same (.inl hb), if_neg fun h => hr h.2]
  · exact exec_portRelease_early hw

/-! ### UNPARK (R237, R246) -/

/-- The reasons of a port after one of them has been written. -/
theorem State.portReason_written (a : State) (p c : Nat) {b : Nat} (hb : b < 10) (on : Bool) :
    ((a.sets [(Fld.PP_PARK_SRC_REASON p, putBit (a.get (Fld.PP_PARK_SRC_REASON p)) b on), (Fld.PP_EVT_PARK_CHG p, 1)]).get (Fld.PP_PARK_SRC_REASON p)).testBit c =
      if c = b then on else (a.get (Fld.PP_PARK_SRC_REASON p)).testBit c := by
  have hold : a.get (Fld.PP_PARK_SRC_REASON p) % 2 ^ 10 = a.get (Fld.PP_PARK_SRC_REASON p) := State.get_mod_of_le _ _ le_rfl
  have hwide : (a.get (Fld.PP_PARK_SRC_REASON p)).testBit c = (decide (c < 10) && (a.get (Fld.PP_PARK_SRC_REASON p)).testBit c) := by
    rw [← Nat.testBit_mod_two_pow, hold]
  rw [State.sets_cons, State.sets_cons, State.sets_nil, State.get_set_ne _ _ (by simp), State.get_set_self, Nat.testBit_mod_two_pow, putBit_testBit, hwide]
  by_cases hc : c = b
  · simp [hc, hb]
  · simp [hc]

/-- Clearing one of the reasons that only a transmitting port has. -/
theorem State.ppPark_clear_bit (a : State) (p c : Nat) {b : Nat} (hb : b < 10) (htx : b ≠ pkExtest ∧ b ≠ pkReading ∧ b ≠ pkBoot) :
    ((a.ppPark p b false).get (Fld.PP_PARK_SRC_REASON p)).testBit c =
      if a.portTx p = true ∧ c = b then false else (a.get (Fld.PP_PARK_SRC_REASON p)).testBit c := by
  have hre : b ≠ pkReanchor := by simp only [pkReanchor]; omega
  by_cases hset : (a.get (Fld.PP_PARK_SRC_REASON p)).testBit b = true ∧ a.portTx p = true
  · obtain ⟨hset, ht⟩ := hset
    rw [State.ppPark, if_neg (by simp [hset, ht, hre]), State.portReason_written _ _ _ hb]
    simp [ht]
  · have hsame : a.ppPark p b false = a := if_pos (by
      obtain ⟨he, hr, hbo⟩ := htx
      by_cases ht : a.portTx p = true
      · simp [(by simpa [ht] using hset : (a.get (Fld.PP_PARK_SRC_REASON p)).testBit b = false)]
      · simp [ht, he, hr, hbo])
    rw [hsame]
    by_cases h : a.portTx p = true ∧ c = b
    · obtain ⟨ht, rfl⟩ := h
      simpa [ht] using hset
    · rw [if_neg h]

/-- The FAULT reason of a port after it has been set or cleared. -/
theorem State.portFaultBit_bit (a : State) (p c : Nat) (on : Bool) : ((a.portFaultBit p on).get (Fld.PP_PARK_SRC_REASON p)).testBit c =
    if c = pkFault then on else (a.get (Fld.PP_PARK_SRC_REASON p)).testBit c := by
  by_cases hold : (a.get (Fld.PP_PARK_SRC_REASON p)).testBit pkFault = on
  · rw [State.portFaultBit, if_pos hold]
    by_cases hc : c = pkFault
    · rw [if_pos hc, hc, hold]
    · rw [if_neg hc]
  · rw [State.portFaultBit, if_neg hold, State.portReason_written _ _ _ (by decide)]

theorem State.portFaultBit_frame (a : State) (p : Nat) (on : Bool) : Frame a (a.portFaultBit p on) [] (parkOfPort p) :=
  Frame.choose (fun _ => Frame.refl _ _ _) fun _ => Frame.sets _ _ (by simp [parkOfPort])

theorem State.portTx_congr {a t : State} {q : Nat} (h : Frame a t [] (parkOfPort q)) (p : Nat) : t.portTx p = a.portTx p := by
  rw [State.portTx_eq, State.portTx_eq, State.pers, State.pers, h.get (by simp [parkOfPort])]

/-- The state in which UNPARK has cleared TRIP. -/
abbrev State.untripped (s : State) (p : Nat) : State := s.when (!s.is Lat.TRIP) (fun a => a.ppPark p pkTrip false)

/-- Then FAULT too. -/
abbrev State.unfaulted (s : State) (p : Nat) : State := (s.untripped p).when (!s.is (Lat.PP_BAD p)) (fun a => a.portFaultBit p false)

/-- Then SUPPLY: all that UNPARK clears. -/
abbrev State.unparkedPort (s : State) (p : Nat) : State := (s.unfaulted p).when (s.get Fld.SYS_RAIL_WARN == 0) (fun a => a.ppPark p pkSupply false)

theorem exec_portUnpark (ho : s.hostOpen = true) : exec (.portUnpark p) s = .next (s.unparkedPort p) := by
  change execPortUnpark p s = _
  rw [execPortUnpark, State.onHost_open _ _ ho]

theorem State.untripped_frame (s : State) (p : Nat) : Frame s (s.untripped p) [] (parkOfPort p) := Frame.when _ _ (State.ppPark_frame ..)

theorem State.unfaulted_frame (s : State) (p : Nat) : Frame s (s.unfaulted p) [] (parkOfPort p) :=
  (s.untripped_frame p).trans (Frame.when _ _ (State.portFaultBit_frame ..))

theorem State.unparkedPort_frame (s : State) (p : Nat) : Frame s (s.unparkedPort p) [] (parkOfPort p) :=
  (s.unfaulted_frame p).trans (Frame.when _ _ (State.ppPark_frame ..))

theorem State.untripped_bit (s : State) (p j : Nat) : ((s.untripped p).get (Fld.PP_PARK_SRC_REASON p)).testBit j =
    if s.is Lat.TRIP = false ∧ s.portTx p = true ∧ j = pkTrip then false else (s.get (Fld.PP_PARK_SRC_REASON p)).testBit j := by
  cases h : s.is Lat.TRIP
  · simp [State.untripped, h, State.ppPark_clear_bit s p j (b := pkTrip) (by decide) (by decide)]
  · simp [State.untripped, h]

theorem State.unfaulted_bit (s : State) (p j : Nat) : ((s.unfaulted p).get (Fld.PP_PARK_SRC_REASON p)).testBit j =
    if s.is (Lat.PP_BAD p) = false ∧ j = pkFault then false else ((s.untripped p).get (Fld.PP_PARK_SRC_REASON p)).testBit j := by
  cases h : s.is (Lat.PP_BAD p)
  · simp [State.unfaulted, h, State.portFaultBit_bit]
  · simp [State.unfaulted, h]

theorem State.unparkedPort_bit (s : State) (p j : Nat) : ((s.unparkedPort p).get (Fld.PP_PARK_SRC_REASON p)).testBit j =
    if s.get Fld.SYS_RAIL_WARN = 0 ∧ s.portTx p = true ∧ j = pkSupply then false else ((s.unfaulted p).get (Fld.PP_PARK_SRC_REASON p)).testBit j := by
  by_cases h : s.get Fld.SYS_RAIL_WARN = 0
  · simp [State.unparkedPort, h, State.ppPark_clear_bit (s.unfaulted p) p j (b := pkSupply) (by decide) (by decide), State.portTx_congr (s.unfaulted_frame p)]
  · have hwarn : (s.get Fld.SYS_RAIL_WARN == 0) = false := beq_eq_false_iff_ne.mpr h
    rw [State.unparkedPort, hwarn, State.when_false, if_neg fun hc => h hc.1]

/-- UNPARK clears TRIP, FAULT and SUPPLY, each when its condition has cleared. -/
theorem portUnpark_does (ho : s.hostOpen = true) : Does (.portUnpark p) s [] (parkOfPort p) [] (fun t => ∀ j < 11, (t.get (Fld.PP_PARK_SRC_REASON p)).testBit j =
    if s.portTx p = true ∧ (j = pkTrip ∧ s.is Lat.TRIP = false ∨ j = pkSupply ∧ s.get Fld.SYS_RAIL_WARN = 0) ∨ j = pkFault ∧ s.is (Lat.PP_BAD p) = false then false
    else (s.get (Fld.PP_PARK_SRC_REASON p)).testBit j) := by
  refine Does.of_sets (exec_portUnpark ho) List.nodup_nil (by simp) (s.unparkedPort_frame p) (by simp) fun j _ => ?_
  rw [State.unparkedPort_bit, State.unfaulted_bit, State.untripped_bit, ← ite_or, ← ite_or]
  exact if_congr (by tauto) rfl rfl

end

/-- Settles O25: each command is a run of writes in the state its clause names; the end of a start reaches the links that waited, and UNPARK clears bit by
bit. -/
theorem portStates : Obligations.PortStates :=
  ⟨fun _ _ ho => ⟨portEnable_gives_starting ho, fun h0 h => portEnable_gives_enabled ho (by simp [h0]) (.inr h),
      fun h4 => Gives.of_sets (exec_portEnable_stopping ho h4) (by simp) (by simp), fun h1 h3 => portEnable_gives_enabled ho (by omega) (.inl (by omega)),
      fun h1 h3 => portDisable_gives_stopping ho ⟨h1, h3⟩, portDisable_gives_disabled ho, portUnpark_does ho⟩,
    fun _ _ => ⟨portStopDone_gives, exec_portStopDone_keeps, exec_portStartDone_keeps, portStartDone_gives_parked, portStartDone_gives_active,
      portStartDone_does_link, exec_portRelease_early, portRelease_gives_active, portRelease_gives_booted, exec_portRelease_held⟩⟩

end Sys2Proof.Machine
end

section
/-!
PROOFS. JESD204C receivers (O29): the states of a link from BLOCK to RUN and back to OFF, a loss of its lanes and its CRC errors.
-/
namespace Sys2Proof.Machine

/-! ### Reports of a loss: the ledger, the archive and the groups that listen (R264, R267, R279, R283, R336) -/

/-- The fields of the ledger, and those in which the archive writer counts what it drops. -/
abbrev reportKeys (k : Key) : Bool := archiveLoss k || among [.IC_LDG] k

/-- The registers that the loss of an input can change: its flags, those of the groups that abort, and the ledger. -/
abbrev inputLossRegs : List RName := [.COR_GRP_EVT, .COR_GRP_STATUS, .COR_IN_STAT, .IC_LDG, .L_COR_RAMP, .L_COR_W0]

/-- Their fields, and those in which the archive writer counts what it drops. -/
abbrev inputLossKeys (k : Key) : Bool := archiveLoss k || among inputLossRegs k

theorem inputLossKeys_of_among {l : List RName} (hl : l.all inputLossRegs.contains = true) {k : Key} (h : among l k = true) : inputLossKeys k = true :=
  Bool.or_eq_true_iff.mpr (.inr (among_sub hl k h))

section
variable (s : State)

theorem ledgerOf_among {c : Nat} {k : Key} (h : ledgerOf c k = true) : among [.IC_LDG] k = true := by
  simpa [among] using (Bool.and_eq_true_iff.mp h).1

theorem reportKeys_inputLossKeys {k : Key} (h : reportKeys k = true) : inputLossKeys k = true := by
  rcases Bool.or_eq_true_iff.mp h with h | h
  · simp [h]
  · exact inputLossKeys_of_among (by decide) h

theorem State.mark_reportKeys (c : Nat) (m : List (Nat × Nat)) : Frame s (s.mark c m) [.arcBuf] reportKeys :=
  (State.markFrame s c m).mono (by simp) fun k h => by simp [h]

theorem State.raise_reportKeys (c u d : Nat) (m : List (Nat × Nat)) : Frame s (s.raise c u d m) [.arcBuf] reportKeys := by
  refine (State.raise_frame s c u d m).mono (fun _ h => h) fun k h => ?_
  rcases Bool.or_eq_true_iff.mp h with h | h
  · simp [ledgerOf_among h]
  · simp [h]

theorem State.report_reportKeys (res c u d : Nat) (m : List (Nat × Nat)) : Frame s (s.report res c u d m) [.arcBuf] reportKeys :=
  Frame.choose (fun _ => s.mark_reportKeys res m) fun _ => s.raise_reportKeys c u d m

/-- An abnormal end that a resource reports goes through the ramp, and leaves the drives alone. -/
theorem State.corAbort_ramps (g res : Nat) {cause : Nat} (hc : cause ≠ 9) : Frame s (s.corAbort g cause (some res)) [.edges, .arcBuf] inputLossKeys := by
  unfold State.corAbort State.corAbortAt
  rw [if_neg hc]
  refine Frame.choose (fun _ => ?ends) fun _ => Frame.refl _ _ _
  case ends =>
    have hstate : Frame s (s.corState g 5) [.edges, .arcBuf] inputLossKeys :=
      (State.corState_touches s g 5).mono (by simp) fun _ => inputLossKeys_of_among (by decide)
    have hcause : Frame s ((s.corState g 5).sets [(Fld.COR_GRP_STATUS_ABORT_CAUSE g, cause), (Fld.COR_GRP_EVT_ABORT g, 1)]) [.edges, .arcBuf] inputLossKeys :=
      Frame.puts (by simp [among]) hstate
    have hramp := hcause.trans ((State.corRamp_touches _ g).mono (by simp) fun _ => inputLossKeys_of_among (by decide))
    exact hramp.trans ((State.report_reportKeys ..).mono (by simp) fun _ => reportKeys_inputLossKeys)

theorem State.inputLoss_frame (l : List Nat) (res : Nat) : Frame s (s.inputLoss l res) [.edges, .arcBuf] inputLossKeys :=
  (Frame.each _ _ _ _ (fun i _ a => Frame.set a (Fld.COR_IN_STAT_LOSS i) 1 (by simp [among])) s).trans
    (Frame.each _ _ _ _ (fun g _ a => a.corAbort_ramps g res (by decide)) _)

/-- A port fault sets the FAULT reason, then only reports. -/
theorem State.portFault_reportKeys (p : Nat) (m : List (Nat × Nat)) : Frame (s.portFaultBit p true) (s.portFault p m) [.arcBuf] reportKeys :=
  Frame.choose (fun _ => State.mark_reportKeys ..) fun _ => Frame.choose (fun _ => State.mark_reportKeys ..) fun _ =>
    Frame.choose (fun _ => State.mark_reportKeys ..) fun _ => State.raise_reportKeys ..

theorem State.portFault_frame (p : Nat) (m : List (Nat × Nat)) : Frame s (s.portFault p m) [.arcBuf] (fun k => parkOfPort p k || reportKeys k) :=
  ((s.portFaultBit_frame p true).mono (by simp) fun k h => by simp [h]).trans ((s.portFault_reportKeys p m).mono (by simp) fun k h => by simp [h])

theorem State.portFault_reason (p : Nat) (m : List (Nat × Nat)) : ((s.portFault p m).get (Fld.PP_PARK_SRC_REASON p)).testBit pkFault = true := by
  rw [(s.portFault_reportKeys p m).get (by simp [archiveLoss, among]), State.portFaultBit_bit, if_pos rfl]

/-- Every input of a list that is flagged reads so, whatever else the list names. -/
theorem State.inputFlag_of_mem {l : List Nat} {i : Nat} (hi : i ∈ l) : (s.each l (fun i a => a.flag (Fld.COR_IN_STAT_FLAG i))).is (Fld.COR_IN_STAT_FLAG i) = true :=
  State.each_reaches (I := fun _ => True) (Q := fun a => a.is (Fld.COR_IN_STAT_FLAG i) = true) hi (fun a _ => by simp) (fun _ _ _ _ => trivial)
    (fun j a h => by by_cases hj : j = i <;> simp [hj, h]) trivial

end

/-! ### The commands -/

section
variable {s : State} {p : Fin 48}

theorem exec_jesdRxBlockLock (h : s.jrx p [4] = true) :
    exec (.jesdRxBlockLock p) s = .next (s.sets [(Fld.PP_JSTAT_STATE p, 5), (Fld.PP_JSTAT_LANE_LOCK p, (2 ^ (s.lanes p).length - 1) % 2 ^ 8)]) := by
  change execJesdRxBlockLock p s = _
  rw [execJesdRxBlockLock, if_pos h]
  exact congrArg _ (State.set_mod _ (Fld.PP_JSTAT_LANE_LOCK p) _).symm

theorem exec_jesdRxBlockLock_keeps (h : s.jrx p [4] = false) : exec (.jesdRxBlockLock p) s = .next s := by
  change execJesdRxBlockLock p s = _
  simp [execJesdRxBlockLock, h]

theorem exec_jesdRxMblkFound (h : s.jrx p [5] = true) : exec (.jesdRxMblkFound p) s = .next (s.sets [(Fld.PP_JSTAT_STATE p, 6)]) := by
  change execJesdRxMblkFound p s = _
  simp [execJesdRxMblkFound, h]

theorem exec_jesdRxMblkFound_keeps (h : s.jrx p [5] = false) : exec (.jesdRxMblkFound p) s = .next s := by
  change execJesdRxMblkFound p s = _
  simp [execJesdRxMblkFound, h]

/-- A receiver waiting for its release needs a SYSREF as R256 wants it; at the release tick it runs, unless a lane is late (R261, R262). -/
theorem exec_jesdRxRelease {late : Bool} (h : s.jrx p [6] = true) :
    exec (.jesdRxRelease p late) s = .next (if !s.jesdSysref p then s.sets [(Fld.PP_EVT_JCFG_ERR p, 1)]
      else if !s.lemc p s.tick (8 * s.get (Fld.PP_JCTRL_RBD p)) then s
      else if late then s.sets [(Fld.PP_EVT_JLATE p, 1)]
      else (s.sets [(Fld.PP_JSTAT_STATE p, 7), (Fld.PP_EVT_JLOCK p, 1)]).inputBack (s.jrxInputs p)) := by
  change execJesdRxRelease p late s = _
  rw [execJesdRxRelease, if_pos h]
  rfl

theorem exec_jesdRxRelease_keeps {late : Bool} (h : s.jrx p [6] = false) : exec (.jesdRxRelease p late) s = .next s := by
  change execJesdRxRelease p late s = _
  simp [execJesdRxRelease, h]

/-- What a loss on a lane writes before it is reported. -/
abbrev State.laneLost (s : State) (p : Fin 48) (lane : Fin 8) : List (Key × Nat) :=
  [(Fld.PP_JSTAT_STATE p, 4), (Fld.PP_EVT_JLOSS p, 1), (Fld.PP_JSTAT_LANE_LOCK p, putBit (s.get (Fld.PP_JSTAT_LANE_LOCK p)) lane false),
    (Fld.PP_JERR_SH_ERR p, min (s.get (Fld.PP_JERR_SH_ERR p) + 16) 65535)]

theorem exec_jloss {lane : Fin 8} (h : s.jrx p [5, 6, 7] = true) : exec (.jloss p lane) s =
    .next (((s.sets (s.laneLost p lane)).portFault p ((s.lanes p).flatMap markPort)).inputLoss (s.jrxInputs p) 24) := by
  change execJloss p lane s = _
  simp [execJloss, h, State.bump, State.get_set]

theorem exec_jloss_keeps {lane : Fin 8} (h : s.jrx p [5, 6, 7] = false) : exec (.jloss p lane) s = .next s := by
  change execJloss p lane s = _
  simp [execJloss, h]

/-- What a CRC error writes before it flags the inputs that listen. -/
abbrev State.crcCounted (s : State) (p : Fin 48) : List (Key × Nat) :=
  [(Fld.PP_JERR_CRC p, min (s.get (Fld.PP_JERR_CRC p) + 1) 65535), (Fld.PP_EVT_JCRC p, 1)]

theorem exec_jcrc (h : s.jrx p [7] = true) :
    exec (.jcrc p) s = .next ((s.sets (s.crcCounted p)).each (s.jrxInputs p) (fun i a => a.flag (Fld.COR_IN_STAT_FLAG i))) := by
  change execJcrc p s = _
  rw [execJcrc, if_pos h]
  rfl

theorem exec_jcrc_keeps (h : s.jrx p [7] = false) : exec (.jcrc p) s = .next s := by
  change execJcrc p s = _
  simp [execJcrc, h]

/-- EN is one bit, so a receiver that stops reaches BLOCK, state 4, or OFF, state 0, by its value (R261, R450). -/
theorem exec_jesdRxOffReached (hl : s.lane0 p = true) (hp : s.pers p = 3) (hs : s.is (Lat.JRX_STOP p) = true) : exec (.jesdRxOffReached p) s =
    .next (s.sets [(Lat.JRX_STOP p, 0), (Fld.PP_JSTAT_LANE_LOCK p, 0), (Fld.PP_JSTAT_STATE p, 4 * s.get (Fld.PP_JCTRL_EN p))]) := by
  have hen : (if s.is (Fld.PP_JCTRL_EN p) then 4 else 0) = 4 * s.get (Fld.PP_JCTRL_EN p) := by
    have hbit : s.get (Fld.PP_JCTRL_EN p) < 2 := s.get_lt (Fld.PP_JCTRL_EN p)
    simp only [State.is, beq_iff_eq]
    split <;> omega
  change execJesdRxOffReached p s = _
  simp only [execJesdRxOffReached, hl, hp, hs, hen, beq_self_eq_true, Bool.and_self, if_true]

theorem exec_jesdRxOffReached_keeps (hs : s.is (Lat.JRX_STOP p) = false) : exec (.jesdRxOffReached p) s = .next s := by
  change execJesdRxOffReached p s = _
  simp [execJesdRxOffReached, hs]

/-! ### The clauses -/

theorem jesdRxBlockLock_gives (h : s.jrx p [4] = true) :
    Gives (.jesdRxBlockLock p) s [(Fld.PP_JSTAT_STATE p, 5), (Fld.PP_JSTAT_LANE_LOCK p, (2 ^ (s.lanes p).length - 1) % 2 ^ 8)] :=
  Gives.of_sets (exec_jesdRxBlockLock h) (by simp) (by simpa using Nat.mod_lt _ (by decide))

theorem jesdRxMblkFound_gives (h : s.jrx p [5] = true) : Gives (.jesdRxMblkFound p) s [(Fld.PP_JSTAT_STATE p, 6)] :=
  Gives.of_sets (exec_jesdRxMblkFound h) (by simp) (by simp)

theorem jesdRxRelease_gives_error (h : s.jrx p [6] = true) (hs : s.jesdSysref p = false) : Gives (.jesdRxRelease p true) s [(Fld.PP_EVT_JCFG_ERR p, 1)] :=
  Gives.of_sets (by simp [exec_jesdRxRelease h, hs]) (by simp) (by simp)

theorem jesdRxRelease_gives_late (h : s.jrx p [6] = true) (hs : s.jesdSysref p = true)
    (hl : s.lemc p s.tick (8 * s.get (Fld.PP_JCTRL_RBD p)) = true) : Gives (.jesdRxRelease p true) s [(Fld.PP_EVT_JLATE p, 1)] :=
  Gives.of_sets (by simp [exec_jesdRxRelease h, hs, hl]) (by simp) (by simp)

theorem jesdRxRelease_does_run (h : s.jrx p [6] = true) (hs : s.jesdSysref p = true) (hl : s.lemc p s.tick (8 * s.get (Fld.PP_JCTRL_RBD p)) = true) :
    Does (.jesdRxRelease p false) s [] (fun k => k.r == .COR_IN_STAT) [(Fld.PP_JSTAT_STATE p, 7), (Fld.PP_EVT_JLOCK p, 1)] (fun _ => True) := by
  have he : exec (.jesdRxRelease p false) s = .next ((s.sets [(Fld.PP_JSTAT_STATE p, 7), (Fld.PP_EVT_JLOCK p, 1)]).inputBack (s.jrxInputs p)) := by
    simp [exec_jesdRxRelease h, hs, hl]
  exact Does.of_sets he (by simp) (by simp) ((State.inputBack_touches ..).mono (by simp) fun k h => by simpa [among] using h) (by simp) trivial

theorem State.laneLost_lt (lane : Fin 8) : ∀ q ∈ s.laneLost p lane, q.2 < 2 ^ q.1.w := by
  have hlock : putBit (s.get (Fld.PP_JSTAT_LANE_LOCK p)) lane false < 2 ^ 8 := by
    have hlt : s.get (Fld.PP_JSTAT_LANE_LOCK p) < 2 ^ 8 := s.get_lt _
    simp only [putBit, Bool.false_eq_true, if_false]
    split
    · exact (Nat.sub_le ..).trans_lt hlt
    · exact hlt
  simpa using hlock

/-- A loss writes the link's fields, sets the FAULT reason of lane 0, and is reported there and to the groups that listen. -/
theorem jloss_does {lane : Fin 8} (h : s.jrx p [5, 6, 7] = true) :
    Does (.jloss p lane) s [.edges, .arcBuf] (fun k => inputLossKeys k || parkOfPort p k) (s.laneLost p lane)
      (fun t => (t.get (Fld.PP_PARK_SRC_REASON p)).testBit pkFault = true) := by
  have hfault := (s.sets (s.laneLost p lane)).portFault_frame p ((s.lanes p).flatMap markPort)
  have hloss := ((s.sets (s.laneLost p lane)).portFault p ((s.lanes p).flatMap markPort)).inputLoss_frame (s.jrxInputs p) 24
  refine Does.of_sets (exec_jloss h) (by simp) (State.laneLost_lt lane) (Frame.trans ?fault (hloss.mono (fun _ h => h) fun k h => by simp [h]))
    (by simp [archiveLoss, among, parkOfPort]) ?reason
  case fault =>
    refine hfault.mono (by simp) fun k h => ?_
    rcases Bool.or_eq_true_iff.mp h with h | h
    · simp [h]
    · simp [reportKeys_inputLossKeys h]
  case reason => rw [hloss.get (by simp [archiveLoss, among]), State.portFault_reason]

theorem jcrc_does (h : s.jrx p [7] = true) : Does (.jcrc p) s [] (fun k => k.r == .COR_IN_STAT) (s.crcCounted p)
    (fun t => ∀ i ∈ s.jrxInputs p, t.is (Fld.COR_IN_STAT_FLAG i) = true) :=
  Does.of_sets (exec_jcrc h) (by simp) (by simp) (Frame.each _ _ _ _ (fun i _ a => Frame.set a _ _ (by simp)) _) (by simp)
    fun _ => State.inputFlag_of_mem _

theorem jesdRxOffReached_gives (hl : s.lane0 p = true) (hp : s.pers p = 3) (hs : s.is (Lat.JRX_STOP p) = true) : Gives (.jesdRxOffReached p) s
    [(Lat.JRX_STOP p, 0), (Fld.PP_JSTAT_LANE_LOCK p, 0), (Fld.PP_JSTAT_STATE p, 4 * s.get (Fld.PP_JCTRL_EN p))] := by
  have hbit : s.get (Fld.PP_JCTRL_EN p) < 2 := s.get_lt (Fld.PP_JCTRL_EN p)
  exact Gives.of_sets (exec_jesdRxOffReached hl hp hs) (by simp) (by simp; omega)

end

/-- The fields that `jloss_does` names are among those of O29, which names the drives of an immediate end as well. -/
theorem inputLossKeys_sub {p : Nat} {k : Key} (h : (inputLossKeys k || parkOfPort p k) = true) : (archiveLoss k || parkOfPort p k ||
    among [.COR_GRP_EVT, .COR_GRP_STATUS, .COR_IN_STAT, .IC_LDG, .L_COR_RAMP, .L_COR_W0, .L_COR_ZERO, .REEL] k) = true := by
  rw [Bool.or_right_comm] at h
  exact (Bool.or_eq_true_iff.mp h).elim (fun h => by rw [h, Bool.true_or]) fun h => Bool.or_eq_true_iff.mpr (.inr (among_sub (by decide) k h))

/-- Settles O29: each command is a run of writes in the states of R261 that its clause names; a loss is then reported as a port fault and as the loss of
inputs, which never reaches the drives, and a CRC error flags the inputs. -/
theorem jesdReceivers : Obligations.JesdReceivers :=
  fun _ _ => ⟨jesdRxBlockLock_gives, exec_jesdRxBlockLock_keeps, jesdRxMblkFound_gives, exec_jesdRxMblkFound_keeps, fun _ => exec_jesdRxRelease_keeps,
    jesdRxRelease_gives_error, fun h hs hl => ⟨jesdRxRelease_gives_late h hs hl, jesdRxRelease_does_run h hs hl⟩,
    fun _ => ⟨exec_jloss_keeps, fun h => (jloss_does h).mono fun _ => inputLossKeys_sub⟩, jcrc_does, exec_jcrc_keeps, jesdRxOffReached_gives,
    exec_jesdRxOffReached_keeps⟩

end Sys2Proof.Machine
end

section
/-!
PROOFS. Time-interval units, their power (O30): the start and the stop of a loop, the table it locks with, and the commands that use them.
-/
namespace Sys2Proof.Machine

/-! ### The unit's operations (R289, R293, R301) -/

section
variable {s : State} {k : Nat}

theorem State.unreserved_of_reserved (f : State → State) (h : s.reserved k = true) : s.unreserved k f = s.set (Fld.TIU_EVT_RSV_REFUSED k) 1 :=
  if_pos h

theorem State.unreserved_of_free (f : State → State) (h : s.reserved k = false) : s.unreserved k f = f s := if_neg (by simp [h])

/-- An OFF unit that is enabled may leave OFF (R293, R405). -/
abbrev State.tiuMayStart (s : State) (k : Nat) : Bool := s.is (Fld.TIU_CTRL_EN k) && s.is Lat.TB_EVER && s.unitsPowered

theorem State.tiuStart_off (h0 : s.get (Fld.TIU_STATUS_STATE k) = 0) :
    s.tiuStart k = s.sets (if s.tiuMayStart k then [(Fld.TIU_STATUS_STATE k, 1)] else []) := by
  unfold State.tiuStart
  cases hm : s.tiuMayStart k
  · rw [if_neg (by simpa [h0] using hm)]
    rfl
  · rw [if_pos (by simpa [h0, and_assoc] using hm)]
    rfl

theorem State.tiuStart_of_on (h0 : s.get (Fld.TIU_STATUS_STATE k) ≠ 0) : s.tiuStart k = s := if_neg fun h => h0 h.1

theorem State.tiuStop_powered (h1 : 1 ≤ s.get (Fld.TIU_STATUS_STATE k)) (h5 : s.get (Fld.TIU_STATUS_STATE k) ≤ 5) :
    s.tiuStop k = (s.dropMeas k).set (Fld.TIU_STATUS_STATE k) 6 := if_pos ⟨h1, h5⟩

theorem State.tiuStop_unpowered (h : s.get (Fld.TIU_STATUS_STATE k) = 0 ∨ s.get (Fld.TIU_STATUS_STATE k) = 6) : s.tiuStop k = s :=
  if_neg (by omega)

theorem State.get_uniformTable (s : State) (k : Nat) (q : Key) :
    (s.uniformTable k).get q = if q.r == .TIU_TAP && q.i == k then regReset q % 2 ^ q.w else s.get q :=
  State.get_resetKeys s (fun q => q.r == .TIU_TAP && q.i == k) q

theorem State.uniformTable_frame (s : State) (k : Nat) : Frame s (s.uniformTable k) [.tables] (fun q => q.r == .TIU_TAP && q.i == k) :=
  Frame.on_tables rfl (Frame.forget (fun _ h => h) (Frame.refl _ _ _))

end

/-- A command that changes parts that are no fields, then writes the fields of `l`. -/
theorem Does.of_parts {c : Instr} {s a : State} {ps : List Part} {l : List (Key × Nat)} {P : State → Prop} (he : exec c s = .next (a.sets l))
    (hn : (l.map Prod.fst).Nodup) (hw : ∀ q ∈ l, q.2 < 2 ^ q.1.w) (hf : Frame s a ps (fun _ => false)) (hP : P (a.sets l)) :
    Does c s ps (fun _ => false) l P :=
  Does.of_sets he hn hw (hf.sets_both l) (fun _ _ => rfl) hP

/-! ### The commands -/

section
variable {s : State} {k : Fin 24}

theorem exec_tiuEnable_reserved (ho : s.hostOpen = true) (hr : s.reserved k = true) :
    exec (.tiuEnable k) s = .next (s.sets [(Fld.TIU_EVT_RSV_REFUSED k, 1)]) := by
  change execTiuEnable k s = _
  rw [execTiuEnable, State.onHost_open _ _ ho, State.unreserved_of_reserved _ hr]
  rfl

theorem exec_tiuDisable_reserved (ho : s.hostOpen = true) (hr : s.reserved k = true) :
    exec (.tiuDisable k) s = .next (s.sets [(Fld.TIU_EVT_RSV_REFUSED k, 1)]) := by
  change execTiuDisable k s = _
  rw [execTiuDisable, State.onHost_open _ _ ho, State.unreserved_of_reserved _ hr]
  rfl

theorem exec_tiuEnable_stopping (ho : s.hostOpen = true) (hr : s.reserved k = false) (h6 : s.get (Fld.TIU_STATUS_STATE k) = 6) :
    exec (.tiuEnable k) s = .next (s.sets [(Fld.TIU_CTRL_EN k, 1), (Fld.TIU_STATUS_RESTART_PENDING k, 1), (Fld.TIU_EVT_RESTART_QUEUED k, 1)]) := by
  change execTiuEnable k s = _
  rw [execTiuEnable, State.onHost_open _ _ ho, State.unreserved_of_free _ hr]
  exact congrArg _ (if_pos h6)

theorem exec_tiuEnable_start (ho : s.hostOpen = true) (hr : s.reserved k = false) (h6 : s.get (Fld.TIU_STATUS_STATE k) ≠ 6) :
    exec (.tiuEnable k) s = .next ((s.set (Fld.TIU_CTRL_EN k) 1).tiuStart k) := by
  change execTiuEnable k s = _
  rw [execTiuEnable, State.onHost_open _ _ ho, State.unreserved_of_free _ hr]
  exact congrArg _ (if_neg h6)

theorem exec_tiuEnable_off (ho : s.hostOpen = true) (hr : s.reserved k = false) (h0 : s.get (Fld.TIU_STATUS_STATE k) = 0) :
    exec (.tiuEnable k) s =
      .next (s.sets ((Fld.TIU_CTRL_EN k, 1) :: if s.is Lat.TB_EVER && s.unitsPowered then [(Fld.TIU_STATUS_STATE k, 1)] else [])) := by
  have h0' : (s.set (Fld.TIU_CTRL_EN k) 1).get (Fld.TIU_STATUS_STATE k) = 0 := by simpa [State.get_set] using h0
  have hm : (s.set (Fld.TIU_CTRL_EN k) 1).tiuMayStart k = (s.is Lat.TB_EVER && s.unitsPowered) := by simp [State.tiuMayStart, among]
  rw [exec_tiuEnable_start ho hr (by omega), State.tiuStart_off h0', hm]
  rfl

theorem exec_tiuEnable_on (ho : s.hostOpen = true) (hr : s.reserved k = false) (h1 : 1 ≤ s.get (Fld.TIU_STATUS_STATE k))
    (h5 : s.get (Fld.TIU_STATUS_STATE k) ≤ 5) : exec (.tiuEnable k) s = .next (s.sets [(Fld.TIU_CTRL_EN k, 1)]) := by
  have h0 : (s.set (Fld.TIU_CTRL_EN k) 1).get (Fld.TIU_STATUS_STATE k) ≠ 0 := by simpa [State.get_set] using Nat.ne_zero_of_lt h1
  rw [exec_tiuEnable_start ho hr (by omega), State.tiuStart_of_on h0]
  rfl

theorem exec_tiuDisable (ho : s.hostOpen = true) (hr : s.reserved k = false) :
    exec (.tiuDisable k) s = .next ((s.sets [(Fld.TIU_CTRL_EN k, 0), (Fld.TIU_STATUS_RESTART_PENDING k, 0)]).tiuStop k) := by
  change execTiuDisable k s = _
  rw [execTiuDisable, State.onHost_open _ _ ho, State.unreserved_of_free _ hr]
  rfl

/-- The writes of EN = 0 leave the unit's state to the stop that follows. -/
theorem State.tiuDisabled_state : (s.sets [(Fld.TIU_CTRL_EN k, 0), (Fld.TIU_STATUS_RESTART_PENDING k, 0)]).get (Fld.TIU_STATUS_STATE k) =
    s.get (Fld.TIU_STATUS_STATE k) := State.get_sets_of_not_named _ _ _ (by simp [named])

theorem exec_tiuDisable_unpowered (ho : s.hostOpen = true) (hr : s.reserved k = false)
    (h : s.get (Fld.TIU_STATUS_STATE k) = 0 ∨ s.get (Fld.TIU_STATUS_STATE k) = 6) :
    exec (.tiuDisable k) s = .next (s.sets [(Fld.TIU_CTRL_EN k, 0), (Fld.TIU_STATUS_RESTART_PENDING k, 0)]) := by
  rw [exec_tiuDisable ho hr, State.tiuStop_unpowered (by rwa [State.tiuDisabled_state])]

theorem exec_tiuDisable_powered (ho : s.hostOpen = true) (hr : s.reserved k = false) (h1 : 1 ≤ s.get (Fld.TIU_STATUS_STATE k))
    (h5 : s.get (Fld.TIU_STATUS_STATE k) ≤ 5) : exec (.tiuDisable k) s =
      .next ((s.dropMeas k).sets [(Fld.TIU_CTRL_EN k, 0), (Fld.TIU_STATUS_RESTART_PENDING k, 0), (Fld.TIU_STATUS_STATE k, 6)]) := by
  rw [exec_tiuDisable ho hr, State.tiuStop_powered (by rwa [State.tiuDisabled_state]) (by rwa [State.tiuDisabled_state])]
  rfl

theorem exec_tiuDllLock_locking (h1 : s.get (Fld.TIU_STATUS_STATE k) = 1) : exec (.tiuDllLock k) s =
    .next (((s.set (Fld.TIU_STATUS_DLL_LOCK k) 1).uniformTable k).sets [(Fld.TIU_STATUS_CAL_VALID k, 0), (Lat.TIU_BOFS k, 0), (Fld.TIU_STATUS_STATE k, 2)]) := by
  change execTiuDllLock k s = _
  rw [execTiuDllLock, if_pos h1]
  rfl

theorem exec_tiuDllLock_keeps (h : s.get (Fld.TIU_STATUS_STATE k) = 0 ∨ s.get (Fld.TIU_STATUS_STATE k) = 6) : exec (.tiuDllLock k) s = .next s := by
  change execTiuDllLock k s = _
  rw [execTiuDllLock, if_neg (by omega), if_pos (h.imp_right .inl)]

/-- What the end of a stop writes before it looks at a restart that waits. -/
abbrev tiuStopped (k : Nat) : List (Key × Nat) :=
  [(Fld.TIU_STATUS_STATE k, 0), (Fld.TIU_STATUS_DLL_LOCK k, 0), (Fld.TIU_STATUS_RESTART_PENDING k, 0), (Lat.TIU_CAL_BUSY k, 0)]

theorem State.tiuStopped_mayStart : (s.sets (tiuStopped k)).tiuMayStart k = s.tiuMayStart k := by simp [State.tiuMayStart, among]

theorem exec_tiuStopDone (h6 : s.get (Fld.TIU_STATUS_STATE k) = 6) : exec (.tiuStopDone k) s =
    .next (s.sets (tiuStopped k ++ if s.is (Fld.TIU_STATUS_RESTART_PENDING k) && s.tiuMayStart k then [(Fld.TIU_STATUS_STATE k, 1)] else [])) := by
  have h0 : (s.sets (tiuStopped k)).get (Fld.TIU_STATUS_STATE k) = 0 := by simp [State.get_set]
  have hstart := State.tiuStart_off h0
  rw [State.tiuStopped_mayStart] at hstart
  change execTiuStopDone k s = _
  rw [execTiuStopDone, if_pos h6, State.sets_append]
  cases s.is (Fld.TIU_STATUS_RESTART_PENDING k)
  · rfl
  · exact congrArg _ hstart

theorem exec_tiuStopDone_keeps (h6 : s.get (Fld.TIU_STATUS_STATE k) ≠ 6) : exec (.tiuStopDone k) s = .next s := by
  change execTiuStopDone k s = _
  rw [execTiuStopDone, if_neg h6]

/-! ### The clauses -/

theorem tiuEnable_gives_start (ho : s.hostOpen = true) (hr : s.reserved k = false) (h0 : s.get (Fld.TIU_STATUS_STATE k) = 0)
    (he : s.is Lat.TB_EVER = true) (hp : s.unitsPowered = true) : Gives (.tiuEnable k) s [(Fld.TIU_CTRL_EN k, 1), (Fld.TIU_STATUS_STATE k, 1)] :=
  Gives.of_sets (by simp [exec_tiuEnable_off ho hr h0, he, hp]) (by simp) (by simp)

theorem tiuEnable_gives_waiting (ho : s.hostOpen = true) (hr : s.reserved k = false) (h0 : s.get (Fld.TIU_STATUS_STATE k) = 0)
    (h : s.is Lat.TB_EVER = false ∨ s.unitsPowered = false) : Gives (.tiuEnable k) s [(Fld.TIU_CTRL_EN k, 1)] := by
  have hno : (s.is Lat.TB_EVER && s.unitsPowered) = false := Bool.and_eq_false_iff.mpr h
  exact Gives.of_sets (by simp [exec_tiuEnable_off ho hr h0, hno]) (by simp) (by simp)

theorem tiuDisable_does_stop (ho : s.hostOpen = true) (hr : s.reserved k = false) (h1 : 1 ≤ s.get (Fld.TIU_STATUS_STATE k))
    (h5 : s.get (Fld.TIU_STATUS_STATE k) ≤ 5) : Does (.tiuDisable k) s [.measures] (fun _ => false)
      [(Fld.TIU_CTRL_EN k, 0), (Fld.TIU_STATUS_RESTART_PENDING k, 0), (Fld.TIU_STATUS_STATE k, 6)]
      (fun t => t.measures = s.measures.filter (fun m => m.tiu != (k : Nat))) :=
  Does.of_parts (exec_tiuDisable_powered ho hr h1 h5) (by simp) (by simp) (s.dropMeas_touches k) rfl

/-- The loop's lock writes the unit's fields around the uniform table, which is the reset value of the taps (R289). -/
theorem tiuDllLock_does_lock (h1 : s.get (Fld.TIU_STATUS_STATE k) = 1) :
    Does (.tiuDllLock k) s [.tables] (fun x => x.r == .TIU_TAP && x.i == (k : Nat))
      [(Fld.TIU_STATUS_DLL_LOCK k, 1), (Fld.TIU_STATUS_STATE k, 2), (Fld.TIU_STATUS_CAL_VALID k, 0), (Lat.TIU_BOFS k, 0)]
      (fun t => (∀ j < 128, t.get (Fld.TIU_TAP_W_EVEN k j) = regReset (Fld.TIU_TAP_W_EVEN k j) ∧
        t.get (Fld.TIU_TAP_W_ODD k j) = regReset (Fld.TIU_TAP_W_ODD k j)) ∧ t.tables = s.tables.filter (fun x => x.tiu != (k : Nat))) := by
  have hreset : ∀ j, regReset (Fld.TIU_TAP_W_EVEN k j) = 512 ∧ regReset (Fld.TIU_TAP_W_ODD k j) = 512 := fun _ => ⟨rfl, rfl⟩
  refine ⟨_, exec_tiuDllLock_locking h1, by simp [State.get_set, State.get_uniformTable], ?frame, fun j _ => ?taps, rfl⟩
  case frame =>
    refine Frame.puts (by simp [named]) (Frame.trans (Frame.set s (Fld.TIU_STATUS_DLL_LOCK k) 1 (by simp [named])) ?_)
    exact (State.uniformTable_frame _ k).mono (fun _ h => h) fun x h => by simp [h]
  case taps => simp [State.get_set, State.get_uniformTable, hreset]

theorem tiuStopDone_gives_off (h6 : s.get (Fld.TIU_STATUS_STATE k) = 6) : Gives (.tiuStopDone k) s
    [(Fld.TIU_STATUS_DLL_LOCK k, 0), (Fld.TIU_STATUS_RESTART_PENDING k, 0), (Lat.TIU_CAL_BUSY k, 0), (Fld.TIU_STATUS_STATE k,
      if s.is (Fld.TIU_STATUS_RESTART_PENDING k) && s.is (Fld.TIU_CTRL_EN k) && s.is Lat.TB_EVER && s.unitsPowered then 1 else 0)] := by
  have hm : (s.is (Fld.TIU_STATUS_RESTART_PENDING k) && s.is (Fld.TIU_CTRL_EN k) && s.is Lat.TB_EVER && s.unitsPowered) =
      (s.is (Fld.TIU_STATUS_RESTART_PENDING k) && s.tiuMayStart k) := by simp only [State.tiuMayStart, Bool.and_assoc]
  have he := exec_tiuStopDone h6
  rw [hm]
  cases hb : s.is (Fld.TIU_STATUS_RESTART_PENDING k) && s.tiuMayStart k <;> rw [hb] at he <;>
    exact Does.of_writes he (by simp [named]) (by simp [State.get_set]) trivial

end

/-- Settles O30: each command is a run of writes in the state its clause names; a stop drops the measurement before them, and the loop's
lock forgets the taps between them. -/
theorem tiuStates : Obligations.TiuStates := by
  refine ⟨fun k s ho hr => ⟨?enableReserved, ?disableReserved⟩, fun k s ho hr => ⟨tiuEnable_gives_start ho hr, tiuEnable_gives_waiting ho hr, fun h6 => ?restart,
    fun h1 h5 => ?enableOn, fun h => ?disableUnpowered, tiuDisable_does_stop ho hr⟩, fun k s => ⟨tiuDllLock_does_lock, exec_tiuDllLock_keeps,
    tiuStopDone_gives_off, exec_tiuStopDone_keeps⟩⟩
  case enableReserved => exact Gives.of_sets (exec_tiuEnable_reserved ho hr) (by simp) (by simp)
  case disableReserved => exact Gives.of_sets (exec_tiuDisable_reserved ho hr) (by simp) (by simp)
  case restart => exact Gives.of_sets (exec_tiuEnable_stopping ho hr h6) (by simp) (by simp)
  case enableOn => exact Gives.of_sets (exec_tiuEnable_on ho hr h1 h5) (by simp) (by simp)
  case disableUnpowered => exact Gives.of_sets (exec_tiuDisable_unpowered ho hr h) (by simp) (by simp)

end Sys2Proof.Machine
end

section
/-!
PROOFS. Time-interval units, their arming (O31): what an ARM does when it is accepted and when it is refused, the count-start tick, and
the abort.
-/
namespace Sys2Proof.Machine

/-! ### Tasks and measurements -/

section
variable {s : State} {k n a : Nat} {m : Meas}

/-- The state without a trigger that a block has taken. -/
abbrev State.triggerTaken (s : State) (g : Trigger) : State := { s with triggers := s.without g }

theorem State.triggerTaken_frame (s : State) (g : Trigger) : Frame s (s.triggerTaken g) [.triggers] (fun _ => false) :=
  Frame.on_triggers rfl (Frame.refl _ _ _)

/-- The block of a task acts on the trigger it takes (R318). -/
theorem State.onTask_waiting {b : Bool} {g : Trigger} {f : Trigger → State → State} (h : s.waiting k b = some g) :
    s.onTask k b f = f g (s.triggerTaken g) := by
  rw [State.waiting] at h
  rw [State.onTask, State.acceptTask, h]
  rfl

theorem State.meas_putMeas_self (s : State) (m : Meas) : (s.putMeas m).meas m.tiu = some m := List.find?_cons_of_pos (by simp)

theorem State.meas_putMeas_ne (h : n ≠ m.tiu) : (s.putMeas m).meas n = s.meas n := by
  rw [State.meas, State.meas, State.putMeas, List.find?_cons_of_neg (by simpa using h.symm), List.find?_filter]
  congr 1
  funext x
  by_cases hx : x.tiu = n <;> simp [hx, h]

/-! ### The ARM (R289, R293, R295, R315) -/

theorem State.installTable_of_none (h : s.tables.all (fun t => t.tiu != k) = true) : s.installTable k = s := by
  have hnone : s.tables.find? (fun t => t.tiu == k) = none := by simpa using h
  rw [State.installTable, hnone]

/-- The measurement that an accepted ARM opens when no table waits. -/
abbrev State.armedMeas (s : State) (k a : Nat) : Meas :=
  { tiu := k, t0 := if a = 0 then wordNext s.tick else a, est := !s.is (Fld.TIU_STATUS_CAL_VALID k), stale := s.tableStale k }

/-- What an accepted ARM writes. -/
abbrev tiuArmed (k : Nat) : List (Key × Nat) := [(Fld.TIU_STATUS_STATE k, 3), (Fld.TIU_RUN_LO k, 0), (Fld.TIU_RUN_HI k, 0)]

theorem State.tiuArm_accepted (task : Bool) (hr : s.armRefusal k a = 0) (ht : s.tables.all (fun t => t.tiu != k) = true) :
    s.tiuArm k a task = (s.putMeas (s.armedMeas k a)).sets (tiuArmed k) := by
  rw [State.tiuArm, if_neg (by simp [hr]), State.installTable_of_none ht]
  rfl

theorem State.tiuArm_refused (hr : s.armRefusal k a ≠ 0) :
    s.tiuArm k a false = s.sets [(Fld.TIU_EVT_ARM_REFUSED k, 1), (Fld.TIU_STATUS_REFUSE k, s.armRefusal k a)] := if_pos hr

theorem State.tiuArm_refused_task (hr : s.armRefusal k a ≠ 0) : s.tiuArm k a true = s.sets [(Fld.TIU_EVT_ARM_REFUSED k, 1)] := if_pos hr

theorem State.armRefusal_lt (s : State) (k a : Nat) : s.armRefusal k a < 16 := by
  unfold State.armRefusal
  dsimp only
  split_ifs <;> decide

theorem State.armRefusal_of_reserved (h : s.reserved k = true) : s.armRefusal k a = 4 := if_pos h

end

/-! ### The commands -/

section
variable {s : State} {k : Fin 24} {m : Meas} {g : Trigger}

/-- The count-start tick that the host asks for. -/
abbrev State.tiuAt (s : State) (k : Nat) : Nat := s.get2 (Fld.TIU_AT_LO k) (Fld.TIU_AT_HI k)

theorem exec_tiuArm (ho : s.hostOpen = true) (hr : s.reserved k = false) : exec (.tiuArm k) s = .next (s.tiuArm k (s.tiuAt k) false) := by
  change execTiuArm k s = _
  rw [execTiuArm, State.onHost_open _ _ ho, hr]
  rfl

/-- What an ARM of a unit that a service holds reports (R301). -/
abbrev tiuArmReserved (k : Nat) : List (Key × Nat) :=
  [(Fld.TIU_EVT_RSV_REFUSED k, 1), (Fld.TIU_EVT_ARM_REFUSED k, 1), (Fld.TIU_STATUS_REFUSE k, 4)]

theorem exec_tiuArm_reserved (ho : s.hostOpen = true) (hr : s.reserved k = true) : exec (.tiuArm k) s = .next (s.sets (tiuArmReserved k)) := by
  have hr' : (s.set (Fld.TIU_EVT_RSV_REFUSED k) 1).reserved k = true := by simpa [State.reserved, State.get_set] using hr
  have h4 := fun a => State.armRefusal_of_reserved (a := a) hr'
  change execTiuArm k s = _
  rw [execTiuArm, State.onHost_open _ _ ho, hr, State.when_true, State.flag_eq, State.tiuArm_refused (by simp [h4]), h4]
  rfl

theorem exec_tiuReservedWrite (arm : Bool) (ho : s.hostOpen = true) (hr : s.reserved k = true) : exec (.tiuReservedWrite k arm) s =
    .next (s.sets (if arm then tiuArmReserved k else [(Fld.TIU_EVT_RSV_REFUSED k, 1)])) := by
  change execTiuReservedWrite k arm s = _
  rw [execTiuReservedWrite, State.onHost_open _ _ ho, if_pos hr]
  cases arm <;> rfl

theorem exec_tiuAbort_reserved (ho : s.hostOpen = true) (hr : s.reserved k = true) :
    exec (.tiuAbort k) s = .next (s.sets [(Fld.TIU_EVT_RSV_REFUSED k, 1)]) := by
  change execTiuAbort k s = _
  rw [execTiuAbort, State.onHost_open _ _ ho, State.unreserved_of_reserved _ hr]
  rfl

theorem exec_tiuAbort_measuring (ho : s.hostOpen = true) (hr : s.reserved k = false) (h3 : 3 ≤ s.get (Fld.TIU_STATUS_STATE k))
    (h5 : s.get (Fld.TIU_STATUS_STATE k) ≤ 5) : exec (.tiuAbort k) s = .next ((s.dropMeas k).sets [(Fld.TIU_STATUS_STATE k, 2)]) := by
  change execTiuAbort k s = _
  rw [execTiuAbort, State.onHost_open _ _ ho, State.unreserved_of_free _ hr, if_pos ⟨h3, h5⟩]
  rfl

theorem exec_tiuAbort_keeps (ho : s.hostOpen = true) (hr : s.reserved k = false)
    (h : s.get (Fld.TIU_STATUS_STATE k) < 3 ∨ s.get (Fld.TIU_STATUS_STATE k) = 6) : exec (.tiuAbort k) s = .next s := by
  change execTiuAbort k s = _
  rw [execTiuAbort, State.onHost_open _ _ ho, State.unreserved_of_free _ hr, if_neg (by omega)]

theorem exec_tiuArmTask (hg : s.waiting (200 + k) false = some g) :
    exec (.tiuArmTask k) s = .next ((s.triggerTaken g).tiuArm k 0 true) := by
  change execTiuArmTask k s = _
  rw [execTiuArmTask, State.onTask_waiting hg]

theorem exec_tiuT0_reached (hm : s.meas k = some m) (h3 : s.get (Fld.TIU_STATUS_STATE k) = 3) (ht : m.t0 ≤ s.tick) :
    exec (.tiuT0 k) s = .next (s.sets [(Fld.TIU_STATUS_STATE k, 4)]) := by
  change execTiuT0 k s = _
  rw [execTiuT0, hm]
  exact congrArg _ (if_pos ⟨h3, ht⟩)

theorem exec_tiuT0_early (hm : s.meas k = some m) (ht : s.tick < m.t0) : exec (.tiuT0 k) s = .next s := by
  change execTiuT0 k s = _
  rw [execTiuT0, hm]
  exact congrArg _ (if_neg fun h => absurd h.2 (Nat.not_le.mpr ht))

/-! ### The clauses -/

theorem tiuArm_does_arm (ho : s.hostOpen = true) (hr : s.armRefusal k (s.tiuAt k) = 0) (ht : s.tables.all (fun t => t.tiu != (k : Nat)) = true) :
    Does (.tiuArm k) s [.measures] (fun _ => false) (tiuArmed k)
      (fun t => t.meas k = some (s.armedMeas k (s.tiuAt k)) ∧ ∀ j, j ≠ (k : Nat) → t.meas j = s.meas j) := by
  have hfree : s.reserved k = false := Bool.eq_false_iff.mpr fun h => by simp [State.armRefusal_of_reserved h] at hr
  refine Does.of_parts (a := s.putMeas (s.armedMeas k (s.tiuAt k))) ?_ (by simp) (by simp) (s.putMeas_touches _)
    ⟨s.meas_putMeas_self (s.armedMeas k _), fun j hj => State.meas_putMeas_ne hj⟩
  rw [exec_tiuArm ho hfree, State.tiuArm_accepted _ hr ht]

theorem tiuArm_gives_refusal (ho : s.hostOpen = true) (hr : s.armRefusal k (s.tiuAt k) ≠ 0) (hf : s.reserved k = false) :
    Gives (.tiuArm k) s [(Fld.TIU_EVT_ARM_REFUSED k, 1), (Fld.TIU_STATUS_REFUSE k, s.armRefusal k (s.tiuAt k))] :=
  Gives.of_sets (by rw [exec_tiuArm ho hf, State.tiuArm_refused hr]) (by simp) (by simpa using s.armRefusal_lt k _)

theorem tiuAbort_does_drop (ho : s.hostOpen = true) (hr : s.reserved k = false) (h3 : 3 ≤ s.get (Fld.TIU_STATUS_STATE k))
    (h5 : s.get (Fld.TIU_STATUS_STATE k) ≤ 5) : Does (.tiuAbort k) s [.measures] (fun _ => false) [(Fld.TIU_STATUS_STATE k, 2)]
      (fun t => t.measures = s.measures.filter (fun m => m.tiu != (k : Nat))) :=
  Does.of_parts (exec_tiuAbort_measuring ho hr h3 h5) (by simp) (by simp) (s.dropMeas_touches k) rfl

theorem tiuArmTask_does_arm (hg : s.waiting (200 + k) false = some g) (hr : s.armRefusal k 0 = 0)
    (ht : s.tables.all (fun t => t.tiu != (k : Nat)) = true) : Does (.tiuArmTask k) s [.measures, .triggers] (fun _ => false) (tiuArmed k)
      (fun t => t.triggers = s.without g ∧ (t.meas k).map (·.t0) = some (wordNext s.tick)) := by
  have hmeas := State.meas_putMeas_self (s.triggerTaken g) ((s.triggerTaken g).armedMeas k 0)
  refine Does.of_parts (a := (s.triggerTaken g).putMeas ((s.triggerTaken g).armedMeas k 0)) ?_ (by simp) (by simp)
    (Frame.on_measures rfl (Frame.on_triggers rfl (Frame.refl _ _ _))) ⟨rfl, congrArg (Option.map (·.t0)) hmeas⟩
  rw [exec_tiuArmTask hg, State.tiuArm_accepted (s := s.triggerTaken g) _ hr ht]

theorem tiuArmTask_does_refuse (hg : s.waiting (200 + k) false = some g) (hr : s.armRefusal k 0 ≠ 0) :
    Does (.tiuArmTask k) s [.triggers] (fun _ => false) [(Fld.TIU_EVT_ARM_REFUSED k, 1)] (fun t => t.triggers = s.without g) := by
  refine Does.of_parts (a := s.triggerTaken g) ?_ (by simp) (by simp) (s.triggerTaken_frame g) rfl
  rw [exec_tiuArmTask hg, State.tiuArm_refused_task (s := s.triggerTaken g) hr]

end

/-- Settles O31: an accepted ARM puts a measurement in place and writes the unit's state; a refused one, a reserved unit's and the
count-start tick only write, and an abort drops the measurement first. -/
theorem tiuArming : Obligations.TiuArming := by
  refine ⟨fun k s ho => ⟨tiuArm_does_arm ho, tiuArm_gives_refusal ho, fun hr => ⟨?arm, ?abort, ?write, ?writeArm⟩, tiuAbort_does_drop ho,
      exec_tiuAbort_keeps ho⟩,
    fun k s g hg => ⟨tiuArmTask_does_arm hg, tiuArmTask_does_refuse hg⟩, fun k s m hm => ⟨fun h3 ht => ?start, exec_tiuT0_early hm⟩⟩
  case arm => exact Gives.of_sets (exec_tiuArm_reserved ho hr) (by simp) (by simp)
  case abort => exact Gives.of_sets (exec_tiuAbort_reserved ho hr) (by simp) (by simp)
  case write => exact Gives.of_sets (exec_tiuReservedWrite false ho hr) (by simp) (by simp)
  case writeArm => exact Gives.of_sets (exec_tiuReservedWrite true ho hr) (by simp) (by simp)
  case start => exact Gives.of_sets (exec_tiuT0_reached hm h3 ht) (by simp) (by simp)

end Sys2Proof.Machine
end

section
/-!
PROOFS. The operations of the event matrix that its commands share: changes of the first element of a list, a producer's pulse, and the
clearing of a group's loop counts.
-/
namespace Sys2Proof.Machine

/-! ### The first element that satisfies a condition -/

section
variable {α β : Type} {p : α → Bool} {f : α → α} {as bs : List α} {a : α}

theorem removeFirst_append (has : ∀ x ∈ as, (!p x) = true) (ha : p a = true) : removeFirst p (as ++ a :: bs) = as ++ bs := by
  induction as with
  | nil => simp [removeFirst, ha]
  | cons x as ih =>
    obtain ⟨hx, has⟩ := List.forall_mem_cons.mp has
    have hx : p x = false := by simpa using hx
    simp [removeFirst, hx, ih has]

theorem replaceFirst_append (has : ∀ x ∈ as, (!p x) = true) (ha : p a = true) : replaceFirst p f (as ++ a :: bs) = as ++ f a :: bs := by
  induction as with
  | nil => simp [replaceFirst, ha]
  | cons x as ih =>
    obtain ⟨hx, has⟩ := List.forall_mem_cons.mp has
    have hx : p x = false := by simpa using hx
    simp [replaceFirst, hx, ih has]

/-- A replacement that keeps a feature of the element keeps it all along the list. -/
theorem map_replaceFirst {g : α → β} (h : ∀ a, g (f a) = g a) (l : List α) : (replaceFirst p f l).map g = l.map g := by
  induction l with
  | nil => rfl
  | cons a l ih =>
    rw [replaceFirst]
    split <;> simp [h, ih]

theorem length_replaceFirst (l : List α) : (replaceFirst p f l).length = l.length := by
  simpa using congrArg List.length (map_replaceFirst (p := p) (f := f) (g := fun _ => ()) (fun _ => rfl) l)

end

/-! ### Pulses of producers (R304, R308, R313) -/

section
variable {s : State} {p : Nat} {o : Option Nat}

/-- The state in which producer `p` has sent its edges. -/
abbrev State.edgesSent (s : State) (p : Nat) (o : Option Nat) : State := { s with edges := s.edges ++ (s.channelsOf p).map (fun c => ⟨c, p, o⟩) }

theorem State.edgesSent_frame (s : State) (p : Nat) (o : Option Nat) : Frame s (s.edgesSent p o) [.edges] (fun _ => false) :=
  Frame.on_edges rfl (Frame.refl _ _ _)

theorem State.pulse_sends (hr : producerReserved p = false) (ha : s.asleep = false ∨ 256 ≤ p ∧ p < 272) : s.pulse p o = s.edgesSent p o := by
  refine if_neg ?_
  rcases ha with ha | ha <;> simp [hr, ha]

/-- The producers of pins, timers, thresholds and reports are allocated, but for 403. -/
theorem producerReserved_of_lt (hl : 256 ≤ p) (hh : p < 464) (h : p ≠ 403) : producerReserved p = false := by
  simp [producerReserved]
  omega

/-- Where a producer's edges go depends on the matrix array alone (R306). -/
theorem State.edgesSent_set {k : Key} (v : Nat) (hk : k.r ≠ .EV_MATRIX) : (s.set k v).edgesSent p o = (s.edgesSent p o).set k v := by
  have hget : ∀ w, (s.set k v).get (Fld.EV_MATRIX_EN p w) = s.get (Fld.EV_MATRIX_EN p w) := fun w =>
    State.get_set_ne _ _ fun e => hk (congrArg Key.r e)
  have hch : (s.set k v).channelsOf p = s.channelsOf p := by simp only [State.channelsOf, hget]
  rw [State.edgesSent, hch]
  rfl

end

/-! ### Groups (R310, R311, R314) -/

/-- Clearing a family of fields at some indices. -/
theorem State.get_each_clr {key : Nat → Key} (hk : Function.Injective key) (l : List Nat) (s : State) (n : Nat) :
    (s.each l (fun n a => a.clr (key n))).get (key n) = if n ∈ l then 0 else s.get (key n) := by
  induction l generalizing s with
  | nil => rfl
  | cons m l ih =>
    rw [State.each_cons, ih, State.clr_eq, State.get_set]
    by_cases hm : n = m
    · simp [hm]
    · simp [hm, hk.ne (Ne.symm hm)]

theorem evcLoops_injective : Function.Injective Lat.EVC_LOOPS := fun _ _ h => congrArg Key.i h

section
variable (s : State) (g c j : Nat)

/-- The state in which the enable of group `g` is cleared. -/
def State.enableCleared (s : State) (g : Nat) : State :=
  if (s.get Fld.EV_GRP_EN_EN).testBit g then s.set Fld.EV_GRP_EN_EN (s.get Fld.EV_GRP_EN_EN - 2 ^ g) else s

theorem State.enableCleared_frame : Frame s (s.enableCleared g) [] (fun k => k == Fld.EV_GRP_EN_EN) :=
  Frame.choose (fun _ => Frame.set _ _ _ (by simp)) fun _ => Frame.refl _ _ _

theorem State.enableCleared_enabled :
    ((s.enableCleared g).get Fld.EV_GRP_EN_EN).testBit j = ((s.get Fld.EV_GRP_EN_EN).testBit j && j != g) := by
  unfold State.enableCleared
  split
  · next h =>
    have hlt : s.get Fld.EV_GRP_EN_EN - 2 ^ g < 2 ^ 16 := lt_of_le_of_lt (Nat.sub_le _ _) (s.get_lt Fld.EV_GRP_EN_EN)
    rw [State.get_set_self, Nat.mod_eq_of_lt hlt, testBit_sub_bit _ _ _ h]
    by_cases hj : j = g <;> simp [hj]
  · next h =>
    by_cases hj : j = g <;> simp [hj, h]

/-- A group that is disabled clears its enable and then the counts of its channels, which the enables do not move. -/
theorem State.groupOff_eq : s.groupOff g =
    (s.enableCleared g).each ((List.range 128).filter (fun c => s.groupOf c == g)) (fun c a => a.clr (Lat.EVC_LOOPS c)) := by
  have hgroups : ∀ c, (s.enableCleared g).groupOf c = s.groupOf c := fun c => by
    rw [State.groupOf, State.groupOf, (s.enableCleared_frame g).get (by simp)]
  simp only [← hgroups]
  rw [State.enableCleared, ← Nat.one_shiftLeft]
  rfl

theorem State.groupOff_frame : Frame s (s.groupOff g) [] (fun k => k.r == .L_EVC_LOOPS || k == Fld.EV_GRP_EN_EN) := by
  rw [State.groupOff_eq]
  exact Frame.steps (fun c a => Frame.set a _ _ (by simp)) ((s.enableCleared_frame g).mono (fun _ h => h) fun _ h => by simp [h])

theorem State.groupOff_groupOf : (s.groupOff g).groupOf c = s.groupOf c := by
  rw [State.groupOf, State.groupOf, (s.groupOff_frame g).get (by simp)]

/-- A group that is disabled has its bit of EV_GRP_EN cleared and no other. -/
theorem State.groupOff_enabled : ((s.groupOff g).get Fld.EV_GRP_EN_EN).testBit j = ((s.get Fld.EV_GRP_EN_EN).testBit j && j != g) := by
  rw [State.groupOff_eq, State.each_keeps (fun a => a.get Fld.EV_GRP_EN_EN) _ _ (fun c a => by simp [State.get_set]), State.enableCleared_enabled]

/-- The loop counts of its channels are cleared. -/
theorem State.groupOff_loops (hc : c < 128) : (s.groupOff g).get (Lat.EVC_LOOPS c) = if s.groupOf c = g then 0 else s.get (Lat.EVC_LOOPS c) := by
  rw [State.groupOff_eq, State.get_each_clr evcLoops_injective, (s.enableCleared_frame g).get (by simp)]
  simp [hc]

end

end Sys2Proof.Machine
end

section
/-!
PROOFS. Channel pulses and groups (O13): what a pulse that forms reaches, the loop detector below its limit, and the writes of the host.
-/
namespace Sys2Proof.Machine

/-! ### A pulse that forms (R308, R314, R316, R321) -/

section
variable {s : State} {c : Nat} {o : Option Nat}

/-- The tasks on a channel depend on the EV_TASK_CFG registers alone. -/
theorem State.tasksOn_set {k : Key} (v : Nat) (hk : k.r ≠ .EV_TASK_CFG) : (s.set k v).tasksOn c = s.tasksOn c := by
  have hget : ∀ i, (s.set k v).get (Fld.EV_TASK_CFG_EVC i) = s.get (Fld.EV_TASK_CFG_EVC i) := fun i =>
    State.get_set_ne _ _ fun e => hk (congrArg Key.r e)
  have hfields : (s.set k v).fields.filter (fun p => p.1.r == .EV_TASK_CFG && p.1.lo == 31 && p.2 == 1) =
      s.fields.filter (fun p => p.1.r == .EV_TASK_CFG && p.1.lo == 31 && p.2 == 1) := by
    rw [State.set, List.filter_cons_of_neg (by simp [hk]), List.filter_filter]
    refine List.filter_congr fun p _ => ?_
    by_cases hp : p.1 = k <;> simp [hp, hk]
  simp only [State.tasksOn, hfields, hget]

/-- The state in which the pins and the interrupt status have followed a pulse of channel `c`. -/
abbrev State.pulseShown (s : State) (c : Nat) : State :=
  (s.each ((List.range 16).filter (fun n => s.evioUsable n && s.is (Fld.EV_EVIO_CFG_DIR n) && !s.is (Fld.EV_EVIO_CFG_MODE n) &&
      s.get (Fld.EV_EVIO_CFG_EVC n) == c)) (fun n a => a.flag (Lat.EVIO_OUT n))).each
    ((List.range 32).filter (fun i => s.is (Fld.EV_IRQ_SEL_EN i) && s.get (Fld.EV_IRQ_SEL_EVC i) == c))
    (fun i a => a.set Fld.IC_EVC_STAT (a.get Fld.IC_EVC_STAT ||| 1 <<< i))

/-- What a pulse shows at once. -/
abbrev pulseShows (k : Key) : Bool := k.r == .L_EVIO_OUT || k == Fld.IC_EVC_STAT

theorem State.pulseShown_frame (s : State) (c : Nat) : Frame s (s.pulseShown c) [] pulseShows :=
  Frame.steps (fun i a => Frame.set a _ _ (by simp)) (Frame.steps (fun n a => Frame.set a _ _ (by simp)) (Frame.refl _ _ _))

theorem State.spread_awake (ha : s.asleep = false) : s.spread c o =
    { s.pulseShown c with
      pulses := s.pulses ++ [⟨c, s.tick, o, none, s.unref, []⟩]
      triggers := s.triggers ++ (s.tasksOn c).map (fun k => ⟨k, c, s.tick, none, s.unref, false, 0⟩) } := by
  have hp : (s.pulseShown c).pulses = s.pulses := (s.pulseShown_frame c).1 .pulses (by simp)
  have ht : (s.pulseShown c).triggers = s.triggers := (s.pulseShown_frame c).1 .triggers (by simp)
  rw [← hp, ← ht]
  exact if_neg (by simp [ha])

theorem State.spread_frame (ha : s.asleep = false) : Frame s (s.spread c o) [.pulses, .triggers] pulseShows := by
  rw [State.spread_awake ha]
  exact Frame.on_pulses_triggers rfl rfl ((s.pulseShown_frame c).mono (by simp) fun _ h => h)

/-- What the loop detector writes below its limit. -/
abbrev State.loopCounted (s : State) (c : Nat) : List (Key × Nat) :=
  (Lat.EVC_LOOPS c, s.get (Lat.EVC_LOOPS c) + 1) :: if s.get (Lat.EVC_LOOPS c) = 0 then [(Lat.EVC_LOOP_END c, s.tick + 64000)] else []

theorem State.countLoop_below (h : s.get (Lat.EVC_LOOPS c) + 1 < 1024) : s.countLoop c = s.sets (s.loopCounted c) := by
  refine (if_neg (Nat.ne_of_lt h)).trans ?_
  by_cases h0 : s.get (Lat.EVC_LOOPS c) = 0 <;> simp [State.loopCounted, h0, State.now]

theorem State.countLoop_frame (h : s.get (Lat.EVC_LOOPS c) + 1 < 1024) :
    Frame s (s.countLoop c) [] (fun k => k == Lat.EVC_LOOPS c || k == Lat.EVC_LOOP_END c) := by
  rw [State.countLoop_below h]
  refine Frame.sets _ _ (List.forall_mem_cons.mpr ⟨by simp, fun q hq => ?_⟩)
  split at hq <;> simp_all

theorem State.countLoop_loops (h : s.get (Lat.EVC_LOOPS c) + 1 < 1024) : (s.countLoop c).get (Lat.EVC_LOOPS c) = s.get (Lat.EVC_LOOPS c) + 1 := by
  have hw : (s.get (Lat.EVC_LOOPS c) + 1) % 2 ^ 11 = s.get (Lat.EVC_LOOPS c) + 1 := Nat.mod_eq_of_lt (by omega)
  rw [State.countLoop_below h, State.sets_cons, State.get_sets_of_not_named _ _ _ (by split <;> simp [named]), State.get_set_self, hw]

end

/-! ### Edges and windows of a channel (R308, R309, R311, R314) -/

section
variable {s : State} {c : Fin 128} {e : ChanEdge}

/-- The state in which the oldest edge into channel `c` has arrived. -/
abbrev State.edgeTaken (s : State) (c : Nat) : State := { s with edges := removeFirst (fun e => e.ch == c) s.edges }

theorem State.edgeTaken_frame (s : State) (c : Nat) : Frame s (s.edgeTaken c) [.edges] (fun _ => false) := Frame.on_edges rfl (Frame.refl _ _ _)

/-- The pulses of channel `c` when an edge with origin `o` has coalesced into its last. -/
abbrev State.coalesced (s : State) (c : Nat) (o : Option Nat) : List Pulse :=
  (replaceFirst (fun p => p.ch == c) (fun p => { p with origin := minTick p.origin o }) s.pulses.reverse).reverse

theorem State.coalesced_channels (s : State) (c : Nat) (o : Option Nat) : (s.coalesced c o).map (·.ch) = s.pulses.map (·.ch) := by
  have hrev := map_replaceFirst (p := fun p : Pulse => p.ch == c) (f := fun p => { p with origin := minTick p.origin o }) (g := (·.ch)) (fun _ => rfl)
  rw [List.map_reverse, hrev, ← List.map_reverse, List.reverse_reverse]

theorem exec_channelPulse_none (h : s.edges.find? (fun e => e.ch == (c : Nat)) = none) : exec (.channelPulse c) s = .next s := by
  change execChannelPulse c s = _
  rw [execChannelPulse, h]

theorem exec_channelPulse_busy (h : s.edges.find? (fun e => e.ch == (c : Nat)) = some e) (hb : s.is (Lat.EVC_BUSY c) = true) :
    exec (.channelPulse c) s = .next { s.edgeTaken c with pulses := s.coalesced c e.origin } := by
  change execChannelPulse c s = _
  rw [execChannelPulse, h]
  exact congrArg _ (if_pos hb)

theorem exec_channelPulse_disabled (h : s.edges.find? (fun e => e.ch == (c : Nat)) = some e) (hb : s.is (Lat.EVC_BUSY c) = false)
    (hg : s.groupOn c = false) : exec (.channelPulse c) s = .next (s.edgeTaken c) := by
  change execChannelPulse c s = _
  rw [execChannelPulse, h]
  exact congrArg _ ((if_neg (by simp [hb])).trans (if_neg (by simp [hg])))

/-- The state in which the edge has made channel `c` busy. -/
abbrev State.edgeEntered (s : State) (c : Nat) : State := (s.edgeTaken c).set (Lat.EVC_BUSY c) 1

theorem State.edgeEntered_frame (s : State) (c : Nat) : Frame s (s.edgeEntered c) [.edges] (fun k => k == Lat.EVC_BUSY c) :=
  Frame.put (by simp) ((s.edgeTaken_frame c).mono (fun _ h => h) (by simp))

theorem exec_channelPulse_forms (h : s.edges.find? (fun e => e.ch == (c : Nat)) = some e) (hb : s.is (Lat.EVC_BUSY c) = false)
    (hg : s.groupOn c = true) : exec (.channelPulse c) s = .next (((s.edgeEntered c).spread c e.origin).countLoop c) := by
  change execChannelPulse c s = _
  rw [execChannelPulse, h]
  exact congrArg _ ((if_neg (by simp [hb])).trans (if_pos hg))

theorem channelPulse_does_coalesce (h : s.edges.find? (fun e => e.ch == (c : Nat)) = some e) (hb : s.is (Lat.EVC_BUSY c) = true) :
    Does (.channelPulse c) s [.edges, .pulses] (fun _ => false) []
      (fun t => t.edges = removeFirst (fun e => e.ch == (c : Nat)) s.edges ∧ t.pulses.map (·.ch) = s.pulses.map (·.ch)) :=
  Does.of_parts (exec_channelPulse_busy h hb) (by simp) (by simp) (Frame.on_edges_pulses (a := s) rfl rfl (Frame.refl _ _ _)) ⟨rfl, s.coalesced_channels c _⟩

/-- An edge into an idle channel of an enabled group forms its pulse, below the limit of the loop detector. -/
theorem channelPulse_does_form (h : s.edges.find? (fun e => e.ch == (c : Nat)) = some e) (hb : s.is (Lat.EVC_BUSY c) = false)
    (hg : s.groupOn c = true) (ha : s.asleep = false) (hl : s.get (Lat.EVC_LOOPS c) + 1 < 1024) :
    Does (.channelPulse c) s [.edges, .pulses, .triggers] (fun k => k.r == .L_EVIO_OUT || k == Fld.IC_EVC_STAT || k == Lat.EVC_LOOP_END c)
      [(Lat.EVC_BUSY c, 1), (Lat.EVC_LOOPS c, s.get (Lat.EVC_LOOPS c) + 1)]
      (fun t => t.edges = removeFirst (fun e => e.ch == (c : Nat)) s.edges ∧ t.pulses = s.pulses ++ [⟨c, s.tick, e.origin, none, s.unref, []⟩] ∧
        t.triggers = s.triggers ++ (s.tasksOn c).map (fun k => ⟨k, c, s.tick, none, s.unref, false, 0⟩)) := by
  have henter := s.edgeEntered_frame c
  have hawake : (s.edgeEntered c).asleep = false := by rwa [State.asleep, henter.get (by simp)]
  have hunref : (s.edgeEntered c).unref = s.unref := by rw [State.unref, State.is, henter.get (by simp)]; rfl
  have htasks : (s.edgeEntered c).tasksOn c = s.tasksOn c := State.tasksOn_set _ (by simp)
  have hform := State.spread_frame (c := c) (o := e.origin) hawake
  have hspread := State.spread_awake (c := c) (o := e.origin) hawake
  have hloops := (hform.get (k := Lat.EVC_LOOPS c) (by simp)).trans (henter.get (by simp))
  have hcount := State.countLoop_frame (hloops ▸ hl)
  refine ⟨_, exec_channelPulse_forms h hb hg, ?values, ?frame, ?edges, ?pulses, ?triggers⟩
  case values =>
    refine List.forall_mem_cons.mpr ⟨?_, List.forall_mem_singleton.mpr ?_⟩
    · exact (hcount.get (by simp)).trans ((hform.get (by simp)).trans (State.get_set_self _ _ _))
    · exact (State.countLoop_loops (hloops ▸ hl)).trans (congrArg (· + 1) hloops)
  case frame =>
    refine ((henter.mono (by simp) fun k hk => ?_).trans (hform.mono (by simp) fun k hk => ?_)).trans (hcount.mono (by simp) fun k hk => ?_)
    · simp [named, beq_iff_eq.mp hk]
    · simp only [hk, Bool.true_or]
    · rcases Bool.or_eq_true_iff.mp hk with hk | hk <;> simp [named, beq_iff_eq.mp hk]
  case edges => exact (hcount.1 .edges (by simp)).trans (hform.1 .edges (by simp))
  case pulses =>
    refine (hcount.1 .pulses (by simp)).trans ((congrArg State.pulses hspread).trans ?_)
    rw [hunref]
    rfl
  case triggers =>
    refine (hcount.1 .triggers (by simp)).trans ((congrArg State.triggers hspread).trans ?_)
    rw [hunref, htasks]
    rfl

/-- The pins that channel `c` drives. -/
abbrev State.directPins (s : State) (c : Nat) : List Nat := (List.range 16).filter (fun n => s.is (Fld.EV_EVIO_CFG_DIR n) &&
  !s.is (Fld.EV_EVIO_CFG_MODE n) && s.get (Fld.EV_EVIO_CFG_EVC n) == c)

theorem channelLockoutEnd_does_free : Does (.channelLockoutEnd c) s [] (fun k => k.r == .L_EVIO_OUT) [(Lat.EVC_BUSY c, 0)]
    (fun t => ∀ n < 16, s.is (Fld.EV_EVIO_CFG_DIR n) = true → s.is (Fld.EV_EVIO_CFG_MODE n) = false → s.get (Fld.EV_EVIO_CFG_EVC n) = c →
      t.is (Lat.EVIO_OUT n) = false) := by
  have he : exec (.channelLockoutEnd c) s = .next ((s.sets [(Lat.EVC_BUSY c, 0)]).each (s.directPins c) (fun n a => a.clr (Lat.EVIO_OUT n))) := rfl
  refine Does.of_sets he (by simp) (by simp) (Frame.each _ _ _ _ (fun n _ a => Frame.set a _ _ (by simp)) _) (by simp) fun n hn hd hm hc => ?_
  have hpin : n ∈ s.directPins c := by simp [hn, hd, hm, hc]
  rw [State.is, State.get_each_clr (fun _ _ h => congrArg Key.i h), if_pos hpin]
  rfl

theorem exec_loopWindowEnd_past (h : s.get (Lat.EVC_LOOP_END c) ≤ s.tick) : exec (.loopWindowEnd c) s = .next (s.sets [(Lat.EVC_LOOPS c, 0)]) := by
  change execLoopWindowEnd c s = _
  simp [execLoopWindowEnd, State.now, h]

theorem exec_loopWindowEnd_early (h : s.tick < s.get (Lat.EVC_LOOP_END c)) (ha : s.asleep = false) : exec (.loopWindowEnd c) s = .next s := by
  change execLoopWindowEnd c s = _
  simp [execLoopWindowEnd, State.now, Nat.not_le.mpr h, ha]

end

/-! ### Writes of the host (R306, R311, R312) -/

section
variable {s : State}

theorem exec_matrixWrite {pf : Fin 4} {p : Fin 512} {w : Fin 4} (v : Nat) (ho : s.hostOpen = true) (hp : s.privileged pf = true) :
    exec (.matrixWrite pf p w v) s = .next (s.sets [(Fld.EV_MATRIX_EN p w, v % 2 ^ 32)]) := by
  change execMatrixWrite pf p w v s = _
  rw [execMatrixWrite, State.asPriv_open _ _ _ ho hp, State.sets_cons, ← State.set_mod]
  rfl

/-- Groups disabled one after the other keep the enables of the others. -/
theorem State.groupsOff_enabled (l : List Nat) (s : State) (j : Nat) :
    ((s.each l (fun g a => a.groupOff g)).get Fld.EV_GRP_EN_EN).testBit j = ((s.get Fld.EV_GRP_EN_EN).testBit j && !l.contains j) := by
  induction l generalizing s with
  | nil => simp
  | cons g l ih => rw [State.each_cons, ih, State.groupOff_enabled, List.contains_cons, Bool.not_or, Bool.and_assoc, bne]

theorem State.groupsOff_loops (l : List Nat) (s : State) {c : Nat} (hc : c < 128) :
    (s.each l (fun g a => a.groupOff g)).get (Lat.EVC_LOOPS c) = if s.groupOf c ∈ l then 0 else s.get (Lat.EVC_LOOPS c) := by
  induction l generalizing s with
  | nil => simp
  | cons g l ih =>
    rw [State.each_cons, ih, State.groupOff_groupOf, State.groupOff_loops _ _ _ hc]
    by_cases hg : s.groupOf c = g <;> simp [hg]

theorem State.groupOf_lt (s : State) (c : Nat) : s.groupOf c < 16 := Nat.mod_lt _ (by decide)

/-- The groups that a value of EV_GRP_EN leaves disabled. -/
abbrev groupsLeftOut (v : Nat) : List Nat := (List.range 16).filter (fun g => !v.testBit g)

theorem exec_groupEnableWrite (v : Nat) (ho : s.hostOpen = true) :
    exec (.groupEnableWrite v) s = .next ((s.set Fld.EV_GRP_EN_EN v).each (groupsLeftOut v) (fun g a => a.groupOff g)) := by
  change execGroupEnableWrite v s = _
  rw [execGroupEnableWrite, State.onHost_open _ _ ho]

theorem groupEnableWrite_does_enable (v : Nat) (ho : s.hostOpen = true) :
    Does (.groupEnableWrite v) s [] (fun k => k.r == .L_EVC_LOOPS) [(Fld.EV_GRP_EN_EN, v % 2 ^ 16)]
      (fun t => ∀ c < 128, t.get (Lat.EVC_LOOPS c) = if v.testBit (s.groupOf c) then s.get (Lat.EVC_LOOPS c) else 0) := by
  refine ⟨_, exec_groupEnableWrite v ho, List.forall_mem_singleton.mpr ?enables, ?frame, fun c hc => ?loops⟩
  case enables =>
    refine Nat.eq_of_testBit_eq fun j => ?_
    rw [State.groupsOff_enabled, State.get_set_self, Nat.testBit_mod_two_pow]
    by_cases hj : j < 16 <;> cases hv : v.testBit j <;> simp [hj, hv]
  case frame =>
    refine Frame.steps (fun g a => (a.groupOff_frame g).mono (by simp) fun k hk => ?_) (Frame.set _ _ _ (by simp [named]))
    rcases Bool.or_eq_true_iff.mp hk with hk | hk <;> simp [named] at hk ⊢ <;> simp [hk]
  case loops =>
    have hgroup : (s.set Fld.EV_GRP_EN_EN v).groupOf c = s.groupOf c := by simp [State.groupOf, State.get_set]
    rw [State.groupsOff_loops _ _ hc, hgroup, State.get_set_ne _ _ (by simp)]
    cases hv : v.testBit (s.groupOf c) <;> simp [s.groupOf_lt c, hv]

/-- A fire of one channel names that channel alone. -/
theorem filter_testBit_two_pow : ∀ j : Fin 32, (List.range 32).filter (fun i => (2 ^ (j : Nat)).testBit i) = [(j : Nat)] := by decide

variable {w : Fin 4} {j : Fin 32}

theorem exec_hostFire_enabled (ho : s.hostOpen = true) (hg : s.groupOn (32 * w + j) = true) : exec (.hostFire w (2 ^ (j : Nat))) s =
    .next (({ s with edges := s.edges ++ [⟨32 * w + j, 512, none⟩] } : State).sets [(Lat.EVC_LOOPS (32 * w + j), 0)]) := by
  change execHostFire w _ s = _
  rw [execHostFire, State.onHost_open _ _ ho, filter_testBit_two_pow]
  exact congrArg _ (if_pos hg)

theorem exec_hostFire_disabled (ho : s.hostOpen = true) (hg : s.groupOn (32 * w + j) = false) : exec (.hostFire w (2 ^ (j : Nat))) s =
    .next (s.sets [(Lat.EVC_LOOPS (32 * w + j), 0), (Fld.EV_EVT_FIRE_GATED, 1)]) := by
  change execHostFire w _ s = _
  rw [execHostFire, State.onHost_open _ _ ho, filter_testBit_two_pow]
  exact congrArg _ (if_neg (by simp [hg]))

end

/-- Settles O13: an edge is consumed by what its channel and group are; the other commands clear counts or write fields. -/
theorem channelPulsesAndGroups : Obligations.ChannelPulsesAndGroups := by
  refine ⟨fun pf p w v s ho hp => ?matrix, fun c s => exec_channelPulse_none, fun c s e he => ⟨channelPulse_does_coalesce he, fun hb hg => ?ignored,
      channelPulse_does_form he⟩, fun c s => channelLockoutEnd_does_free, fun c s => ⟨fun h => ?window, exec_loopWindowEnd_early⟩,
    fun v s ho => groupEnableWrite_does_enable v ho, fun w j s ho => ⟨fun hg => ?fire, fun hg => ?gated⟩⟩
  case matrix => exact Gives.of_sets (exec_matrixWrite v ho hp) (by simp) (by simpa using Nat.mod_lt v (by decide))
  case ignored => exact Does.of_parts (l := []) (exec_channelPulse_disabled he hb hg) (by simp) (by simp) (s.edgeTaken_frame c) rfl
  case window => exact Gives.of_sets (exec_loopWindowEnd_past h) (by simp) (by simp)
  case fire => exact Does.of_parts (exec_hostFire_enabled ho hg) (by simp) (by simp) (Frame.on_edges rfl (Frame.refl _ _ _)) rfl
  case gated => exact Gives.of_sets (exec_hostFire_disabled ho hg) (by simp) (by simp)

end Sys2Proof.Machine
end

section
/-!
PROOFS. Task inputs (O14): the queues of a task when a trigger leaves or changes its phase, the four deliveries of R318, and the commands
that use them.
-/
namespace Sys2Proof.Machine

/-! ### The queues of a task (R316, R318) -/

section
variable {s : State} {k : Nat} {g : Trigger}

/-- The state in which the synchroniser of task `k` has given up its oldest trigger. -/
abbrev State.captureTaken (s : State) (k : Nat) : State := { s with triggers := removeFirst (fun g => g.task == k && g.phase == 0) s.triggers }

theorem State.captureTaken_frame (s : State) (k : Nat) : Frame s (s.captureTaken k) [.triggers] (fun _ => false) :=
  Frame.on_triggers rfl (Frame.refl _ _ _)

/-- A captured trigger neither makes its task busy nor waits in its DEFER queue. -/
theorem State.captureTaken_queues (h : s.triggers.find? (fun g => g.task == k && g.phase == 0) = some g) :
    g.task = k ∧ (s.captureTaken k).taskBusy k = s.taskBusy k ∧ (s.captureTaken k).taskDepth k = s.taskDepth k := by
  obtain ⟨hg, as, bs, hl, has⟩ := List.find?_eq_some_iff_append.mp h
  obtain ⟨htask, hphase⟩ : g.task = k ∧ g.phase = 0 := by simpa using hg
  simp [State.taskBusy, State.taskDepth, hl, removeFirst_append has hg, htask, hphase]

/-- The state in which the oldest deferred trigger of task `k` has been delivered to its block. -/
abbrev State.deferTaken (s : State) (k : Nat) : State :=
  { s with triggers := replaceFirst (fun g => g.task == k && g.phase == 2) (fun g => { g with phase := 1 }) s.triggers }

/-- A deferred trigger that is delivered makes its task busy and leaves the DEFER queue. -/
theorem State.deferTaken_queues (hd : 0 < s.taskDepth k) :
    (s.deferTaken k).taskBusy k = true ∧ (s.deferTaken k).taskDepth k = s.taskDepth k - 1 := by
  obtain ⟨g, hg⟩ : ∃ g, s.triggers.find? (fun g => g.task == k && g.phase == 2) = some g := by
    obtain ⟨g, hg⟩ := List.exists_mem_of_length_pos hd
    obtain ⟨hmem, hg⟩ := List.mem_filter.mp hg
    exact Option.isSome_iff_exists.mp (List.find?_isSome.mpr ⟨g, hmem, hg⟩)
  obtain ⟨hg, as, bs, hl, has⟩ := List.find?_eq_some_iff_append.mp hg
  obtain ⟨htask, hphase⟩ : g.task = k ∧ g.phase = 2 := by simpa using hg
  simp [State.taskBusy, State.taskDepth, hl, replaceFirst_append has hg, htask, hphase]

/-! ### Deliveries (R318) -/

/-- The triggers of a busy task when `g` has merged into the one its block has. -/
abbrev State.merged (s : State) (g : Trigger) : List Trigger :=
  replaceFirst (fun h => h.task == g.task && h.phase == 1)
    (fun h => { h with s := minTick h.s g.s, ch := if h.direct then g.ch else h.ch, formed := if h.direct then g.formed else h.formed }) s.triggers

section
variable (hk : g.task = k)
include hk

theorem State.deliver_idle (hb : s.taskBusy k = false) : s.deliver g = { s with triggers := s.triggers ++ [{ g with phase := 1 }] } :=
  if_pos (by simp [hk, hb])

theorem State.deliver_merge (hb : s.taskBusy k = true) (hp : s.is (Fld.EV_TASK_CFG_POL k) = false) :
    s.deliver g = ({ s with triggers := s.merged g } : State).sets
      [(Fld.EV_TASK_STAT_COINC_CNT k, min (s.get (Fld.EV_TASK_STAT_COINC_CNT k) + 1) 4095), (Fld.EV_TASK_STAT_COINC k, 1), (Fld.EV_EVT_TASK_COINC, 1)] := by
  subst hk
  exact (if_neg (by simp [hb])).trans (if_pos (by simp [hp]))

theorem State.deliver_defer (hb : s.taskBusy k = true) (hp : s.is (Fld.EV_TASK_CFG_POL k) = true) (hd : s.taskDepth k < 4) :
    s.deliver g = ({ s with triggers := s.triggers ++ [{ g with phase := 2 }] } : State).sets [(Fld.EV_TASK_STAT_DEPTH k, s.taskDepth k + 1)] := by
  subst hk
  exact (if_neg (by simp [hb])).trans ((if_neg (by simp [hp])).trans (if_pos hd))

theorem State.deliver_overflow (hb : s.taskBusy k = true) (hp : s.is (Fld.EV_TASK_CFG_POL k) = true) (hd : 4 ≤ s.taskDepth k) :
    s.deliver g = s.sets
      [(Fld.EV_TASK_STAT_OVF_CNT k, min (s.get (Fld.EV_TASK_STAT_OVF_CNT k) + 1) 4095), (Fld.EV_TASK_STAT_OVF k, 1), (Fld.EV_EVT_TASK_OVF, 1)] := by
  subst hk
  exact (if_neg (by simp [hb])).trans ((if_neg (by simp [hp])).trans (if_neg (Nat.not_lt.mpr hd)))

end

end

/-! ### The commands -/

/-- One bit of a written word. -/
theorem bitsOf_bit (v i : Nat) : bitsOf v i 1 = (v.testBit i).toNat := by rw [bitsOf, Nat.toNat_testBit, Nat.pow_one]

theorem bitsOf_lt (v lo w : Nat) : bitsOf v lo w < 2 ^ w := Nat.mod_lt _ (Nat.two_pow_pos w)

section
variable {s : State} {k : Fin 768} {g : Trigger} {v : Nat}

/-- What a write of EV_TASK_CFG with EN = `en` stores. -/
abbrev taskCfg (k en v : Nat) : List (Key × Nat) :=
  [(Fld.EV_TASK_CFG_EN k, en), (Fld.EV_TASK_CFG_POL k, bitsOf v 30 1), (Fld.EV_TASK_CFG_EVC k, bitsOf v 0 7)]

theorem taskCfg_lt (k : Nat) {en : Nat} (he : en < 2) (v : Nat) : ∀ q ∈ taskCfg k en v, q.2 < 2 ^ q.1.w := by
  simp only [List.forall_mem_cons]
  exact ⟨he, bitsOf_lt v 30 1, bitsOf_lt v 0 7, List.forall_mem_nil _⟩

theorem exec_taskCfgWrite_reserved (ho : s.hostOpen = true) (hk : taskExists k = false) : exec (.taskCfgWrite k v) s = .next s := by
  change execTaskCfgWrite k v s = _
  rw [execTaskCfgWrite, State.onHost_open _ _ ho, if_neg (by simp [hk])]

theorem exec_taskCfgWrite_enabled (ho : s.hostOpen = true) (hk : taskExists k = true) (hv : v.testBit 31 = true) :
    exec (.taskCfgWrite k v) s = .next (s.sets (taskCfg k 1 v)) := by
  change execTaskCfgWrite k v s = _
  rw [execTaskCfgWrite, State.onHost_open _ _ ho, if_pos hk, bitsOf_bit v 31, hv]
  rfl

/-- The state in which the DEFER queue of task `k` has been dropped. -/
abbrev State.deferDropped (s : State) (k : Nat) : State := { s with triggers := s.triggers.filter (fun g => !(g.task == k && g.phase == 2)) }

theorem exec_taskCfgWrite_disabled (ho : s.hostOpen = true) (hk : taskExists k = true) (hv : v.testBit 31 = false) :
    exec (.taskCfgWrite k v) s = .next ((s.deferDropped k).sets (taskCfg k 0 v ++ [(Fld.EV_TASK_STAT_DEPTH k, 0)])) := by
  change execTaskCfgWrite k v s = _
  rw [execTaskCfgWrite, State.onHost_open _ _ ho, if_pos hk, bitsOf_bit v 31, hv]
  rfl

theorem taskCfgWrite_does_disable (ho : s.hostOpen = true) (hk : taskExists k = true) (hv : v.testBit 31 = false) :
    Does (.taskCfgWrite k v) s [.triggers] (fun _ => false) (taskCfg k 0 v ++ [(Fld.EV_TASK_STAT_DEPTH k, 0)])
      (fun t => t.triggers = s.triggers.filter (fun g => !(g.task == (k : Nat) && g.phase == 2))) :=
  Does.of_parts (exec_taskCfgWrite_disabled ho hk hv) (by simp) (List.forall_mem_append.mpr ⟨taskCfg_lt k (by decide) v, by simp⟩)
    (Frame.on_triggers rfl (Frame.refl _ _ _)) rfl

theorem exec_taskTrigger_none (h : s.triggers.find? (fun g => g.task == (k : Nat) && g.phase == 0) = none) : exec (.taskTrigger k) s = .next s := by
  change execTaskTrigger k s = _
  rw [execTaskTrigger, h]

theorem exec_taskTrigger (h : s.triggers.find? (fun g => g.task == (k : Nat) && g.phase == 0) = some g) :
    exec (.taskTrigger k) s = .next ((s.captureTaken k).deliver g) := by
  change execTaskTrigger k s = _
  rw [execTaskTrigger, h]

section
variable (h : s.triggers.find? (fun g => g.task == (k : Nat) && g.phase == 0) = some g)
include h

theorem taskTrigger_does_deliver (hb : s.taskBusy k = false) : Does (.taskTrigger k) s [.triggers] (fun _ => false) []
    (fun t => t.triggers = removeFirst (fun g => g.task == (k : Nat) && g.phase == 0) s.triggers ++ [{ g with phase := 1 }]) := by
  obtain ⟨hk, hbusy, -⟩ := State.captureTaken_queues h
  have he := exec_taskTrigger h
  rw [State.deliver_idle hk (hbusy.trans hb)] at he
  exact Does.of_parts (l := []) he (by simp) (by simp) (Frame.on_triggers rfl (s.captureTaken_frame k)) rfl

theorem taskTrigger_does_merge (hb : s.taskBusy k = true) (hp : s.is (Fld.EV_TASK_CFG_POL k) = false) :
    Does (.taskTrigger k) s [.triggers] (fun _ => false)
      [(Fld.EV_TASK_STAT_COINC_CNT k, min (s.get (Fld.EV_TASK_STAT_COINC_CNT k) + 1) 4095), (Fld.EV_TASK_STAT_COINC k, 1), (Fld.EV_EVT_TASK_COINC, 1)]
      (fun t => t.triggers.length = (removeFirst (fun g => g.task == (k : Nat) && g.phase == 0) s.triggers).length) := by
  obtain ⟨hk, hbusy, -⟩ := State.captureTaken_queues h
  have he := exec_taskTrigger h
  rw [State.deliver_merge hk (hbusy.trans hb) hp] at he
  exact Does.of_parts he (by simp) (by simp) (Frame.on_triggers rfl (s.captureTaken_frame k)) (length_replaceFirst _)

theorem taskTrigger_does_defer (hb : s.taskBusy k = true) (hp : s.is (Fld.EV_TASK_CFG_POL k) = true) (hd : s.taskDepth k < 4) :
    Does (.taskTrigger k) s [.triggers] (fun _ => false) [(Fld.EV_TASK_STAT_DEPTH k, s.taskDepth k + 1)]
      (fun t => t.triggers = removeFirst (fun g => g.task == (k : Nat) && g.phase == 0) s.triggers ++ [{ g with phase := 2 }]) := by
  obtain ⟨hk, hbusy, hdepth⟩ := State.captureTaken_queues h
  have he := exec_taskTrigger h
  rw [State.deliver_defer hk (hbusy.trans hb) hp (by rwa [hdepth]), hdepth] at he
  exact Does.of_parts he (by simp) (by simp; omega) (Frame.on_triggers rfl (s.captureTaken_frame k)) rfl

theorem taskTrigger_does_overflow (hb : s.taskBusy k = true) (hp : s.is (Fld.EV_TASK_CFG_POL k) = true) (hd : 4 ≤ s.taskDepth k) :
    Does (.taskTrigger k) s [.triggers] (fun _ => false)
      [(Fld.EV_TASK_STAT_OVF_CNT k, min (s.get (Fld.EV_TASK_STAT_OVF_CNT k) + 1) 4095), (Fld.EV_TASK_STAT_OVF k, 1), (Fld.EV_EVT_TASK_OVF, 1)]
      (fun t => t.triggers = removeFirst (fun g => g.task == (k : Nat) && g.phase == 0) s.triggers) := by
  obtain ⟨hk, hbusy, hdepth⟩ := State.captureTaken_queues h
  have he := exec_taskTrigger h
  rw [State.deliver_overflow hk (hbusy.trans hb) hp (by rwa [hdepth])] at he
  exact Does.of_parts he (by simp) (by simp) (s.captureTaken_frame k) rfl

end

/-! ### Direct fires, deferred triggers and counters (R317, R318) -/

/-- The trigger of a direct fire of task `k` (R317). -/
abbrev State.directTrigger (s : State) (k : Nat) : Trigger := ⟨k, 0, s.tick, some (wordUp (s.tick + 8)), s.unref, true, 1⟩

theorem exec_taskFire_idle (ho : s.hostOpen = true) (hx : taskExists (v % 1024) = true) (hk : v % 1024 < 768)
    (he : s.is (Fld.EV_TASK_CFG_EN (v % 1024)) = true) (hb : s.taskBusy (v % 1024) = false) : exec (.taskFire v) s =
      .next (({ s with triggers := s.triggers ++ [s.directTrigger (v % 1024)] } : State).sets [(Fld.EV_TASK_FIRE_TASK, v % 1024)]) := by
  change execTaskFire v s = _
  rw [execTaskFire, State.onHost_open _ _ ho]
  exact congrArg _ ((if_pos (by simp [hx, hk, he])).trans (State.deliver_idle rfl hb))

theorem exec_taskFire_gated (ho : s.hostOpen = true)
    (h : taskExists (v % 1024) = false ∨ 768 ≤ v % 1024 ∨ s.is (Fld.EV_TASK_CFG_EN (v % 1024)) = false) :
    exec (.taskFire v) s = .next (s.sets [(Fld.EV_TASK_FIRE_TASK, v % 1024), (Fld.EV_EVT_TASK_GATED, 1)]) := by
  change execTaskFire v s = _
  rw [execTaskFire, State.onHost_open _ _ ho]
  refine congrArg _ (if_neg ?_)
  rcases h with h | h | h <;> simp [h]

theorem exec_taskDeferDeliver_keeps (h : s.taskBusy k = true ∨ s.taskDepth k = 0) : exec (.taskDeferDeliver k) s = .next s := by
  change execTaskDeferDeliver k s = _
  exact congrArg _ (if_pos (by simpa using h))

theorem exec_taskDeferDeliver (hb : s.taskBusy k = false) (hd : 0 < s.taskDepth k) :
    exec (.taskDeferDeliver k) s = .next ((s.deferTaken k).sets [(Fld.EV_TASK_STAT_DEPTH k, s.taskDepth k - 1)]) := by
  change execTaskDeferDeliver k s = _
  exact congrArg _ (if_neg (by simpa [hb] using Nat.ne_of_gt hd))

theorem taskDeferDeliver_does_deliver (hb : s.taskBusy k = false) (hd : 0 < s.taskDepth k) (h8 : s.taskDepth k < 8) :
    Does (.taskDeferDeliver k) s [.triggers] (fun _ => false) [(Fld.EV_TASK_STAT_DEPTH k, s.taskDepth k - 1)]
      (fun t => t.taskBusy k = true ∧ t.taskDepth k = s.taskDepth k - 1 ∧ t.triggers.length = s.triggers.length) := by
  obtain ⟨hbusy, hdepth⟩ := State.deferTaken_queues hd
  exact Does.of_parts (exec_taskDeferDeliver hb hd) (by simp) (by simp; omega) (Frame.on_triggers rfl (Frame.refl _ _ _))
    ⟨hbusy, hdepth, length_replaceFirst _⟩

/-- The counts of the tasks: COINC_CNT and OVF_CNT. -/
abbrev taskCounts (q : Key) : Bool := q.r == .EV_TASK_STAT && (q.lo == 0 || q.lo == 12)

theorem exec_taskCntClr (ho : s.hostOpen = true) : exec .taskCntClr s = .next (s.resetKeys taskCounts) := by
  change execTaskCntClr s = _
  rw [execTaskCntClr, State.onHost_open _ _ ho]

theorem taskCntClr_does_clear (ho : s.hostOpen = true) : Does .taskCntClr s [] taskCounts []
    (fun t => ∀ k, t.get (Fld.EV_TASK_STAT_COINC_CNT k) = 0 ∧ t.get (Fld.EV_TASK_STAT_OVF_CNT k) = 0) :=
  Does.of_sets (exec_taskCntClr ho) List.nodup_nil (by simp) (Frame.forget (fun _ h => h) (Frame.refl _ _ _)) (by simp) fun k => by
    have hreset : regReset (Fld.EV_TASK_STAT_COINC_CNT k) = 0 ∧ regReset (Fld.EV_TASK_STAT_OVF_CNT k) = 0 := ⟨rfl, rfl⟩
    simp [State.get_resetKeys, hreset]

end

/-- Settles O14: a captured trigger leaves its synchroniser and is delivered by one of the four ways of R318; the other commands write fields or
change the phase of a trigger. -/
theorem taskInputs : Obligations.TaskInputs := by
  refine ⟨fun k v s ho => ⟨exec_taskCfgWrite_reserved ho, fun hk hv => ?enable, taskCfgWrite_does_disable ho⟩,
    fun k s => exec_taskTrigger_none, fun k s g h => ⟨taskTrigger_does_deliver h, taskTrigger_does_merge h, taskTrigger_does_defer h, taskTrigger_does_overflow h⟩,
    fun v s ho => ⟨fun hx hk he hb => ?fire, fun h => ?gated⟩, fun k s => ⟨exec_taskDeferDeliver_keeps, taskDeferDeliver_does_deliver⟩,
    fun s ho => taskCntClr_does_clear ho⟩
  case enable => exact Gives.of_sets (exec_taskCfgWrite_enabled ho hk hv) (by simp) (taskCfg_lt k (by decide) v)
  case fire => exact Does.of_parts (exec_taskFire_idle ho hx hk he hb) (by simp) (by simp; omega) (Frame.on_triggers rfl (Frame.refl _ _ _)) rfl
  case gated => exact Gives.of_sets (exec_taskFire_gated ho h) (by simp) (by simp; omega)

end Sys2Proof.Machine
end

section
/-!
PROOFS. Task actions (O15): what the blocks of the group, archive and doorbell tasks do with the trigger they take, and the pulse of a core.
-/
namespace Sys2Proof.Machine

section
variable {s : State} {q : Trigger}

/-- The block of a task without a trigger to act on accepts the one that waits (R318). -/
theorem State.onTask_none {k : Nat} {b : Bool} {f : Trigger → State → State} (h : s.waiting k b = none) : s.onTask k b f =
    { s with triggers := replaceFirst (fun g => g.task == k && g.phase == 1) (fun g => { g with phase := 3 }) s.triggers } := by
  rw [State.waiting] at h
  rw [State.onTask, State.acceptTask, h]

/-! ### Groups (R311, R315) -/

theorem exec_groupEnableTask {g : Fin 16} (hq : s.waiting (168 + g) false = some q) :
    exec (.groupEnableTask g) s = .next ((s.triggerTaken q).sets [(Fld.EV_GRP_EN_EN, s.get Fld.EV_GRP_EN_EN ||| 2 ^ (g : Nat))]) := by
  change execGroupEnableTask g s = _
  rw [execGroupEnableTask, State.onTask_waiting hq, State.groupEnable, Nat.one_shiftLeft]
  rfl

theorem groupEnableTask_does_enable {g : Fin 16} (hq : s.waiting (168 + g) false = some q) : Does (.groupEnableTask g) s [.triggers] (fun _ => false)
    [(Fld.EV_GRP_EN_EN, s.get Fld.EV_GRP_EN_EN ||| 2 ^ (g : Nat))] (fun t => t.triggers = s.without q) := by
  have hfits : s.get Fld.EV_GRP_EN_EN ||| 2 ^ (g : Nat) < 2 ^ 16 := Nat.or_lt_two_pow (s.get_lt Fld.EV_GRP_EN_EN) (Nat.pow_lt_pow_right (by decide) g.isLt)
  exact Does.of_parts (exec_groupEnableTask hq) (by simp) (by simpa using hfits) (s.triggerTaken_frame q) rfl

theorem exec_groupDisableTask {g : Fin 16} (hq : s.waiting (184 + g) false = some q) :
    exec (.groupDisableTask g) s = .next ((s.triggerTaken q).groupOff g) := by
  change execGroupDisableTask g s = _
  rw [execGroupDisableTask, State.onTask_waiting hq]

theorem groupDisableTask_does_disable {g : Fin 16} (hq : s.waiting (184 + g) false = some q) :
    Does (.groupDisableTask g) s [.triggers] (fun k => k.r == .L_EVC_LOOPS || k == Fld.EV_GRP_EN_EN) []
      (fun t => t.triggers = s.without q ∧ (∀ j < 16, (t.get Fld.EV_GRP_EN_EN).testBit j = ((s.get Fld.EV_GRP_EN_EN).testBit j && j != g)) ∧
        ∀ c < 128, t.get (Lat.EVC_LOOPS c) = if s.groupOf c = g then 0 else s.get (Lat.EVC_LOOPS c)) := by
  have hoff := (s.triggerTaken q).groupOff_frame g
  refine Does.of_sets (exec_groupDisableTask hq) List.nodup_nil (by simp) ?_ (by simp)
    ⟨hoff.1 .triggers (by simp), fun j _ => State.groupOff_enabled _ _ _, fun c hc => State.groupOff_loops _ _ _ hc⟩
  exact ((s.triggerTaken_frame q).mono (by simp) (by simp)).trans (hoff.mono (by simp) fun _ h => h)

/-! ### The archive (R315, R344) -/

/-- The entry that archive task `k` gives for its trigger. -/
abbrev Trigger.logged (q : Trigger) (k : Nat) : List Nat :=
  archiveEntry 8 false q.unref false q.direct (unitTask (232 + k)) (q.s.getD 0) 0 [if q.direct then 0 else q.ch]

theorem exec_archiveLogTask {k : Fin 8} (hq : s.waiting (232 + k) true = some q) :
    exec (.archiveLogTask k) s = .next ((s.triggerTaken q).accept (q.logged k)) := by
  change execArchiveLogTask k s = _
  rw [execArchiveLogTask, State.onTask_waiting hq]

theorem archiveLogTask_does_archive {k : Fin 8} (hq : s.waiting (232 + k) true = some q) :
    Does (.archiveLogTask k) s [.triggers, .arcBuf] archiveLoss [] (fun t => t.triggers = s.without q ∧ Archived s t (q.logged k)) := by
  have hlog := (s.triggerTaken q).accept_frame (q.logged k)
  refine Does.of_sets (exec_archiveLogTask hq) List.nodup_nil (by simp) ?_ (by simp)
    ⟨hlog.1 .triggers (by simp), Archived.of_before (s.triggerTaken_frame q) (State.accept_archived _ _) (by simp) rfl⟩
  exact ((s.triggerTaken_frame q).mono (by simp) (by simp)).trans (hlog.mono (by simp) fun _ h => h)

/-! ### Doorbells and cores (R304, R315) -/

/-- The task of doorbell `b` of core `c`. -/
abbrev doorbellTask (c b : Nat) : Nat := 384 + 32 * c + b

variable {c : Fin 8} {b : Fin 32}

theorem exec_doorbell (hq : s.waiting (doorbellTask c b) false = some q) :
    exec (.doorbell c b) s = .next (((s.triggerTaken q).emit (.core c b)).sets [(Lat.DOORBELL c, s.get (Lat.DOORBELL c) ||| 2 ^ (b : Nat))]) := by
  change execDoorbell c b s = _
  rw [execDoorbell, State.onTask_waiting hq, Nat.one_shiftLeft]
  rfl

theorem doorbell_does_ring (hq : s.waiting (doorbellTask c b) false = some q) : Does (.doorbell c b) s [.triggers, .out] (fun _ => false)
    [(Lat.DOORBELL c, s.get (Lat.DOORBELL c) ||| 2 ^ (b : Nat))] (fun t => t.triggers = s.without q ∧ t.out = .core c b :: s.out) := by
  have hfits : s.get (Lat.DOORBELL c) ||| 2 ^ (b : Nat) < 2 ^ 32 := Nat.or_lt_two_pow (s.get_lt (Lat.DOORBELL c)) (Nat.pow_lt_pow_right (by decide) b.isLt)
  exact Does.of_parts (exec_doorbell hq) (by simp) (by simpa using hfits) (Frame.on_out rfl (Frame.on_triggers rfl (Frame.refl _ _ _))) ⟨rfl, rfl⟩

theorem exec_doorbell_none (hq : s.waiting (doorbellTask c b) false = none) : exec (.doorbell c b) s = .next
    { s with triggers := replaceFirst (fun g => g.task == doorbellTask c b && g.phase == 1) (fun g => { g with phase := 3 }) s.triggers } := by
  change execDoorbell c b s = _
  rw [execDoorbell, State.onTask_none hq]

theorem exec_ccProducerPulse_halted {t : Fin 8} (h : s.is (Lat.CC_HALTED t) = true) : exec (.ccProducerPulse t) s = .next s := by
  change execCcProducerPulse t s = _
  rw [execCcProducerPulse, if_pos h]

/-- Firmware's producer of a core is none of the reserved ones. -/
theorem producerReserved_core : ∀ t : Fin 8, producerReserved (32 * t + 30) = false := by decide

theorem exec_ccProducerPulse_running {t : Fin 8} (h : s.is (Lat.CC_HALTED t) = false) (ha : s.asleep = false) :
    exec (.ccProducerPulse t) s = .next (s.edgesSent (32 * t + 30) none) := by
  change execCcProducerPulse t s = _
  rw [execCcProducerPulse, if_neg (by simp [h]), State.pulse_sends (producerReserved_core t) (.inl ha)]

end

/-- Settles O15: each block acts on the trigger it takes, and a doorbell without one only accepts the trigger that waits. -/
theorem taskActions : Obligations.TaskActions := by
  refine ⟨fun g s q => groupEnableTask_does_enable, fun g s q => groupDisableTask_does_disable, fun k s q => archiveLogTask_does_archive,
    fun c b s q => doorbell_does_ring, fun c b s h => ?quiet, fun t s => exec_ccProducerPulse_halted, fun t s h ha => ?pulse⟩
  case quiet => exact Does.of_parts (l := []) (exec_doorbell_none h) (by simp) (by simp) (Frame.on_triggers rfl (Frame.refl _ _ _)) rfl
  case pulse => exact Does.of_parts (l := []) (exec_ccProducerPulse_running h ha) (by simp) (by simp) (s.edgesSent_frame _ _) rfl

end Sys2Proof.Machine
end

section
/-!
PROOFS. Timers, thresholds and the EVIO pins (O16): the ways a timer is armed, the comparison of a threshold, and the pulses that each sends.
-/
namespace Sys2Proof.Machine

/-! ### Timers (R319) -/

section
variable {s : State} {k w : Nat}

/-- The period of timer `k`. -/
abbrev State.timerPeriod (s : State) (k : Nat) : Nat := s.get2 (Fld.EV_TMR_PER_LO k) (Fld.EV_TMR_PER_HI k)

/-- The offset of timer `k`. -/
abbrev State.timerOffset (s : State) (k : Nat) : Nat := s.get2 (Fld.EV_TMR_OFS_LO k) (Fld.EV_TMR_OFS_HI k)

theorem State.timerArm_off (h : s.is (Fld.EV_TMR_CFG_EN k) = false) : s.timerArm k w = s.sets [(Lat.TMR_RUN k, 0)] := if_pos (by simp [h])

section
variable (he : s.is (Fld.EV_TMR_CFG_EN k) = true)
include he

theorem State.timerArm_oneShot (hm : s.is (Fld.EV_TMR_CFG_MODE k) = true) (ho : w ≤ s.timerOffset k) :
    s.timerArm k w = s.sets [(Lat.TMR_NEXT k, s.timerOffset k), (Lat.TMR_RUN k, 1)] :=
  (if_neg (by simp [he])).trans ((if_pos hm).trans (if_neg (Nat.not_lt.mpr ho)))

theorem State.timerArm_oneShot_late (hm : s.is (Fld.EV_TMR_CFG_MODE k) = true) (ho : s.timerOffset k < w) :
    s.timerArm k w = s.sets [(Fld.EV_TMR_CFG_EN k, 0), (Lat.TMR_RUN k, 0), (Fld.EV_EVT_TMR_LATE, 1)] :=
  (if_neg (by simp [he])).trans ((if_pos hm).trans (if_pos ho))

theorem State.timerArm_periodic (hm : s.is (Fld.EV_TMR_CFG_MODE k) = false) (h8 : s.timerPeriod k % 8 = 0) (h64 : 64 ≤ s.timerPeriod k) :
    s.timerArm k w = s.sets [(Lat.TMR_NEXT k, gridFrom w (s.timerPeriod k) (s.timerOffset k) % 2 ^ 64), (Lat.TMR_RUN k, 1)] := by
  rw [State.sets_cons, State.set_mod s (Lat.TMR_NEXT k)]
  exact (if_neg (by simp [he])).trans ((if_neg (by simp [hm])).trans (if_pos ⟨h8, h64⟩))

theorem State.timerArm_periodic_bad (hm : s.is (Fld.EV_TMR_CFG_MODE k) = false) (h : s.timerPeriod k % 8 ≠ 0 ∨ s.timerPeriod k < 64) :
    s.timerArm k w = s.sets [(Lat.TMR_RUN k, 0), (Fld.EV_EVT_TMR_LATE, 1)] :=
  (if_neg (by simp [he])).trans ((if_neg (by simp [hm])).trans (if_neg fun hok => h.elim (· hok.1) (Nat.not_lt.mpr hok.2)))

end

end

section
variable {s : State} {k : Fin 16} {v : Nat}

/-- The state in which a write of EV_TMR_CFG has stored its fields. -/
abbrev State.timerSet (s : State) (k v : Nat) : State :=
  s.sets [(Fld.EV_TMR_CFG_EN k, (v.testBit 31).toNat), (Fld.EV_TMR_CFG_MODE k, (v.testBit 30).toNat)]

theorem State.timerSet_enabled (s : State) (k v : Nat) : (s.timerSet k v).is (Fld.EV_TMR_CFG_EN k) = v.testBit 31 := by
  cases h : v.testBit 31 <;> simp [h]

theorem State.timerSet_oneShot (s : State) (k v : Nat) : (s.timerSet k v).is (Fld.EV_TMR_CFG_MODE k) = v.testBit 30 := by
  cases h : v.testBit 30 <;> simp [h]

theorem State.timerSet_period (s : State) (k v : Nat) : (s.timerSet k v).timerPeriod k = s.timerPeriod k := by simp [State.get2, State.get_set]

theorem State.timerSet_offset (s : State) (k v : Nat) : (s.timerSet k v).timerOffset k = s.timerOffset k := by simp [State.get2, State.get_set]

theorem exec_timerCfgWrite (ho : s.hostOpen = true) :
    exec (.timerCfgWrite k v) s = .next ((s.timerSet k v).timerArm k (wordNext s.tick)) := by
  change execTimerCfgWrite k v s = _
  rw [execTimerCfgWrite, State.onHost_open _ _ ho, bitsOf_bit, bitsOf_bit]
  rfl

theorem timerCfgWrite_gives_off (ho : s.hostOpen = true) (he : v.testBit 31 = false) :
    Gives (.timerCfgWrite k v) s [(Fld.EV_TMR_CFG_EN k, 0), (Fld.EV_TMR_CFG_MODE k, bitsOf v 30 1), (Lat.TMR_RUN k, 0)] := by
  have hx := exec_timerCfgWrite (k := k) (v := v) ho
  rw [State.timerArm_off ((s.timerSet_enabled k v).trans he), ← State.sets_append, he, ← bitsOf_bit] at hx
  exact Gives.of_sets hx (by simp) (by simpa using bitsOf_lt v 30 1)

theorem timerCfgWrite_gives_oneShot (ho : s.hostOpen = true) (he : v.testBit 31 = true) (hm : v.testBit 30 = true)
    (hofs : wordNext s.tick ≤ s.timerOffset k) : Gives (.timerCfgWrite k v) s
      [(Fld.EV_TMR_CFG_EN k, 1), (Fld.EV_TMR_CFG_MODE k, 1), (Lat.TMR_RUN k, 1), (Lat.TMR_NEXT k, s.timerOffset k)] := by
  have hx := exec_timerCfgWrite (k := k) (v := v) ho
  have hlt : s.timerOffset k < 2 ^ 64 := lt_of_lt_of_le (s.get2_lt _ _) (by norm_num)
  rw [State.timerArm_oneShot ((s.timerSet_enabled k v).trans he) ((s.timerSet_oneShot k v).trans hm) (by rwa [State.timerSet_offset]),
    State.timerSet_offset, ← State.sets_append, he, hm] at hx
  exact Does.of_writes hx (by simp [named]) (by simpa [State.get_set] using hlt) trivial

theorem timerCfgWrite_gives_late (ho : s.hostOpen = true) (he : v.testBit 31 = true) (hm : v.testBit 30 = true)
    (hofs : s.timerOffset k < wordNext s.tick) : Gives (.timerCfgWrite k v) s
      [(Fld.EV_TMR_CFG_EN k, 0), (Fld.EV_TMR_CFG_MODE k, 1), (Lat.TMR_RUN k, 0), (Fld.EV_EVT_TMR_LATE, 1)] := by
  have hx := exec_timerCfgWrite (k := k) (v := v) ho
  rw [State.timerArm_oneShot_late ((s.timerSet_enabled k v).trans he) ((s.timerSet_oneShot k v).trans hm) (by rwa [State.timerSet_offset]),
    ← State.sets_append, he, hm] at hx
  exact Does.of_writes hx (by simp [named]) (by simp [State.get_set]) trivial

theorem timerCfgWrite_gives_periodic (ho : s.hostOpen = true) (he : v.testBit 31 = true) (hm : v.testBit 30 = false)
    (h8 : s.timerPeriod k % 8 = 0) (h64 : 64 ≤ s.timerPeriod k) : Gives (.timerCfgWrite k v) s
      [(Fld.EV_TMR_CFG_EN k, 1), (Fld.EV_TMR_CFG_MODE k, 0), (Lat.TMR_RUN k, 1),
        (Lat.TMR_NEXT k, gridFrom (wordNext s.tick) (s.timerPeriod k) (s.timerOffset k) % 2 ^ 64)] := by
  have hx := exec_timerCfgWrite (k := k) (v := v) ho
  rw [State.timerArm_periodic ((s.timerSet_enabled k v).trans he) ((s.timerSet_oneShot k v).trans hm) (by rwa [State.timerSet_period])
    (by rwa [State.timerSet_period]), State.timerSet_period, State.timerSet_offset, ← State.sets_append, he, hm] at hx
  exact Does.of_writes hx (by simp [named]) (by simp [State.get_set]) trivial

theorem timerCfgWrite_gives_bad (ho : s.hostOpen = true) (he : v.testBit 31 = true) (hm : v.testBit 30 = false)
    (h : s.timerPeriod k % 8 ≠ 0 ∨ s.timerPeriod k < 64) : Gives (.timerCfgWrite k v) s
      [(Fld.EV_TMR_CFG_EN k, 1), (Fld.EV_TMR_CFG_MODE k, 0), (Lat.TMR_RUN k, 0), (Fld.EV_EVT_TMR_LATE, 1)] := by
  have hx := exec_timerCfgWrite (k := k) (v := v) ho
  rw [State.timerArm_periodic_bad ((s.timerSet_enabled k v).trans he) ((s.timerSet_oneShot k v).trans hm) (by rwa [State.timerSet_period]),
    ← State.sets_append, he, hm] at hx
  exact Gives.of_sets hx (by simp) (by simp)

theorem exec_timerFire_stopped (h : s.is (Lat.TMR_RUN k) = false) : exec (.timerFire k) s = .next s := by
  change execTimerFire k s = _
  exact congrArg _ (if_neg (by simp [h]))

/-- What a timer that fires writes: a one-shot ends, a periodic one moves on. -/
abbrev State.timerFired (s : State) (k : Nat) : List (Key × Nat) :=
  if s.is (Fld.EV_TMR_CFG_MODE k) then [(Fld.EV_TMR_CFG_EN k, 0), (Lat.TMR_RUN k, 0)]
  else [(Lat.TMR_NEXT k, (s.get (Lat.TMR_NEXT k) + s.timerPeriod k) % 2 ^ 64)]

theorem exec_timerFire_due (hr : s.is (Lat.TMR_RUN k) = true) (ht : s.get (Lat.TMR_NEXT k) ≤ s.tick) (ha : s.asleep = false) :
    exec (.timerFire k) s = .next ((s.edgesSent (404 + k) (some (s.get (Lat.TMR_NEXT k)))).sets (s.timerFired k)) := by
  have hdue : (s.is (Lat.TMR_RUN k) && decide (s.get (Lat.TMR_NEXT k) ≤ s.now) && !s.asleep) = true := by simp [hr, State.now, ht, ha]
  change execTimerFire k s = _
  rw [execTimerFire, State.pulse_sends (producerReserved_of_lt (by omega) (by omega) (by omega)) (.inl ha)]
  refine congrArg _ ((if_pos hdue).trans ?_)
  cases hm : s.is (Fld.EV_TMR_CFG_MODE k)
  · rw [State.timerFired, hm, if_neg Bool.false_ne_true, if_neg Bool.false_ne_true, State.sets_cons, State.set_mod _ (Lat.TMR_NEXT k)]
    rfl
  · rw [State.timerFired, hm, if_pos rfl, if_pos rfl]
    rfl

end

/-! ### Thresholds (R320) -/

section
variable {s : State} {k : Fin 32} {x : Int}

/-- The level at which threshold `k` rises, in the unit of its signal. -/
abbrev State.thresholdRise (s : State) (k : Nat) : Int := s.geti (Fld.EV_THR_LVL_LEVEL k) * 256

/-- The level below which it falls. -/
abbrev State.thresholdFall (s : State) (k : Nat) : Int := (s.geti (Fld.EV_THR_LVL_LEVEL k) - s.get (Fld.EV_THR_LVL_HYST k)) * 256

/-- Whether a crossing upwards or downwards is one that threshold `k` reports. -/
abbrev State.thresholdWanted (s : State) (k : Nat) (above : Bool) : Bool :=
  (above && s.get (Fld.EV_THR_CFG_DIR k) != 1) || (!above && s.get (Fld.EV_THR_CFG_DIR k) != 0)

/-- The state in which threshold `k` has changed sides, with the pulse of the crossing when it is wanted and the word has had none. -/
def State.thresholdCrossed (s : State) (k : Nat) (above : Bool) : State :=
  if s.thresholdWanted k above && s.get (Lat.THR_WORD k) != s.tick / 8 + 1 then
    (s.sets [(Lat.THR_ABOVE k, above.toNat), (Lat.THR_WORD k, s.tick / 8 + 1)]).pulse (420 + k) (some s.tick)
  else s.set (Lat.THR_ABOVE k) above.toNat

theorem State.thresholdCrossed_frame (s : State) (k : Nat) (above : Bool) :
    Frame (s.sets [(Lat.THR_ABOVE k, above.toNat)]) (s.thresholdCrossed k above) [.edges] (fun y => y == Lat.THR_WORD k) := by
  unfold State.thresholdCrossed
  split
  · exact (State.pulse_frame ..).via rfl (by simp) (Frame.set _ _ _ (by simp))
  · exact Frame.refl _ _ _

section
variable (hen : s.is (Fld.EV_THR_CFG_EN k) = true) (hsrc : s.is (Fld.EV_THR_CFG_SRC_KIND k) = true)
include hen hsrc

theorem exec_thresholdCross_rises (hb : s.is (Lat.THR_ABOVE k) = false) (hx : s.thresholdRise k ≤ x) :
    exec (.thresholdCross k x) s = .next (s.thresholdCrossed k true) := by
  change execThresholdCross k x s = _
  simp only [execThresholdCross, hsrc, hb, hen, if_true, Bool.false_eq_true, if_false, decide_eq_true hx]
  rfl

theorem exec_thresholdCross_falls (ha : s.is (Lat.THR_ABOVE k) = true) (hx : x < s.thresholdFall k) :
    exec (.thresholdCross k x) s = .next (s.thresholdCrossed k false) := by
  change execThresholdCross k x s = _
  simp only [execThresholdCross, hsrc, ha, hen, if_true, decide_eq_true hx]
  rfl

end

theorem exec_thresholdCross_below (hsrc : s.is (Fld.EV_THR_CFG_SRC_KIND k) = true) (hb : s.is (Lat.THR_ABOVE k) = false) (hx : x < s.thresholdRise k) :
    exec (.thresholdCross k x) s = .next s := by
  have hno : decide (s.thresholdRise k ≤ x) = false := decide_eq_false (not_le.mpr hx)
  change execThresholdCross k x s = _
  simp only [execThresholdCross, hsrc, hb, if_true, Bool.false_eq_true, if_false, hno]
  simp

/-- A wanted crossing in a word that has had none pulses the threshold's producer. -/
theorem State.thresholdCrossed_pulses {above : Bool} (hw : s.thresholdWanted k above = true) (ha : s.asleep = false)
    (hn : s.get (Lat.THR_WORD k) ≠ s.tick / 8 + 1) :
    s.thresholdCrossed k above = (s.edgesSent (420 + k) (some s.tick)).sets [(Lat.THR_ABOVE k, above.toNat), (Lat.THR_WORD k, s.tick / 8 + 1)] := by
  have ha' : (s.sets [(Lat.THR_ABOVE k, above.toNat), (Lat.THR_WORD k, s.tick / 8 + 1)]).asleep = false := by
    simpa [State.asleep, State.get_set] using ha
  rw [State.thresholdCrossed, if_pos (by simp [hw, hn]), State.pulse_sends (producerReserved_of_lt (by omega) (by omega) (by omega)) (.inl ha'),
    State.sets_cons, State.sets_cons, State.sets_nil, State.edgesSent_set _ (by simp), State.edgesSent_set _ (by simp)]
  rfl

theorem thresholdCross_does_rise (hen : s.is (Fld.EV_THR_CFG_EN k) = true) (hsrc : s.is (Fld.EV_THR_CFG_SRC_KIND k) = true) (ht : s.tick < 2 ^ 60)
    (hb : s.is (Lat.THR_ABOVE k) = false) (hx : s.thresholdRise k ≤ x) :
    Does (.thresholdCross k x) s [.edges] (fun y => y == Lat.THR_WORD k) [(Lat.THR_ABOVE k, 1)]
      (fun t => s.get (Fld.EV_THR_CFG_DIR k) ≠ 1 → s.asleep = false → s.get (Lat.THR_WORD k) ≠ s.tick / 8 + 1 →
        t.edges = s.edges ++ (s.channelsOf (420 + k)).map (fun c => ⟨c, 420 + k, some s.tick⟩) ∧ t.get (Lat.THR_WORD k) = s.tick / 8 + 1) := by
  refine Does.of_sets (exec_thresholdCross_rises hen hsrc hb hx) (by simp) (by simp) (s.thresholdCrossed_frame k true) (by simp) fun hd ha hn => ?_
  have hfits : (s.tick / 8 + 1) % 2 ^ 64 = s.tick / 8 + 1 := Nat.mod_eq_of_lt (by omega)
  rw [State.thresholdCrossed_pulses (by simpa using hd) ha hn]
  exact ⟨rfl, (State.get_set_self _ _ _).trans hfits⟩

theorem thresholdCross_does_fall (hen : s.is (Fld.EV_THR_CFG_EN k) = true) (hsrc : s.is (Fld.EV_THR_CFG_SRC_KIND k) = true)
    (ha : s.is (Lat.THR_ABOVE k) = true) (hx : x < s.thresholdFall k) :
    Does (.thresholdCross k x) s [.edges] (fun y => y == Lat.THR_WORD k) [(Lat.THR_ABOVE k, 0)]
      (fun t => s.get (Fld.EV_THR_CFG_DIR k) = 0 → t.edges = s.edges) := by
  refine Does.of_sets (exec_thresholdCross_falls hen hsrc ha hx) (by simp) (by simp) (s.thresholdCrossed_frame k false) (by simp) fun hd => ?_
  rw [State.thresholdCrossed, if_neg (by simp [hd])]
  rfl

end

/-! ### Pins (R70, R321) -/

section
variable {s : State} {n : Fin 16} {h : Bool} {p : Nat × Nat}

theorem exec_evioInputEdge_quiet (hq : s.is (Lat.EVIO_IN n) = h ∨ s.is (Fld.EV_EVIO_CFG_DIR n) = true ∨ s.is (Fld.EV_EVIO_CFG_FALL n) = h) :
    exec (.evioInputEdge n h) s = .next (s.sets [(Lat.EVIO_IN n, h.toNat)]) := by
  change execEvioInputEdge n h s = _
  rw [execEvioInputEdge]
  rcases hq with hq | hq | hq <;> simp [hq]

/-- The edge that a pin's configuration selects pulses its producer, in DEEP_SLEEP too (R313). -/
theorem exec_evioInputEdge_selected (hi : s.is (Lat.EVIO_IN n) ≠ h) (hd : s.is (Fld.EV_EVIO_CFG_DIR n) = false)
    (hf : s.is (Fld.EV_EVIO_CFG_FALL n) ≠ h) (hu : s.evioUsable n = true) :
    exec (.evioInputEdge n h) s = .next ((s.edgesSent (256 + n) none).sets [(Lat.EVIO_IN n, h.toNat)]) := by
  have hsel : (s.is (Lat.EVIO_IN n) != h && s.evioUsable n && !s.is (Fld.EV_EVIO_CFG_DIR n) && h != s.is (Fld.EV_EVIO_CFG_FALL n)) = true := by
    simp [hi, hd, hf.symm, hu]
  change execEvioInputEdge n h s = _
  rw [execEvioInputEdge, hsel, State.when_true, State.pulse_sends (producerReserved_of_lt (by omega) (by omega) (by omega)) (.inr (by omega)), State.edgesSent_set _ (by simp)]
  rfl

/-- The state in which an ALIGN pulse has been taken from those that are due. -/
abbrev State.alignTaken (s : State) (p : Nat × Nat) : State := { s with alignDue := removeFirst (fun q => q == p) s.alignDue }

theorem State.alignTaken_frame (s : State) (p : Nat × Nat) : Frame s (s.alignTaken p) [.alignDue] (fun _ => false) :=
  Frame.on_alignDue rfl (Frame.refl _ _ _)

theorem exec_evioAlignPulse_held (hp : s.alignDue.find? (fun p => p.1 == (n : Nat) && p.2 ≤ s.tick) = some p) (hh : s.countHeld = true) :
    exec (.evioAlignPulse n) s = .next (s.alignTaken p) := by
  change execEvioAlignPulse n s = _
  rw [execEvioAlignPulse, State.now, hp]
  exact congrArg _ (if_pos (by simp [hh]))

/-- The ticks for which pin `n` is driven. -/
abbrev State.alignWidth (s : State) (n : Nat) : Nat := max 8 (s.get (Fld.EV_EVIO_CFG_WIDTH n))

theorem exec_evioAlignPulse_drives (hp : s.alignDue.find? (fun p => p.1 == (n : Nat) && p.2 ≤ s.tick) = some p)
    (hd : s.is (Fld.EV_EVIO_CFG_DIR n) = true) (hm : s.is (Fld.EV_EVIO_CFG_MODE n) = true) (ha : s.asleep = false) (hh : s.countHeld = false) :
    exec (.evioAlignPulse n) s = .next (((s.alignTaken p).emit (.pin n p.2 (s.alignWidth n))).sets
      [(Lat.EVIO_OUT n, 1), (Lat.EVIO_FALL_AT n, (p.2 + s.alignWidth n) % 2 ^ 64)]) := by
  change execEvioAlignPulse n s = _
  rw [execEvioAlignPulse, State.now, hp, State.sets_cons, State.sets_cons, State.set_mod _ (Lat.EVIO_FALL_AT n)]
  exact congrArg _ (if_neg (by simp [ha, hh, hd, hm]))

end

/-- Settles O16: a timer is armed in one of five ways and fires by pulsing its producer; a threshold that changes sides, a selected input edge and a
due ALIGN pulse write their latches around what they send. -/
theorem timersThresholdsAndPins : Obligations.TimersThresholdsAndPins := by
  refine ⟨fun k v s ho => ⟨timerCfgWrite_gives_off ho, timerCfgWrite_gives_oneShot ho, timerCfgWrite_gives_late ho, timerCfgWrite_gives_periodic ho,
      timerCfgWrite_gives_bad ho⟩, fun k s => exec_timerFire_stopped, fun k s hr ht ha => ⟨fun hm => ?oneShot, fun hm => ?periodic⟩,
    fun k x s hen hsrc ht => ⟨thresholdCross_does_rise hen hsrc ht, thresholdCross_does_fall hen hsrc, exec_thresholdCross_below hsrc⟩,
    fun n h s => ⟨fun hq => ?quiet, fun hi hd hf hu => ?selected⟩, fun n s p hp hd hm => ⟨fun ha hh => ?drives, fun hh => ?held⟩⟩
  case oneShot =>
    have he := exec_timerFire_due hr ht ha
    rw [State.timerFired, if_pos hm] at he
    exact Does.of_parts he (by simp) (by simp) (s.edgesSent_frame _ _) rfl
  case periodic =>
    have he := exec_timerFire_due hr ht ha
    rw [State.timerFired, if_neg (by simp [hm])] at he
    exact Does.of_parts he (by simp) (by simpa using Nat.mod_lt _ (by decide)) (s.edgesSent_frame _ _) rfl
  case quiet => exact Gives.of_sets (exec_evioInputEdge_quiet hq) (by simp) (by simpa using Bool.toNat_lt h)
  case selected => exact Does.of_parts (exec_evioInputEdge_selected hi hd hf hu) (by simp) (by simpa using Bool.toNat_lt h) (s.edgesSent_frame _ _) rfl
  case drives =>
    exact Does.of_parts (exec_evioAlignPulse_drives hp hd hm ha hh) (by simp) (by simpa using Nat.mod_lt _ (by decide))
      (Frame.on_out rfl ((s.alignTaken_frame p).mono (by simp) (by simp))) ⟨rfl, rfl⟩
  case held => exact Does.of_parts (l := []) (exec_evioAlignPulse_held hp hh) (by simp) (by simp) (s.alignTaken_frame p) rfl

end Sys2Proof.Machine
end

section
/-!
PROOFS. What a target is presented with (O17): the reads that decide it are those that presentation leaves alone, and it ends in a withdrawal, or in
a source shown with or without a message.
-/
namespace Sys2Proof.Machine

/-! ### What requests, wakefulness and candidates read (R324 to R327) -/

/-- A fold whose every step, taken from a state that the frame allows, stays in the frame. -/
theorem Frame.each_of {α : Type} {s : State} {ps : List Part} {p : Key → Bool} {f : α → State → State} (l : List α)
    (h : ∀ x ∈ l, ∀ a, Frame s a ps p → Frame a (f x a) ps p) {a : State} (ha : Frame s a ps p) : Frame s (a.each l f) ps p := by
  induction l generalizing a with
  | nil => exact ha
  | cons x l ih => exact ih (fun y hy => h y (List.mem_cons_of_mem _ hy)) (ha.trans (h x List.mem_cons_self a ha))

/-- The word of a register reads the fields of that register alone. -/
theorem State.word_congr {s t : State} {r : RName} (h : ∀ k, k.r = r → t.get k = s.get k) (i j : Nat) : t.word r i j = s.word r i j := by
  have hget : ∀ lo w, t.get ⟨r, i, j, lo, w⟩ = s.get ⟨r, i, j, lo, w⟩ := fun lo w => h _ rfl
  simp only [State.word, hget]

/-- The registers that presentations and their withdrawal change, none of which a source or a target's wakefulness reads. -/
abbrev presentRegs : List RName := [.IC_TGT_STATUS, .L_IC_WOKEN, .SYS_MSIX_PBA]

section
variable {s t : State} (h : ∀ k, among presentRegs k = false → t.get k = s.get k)
include h

theorem State.request_congr (n : Nat) : t.request n = s.request n := by
  have hword : ∀ r i, presentRegs.contains r = false → t.word r i 0 = s.word r i 0 := fun r i hr =>
    State.word_congr (fun k hk => h k (by rw [among, hk, hr])) i 0
  simp [State.request, State.enabled, State.is, hword, h, among]

theorem State.requesting_congr (n : Nat) : t.requesting n = s.requesting n := by
  rw [State.requesting, State.requesting, State.request_congr h, State.is, State.is, h _ (by simp [among])]

theorem State.awake_congr (n : Nat) : t.awake n = s.awake n := by simp [State.awake, State.is, h, among]

theorem State.target_congr (n : Nat) : t.target n = s.target n := by simp [State.target, State.is, State.awake_congr h, h, among]

theorem State.candidate_congr (n : Nat) : t.candidate n = s.candidate n := by
  simp only [State.candidate, State.requesting_congr h, State.target_congr h]

end

/-- Sources have numbers below 256. -/
theorem State.candidate_lt {s : State} {t n : Nat} {sec : Bool} (h : s.candidate t = some (n, sec)) : n < 256 := by
  obtain ⟨m, hm, he⟩ := List.exists_of_findSome?_eq_some h
  have hnm : m = n := by
    split at he
    · split at he
      · split at he
        · exact congrArg Prod.fst (Option.some.inj he)
        · cases he
      · cases he
    · cases he
  exact hnm ▸ List.mem_range.mp hm

/-! ### Withdrawals and messages (R327, R330, R331, R433) -/

section
variable (s : State) (t n v : Nat) (sec : Bool)

/-- The fields that a withdrawal at target `t` can change. -/
abbrev withdrawOf (t : Nat) (k : Key) : Bool := k == Fld.IC_TGT_STATUS_PRESENTED t || (decide (t < 4) && k == Fld.SYS_MSIX_PBA t)

theorem State.withdraw_frame : Frame s (s.withdraw t) [] (withdrawOf t) := by
  unfold State.withdraw
  by_cases ht : t < 4
  · exact (Frame.set _ _ _ (by simp)).trans (Frame.when _ _ (Frame.set _ _ _ (by simp [ht])))
  · rw [decide_eq_false ht]
    exact Frame.set _ _ _ (by simp)

theorem State.withdraw_presented (u : Nat) :
    (s.withdraw t).get (Fld.IC_TGT_STATUS_PRESENTED u) = if t = u then 0x3FF else s.get (Fld.IC_TGT_STATUS_PRESENTED u) := by
  unfold State.withdraw
  rw [State.when_keeps (fun a => a.get (Fld.IC_TGT_STATUS_PRESENTED u)) _ _ _ (by simp [State.get_set])]
  simp [State.get_set]

theorem State.withdraw_pba (ht : t < 4) : (s.withdraw t).get (Fld.SYS_MSIX_PBA t) = 0 := by simp [State.withdraw, ht, State.when]

theorem State.message_unmasked (h : (s.get (vectorMask t v)).testBit 0 = false) : s.message t v = s.emit (.msix t v) :=
  if_neg (by rw [h]; exact Bool.false_ne_true)

theorem State.message_masked (h : (s.get (vectorMask t v)).testBit 0 = true) :
    s.message t v = s.set (Fld.SYS_MSIX_PBA t) (s.get (Fld.SYS_MSIX_PBA t) ||| 2 ^ v) := by
  rw [← Nat.one_shiftLeft]
  exact if_pos h

/-- A PF has two vectors. -/
theorem State.vectorOf_le : s.vectorOf t n ≤ 1 := by
  unfold State.vectorOf
  split <;> decide

/-- The state in which target `t` shows source `n`, as its secondary target when `sec`. -/
def State.shown : State := (s.set (Fld.IC_TGT_STATUS_PRESENTED t) n).when sec (fun a => a.flag Fld.IC_EVT_TO_SECONDARY)

theorem State.shown_frame : Frame s (s.shown t n sec) [] (fun k => k == Fld.IC_TGT_STATUS_PRESENTED t || k == Fld.IC_EVT_TO_SECONDARY) :=
  (Frame.set _ _ _ (by simp)).trans (Frame.when _ _ (Frame.set _ _ _ (by simp)))

theorem State.shown_presented (hn : n < 256) : (s.shown t n sec).get (Fld.IC_TGT_STATUS_PRESENTED t) = n := by
  unfold State.shown
  rw [State.when_keeps (fun a => a.get (Fld.IC_TGT_STATUS_PRESENTED t)) _ _ _ (by simp [State.get_set])]
  simp
  omega

theorem State.shown_toSecondary : (s.shown t n sec).get Fld.IC_EVT_TO_SECONDARY = if sec then 1 else s.get Fld.IC_EVT_TO_SECONDARY := by
  cases sec <;> simp [State.shown, State.get_set]

end

/-! ### Sources that wait for a sleeping target (R332) -/

/-- The latches that note the sources for which a target was woken. -/
abbrev wokenOf (k : Key) : Bool := k.r == .L_IC_WOKEN

/-- The state in which the sources that wait for a sleeping primary target have woken it. -/
abbrev State.wakesSent (s : State) : State := s.each (List.range 256) (fun n a => a.wakeSource n)

/-- A source without WAKE wakes nothing. -/
theorem State.wakeSource_frame {s : State} {n : Nat} (h : s.is (Fld.IC_ROUTE_WAKE n) = false) : Frame s (s.wakeSource n) [] wokenOf := by
  unfold State.wakeSource
  rw [h]
  split
  · exact Frame.set _ _ _ (by simp)
  · exact Frame.refl _ _ _

section
variable {s : State} {t : Fin 12} {n : Nat} {sec : Bool} (hw : ∀ n < 256, s.is (Fld.IC_ROUTE_WAKE n) = false)
include hw

theorem State.wakesSent_frame : Frame s s.wakesSent [] wokenOf := by
  refine Frame.each_of _ (fun n hn a ha => State.wakeSource_frame ?_) (Frame.refl _ _ _)
  rw [State.is, ha.get (by simp)]
  exact hw n (List.mem_range.mp hn)

theorem State.wakesSent_get {k : Key} (hk : wokenOf k = false) : s.wakesSent.get k = s.get k := (State.wakesSent_frame hw).get hk

theorem State.wakesSent_candidate (t : Nat) : s.wakesSent.candidate t = s.candidate t :=
  State.candidate_congr (fun _ hk => State.wakesSent_get hw (by simp [among] at hk; simp [hk])) t

theorem State.wakesSent_inService : s.wakesSent.is (Fld.IC_TGT_STATUS_INSVC t) = s.is (Fld.IC_TGT_STATUS_INSVC t) :=
  congrArg (· == 1) (State.wakesSent_get hw (by simp))

theorem State.wakesSent_presented : s.wakesSent.get (Fld.IC_TGT_STATUS_PRESENTED t) = s.get (Fld.IC_TGT_STATUS_PRESENTED t) :=
  State.wakesSent_get hw (by simp)

/-- What showing a source changes, before a message. -/
theorem State.wakesSent_shown_frame : Frame s (s.wakesSent.shown t n sec) []
    (fun k => (wokenOf k || k == Fld.IC_EVT_TO_SECONDARY) || named [(Fld.IC_TGT_STATUS_PRESENTED t, n)] k) := by
  refine ((State.wakesSent_frame hw).mono (by simp) fun k hk => by simp [hk]).trans ((State.shown_frame _ t n sec).mono (by simp) fun k hk => ?_)
  rcases Bool.or_eq_true_iff.mp hk with hk | hk
  · obtain rfl := beq_iff_eq.mp hk
    simp [named]
  · simp [hk]

/-! ### IRQ_PRESENT by what the target shows (R327) -/

theorem exec_irqPresent_inService (hs : s.is (Fld.IC_TGT_STATUS_INSVC t) = true) : exec (.irqPresent t) s = .next s.wakesSent :=
  congrArg Host.Outcome.next (if_pos ((State.wakesSent_inService hw).trans hs))

section
variable (hs : s.is (Fld.IC_TGT_STATUS_INSVC t) = false)
include hs

theorem exec_irqPresent_none (hc : s.candidate t = none) : exec (.irqPresent t) s =
    .next (if s.get (Fld.IC_TGT_STATUS_PRESENTED t) = 0x3FF then s.wakesSent else s.wakesSent.withdraw t) := by
  change execIrqPresent t s = _
  simp only [execIrqPresent, State.wakesSent_inService hw, hs, State.wakesSent_candidate hw, hc, State.wakesSent_presented hw, Bool.false_eq_true, if_false]

theorem exec_irqPresent_shows (hc : s.candidate t = some (n, sec)) (hp : s.get (Fld.IC_TGT_STATUS_PRESENTED t) ≠ n) : exec (.irqPresent t) s =
    .next ((s.wakesSent.shown t n sec).when (s.get (Fld.IC_TGT_STATUS_PRESENTED t) == 0x3FF && decide ((t : Nat) < 4)) (fun a => a.message t (a.vectorOf t n))) := by
  change execIrqPresent t s = _
  simp only [execIrqPresent, State.wakesSent_inService hw, hs, State.wakesSent_candidate hw, hc, State.wakesSent_presented hw, hp, Bool.false_eq_true, if_false]
  rfl

/-! ### The clauses -/

theorem irqPresent_does_none (hc : s.candidate t = none) : Does (.irqPresent t) s [] (fun k => wokenOf k || ((t : Nat) < 4 && k == Fld.SYS_MSIX_PBA t))
    [(Fld.IC_TGT_STATUS_PRESENTED t, 0x3FF)] (fun u => (t : Nat) < 4 → s.get (Fld.IC_TGT_STATUS_PRESENTED t) ≠ 0x3FF → u.get (Fld.SYS_MSIX_PBA t) = 0) := by
  have hwoken : Frame s s.wakesSent [] (fun k => (wokenOf k || ((t : Nat) < 4 && k == Fld.SYS_MSIX_PBA t)) || named [(Fld.IC_TGT_STATUS_PRESENTED t, 0x3FF)] k) :=
    (State.wakesSent_frame hw).mono (by simp) fun k hk => by simp [hk]
  have he := exec_irqPresent_none hw hs hc
  by_cases hp : s.get (Fld.IC_TGT_STATUS_PRESENTED t) = 0x3FF
  · rw [if_pos hp] at he
    exact ⟨_, he, by simpa using (State.wakesSent_presented hw).trans hp, hwoken, fun _ h => absurd hp h⟩
  · rw [if_neg hp] at he
    refine ⟨_, he, by simp [State.withdraw_presented], hwoken.trans ((State.withdraw_frame _ t).mono (by simp) fun k hk => ?_), fun ht _ => State.withdraw_pba _ t ht⟩
    rcases Bool.or_eq_true_iff.mp hk with hk | hk
    · obtain rfl := beq_iff_eq.mp hk
      simp [named]
    · simp [hk]

section
variable (hc : s.candidate t = some (n, sec)) (hp : s.get (Fld.IC_TGT_STATUS_PRESENTED t) ≠ n)
include hc hp

/-- A CC gets no message, and neither does a PF that another source was shown to. -/
theorem irqPresent_does_show (hq : 4 ≤ (t : Nat) ∨ s.get (Fld.IC_TGT_STATUS_PRESENTED t) ≠ 0x3FF) :
    Does (.irqPresent t) s [] (fun k => wokenOf k || k == Fld.IC_EVT_TO_SECONDARY) [(Fld.IC_TGT_STATUS_PRESENTED t, n)]
      (fun u => u.get Fld.IC_EVT_TO_SECONDARY = if sec then 1 else s.get Fld.IC_EVT_TO_SECONDARY) := by
  have hquiet : (s.get (Fld.IC_TGT_STATUS_PRESENTED t) == 0x3FF && decide ((t : Nat) < 4)) = false := by
    rcases hq with hq | hq
    · simp [hq]
    · simp [hq]
  have he := exec_irqPresent_shows hw hs hc hp
  rw [hquiet, State.when_false] at he
  refine ⟨_, he, by simpa using State.shown_presented _ t n sec (State.candidate_lt hc), State.wakesSent_shown_frame hw, ?_⟩
  exact (State.shown_toSecondary ..).trans (by rw [State.wakesSent_get hw (by simp)])

section
variable (ht : (t : Nat) < 4) (h0 : s.get (Fld.IC_TGT_STATUS_PRESENTED t) = 0x3FF)
include ht h0

/-- A PF that passes from nothing to a source gets a message of the source's vector. -/
theorem exec_irqPresent_messages : exec (.irqPresent t) s = .next ((s.wakesSent.shown t n sec).message t (s.vectorOf t n)) := by
  have hv : (s.wakesSent.shown t n sec).vectorOf t n = s.vectorOf t n := by
    rw [State.vectorOf, State.vectorOf, State.is, State.is, (State.wakesSent_shown_frame hw).get (by simp [named])]
  have he := exec_irqPresent_shows hw hs hc hp
  rwa [h0, decide_eq_true ht, beq_self_eq_true, Bool.and_self, State.when_true, hv] at he

theorem irqPresent_does_message (hm : (s.get (vectorMask t (s.vectorOf t n))).testBit 0 = false) :
    Does (.irqPresent t) s [.out] (fun k => wokenOf k || k == Fld.IC_EVT_TO_SECONDARY) [(Fld.IC_TGT_STATUS_PRESENTED t, n)]
      (fun u => u.out = .msix t (s.vectorOf t n) :: s.out) := by
  have hf := State.wakesSent_shown_frame (t := t) (n := n) (sec := sec) hw
  have he := exec_irqPresent_messages hw hs hc hp ht h0
  rw [State.message_unmasked _ _ _ (by rwa [hf.get (by simp [vectorMask, named])])] at he
  have hout : (s.wakesSent.shown t n sec).out = s.out := hf.1 .out (by simp)
  exact ⟨_, he, by simpa using State.shown_presented _ t n sec (State.candidate_lt hc), Frame.on_out rfl (hf.mono (by simp) fun _ h => h), congrArg _ hout⟩

theorem irqPresent_does_hold (hm : (s.get (vectorMask t (s.vectorOf t n))).testBit 0 = true) :
    Does (.irqPresent t) s [] (fun k => wokenOf k || k == Fld.IC_EVT_TO_SECONDARY)
      [(Fld.IC_TGT_STATUS_PRESENTED t, n), (Fld.SYS_MSIX_PBA t, s.get (Fld.SYS_MSIX_PBA t) ||| 2 ^ s.vectorOf t n)] (fun _ => True) := by
  have hf := State.wakesSent_shown_frame (t := t) (n := n) (sec := sec) hw
  have hfits : s.get (Fld.SYS_MSIX_PBA t) ||| 2 ^ s.vectorOf t n < 2 ^ 2 :=
    Nat.or_lt_two_pow (s.get_lt (Fld.SYS_MSIX_PBA t)) (Nat.pow_lt_pow_right (by decide) (Nat.lt_succ_of_le (s.vectorOf_le t n)))
  have he := exec_irqPresent_messages hw hs hc hp ht h0
  rw [State.message_masked _ _ _ (by rwa [hf.get (by simp [vectorMask, named])]), hf.get (by simp [named])] at he
  refine ⟨_, he, ?_, (hf.mono (by simp) fun k hk => ?_).put (by simp [named]), trivial⟩
  · simpa [State.get_set] using ⟨State.shown_presented _ t n sec (State.candidate_lt hc), hfits⟩
  · simp only [named, List.any_cons, Bool.or_eq_true] at hk ⊢
    tauto

end

end

end

end

/-- Settles O17: a target in service is left alone, and one that is not shows its candidate, with a message when it passes from nothing to a source. -/
theorem interruptPresentation : Obligations.InterruptPresentation := by
  refine fun t s hw => ⟨fun hs => ?service, fun hs => irqPresent_does_none hw hs, fun hs ⟨n, sec⟩ hc hp => ⟨irqPresent_does_show hw hs hc hp,
    fun ht h0 => ⟨irqPresent_does_message hw hs hc hp ht h0, irqPresent_does_hold hw hs hc hp ht h0⟩⟩⟩
  case service => exact ⟨_, exec_irqPresent_inService hw hs, by simp, (State.wakesSent_frame hw).mono (by simp) fun k hk => by simp [hk], trivial⟩

end Sys2Proof.Machine
end

section
/-!
PROOFS. The service of interrupts (O18): claims and ends of service, the writes that move presentations, the vectors of a PF, software status and the
wake watcher.
-/
namespace Sys2Proof.Machine

/-! ### Claims and ends of service (R328 to R330) -/

/-- The first value of a run of writes is cut to its field. -/
theorem State.sets_mod_cons (s : State) (k : Key) (v : Nat) (l : List (Key × Nat)) : s.sets ((k, v % 2 ^ k.w) :: l) = (s.set k v).sets l :=
  congrArg (fun a => a.sets l) (s.set_mod k v)

section
variable {s : State} {r t : Fin 12} {v : Nat}

/-- What a claim of the presented source `n` returns: its number, with bit 31 at its secondary target. -/
abbrev State.claimValue (s : State) (t n : Nat) : Nat := if s.get (Fld.IC_ROUTE_PRI n) = t then n else n + 2 ^ 31

theorem exec_irqClaim_taken (hr : r = t) (hs : s.is (Fld.IC_TGT_STATUS_INSVC t) = false) (hn : s.get (Fld.IC_TGT_STATUS_PRESENTED t) ≠ 0x3FF)
    (hq : s.requesting (s.get (Fld.IC_TGT_STATUS_PRESENTED t)) = true) : exec (.irqClaim r t) s =
      .next (s.sets [(Fld.IC_TGT_STATUS_INSVC t, 1), (Fld.IC_TGT_STATUS_INSVC_SRC t, s.get (Fld.IC_TGT_STATUS_PRESENTED t)),
        (Fld.IC_TGT_STATUS_PRESENTED t, 0x3FF), (Lat.CLAIM_DATA r, s.claimValue t (s.get (Fld.IC_TGT_STATUS_PRESENTED t)))]) := by
  have hval : ∀ n, n + (if s.get (Fld.IC_ROUTE_PRI n) ≠ (t : Nat) then 2 ^ 31 else 0) = s.claimValue t n := fun n => by
    by_cases hp : s.get (Fld.IC_ROUTE_PRI n) = (t : Nat) <;> simp [State.claimValue, hp]
  change execIrqClaim r t s = _
  rw [← hval]
  exact congrArg Host.Outcome.next (if_neg (by simp [hr, hs, hn, hq]))

theorem exec_irqClaim_refused (h : r ≠ t ∨ s.is (Fld.IC_TGT_STATUS_INSVC t) = true ∨ s.get (Fld.IC_TGT_STATUS_PRESENTED t) = 0x3FF ∨
    s.requesting (s.get (Fld.IC_TGT_STATUS_PRESENTED t)) = false) : exec (.irqClaim r t) s = .next (s.sets [(Lat.CLAIM_DATA r, 0x3FF)]) :=
  congrArg Host.Outcome.next (if_pos (by simpa using h))

theorem irqClaim_gives_service (hr : r = t) (hs : s.is (Fld.IC_TGT_STATUS_INSVC t) = false) (hn : s.get (Fld.IC_TGT_STATUS_PRESENTED t) ≠ 0x3FF)
    (hq : s.requesting (s.get (Fld.IC_TGT_STATUS_PRESENTED t)) = true) : Gives (.irqClaim r t) s
      [(Fld.IC_TGT_STATUS_INSVC t, 1), (Fld.IC_TGT_STATUS_INSVC_SRC t, s.get (Fld.IC_TGT_STATUS_PRESENTED t)),
        (Fld.IC_TGT_STATUS_PRESENTED t, 0x3FF), (Lat.CLAIM_DATA r, s.claimValue t (s.get (Fld.IC_TGT_STATUS_PRESENTED t)))] := by
  have h10 : s.get (Fld.IC_TGT_STATUS_PRESENTED t) < 1024 := s.get_lt (Fld.IC_TGT_STATUS_PRESENTED t)
  have hval : s.claimValue t (s.get (Fld.IC_TGT_STATUS_PRESENTED t)) < 4294967296 := by
    unfold State.claimValue
    split <;> omega
  exact Gives.of_sets (exec_irqClaim_taken hr hs hn hq) (by simp) (by simpa using ⟨h10, hval⟩)

section
variable (ho : s.hostOpen = true)
include ho

theorem exec_irqEoi_ends (hs : s.is (Fld.IC_TGT_STATUS_INSVC t) = true) (hn : s.get (Fld.IC_TGT_STATUS_INSVC_SRC t) = v % 2 ^ 10) : exec (.irqEoi t v) s =
    .next (s.sets [(Fld.IC_EOI_SRC t, v % 2 ^ 10), (Fld.IC_TGT_STATUS_INSVC t, 0), (Fld.IC_TGT_STATUS_INSVC_SRC t, 0x3FF)]) := by
  change execIrqEoi t v s = _
  rw [execIrqEoi, State.onHost_open _ _ ho]
  exact congrArg Host.Outcome.next ((if_pos (by simp [hs, hn])).trans (s.sets_mod_cons (Fld.IC_EOI_SRC t) v _).symm)

theorem exec_irqEoi_mismatch (h : s.is (Fld.IC_TGT_STATUS_INSVC t) = false ∨ s.get (Fld.IC_TGT_STATUS_INSVC_SRC t) ≠ v % 2 ^ 10) :
    exec (.irqEoi t v) s = .next (s.sets [(Fld.IC_EOI_SRC t, v % 2 ^ 10), (Fld.IC_EVT_EOI_MISMATCH, 1)]) := by
  change execIrqEoi t v s = _
  rw [execIrqEoi, State.onHost_open _ _ ho]
  refine congrArg Host.Outcome.next ((if_neg ?_).trans (s.sets_mod_cons (Fld.IC_EOI_SRC t) v [(Fld.IC_EVT_EOI_MISMATCH, 1)]).symm)
  rcases h with h | h
  · simp [h]
  · simpa using fun _ => h

end

end

/-! ### Presentations move with routes and wakefulness (R325, R326, R331) -/

section
variable (s : State) (t u : Nat)

/-- The step of a reroute at target `t`: its presentation is withdrawn unless its source still requests there. -/
def State.rerouteAt (t : Nat) (a : State) : State :=
  let n := a.get (Fld.IC_TGT_STATUS_PRESENTED t)
  if n = 0x3FF then a
  else if a.requesting n && (a.target n).map (·.1) == some t then a else a.withdraw t

theorem State.reroute_eq : s.reroute = s.each (List.range 12) State.rerouteAt := rfl

theorem State.rerouteAt_cases : s.rerouteAt t = s ∨ s.rerouteAt t = s.withdraw t := by
  unfold State.rerouteAt
  dsimp only
  split_ifs
  · exact .inl rfl
  · exact .inl rfl
  · exact .inr rfl

/-- A reroute only withdraws. -/
theorem State.rerouteAt_presented :
    (s.rerouteAt t).get (Fld.IC_TGT_STATUS_PRESENTED u) = s.get (Fld.IC_TGT_STATUS_PRESENTED u) ∨ (s.rerouteAt t).get (Fld.IC_TGT_STATUS_PRESENTED u) = 0x3FF := by
  rcases s.rerouteAt_cases t with h | h
  · exact .inl (by rw [h])
  · rw [h, State.withdraw_presented]
    split
    · exact .inr rfl
    · exact .inl rfl

/-- A target that sleeps is no source's target. -/
theorem State.target_of_asleep {s : State} {t : Nat} (h : s.awake t = false) (n : Nat) : (s.target n).map (·.1) ≠ some t := by
  have hne : ∀ m, s.awake m = true → m ≠ t := fun m hm e => by
    rw [e, h] at hm
    contradiction
  unfold State.target
  split_ifs with hpri hsec
  · simpa using hne _ hpri
  · simpa using hne _ (Bool.and_eq_true_iff.mp hsec).2
  · simp

theorem State.rerouteAt_awake : (s.rerouteAt t).awake u = s.awake u := by
  rcases s.rerouteAt_cases t with h | h
  · rw [h]
  · rw [h]
    exact State.awake_congr (fun k hk => State.withdraw_get s t k (by simp [among] at hk ⊢; simp [hk])) u

theorem State.rerouteAt_asleep (h : s.awake t = false) : (s.rerouteAt t).get (Fld.IC_TGT_STATUS_PRESENTED t) = 0x3FF := by
  unfold State.rerouteAt
  dsimp only
  split_ifs with hp hq
  · exact hp
  · exact absurd (beq_iff_eq.mp (Bool.and_eq_true_iff.mp hq).2) (State.target_of_asleep h _)
  · rw [State.withdraw_presented, if_pos rfl]

theorem State.reroute_presented :
    s.reroute.get (Fld.IC_TGT_STATUS_PRESENTED u) = s.get (Fld.IC_TGT_STATUS_PRESENTED u) ∨ s.reroute.get (Fld.IC_TGT_STATUS_PRESENTED u) = 0x3FF := by
  rw [State.reroute_eq]
  refine State.each_invariant (Q := fun a => a.get (Fld.IC_TGT_STATUS_PRESENTED u) = s.get (Fld.IC_TGT_STATUS_PRESENTED u) ∨
    a.get (Fld.IC_TGT_STATUS_PRESENTED u) = 0x3FF) _ (fun t a ha => ?_) (.inl rfl)
  rcases a.rerouteAt_presented t u with h | h
  · rwa [h]
  · exact .inr h

/-- A reroute leaves nothing presented to a target that sleeps (R331). -/
theorem State.reroute_asleep (ht : t < 12) (h : s.awake t = false) : s.reroute.get (Fld.IC_TGT_STATUS_PRESENTED t) = 0x3FF := by
  rw [State.reroute_eq]
  refine State.each_reaches (I := fun a => a.awake t = false) (Q := fun a => a.get (Fld.IC_TGT_STATUS_PRESENTED t) = 0x3FF) (List.mem_range.mpr ht)
    (fun a => a.rerouteAt_asleep t) (fun u a _ ha => (a.rerouteAt_awake u t).trans ha) (fun u a ha => ?_) h
  rcases a.rerouteAt_presented u t with e | e
  · exact e.trans ha
  · exact e

/-- The fields that a reroute can change. -/
abbrev rerouteOf (k : Key) : Bool := k.r == .SYS_MSIX_PBA || (k.r == .IC_TGT_STATUS && k == Fld.IC_TGT_STATUS_PRESENTED k.i)

theorem State.reroute_frame : Frame s s.reroute [] rerouteOf := by
  refine Frame.each _ _ State.rerouteAt _ (fun t _ a => ?_) s
  rcases a.rerouteAt_cases t with h | h
  · rw [h]
    exact Frame.refl _ _ _
  · rw [h]
    refine (a.withdraw_frame t).mono (by simp) fun k hk => ?_
    rcases Bool.or_eq_true_iff.mp hk with hk | hk
    · obtain rfl := beq_iff_eq.mp hk
      simp
    · obtain rfl := beq_iff_eq.mp (Bool.and_eq_true_iff.mp hk).2
      simp

end

/-! ### IC_ROUTE and the MSI-X enable (R325, R326, R331) -/

section
variable {s : State} {v : Nat}

/-- The fields of a written route. -/
abbrev routeOf (n : Fin 256) (v : Nat) : List (Key × Nat) :=
  [(Fld.IC_ROUTE_EN n, bitsOf v 31 1), (Fld.IC_ROUTE_WAKE n, bitsOf v 9 1), (Fld.IC_ROUTE_SEC_EN n, bitsOf v 8 1), (Fld.IC_ROUTE_SEC n, bitsOf v 4 4),
    (Fld.IC_ROUTE_PRI n, bitsOf v 0 4)]

theorem routeOf_lt (n : Fin 256) (v : Nat) : ∀ q ∈ routeOf n v, q.2 < 2 ^ q.1.w := by
  simp only [routeOf, List.forall_mem_cons]
  exact ⟨bitsOf_lt v 31 1, bitsOf_lt v 9 1, bitsOf_lt v 8 1, bitsOf_lt v 4 4, bitsOf_lt v 0 4, by simp⟩

/-- The state in which a route has been taken and reported when it is bad. -/
abbrev State.routed (s : State) (n : Fin 256) (v : Nat) : State :=
  (s.sets (routeOf n v)).when ((s.sets (routeOf n v)).badRoute n) (fun a => a.flag Fld.IC_EVT_BAD_ROUTE)

theorem exec_irqRouteWrite (n : Fin 256) (ho : s.hostOpen = true) : exec (.irqRouteWrite n v) s = .next (s.routed n v).reroute :=
  congrArg Host.Outcome.next (State.onHost_open _ _ ho)

/-- A route is bad by the fields written (R325). -/
theorem State.badRoute_written (s : State) (n : Fin 256) (v : Nat) :
    (s.sets (routeOf n v)).badRoute n = true ↔ 12 ≤ v % 16 ∨ v.testBit 8 = true ∧ 12 ≤ v / 16 % 16 := by
  have hsec : (s.sets (routeOf n v)).is (Fld.IC_ROUTE_SEC_EN n) = v.testBit 8 := by
    cases h : v.testBit 8 <;> simp [bitsOf_bit, h]
  rw [State.badRoute, hsec]
  simp [State.get_set, bitsOf]

theorem irqRouteWrite_does (n : Fin 256) (ho : s.hostOpen = true) : let bad := 12 ≤ v % 16 ∨ v.testBit 8 = true ∧ 12 ≤ v / 16 % 16
    Does (.irqRouteWrite n v) s [] (fun k => k == Fld.IC_EVT_BAD_ROUTE || k.r == .SYS_MSIX_PBA || (k.r == .IC_TGT_STATUS && k == Fld.IC_TGT_STATUS_PRESENTED k.i))
      (routeOf n v)
      (fun t => (bad → t.is Fld.IC_EVT_BAD_ROUTE = true) ∧ (¬bad → t.get Fld.IC_EVT_BAD_ROUTE = s.get Fld.IC_EVT_BAD_ROUTE) ∧
        ∀ u < 12, t.get (Fld.IC_TGT_STATUS_PRESENTED u) = s.get (Fld.IC_TGT_STATUS_PRESENTED u) ∨ t.get (Fld.IC_TGT_STATUS_PRESENTED u) = 0x3FF) := by
  intro bad
  have hflag : Frame (s.sets (routeOf n v)) (s.routed n v) [] (fun k => k == Fld.IC_EVT_BAD_ROUTE) := Frame.when _ _ (Frame.set _ _ _ (by simp))
  have hbad : (s.routed n v).reroute.get Fld.IC_EVT_BAD_ROUTE = (s.routed n v).get Fld.IC_EVT_BAD_ROUTE := State.reroute_get _ _ (by decide)
  refine Does.of_sets (exec_irqRouteWrite n ho) (by simp) (routeOf_lt n v)
    ((hflag.mono (by simp) fun k hk => ?frame).trans ((s.routed n v).reroute_frame.mono (by simp) fun k hk => ?move)) (by simp) ⟨fun hb => ?bad, fun hb => ?good, fun u _ => ?presented⟩
  case frame => simp [beq_iff_eq.mp hk]
  case move => simpa [or_assoc] using Or.inr (by simpa using hk)
  case bad =>
    rw [State.is, hbad, State.routed, (State.badRoute_written s n v).mpr hb]
    simp
  case good =>
    rw [hbad, State.routed, Bool.eq_false_iff.mpr (mt (State.badRoute_written s n v).mp hb)]
    exact State.get_sets_of_not_named _ _ _ (by simp [named])
  case presented =>
    have hkept : (s.routed n v).get (Fld.IC_TGT_STATUS_PRESENTED u) = s.get (Fld.IC_TGT_STATUS_PRESENTED u) := hflag.get_of_sets (by simp) (by simp [named])
    rw [← hkept]
    exact State.reroute_presented _ u

/-- A PF that MSI-X cannot reach sleeps (R326). -/
theorem msixFunctionMask_does (pf : Fin 4) (e f : Bool) :
    Does (.msixFunctionMask pf e f) s [] rerouteOf [(Fld.SYS_PF_CFG_MSIX_EN pf, e.toNat), (Lat.PF_FMASK pf, f.toNat)]
      (fun t => e = false ∨ f = true → t.get (Fld.IC_TGT_STATUS_PRESENTED pf) = 0x3FF) := by
  refine Does.of_sets rfl (by simp) (by simpa using ⟨Bool.toNat_le e, Bool.toNat_le f⟩) (State.reroute_frame _) (by simp) fun h =>
    State.reroute_asleep _ pf (by omega) ?_
  rcases h with rfl | rfl <;> simp [State.awake]

end

/-! ### Vectors and software status (R324, R433) -/

section
variable {s : State}

theorem exec_msixUnmask_empty {pf : Fin 4} {v : Fin 2} (h : (s.get (Fld.SYS_MSIX_PBA pf)).testBit v = false) :
    exec (.msixUnmask pf v) s = .next (s.sets [(vectorMask pf v, s.get (vectorMask pf v) / 2 * 2)]) := by
  change execMsixUnmask pf v s = _
  simp [execMsixUnmask, State.unmask, h]

/-- The entry holds a message of a source that is still presented. -/
theorem exec_msixUnmask_held {pf : Fin 4} {v : Fin 2} (h : (s.get (Fld.SYS_MSIX_PBA pf)).testBit v = true)
    (hp : s.get (Fld.IC_TGT_STATUS_PRESENTED pf) ≠ 0x3FF) : exec (.msixUnmask pf v) s =
      .next ((s.sets [(vectorMask pf v, s.get (vectorMask pf v) / 2 * 2), (Fld.SYS_MSIX_PBA pf, s.get (Fld.SYS_MSIX_PBA pf) - 2 ^ (v : Nat))]).emit (.msix pf v)) := by
  have hshown : (s.get (Fld.IC_TGT_STATUS_PRESENTED pf) != 0x3FF) = true := bne_iff_ne.mpr hp
  change execMsixUnmask pf v s = _
  simp [execMsixUnmask, State.unmask, h, hshown, Nat.one_shiftLeft]

theorem exec_icSwSet {v : Nat} (ho : s.hostOpen = true) : exec (.icSwSet v) s = .next (s.sets [(Fld.IC_SW_STAT, s.get Fld.IC_SW_STAT ||| v % 2 ^ 8)]) :=
  congrArg Host.Outcome.next (State.onHost_open _ _ ho)

/-! ### The wake watcher (R333) -/

section
variable {n : Fin 256}

theorem exec_wakeWatcherAssert_ignored (h : s.asleep = false ∨ watchable n = false ∨ s.watched n = false) : exec (.wakeWatcherAssert n) s = .next s := by
  refine congrArg Host.Outcome.next (if_neg ?_)
  rcases h with h | h | h <;> simp [h]

variable (ha : s.asleep = true) (hw : watchable n = true) (hs : s.watched n = true)
include ha hw hs

theorem exec_wakeWatcherAssert_first (h : s.is Lat.WAKE_START = false) : exec (.wakeWatcherAssert n) s =
    .next (s.sets [(Lat.WAKE_SEEN n, 1), (Lat.WAKE_START, 1), (Fld.IC_WAKE_CAUSE_VALID, 1), (Fld.IC_WAKE_CAUSE_SRC, n), (Lat.PWR_BUSY, 1), (Lat.PWR_NEXT, 2),
      (Fld.AON_PWR_EVT_WOKE, 1), (Fld.AON_EVT_WOKE, 1)]) :=
  congrArg Host.Outcome.next ((if_pos (by simp [ha, hw, hs])).trans (if_neg (by simp [h])))

theorem exec_wakeWatcherAssert_merged (h : s.is Lat.WAKE_START = true) : exec (.wakeWatcherAssert n) s = .next (s.sets [(Lat.WAKE_SEEN n, 1)]) :=
  congrArg Host.Outcome.next ((if_pos (by simp [ha, hw, hs])).trans (if_pos h))

end

end

/-- Settles O18: claims, ends of service, unmasked vectors, software status and watched assertions are runs of writes in the case their clause names; a
written route and a changed MSI-X enable are runs of writes after which presentations are withdrawn. -/
theorem interruptService : Obligations.InterruptService := by
  refine ⟨fun r t s => ⟨irqClaim_gives_service, fun h => ?refused⟩, fun t v s ho => ⟨fun hs hn => ?ends, fun h => ?mismatch⟩,
    fun n v s ho => irqRouteWrite_does n ho, fun pf v s => ⟨fun h => ?empty, fun h hp => ?held⟩, fun pf e f s => msixFunctionMask_does pf e f,
    fun v s ho => ?software, fun n s => ⟨fun ha hw hs => ⟨fun h => ?first, fun h => ?merged⟩, exec_wakeWatcherAssert_ignored⟩⟩
  case refused => exact Gives.of_sets (exec_irqClaim_refused h) (by simp) (by simp)
  case ends => exact Gives.of_sets (exec_irqEoi_ends ho hs hn) (by simp) (by simpa using Nat.mod_lt _ (by decide))
  case mismatch => exact Gives.of_sets (exec_irqEoi_mismatch ho h) (by simp) (by simpa using Nat.mod_lt _ (by decide))
  case empty =>
    have hfits := s.get_lt (vectorMask pf v)
    exact Gives.of_sets (exec_msixUnmask_empty h) (by simp) (by simpa using lt_of_le_of_lt (Nat.div_mul_le_self _ 2) hfits)
  case held =>
    have hmask := lt_of_le_of_lt (Nat.div_mul_le_self _ 2) (s.get_lt (vectorMask pf v))
    have hpba := lt_of_le_of_lt (Nat.sub_le _ (2 ^ (v : Nat))) (s.get_lt (Fld.SYS_MSIX_PBA pf))
    exact Does.of_sets (exec_msixUnmask_held h hp) (by simp [vectorMask]) (by simpa using ⟨hmask, hpba⟩) (Frame.on_out rfl (Frame.refl _ _ _)) (by simp) rfl
  case software =>
    have hfits := Nat.or_lt_two_pow (s.get_lt Fld.IC_SW_STAT) (Nat.mod_lt v (Nat.two_pow_pos 8))
    exact Gives.of_sets (exec_icSwSet ho) (by simp) (by simpa using hfits)
  case first => exact Gives.of_sets (exec_wakeWatcherAssert_first ha hw hs h) (by simp) (by simp [n.isLt])
  case merged => exact Gives.of_sets (exec_wakeWatcherAssert_merged ha hw hs h) (by simp) (by simp)

end Sys2Proof.Machine
end

section
/-!
PROOFS. The fault ledger (O19): the clear of an entry, the raise that follows a clear of a persisting cause, and the faults of shared resources.
-/
namespace Sys2Proof.Machine

/-- The new values may stand in another order. -/
theorem Does.reorder {c : Instr} {s : State} {ps : List Part} {p : Key → Bool} {l w : List (Key × Nat)} {P : State → Prop} (h : Does c s ps p w P)
    (hl : l ⊆ w) (hw : w ⊆ l) : Does c s ps p l P := h.prune hl fun _ hq => .inl (hw hq)

/-! ### The clear of an entry (R338) -/

section
variable (s : State) (k : Nat)

/-- What a clear makes 0 beside the bitmap. -/
abbrev ledgerZeros (k : Nat) : List (Key × Nat) :=
  [(Fld.LDG_ACTIVE k, 0), (Fld.LDG_NOTIFY k, 0), (Fld.LDG_COUNT k, 0), (Fld.LDG_FIRST_LO k, 0), (Fld.LDG_FIRST_HI k, 0), (Fld.LDG_LAST_LO k, 0),
    (Fld.LDG_LAST_HI k, 0), (Fld.LDG_DETAIL k, 0)]

/-- The fields of the affected-unit bitmap of cause `k`. -/
abbrev ledgerMap (k : Nat) (x : Key) : Bool := x.r == .IC_LDG && x.i == k && decide (8 ≤ x.j)

/-- The entry in which a clear archives the final count. -/
abbrev State.clearEntry (s : State) (k : Nat) : List Nat :=
  archiveEntry 5 false s.unref false true (s.get (Fld.LDG_RAISED_AT k)) s.tick 0 [k, s.get (Fld.LDG_DETAIL k), s.get (Fld.LDG_COUNT k)]

theorem State.ledgerClear_eq : s.ledgerClear k = ((s.accept (s.clearEntry k)).sets (ledgerZeros k)).resetKeys (ledgerMap k) := rfl

/-- The bitmap of an entry is 0 after reset. -/
theorem regReset_ledgerMap (j : Nat) : regReset (Fld.LDG_MAP k j) = 0 := by
  have hlayout : ledgerLayout (8 + j) = if 8 ≤ 8 + j ∧ 8 + j ≤ 42 then [⟨0, 32, .RO, 0⟩] else [] := by
    rw [Nat.add_comm]
    rfl
  change ((ledgerLayout (8 + j)).find? (fun f => f.lo == 0)).elim 0 (fun f => f.rst) = 0
  rw [hlayout]
  split_ifs <;> rfl

/-- What a clear changes after it has given the archive its entry. -/
theorem State.ledgerClear_clears : Frame (s.accept (s.clearEntry k)) (s.ledgerClear k) [] (fun x => named (ledgerZeros k) x || ledgerMap k x) :=
  Frame.forget (fun x hx => by simp [hx]) (Frame.sets _ _ fun q hq => by simp [named_of_mem hq])

theorem State.ledgerClear_frame : Frame s (s.ledgerClear k) [.arcBuf] (fun x => archiveLoss x || named (ledgerZeros k) x || ledgerMap k x) :=
  ((s.accept_frame _).mono (by simp) fun x hx => by simp [hx]).trans ((s.ledgerClear_clears k).mono (by simp) fun x hx => by simpa [or_assoc] using Or.inr (by simpa using hx))

theorem State.ledgerClear_archived : Archived s (s.ledgerClear k) (s.clearEntry k) :=
  Archived.of_after (s.accept_archived _) (s.ledgerClear_clears k) (by simp) (by simp [named]) (by simp [named])

theorem State.ledgerClear_zeros : ∀ q ∈ ledgerZeros k, (s.ledgerClear k).get q.1 = q.2 := fun q hq => by
  have hmap : ∀ q ∈ ledgerZeros k, ledgerMap k q.1 = false := by simp
  rw [State.ledgerClear_eq, State.get_resetKeys, hmap q hq]
  exact State.get_sets_of_mem _ _ (by simp) (by simp) q hq

theorem State.ledgerClear_map (j : Nat) : (s.ledgerClear k).get (Fld.LDG_MAP k j) = 0 := by
  rw [State.ledgerClear_eq, State.get_resetKeys, regReset_ledgerMap]
  simp

end

/-! ### LEDGER_CLEAR (R338) -/

section
variable {s : State} {v : Nat}

/-- What a clear of entry `k` remembers for its next raise, beside the bitmap. -/
abbrev State.againOf (s : State) (k : Nat) : List (Key × Nat) :=
  [(Lat.LDG_AGAIN_UNIT k, s.get (Fld.LDG_RAISED_AT k)), (Lat.LDG_AGAIN_DETAIL k, s.get (Fld.LDG_DETAIL k)), (Lat.LDG_AGAIN k, s.get (Fld.LDG_PERSIST k))]

/-- The state in which entry `k` is named for a clear and remembered. -/
def State.remembered (s : State) (k : Nat) : State :=
  (s.sets ((Fld.IC_LDG_CLR_CAUSE, k) :: s.againOf k)).each (List.range 35)
    (fun j a => a.when (s.get (Fld.LDG_MAP k j) != 0) (fun b => b.set (Lat.LDG_AGAIN_MAP k j) (s.get (Fld.LDG_MAP k j))))

/-- The remembered bitmap of entry `k`. -/
abbrev againMap (k : Nat) (x : Key) : Bool := x.r == .L_LDG_AGAIN_MAP && x.i == k

theorem State.remembered_map (s : State) (k : Nat) : Frame (s.sets ((Fld.IC_LDG_CLR_CAUSE, k) :: s.againOf k)) (s.remembered k) [] (againMap k) :=
  Frame.each _ _ _ _ (fun _ _ _ => Frame.when _ _ (Frame.set _ _ _ (by simp))) _

theorem State.remembered_frame (s : State) (k : Nat) :
    Frame s (s.remembered k) [] (fun x => named ((Fld.IC_LDG_CLR_CAUSE, k) :: s.againOf k) x || againMap k x) :=
  (Frame.sets _ _ fun q hq => by simp [named_of_mem hq]).trans ((s.remembered_map k).mono (by simp) fun x hx => by simp [hx])

theorem State.remembered_values (s : State) {k : Nat} (hk : k < 64) :
    ∀ q ∈ (Fld.IC_LDG_CLR_CAUSE, k) :: s.againOf k, (s.remembered k).get q.1 = q.2 := fun q hq => by
  have hmap : ∀ q ∈ (Fld.IC_LDG_CLR_CAUSE, k) :: s.againOf k, againMap k q.1 = false := by simp
  rw [(s.remembered_map k).get (hmap q hq)]
  exact State.get_sets_of_mem _ _ (by simp) (by simpa using ⟨hk, s.get_lt (Fld.LDG_RAISED_AT k), s.get_lt (Fld.LDG_DETAIL k), Nat.le_of_lt_succ (s.get_lt (Fld.LDG_PERSIST k))⟩) q hq

section
variable (ho : s.hostOpen = true)
include ho

theorem exec_ledgerClear_idle (ha : s.is (Fld.LDG_ACTIVE (v % 64)) = false) :
    exec (.ledgerClear v) s = .next (s.sets [(Fld.IC_LDG_CLR_CAUSE, v % 64)]) := by
  change execLedgerClear v s = _
  rw [execLedgerClear, State.onHost_open _ _ ho]
  exact congrArg Host.Outcome.next (if_neg (by simp [ha]))

theorem exec_ledgerClear_active (ha : s.is (Fld.LDG_ACTIVE (v % 64)) = true) :
    exec (.ledgerClear v) s = .next ((s.remembered (v % 64)).ledgerClear (v % 64)) := by
  change execLedgerClear v s = _
  rw [execLedgerClear, State.onHost_open _ _ ho]
  exact congrArg Host.Outcome.next (if_pos ha)

end

/-- The entry archived is that of the state before the clear was remembered. -/
theorem State.remembered_clearEntry (s : State) (k : Nat) : (s.remembered k).clearEntry k = s.clearEntry k := by
  have hledger : ∀ j lo w, (s.remembered k).get ⟨.IC_LDG, k, j, lo, w⟩ = s.get ⟨.IC_LDG, k, j, lo, w⟩ := fun j lo w =>
    (s.remembered_frame k).get (by simp [named])
  have hunref : (s.remembered k).get Fld.TB_STATUS_UNREF = s.get Fld.TB_STATUS_UNREF := (s.remembered_frame k).get (by simp [named])
  have htick : (s.remembered k).tick = s.tick := (s.remembered_frame k).1 .tick (by simp)
  simp only [State.clearEntry, State.unref, State.is, hledger, hunref, htick]

/-- What a clear changes beside the values it writes. -/
abbrev clearOf (k : Nat) (x : Key) : Bool :=
  archiveLoss x || (x.r == .IC_LDG && x.i == k && x != Fld.LDG_PERSIST k) || (x.r == .L_LDG_AGAIN_MAP && x.i == k)

theorem State.cleared_frame (s : State) (k : Nat) : Frame s ((s.remembered k).ledgerClear k) [.arcBuf]
    (fun x => clearOf k x || named (((Fld.IC_LDG_CLR_CAUSE, k) :: s.againOf k) ++ ledgerZeros k) x) := by
  refine ((s.remembered_frame k).mono (by simp) fun x hx => ?remember).trans ((State.ledgerClear_frame _ k).mono (fun _ h => h) fun x hx => ?clear)
  case remember =>
    rw [named_append]
    rcases Bool.or_eq_true_iff.mp hx with h | h <;> simp [h]
  case clear =>
    rw [named_append]
    rcases Bool.or_eq_true_iff.mp hx with h | h
    · rcases Bool.or_eq_true_iff.mp h with h | h <;> simp [h]
    · have hpersist : x ≠ Fld.LDG_PERSIST k := fun e => by simp [e] at h
      simp only [Bool.and_eq_true] at h
      simp [h.1.1, h.1.2, hpersist]

theorem ledgerClear_does (ho : s.hostOpen = true) (ha : s.is (Fld.LDG_ACTIVE (v % 64)) = true) :
    Does (.ledgerClear v) s [.arcBuf] (clearOf (v % 64)) (((Fld.IC_LDG_CLR_CAUSE, v % 64) :: s.againOf (v % 64)) ++ ledgerZeros (v % 64))
      (fun t => (∀ j < 35, t.get (Fld.LDG_MAP (v % 64) j) = 0) ∧ Archived s t (s.clearEntry (v % 64))) := by
  refine ⟨_, exec_ledgerClear_active ho ha, fun q hq => ?values, s.cleared_frame _, fun j _ => State.ledgerClear_map _ _ j, ?archived⟩
  case values =>
    rcases List.mem_append.mp hq with hq | hq
    · have hout : ∀ q ∈ (Fld.IC_LDG_CLR_CAUSE, v % 64) :: s.againOf (v % 64), among [.IC_ARC_EVT, .IC_ARC_LOST, .IC_LDG] q.1 = false := by simp [among]
      rw [State.ledgerClear_get _ _ _ (hout q hq)]
      exact s.remembered_values (Nat.mod_lt _ (by decide)) q hq
    · exact State.ledgerClear_zeros _ _ q hq
  case archived =>
    have h := State.ledgerClear_archived (s.remembered (v % 64)) (v % 64)
    rw [State.remembered_clearEntry] at h
    exact Archived.of_before (s.remembered_frame _) h (by simp) (by simp [named])

end

/-! ### The raise that follows (R338) -/

section
variable {s : State} {k : Fin 64}

/-- The state in which the remembered cause `k` is forgotten. -/
def State.forgotten (s : State) (k : Fin 64) : State := (s.sets [(Lat.LDG_AGAIN k, 0)]).resetKeys (againMap k)

theorem State.forgotten_map (s : State) (k : Fin 64) : Frame (s.sets [(Lat.LDG_AGAIN k, 0)]) (s.forgotten k) [] (againMap k) :=
  Frame.forget (fun _ h => h) (Frame.refl _ _ _)

theorem State.forgotten_frame (s : State) (k : Fin 64) : Frame s (s.forgotten k) [] (fun x => x == Lat.LDG_AGAIN k || againMap k x) :=
  (Frame.sets _ _ (by simp)).trans ((s.forgotten_map k).mono (by simp) fun x hx => by simp [hx])

/-- The raise of the remembered cause, after it is forgotten. -/
abbrev State.raisedAgain (s : State) (k : Fin 64) : State :=
  (s.forgotten k).raise k (s.get (Lat.LDG_AGAIN_UNIT k)) (s.get (Lat.LDG_AGAIN_DETAIL k)) ((List.range 35).map (fun j => (j, s.get (Lat.LDG_AGAIN_MAP k j))))

theorem State.raisedAgain_raised (s : State) (k : Fin 64) :
    Raised s (s.raisedAgain k) k (s.get (Lat.LDG_AGAIN_UNIT k)) (s.get (Lat.LDG_AGAIN_DETAIL k)) :=
  Raised.of_before (s.forgotten_frame k) (State.raise_raised ..) (by simp) (by simp) (by simp)

theorem exec_ledgerPersistReraise_idle (h : s.is (Lat.LDG_AGAIN k) = false) : exec (.ledgerPersistReraise k) s = .next s :=
  congrArg Host.Outcome.next (if_neg (by simp [h]))

section
variable (h : s.is (Lat.LDG_AGAIN k) = true)
include h

theorem exec_ledgerPersistReraise_remains (hp : s.is (Fld.LDG_PERSIST k) = true) : exec (.ledgerPersistReraise k) s = .next (s.raisedAgain k) :=
  congrArg Host.Outcome.next ((if_pos h).trans (if_pos hp))

theorem exec_ledgerPersistReraise_gone (hp : s.is (Fld.LDG_PERSIST k) = false) : exec (.ledgerPersistReraise k) s = .next (s.forgotten k) :=
  congrArg Host.Outcome.next ((if_pos h).trans (if_neg (by simp [hp])))

end

end

/-! ### Faults of shared resources (R31, R287, R334) -/

section
variable {s : State}

/-- A command that does nothing but raise a cause. -/
theorem Does.of_raise {c : Instr} {k u d : Nat} {m : List (Nat × Nat)} (he : exec c s = .next (s.raise k u d m)) :
    Does c s [.arcBuf] (fun x => ledgerOf k x || archiveLoss x) [] (fun t => Raised s t k u d) :=
  Does.of_sets he List.nodup_nil (by simp) (State.raise_frame ..) (by simp) (State.raise_raised ..)

theorem exec_stackTrainingLoss (k : Fin 4) (r : Bool) :
    exec (.stackTrainingLoss k r) s = .next (s.raise 3 (unitStack k) (k + (if r then 32 else 16)) []) := by
  cases r <;> rfl

variable {k : Fin 24}

theorem exec_tiuDllLockLoss_running (h : s.get (Fld.TIU_STATUS_STATE k) = 4) :
    exec (.tiuDllLockLoss k) s = .next ((s.sets [(Fld.TIU_STATUS_DLL_LOCK k, 0)]).raise 30 (unitTiu k) k []) :=
  congrArg Host.Outcome.next (if_pos h)

theorem exec_tiuDllLockLoss_stopped (h : s.get (Fld.TIU_STATUS_STATE k) ≠ 4) :
    exec (.tiuDllLockLoss k) s = .next (s.sets [(Fld.TIU_STATUS_DLL_LOCK k, 0)]) :=
  congrArg Host.Outcome.next (if_neg h)

end

/-- Settles O19: a clear remembers, archives and zeroes an ACTIVE entry; a remembered cause is forgotten, and raised while its condition remains; each
fault of a shared resource raises its cause. -/
theorem faultLedger : Obligations.FaultLedger := by
  refine ⟨fun v s ho => ⟨fun ha => ?idle, fun ha => ?clear⟩, fun k s => exec_ledgerPersistReraise_idle, fun k s h => ⟨fun hp => ?remains, fun hp => ?gone⟩,
    fun p s => Does.of_raise rfl, fun k r s => Does.of_raise (exec_stackTrainingLoss k r), fun k s => ⟨fun h => ?running, fun h => ?stopped⟩⟩
  case idle => exact Gives.of_sets (exec_ledgerClear_idle ho ha) (by simp) (by simpa using Nat.mod_lt v (by decide))
  case clear =>
    refine (ledgerClear_does ho ha).reorder ?_ ?_
    all_goals simp only [List.cons_append, List.nil_append, List.cons_subset, List.mem_cons, List.nil_subset, true_or, or_true, and_self]
  case remains =>
    exact Does.of_sets (exec_ledgerPersistReraise_remains h hp) (by simp) (by simp) (((s.forgotten_map k).mono (by simp) fun x hx => by simp [hx]).trans
      ((State.raise_frame ..).mono (fun _ h => h) fun x hx => by simp [hx])) (by simp [ledgerOf, archiveLoss]) (s.raisedAgain_raised k)
  case gone => exact Does.of_sets (exec_ledgerPersistReraise_gone h hp) (by simp) (by simp) (s.forgotten_map k) (by simp) trivial
  case running =>
    have hlock : Frame s (s.sets [(Fld.TIU_STATUS_DLL_LOCK k, 0)]) [] (fun x => x == Fld.TIU_STATUS_DLL_LOCK k) := Frame.sets _ _ (by simp)
    exact Does.of_sets (exec_tiuDllLockLoss_running h) (by simp) (by simp) (State.raise_frame ..) (by simp [ledgerOf, archiveLoss])
      (Raised.of_before hlock (State.raise_raised ..) (by simp) (by simp) (by simp))
  case stopped => exact Gives.of_sets (exec_tiuDllLockLoss_stopped h) (by simp) (by simp)

end Sys2Proof.Machine
end

section
/-!
PROOFS. Completion (O2): every command answers a next state and leaves the queue alone. For most commands the queue is none of the parts that their
frame lets change; a reset rebuilds the state, and carries the queue over.
-/
namespace Sys2Proof.Machine

section
variable {s t : State} {r : Res} {ps : List Part} {p : Key → Bool}

theorem Frame.pending (h : Frame s t ps p) (hq : ps.contains .pending = false) : t.pending = s.pending := h.1 .pending (by simpa using hq)

/-- The meaning answers a next state, with the queue as it was. -/
def Completes (s : State) (r : Res) : Prop := ∃ t, r = .next t ∧ t.pending = s.pending

theorem Completes.next (h : t.pending = s.pending) : Completes s (.next t) := ⟨t, rfl, h⟩

theorem Frames.completes (f : Frames s r ps p) (hq : ps.contains .pending = false) : Completes s r := by
  obtain ⟨t, rfl, ft⟩ := f
  exact .next (ft.pending hq)

theorem State.when_pending (c : Bool) {f : State → State} (h : ∀ a, (f a).pending = a.pending) : (s.when c f).pending = s.pending :=
  State.when_keeps State.pending c f s (h s)

end

/-! ### Resets carry the queue over (R400, R401, R404) -/

section
variable (s : State)

theorem State.resetMain_pending : s.resetMain.pending = s.pending := rfl

theorem State.resetBoot_pending : s.resetBoot.pending = s.pending := rfl

theorem State.readingRoom_pending : s.readingRoom.pending = s.pending := (State.parkAll_touches _ pkReading true).pending rfl

theorem State.bootFail_pending (cause us : Nat) : (s.bootFail cause us).pending = s.pending := by
  have hrecord : (if s.stage = 1 then s.newRecord 1 cause s.stage us else s.endRecord 1 cause s.stage us).pending = s.pending := by
    split
    · exact (State.newRecord_touches ..).pending rfl
    · exact (State.endRecord_touches ..).pending rfl
  unfold State.bootFail
  dsimp only
  split
  · exact (State.readingRoom_pending _).trans hrecord
  · exact hrecord

theorem State.stage2_pending (us : Nat) : (s.stage2 us).pending = s.pending := by
  have hrefused : ∀ (a : State) (c : Nat), (a.newRecord 3 c 2 us).readingRoom.pending = a.pending := fun a c =>
    (State.readingRoom_pending _).trans ((State.newRecord_touches ..).pending rfl)
  have hcounted : ∀ (a : State) (k : Key) (v : Nat) (b : Bool), ((a.cellRise 0 k v).when b fun x => x.eraseOwner).pending = a.pending := fun a k v b =>
    (State.when_pending b fun a => a.eraseOwner_touches.pending rfl).trans ((State.cellRise_touches ..).pending rfl)
  unfold State.stage2
  dsimp only
  split
  · exact hrefused _ _
  · split
    · exact hrefused _ _
    · split
      · exact State.readingRoom_pending _
      · refine ((State.newRecord_touches ..).pending rfl).trans ?_
        split
        · exact hcounted ..
        · exact hcounted ..

theorem State.nextStage_pending (k us : Nat) : (s.nextStage k us).pending = s.pending := by
  have hwait : ∀ (a : State) (i : Nat), (a.waitHost i).pending = a.pending := fun a i => (State.waitHost_touches a i).pending rfl
  have hsix : ∀ a : State, a.stage6.pending = a.pending := fun a => a.stage6_touches.pending rfl
  unfold State.nextStage
  split
  · exact State.stage2_pending _ us
  · exact hwait _ 0
  · dsimp only
    split
    · exact (State.bootFail_pending ..).trans (hsix _)
    · exact hsix _
  · exact hwait _ 1
  · exact hwait _ 2
  · exact hwait _ 3
  · rfl

/-! ### The commands that reset -/

theorem execBootStageDone_completes (us : Nat) (data : List (BitVec 8)) (fac : Option CalRecord) (ovr : Option OvrRecord) :
    Completes s (execBootStageDone us data fac ovr s) := by
  have hnext : ∀ (a : State) (k : Nat), a.pending = s.pending → (a.nextStage k us).pending = s.pending := fun a k ha => (a.nextStage_pending k us).trans ha
  refine .next ?_
  generalize (if s.get Fld.AON_BOOT_STATUS_SRC = 2 ∧ s.stage ≠ 3 then s.bootRx else data) = bytes
  split
  · rfl
  · split
    · exact s.bootFail_pending ..
    · split
      · exact hnext s 1 rfl
      · exact hnext s 2 rfl
      · split
        · exact s.bootFail_pending ..
        · next a ha => exact hnext a 3 ((State.stage3_touches s data a ha).pending rfl)
      · exact hnext s 4 rfl
      · exact hnext _ 5 rfl
      · split
        · exact hnext s 6 rfl
        · rfl
      · exact hnext _ 7 (State.when_pending _ fun _ => rfl)
      · dsimp only
        split
        · exact s.bootFail_pending ..
        · exact hnext _ 8 ((State.takeFirmware_touches ..).pending rfl)
      · split
        · exact hnext _ 9 ((State.noImage_touches _).pending rfl)
        · dsimp only
          split
          · exact s.bootFail_pending ..
          · exact hnext _ 9 ((State.applyImage_touches ..).pending rfl)
      · exact hnext _ 10 ((State.stage10_touches ..).pending rfl)
      · rfl

theorem execHostTimeout_completes (us : Nat) : Completes s (execHostTimeout us s) := by
  refine .next ?_
  split
  · split
    · exact (State.itemGiven_touches ..).pending rfl
    · exact s.bootFail_pending ..
  · rfl

theorem execBootStageFail_completes (cause : Fin 256) (us : Nat) : Completes s (execBootStageFail cause us s) := by
  refine .next ?_
  split
  · exact s.bootFail_pending ..
  · rfl

theorem execBootRetry_completes (pf : Fin 4) : Completes s (execBootRetry pf s) := by
  refine .next ?_
  unfold State.asPrivAon
  split
  · dsimp only
    split
    · rfl
    · rfl
  · rfl

theorem execSysReset_completes (pf : Fin 4) (key : Fin 65536) : Completes s (execSysReset pf key s) := by
  refine .next ?_
  split
  · split
    · exact s.resetMain_pending
    · rfl
  · rfl

theorem execAonPowerOn_completes : Completes s (execAonPowerOn s) := by
  have hclass : ∀ (d : Nat) (v : Nat → Nat) (a : State), ((a.each (List.range 7) fun b x => x.set (Lat.WEAR_T d b) (v b)).wearShow d).pending = a.pending :=
    fun d v a => ((State.wearShow_touches _ d).pending rfl).trans (State.each_keeps State.pending (fun b x => x.set (Lat.WEAR_T d b) (v b)) _ (fun _ _ => rfl) a)
  exact .next (State.each_keeps State.pending _ _ (fun d a => hclass d _ a) (s.keepOnly nonVolatile))

theorem execMainRailPgLoss_completes (rail : Fin 11) (lost : Bool) : Completes s (execMainRailPgLoss rail lost s) := by
  refine .next ?_
  split
  · rfl
  · split
    · rfl
    · exact State.when_pending _ fun _ => rfl

theorem execSecCmdDone_completes : Completes s (execSecCmdDone s) := by
  have heffect : ∀ code, (s.secEffect code).pending = s.pending := fun code => (State.secEffect_touches ..).pending rfl
  refine .next ?_
  split
  · rfl
  · split
    · rfl
    · dsimp only
      split
      · exact heffect _
      · exact ((State.secEnd_touches ..).pending rfl).trans (heffect _)

theorem execSecErrorEnter_completes (code : Fin 8) (us : Nat) : Completes s (execSecErrorEnter code us s) := by
  have hended : ∀ b b' b'', ((((s.flag Fld.SEC_STATUS_ERROR).when b fun a => (a.set Fld.SEC_ALARM_CODE code).flag Fld.SEC_EVT_ERROR).when b'
      fun a => a.flag Fld.SEC_EVT_HEALTH).when b'' fun a => a.secEnd 7).pending = s.pending := fun b b' b'' =>
    .trans (State.when_pending b'' fun a => (a.secEnd_touches 7).pending rfl) (.trans (State.when_pending b' fun _ => rfl) (State.when_pending b fun _ => rfl))
  have hraised : ∀ a : State, a.pending = s.pending →
      (if s.is Fld.SEC_STATUS_ERROR then a else (a.persist 4 true).raise 4 (unitBlock 1) code []).pending = s.pending := by
    intro a ha
    split
    · exact ha
    · exact ((State.raiseFrame ..).pending rfl).trans ha
  refine .next ?_
  split
  · rfl
  · split
    · exact (State.bootFail_pending ..).trans (hraised _ (hended ..))
    · exact hraised _ (hended ..)

end

/-! ### Every command -/

/-- No command touches the queue. -/
theorem exec_completes (c : Instr) (s : State) : Completes s (exec c s) := by
  cases c with
  | registerWrite => exact (execRegisterWrite_touches ..).completes rfl
  | stickyReadClear => exact (execStickyReadClear_touches ..).completes rfl
  | wsWriteEffect => exact (execWsWriteEffect_touches ..).completes rfl
  | tickSkew => exact (execTickSkew_touches ..).completes rfl
  | ccFault => exact (execCcFault_touches ..).completes rfl
  | refCfgWrite => exact (execRefCfgWrite_touches ..).completes rfl
  | refLost => exact (execRefLost_touches ..).completes rfl
  | refBack => exact (execRefBack_touches ..).completes rfl
  | pllEnable => exact (execPllEnable_touches ..).completes rfl
  | pllDisable => exact (execPllDisable_touches ..).completes rfl
  | lockDetect => exact (execLockDetect_touches ..).completes rfl
  | pllUnlock => exact (execPllUnlock_touches ..).completes rfl
  | reacquireStart => exact (execReacquireStart_touches ..).completes rfl
  | reacqTimeout => exact (execReacqTimeout_touches ..).completes rfl
  | reanchorStop => exact (execReanchorStop_touches ..).completes rfl
  | anchorRelease => exact (execAnchorRelease_touches ..).completes rfl
  | reanchorParkRelease => exact (execReanchorParkRelease_touches ..).completes rfl
  | anchorMeasDone => exact (execAnchorMeasDone_touches ..).completes rfl
  | tbStopDone => exact (execTbStopDone_touches ..).completes rfl
  | tbAnchor => exact (execTbAnchor_touches ..).completes rfl
  | tbRelock => exact (execTbRelock_touches ..).completes rfl
  | loadArm => exact (execLoadArm_touches ..).completes rfl
  | loadDisarm => exact (execLoadDisarm_touches ..).completes rfl
  | todCommit => exact (execTodCommit_touches ..).completes rfl
  | epochCfgWrite => exact (execEpochCfgWrite_touches ..).completes rfl
  | epochPulse => exact (execEpochPulse_touches ..).completes rfl
  | epochInEdge => exact (execEpochInEdge_touches ..).completes rfl
  | sysrefCfgWrite => exact (execSysrefCfgWrite_touches ..).completes rfl
  | sysrefPulse => exact (execSysrefPulse_touches ..).completes rfl
  | bar2Write => exact (execBar2Write_touches ..).completes rfl
  | bar2Read => exact (execBar2Read_touches ..).completes rfl
  | cardWrite => exact (execCardWrite_touches ..).completes rfl
  | cardRead => exact (execCardRead_touches ..).completes rfl
  | cardCmdComplete => exact (execCardCmdComplete_touches ..).completes rfl
  | cardCacheFill => exact (execCardCacheFill_touches ..).completes rfl
  | cueWindowEnter => exact (execCueWindowEnter_touches ..).completes rfl
  | loanInForce => exact (execLoanInForce_touches ..).completes rfl
  | wdropClr => exact (execWdropClr_touches ..).completes rfl
  | streamBind => exact (execStreamBind_touches ..).completes rfl
  | streamReset => exact (execStreamReset_touches ..).completes rfl
  | hostCommitWrite => exact (execHostCommitWrite_touches ..).completes rfl
  | streamCommit => exact (execStreamCommit_touches ..).completes rfl
  | playPointerAdvance => exact (execPlayPointerAdvance_touches ..).completes rfl
  | refreshStepDown => exact (execRefreshStepDown_touches ..).completes rfl
  | bookingThermalClear => exact (execBookingThermalClear_touches ..).completes rfl
  | marchStart => exact (execMarchStart_touches ..).completes rfl
  | marchDone => exact (execMarchDone_touches ..).completes rfl
  | scratchpadWrite => exact (execScratchpadWrite_touches ..).completes rfl
  | reelRecordWrite => exact (execReelRecordWrite_touches ..).completes rfl
  | reelArm => exact (execReelArm_touches ..).completes rfl
  | reelDisarm => exact (execReelDisarm_touches ..).completes rfl
  | reelStopAt => exact (execReelStopAt_touches ..).completes rfl
  | reelClear => exact (execReelClear_touches ..).completes rfl
  | reelStart => exact (execReelStart_touches ..).completes rfl
  | cueBoundary => exact (execCueBoundary_touches ..).completes rfl
  | cueNop => exact (execCueNop_touches ..).completes rfl
  | cuePlay => exact (execCuePlay_touches ..).completes rfl
  | cuePlayn => exact (execCuePlayn_touches ..).completes rfl
  | cueLoop => exact (execCueLoop_touches ..).completes rfl
  | cueNext => exact (execCueNext_touches ..).completes rfl
  | cueCall => exact (execCueCall_touches ..).completes rfl
  | cueRet => exact (execCueRet_touches ..).completes rfl
  | cueWaitEv => exact (execCueWaitEv_touches ..).completes rfl
  | cueWaitTick => exact (execCueWaitTick_touches ..).completes rfl
  | cueSync => exact (execCueSync_touches ..).completes rfl
  | cueCutif => exact (execCueCutif_touches ..).completes rfl
  | cueSetF => exact (execCueSetF_touches ..).completes rfl
  | cueSetP => exact (execCueSetP_touches ..).completes rfl
  | cueSetG => exact (execCueSetG_touches ..).completes rfl
  | cueSetRng => exact (execCueSetRng_touches ..).completes rfl
  | cueSlate => exact (execCueSlate_touches ..).completes rfl
  | cueMark => exact (execCueMark_touches ..).completes rfl
  | cueFire => exact (execCueFire_touches ..).completes rfl
  | cueEventPulse => exact (execCueEventPulse_touches ..).completes rfl
  | cueCalGap => exact (execCueCalGap_touches ..).completes rfl
  | cueStop => exact (execCueStop_touches ..).completes rfl
  | cueEnd => exact (execCueEnd_touches ..).completes rfl
  | waitEnd => exact (execWaitEnd_touches ..).completes rfl
  | waitTimeout => exact (execWaitTimeout_touches ..).completes rfl
  | stopTakeEffect => exact (execStopTakeEffect_touches ..).completes rfl
  | reelStopDone => exact (execReelStopDone_touches ..).completes rfl
  | reelFault => exact (execReelFault_touches ..).completes rfl
  | eventStamp => exact (execEventStamp_touches ..).completes rfl
  | stampAgreed => exact (execStampAgreed_touches ..).completes rfl
  | cutCommit => exact (execCutCommit_touches ..).completes rfl
  | cutTake => exact (execCutTake_touches ..).completes rfl
  | headFill => exact (execHeadFill_touches ..).completes rfl
  | lateLeaf => exact (execLateLeaf_touches ..).completes rfl
  | lateResume => exact (execLateResume_touches ..).completes rfl
  | recoveryCut => exact (execRecoveryCut_touches ..).completes rfl
  | voiceStage => exact (execVoiceStage_touches ..).completes rfl
  | voiceCommit => exact (execVoiceCommit_touches ..).completes rfl
  | voiceUpdateApply => exact (execVoiceUpdateApply_touches ..).completes rfl
  | sweepPieceStart => exact (execSweepPieceStart_touches ..).completes rfl
  | chEnable => exact (execChEnable_touches ..).completes rfl
  | chDisable => exact (execChDisable_touches ..).completes rfl
  | chStageReady => exact (execChStageReady_touches ..).completes rfl
  | chRampDownDone => exact (execChRampDownDone_touches ..).completes rfl
  | chParkWrite => exact (execChParkWrite_touches ..).completes rfl
  | chRelease => exact (execChRelease_touches ..).completes rfl
  | unpark => exact (execUnpark_touches ..).completes rfl
  | rngReq => exact (execRngReq_touches ..).completes rfl
  | eqSwap => exact (execEqSwap_touches ..).completes rfl
  | chEqCoefWrite => exact (execChEqCoefWrite_touches ..).completes rfl
  | channelBoundary => exact (execChannelBoundary_touches ..).completes rfl
  | rangeGapStart => exact (execRangeGapStart_touches ..).completes rfl
  | rangeGapEnd => exact (execRangeGapEnd_touches ..).completes rfl
  | parkNFall => exact (execParkNFall_touches ..).completes rfl
  | parkNRelease => exact (execParkNRelease_touches ..).completes rfl
  | outShort => exact (execOutShort_touches ..).completes rfl
  | stageHot => exact (execStageHot_touches ..).completes rfl
  | feedFault => exact (execFeedFault_touches ..).completes rfl
  | converterSupplyLoss => exact (execConverterSupplyLoss_touches ..).completes rfl
  | portEnable => exact (execPortEnable_touches ..).completes rfl
  | portDisable => exact (execPortDisable_touches ..).completes rfl
  | portStopDone => exact (execPortStopDone_touches ..).completes rfl
  | portStartDone => exact (execPortStartDone_touches ..).completes rfl
  | portUnpark => exact (execPortUnpark_touches ..).completes rfl
  | dlyCal => exact (execDlyCal_touches ..).completes rfl
  | dlyCalDone => exact (execDlyCalDone_touches ..).completes rfl
  | capStart => exact (execCapStart_touches ..).completes rfl
  | capAbort => exact (execCapAbort_touches ..).completes rfl
  | captureTrigger => exact (execCaptureTrigger_touches ..).completes rfl
  | captureEnd => exact (execCaptureEnd_touches ..).completes rfl
  | captureOverflow => exact (execCaptureOverflow_touches ..).completes rfl
  | rxSlip => exact (execRxSlip_touches ..).completes rfl
  | txbufFault => exact (execTxbufFault_touches ..).completes rfl
  | jesdEnable => exact (execJesdEnable_touches ..).completes rfl
  | jesdDisable => exact (execJesdDisable_touches ..).completes rfl
  | jesdTxFramingStart => exact (execJesdTxFramingStart_touches ..).completes rfl
  | jesdTxStopDone => exact (execJesdTxStopDone_touches ..).completes rfl
  | jesdRxBlockLock => exact (execJesdRxBlockLock_touches ..).completes rfl
  | jesdRxMblkFound => exact (execJesdRxMblkFound_touches ..).completes rfl
  | jesdRxRelease => exact (execJesdRxRelease_touches ..).completes rfl
  | jloss => exact (execJloss_touches ..).completes rfl
  | jcrc => exact (execJcrc_touches ..).completes rfl
  | corStart => exact (execCorStart_touches ..).completes rfl
  | corClose => exact (execCorClose_touches ..).completes rfl
  | corHold => exact (execCorHold_touches ..).completes rfl
  | corResume => exact (execCorResume_touches ..).completes rfl
  | corStop => exact (execCorStop_touches ..).completes rfl
  | corAbort => exact (execCorAbort_touches ..).completes rfl
  | corClear => exact (execCorClear_touches ..).completes rfl
  | corRefSwap => exact (execCorRefSwap_touches ..).completes rfl
  | corLevelWrite => exact (execCorLevelWrite_touches ..).completes rfl
  | corFrameClose => exact (execCorFrameClose_touches ..).completes rfl
  | corBlockEnd => exact (execCorBlockEnd_touches ..).completes rfl
  | corUpdate => exact (execCorUpdate_touches ..).completes rfl
  | rampStart => exact (execRampStart_touches ..).completes rfl
  | rampEnd => exact (execRampEnd_touches ..).completes rfl
  | tiuEnable => exact (execTiuEnable_touches ..).completes rfl
  | tiuDisable => exact (execTiuDisable_touches ..).completes rfl
  | tiuDllLock => exact (execTiuDllLock_touches ..).completes rfl
  | tiuStopDone => exact (execTiuStopDone_touches ..).completes rfl
  | tiuArm => exact (execTiuArm_touches ..).completes rfl
  | tiuAbort => exact (execTiuAbort_touches ..).completes rfl
  | tiuT0 => exact (execTiuT0_touches ..).completes rfl
  | tiuEdge => exact (execTiuEdge_touches ..).completes rfl
  | tiuDone => exact (execTiuDone_touches ..).completes rfl
  | tiuCalRun => exact (execTiuCalRun_touches ..).completes rfl
  | tiuCalComplete => exact (execTiuCalComplete_touches ..).completes rfl
  | tiuReservedWrite => exact (execTiuReservedWrite_touches ..).completes rfl
  | channelPulse => exact (execChannelPulse_touches ..).completes rfl
  | channelLockoutEnd => exact (execChannelLockoutEnd_touches ..).completes rfl
  | loopWindowEnd => exact (execLoopWindowEnd_touches ..).completes rfl
  | matrixWrite => exact (execMatrixWrite_touches ..).completes rfl
  | groupEnableWrite => exact (execGroupEnableWrite_touches ..).completes rfl
  | hostFire => exact (execHostFire_touches ..).completes rfl
  | taskCfgWrite => exact (execTaskCfgWrite_touches ..).completes rfl
  | taskTrigger => exact (execTaskTrigger_touches ..).completes rfl
  | taskFire => exact (execTaskFire_touches ..).completes rfl
  | taskDeferDeliver => exact (execTaskDeferDeliver_touches ..).completes rfl
  | taskCntClr => exact (execTaskCntClr_touches ..).completes rfl
  | armGroup => exact (execArmGroup_touches ..).completes rfl
  | stopGroup => exact (execStopGroup_touches ..).completes rfl
  | captureTask => exact (execCaptureTask_touches ..).completes rfl
  | sysrefBurst => exact (execSysrefBurst_touches ..).completes rfl
  | groupEnableTask => exact (execGroupEnableTask_touches ..).completes rfl
  | groupDisableTask => exact (execGroupDisableTask_touches ..).completes rfl
  | tiuArmTask => exact (execTiuArmTask_touches ..).completes rfl
  | corAbortTask => exact (execCorAbortTask_touches ..).completes rfl
  | corStopTask => exact (execCorStopTask_touches ..).completes rfl
  | archiveLogTask => exact (execArchiveLogTask_touches ..).completes rfl
  | remoteEventSend => exact (execRemoteEventSend_touches ..).completes rfl
  | doorbell => exact (execDoorbell_touches ..).completes rfl
  | ccProducerPulse => exact (execCcProducerPulse_touches ..).completes rfl
  | timerCfgWrite => exact (execTimerCfgWrite_touches ..).completes rfl
  | timerFire => exact (execTimerFire_touches ..).completes rfl
  | thresholdCross => exact (execThresholdCross_touches ..).completes rfl
  | evioInputEdge => exact (execEvioInputEdge_touches ..).completes rfl
  | evioAlignPulse => exact (execEvioAlignPulse_touches ..).completes rfl
  | irqPresent t => exact (execIrqPresent_touches t s).completes rfl
  | irqClaim => exact (execIrqClaim_touches ..).completes rfl
  | irqEoi => exact (execIrqEoi_touches ..).completes rfl
  | irqRouteWrite => exact (execIrqRouteWrite_touches ..).completes rfl
  | msixUnmask => exact (execMsixUnmask_touches ..).completes rfl
  | icSwSet => exact (execIcSwSet_touches ..).completes rfl
  | wakeWatcherAssert => exact (execWakeWatcherAssert_touches ..).completes rfl
  | ledgerClear => exact (execLedgerClear_touches ..).completes rfl
  | ledgerPersistReraise => exact (execLedgerPersistReraise_touches ..).completes rfl
  | archiveWriteEntry => exact (execArchiveWriteEntry_touches ..).completes rfl
  | archiveRdWrite => exact (execArchiveRdWrite_touches ..).completes rfl
  | archiveTempPeriodic => exact (execArchiveTempPeriodic_touches ..).completes rfl
  | linkEnable => exact (execLinkEnable_touches ..).completes rfl
  | linkDisable => exact (execLinkDisable_touches ..).completes rfl
  | linkStopDone => exact (execLinkStopDone_touches ..).completes rfl
  | linkTrained => exact (execLinkTrained_touches ..).completes rfl
  | linkTrainTimeout => exact (execLinkTrainTimeout_touches ..).completes rfl
  | linkMeasureDone => exact (execLinkMeasureDone_touches ..).completes rfl
  | linkSyncLoss => exact (execLinkSyncLoss_touches ..).completes rfl
  | linkRetrainLock => exact (execLinkRetrainLock_touches ..).completes rfl
  | linkRetrainTimeout => exact (execLinkRetrainTimeout_touches ..).completes rfl
  | linkDownTimeout => exact (execLinkDownTimeout_touches ..).completes rfl
  | linkFrameTx => exact (execLinkFrameTx_touches ..).completes rfl
  | headerRx => exact (execHeaderRx_touches ..).completes rfl
  | msgTime => exact (execMsgTime_touches ..).completes rfl
  | msgEvent => exact (execMsgEvent_touches ..).completes rfl
  | msgStream => exact (execMsgStream_touches ..).completes rfl
  | msgMgmt => exact (execMsgMgmt_touches ..).completes rfl
  | linkAlign => exact (execLinkAlign_touches ..).completes rfl
  | alignParentReady => exact (execAlignParentReady_touches ..).completes rfl
  | alignAnchorArm => exact (execAlignAnchorArm_touches ..).completes rfl
  | alignVerify => exact (execAlignVerify_touches ..).completes rfl
  | autoAlignStart => exact (execAutoAlignStart_touches ..).completes rfl
  | rcalCheck => exact (execRcalCheck_touches ..).completes rfl
  | calMeasComplete => exact (execCalMeasComplete_touches ..).completes rfl
  | calMeasTimeout => exact (execCalMeasTimeout_touches ..).completes rfl
  | calLoadExtrap => exact (execCalLoadExtrap_touches ..).completes rfl
  | calAccept => exact (execCalAccept_touches ..).completes rfl
  | calRemeasure => exact (execCalRemeasure_touches ..).completes rfl
  | calHold => exact (execCalHold_touches ..).completes rfl
  | calRun => exact (execCalRun_touches ..).completes rfl
  | calAbort => exact (execCalAbort_touches ..).completes rfl
  | calHostRunDone => exact (execCalHostRunDone_touches ..).completes rfl
  | ovrLoad => exact (execOvrLoad_touches ..).completes rfl
  | ovrLoadDone => exact (execOvrLoadDone_touches ..).completes rfl
  | imageLoad => exact (execImageLoad_touches ..).completes rfl
  | imageLoadDone => exact (execImageLoadDone_touches ..).completes rfl
  | reissue => exact (execReissue_touches ..).completes rfl
  | tileEnable => exact (execTileEnable_touches ..).completes rfl
  | tileDisable => exact (execTileDisable_touches ..).completes rfl
  | tileStartDone => exact (execTileStartDone_touches ..).completes rfl
  | tileStopDone => exact (execTileStopDone_touches ..).completes rfl
  | tileLoadDone => exact (execTileLoadDone_touches ..).completes rfl
  | bootAttemptStart => exact (execBootAttemptStart_touches ..).completes rfl
  | bootStageDone => exact execBootStageDone_completes ..
  | bootGo => exact (execBootGo_touches ..).completes rfl
  | hostTimeout => exact execHostTimeout_completes ..
  | bootStageFail => exact execBootStageFail_completes ..
  | bootRetryDelay => exact (execBootRetryDelay_touches ..).completes rfl
  | bootReady => exact (execBootReady_touches ..).completes rfl
  | bootRetry => exact execBootRetry_completes ..
  | loaderWrite => exact (execLoaderWrite_touches ..).completes rfl
  | loaderVerify => exact (execLoaderVerify_touches ..).completes rfl
  | loaderRead => exact (execLoaderRead_touches ..).completes rfl
  | loaderDone => exact (execLoaderDone_touches ..).completes rfl
  | sysReset => exact execSysReset_completes ..
  | aonPowerOn => exact execAonPowerOn_completes ..
  | standby => exact (execStandby_touches ..).completes rfl
  | pwrResume => exact (execPwrResume_touches ..).completes rfl
  | sleep => exact (execSleep_touches ..).completes rfl
  | wake => exact (execWake_touches ..).completes rfl
  | powerTransitionDone => exact (execPowerTransitionDone_touches ..).completes rfl
  | runIdleChange => exact (execRunIdleChange_touches ..).completes rfl
  | mainRailPgLoss => exact execMainRailPgLoss_completes ..
  | supplyUv => exact (execSupplyUv_touches ..).completes rfl
  | attest => exact (execAttest_touches ..).completes rfl
  | selftest => exact (execSelftest_touches ..).completes rfl
  | provision => exact (execProvision_touches ..).completes rfl
  | secField => exact (execSecField_touches ..).completes rfl
  | rmaNonce => exact (execRmaNonce_touches ..).completes rfl
  | rmaApply => exact (execRmaApply_touches ..).completes rfl
  | retire => exact (execRetire_touches ..).completes rfl
  | zeroize => exact (execZeroize_touches ..).completes rfl
  | zeroizeData => exact (execZeroizeData_touches ..).completes rfl
  | advFw => exact (execAdvFw_touches ..).completes rfl
  | advImg => exact (execAdvImg_touches ..).completes rfl
  | advOvr => exact (execAdvOvr_touches ..).completes rfl
  | secCmdInvalid => exact (execSecCmdInvalid_touches ..).completes rfl
  | secErrorEnter => exact execSecErrorEnter_completes ..
  | fuseInit => exact (execFuseInit_touches ..).completes rfl
  | extest => exact (execExtest_touches ..).completes rfl
  | extestPulse => exact (execExtestPulse_touches ..).completes rfl
  | extestTrain => exact (execExtestTrain_touches ..).completes rfl
  | extestDeselect => exact (execExtestDeselect_touches ..).completes rfl
  | idcode => exact (execIdcode_touches ..).completes rfl
  | samplePreload => exact (execSamplePreload_touches ..).completes rfl
  | bypass => exact (execBypass_touches ..).completes rfl
  | hostLinkReset => exact (execHostLinkReset_touches ..).completes rfl
  | hostLinkUp => exact (execHostLinkUp_touches ..).completes rfl
  | flr => exact (execFlr_touches ..).completes rfl
  | pfD3hot => exact (execPfD3hot_touches ..).completes rfl
  | bmeClear => exact (execBmeClear_touches ..).completes rfl
  | dmaQueueEnable => exact (execDmaQueueEnable_touches ..).completes rfl
  | dmaQueueDisable => exact (execDmaQueueDisable_touches ..).completes rfl
  | dmaStopDone => exact (execDmaStopDone_touches ..).completes rfl
  | dmaTailWrite => exact (execDmaTailWrite_touches ..).completes rfl
  | writeSeg => exact (execWriteSeg_touches ..).completes rfl
  | readSeg => exact (execReadSeg_touches ..).completes rfl
  | writeSp => exact (execWriteSp_touches ..).completes rfl
  | readSp => exact (execReadSp_touches ..).completes rfl
  | dmaCard => exact (execDmaCard_touches ..).completes rfl
  | descWriteback => exact (execDescWriteback_touches ..).completes rfl
  | sensorReading => exact (execSensorReading_touches ..).completes rfl
  | thermalForcedStandby => exact (execThermalForcedStandby_touches ..).completes rfl
  | thermalTripClear => exact (execThermalTripClear_touches ..).completes rfl
  | wearSecond => exact (execWearSecond_touches ..).completes rfl
  | wearCommit => exact (execWearCommit_touches ..).completes rfl
  | converterSupplyGood => exact (execConverterSupplyGood_touches ..).completes rfl
  | portRelease => exact (execPortRelease_touches ..).completes rfl
  | tiuDllLockLoss => exact (execTiuDllLockLoss_touches ..).completes rfl
  | jesdRxOffReached => exact (execJesdRxOffReached_touches ..).completes rfl
  | secCmdDone => exact execSecCmdDone_completes ..
  | pfD0Entry => exact (execPfD0Entry_touches ..).completes rfl
  | bmeSet => exact (execBmeSet_touches ..).completes rfl
  | msixFunctionMask => exact (execMsixFunctionMask_touches ..).completes rfl
  | crossbarFault => exact (execCrossbarFault_touches ..).completes rfl
  | fftSliceFault => exact (execFftSliceFault_touches ..).completes rfl
  | stackTrainingLoss => exact (execStackTrainingLoss_touches ..).completes rfl

/-- A tick of device time puts nothing in the queue. -/
theorem State.tickOnce_pending (s : State) : s.tickOnce.pending = s.pending := s.tickOnce_touches.pending rfl

/-- Settles O2: every command completes, with the queue's rest when a step takes it, and a step of an empty queue is a tick. -/
theorem everyCommandCompletes : Obligations.EveryCommandCompletes := by
  refine ⟨fun c s => exec_completes c s, fun s => ?_⟩
  cases h : s.pending with
  | nil => exact ⟨s.tickOnce, by rw [step, h], s.tickOnce_pending.trans h⟩
  | cons c rest =>
    rw [step, h]
    exact exec_completes c { s with pending := rest }

end Sys2Proof.Machine
end

section
/-!
PROOFS. Alignment of a studio follower (O49): each command of the alignment is a run of writes in the case its clause names.
-/
namespace Sys2Proof.Machine

section
variable {s : State} {l : Nat}

/-! ### ALIGN (R355, R359) -/

/-- What a start of an alignment writes. -/
abbrev alignStarted : List (Key × Nat) := [(Fld.LK_STUDIO_STATUS_STATE, 2), (Fld.LK_STUDIO_STATUS_RESULT, 0), (Lat.ST_FRESH, 0), (Lat.ST_OUT, 0)]

/-- What an alignment that fails writes. -/
abbrev alignFailed : List (Key × Nat) :=
  [(Fld.LK_STUDIO_STATUS_STATE, 1), (Fld.LK_STUDIO_STATUS_RESULT, 4), (Fld.LK_STUDIO_EVT_ALIGN_FAIL, 1), (Lat.ST_OUT, 0)]

section
variable (ho : s.hostOpen = true)
include ho

theorem exec_linkAlign_leader (hl : s.is Fld.LK_STUDIO_LEAD = true) : exec .linkAlign s = .next (s.sets [(Fld.LK_STUDIO_STATUS_RESULT, 3)]) := by
  change execLinkAlign s = _
  rw [execLinkAlign, State.onHost_open _ _ ho, if_pos hl]
  rfl

section
variable (hf : s.is Fld.LK_STUDIO_LEAD = false)
include hf

theorem exec_linkAlign_noParent (hu : s.upLink = none) : exec .linkAlign s = .next s := by
  change execLinkAlign s = _
  rw [execLinkAlign, State.onHost_open _ _ ho, if_neg (by simp [hf]), hu]

section
variable (hu : s.upLink = some l)
include hu

/-- On a follower with an UP link the state of the studio, the link's cause and the reels decide. -/
theorem exec_linkAlign_follower : exec .linkAlign s = .next
    (if 2 ≤ s.get Fld.LK_STUDIO_STATUS_STATE ∧ s.get Fld.LK_STUDIO_STATUS_STATE ≤ 4 then s
      else if s.get (Fld.LK_STATUS_CAUSE l) = 10 then s.sets [(Fld.LK_STUDIO_STATUS_RESULT, 2)]
      else if !s.allIdle then s.sets [(Fld.LK_STUDIO_STATUS_RESULT, 1)]
      else s.sets alignStarted) := by
  change execLinkAlign s = _
  rw [execLinkAlign, State.onHost_open _ _ ho, if_neg (by simp [hf]), hu]
  rfl

theorem exec_linkAlign_running (h2 : 2 ≤ s.get Fld.LK_STUDIO_STATUS_STATE) (h4 : s.get Fld.LK_STUDIO_STATUS_STATE ≤ 4) :
    exec .linkAlign s = .next s := by
  rw [exec_linkAlign_follower ho hf hu, if_pos ⟨h2, h4⟩]

section
variable (hr : s.get Fld.LK_STUDIO_STATUS_STATE < 2 ∨ 4 < s.get Fld.LK_STUDIO_STATUS_STATE)
include hr

theorem exec_linkAlign_frequency (hc : s.get (Fld.LK_STATUS_CAUSE l) = 10) :
    exec .linkAlign s = .next (s.sets [(Fld.LK_STUDIO_STATUS_RESULT, 2)]) := by
  rw [exec_linkAlign_follower ho hf hu, if_neg (by omega), if_pos hc]

theorem exec_linkAlign_busy (hc : s.get (Fld.LK_STATUS_CAUSE l) ≠ 10) (hi : s.allIdle = false) :
    exec .linkAlign s = .next (s.sets [(Fld.LK_STUDIO_STATUS_RESULT, 1)]) := by
  rw [exec_linkAlign_follower ho hf hu, if_neg (by omega), if_neg hc, if_pos (by simp [hi])]

theorem exec_linkAlign_starts (hc : s.get (Fld.LK_STATUS_CAUSE l) ≠ 10) (hi : s.allIdle = true) :
    exec .linkAlign s = .next (s.sets alignStarted) := by
  rw [exec_linkAlign_follower ho hf hu, if_neg (by omega), if_neg hc, if_neg (by simp [hi])]

end

end

end

end

/-! ### The steps of an alignment (R355) -/

/-- Without an UP link no step of an alignment that asks the parent does anything. -/
theorem exec_align_noParent (hu : s.upLink = none) :
    exec .alignParentReady s = .next s ∧ exec .alignVerify s = .next s ∧ exec .autoAlignStart s = .next s := by
  refine ⟨?_, ?_, ?_⟩
  · change execAlignParentReady s = _
    rw [execAlignParentReady, hu]
  · change execAlignVerify s = _
    rw [execAlignVerify, hu]
  · change execAutoAlignStart s = _
    rw [execAutoAlignStart, hu]

section
variable (hu : s.upLink = some l)
include hu

/-- What the beginning of MEASURING writes: the average starts again. -/
abbrev alignMeasuring (l : Nat) : List (Key × Nat) :=
  [(Fld.LK_STUDIO_STATUS_STATE, 3), (Lat.ST_FRESH, 0), (Lat.LK_N l, 0), (Lat.LK_SUM_T l, 0), (Lat.LK_SUM_R l, 0), (Lat.LK_HDR l, 0)]

theorem exec_alignParentReady : exec .alignParentReady s = .next
    (if s.get Fld.LK_STUDIO_STATUS_STATE = 2 ∧ s.linkState l = 3 ∧ s.is (Fld.LK_STATUS_PARTNER_ALIGNED l) = true then s.sets (alignMeasuring l) else s) := by
  change execAlignParentReady s = _
  rw [execAlignParentReady, hu]
  rfl

/-- What the end of an alignment within the tolerance writes. -/
abbrev alignDone : List (Key × Nat) :=
  [(Fld.LK_STUDIO_STATUS_STATE, 5), (Fld.LK_STUDIO_STATUS_RESULT, 0), (Fld.LK_STUDIO_EVT_ALIGN_DONE, 1), (Lat.ST_OUT, 0)]

theorem exec_alignVerify : exec .alignVerify s = .next
    (if s.get Fld.LK_STUDIO_STATUS_STATE = 4 ∧ s.is Lat.ST_OUT = true ∧ s.is Lat.ST_FRESH = true then
      if s.withinTenths (s.theta l) (s.get Fld.LK_STUDIO_CFG_TOL) = true then s.sets alignDone else s.sets alignFailed
    else s) := by
  change execAlignVerify s = _
  rw [execAlignVerify, hu]
  rfl

theorem exec_autoAlignStart : exec .autoAlignStart s = .next
    (if s.get Fld.LK_STUDIO_STATUS_STATE = 6 ∧ s.is Fld.LK_STUDIO_CFG_AUTO_ALIGN = true ∧ s.allIdle = true ∧ s.get (Fld.LK_STATUS_CAUSE l) ≠ 10 then
      s.sets alignStarted
    else s) := by
  change execAutoAlignStart s = _
  rw [execAutoAlignStart, hu]
  rfl

end

/-- What an anchor armed by an alignment writes. -/
abbrev State.alignArmed (s : State) : List (Key × Nat) :=
  [(Fld.TB_STATUS_ANCHOR_ARMED, 1), (Lat.TB_ANCHOR_TICK, wordUp (s.tick + 512) % 2 ^ 64), (Fld.LK_STUDIO_STATUS_STATE, 4), (Lat.ST_FRESH, 0), (Lat.ST_OUT, 0)]

theorem exec_alignAnchorArm : exec .alignAnchorArm s = .next
    (if s.get Fld.LK_STUDIO_STATUS_STATE = 3 ∧ s.is Lat.ST_FRESH = true then
      if s.locked = true then s.sets s.alignArmed else s.sets alignFailed
    else s) := by
  change execAlignAnchorArm s = _
  have harm : ∀ a : State, a.set Lat.TB_ANCHOR_TICK (wordUp (s.tick + 512) % 2 ^ 64) = a.set Lat.TB_ANCHOR_TICK (wordUp (s.tick + 512)) := fun a =>
    a.set_mod Lat.TB_ANCHOR_TICK _
  rw [State.alignArmed, State.sets_cons, State.sets_cons, harm]
  rfl

end

/-- Settles O49: every command of an alignment is a run of writes in the case its clause names, and keeps the state in any other. -/
theorem studioAlignment : Obligations.StudioAlignment := by
  refine ⟨fun s ho => ⟨fun hl => ?leader, exec_linkAlign_noParent ho, fun hf l hu => ⟨exec_linkAlign_running ho hf hu, fun hr hc => ?frequency,
      fun hr hc hi => ?busy, fun hr hc hi => ?starts⟩⟩,
    fun s => ⟨exec_align_noParent, fun l hu => ⟨fun h2 hl hp => ?ready, fun h => ?notReady, fun h4 hout hfresh htol => ?aligned,
      fun h4 hout hfresh htol => ?outside, fun h => ?notVerified, fun h6 ha hi hc => ?auto, fun h => ?notAuto⟩,
      fun h3 hfresh hlock => ?armed, fun h3 hfresh hlock => ?unlocked, fun h => ?notArmed⟩⟩
  case leader => exact Gives.of_sets (exec_linkAlign_leader ho hl) (by simp) (by simp)
  case frequency => exact Gives.of_sets (exec_linkAlign_frequency ho hf hu hr hc) (by simp) (by simp)
  case busy => exact Gives.of_sets (exec_linkAlign_busy ho hf hu hr hc hi) (by simp) (by simp)
  case starts => exact Gives.of_sets (exec_linkAlign_starts ho hf hu hr hc hi) (by simp) (by simp)
  case ready => exact Gives.of_sets ((exec_alignParentReady hu).trans (congrArg _ (if_pos ⟨h2, hl, hp⟩))) (by simp) (by simp)
  case notReady => exact (exec_alignParentReady hu).trans (congrArg _ (if_neg (by rcases h with h | h | h <;> simp [h])))
  case aligned => exact Gives.of_sets ((exec_alignVerify hu).trans (congrArg _ ((if_pos ⟨h4, hout, hfresh⟩).trans (if_pos htol)))) (by simp) (by simp)
  case outside =>
    exact Gives.of_sets ((exec_alignVerify hu).trans (congrArg _ ((if_pos ⟨h4, hout, hfresh⟩).trans (if_neg (by simp [htol]))))) (by simp) (by simp)
  case notVerified => exact (exec_alignVerify hu).trans (congrArg _ (if_neg (by rcases h with h | h | h <;> simp [h])))
  case auto => exact Gives.of_sets ((exec_autoAlignStart hu).trans (congrArg _ (if_pos ⟨h6, ha, hi, hc⟩))) (by simp) (by simp)
  case notAuto => exact (exec_autoAlignStart hu).trans (congrArg _ (if_neg (by rcases h with h | h | h | h <;> simp [h])))
  case armed =>
    exact Gives.of_sets (exec_alignAnchorArm.trans (congrArg _ ((if_pos ⟨h3, hfresh⟩).trans (if_pos hlock)))) (by simp)
      (by simpa using Nat.mod_lt _ (by decide))
  case unlocked => exact Gives.of_sets (exec_alignAnchorArm.trans (congrArg _ ((if_pos ⟨h3, hfresh⟩).trans (if_neg (by simp [hlock]))))) (by simp) (by simp)
  case notArmed => exact exec_alignAnchorArm.trans (congrArg _ (if_neg (by rcases h with h | h <;> simp [h])))

end Sys2Proof.Machine
end

section
/-!
PROOFS. Frames, messages and streams of a link (O48): a frame is its header and the EVENT messages that wait, a bad message is counted, and each good
one is a run of writes with the pulses, samples or bytes that it brings.
-/
namespace Sys2Proof.Machine

/-! ### Frames (R348 to R351) -/

section
variable {s : State} {l : Fin 16}

/-- A change that leaves the state as it is for every member of a list. -/
theorem State.each_eq_self {α : Type} {f : α → State → State} (h : ∀ x, f x s = s) (xs : List α) : s.each xs f = s := by
  induction xs with
  | nil => rfl
  | cons x xs ih => rw [State.each_cons, h, ih]

/-- Streams send nothing while no sample waits on the link. -/
theorem State.sendStreams_of_none {l : Nat} (h : s.txs.all (fun x => x.link != l) = true) (fuel room : Nat) : s.sendStreams l fuel room = s := by
  have hnone : s.txs.find? (fun x => x.link == l) = none := by simpa using h
  cases fuel with
  | zero => rfl
  | succ fuel => rw [State.sendStreams, State.txRun, hnone]

/-- What the header of frame `f` writes. -/
abbrev frameSent (l f : Nat) : List (Key × Nat) := [(Lat.LK_SENT l, (f + 1) % 2 ^ (Lat.LK_SENT l).w)]

/-- The state in which the header of the frame at the present tick has left. -/
abbrev State.headerSent (s : State) (l : Nat) : State := (s.emit (.link l 0 [s.header l (s.tick / 528)])).sets (frameSent l (s.tick / 528))

/-- The state in which the waiting EVENT message `m` has left. -/
abbrev State.eventSent (s : State) (l : Nat) (m : Nat × Nat × Nat × Bool) : State :=
  ({ s with txq := removeFirst (fun x => x == m) s.txq }).emit (.link l 2 [eventMessage m.2.1 m.2.2.2 m.2.2.1])

theorem exec_linkFrameTx_quiet (h : s.tick % 528 ≠ 0 ∨ s.get (Lat.LK_SENT l) = s.tick / 528 + 1 ∨ s.linkState l = 0 ∨ 5 ≤ s.linkState l) :
    exec (.linkFrameTx l) s = .next s := by
  refine congrArg Host.Outcome.next (if_pos ?_)
  rcases h with h | h | h
  · exact .inl h
  · exact .inr (.inl h)
  · exact .inr (.inr (by omega))

section
variable (h0 : s.tick % 528 = 0) (hn : s.get (Lat.LK_SENT l) ≠ s.tick / 528 + 1) (h1 : 1 ≤ s.linkState l) (h4 : s.linkState l ≤ 4)
  (hx : s.txs.all (fun x => x.link != (l : Nat)) = true) (hh : s.is (Lat.LK_HDR l) = false)
include h0 hn h1 h4 hx hh

/-- Without a TIME message and without samples that wait, a frame is its header and EVENT messages. -/
theorem exec_linkFrameTx_sends : exec (.linkFrameTx l) s = .next
    ((s.headerSent l).each ((s.txq.filter (fun m => m.1 == (l : Nat))).take 31) fun m a => a.eventSent l m) := by
  have hheader : (s.set (Lat.LK_SENT l) (s.tick / 528 + 1)).emit (.link l 0 [s.header l (s.tick / 528)]) = s.headerSent l :=
    (congrArg (State.emit · _) (s.set_mod (Lat.LK_SENT l) _)).symm
  have hstreams : ∀ ms, (((s.headerSent l).each ms fun m a => a.eventSent l m).txs).all (fun x => x.link != (l : Nat)) = true := fun ms => by
    rwa [State.each_keeps State.txs (fun m a => a.eventSent l m) ms fun _ _ => rfl]
  change execLinkFrameTx l s = _
  refine congrArg Host.Outcome.next ((if_neg (by simp [State.now, h0, hn, h1, h4])).trans ?_)
  simp only [State.now, hheader, hh, Bool.false_and, State.when_false, State.sendStreams_of_none (hstreams _), ite_self]
  rfl

theorem linkFrameTx_does_header (hq : s.txq.all (fun m => m.1 != (l : Nat)) = true) :
    Does (.linkFrameTx l) s [.out] (fun _ => false) (frameSent l (s.tick / 528)) (fun t => t.out = .link l 0 [s.header l (s.tick / 528)] :: s.out) := by
  have hnone : s.txq.filter (fun m => m.1 == (l : Nat)) = [] := by simpa using hq
  have he := exec_linkFrameTx_sends h0 hn h1 h4 hx hh
  rw [hnone] at he
  exact Does.of_parts he (by simp) (by simpa using Nat.mod_lt _ (by decide)) (Frame.on_out rfl (Frame.refl _ _ _)) rfl

theorem linkFrameTx_does_event {m : Nat × Nat × Nat × Bool} (hm : s.txq.head? = some m) (hl : m.1 = l)
    (hq : s.txq.tail.all (fun m => m.1 != (l : Nat)) = true) :
    Does (.linkFrameTx l) s [.out, .txq] (fun _ => false) (frameSent l (s.tick / 528)) (fun t => t.txq = s.txq.tail ∧
      t.out = .link l 2 [eventMessage m.2.1 m.2.2.2 m.2.2.1] :: .link l 0 [s.header l (s.tick / 528)] :: s.out) := by
  have hone : s.txq.filter (fun m => m.1 == (l : Nat)) = [m] := by
    obtain ⟨rest, hrest⟩ := List.head?_eq_some_iff.mp hm
    have hnone : rest.filter (fun m => m.1 == (l : Nat)) = [] := by simpa [hrest] using hq
    rw [hrest, List.filter_cons_of_pos (by simpa using hl), hnone]
  have he := exec_linkFrameTx_sends h0 hn h1 h4 hx hh
  rw [hone] at he
  exact Does.of_parts (a := (s.emit (.link l 0 [s.header l (s.tick / 528)])).eventSent l m) he (by simp) (by simpa using Nat.mod_lt _ (by decide))
    (Frame.on_out rfl (Frame.on_txq rfl (Frame.on_out rfl (Frame.refl _ _ _)))) ⟨removeFirst_of_head hm (by simp), rfl⟩

end

end

/-! ### Messages with a bad CRC (R350) -/

/-- What a discarded message of link `l` writes. -/
abbrev State.badCounted (s : State) (l : Nat) : List (Key × Nat) :=
  [(Fld.LK_CNT_CRC_ERR l, min (s.get (Fld.LK_CNT_CRC_ERR l) + 1) (2 ^ (Fld.LK_CNT_CRC_ERR l).w - 1)), (Fld.LK_EVT_CRC l, 1)]

theorem Gives.of_crcError {c : Instr} {s : State} {l : Nat} (he : exec c s = .next (s.crcError l)) : Gives c s (s.badCounted l) :=
  Gives.of_sets he (by simp) (by simp)

/-! ### TIME messages (R350, R354) -/

/-- The arrival of a frame by this end's clock, less its departure by the partner's: this end's stamp less the partner's T_f. -/
abbrev State.inbound (s : State) (l w2 : Nat) : Int := (s.get (Lat.LK_HDR_A l) : Int) - ((w2 * 65536 : Nat) + s.fsToTick (s.linkFigures l).1)

/-- The arrival of a frame by the partner's clock, less its departure by this end's. -/
abbrev State.outbound (s : State) (l w0 w1 : Nat) : Int :=
  ((extend 48 (bitsOf w1 16 48) s.tick * 65536 + bitsOf w1 0 16 : Nat) : Int) -
    ((528 * extend 40 (bitsOf w0 4 40) (s.tick / 528) * 65536 : Nat) + s.fsToTick (s.linkFigures l).1)

section
variable (s : State) (l : Nat) (x y : Int)

/-- The state after an exchange with `x` in and `y` out: its difference and sum count, and the first difference of an average is noted. -/
def State.exchanged : State :=
  ((((if s.get (Lat.LK_N l) = 0 then s.seti (Lat.LK_T0 l) (x - y) else s).seti (Lat.LK_T1 l) (x - y)).seti (Lat.LK_SUM_T l)
    (s.geti (Lat.LK_SUM_T l) + (x - y))).seti (Lat.LK_SUM_R l) (s.geti (Lat.LK_SUM_R l) + (x + y))).bump (Lat.LK_N l)

/-- The writes of that exchange. -/
abbrev State.exchangeWrites : List (Key × Nat) :=
  (if s.get (Lat.LK_N l) = 0 then [(Lat.LK_T0 l, ux (Lat.LK_T0 l).w (x - y))] else []) ++
    [(Lat.LK_T1 l, ux (Lat.LK_T1 l).w (x - y)), (Lat.LK_SUM_T l, ux (Lat.LK_SUM_T l).w (s.geti (Lat.LK_SUM_T l) + (x - y))),
      (Lat.LK_SUM_R l, ux (Lat.LK_SUM_R l).w (s.geti (Lat.LK_SUM_R l) + (x + y))), (Lat.LK_N l, min (s.get (Lat.LK_N l) + 1) (2 ^ (Lat.LK_N l).w - 1))]

/-- What its fields hold then. -/
abbrev State.exchangeNoted : List (Key × Nat) :=
  [(Lat.LK_N l, min (s.get (Lat.LK_N l) + 1) (2 ^ (Lat.LK_N l).w - 1)),
    (Lat.LK_T0 l, if s.get (Lat.LK_N l) = 0 then ux (Lat.LK_T0 l).w (x - y) else s.get (Lat.LK_T0 l)), (Lat.LK_T1 l, ux (Lat.LK_T1 l).w (x - y)),
    (Lat.LK_SUM_T l, ux (Lat.LK_SUM_T l).w (s.geti (Lat.LK_SUM_T l) + (x - y))), (Lat.LK_SUM_R l, ux (Lat.LK_SUM_R l).w (s.geti (Lat.LK_SUM_R l) + (x + y)))]

theorem State.exchanged_eq : s.exchanged l x y = s.sets (s.exchangeWrites l x y) := by
  unfold State.exchanged
  split
  · next h => simp [State.exchangeWrites, h, State.bump, State.seti, State.get_set]
  · next h => simp [State.exchangeWrites, h, State.bump, State.seti, State.get_set]

theorem State.exchangeWrites_named : ∀ q ∈ s.exchangeWrites l x y, named (s.exchangeNoted l x y) q.1 = true := by
  by_cases h : s.get (Lat.LK_N l) = 0
  · simp [State.exchangeWrites, h, named]
  · simp [State.exchangeWrites, h, named]

theorem State.exchangeWrites_get : ∀ q ∈ s.exchangeNoted l x y, (s.sets (s.exchangeWrites l x y)).get q.1 = q.2 := by
  have hux : ∀ (v : Int), ux 128 v % 2 ^ 128 = ux 128 v := fun v => Nat.mod_eq_of_lt (ux_lt 128 v)
  have hcount : ∀ v, min v (2 ^ 11 - 1) % 2 ^ 11 = min v (2 ^ 11 - 1) := fun v => Nat.mod_eq_of_lt (by omega)
  by_cases h : s.get (Lat.LK_N l) = 0
  · simp [State.exchangeWrites, h, State.get_set, -Nat.reducePow, hux, hcount]
  · simp [State.exchangeWrites, h, State.get_set, -Nat.reducePow, hux, hcount]

end

section
variable {s : State} {l : Fin 16} {w0 w1 w2 : Nat}

theorem exec_msgTime_idle (h2 : s.linkState l ≠ 2) (h3 : s.linkState l ≠ 3) : exec (.msgTime l w0 w1 w2) s = .next s :=
  congrArg Host.Outcome.next (if_pos (by simp [h2, h3]))

section
variable (hst : s.linkState l = 2 ∨ s.linkState l = 3)
include hst

theorem exec_msgTime_bad (hc : crcBlocks [w0 % 2 ^ 56, w1, w2] ≠ bitsOf w0 56 8) : exec (.msgTime l w0 w1 w2) s = .next (s.crcError l) :=
  congrArg Host.Outcome.next ((if_neg (not_not.mpr hst)).trans (if_pos hc))

section
variable (hc : crcBlocks [w0 % 2 ^ 56, w1, w2] = bitsOf w0 56 8)
include hc

theorem exec_msgTime_unmatched (h : s.is (Lat.LK_HDR l) = false ∨ s.get (Lat.LK_HDR_F l) ≠ w2 / 528 % 2 ^ 40) :
    exec (.msgTime l w0 w1 w2) s = .next s := by
  refine congrArg Host.Outcome.next ((if_neg (not_not.mpr hst)).trans ((if_neg (not_not.mpr hc)).trans (if_neg ?_)))
  rintro ⟨hh, hf⟩
  rcases h with h | h
  · simp [h] at hh
  · exact h hf

section
variable (hh : s.is (Lat.LK_HDR l) = true) (hf : s.get (Lat.LK_HDR_F l) = w2 / 528 % 2 ^ 40)
include hh hf

theorem exec_msgTime_closes : exec (.msgTime l w0 w1 w2) s = .next (s.exchanged l (s.inbound l w2) (s.outbound l w0 w1)) :=
  congrArg Host.Outcome.next ((if_neg (not_not.mpr hst)).trans ((if_neg (not_not.mpr hc)).trans (if_pos ⟨hh, hf⟩)))

theorem msgTime_gives_exchange : Gives (.msgTime l w0 w1 w2) s (s.exchangeNoted l (s.inbound l w2) (s.outbound l w0 w1)) := by
  refine Does.of_writes ((exec_msgTime_closes hst hc hh hf).trans (congrArg _ (s.exchanged_eq ..))) (fun q hq => ?named) (s.exchangeWrites_get l _ _) trivial
  case named => simpa using s.exchangeWrites_named l _ _ q hq

end

end

end

end

/-! ### EVENT messages (R360) -/

section
variable {s : State} {l : Fin 16} {w : Nat}

theorem exec_msgEvent_idle (h3 : s.linkState l ≠ 3) : exec (.msgEvent l w) s = .next s := congrArg Host.Outcome.next (if_pos h3)

theorem exec_msgEvent_bad (h3 : s.linkState l = 3) (hc : crc8 w 56 0 ≠ bitsOf w 56 8) : exec (.msgEvent l w) s = .next (s.crcError l) :=
  congrArg Host.Outcome.next ((if_neg (not_not.mpr h3)).trans (if_pos hc))

/-- The producers of the links are none of the reserved ones. -/
theorem producerReserved_link (l : Fin 16) {m : Nat} (hm : m < 8) : producerReserved (272 + 8 * l + m) = false :=
  producerReserved_of_lt (by omega) (by omega) (by omega)

/-- The tick of EVENT message `w` in local time, at the event latency. -/
abbrev State.eventTick (s : State) (l w : Nat) : Nat :=
  ((extend 48 (bitsOf w 8 48) s.tick : Int) + s.thetaTicks l + 8 * s.get Fld.LK_STUDIO_EV_LAT).toNat

theorem exec_msgEvent_pulses (h3 : s.linkState l = 3) (hc : crc8 w 56 0 = bitsOf w 56 8) (ha : s.asleep = false) :
    exec (.msgEvent l w) s = .next (s.edgesSent (272 + 8 * l + bitsOf w 4 3) (some (s.eventTick l w))) := by
  refine congrArg Host.Outcome.next ((if_neg (not_not.mpr h3)).trans ((if_neg (not_not.mpr hc)).trans ?_))
  exact State.pulse_sends (producerReserved_link l (bitsOf_lt w 4 3)) (.inl ha)

end

/-! ### STREAM messages (R350, R364) -/

section
variable {s : State} {l : Fin 16} {c : Fin 32} {w : Nat} {data : List Nat}

/-- No slot plays a stream of a link. -/
abbrev State.noSegmentStream (s : State) : Prop := ∀ k < 1024, s.get (Fld.MS_STRM_CFG_SRC_KIND k) ≠ 2

theorem State.ringSample_of_noSlot (h : s.noSegmentStream) (l j pos : Nat) (d : Int) : s.ringSample l j pos d = s := by
  have hnone : (List.range 1024).find? (fun n => s.get (Fld.MS_STRM_CFG_SRC_KIND n) == 2 && s.get (Fld.MS_STRM_CFG_SRC n) == 4 * l + j &&
      (s.boundCard n).isSome) = none := by
    refine List.find?_eq_none.mpr fun n hn => ?_
    simp [h n (List.mem_range.mp hn)]
  unfold State.ringSample
  dsimp only
  rw [hnone]

theorem State.segmentCommit_of_noSlot (h : s.noSegmentStream) (l j : Nat) : s.segmentCommit l j = s := by
  have hnone : (List.range 1024).find? (fun n => s.get (Fld.MS_STRM_CFG_SRC_KIND n) == 2 && s.get (Fld.MS_STRM_CFG_SRC n) == 4 * l + j) = none := by
    refine List.find?_eq_none.mpr fun n hn => ?_
    simp [h n (List.mem_range.mp hn)]
  unfold State.segmentCommit
  rw [hnone]

/-- What a SEGMENT message of `n` samples from position `p` does to the slot that it feeds: it writes them, and commits them where it says so. -/
def State.segmentFed (s : State) (l j p n : Nat) (commit : Bool) (d : Nat → Int) : State :=
  ((s.each (List.range n) fun i a => a.ringSample l j ((p + i) % 32768) (d i)).set (Lat.LK_RXS_POS l j) ((p + n) % 32768)).when commit
    fun a => a.segmentCommit l j

theorem State.segmentFed_of_noSlot (h : s.noSegmentStream) (l j p n : Nat) (commit : Bool) (d : Nat → Int) :
    s.segmentFed l j p n commit d = s.set (Lat.LK_RXS_POS l j) ((p + n) % 32768) := by
  have hset : (s.set (Lat.LK_RXS_POS l j) ((p + n) % 32768)).noSegmentStream := fun k hk => by
    rw [State.get_set_ne _ _ (by simp)]
    exact h k hk
  have hsamples : s.each (List.range n) (fun i a => a.ringSample l j ((p + i) % 32768) (d i)) = s := by
    refine State.each_eq_self (fun i => ?_) _
    exact State.ringSample_of_noSlot h l j ((p + i) % 32768) (d i)
  rw [State.segmentFed, hsamples]
  cases commit
  · rfl
  · rw [State.when_true, State.segmentCommit_of_noSlot hset]

/-- The stream of STREAM message `w`. -/
abbrev streamOf (w : Nat) : Nat := bitsOf w 4 2

/-- The number of its samples. -/
abbrev samplesOf (w : Nat) : Nat := bitsOf w 8 4

/-- The tick of its first sample at the sender. -/
abbrev State.sentTick (s : State) (w : Nat) : Nat := extend 40 (bitsOf w 12 40) s.tick

/-- The tick of the first sample in local time, at the latency of the stream. -/
abbrev State.streamTick (s : State) (l w : Nat) : Nat :=
  ((s.sentTick w : Int) + s.thetaTicks l + 8 * s.get (Fld.LK_RXS_CFG_STRM_LAT l (streamOf w))).toNat

/-- What a good STREAM message of class `c` notes. -/
abbrev State.streamNoted (s : State) (l c w : Nat) : List (Key × Nat) :=
  [(Lat.LK_RXS_LOG2 l (streamOf w), c + 1), (Lat.LK_RXS_PH l (streamOf w), s.streamTick l w % 2 ^ c),
    (Lat.LK_RXS_T l (streamOf w), (s.sentTick w + samplesOf w * 2 ^ c) % 2 ^ 64)]

/-- The samples of a STREAM message to a SUM stream, those past left out. -/
abbrev State.sumSamples (s : State) (l c w : Nat) (data : List Nat) : List RxSample :=
  ((List.range (samplesOf w)).map (fun i => (⟨l, streamOf w, s.streamTick l w + i * 2 ^ c, 2 ^ c, (streamSamples (samplesOf w) data).getD i 0⟩ : RxSample))).filter
    (fun x => s.tick < x.start)

theorem State.mem_sumSamples {l c i : Nat} (hi : i < samplesOf w) (ht : s.tick < s.streamTick l w + i * 2 ^ c) :
    (⟨l, streamOf w, s.streamTick l w + i * 2 ^ c, 2 ^ c, sx 16 (bitsOf (data.getD (i / 4) 0) (16 * (i % 4)) 16)⟩ : RxSample) ∈ s.sumSamples l c w data := by
  have hsample : (streamSamples (samplesOf w) data).getD i 0 = sx 16 (bitsOf (data.getD (i / 4) 0) (16 * (i % 4)) 16) := by
    simp [streamSamples, hi]
  refine List.mem_filter.mpr ⟨List.mem_map.mpr ⟨i, List.mem_range.mpr hi, ?_⟩, by simpa using ht⟩
  rw [hsample]

theorem State.streamNoted_lt (s : State) (l : Nat) (c : Fin 32) (w : Nat) : ∀ q ∈ s.streamNoted l c w, q.2 < 2 ^ q.1.w := by
  have hphase : s.streamTick l w % 2 ^ (c : Nat) < 2 ^ 64 :=
    (Nat.mod_lt _ (Nat.two_pow_pos c)).trans_le (Nat.pow_le_pow_right (by decide) (by omega))
  simp only [List.forall_mem_cons]
  exact ⟨by simp; omega, hphase, Nat.mod_lt _ (by decide), List.forall_mem_nil _⟩

theorem State.sets_rxs (s : State) (x : List RxSample) (l : List (Key × Nat)) : ({ s with rxs := x } : State).sets l = { s.sets l with rxs := x } := by
  induction l generalizing s with
  | nil => rfl
  | cons q l ih => exact ih (s.set q.1 q.2)

/-- The tick after the samples is cut to its field. -/
theorem State.streamNoted_eq (s : State) (l c w : Nat) : s.sets (s.streamNoted l c w) =
    s.sets [(Lat.LK_RXS_LOG2 l (streamOf w), c + 1), (Lat.LK_RXS_PH l (streamOf w), s.streamTick l w % 2 ^ c),
      (Lat.LK_RXS_T l (streamOf w), s.sentTick w + samplesOf w * 2 ^ c)] :=
  State.set_mod _ (Lat.LK_RXS_T l (streamOf w)) _

theorem exec_msgStream_idle (h3 : s.linkState l ≠ 3) : exec (.msgStream l c w data) s = .next s := congrArg Host.Outcome.next (if_pos h3)

section
variable (h3 : s.linkState l = 3)
include h3

theorem exec_msgStream_bad (hc : crcBlocks (w % 2 ^ 56 :: data) ≠ bitsOf w 56 8) : exec (.msgStream l c w data) s = .next (s.crcError l) :=
  congrArg Host.Outcome.next ((if_neg (not_not.mpr h3)).trans (if_pos hc))

section
variable (hc : crcBlocks (w % 2 ^ 56 :: data) = bitsOf w 56 8)
include hc

/-- What a good message notes, whatever the stream feeds. -/
theorem exec_msgStream_off (hm : s.get (Fld.LK_RXS_CFG_MODE l (streamOf w)) = 0) :
    exec (.msgStream l c w data) s = .next (s.sets (s.streamNoted l c w)) := by
  rw [s.streamNoted_eq]
  refine congrArg Host.Outcome.next ((if_neg (not_not.mpr h3)).trans ((if_neg (not_not.mpr hc)).trans ?_))
  rw [hm]
  rfl

theorem exec_msgStream_sum (hm : s.get (Fld.LK_RXS_CFG_MODE l (streamOf w)) = 1) : exec (.msgStream l c w data) s = .next
    (({ s with rxs := s.rxs ++ s.sumSamples l c w data } : State).sets (s.streamNoted l c w)) := by
  refine congrArg Host.Outcome.next ((if_neg (not_not.mpr h3)).trans ((if_neg (not_not.mpr hc)).trans ?_))
  rw [hm, State.sets_rxs, s.streamNoted_eq]
  rfl

/-- The position of the first sample of a SEGMENT message: the last of a ring for its COMMIT, else where the stream stands. -/
def State.segmentStart (s : State) (l c w : Nat) : Nat :=
  if w.testBit 6 then (65536 - samplesOf w) % 32768
  else (s.get (Lat.LK_RXS_POS l (streamOf w)) +
    if s.get (Lat.LK_RXS_LOG2 l (streamOf w)) = 0 then 0 else (s.sentTick w - s.get (Lat.LK_RXS_T l (streamOf w))) / 2 ^ c) % 32768

theorem exec_msgStream_segment (hm : s.get (Fld.LK_RXS_CFG_MODE l (streamOf w)) = 2) : exec (.msgStream l c w data) s = .next
    ((s.sets (s.streamNoted l c w)).segmentFed l (streamOf w) (s.segmentStart l c w) (samplesOf w) (w.testBit 6)
      fun i => (streamSamples (samplesOf w) data).getD i 0) := by
  rw [s.streamNoted_eq]
  refine congrArg Host.Outcome.next ((if_neg (not_not.mpr h3)).trans ((if_neg (not_not.mpr hc)).trans ?_))
  rw [hm]
  rfl

/-- A COMMIT that no slot takes leaves the stream at the start of a ring. -/
theorem exec_msgStream_commit (hm : s.get (Fld.LK_RXS_CFG_MODE l (streamOf w)) = 2) (hw : w.testBit 6 = true) (hs : s.noSegmentStream) :
    exec (.msgStream l c w data) s = .next (s.sets (s.streamNoted l c w ++ [(Lat.LK_RXS_POS l (streamOf w), 0)])) := by
  have hn : samplesOf w < 2 ^ 4 := bitsOf_lt w 8 4
  have hend : ((65536 - samplesOf w) % 32768 + samplesOf w) % 32768 = 0 := by omega
  have hslots : (s.sets (s.streamNoted l c w)).noSegmentStream := fun k hk => by
    rw [State.get_sets_of_not_named _ _ _ (by simp [named])]
    exact hs k hk
  rw [exec_msgStream_segment h3 hc hm, State.segmentFed_of_noSlot hslots, State.segmentStart, if_pos hw, hend]
  rfl

end

end

end

/-! ### Management messages (R350, R398) -/

section
variable {s : State} {l : Fin 16} {data : List (BitVec 8)}

/-- A link that is not trained carries none but boot transfer, on link 0. -/
theorem exec_msgMgmt_closed {k : Fin 4} (h : s.linkState l = 0 ∨ 5 ≤ s.linkState l) (hk : k ≠ 3 ∨ l ≠ 0) : exec (.msgMgmt l k data) s = .next s :=
  congrArg Host.Outcome.next (if_pos ⟨by omega, fun ⟨hl, hk'⟩ => hk.elim (· hk') (· hl)⟩)

section
variable (h1 : 1 ≤ s.linkState l) (h4 : s.linkState l ≤ 4)
include h1 h4

theorem exec_msgMgmt_identity (ht : s.linkState l = 1) :
    exec (.msgMgmt l 0 data) s = .next (s.sets [(Fld.LK_STATUS_PARTNER_DEV l, (data.headD 0).toNat % 2 ^ (Fld.LK_STATUS_PARTNER_DEV l).w)]) := by
  refine congrArg Host.Outcome.next ((if_neg fun h => h.1 ⟨h1, h4⟩).trans ((if_pos ht).trans ?_))
  exact (s.set_mod (Fld.LK_STATUS_PARTNER_DEV l) _).symm

theorem exec_msgMgmt_identity_late (ht : s.linkState l ≠ 1) : exec (.msgMgmt l 0 data) s = .next s :=
  congrArg Host.Outcome.next ((if_neg fun h => h.1 ⟨h1, h4⟩).trans (if_neg ht))

theorem exec_msgMgmt_handshake : exec (.msgMgmt l 1 data) s = .next s := congrArg Host.Outcome.next (if_neg fun h => h.1 ⟨h1, h4⟩)

theorem exec_msgMgmt_mailbox : exec (.msgMgmt l 2 data) s = .next (s.emit (.core (l / 2) (256 + (data.headD 0).toNat))) :=
  congrArg Host.Outcome.next (if_neg fun h => h.1 ⟨h1, h4⟩)

end

theorem exec_msgMgmt_boot (h : s.get Fld.AON_PWR_STATUS_STATE = 4) : exec (.msgMgmt 0 3 data) s = .next { s with bootRx := s.bootRx ++ data } :=
  congrArg Host.Outcome.next ((if_neg fun h => h.2 ⟨rfl, rfl⟩).trans (if_pos ⟨rfl, h⟩))

end

/-! ### Events sent (R351, R353, R360, R361) -/

section
variable {s : State} {l : Fin 16} {m : Fin 8} {x : Trigger}

/-- Where a producer's edges go depends on the matrix array alone (R306). -/
theorem State.edgesSent_sets {p : Nat} {o : Option Nat} (w : List (Key × Nat)) (hw : ∀ q ∈ w, q.1.r ≠ .EV_MATRIX) :
    (s.sets w).edgesSent p o = (s.edgesSent p o).sets w := by
  induction w generalizing s with
  | nil => rfl
  | cons q w ih =>
    obtain ⟨hq, hw⟩ := List.forall_mem_cons.mp hw
    rw [State.sets_cons, ih hw, State.edgesSent_set _ hq]
    rfl

/-- What a dropped event of link `l` writes. -/
abbrev State.eventDropped (s : State) (l : Nat) : List (Key × Nat) :=
  [(Fld.LK_CNT_EV_DROP l, min (s.get (Fld.LK_CNT_EV_DROP l) + 1) (2 ^ (Fld.LK_CNT_EV_DROP l).w - 1)), (Fld.LK_EVT_EV_DROP l, 1)]

/-- The queue of link `l` takes an event: the link is in UP and fewer than 32 events wait. -/
abbrev State.eventTaken (s : State) (l : Nat) : Prop := s.linkState l = 3 ∧ (s.txq.filter (fun y => y.1 == l)).length < 32

/-- The tick that ECHO gives the local producer's pulse. -/
abbrev State.echoTick (s : State) (x : Trigger) : Nat := x.s.getD 0 + 8 * s.get Fld.LK_STUDIO_EV_LAT

section
variable (hx : s.waiting (256 + 8 * l + m) true = some x)
include hx

theorem exec_remoteEventSend_queued (he : s.is (Fld.LK_TXEV_ECHO l m) = false) (ht : s.eventTaken l) : exec (.remoteEventSend l m) s =
    .next { s.triggerTaken x with txq := s.txq ++ [((l : Nat), (m : Nat), x.s.getD 0, x.unref)] } := by
  change execRemoteEventSend l m s = _
  rw [execRemoteEventSend, State.onTask_waiting hx]
  exact congrArg Host.Outcome.next ((if_neg (Bool.eq_false_iff.mp he)).trans (if_pos ht))

section
variable (ht : ¬s.eventTaken l)
include ht

theorem exec_remoteEventSend_dropped (he : s.is (Fld.LK_TXEV_ECHO l m) = false) :
    exec (.remoteEventSend l m) s = .next ((s.triggerTaken x).sets (s.eventDropped l)) := by
  change execRemoteEventSend l m s = _
  rw [execRemoteEventSend, State.onTask_waiting hx]
  exact congrArg Host.Outcome.next ((if_neg (Bool.eq_false_iff.mp he)).trans (if_neg ht))

theorem exec_remoteEventSend_echoed (he : s.is (Fld.LK_TXEV_ECHO l m) = true) (ha : s.asleep = false) : exec (.remoteEventSend l m) s =
    .next (((s.triggerTaken x).edgesSent (272 + 8 * l + m) (some (s.echoTick x))).sets (s.eventDropped l)) := by
  have hawake : ((s.triggerTaken x).sets (s.eventDropped l)).asleep = false := by
    rw [State.asleep, State.get_sets_of_not_named _ _ _ (by simp [named])]
    exact ha
  change execRemoteEventSend l m s = _
  rw [execRemoteEventSend, State.onTask_waiting hx]
  refine congrArg Host.Outcome.next ((if_pos he).trans ((congrArg (State.pulse · _ _) (if_neg ht)).trans ?_))
  exact (State.pulse_sends (producerReserved_link l m.isLt) (.inl hawake)).trans (State.edgesSent_sets _ (by simp))

end

end

end

/-- Settles O48: in the case its clause names each command keeps the state or is a run of writes with what it sends, queues or pulses. -/
theorem linkFramesAndMessages : Obligations.LinkFramesAndMessages := by
  refine ⟨fun l s => ⟨exec_linkFrameTx_quiet, fun h0 hn h1 h4 hx hh => ⟨linkFrameTx_does_header h0 hn h1 h4 hx hh, fun m =>
      linkFrameTx_does_event h0 hn h1 h4 hx hh⟩⟩,
    fun l w0 w1 w2 s => ⟨exec_msgTime_idle, fun hst hc => Gives.of_crcError (exec_msgTime_bad hst hc),
      fun hst hc => ⟨exec_msgTime_unmatched hst hc, msgTime_gives_exchange hst hc⟩, exec_msgEvent_idle,
      fun h3 hc => Gives.of_crcError (exec_msgEvent_bad h3 hc), fun h3 hc ha => ?event⟩,
    fun l c w data s => ⟨exec_msgStream_idle, fun h3 hc => Gives.of_crcError (exec_msgStream_bad h3 hc), fun h3 hc => ⟨fun hm => ?off, fun hm => ?sum,
      fun hm hw hs => ?commit⟩⟩,
    fun l k data s => ⟨exec_msgMgmt_closed, fun h1 h4 => ⟨fun ht => ?identity, exec_msgMgmt_identity_late h1 h4, exec_msgMgmt_handshake h1 h4, ?mailbox⟩,
      fun h => ?boot⟩,
    fun l m s x hx => ⟨fun he h3 hq => ?queued, fun he ht => ?dropped, fun he h3 ha => ?echoed⟩⟩
  case event => exact Does.of_parts (l := []) (exec_msgEvent_pulses h3 hc ha) (by simp) (by simp) (s.edgesSent_frame _ _) rfl
  case off => exact Gives.of_sets (exec_msgStream_off h3 hc hm) (by simp) (s.streamNoted_lt l c w)
  case sum =>
    exact Does.of_parts (exec_msgStream_sum h3 hc hm) (by simp) (s.streamNoted_lt l c w) (Frame.on_rxs rfl (Frame.refl _ _ _))
      fun i hi ht => by
        rw [State.sets_rxs]
        exact List.mem_append_right _ (State.mem_sumSamples hi ht)
  case commit =>
    exact Gives.of_sets (exec_msgStream_commit h3 hc hm hw hs) (by simp) (List.forall_mem_append.mpr ⟨s.streamNoted_lt l c w, by simp⟩)
  case identity => exact Gives.of_sets (exec_msgMgmt_identity h1 h4 ht) (by simp) (by simpa using Nat.mod_lt _ (by decide))
  case mailbox => exact Does.of_parts (l := []) (exec_msgMgmt_mailbox h1 h4) (by simp) (by simp) (Frame.on_out rfl (Frame.refl _ _ _)) rfl
  case boot => exact Does.of_parts (l := []) (exec_msgMgmt_boot h) (by simp) (by simp) (Frame.on_bootRx rfl (Frame.refl _ _ _)) rfl
  case queued =>
    exact Does.of_parts (l := []) (exec_remoteEventSend_queued hx he ⟨h3, hq⟩) (by simp) (by simp) (Frame.on_txq rfl (Frame.on_triggers rfl (Frame.refl _ _ _)))
      ⟨rfl, rfl⟩
  case dropped =>
    refine Does.of_parts (exec_remoteEventSend_dropped hx (fun t => ?_) he) (by simp) (by simp) (s.triggerTaken_frame x) rfl
    omega
  case echoed =>
    exact Does.of_parts (exec_remoteEventSend_echoed hx (fun t => h3 t.1) he ha) (by simp) (by simp)
      (Frame.on_edges rfl (Frame.on_triggers rfl (Frame.refl _ _ _))) ⟨rfl, rfl⟩

end Sys2Proof.Machine
end
